-- ==== Sys2Proof/Word.lean ====
section
/-! DEFINITION. The word types of Voxbin's registers and memory structures (R8) and their plainest arithmetic. -/

namespace Sys2Proof

/-- A 64-bit register or memory qword (R8). -/
abbrev Word := BitVec 64

/-- A 32-bit field: an index of R55, a TAG, an event handle. -/
abbrev Half := BitVec 32

/-- One byte of a memory structure. -/
abbrev Byte := BitVec 8

/-- Field NAME[lo+w-1:lo] of a qword, as a number. -/
def fld (v : Word) (lo w : Nat) : Nat := (v.toNat >>> lo) % 2 ^ w

/-- Bit `i` of a qword. -/
def bitOf (v : Word) (i : Nat) : Bool := v.getLsbD i

/-- The one-bit number of a flag. -/
def b2n (b : Bool) : Nat := if b then 1 else 0

/-- A register value put together from fields (lowest bit, width, value); each value is cut to its width. -/
def packFields : List (Nat × Nat × Nat) → Nat
  | [] => 0
  | (lo, w, x) :: r => (x % 2 ^ w) <<< lo ||| packFields r

/-- A register value put together from fields. -/
def mkWord (fs : List (Nat × Nat × Nat)) : Word := BitVec.ofNat 64 (packFields fs)

/-- Adding to a saturating counter whose greatest value is `m`. -/
def satAdd (m x k : Nat) : Nat := min m (x + k)

/-- The signed number a 16-bit field holds. -/
def sx16 (n : Nat) : Int := (BitVec.ofNat 16 n).toInt

/-- The 16-bit field that holds a signed number. -/
def to16 (i : Int) : Nat := (BitVec.ofInt 16 i).toNat

/-- `l` with item `i` replaced through `f`; an index beyond the list changes nothing. -/
def modAt {α : Type} (l : List α) (i : Nat) (f : α → α) : List α :=
  match l, i with
  | [], _ => []
  | a :: r, 0 => f a :: r
  | a :: r, i + 1 => a :: modAt r i f

/-- Item `i` of a list, or the default. -/
def nth {α : Type} (l : List α) (i : Nat) (d : α) : α := (l[i]?).getD d

/-- A sparse table: entries in strictly rising key order. -/
abbrev Tab (α : Type) := List (Nat × α)

/-- The entry of a key, if any. -/
def Tab.get? {α : Type} (t : Tab α) (k : Nat) : Option α :=
  match t with
  | [] => none
  | (j, a) :: r => if j = k then some a else Tab.get? r k

/-- The table with `k` holding `a`, in key order. -/
def Tab.set {α : Type} (t : Tab α) (k : Nat) (a : α) : Tab α :=
  match t with
  | [] => [(k, a)]
  | (j, b) :: r =>
    if j = k then (k, a) :: r
    else if k < j then (k, a) :: (j, b) :: r
    else (j, b) :: Tab.set r k a

/-- The table without key `k`. -/
def Tab.erase {α : Type} (t : Tab α) (k : Nat) : Tab α := t.filter (fun e => e.1 ≠ k)

/-- The entry of a key, or the value an unlisted key has. -/
def Tab.getD {α : Type} (t : Tab α) (k : Nat) (d : α) : α := (Tab.get? t k).getD d

/-- The table with the entry of `k` changed by `f`; no entry, no change. -/
def Tab.upd {α : Type} (t : Tab α) (k : Nat) (f : α → α) : Tab α :=
  t.map (fun e => if e.1 = k then (e.1, f e.2) else e)

/-- Every entry changed by `f`. -/
def Tab.mapV {α : Type} (t : Tab α) (f : α → α) : Tab α := t.map (fun e => (e.1, f e.2))

/-- The lowest key from `lo` up to `hi - 1` that the table does not hold. -/
def Tab.lowestFree {α : Type} (t : Tab α) (lo hi : Nat) : Option Nat :=
  ((List.range (hi - lo)).map (· + lo)).find? (fun k => (Tab.get? t k).isNone)

/-- The number of entries that satisfy `p`. -/
def Tab.countV {α : Type} (t : Tab α) (p : α → Bool) : Nat := (t.filter (fun e => p e.2)).length

end Sys2Proof
end

