-- ==== Sys2Proof/Syntax.lean ====
section
/-! DEFINITION. The commands Voxbin takes at its boundary: one constructor per row of spec/opcode_table.json, with the
operands the row's rules name. `t` is the fabric time, in ns, at which the happening occurs (R13, R147). Data that a
partner delivers (read data, done records, samples, messages) stands in the operands; Voxbin's own choices do not. -/

namespace Sys2Proof

/-- Who makes a register access: a function through the host target, or the management port (R465). -/
inductive Who where
  | fn (n : Nat)
  | mgmt
  deriving DecidableEq, Repr

/-- A register window (Tables 16-1 and 16-2): the function window of `n`, or the global window. -/
inductive Window where
  | own (n : Nat)
  | glob
  deriving DecidableEq, Repr

/-- The engine classes of Table 03-3 that have engines. -/
inductive Cls where
  | cores | tiler | dma | comp | link | gate
  deriving DecidableEq, Repr

/-- The value of CLASS (Table 03-3). -/
def Cls.code (c : Cls) : Nat :=
  match c with
  | .cores => 1 | .tiler => 2 | .dma => 3 | .comp => 4 | .link => 5 | .gate => 6

/-- The place of a class in the counters of Table 13-1: cores, tiler, DMA, composition, link, weight gate. -/
def Cls.idx (c : Cls) : Nat := c.code - 1

/-- The operations of a _CTL_ channel (Table 01-8), with the trim of Table 07-3. -/
inductive CtlOp where
  | drain | squash | yield | clean | scrub | stop | trim
  deriving DecidableEq, Repr

/-- Which of the writes of a retirement faults or is refused (R90), if any. With an administrative command `entry` is F0's
completion entry, `piShadow` the reflected copy, and `seqWord` the write that the command itself makes: the sequence word of
CREATE_SQ, the PI_SHADOW of CREATE_CR. -/
inductive WriteFault where
  | none | entry | piShadow | seqWord
  deriving DecidableEq, Repr

/-- What the memory cipher reports to be gone: the requests of a context or an SQ, the lines and requests of a function, the requests
of a tenant, or what the ways of a move or of a removal held (Tables 09-5 and 09-7), by their partition, 8 where no partition owned them. -/
inductive CipherScope where
  | ctx | sq | fn | tenant | ways
  deriving DecidableEq, Repr

/-- What a table error hits (Table 08-7), for its resolution at Table 08-6 step 5: an entry of a function, or context `c` of function `n`,
and so on. -/
inductive TabErr where
  | fn (n : Nat) | ctx (n c : Nat) | flight (f : Nat) | event (i : Nat) | sem (i : Nat) | free
  deriving DecidableEq, Repr

/-- The request that a read served, for its attribution (R26, R261). `tdWrite` is no read: it tells that a write which a teardown
makes for an SQ, or (from 4096 on) for the admin CR of a function, will fault (R90). -/
inductive ReadTag where
  | engine (cls : Cls) (peng tag : Nat) -- an engine's own request, for the launch with this TAG
  | entryFetch (sq : Nat)              -- SQ entries
  | adminFetch                         -- entries of F0's admin SQ
  | buffer (f : Nat) (off : Nat)       -- a command-buffer block at a byte offset
  | taskState (f : Nat)                -- a preload or remainder read
  | hint (f : Nat)                     -- a PRELOAD_HINT read
  | cmdData (f : Nat)                  -- a read that a command of submission f makes
  | watch (f : Nat)                    -- the range of a watch of submission f
  | mbox (fn : Nat)                    -- a request buffer of a mailbox (R331)
  | segment (xfer i : Nat)             -- segment i of a LINK_PUT of this node (R365)
  | response (src xfer i : Nat)        -- segment i of a LINK_GET of another node (R365)
  | launchArea | graphBuffer
  | brumation (es : List TabErr)       -- a line of the spilled tables, with the entries it holds (R262)
  | tdWrite (sq : Nat) (w : WriteFault)
  deriving DecidableEq, Repr

/-- How a host-memory read ends: its data, or an error completion (R26). -/
inductive ReadResult where
  | ok (data : List Word)
  | error
  deriving DecidableEq, Repr

/-- A node of a version tree as a channel holds it: eight counters and the MAC (R320). -/
structure TreeNode where
  ctrs : List (BitVec 56)
  mac : Word
  deriving DecidableEq, Repr

/-- A data line as a channel delivers it: its four blocks of ciphertext, its MAC, and the nodes of its path that were fetched with
it, from the leaf up; the levels above them are cached in the cipher, or are the root (R320 to R322). -/
structure MemLine where
  text : List (BitVec 128)
  mac : Word
  nodes : List TreeNode
  deriving DecidableEq, Repr

/-- What a channel answers to a read: the lines that hold the `bytes` from an offset of a partition on (8 is the Voxbin region), in
order, or data with the error flag (R261). -/
inductive MemResult where
  | lines (part offset bytes : Nat) (ls : List MemLine)
  | errorFlag
  deriving DecidableEq, Repr

/-- How host loss showed itself (Table 08-10, HOST_LOSS). -/
inductive LossCause where
  | linkDown | presentFell | clockLost
  deriving DecidableEq, Repr

/-- A write of a mask of MSI-X (R390): the function mask of a function, or the mask of its vector. -/
structure MsixMask where
  fnMask : Bool
  masked : Bool
  deriving DecidableEq, Repr

/-- The RSTACT actions of R35. -/
inductive RstAct where
  | peripheral | wholeTarget | noReset
  deriving DecidableEq, Repr

/-- What a write acknowledgement covers (R30): a write of Voxbin's own that nothing waits for, a line of a partition (8 is the Voxbin
region) that holds the eight words after the write, which an engine made, named by class, number and TAG, or Voxbin where none is named
(R317 to R320, R323), the last of the writes that clean the ways of a move (Table 09-5), the oldest segment not acknowledged yet that a
LINK_GET of this node, or an inbound LINK_PUT, has written here (Table 11-6), or the last of a function's writes through the host
target so far (R136). -/
inductive WriteOf where
  | own
  | line (engine : Option (Cls × Nat × Nat)) (part line : Nat) (data : List Word)
  | wayClean
  | response (xfer : Nat)
  | inbound (src xfer : Nat)
  | hostTarget (fn : Nat)
  deriving DecidableEq, Repr

/-- A point of the price table (R209). -/
structure PricePoint where
  headroom : Int
  price : Nat
  ceil : Nat
  deriving DecidableEq, Repr

/-- A slot entry of a cyclic table (Table 05-4). -/
structure Slot where
  offset : Nat
  length : Nat
  part : Nat
  ctx : Nat
  cores : Nat
  lend : Bool
  policy : Nat
  dlEn : Bool
  engines : Nat
  minMhz : Nat
  allowUj : Nat
  dlEvent : Half
  deriving DecidableEq, Repr

/-- A cyclic table (Table 05-3 and its slots). -/
structure CycTable where
  period : Nat
  anchor : Nat
  vsyncTol : Nat
  margin : Nat
  startAt : Nat
  slots : List Slot
  deriving DecidableEq, Repr

/-- A context record of the plinth's CYCLIC section (Table 15-3). -/
structure CycCtxRec where
  ctx : Nat
  fn : Nat
  share : Nat
  flags : Nat
  deriving DecidableEq, Repr

/-- A partition default of the plinth (Table 15-3, PARTITIONS). -/
structure PartDef where
  cores : BitVec 48
  ways : BitVec 16
  channels : BitVec 8
  deriving DecidableEq, Repr

/-- A node of the thermal model (Table 15-3, MODEL), coefficients as the 16.16 and 8.8 numbers of the section. -/
structure ThermNode where
  place : Nat
  c : Nat
  gAmb : Nat
  lGain : Nat
  neigh : List (Nat × Nat)
  deriving DecidableEq, Repr

/-- A match entry or a routine entry of a control-store image (Table 14-10), as its qword. -/
abbrev ImgEntry := Word

/-- A control-store image (R446), parsed into its parts. `sigOk` is the outcome of its signature check, `rsvBad`
the first byte of the header that is reserved and not zero. -/
structure McsImage where
  magic : Nat
  format : Nat
  romVer : Nat
  setVer : Nat
  rsvBad : Option Nat
  entries : List ImgEntry
  words : List (BitVec 128)
  sigOk : Bool
  digest : BitVec 384
  deriving DecidableEq, Repr

/-- The fuses read in step 1 of a cold start (Table 15-5). -/
structure Fuses where
  grade : Nat
  rev : Nat
  features : Half
  coresOff : BitVec 48
  tilers : BitVec 2
  dmas : BitVec 4
  links : BitVec 4
  soc : Bool
  romVer : Nat
  keyFuseBlank : Bool
  idCode : Half
  deriving DecidableEq, Repr

/-- The set bits of a mask below `n`. -/
def maskCount (n m : Nat) : Nat := ((List.range n).filter (fun i => m.testBit i)).length

/-- The fuses are those of a grade of Table 00-1: its cores in each cluster, its tilers and link ports, and the four DMA engines that
every grade has. -/
def Fuses.graded (f : Fuses) : Bool :=
  let cores (n : Nat) : Bool := (List.range 4).all (fun c => maskCount 12 (f.coresOff.toNat >>> (12 * c)) == 12 - n)
  f.dmas == 0b1111 &&
    match f.grade with
    | 0 => cores 12 && f.tilers == 0b11 && f.links == 0b1111
    | 1 => cores 10 && f.tilers == 0b11 && f.links == 0b0011
    | 2 => cores 8 && maskCount 2 f.tilers.toNat == 1 && f.links == 0b0011
    | _ => false

/-- The configuration of a plinth image, section by section (R452), as Voxbin retains it (R462). -/
structure Plinth where
  version : Nat
  imageLen : Nat
  digest : BitVec 384
  idChain : List Byte := []
  owners : Nat
  customerEn : Bool
  peersListed : Bool
  tmlCfg : Word
  timeCal : Half
  epochCfg : Word
  apertureBase : Word
  log2c : Nat
  launchArea : Nat
  graphArea : Nat
  brumArea : Nat
  uncoreBaseMw : Nat
  parts : List PartDef
  fns : List (Nat × Bool)
  vf : List (Nat × Nat)
  capSust : Nat
  capPeak : Nat
  rtMaxPct : Nat
  profile : Nat
  thresh : Nat
  limitMaxC : Nat
  price : List PricePoint
  be : List Nat
  coeffs : List Nat
  tAmb : Int
  nodes : List ThermNode
  cycEn : Bool
  cycCtxs : List CycCtxRec
  cycTable : Option CycTable
  patina : Option McsImage
  customer : Option McsImage
  capCores : BitVec 48
  capEngines : Half
  capFeatures : Word
  slotSize : Nat
  i3cStatic : Nat
  wholeReset : Bool
  ssEn : List Word
  deriving DecidableEq, Repr

/-- The outcomes of the checks of a cold start that rest on digests, signatures and the noise source: SIGNER against the plinth key
fuse, the signatures of the image and of its two control-store images, the IDENTITY leaf, the entropy tests; and the
three digests, their first byte in the lowest bits. All other checks are computed from the bytes. -/
structure StartChecks where
  signerOk : Bool
  sigOk : Bool
  identityOk : Bool
  entropyOk : Bool
  patinaSigOk : Bool
  customerSigOk : Bool
  digest : BitVec 384
  patinaDigest : BitVec 384
  customerDigest : BitVec 384
  deriving DecidableEq, Repr

/-- What a read of an event at its remote home brings back (R136, R437). -/
inductive RemoteVal where
  | value (v : Word) (abandoned : Bool)
  | unbound
  | lost
  deriving DecidableEq, Repr

/-- A load request of Table 14-11. -/
inductive LoadReq where
  | begin (kind total : Nat)
  | data (off : Nat) (bytes : List Byte)
  | commit (sigOk : Bool) (digest : BitVec 384)
  | abort
  deriving DecidableEq, Repr

/-- A vendor-defined request in the management session (R345). -/
inductive MgmtReq where
  | regRead (win : Window) (off bytes : Nat)
  | regWrite (win : Window) (off bytes : Nat) (v : Word)
  | load (r : LoadReq)
  deriving DecidableEq, Repr

/-- Which consumer index a write names (R69). -/
inductive CiTarget where
  | cr (fn slot : Nat)
  | admin (fn : Nat)
  | traceFn (fn : Nat)
  | traceRing (r : Nat)
  deriving DecidableEq, Repr

/-- Where an administrative command comes from: an accepted entry of F0's admin SQ by its index, or, for SET_CYCLIC, the
management port (Table 02-8). -/
inductive AdmSrc where
  | queue (idx : Nat)
  | mgmt (slots : Nat)
  deriving DecidableEq, Repr

/-- Who sends an SPDM message: a function through its mailbox (R331) or the management controller (R344). -/
inductive SpdmPeer where
  | host (fn : Nat)
  | mgmt
  deriving DecidableEq, Repr

/-- An SPDM error answer: those a rule names (R310, R331, R332), one for a request that its requester may not make (Table 10-6),
and one for a refusal whose code no rule names (R344). -/
inductive SpdmErr where
  | busy | unexpectedRequest | invalidRequest | refused
  deriving DecidableEq, Repr

/-- The capabilities of the SPDM responder (R330). -/
inductive SpdmCap where
  | cert | chal | measSigned | encrypt | mac | keyEx | mutAuth | keyUpd
  deriving DecidableEq, Repr

/-- Its algorithms (R330). -/
inductive SpdmAlg where
  | ecdsaP384 | sha384 | secp384r1 | aes256Gcm | spdmKeySchedule
  deriving DecidableEq, Repr

/-- The answers to the SPDM requests (R330, Table 10-7): the version, the capabilities with CTExponent, the algorithms, the digest and the
chain of certificate slot 0, the measurements asked for, by index, or how many there are, with the signatures over them, the ephemeral
public keys, and the measurement summary that a session is bound to. -/
inductive SpdmAns where
  | version (major minor : Nat)
  | capabilities (caps : List SpdmCap) (ctExponent : Nat)
  | algorithms (algs : List SpdmAlg)
  | digests (slot : Nat) (digest : BitVec 384)
  | certificate (slot : Nat) (chain : List Byte)
  | challengeAuth (digest summary : BitVec 384) (sig : BitVec 768)
  | measurements (values : List (Nat × List Nat)) (sig : BitVec 768)
  | measurementCount (n : Nat)
  | keyExchange (pub : BitVec 776) (summary : BitVec 384) (sig : BitVec 768)
  | finish | keyUpdateAck | endSessionAck
  | wrapKey (pub : BitVec 776)
  | delivered (result slot : Nat)
  | error (e : SpdmErr)
  deriving DecidableEq, Repr

/-- What a DELIVER_KEY carries beside MODEL_ID and POLICY (Table 10-7): the server's ephemeral public key, and WRAPPED. -/
structure WrapIn where
  pub : BitVec 776
  wrapped : BitVec 320
  deriving DecidableEq, Repr

/-- A random and an ephemeral public key of a handshake (Table 10-10 step 2). -/
structure Hello where
  rand : BitVec 256
  pub : BitVec 776
  deriving DecidableEq, Repr

/-- A LINK_HELLO that comes to a port. -/
structure HelloIn extends Hello where
  port : Nat
  deriving DecidableEq, Repr

/-- What the steps of Table 10-10 send: HELLO with its random, public key and certificate chain, and PROOF with its signature. -/
inductive KexMsg where
  | hello (rand : BitVec 256) (pub : BitVec 776) (chain : List Byte)
  | proof (sig : BitVec 768)
  deriving DecidableEq, Repr

/-- What KEY carries beside its tenant (R341): the epoch, the members (log entry 177), and the key, wrapped under a node key. -/
structure KeyMsg where
  epoch : Nat
  members : BitVec 16
  wrapped : BitVec 320
  deriving DecidableEq, Repr

/-- What EPOCH carries beside its start: the period, and, where it announces a tenant's new key (R341), the tenant and its epoch. -/
structure EpochMsg where
  period : Nat
  key : Option (Nat × Nat) := none
  deriving DecidableEq, Repr

/-- What a TRAIN frame says of the peer (R359). -/
structure TrainInfo where
  fabricId : Half
  topo : Nat
  xdim : Nat
  ydim : Nat
  node : Nat
  port : Nat
  leadNode : Nat
  hasLead : Bool
  credits : Nat
  features : Half
  protection : Bool
  lanes : Nat
  rate : Nat
  deriving DecidableEq, Repr

/-- The segment descriptor that a frame carries (Table 11-4): transfer, segment, tenant, epoch parity, the counter of the segment's IV,
frame, whether it is the last, and the segment's tag. -/
structure SegDesc where
  xfer : Nat
  seg : Nat
  ft : Nat
  ep : Nat
  iv : Nat
  frame : Nat := 0
  last : Bool := false
  tag : BitVec 128 := 0
  deriving DecidableEq, Repr

/-- A frame on a link (R350, Tables 11-2 to 11-4): TYPE, DEST, SRC, CLASS, VC, the body flits, CTR, ACK, NAK, CREDIT, SEG and LINK_TAG. -/
structure FrameIn where
  typ : Nat := 0
  dest : Nat := 0
  src : Nat := 0
  cls : Nat := 0
  vc : Nat := 0
  text : List (BitVec 512) := []
  ctr : Nat := 0
  ack : Nat := 0
  nak : Bool := false
  credit : List Nat := []
  seg : Option SegDesc := none
  tag : BitVec 128 := 0
  deriving DecidableEq, Repr

/-- The live map of a LEAD message (R377): live nodes and the up ports of each. -/
structure LiveMap where
  live : BitVec 16
  up : Word
  deriving DecidableEq, Repr

/-- What an ACK acknowledges (R369): the number of a message between the two nodes, or, with `flood`, of a broadcast of the node that it
goes to (log 180). -/
structure AckRef where
  seq : Nat
  flood : Bool := false
  deriving DecidableEq, Repr

/-- A message's own number, and the number of the message or of the transfer that it answers. -/
structure MsgRef where
  seq : Nat
  ref : Nat
  deriving DecidableEq, Repr

/-- A control message between nodes (Table 11-7), with the fields the model's rules read. -/
inductive Msg where
  | record (handle : Half) (mode : Nat) (value : Word) (rec : Option (Nat × Nat))
  | waitReg (handle : Half) (target : Word)
  | release (handle : Half) (value : Word)
  | waitDrop (handle : Half)
  | semAcq (index count ctx : Nat)
  | semGrant (index count : Nat)
  | semRel (index count ctx : Nat)
  | refuse (seq reason : Nat) (handle : Half)
  | ack (r : AckRef)
  | opens (xfer : Nat) (get : Bool) (ft : Nat) (remote : Word) (len : Nat)
  | report (xfer : Nat)
  | squash (xfer : Nat)
  | squashAck (xfer : Nat)
  | credit (count : Nat) (resp : Option Nat)
  | heartbeat (lead digest : Nat)
  | lost (node : Nat) (port ctx : Option Nat)
  | lead (live : BitVec 16) (up : Word) (deputy : Option Nat)
  | joinReq (fabricId : Half) (position : Nat)
  | joinGrant (fabricId : Half) (node : Nat)
  | epoch (start : Nat) (e : EpochMsg)
  | atMsg (time action : Nat)
  | leave (node : Nat)
  | key (ft : Nat) (k : KeyMsg)
  | nodeKex (m : KexMsg)
  deriving DecidableEq, Repr

/-- A message that the receiver acknowledges, or refuses, and that the sender therefore keeps (R369): all but acknowledgements. -/
def Msg.kept (m : Msg) : Bool :=
  match m with
  | .ack _ => false
  | _ => true

/-- Kinds of teardown sequence (ERR_TEARDOWN.KIND), in the order of their codes from 1. -/
inductive TdKind where
  | autotomy | destroySq | flr | removal | hostLoss | halted
  deriving DecidableEq, Repr

/-- The code of a teardown kind. -/
def TdKind.code (k : TdKind) : Nat :=
  match k with
  | .autotomy => 1 | .destroySq => 2 | .flr => 3 | .removal => 4 | .hostLoss => 5 | .halted => 6

/-- What a partner brings to a handshake: the 8 bytes of an MRD, or none where its read faults or is refused; the value at a
remote home of an EVRD; whether the partner of a PROBE is ready. -/
inductive MicroIn where
  | none
  | mem (v : Option Word)
  | event (v : RemoteVal)
  | ready (b : Bool)
  deriving DecidableEq, Repr

/-- What seals a segment (R341, R351): the parity of its key's epoch, its IV and its tag. -/
structure SegSeal where
  ep : Nat
  iv : Nat
  tag : BitVec 128
  deriving DecidableEq, Repr

/-- What TILE_WALK reads beside the lists (Table 03-20): the BIN's result block and the template; one whose read faults is none. -/
structure TileBlocks where
  result : Option (List Word)
  template : Option (List Word)
  deriving DecidableEq, Repr

/-- A write of EV_FN_RECORD (R136): its value, and whether an earlier host-target write of the function is not yet acknowledged. -/
structure FnRecord where
  v : Word
  behind : Bool
  deriving DecidableEq, Repr

/-- What LOST tells of a node (R131, R379): one of its ports, one of its contexts, or, with neither, the node itself. -/
structure LostPart where
  port : Option Nat
  ctx : Option Nat
  deriving DecidableEq, Repr

/-- The commands, one constructor per row of the table of operations. -/
inductive Instr where
  -- registers, host, memory and engine channels (chapter 01)
  | registerWrite (t : Nat) (who : Who) (win : Window) (off bytes : Nat) (v : Word)
  | clockLost (t : Nat) (d : Nat)
  | hostLoss (t : Nat) (cause : LossCause)
  | hostLinkReturn (t : Nat) (width speed : Nat)
  | hostReadCompletion (t : Nat) (r : ReadTag) (res : ReadResult)
  | completionTimeout (t : Nat) (r : ReadTag)
  | memoryWriteAck (t : Nat) (w : WriteOf)
  | memoryReadData (t : Nat) (r : ReadTag) (res : MemResult)
  | launchAck (t : Nat) (cls : Cls) (peng : Nat)
  | ctlAck (t : Nat) (cls : Cls) (peng : Nat) (op : CtlOp)
  | engineDone (t : Nat) (cls : Cls) (peng tag status : Nat) (refused noneLeft : Bool) (next engineNs : Nat)
  | i3cEntdaa (t : Nat) (addr : Nat)
  | i3cSetdasa (t : Nat) (static addr : Nat)
  | i3cRstact (t : Nat) (act : RstAct)
  | i3cTargetReset (t : Nat)
  | mgmtVendorRequest (t : Nat) (req : MgmtReq)
  | sagLineRise (t : Nat) (line : Nat)
  | stretchRelease (t : Nat) (group : Nat)
  | meterSample (t : Nat) (meter nj : Nat)
  | thermalEvaluation (t : Nat) (samples : List (Option Int))
  | priceUpdate (t : Nat)
  | vfChangeComplete (t : Nat) (cluster : Nat)
  | coldReset (t : Nat) (f : Fuses) (mem : BitVec 8) (sfdpOk : Bool) (modes : List (Nat × Nat)) (hostPresent : Bool)
  | plinthReadComplete (t : Nat) (image : List Byte) (c : StartChecks)
  | warmReset (t : Nat) (i3c : Bool)
  | hostReset (t : Nat)
  | debugPortReset (t : Nat)
  | dinEdge (t : Nat) (n : Nat) (pin : Bool)
  | dinStuck (t : Nat) (n : Nat)
  | dinPendClear (t : Nat) (who : Who) (n : Nat)
  | dinUnquench (t : Nat) (who : Who) (n : Nat)
  -- debug port (R424)
  | extest (t : Nat)
  | sample (t : Nat)
  | preload (t : Nat)
  | idcode (t : Nat)
  | bypass (t : Nat) (code : Nat)
  | vxbStop (t : Nat)
  | vxbScan (t : Nat)
  -- doorbells, scanner and the admin queue (chapter 02)
  | sqDoorbell (t : Nat) (fn slot : Nat) (bytes : Nat) (v : Word)
  | urgentDoorbell (t : Nat) (fn slot : Nat) (bytes : Nat) (v : Word)
  | urgentVisit (t : Nat)
  | scheduledVisit (t : Nat)
  | shortSqVisit (t : Nat)
  | entryFetchData (t : Nat) (sq : Option Nat) (data : List Word)
  | flightEntryGrant (t : Nat)
  | consumerIndexWrite (t : Nat) (who : Who) (tgt : CiTarget) (v : Half)
  | adminDoorbell (t : Nat) (fn : Nat) (v : Half)
  | adminResume (t : Nat) (fn : Nat) (faultAfter : Option Nat)
  | adminNop (t : Nat) (idx : Nat) (w : WriteFault)
  | createSq (t : Nat) (idx : Nat) (w : WriteFault)
  | destroySq (t : Nat) (idx : Nat)
  | createCr (t : Nat) (idx : Nat) (w : WriteFault)
  | destroyCr (t : Nat) (idx : Nat) (w : WriteFault)
  | createContext (t : Nat) (idx : Nat) (w : WriteFault)
  | destroyContext (t : Nat) (idx : Nat) (w : WriteFault)
  | setShare (t : Nat) (idx : Nat) (w : WriteFault)
  | bindEvents (t : Nat) (idx : Nat) (w : WriteFault)
  | unbindEvents (t : Nat) (idx : Nat) (w : WriteFault)
  | query (t : Nat) (idx : Nat) (destFaults : Bool) (w : WriteFault)
  | setCyclic (t : Nat) (src : AdmSrc) (image : Option (List Word)) (w : WriteFault)
  | resumeCr (t : Nat) (idx : Nat) (faultAfter : Option Nat) (w : WriteFault)
  | submissionRetire (t : Nat) (f : Nat) (w : WriteFault)
  -- the command stream (chapter 03): the command at the current offset of submission f
  | nop (t : Nat) (f : Nat)
  | dispatch (t : Nat) (f : Nat) (outList : Option (List Word))
  | bin (t : Nat) (f : Nat)
  | render (t : Nat) (f : Nat) (entry : Option Word)
  | copy (t : Nat) (f : Nat)
  | fill (t : Nat) (f : Nat)
  | compose (t : Nat) (f : Nat)
  | loadWeights (t : Nat) (f : Nat)
  | linkPut (t : Nat) (f : Nat)
  | linkGet (t : Nat) (f : Nat)
  | record (t : Nat) (f : Nat)
  | wait (t : Nat) (f : Nat)
  | semAcquire (t : Nat) (f : Nat)
  | semRelease (t : Nat) (f : Nat)
  | fence (t : Nat) (f : Nat)
  | setScalar (t : Nat) (f : Nat) (mem : Option Word)
  | addScalar (t : Nat) (f : Nat)
  | compare (t : Nat) (f : Nat)
  | skipIf (t : Nat) (f : Nat)
  | repeatCmd (t : Nat) (f : Nat)
  | endRepeat (t : Nat) (f : Nat)
  | call (t : Nat) (f : Nat)
  | setAreg (t : Nat) (f : Nat)
  | timestamp (t : Nat) (f : Nat) (fault : Bool)
  | watch (t : Nat) (f : Nat)
  | mark (t : Nat) (f : Nat)
  | preloadHint (t : Nat) (f : Nat)
  -- the ROM routines of Table 03-20: what the routine reads comes in the operands
  | layerChain (t : Nat) (f : Nat) (data : Option (List Word))
  | tileWalk (t : Nat) (f : Nat) (blocks : TileBlocks) (tiles : Option (List (Word × Nat × Nat)))
  | copy2d (t : Nat) (f : Nat)
  | copy3d (t : Nat) (f : Nat)
  | copyList (t : Nat) (f : Nat) (data : Option (List Word))
  | fill2d (t : Nat) (f : Nat)
  | waitAll (t : Nat) (f : Nat) (data : Option (List Word))
  | recordList (t : Nat) (f : Nat) (data : Option (List Word))
  | bandSplit (t : Nat) (f : Nat)
  | haloPut (t : Nat) (f : Nat)
  | frameIndex (t : Nat) (f : Nat) (remote : Option RemoteVal)
  | bufferBlockRead (t : Nat) (f : Nat) (off : Nat) (data : List Word)
  | sequencerYield (t : Nat) (f : Nat)
  | waitTimeoutExpiry (t : Nat) (f : Nat)
  | watchResult (t : Nat) (f : Nat) (task : Option Nat) (data : Option (List Byte))
  -- events and semaphores (chapter 04)
  | evFnRecordWrite (t : Nat) (fn : Nat) (rec : FnRecord)
  | evFnValueRead (t : Nat) (fn : Nat) (remote : Option RemoteVal)
  | semCfgWrite (t : Nat) (who : Who) (idx : Nat) (v : Word)
  | proxyRetry (t : Nat) (handle : Half)
  -- scheduling and dispatch (chapters 05 and 07)
  | sequencerPick (t : Nat) (n : Nat)
  | enginePick (t : Nat) (cls : Cls) (peng : Nat)
  | coresPick (t : Nat) (part : Nat)
  | gatherTimeout (t : Nat) (task : Nat)
  | launch (t : Nat)
  | remainderStreamEnd (t : Nat) (cluster : Nat)
  -- the cyclic table (chapter 05)
  | periodStart (t : Nat)
  | vsyncFreeRun (t : Nat)
  | slotPreload (t : Nat) (slot : Nat)
  | slotClockRaise (t : Nat) (slot : Nat)
  | slotStart (t : Nat) (slot : Nat)
  | slotDeadline (t : Nat) (inst : Nat)
  | cycEnWrite (t : Nat) (who : Who) (en : Bool)
  | inheritanceDetect (t : Nat) (f : Nat) (holder : Nat)
  -- the governor (chapter 06)
  | govCapMgmtWrite (t : Nat) (who : Who) (v : Word)
  | govCapF0Write (t : Nat) (who : Who) (v : Word)
  | priceTabCommit (t : Nat) (who : Who)
  | priceTabRestore (t : Nat) (who : Who)
  | learnClear (t : Nat) (who : Who)
  | tlimitWrite (t : Nat) (who : Who) (v : Word)
  | sagEnWrite (t : Nat) (who : Who) (v : Word)
  | profileWrite (t : Nat) (who : Who) (v : Word)
  | idleGapStart (t : Nat)
  | rungEntryComplete (t : Nat)
  | rungExitComplete (t : Nat)
  | ladderExitScheduled (t : Nat)
  -- errors, teardown and regrowth (chapter 08)
  | watchdogExpiry (t : Nat) (ctx : Nat)
  | drainLimitExpiry (t : Nat) (kind : TdKind) (obj fn : Nat)
  | teardownEntryGrant (t : Nat)
  | regrowthResume (t : Nat) (rereadOk : Bool)
  | errPrimaryRelease (t : Nat) (who : Who)
  | injectParity (t : Nat) (who : Who) (seqr : Nat)
  | injectUncorrectable (t : Nat) (who : Who) (tab : Nat)
  | injectCorrectable (t : Nat) (who : Who) (tab : Nat)
  -- functions and partitions (chapter 09)
  | vfCountChange (t : Nat) (count : Nat)
  | fnAssignWrite (t : Nat) (who : Who) (fn : Nat) (v : Word)
  | fnCfgReset (t : Nat) (who : Who) (fn : Nat)
  | fnCtlFlr (t : Nat) (fn : Nat)
  | pcieFlr (t : Nat) (fn : Nat)
  | cipherFlushComplete (t : Nat) (scope : CipherScope) (obj : Nat)
  | coreMove (t : Nat) (who : Who) (mask : BitVec 48) (src dst : Nat)
  | wayMove (t : Nat) (who : Who) (mask : BitVec 48) (src dst : Nat)
  | channelMove (t : Nat) (who : Who) (mask : BitVec 48) (src dst : Nat)
  | tenantRemoval (t : Nat) (who : Who) (mask : BitVec 48) (src : Nat)
  -- security (chapter 10)
  | keygenComplete (t : Nat)
  | entropyHealthFail (t : Nat)
  | entropyRetry (t : Nat) (pass : Bool)
  | pageRelease (t : Nat) (fn first pages : Nat)
  | pageReleaseComplete (t : Nat) (fn : Nat)
  | mboxGo (t : Nat) (fn len : Nat)
  | mboxResponse (t : Nat) (fn len : Nat) (fault : Bool)
  | getVersion (t : Nat) (p : SpdmPeer)
  | getCapabilities (t : Nat) (p : SpdmPeer)
  | negotiateAlgorithms (t : Nat) (p : SpdmPeer)
  | getDigests (t : Nat) (p : SpdmPeer)
  | getCertificate (t : Nat) (p : SpdmPeer)
  | challenge (t : Nat) (p : SpdmPeer)
  | getMeasurements (t : Nat) (p : SpdmPeer) (index : Nat)
  | keyExchange (t : Nat) (p : SpdmPeer)
  | finish (t : Nat) (p : SpdmPeer) (ok : Bool) (owner : Nat)
  | endSession (t : Nat) (p : SpdmPeer)
  | getWrapKey (t : Nat) (p : SpdmPeer)
  | deliverKey (t : Nat) (p : SpdmPeer) (w : WrapIn) (keep : Bool) (modelId : Word)
  | blobKeyFree (t : Nat) (fn slot : Nat)
  | zeroiseSlot (t : Nat) (who : Who) (slot : Nat)
  | zeroiseAllBlob (t : Nat) (who : Who)
  | linkRekey (t : Nat) (who : Who) (port : Nat)
  | txCounterRekey (t : Nat) (port : Nat)
  | linkHello (t : Nat) (h : HelloIn)
  | linkProof (t : Nat) (port : Nat) (chainOk listed sigOk : Bool)
  | keySwitch (t : Nat) (port : Nat)
  | epochSwitchTimeout (t : Nat) (ft : Nat)
  | authLockoutExpiry (t : Nat)
  -- the Tamnel (chapter 11)
  | portLanesUp (t : Nat) (port lanes rate : Nat)
  | train (t : Nat) (port : Nat) (info : TrainInfo)
  | lanesFall (t : Nat) (port lanes rate : Nat)
  | lanesLostTimeout (t : Nat) (port : Nat)
  | linkFrameReceive (t : Nat) (port : Nat) (f : FrameIn)
  | frameReplayTimeout (t : Nat) (port : Nat)
  | idleFrameTick (t : Nat) (port : Nat)
  | segmentReceive (t : Nat) (src xfer : Nat) (resp : Bool) (seg : Nat) (sealed : SegSeal) (text : List Word)
  | segmentResendTimeout (t : Nat) (xfer seg : Nat)
  | recordMessage (t : Nat) (src seq : Nat) (handle : Half) (mode : Nat) (value : Word) (rec : Option (Nat × Nat)) (part : Option Nat)
  | waitReg (t : Nat) (src seq : Nat) (handle : Half) (target : Word) (part : Option Nat)
  | release (t : Nat) (src seq : Nat) (handle : Half) (value : Word)
  | waitDrop (t : Nat) (src seq : Nat) (handle : Half)
  | semAcq (t : Nat) (src seq index count ctx : Nat) (part : Option Nat)
  | semGrant (t : Nat) (src seq index count : Nat)
  | semRel (t : Nat) (src seq index count ctx : Nat) (part : Option Nat)
  | refuse (t : Nat) (src : Nat) (ref : MsgRef) (reason : Nat) (handle : Half)
  | ack (t : Nat) (src : Nat) (ref : AckRef)
  | openTransfer (t : Nat) (src seq xfer : Nat) (get : Bool) (ft : Nat) (remote : Word) (len : Nat)
  | report (t : Nat) (src seq xfer : Nat)
  | squash (t : Nat) (src seq xfer : Nat) (issuer : Bool)
  | squashAck (t : Nat) (src : Nat) (x : MsgRef)
  | credit (t : Nat) (src seq count : Nat) (resp : Option Nat)
  | heartbeat (t : Nat) (src seq lead digest : Nat)
  | lost (t : Nat) (src seq node : Nat) (part : LostPart)
  | lead (t : Nat) (src seq : Nat) (live : BitVec 16) (up : Word) (deputy : Option Nat)
  | joinReq (t : Nat) (src seq : Nat) (fabricId : Half) (position : Nat)
  | joinGrant (t : Nat) (src seq : Nat) (fabricId : Half) (node : Nat)
  | epoch (t : Nat) (src seq start : Nat) (e : EpochMsg)
  | atMessage (t : Nat) (src seq time action : Nat)
  | leaveMessage (t : Nat) (src seq node : Nat)
  | key (t : Nat) (src seq ft : Nat) (k : KeyMsg)
  | nodeKex (t : Nat) (src seq : Nat) (m : KexMsg) (ok : Bool)
  | timeExchangeTick (t : Nat) (port : Nat)
  | timeFrame (t : Nat) (port : Nat) (t1 t2 t3 t4 : Int)
  | heartbeatTick (t : Nat)
  | leadLossTimeout (t : Nat)
  | settleWindowEnd (t : Nat)
  | epochTick (t : Nat)
  | epochExtrapolate (t : Nat)
  | atTimeReached (t : Nat)
  | plannedLeave (t : Nat) (who : Who)
  | rejoin (t : Nat) (who : Who)
  -- interrupts (chapter 12)
  | irqClaim (t : Nat) (fn : Nat)
  | irqEoi (t : Nat) (fn : Nat)
  | irqLineMaskWrite (t : Nat) (fn : Nat) (mask : Bool)
  | irqMapWrite (t : Nat) (who : Who) (fn entry : Nat) (v : Word)
  | irqUnquench (t : Nat) (who : Who) (source : Nat)
  | stormWindow (t : Nat)
  -- observation (chapter 13)
  | freezeGo (t : Nat) (who : Who)
  | counterClear (t : Nat) (who : Who)
  | freezeUnlock (t : Nat) (who : Who)
  | freezeArm (t : Nat) (who : Who) (v : Word)
  | freezeTimeReached (t : Nat)
  | traceCapWindow (t : Nat)
  | globalStop (t : Nat) (who : Who)
  | softStop (t : Nat) (who : Who)
  | softStopResume (t : Nat) (who : Who)
  | scanOutComplete (t : Nat) (fault : Bool)
  | hangGraphRequest (t : Nat) (who : Who)
  | hangGraphBuilt (t : Nat) (fault : Bool)
  | hangBufferRelease (t : Nat) (who : Who)
  | pcfgWrite (t : Nat) (who : Who) (j : Nat) (v : Word)
  -- microcode (chapter 14): `rom` is what a fetch from the ROM brings
  | microword (t : Nat) (n : Nat) (rom : BitVec 136)
  | microCall (t : Nat) (n : Nat) (rom : BitVec 136)
  | microRet (t : Nat) (n : Nat) (rom : BitVec 136)
  | microEnd (t : Nat) (n : Nat) (rom : BitVec 136)
  | microFault (t : Nat) (n : Nat) (rom : BitVec 136)
  | microwordLimit (t : Nat) (n : Nat)
  | issue (t : Nat) (n : Nat) (rom : BitVec 136)
  | mrd (t : Nat) (n : Nat) (rom : BitVec 136) (mem : Option Word)
  | evrd (t : Nat) (n : Nat) (rom : BitVec 136) (v : Option RemoteVal)
  | timeChannel (t : Nat) (n : Nat) (rom : BitVec 136)
  | markChannel (t : Nat) (n : Nat) (rom : BitVec 136)
  | probe (t : Nat) (n : Nat) (rom : BitVec 136) (ready : Bool)
  | loadBegin (t : Nat) (kind total : Nat)
  | loadData (t : Nat) (off : Nat) (bytes : List Byte)
  | loadCommit (t : Nat) (sigOk : Bool) (digest : BitVec 384)
  | loadPauseReached (t : Nat)
  | loadAbort (t : Nat)
  -- the rows after chapter 15's
  | clockReturn (t : Nat) (d : Nat)
  | sagLineFall (t : Nat) (line : Nat)
  | shadowBankWriteAck (t : Nat) (cluster : Nat)
  | epochStart (t : Nat)
  | leaveTransferLimit (t : Nat)
  | rcRegisterRead (t : Nat) (who : Who) (win : Window) (off bytes : Nat) (remote : Option RemoteVal)
  | hdrDdrEntry (t : Nat)
  | spdmKeyUpdate (t : Nat) (p : SpdmPeer)
  | msiXMaskWrite (t : Nat) (fn : Nat) (mask : MsixMask)
  deriving DecidableEq, Repr
end Sys2Proof
end

