-- ==== Sys2Proof/Decode.lean ====
section
/-! DEFINITION. The commands that words spell: the table gives no row any bits, so no word spells a command. -/

namespace Sys2Proof

/-- The command that a word spells: none, since no row of the table has bits (log entry 2). -/
def decodeTableWord (_nbits _w : Nat) : Option Instr := none

end Sys2Proof
end

