-- ==== Sys2Proof/Machine/Aes.lean ====
section
/-! DEFINITION. The standard functions that chapter 10 names and does not print (PRESUMED, log entry 138): the AES-256 block cipher of
FIPS 197, and the GHASH and the authenticated decryption of GCM (NIST SP 800-38D). Blocks are 128-bit numbers whose most significant
byte comes first in memory. -/

namespace Sys2Proof.Machine

/-! ## AES-256 (FIPS 197) -/

/-- The S-box, sixteen values to a row, the first one of a row in its lowest byte. -/
def aesRows : List Nat := [
  0x76abd7fe2b670130c56f6bf27b777c63,
  0xc072a49cafa2d4adf04759fa7dc982ca,
  0x1531d871f1e5a534ccf73f362693fdb7,
  0x75b227ebe28012079a059618c323c704,
  0x842fe329b3d63b52a05a6e1b1a2c8309,
  0xcf584c4a39becb6a5bb1fc20ed00d153,
  0xa89f3c507f02f94585334d43fbaaefd0,
  0xd2f3ff1021dab6bcf5389d928f40a351,
  0x73195d643d7ea7c41744975fec130ccd,
  0xdb0b5ede14b8ee4688902a22dc4f8160,
  0x79e4959162acd3c25c2406490a3a32e0,
  0x08ae7a65eaf4566ca94ed58d6d37c8e7,
  0x8a8bbd4b1f74dde8c6b4a61c2e2578ba,
  0x9e1dc186b95735610ef6034866b53e70,
  0xdf2855cee9871e9b948ed9691198f8e1,
  0x16bb54b00f2d99416842e6bf0d89a18c]

/-- SubBytes of one byte. -/
def aesSub (a : Nat) : Nat := (nth aesRows (a / 16) 0 >>> (8 * (a % 16))) % 256

/-- A byte times x in GF(2^8). -/
def aesDbl (a : Nat) : Nat := if a < 128 then 2 * a else (2 * a) ^^^ 0x11B

/-- Two lists of bytes, byte by byte. -/
def xorBytes (a b : List Nat) : List Nat := List.zipWith (fun x y => x ^^^ y) a b

/-- The next eight words of the key schedule from the eight before them, with the round constant `rc`. -/
def aesNextKey (rc : Nat) (w : List (List Nat)) : List (List Nat) :=
  let at0 (i : Nat) : List Nat := nth w i []
  let l := at0 7
  let g := xorBytes ((l.drop 1 ++ l.take 1).map aesSub) [rc, 0, 0, 0]
  let a0 := xorBytes (at0 0) g
  let a1 := xorBytes (at0 1) a0
  let a2 := xorBytes (at0 2) a1
  let a3 := xorBytes (at0 3) a2
  let a4 := xorBytes (at0 4) (a3.map aesSub)
  let a5 := xorBytes (at0 5) a4
  let a6 := xorBytes (at0 6) a5
  let a7 := xorBytes (at0 7) a6
  [a0, a1, a2, a3, a4, a5, a6, a7]

/-- The words of the key schedule from eight of them on, for the round constants given. -/
def aesSchedule : List Nat → List (List Nat) → List (List Nat)
  | [], w => w
  | rc :: l, w => w ++ aesSchedule l (aesNextKey rc w)

/-- The `n` bytes of a number, the most significant first. -/
def beBytes (n x : Nat) : List Nat := ((List.range n).reverse).map (fun i => (x >>> (8 * i)) % 256)

/-- The number of a list of bytes, the most significant first. -/
def beNat (l : List Nat) : Nat := l.foldl (fun n b => n * 256 + b) 0

/-- A list cut into pieces of `n`, the last of which may be shorter; `fuel` bounds the pieces. -/
def cutBy {α : Type} (n : Nat) : Nat → List α → List (List α)
  | _, [] => []
  | 0, _ => []
  | fuel + 1, l => l.take n :: cutBy n fuel (l.drop n)

/-- The fifteen round keys of a 256-bit key, as blocks of bytes. -/
def aesKeys (k : Nat) : List (List Nat) :=
  let w := aesSchedule [0x01, 0x02, 0x04, 0x08, 0x10, 0x20, 0x40] (cutBy 4 8 (beBytes 32 k))
  (cutBy 4 15 w).map (fun r => r.flatten)

/-- ShiftRows of a block, whose byte `i` stands in row `i % 4` of column `i / 4`. -/
def aesShift (b : List Nat) : List Nat := (List.range 16).map (fun i => nth b ((i + 4 * (i % 4)) % 16) 0)

/-- MixColumns of one column. -/
def aesMixCol (c : List Nat) : List Nat :=
  (List.range 4).map (fun i =>
    let a := nth c i 0
    let b := nth c ((i + 1) % 4) 0
    aesDbl a ^^^ (aesDbl b ^^^ b) ^^^ nth c ((i + 2) % 4) 0 ^^^ nth c ((i + 3) % 4) 0)

/-- The rounds with the round keys that are left; the last one has no MixColumns. -/
def aesRounds : List (List Nat) → List Nat → List Nat
  | [], b => b
  | [k], b => xorBytes (aesShift (b.map aesSub)) k
  | k :: l, b => aesRounds l (xorBytes ((cutBy 4 4 (aesShift (b.map aesSub))).flatMap aesMixCol) k)

/-- AES-256 of a block. -/
def aes256 (k : BitVec 256) (x : Nat) : Nat :=
  match aesKeys k.toNat with
  | [] => 0
  | k0 :: l => beNat (aesRounds l (xorBytes (beBytes 16 x) k0))

/-! ## GHASH and GCM (NIST SP 800-38D) -/

/-- One bit of the product: what has been added up, and the factor halved in GF(2^128). -/
def ghashBit (x : Nat) (p : Nat × Nat) (i : Nat) : Nat × Nat :=
  (if x.testBit (127 - i) then p.1 ^^^ p.2 else p.1, if p.2 % 2 = 1 then (p.2 / 2) ^^^ (0xE1 <<< 120) else p.2 / 2)

/-- The product of two blocks. -/
def ghashMul (x y : Nat) : Nat := ((List.range 128).foldl (ghashBit x) (0, y)).1

/-- GHASH of a list of blocks. -/
def ghash (h : Nat) (l : List Nat) : Nat := l.foldl (fun y b => ghashMul (y ^^^ b) h) 0

/-- Bytes as blocks, the last one filled up with zeros. -/
def blocksOf (l : List Nat) : List Nat := (cutBy 16 l.length l).map (fun p => beNat (p ++ List.replicate (16 - p.length) 0))

/-- The length block: the bits of the associated data and of the ciphertext. -/
def lengthBlock (a c : Nat) : Nat := (8 * a) <<< 64 ||| (8 * c)

/-- The first counter block of a 96-bit IV. -/
def gcmJ0 (iv : BitVec 96) : Nat := iv.toNat <<< 32 ||| 1

/-- The GCM tag of a ciphertext with its associated data. -/
def gcmTag (k : BitVec 256) (iv : BitVec 96) (aad text : List Nat) : Nat :=
  ghash (aes256 k 0) (blocksOf aad ++ blocksOf text ++ [lengthBlock aad.length text.length]) ^^^ aes256 k (gcmJ0 iv)

/-- The key stream of GCM, block by block, for `n` blocks. -/
def gcmStream (k : BitVec 256) (iv : BitVec 96) (n : Nat) : List Nat :=
  (List.range n).flatMap (fun i => beBytes 16 (aes256 k (gcmJ0 iv + 1 + i)))

/-- The plaintext of a ciphertext, and the ciphertext of a plaintext. -/
def gcmText (k : BitVec 256) (iv : BitVec 96) (text : List Nat) : List Nat :=
  xorBytes text (gcmStream k iv ((text.length + 15) / 16))

end Sys2Proof.Machine
end

