-- ==== Sys2Proof/Config.lean ====
section
/-! DEFINITION. What an implementation fixes and the spec leaves open: constants without a body, so that nothing proved
can rest on a value of them. `free` is applied to the counter `State.fresh`; the others to the data they depend on. -/

namespace Sys2Proof

/-- The n-th value that the spec leaves open (log entry 3). -/
opaque Config.free : Nat → Nat

/-- The quotients of the governor's model, numerator and denominator, as it rounds them where they are not whole (log entry 40). -/
opaque Config.energyRound : Nat → Nat → Nat

/-- A node's temperature as the thermal model rounds it to 1/16 of a degree (log entry 41): an exact numerator and
denominator. -/
opaque Config.tempRound : Int → Nat → Int

/-- The address of a place in the Voxbin regions of the channels, taken as one space: the spec gives the offsets of the areas in that
space and not how the memory port addresses it (log entry 132). -/
opaque Config.regionAddr : Nat → Nat

/-- The setpoint in mV of the rail that sag sensor 12 to 15 watches: the plinth gives only the clusters' voltages (log entry 135). -/
opaque Config.railMv : Nat → Nat

/-- Where HALO_PUT places the rows of a side in the neighbour's memory, in units of 64 bytes from P5, by side, row bytes, rows
and halo rows: Table 03-20 does not say (log entry 42). -/
opaque Config.haloPlace : Bool → Nat → Nat → Nat → Nat

/-- How many metadata pages of a partition a channel holds beside the one of the tree top, by the data pages that the
partition holds in it: the placement of metadata is not architectural (R315, log entry 45). -/
opaque Config.metaPages : Nat → Nat

/-- LINE of a node of a version tree, by partition, level and index: the placement of metadata is not architectural (R315, log entry 139). -/
opaque Config.nodeLine : Nat → Nat → Nat → Nat

/-- The fields of a control message as its body flit carries them from bit 32 on: Table 11-7 names them without their places (log
entry 160). -/
opaque Config.msgFields : Msg → BitVec 480

/-- PART in the counter blocks of the Voxbin region's lines (Table 10-3, log entry 139). -/
opaque Config.regionPart : Nat

/-- The bits of a NaN that the watch unit forms (R415, log entry 46). -/
opaque Config.fpNan : Nat

/-- The FP32 bits that a short float of Hokuherad converts to, by width and bits: the formats are not in the spec (log
entry 43). -/
opaque Config.shortFloat : Nat → Nat → Nat

/-- The qwords of an engine's state image, by the time of the stop, the section's ID and their place: an engine's format is its own (R422,
log entry 47). -/
opaque Config.scanWord : Nat → Nat → Nat → Nat

/-- The length in qwords of an engine's state image, by the time of the stop and the section's ID (R422, log entry 47). -/
opaque Config.scanLen : Nat → Nat → Nat

/-- FORMAT of a section of a scan image, by its ID (R422, log entry 47). -/
opaque Config.scanFormat : Nat → Nat

/-- An offset in 1/32 ns as TML_TIME_STAT.OFFSET rounds it to ns (R371, log entry 48). -/
opaque Config.offsetRound : Int → Int

/-! The primitives of public standards that the spec names and does not write out (log entry 175). Keys, points and signatures are numbers,
data are bytes. -/

/-- SHA-384. -/
opaque Config.sha384 : List Nat → BitVec 384

/-- HKDF-SHA-384 (RFC 5869): keying material, salt, info, and the number of bytes. -/
opaque Config.hkdf : List Nat → List Nat → List Nat → Nat → List Nat

/-- The P-384 private key that FIPS 186-5 forms from extra random bits. -/
opaque Config.ecdsaKey : List Nat → BitVec 384

/-- The P-384 public key of a private key, 97 bytes uncompressed. -/
opaque Config.p384Point : BitVec 384 → BitVec 776

/-- The shared secret of a private key and the other end's public key. -/
opaque Config.ecdh : BitVec 384 → BitVec 776 → List Nat

/-- An ECDSA P-384 signature: key, hash, and the random number that it uses. -/
opaque Config.ecdsaSign : BitVec 384 → BitVec 384 → Nat → BitVec 768

/-- AES Key Wrap (SP 800-38F): the key that wraps, and the key. -/
opaque Config.keyWrap : BitVec 256 → BitVec 256 → BitVec 320

/-- AES Key Unwrap; none where the check fails. -/
opaque Config.keyUnwrap : BitVec 256 → BitVec 320 → Option (BitVec 256)

/-- The bytes of a LINK_HELLO, whose encoding the spec does not give. -/
opaque Config.helloBytes : KexMsg → List Nat

/-- The hop credits of each pool that a port's buffers allow it to offer in training (R353; log 181). -/
opaque Config.linkOffer : Nat

/-- The fused device secret (R311). -/
opaque Config.deviceSecret : BitVec 256

/-- Hokuherad's vendor identifier, which CAP_WEIGHT_GATE reports (Table 15-7, log entry 50). -/
opaque Config.vendorId : Nat

end Sys2Proof
end

