-- ==== Sys2Proof/Machine/Regs.lean ====
section
/-! DEFINITION. The registers of Voxbin (Tables 16-3 and 16-4): their places in the two windows, their widths and their
fields with access codes and reset values, as the field tables of the chapters give them; and the access codes of
Table 00-2 as functions on a register's word. A reset value that comes from the fuses or the plinth stands here as zero;
start-up writes it (R455). The two doorbell registers of a slot have no field here: the object in the slot holds them. -/

namespace Sys2Proof.Machine

/-- The access codes of Table 00-2. -/
inductive Acc where
  | ro | rw | w1c | wo | rc | rwl
  deriving DecidableEq, Repr

/-- A field of a register: its lowest bit, width, access code and reset value. -/
structure RegField where
  lo : Nat
  w : Nat
  acc : Acc
  rst : Nat
  deriving DecidableEq, Repr

/-- A register or array of registers: window, offset, width, up to two strides with their index ranges, fields. -/
structure RegSpec where
  fnWin : Bool
  off : Nat
  wide : Bool
  s1 : Nat
  lo1 : Nat
  hi1 : Nat
  s2 : Nat
  hi2 : Nat
  fields : List RegField
  deriving DecidableEq, Repr

/-- The registers by name. -/
inductive Reg where
  | VXB_HOST_LINK | VXB_FLASH_MODE | VXB_MGMT_STAT | VXB_DOMAIN_STAT | VXB_RESET_CAUSE | VXB_DIN_CFG | VXB_DIN_STAT
  | VXB_DIN_TS | VXB_DIN_EVT | DB_PI | DB_STAT | ADM_SQ_BASE | ADM_CR_BASE | ADM_CFG | ADM_STAT | ADM_SQ_PI
  | ADM_SQ_CI | ADM_CR_PI | ADM_CR_CI | ADM_VF_PEND | ADM_VF_PI_CI | ADM_VF_SQ_BASE | QS_STRETCH | QS_DEMAND
  | QS_FLIGHT | QS_CR_STATE | QS_SQ_STATE | EV_FN_HANDLE | EV_FN_VALUE | EV_FN_RECORD | EV_FN_CTL | EV_SEM_CFG
  | EV_SEL | EV_VALUE | EV_INFO | EV_STAT | EV_PROXY_FULL | SCH_CLASS_WEIGHT | SCH_CLASS_WEIGHT2 | SCH_STAT
  | SCH_VC_MIN | SCH_VC_MIN_BG | SCH_CTX_SEL | SCH_CTX_ACCT | CYC_CFG | CYC_STAT | CYC_PERIOD_NO | CYC_PERIOD_START
  | CYC_NEXT_START | CYC_SLOT_SEL | CYC_SLOT_CNT | CYC_SLOT_ADMIT | CYC_SLOT_ENERGY | GOV_STAT | GOV_PRICE
  | GOV_PROFILE | GOV_CAP_MGMT | GOV_CAP_F0 | GOV_BUDGET | GOV_POWER | GOV_HEADROOM | GOV_VF | GOV_TLIMIT | GOV_TSTAT
  | GOV_STALE | GOV_FAILED | GOV_SAG_CFG | GOV_SAG_STAT | GOV_ALARM_CFG | GOV_LEARN | GOV_CORR_SEL | GOV_CORR
  | GOV_LEDGER | GOV_UNATTR | GOV_PRICE_TAB | GOV_PRICE_TAB_CTL | GOV_RUNG | GOV_RUNG_RES | GOV_RUNG_ENT | GOV_BE
  | GOV_IDLE | GOV_IDLE_AVG | GOV_MAP | GOV_TEMP | SCH_MQ_CFG | SCH_MQ_STAT | SCH_MQ_CNT | SCH_LANE_STAT
  | SCH_STEAL_CNT | SCH_ENGMAP | SCH_CORE_PRESENT | SCH_CORE_STATE | ERR_STAT | ERR_CE | ERR_REC | ERR_CNT
  | ERR_REGROW | ERR_TEARDOWN | ERR_INJECT | FN_ID | FN_STAT | FN_CTL | VXB_VF_EN | VXB_FN_CFG | VXB_FN_QUOTA
  | VXB_PART_RES | VXB_PART_CORES | VXB_PART_REQ | VXB_PART_REQ_STAT | VXB_PART_PAGES | SEC_STAT | SEC_ZEROISE
  | SEC_SLOT | SEC_LINK | SEC_FT | SEC_MGMT | MCI_PART | MCI_SEAL | MCI_STAT | MCI_FAIL_ADDR | WG_STAT
  | SEC_FN_MBOX_REQ | SEC_FN_MBOX_RSP | SEC_FN_MBOX_CTL | SEC_FN_KEYS | SEC_FN_KEY_FREE | MCI_FN_RELEASE
  | MCI_FN_REL_STAT | TML_CFG | TML_STAT | TML_CTL | TML_PORT | TML_PORT_CNT | TML_ROUTE | TML_LINKMAP | TML_TIME
  | TML_TIME_STAT | TML_TIME_CAL | TML_EPOCH_CFG | TML_EPOCH | TML_XFER | TML_E2E | IRQ_CLAIM | IRQ_EOI
  | IRQ_LINE_MASK | IRQ_STAT | IRQ_EN | IRQ_PEND | IRQ_FN_CAUSE | IRQ_VMAP | IRQ_MAP | IRQ_GSTAT | IRQ_FN_EVT
  | IRQ_STORM_CFG | IRQ_QUENCH | IRQ_WAKE_EN | IRQ_MG_PEND | IRQ_MG_EN | IRQ_SS_PEND | IRQ_SS_EN | IRQ_DB_PEND
  | OBS_FREEZE_CTL | OBS_FREEZE_AT | OBS_FREEZE_STAT | OBS_FREEZE_TIME | OBS_CAP | TRC_GCFG | TRC_RING_BASE
  | TRC_RING_CFG | TRC_RING_PI | TRC_RING_CI | TRC_RING_STAT | TRC_TRIG | WCH_CNT | OBS_STOP_CFG | OBS_STOP_CTL
  | OBS_STOP_STAT | OBS_STOP_TIME | OBS_SCAN_BASE | OBS_SCAN_SIZE | OBS_HANG_DEST | OBS_HANG_CFG | OBS_HANG_CTL
  | OBS_HANG_STAT | OBS_PCFG | OBS_CNT | OBS_SHADOW | OBS_CTX_SEL | OBS_CTX_SEQ | OBS_CTX_LIVE | OBS_CTX_SHADOW
  | TRC_FN_RING | TRC_FN_PI | TRC_FN_CI | MCS_VERSION | MCS_RTN_MAP | MCS_LOAD_STAT | MCS_MATCH | MCS_RTN | VXB_ID
  | VXB_CAP_PTR | VXB_START_STAT | VXB_PLINTH | FN_CAP_PTR
  deriving DecidableEq, Repr

/-- A register without an index. -/
def one (fnWin : Bool) (off : Nat) (wide : Bool) (fs : List RegField) : RegSpec := ⟨fnWin, off, wide, 0, 0, 1, 0, 1, fs⟩

/-- An array of registers with one index. -/
def arr (fnWin : Bool) (off : Nat) (wide : Bool) (s1 lo1 hi1 : Nat) (fs : List RegField) : RegSpec :=
  ⟨fnWin, off, wide, s1, lo1, hi1, 0, 1, fs⟩

/-- The place, width and fields of a register. -/
def Reg.spec (r : Reg) : RegSpec :=
  match r with
  | .VXB_HOST_LINK => one false 0x200 false
    [⟨0, 4, .ro, 0⟩, ⟨4, 4, .ro, 0⟩, ⟨8, 1, .ro, 0⟩, ⟨9, 1, .ro, 0⟩, ⟨10, 1, .w1c, 0⟩, ⟨11, 1, .ro, 0⟩]
  | .VXB_FLASH_MODE => one false 0x208 false [⟨0, 3, .ro, 0⟩, ⟨4, 8, .ro, 25⟩, ⟨12, 1, .ro, 0⟩]
  | .VXB_MGMT_STAT => one false 0x210 false [⟨0, 7, .ro, 0⟩, ⟨7, 1, .ro, 0⟩, ⟨8, 1, .ro, 0⟩, ⟨9, 1, .w1c, 0⟩]
  | .VXB_DOMAIN_STAT => one false 0x218 true [⟨0, 18, .ro, 0⟩, ⟨32, 18, .w1c, 0⟩]
  | .VXB_RESET_CAUSE => one false 0x220 false
    [⟨0, 1, .w1c, 1⟩, ⟨1, 1, .w1c, 0⟩, ⟨2, 1, .w1c, 0⟩, ⟨3, 1, .w1c, 0⟩, ⟨4, 1, .w1c, 0⟩]
  | .VXB_DIN_CFG => arr false 0x400 true 32 0 9
    [⟨0, 16, .rw, 0⟩, ⟨16, 16, .rw, 0⟩, ⟨32, 1, .rw, 0⟩, ⟨33, 1, .rw, 0⟩, ⟨34, 2, .rw, 0⟩, ⟨36, 1, .rw, 0⟩,
     ⟨37, 1, .wo, 0⟩]
  | .VXB_DIN_STAT => arr false 0x408 false 32 0 9
    [⟨0, 1, .w1c, 0⟩, ⟨1, 1, .ro, 0⟩, ⟨2, 1, .ro, 0⟩, ⟨3, 1, .w1c, 0⟩, ⟨8, 8, .rc, 0⟩, ⟨16, 8, .rc, 0⟩]
  | .VXB_DIN_TS => arr false 0x410 true 32 0 9 [⟨0, 64, .ro, 0⟩]
  | .VXB_DIN_EVT => arr false 0x418 false 32 0 9 [⟨0, 32, .rw, 0⟩]
  | .DB_PI => arr true 0x4000 true 16 0 2048 []
  | .DB_STAT => arr true 0x4008 true 16 0 2048 []
  | .ADM_SQ_BASE => one true 0x2000 true [⟨12, 52, .rw, 0⟩]
  | .ADM_CR_BASE => one true 0x2008 true [⟨12, 52, .rw, 0⟩]
  | .ADM_CFG => one true 0x2010 false
    [⟨0, 4, .rw, 4⟩, ⟨4, 4, .rw, 4⟩, ⟨8, 6, .rw, 0⟩, ⟨16, 1, .rw, 0⟩, ⟨17, 1, .wo, 0⟩]
  | .ADM_STAT => one true 0x2014 false
    [⟨0, 1, .ro, 0⟩, ⟨1, 1, .ro, 0⟩, ⟨2, 1, .ro, 0⟩, ⟨3, 1, .w1c, 0⟩, ⟨4, 1, .w1c, 0⟩, ⟨5, 1, .w1c, 0⟩]
  | .ADM_SQ_PI => one true 0x2018 false [⟨0, 32, .rw, 0⟩]
  | .ADM_SQ_CI => one true 0x201C false [⟨0, 32, .ro, 0⟩]
  | .ADM_CR_PI => one true 0x2020 false [⟨0, 32, .ro, 0⟩]
  | .ADM_CR_CI => one true 0x2024 false [⟨0, 32, .rw, 0⟩]
  | .ADM_VF_PEND => one false 0x11000 true [⟨1, 63, .w1c, 0⟩]
  | .ADM_VF_PI_CI => arr false 0x11100 true 16 1 64 [⟨0, 32, .ro, 0⟩, ⟨32, 32, .rw, 0⟩]
  | .ADM_VF_SQ_BASE => arr false 0x11108 true 16 1 64 [⟨0, 4, .ro, 4⟩, ⟨4, 1, .ro, 0⟩, ⟨12, 52, .ro, 0⟩]
  | .QS_STRETCH => one false 0x10000 false [⟨0, 32, .ro, 65536⟩]
  | .QS_DEMAND => one false 0x10004 false [⟨0, 32, .ro, 0⟩]
  | .QS_FLIGHT => one false 0x10008 false [⟨0, 14, .ro, 0⟩, ⟨16, 12, .ro, 0⟩]
  | .QS_CR_STATE => arr false 0x14000 true 8 0 1024
    [⟨0, 3, .ro, 0⟩, ⟨3, 6, .ro, 0⟩, ⟨9, 5, .ro, 0⟩, ⟨14, 17, .ro, 0⟩, ⟨31, 13, .ro, 0⟩]
  | .QS_SQ_STATE => arr false 0x18000 true 8 0 4096
    [⟨0, 3, .ro, 0⟩, ⟨3, 6, .ro, 0⟩, ⟨9, 10, .ro, 0⟩, ⟨19, 10, .ro, 0⟩, ⟨29, 8, .ro, 0⟩, ⟨37, 3, .ro, 0⟩,
     ⟨40, 1, .ro, 0⟩, ⟨41, 11, .ro, 0⟩]
  | .EV_FN_HANDLE => one true 0xF00 false [⟨0, 32, .rw, 0⟩]
  | .EV_FN_VALUE => one true 0xF08 true [⟨0, 64, .ro, 0⟩]
  | .EV_FN_RECORD => one true 0xF10 true [⟨0, 64, .wo, 0⟩]
  | .EV_FN_CTL => one true 0xF18 false [⟨0, 2, .rw, 0⟩, ⟨2, 1, .ro, 0⟩, ⟨3, 1, .w1c, 0⟩]
  | .EV_SEM_CFG => arr false 0x28000 true 8 0 4096
    [⟨0, 32, .rw, 0⟩, ⟨32, 3, .rw, 0⟩, ⟨35, 1, .rw, 0⟩, ⟨36, 1, .w1c, 0⟩, ⟨37, 1, .w1c, 0⟩, ⟨40, 8, .rc, 0⟩,
     ⟨48, 12, .ro, 0⟩]
  | .EV_SEL => one false 0x20000 false [⟨0, 16, .rw, 0⟩]
  | .EV_VALUE => one false 0x20008 true [⟨0, 64, .ro, 0⟩]
  | .EV_INFO => one false 0x20010 true
    [⟨0, 1, .ro, 0⟩, ⟨1, 3, .ro, 0⟩, ⟨4, 1, .ro, 0⟩, ⟨5, 1, .ro, 0⟩, ⟨6, 10, .ro, 0⟩, ⟨16, 16, .ro, 0⟩,
     ⟨32, 16, .ro, 0⟩, ⟨48, 4, .ro, 0⟩]
  | .EV_STAT => one false 0x20018 true [⟨0, 17, .ro, 0⟩, ⟨32, 14, .ro, 0⟩, ⟨48, 15, .ro, 0⟩]
  | .EV_PROXY_FULL => one false 0x20020 false [⟨0, 32, .rc, 0⟩]
  | .SCH_CLASS_WEIGHT => one false 0x40000 true
    [⟨0, 16, .rw, 256⟩, ⟨16, 16, .rw, 256⟩, ⟨32, 16, .rw, 64⟩, ⟨48, 16, .rw, 0⟩]
  | .SCH_CLASS_WEIGHT2 => one false 0x40008 false [⟨0, 16, .rw, 64⟩, ⟨16, 16, .rw, 64⟩]
  | .SCH_STAT => one false 0x40010 false [⟨0, 11, .ro, 0⟩, ⟨16, 11, .ro, 0⟩]
  | .SCH_VC_MIN => one false 0x40018 true [⟨0, 64, .ro, 0⟩]
  | .SCH_VC_MIN_BG => one false 0x40028 true [⟨0, 64, .ro, 0⟩]
  | .SCH_CTX_SEL => one false 0x40020 false [⟨0, 10, .rw, 0⟩]
  | .SCH_CTX_ACCT => arr false 0x40040 true 8 0 8 [⟨0, 64, .ro, 0⟩]
  | .CYC_CFG => one false 0x40100 false [⟨0, 1, .rw, 0⟩]
  | .CYC_STAT => one false 0x40108 true
    [⟨0, 1, .ro, 0⟩, ⟨1, 1, .ro, 0⟩, ⟨2, 1, .ro, 0⟩, ⟨3, 1, .w1c, 0⟩, ⟨8, 8, .ro, 0⟩, ⟨16, 9, .ro, 0⟩,
     ⟨25, 8, .ro, 0⟩]
  | .CYC_PERIOD_NO => one false 0x40110 true [⟨0, 64, .ro, 0⟩]
  | .CYC_PERIOD_START => one false 0x40118 true [⟨0, 64, .ro, 0⟩]
  | .CYC_NEXT_START => one false 0x40120 true [⟨0, 64, .ro, 0⟩]
  | .CYC_SLOT_SEL => one false 0x40128 false [⟨0, 8, .rw, 0⟩]
  | .CYC_SLOT_CNT => one false 0x40130 true [⟨0, 16, .rc, 0⟩, ⟨16, 16, .rc, 0⟩, ⟨32, 16, .rc, 0⟩, ⟨48, 16, .rc, 0⟩]
  | .CYC_SLOT_ADMIT => one false 0x40138 true [⟨0, 32, .rc, 0⟩, ⟨32, 32, .rc, 0⟩]
  | .CYC_SLOT_ENERGY => one false 0x40140 true [⟨0, 32, .ro, 0⟩, ⟨32, 32, .rc, 0⟩]
  | .GOV_STAT => one false 0x60000 true
    [⟨0, 1, .ro, 0⟩, ⟨1, 1, .ro, 0⟩, ⟨2, 1, .ro, 0⟩, ⟨3, 1, .ro, 0⟩, ⟨4, 1, .ro, 0⟩, ⟨5, 1, .ro, 0⟩,
     ⟨6, 2, .ro, 0⟩, ⟨8, 3, .ro, 0⟩, ⟨16, 16, .rc, 0⟩]
  | .GOV_PRICE => one false 0x60008 false [⟨0, 16, .ro, 0⟩, ⟨16, 16, .ro, 0⟩]
  | .GOV_PROFILE => one false 0x6000C false [⟨0, 2, .rwl, 0⟩, ⟨2, 1, .rwl, 0⟩]
  | .GOV_CAP_MGMT => one false 0x60010 true [⟨0, 16, .rw, 0⟩, ⟨16, 16, .rw, 0⟩, ⟨32, 7, .rw, 75⟩]
  | .GOV_CAP_F0 => one false 0x60018 true [⟨0, 16, .rw, 0⟩, ⟨16, 16, .rw, 0⟩, ⟨32, 1, .w1c, 0⟩]
  | .GOV_BUDGET => one false 0x60020 true [⟨0, 16, .ro, 0⟩, ⟨16, 16, .ro, 0⟩, ⟨32, 16, .ro, 0⟩, ⟨48, 16, .ro, 0⟩]
  | .GOV_POWER => one false 0x60028 true [⟨0, 16, .ro, 0⟩, ⟨16, 16, .ro, 0⟩, ⟨32, 16, .ro, 0⟩, ⟨48, 16, .ro, 0⟩]
  | .GOV_HEADROOM => one false 0x60030 true
    [⟨0, 16, .ro, 1000⟩, ⟨16, 16, .ro, 1000⟩, ⟨32, 16, .ro, 1000⟩, ⟨48, 16, .ro, 1000⟩]
  | .GOV_VF => one false 0x60038 true [⟨0, 16, .ro, 0⟩, ⟨16, 4, .ro, 0⟩, ⟨20, 4, .ro, 0⟩, ⟨24, 4, .ro, 0⟩]
  | .GOV_TLIMIT => one false 0x60040 false [⟨0, 16, .rw, 1680⟩, ⟨16, 16, .rw, 160⟩]
  | .GOV_TSTAT => one false 0x60048 true [⟨0, 16, .ro, 0⟩, ⟨16, 16, .ro, 0⟩, ⟨32, 16, .ro, 0⟩, ⟨48, 6, .ro, 0⟩]
  | .GOV_STALE => one false 0x60050 true [⟨0, 64, .ro, 0⟩]
  | .GOV_FAILED => one false 0x60058 true [⟨0, 64, .ro, 0⟩]
  | .GOV_SAG_CFG => one false 0x60060 false [⟨0, 5, .rw, 0⟩, ⟨5, 1, .rw, 1⟩]
  | .GOV_SAG_STAT => one false 0x60068 true [⟨0, 16, .ro, 0⟩, ⟨16, 32, .rc, 0⟩]
  | .GOV_ALARM_CFG => one false 0x60070 false [⟨0, 1, .rw, 0⟩, ⟨1, 1, .ro, 0⟩]
  | .GOV_LEARN => one false 0x60078 false [⟨0, 4, .rw, 4⟩, ⟨4, 1, .rw, 0⟩, ⟨5, 1, .wo, 0⟩]
  | .GOV_CORR_SEL => one false 0x60080 false [⟨0, 12, .rw, 0⟩]
  | .GOV_CORR => one false 0x60088 true [⟨0, 16, .ro, 4096⟩, ⟨16, 32, .ro, 0⟩]
  | .GOV_LEDGER => one false 0x60090 true [⟨0, 64, .ro, 0⟩]
  | .GOV_UNATTR => one false 0x60098 true [⟨0, 64, .ro, 0⟩]
  | .GOV_PRICE_TAB => arr false 0x60100 true 8 0 16 [⟨0, 16, .rw, 0⟩, ⟨16, 16, .rw, 0⟩, ⟨32, 4, .rw, 0⟩]
  | .GOV_PRICE_TAB_CTL => one false 0x60180 false [⟨0, 1, .wo, 0⟩, ⟨1, 1, .w1c, 0⟩, ⟨2, 1, .ro, 0⟩, ⟨3, 1, .wo, 0⟩]
  | .GOV_RUNG => one false 0x60188 true [⟨0, 3, .ro, 0⟩, ⟨3, 3, .ro, 0⟩, ⟨6, 4, .ro, 0⟩, ⟨16, 32, .rc, 0⟩]
  | .GOV_RUNG_RES => arr false 0x60200 true 8 0 6 [⟨0, 64, .ro, 0⟩]
  | .GOV_RUNG_ENT => arr false 0x60240 true 8 1 6 [⟨0, 32, .ro, 0⟩, ⟨32, 32, .ro, 0⟩]
  | .GOV_BE => arr false 0x60280 true 8 1 6 [⟨0, 40, .rw, 0⟩]
  | .GOV_IDLE => one false 0x602C0 true [⟨0, 40, .ro, 0⟩]
  | .GOV_IDLE_AVG => one false 0x602C8 true [⟨0, 40, .ro, 0⟩]
  | .GOV_MAP => arr false 0x60400 true 8 0 16 [⟨0, 16, .ro, 0⟩, ⟨16, 16, .ro, 0⟩, ⟨32, 16, .ro, 0⟩, ⟨48, 16, .ro, 0⟩]
  | .GOV_TEMP => arr false 0x60480 true 8 0 16 [⟨0, 16, .ro, 0⟩, ⟨16, 16, .ro, 0⟩, ⟨32, 16, .ro, 0⟩, ⟨48, 16, .ro, 0⟩]
  | .SCH_MQ_CFG => one false 0x48000 false [⟨0, 16, .rw, 2000⟩, ⟨16, 2, .ro, 0⟩, ⟨18, 1, .rw, 1⟩]
  | .SCH_MQ_STAT => one false 0x48008 true [⟨0, 7, .ro, 0⟩, ⟨8, 7, .ro, 0⟩, ⟨16, 6, .ro, 0⟩, ⟨32, 14, .ro, 0⟩]
  | .SCH_MQ_CNT => one false 0x48010 true [⟨0, 16, .rc, 0⟩, ⟨16, 16, .rc, 0⟩, ⟨32, 16, .rc, 0⟩, ⟨48, 16, .rc, 0⟩]
  | .SCH_LANE_STAT => one false 0x48018 true [⟨0, 8, .ro, 0⟩, ⟨16, 7, .ro, 0⟩, ⟨32, 32, .ro, 0⟩]
  | .SCH_STEAL_CNT => one false 0x48020 true [⟨0, 32, .rc, 0⟩, ⟨32, 16, .rc, 0⟩]
  | .SCH_ENGMAP => one false 0x48028 false
    [⟨0, 2, .ro, 0⟩, ⟨2, 4, .ro, 0⟩, ⟨6, 4, .ro, 0⟩, ⟨10, 1, .ro, 1⟩, ⟨11, 1, .ro, 1⟩]
  | .SCH_CORE_PRESENT => one false 0x48030 true [⟨0, 48, .ro, 0⟩]
  | .SCH_CORE_STATE => arr false 0x48100 true 8 0 48
    [⟨0, 1, .ro, 0⟩, ⟨1, 1, .ro, 0⟩, ⟨2, 3, .ro, 0⟩, ⟨5, 1, .ro, 0⟩, ⟨6, 1, .ro, 0⟩, ⟨7, 1, .ro, 0⟩,
     ⟨8, 1, .ro, 0⟩, ⟨9, 1, .ro, 0⟩, ⟨10, 13, .ro, 0⟩, ⟨23, 13, .ro, 0⟩, ⟨36, 6, .ro, 0⟩, ⟨42, 6, .ro, 0⟩]
  | .ERR_STAT => one false 0x110000 true
    [⟨0, 1, .w1c, 0⟩, ⟨1, 1, .ro, 0⟩, ⟨2, 1, .ro, 0⟩, ⟨8, 8, .ro, 0⟩, ⟨16, 5, .ro, 0⟩, ⟨21, 11, .ro, 0⟩,
     ⟨32, 16, .rc, 0⟩, ⟨48, 2, .ro, 0⟩]
  | .ERR_CE => one false 0x110008 false [⟨0, 32, .rc, 0⟩]
  | .ERR_REC => arr false 0x110040 true 8 0 8 [⟨0, 64, .ro, 0⟩]
  | .ERR_CNT => arr false 0x110100 false 4 0 32 [⟨0, 16, .rc, 0⟩]
  | .ERR_REGROW => arr false 0x110200 true 8 0 8 [⟨0, 64, .ro, 0⟩]
  | .ERR_TEARDOWN => arr false 0x110300 true 8 0 16
    [⟨0, 3, .ro, 0⟩, ⟨3, 3, .ro, 0⟩, ⟨6, 12, .ro, 0⟩, ⟨18, 24, .ro, 0⟩]
  | .ERR_INJECT => one false 0x110400 false [⟨0, 2, .wo, 0⟩, ⟨2, 4, .wo, 0⟩, ⟨6, 3, .wo, 0⟩]
  | .FN_ID => one true 0x0 false [⟨0, 6, .ro, 0⟩, ⟨6, 3, .ro, 0⟩, ⟨9, 1, .ro, 0⟩, ⟨16, 4, .ro, 0⟩]
  | .FN_STAT => one true 0x10 false [⟨0, 1, .ro, 0⟩, ⟨1, 1, .ro, 0⟩, ⟨2, 1, .w1c, 0⟩]
  | .FN_CTL => one true 0x18 false [⟨0, 1, .wo, 0⟩]
  | .VXB_VF_EN => one false 0x800 false [⟨0, 6, .rw, 0⟩]
  | .VXB_FN_CFG => arr false 0xA00 true 8 0 64
    [⟨0, 3, .rw, 0⟩, ⟨3, 1, .rw, 0⟩, ⟨4, 1, .w1c, 0⟩, ⟨5, 1, .ro, 0⟩, ⟨6, 1, .wo, 0⟩, ⟨16, 16, .rw, 2000⟩]
  | .VXB_FN_QUOTA => arr false 0xC00 true 8 0 64 [⟨0, 13, .rw, 0⟩, ⟨16, 11, .rw, 0⟩, ⟨32, 11, .rw, 0⟩]
  | .VXB_PART_RES => arr false 0xE00 true 16 0 8
    [⟨0, 16, .ro, 0⟩, ⟨16, 8, .ro, 0⟩, ⟨24, 1, .ro, 0⟩, ⟨25, 1, .ro, 0⟩, ⟨26, 1, .ro, 0⟩]
  | .VXB_PART_CORES => arr false 0xE08 true 16 0 8 [⟨0, 48, .ro, 0⟩]
  | .VXB_PART_REQ => one false 0xF00 true [⟨0, 48, .wo, 0⟩, ⟨48, 4, .wo, 0⟩, ⟨52, 4, .wo, 0⟩, ⟨56, 2, .wo, 0⟩]
  | .VXB_PART_REQ_STAT => one false 0xF08 true [⟨0, 1, .ro, 0⟩, ⟨4, 4, .ro, 0⟩, ⟨16, 48, .ro, 0⟩]
  | .VXB_PART_PAGES => RegSpec.mk false 0x1000 false 32 0 8 4 8 [⟨0, 32, .ro, 0⟩]
  | .SEC_STAT => one false 0x80000 true
    [⟨0, 1, .ro, 0⟩, ⟨1, 1, .ro, 0⟩, ⟨2, 2, .ro, 0⟩, ⟨4, 1, .ro, 0⟩, ⟨8, 6, .ro, 47⟩, ⟨16, 4, .ro, 0⟩,
     ⟨20, 1, .ro, 0⟩, ⟨32, 32, .rc, 0⟩]
  | .SEC_ZEROISE => one false 0x80008 false [⟨0, 6, .wo, 0⟩, ⟨6, 1, .wo, 0⟩, ⟨7, 1, .wo, 0⟩]
  | .SEC_SLOT => arr false 0x80100 true 8 0 64
    [⟨0, 2, .ro, 0⟩, ⟨2, 3, .ro, 0⟩, ⟨5, 1, .ro, 0⟩, ⟨8, 4, .ro, 0⟩, ⟨32, 32, .ro, 0⟩]
  | .SEC_LINK => arr false 0x80300 true 8 0 4
    [⟨0, 2, .ro, 0⟩, ⟨2, 1, .wo, 0⟩, ⟨3, 1, .ro, 0⟩, ⟨16, 16, .rc, 0⟩, ⟨32, 16, .rc, 0⟩, ⟨48, 16, .ro, 0⟩]
  | .SEC_FT => arr false 0x80400 true 8 0 16
    [⟨0, 16, .rw, 0⟩, ⟨16, 3, .rw, 0⟩, ⟨19, 1, .rw, 0⟩, ⟨20, 1, .ro, 0⟩, ⟨32, 16, .ro, 0⟩]
  | .SEC_MGMT => one false 0x80480 false [⟨0, 1, .ro, 0⟩, ⟨1, 2, .ro, 0⟩, ⟨8, 8, .rc, 0⟩]
  | .MCI_PART => arr false 0x80800 true 16 0 8 [⟨0, 8, .ro, 0⟩, ⟨8, 8, .ro, 0⟩, ⟨16, 36, .ro, 0⟩]
  | .MCI_SEAL => RegSpec.mk false 0x80900 true 32 0 8 8 4 [⟨0, 36, .rw, 0⟩, ⟨36, 1, .rw, 0⟩, ⟨40, 24, .rw, 0⟩]
  | .MCI_STAT => one false 0x80A00 true [⟨0, 16, .rc, 0⟩, ⟨16, 3, .ro, 0⟩, ⟨19, 1, .w1c, 0⟩, ⟨32, 16, .rc, 0⟩]
  | .MCI_FAIL_ADDR => one false 0x80A08 true [⟨0, 64, .ro, 0⟩]
  | .WG_STAT => one false 0x80C00 true [⟨0, 1, .ro, 0⟩, ⟨1, 6, .ro, 0⟩, ⟨8, 24, .ro, 0⟩, ⟨32, 16, .rc, 0⟩]
  | .SEC_FN_MBOX_REQ => one true 0xE00 true [⟨0, 64, .rw, 0⟩]
  | .SEC_FN_MBOX_RSP => one true 0xE08 true [⟨0, 64, .rw, 0⟩]
  | .SEC_FN_MBOX_CTL => one true 0xE10 false
    [⟨0, 13, .rw, 0⟩, ⟨13, 1, .wo, 0⟩, ⟨14, 1, .w1c, 0⟩, ⟨15, 1, .w1c, 0⟩, ⟨16, 13, .ro, 0⟩, ⟨29, 1, .ro, 0⟩]
  | .SEC_FN_KEYS => one true 0xE18 true [⟨0, 64, .ro, 0⟩]
  | .SEC_FN_KEY_FREE => one true 0xE20 false [⟨0, 6, .wo, 0⟩, ⟨6, 1, .wo, 0⟩]
  | .MCI_FN_RELEASE => one true 0xE28 true [⟨0, 36, .rw, 0⟩, ⟨36, 17, .rw, 0⟩, ⟨53, 1, .wo, 0⟩]
  | .MCI_FN_REL_STAT => one true 0xE30 false [⟨0, 1, .ro, 0⟩, ⟨1, 1, .w1c, 0⟩, ⟨2, 1, .w1c, 0⟩]
  | .TML_CFG => one false 0xA0000 true
    [⟨0, 2, .ro, 0⟩, ⟨2, 4, .ro, 0⟩, ⟨6, 4, .ro, 0⟩, ⟨10, 4, .ro, 0⟩, ⟨14, 1, .ro, 0⟩, ⟨15, 4, .ro, 0⟩,
     ⟨19, 1, .ro, 0⟩, ⟨32, 32, .ro, 0⟩]
  | .TML_STAT => one false 0xA0008 true
    [⟨0, 4, .ro, 0⟩, ⟨4, 1, .ro, 0⟩, ⟨5, 1, .ro, 0⟩, ⟨6, 4, .ro, 0⟩, ⟨10, 4, .ro, 0⟩, ⟨14, 1, .ro, 0⟩,
     ⟨15, 1, .ro, 0⟩, ⟨16, 16, .ro, 0⟩, ⟨32, 16, .rc, 0⟩]
  | .TML_CTL => one false 0xA0010 false [⟨0, 1, .wo, 0⟩, ⟨1, 1, .wo, 0⟩, ⟨2, 4, .rw, 0⟩]
  | .TML_PORT => arr false 0xA0100 true 16 0 4
    [⟨0, 3, .ro, 0⟩, ⟨3, 4, .ro, 0⟩, ⟨7, 2, .ro, 3⟩, ⟨9, 1, .ro, 0⟩, ⟨10, 4, .ro, 0⟩, ⟨14, 4, .ro, 0⟩,
     ⟨18, 2, .ro, 0⟩, ⟨20, 1, .ro, 0⟩, ⟨21, 7, .ro, 0⟩, ⟨32, 32, .ro, 0⟩]
  | .TML_PORT_CNT => arr false 0xA0108 true 16 0 4
    [⟨0, 16, .rc, 0⟩, ⟨16, 16, .rc, 0⟩, ⟨32, 16, .rc, 0⟩, ⟨48, 16, .rc, 0⟩]
  | .TML_ROUTE => arr false 0xA0200 false 8 0 16
    [⟨0, 2, .ro, 0⟩, ⟨2, 4, .ro, 0⟩, ⟨6, 2, .ro, 0⟩, ⟨8, 4, .ro, 0⟩, ⟨12, 1, .ro, 0⟩, ⟨13, 1, .ro, 0⟩,
     ⟨14, 1, .ro, 0⟩]
  | .TML_LINKMAP => one false 0xA0280 true [⟨0, 64, .ro, 0⟩]
  | .TML_TIME => one false 0xA0400 true [⟨0, 64, .ro, 0⟩]
  | .TML_TIME_STAT => one false 0xA0408 true
    [⟨0, 1, .ro, 0⟩, ⟨1, 1, .ro, 0⟩, ⟨2, 2, .ro, 0⟩, ⟨4, 4, .ro, 0⟩, ⟨8, 16, .ro, 0⟩, ⟨24, 16, .rc, 0⟩,
     ⟨40, 16, .rc, 0⟩]
  | .TML_TIME_CAL => one false 0xA0410 false [⟨0, 32, .rw, 0⟩]
  | .TML_EPOCH_CFG => one false 0xA0420 true [⟨0, 40, .rw, 0⟩, ⟨40, 1, .rw, 0⟩, ⟨41, 1, .rw, 0⟩]
  | .TML_EPOCH => one false 0xA0428 true [⟨0, 64, .ro, 18446744073709551615⟩]
  | .TML_XFER => one false 0xA0430 true [⟨0, 6, .ro, 0⟩, ⟨6, 10, .ro, 0⟩, ⟨32, 16, .rc, 0⟩, ⟨48, 16, .rc, 0⟩]
  | .TML_E2E => arr false 0xA0500 false 8 0 16 [⟨0, 7, .ro, 0⟩, ⟨8, 7, .ro, 0⟩, ⟨16, 16, .ro, 0⟩]
  | .IRQ_CLAIM => one true 0x1000 false [⟨0, 16, .ro, 65535⟩]
  | .IRQ_EOI => one true 0x1004 false [⟨0, 1, .wo, 0⟩]
  | .IRQ_LINE_MASK => one true 0x1008 false [⟨0, 1, .rw, 0⟩]
  | .IRQ_STAT => one true 0x100C false [⟨0, 1, .ro, 0⟩, ⟨1, 1, .ro, 0⟩, ⟨2, 1, .ro, 0⟩, ⟨8, 8, .rc, 0⟩]
  | .IRQ_EN => one true 0x1010 true [⟨0, 64, .rw, 0⟩]
  | .IRQ_PEND => one true 0x1018 true [⟨0, 64, .w1c, 0⟩]
  | .IRQ_FN_CAUSE => one true 0x1020 false
    [⟨0, 1, .w1c, 0⟩, ⟨1, 1, .w1c, 0⟩, ⟨2, 1, .w1c, 0⟩, ⟨3, 1, .w1c, 0⟩, ⟨4, 1, .w1c, 0⟩]
  | .IRQ_VMAP => arr true 0x1100 false 4 0 64 [⟨0, 32, .ro, 0⟩]
  | .IRQ_MAP => RegSpec.mk false 0xC0000 false 256 0 64 4 63 [⟨0, 9, .rw, 0⟩, ⟨9, 1, .rw, 0⟩]
  | .IRQ_GSTAT => one false 0xC4000 false [⟨0, 1, .w1c, 0⟩]
  | .IRQ_FN_EVT => one false 0xC4008 true [⟨0, 64, .w1c, 0⟩]
  | .IRQ_STORM_CFG => one false 0xC4010 false [⟨0, 16, .rw, 500⟩]
  | .IRQ_QUENCH => arr false 0xC4040 true 8 0 8 [⟨0, 64, .w1c, 0⟩]
  | .IRQ_WAKE_EN => arr false 0xC4080 true 8 0 8 [⟨0, 64, .rw, 0⟩]
  | .IRQ_MG_PEND => arr false 0xC4100 true 8 0 8 [⟨0, 64, .w1c, 0⟩]
  | .IRQ_MG_EN => arr false 0xC4140 true 8 0 8 [⟨0, 64, .rw, 0⟩]
  | .IRQ_SS_PEND => arr false 0xC4180 true 8 0 8 [⟨0, 64, .ro, 0⟩]
  | .IRQ_SS_EN => arr false 0xC41C0 true 8 0 8 [⟨0, 64, .ro, 0⟩]
  | .IRQ_DB_PEND => arr false 0xC4200 true 8 0 8 [⟨0, 64, .ro, 0⟩]
  | .OBS_FREEZE_CTL => one false 0xE0000 false
    [⟨0, 1, .wo, 0⟩, ⟨1, 1, .rw, 0⟩, ⟨2, 1, .w1c, 0⟩, ⟨3, 1, .wo, 0⟩, ⟨4, 1, .rw, 0⟩]
  | .OBS_FREEZE_AT => one false 0xE0008 true [⟨0, 64, .rw, 18446744073709551615⟩]
  | .OBS_FREEZE_STAT => one false 0xE0010 true [⟨0, 16, .ro, 0⟩, ⟨16, 4, .ro, 0⟩, ⟨20, 1, .ro, 0⟩, ⟨32, 16, .rc, 0⟩]
  | .OBS_FREEZE_TIME => one false 0xE0018 true [⟨0, 64, .ro, 0⟩]
  | .OBS_CAP => one false 0xE0020 false [⟨0, 4, .rw, 4⟩]
  | .TRC_GCFG => one false 0xE1000 false [⟨0, 6, .rw, 0⟩, ⟨6, 1, .rw, 0⟩]
  | .TRC_RING_BASE => arr false 0xE1100 true 32 0 9 [⟨12, 52, .rw, 0⟩]
  | .TRC_RING_CFG => arr false 0xE1108 false 32 0 9 [⟨0, 5, .rw, 7⟩, ⟨5, 1, .rw, 0⟩, ⟨16, 16, .rw, 0⟩]
  | .TRC_RING_PI => arr false 0xE1110 false 32 0 9 [⟨0, 32, .ro, 0⟩]
  | .TRC_RING_CI => arr false 0xE1114 false 32 0 9 [⟨0, 32, .rw, 0⟩]
  | .TRC_RING_STAT => arr false 0xE1118 true 32 0 9 [⟨0, 32, .ro, 0⟩, ⟨32, 32, .ro, 0⟩]
  | .TRC_TRIG => one false 0xE1300 true
    [⟨0, 8, .rw, 0⟩, ⟨8, 1, .rw, 0⟩, ⟨9, 1, .rw, 0⟩, ⟨10, 2, .rw, 0⟩, ⟨12, 1, .rw, 0⟩, ⟨13, 1, .rw, 0⟩,
     ⟨32, 16, .rw, 0⟩, ⟨48, 16, .rw, 0⟩]
  | .WCH_CNT => one false 0xE2000 true [⟨0, 32, .rc, 0⟩, ⟨32, 32, .rc, 0⟩]
  | .OBS_STOP_CFG => one false 0xE3000 false [⟨0, 1, .rw, 0⟩, ⟨1, 1, .rw, 0⟩, ⟨2, 1, .rw, 0⟩]
  | .OBS_STOP_CTL => one false 0xE3008 false [⟨0, 1, .wo, 0⟩, ⟨1, 1, .wo, 0⟩, ⟨2, 1, .wo, 0⟩]
  | .OBS_STOP_STAT => one false 0xE3010 true
    [⟨0, 1, .ro, 0⟩, ⟨1, 1, .ro, 0⟩, ⟨2, 1, .ro, 0⟩, ⟨3, 4, .ro, 0⟩, ⟨7, 1, .ro, 0⟩, ⟨8, 1, .ro, 0⟩,
     ⟨9, 1, .ro, 0⟩, ⟨32, 32, .ro, 0⟩]
  | .OBS_STOP_TIME => one false 0xE3018 true [⟨0, 64, .ro, 0⟩]
  | .OBS_SCAN_BASE => one false 0xE3020 true [⟨12, 52, .rw, 0⟩]
  | .OBS_SCAN_SIZE => one false 0xE3028 true [⟨0, 40, .rw, 0⟩]
  | .OBS_HANG_DEST => one false 0xE3800 true [⟨12, 52, .rw, 0⟩]
  | .OBS_HANG_CFG => one false 0xE3808 false [⟨0, 8, .rw, 32⟩]
  | .OBS_HANG_CTL => one false 0xE3810 false [⟨0, 1, .wo, 0⟩]
  | .OBS_HANG_STAT => one false 0xE3818 true
    [⟨0, 1, .w1c, 0⟩, ⟨1, 1, .ro, 0⟩, ⟨2, 1, .ro, 0⟩, ⟨3, 1, .w1c, 0⟩, ⟨16, 16, .rc, 0⟩, ⟨32, 16, .ro, 0⟩]
  | .OBS_PCFG => arr false 0xE4000 true 8 0 512
    [⟨0, 9, .rw, 0⟩, ⟨9, 1, .rw, 0⟩, ⟨10, 3, .rw, 0⟩, ⟨13, 1, .rw, 0⟩, ⟨14, 10, .rw, 0⟩, ⟨24, 1, .rw, 0⟩,
     ⟨32, 16, .rw, 0⟩]
  | .OBS_CNT => arr false 0xE8000 true 8 0 1024 [⟨0, 64, .ro, 0⟩]
  | .OBS_SHADOW => arr false 0xEA000 true 8 0 1024 [⟨0, 64, .ro, 0⟩]
  | .OBS_CTX_SEL => one true 0xC000 false [⟨0, 10, .rw, 0⟩, ⟨16, 1, .ro, 0⟩]
  | .OBS_CTX_SEQ => one true 0xC008 false [⟨0, 16, .ro, 0⟩]
  | .OBS_CTX_LIVE => arr true 0xC040 true 8 0 8 [⟨0, 64, .ro, 0⟩]
  | .OBS_CTX_SHADOW => arr true 0xC080 true 8 0 8 [⟨0, 64, .ro, 0⟩]
  | .TRC_FN_RING => one true 0xC100 true [⟨12, 52, .ro, 0⟩, ⟨6, 1, .ro, 0⟩, ⟨0, 5, .ro, 0⟩]
  | .TRC_FN_PI => one true 0xC108 false [⟨0, 32, .ro, 0⟩]
  | .TRC_FN_CI => one true 0xC10C false [⟨0, 32, .rw, 0⟩]
  | .MCS_VERSION => arr false 0x100000 true 8 0 8 [⟨0, 64, .ro, 0⟩]
  | .MCS_RTN_MAP => arr false 0x100040 true 8 0 4 [⟨0, 64, .ro, 0⟩]
  | .MCS_LOAD_STAT => one false 0x100060 true
    [⟨0, 1, .ro, 0⟩, ⟨1, 3, .ro, 0⟩, ⟨4, 1, .ro, 0⟩, ⟨8, 4, .ro, 0⟩, ⟨32, 32, .ro, 0⟩]
  | .MCS_MATCH => arr false 0x100100 true 8 0 64
    [⟨0, 15, .ro, 0⟩, ⟨16, 11, .ro, 0⟩, ⟨32, 1, .ro, 0⟩, ⟨33, 1, .ro, 0⟩, ⟨36, 12, .ro, 0⟩]
  | .MCS_RTN => arr false 0x100800 true 8 0 256
    [⟨0, 12, .ro, 0⟩, ⟨12, 12, .ro, 0⟩, ⟨24, 4, .ro, 0⟩, ⟨28, 1, .ro, 0⟩, ⟨32, 8, .ro, 0⟩]
  | .VXB_ID => one false 0x0 true [⟨0, 2, .ro, 0⟩, ⟨8, 8, .ro, 0⟩, ⟨16, 32, .ro, 0⟩]
  | .VXB_CAP_PTR => one false 0x8 false [⟨0, 24, .ro, 0⟩]
  | .VXB_START_STAT => one false 0x10 true
    [⟨0, 3, .ro, 0⟩, ⟨3, 1, .ro, 0⟩, ⟨4, 1, .ro, 0⟩, ⟨5, 1, .ro, 0⟩, ⟨6, 1, .ro, 0⟩, ⟨7, 1, .ro, 0⟩,
     ⟨8, 8, .ro, 0⟩, ⟨32, 32, .ro, 0⟩]
  | .VXB_PLINTH => one false 0x18 true [⟨0, 32, .ro, 0⟩, ⟨32, 32, .ro, 0⟩]
  | .FN_CAP_PTR => one true 0x8 false [⟨0, 16, .ro, 0⟩]

/-- The registers, part 1. -/
def regList1 : List Reg :=
  [.VXB_HOST_LINK, .VXB_FLASH_MODE, .VXB_MGMT_STAT, .VXB_DOMAIN_STAT, .VXB_RESET_CAUSE, .VXB_DIN_CFG,
   .VXB_DIN_STAT, .VXB_DIN_TS, .VXB_DIN_EVT, .DB_PI, .DB_STAT, .ADM_SQ_BASE, .ADM_CR_BASE, .ADM_CFG, .ADM_STAT,
   .ADM_SQ_PI, .ADM_SQ_CI, .ADM_CR_PI, .ADM_CR_CI, .ADM_VF_PEND, .ADM_VF_PI_CI, .ADM_VF_SQ_BASE, .QS_STRETCH,
   .QS_DEMAND, .QS_FLIGHT, .QS_CR_STATE, .QS_SQ_STATE, .EV_FN_HANDLE, .EV_FN_VALUE, .EV_FN_RECORD, .EV_FN_CTL,
   .EV_SEM_CFG, .EV_SEL, .EV_VALUE, .EV_INFO, .EV_STAT, .EV_PROXY_FULL, .SCH_CLASS_WEIGHT, .SCH_CLASS_WEIGHT2,
   .SCH_STAT, .SCH_VC_MIN, .SCH_VC_MIN_BG, .SCH_CTX_SEL, .SCH_CTX_ACCT, .CYC_CFG, .CYC_STAT, .CYC_PERIOD_NO,
   .CYC_PERIOD_START, .CYC_NEXT_START, .CYC_SLOT_SEL, .CYC_SLOT_CNT, .CYC_SLOT_ADMIT, .CYC_SLOT_ENERGY, .GOV_STAT,
   .GOV_PRICE, .GOV_PROFILE, .GOV_CAP_MGMT, .GOV_CAP_F0, .GOV_BUDGET, .GOV_POWER, .GOV_HEADROOM, .GOV_VF,
   .GOV_TLIMIT, .GOV_TSTAT, .GOV_STALE, .GOV_FAILED, .GOV_SAG_CFG, .GOV_SAG_STAT]

/-- The registers, part 2. -/
def regList2 : List Reg :=
  [.GOV_ALARM_CFG, .GOV_LEARN, .GOV_CORR_SEL, .GOV_CORR, .GOV_LEDGER, .GOV_UNATTR, .GOV_PRICE_TAB,
   .GOV_PRICE_TAB_CTL, .GOV_RUNG, .GOV_RUNG_RES, .GOV_RUNG_ENT, .GOV_BE, .GOV_IDLE, .GOV_IDLE_AVG, .GOV_MAP,
   .GOV_TEMP, .SCH_MQ_CFG, .SCH_MQ_STAT, .SCH_MQ_CNT, .SCH_LANE_STAT, .SCH_STEAL_CNT, .SCH_ENGMAP,
   .SCH_CORE_PRESENT, .SCH_CORE_STATE, .ERR_STAT, .ERR_CE, .ERR_REC, .ERR_CNT, .ERR_REGROW, .ERR_TEARDOWN,
   .ERR_INJECT, .FN_ID, .FN_STAT, .FN_CTL, .VXB_VF_EN, .VXB_FN_CFG, .VXB_FN_QUOTA, .VXB_PART_RES, .VXB_PART_CORES,
   .VXB_PART_REQ, .VXB_PART_REQ_STAT, .VXB_PART_PAGES, .SEC_STAT, .SEC_ZEROISE, .SEC_SLOT, .SEC_LINK, .SEC_FT,
   .SEC_MGMT, .MCI_PART, .MCI_SEAL, .MCI_STAT, .MCI_FAIL_ADDR, .WG_STAT, .SEC_FN_MBOX_REQ, .SEC_FN_MBOX_RSP,
   .SEC_FN_MBOX_CTL, .SEC_FN_KEYS, .SEC_FN_KEY_FREE, .MCI_FN_RELEASE, .MCI_FN_REL_STAT, .TML_CFG, .TML_STAT,
   .TML_CTL, .TML_PORT, .TML_PORT_CNT, .TML_ROUTE, .TML_LINKMAP, .TML_TIME]

/-- The registers, part 3. -/
def regList3 : List Reg :=
  [.TML_TIME_STAT, .TML_TIME_CAL, .TML_EPOCH_CFG, .TML_EPOCH, .TML_XFER, .TML_E2E, .IRQ_CLAIM, .IRQ_EOI,
   .IRQ_LINE_MASK, .IRQ_STAT, .IRQ_EN, .IRQ_PEND, .IRQ_FN_CAUSE, .IRQ_VMAP, .IRQ_MAP, .IRQ_GSTAT, .IRQ_FN_EVT,
   .IRQ_STORM_CFG, .IRQ_QUENCH, .IRQ_WAKE_EN, .IRQ_MG_PEND, .IRQ_MG_EN, .IRQ_SS_PEND, .IRQ_SS_EN, .IRQ_DB_PEND,
   .OBS_FREEZE_CTL, .OBS_FREEZE_AT, .OBS_FREEZE_STAT, .OBS_FREEZE_TIME, .OBS_CAP, .TRC_GCFG, .TRC_RING_BASE,
   .TRC_RING_CFG, .TRC_RING_PI, .TRC_RING_CI, .TRC_RING_STAT, .TRC_TRIG, .WCH_CNT, .OBS_STOP_CFG, .OBS_STOP_CTL,
   .OBS_STOP_STAT, .OBS_STOP_TIME, .OBS_SCAN_BASE, .OBS_SCAN_SIZE, .OBS_HANG_DEST, .OBS_HANG_CFG, .OBS_HANG_CTL,
   .OBS_HANG_STAT, .OBS_PCFG, .OBS_CNT, .OBS_SHADOW, .OBS_CTX_SEL, .OBS_CTX_SEQ, .OBS_CTX_LIVE, .OBS_CTX_SHADOW,
   .TRC_FN_RING, .TRC_FN_PI, .TRC_FN_CI, .MCS_VERSION, .MCS_RTN_MAP, .MCS_LOAD_STAT, .MCS_MATCH, .MCS_RTN, .VXB_ID,
   .VXB_CAP_PTR, .VXB_START_STAT, .VXB_PLINTH, .FN_CAP_PTR]

/-- Every register. -/
def regList : List Reg := regList1 ++ regList2 ++ regList3

/-- The storage key of a register. In the function window `i` is the function and `j` the index; in the global window
`i` and `j` are the indices. -/
def Reg.key (r : Reg) (i j : Nat) : Nat :=
  let p := r.spec
  if p.fnWin then 0x400000 + i * 0x10000 + p.off + p.s1 * j else p.off + p.s1 * i + p.s2 * j

/-- The indices at which an offset falls on a register's own place (its first byte), if it does. -/
def Reg.hit (r : Reg) (off : Nat) : Option (Nat × Nat) :=
  let p := r.spec
  if off < p.off then none
  else if p.s1 = 0 then (if off = p.off then some (0, 0) else none)
  else
    let i := (off - p.off) / p.s1
    let rest := (off - p.off) % p.s1
    if i < p.lo1 || p.hi1 ≤ i then none
    else if p.s2 = 0 then (if rest = 0 then some (i, 0) else none)
    else if rest % p.s2 = 0 && rest / p.s2 < p.hi2 then some (i, rest / p.s2) else none

/-- The register at an offset of a window, with its indices (R464). -/
def regAt (fnWin : Bool) (off : Nat) : Option (Reg × Nat × Nat) :=
  regList.findSome? (fun r =>
    if r.spec.fnWin = fnWin then (r.hit off).map (fun ij => (r, ij.1, ij.2)) else none)

/-- The mask of a field. -/
def RegField.mask (f : RegField) : Word := BitVec.ofNat 64 ((2 ^ f.w - 1) <<< f.lo)

/-- The mask of the fields whose access code satisfies `p`. -/
def maskOf (p : Acc → Bool) (fs : List RegField) : Word :=
  fs.foldl (fun m f => if p f.acc then m ||| f.mask else m) 0#64

/-- The reset word of a register's fields. -/
def rstWord (fs : List RegField) : Word := mkWord (fs.map (fun f => (f.lo, f.w, f.rst)))

/-- What a read returns of a stored word: WO and reserved fields read zero (R10, R11). -/
def accRead (fs : List RegField) (v : Word) : Word := v &&& maskOf (fun a => a != .wo) fs

/-- The stored word after a read: RC fields clear (R10). -/
def accAfterRead (fs : List RegField) (v : Word) : Word := v &&& ~~~(maskOf (fun a => a == .rc) fs)

/-- The stored word after a write of `x` over `v`, each field by its access code (R10); `lk` is the lock of RWL fields. -/
def accWrite (fs : List RegField) (lk : Bool) (v x : Word) : Word :=
  let st := maskOf (fun a => a == .rw || (a == .rwl && !lk)) fs
  let cl := maskOf (fun a => a == .w1c) fs
  ((v &&& ~~~st) ||| (x &&& st)) &&& ~~~(x &&& cl)

end Sys2Proof.Machine
end

