-- ==== Sys2Proof/Machine/State.lean ====
section
/-! DEFINITION. The state of Voxbin as plain data: the registers, the tables of queues, contexts, events, semaphores,
submissions, tasks and teardowns, the engines as Voxbin knows them, the queue of waiting commands and the log of what
has left through the ports. `State.reset` is the block when PO_RST_N has just been released (R45, R455). -/

namespace Sys2Proof.Machine

/-- Why a command stops the model. The spec stops the block nowhere, so there is one constructor and no meaning raises
it: it stands so that the outcome type has a name to give (safe: it is never reached). -/
inductive Fault where
  | unreachable
  deriving DecidableEq, Repr

/-- Why a command is refused. `notModelled` names a row without a meaning. `romPrivate` is raised by MICROWORD alone, for
an operation, operand or channel of the hardware's private encodings, whose effect the spec does not give (R435, R437,
R439). Both are safe: the model goes on nowhere. -/
inductive Refusal where
  | notModelled (mnemonic : String)
  | romPrivate
  deriving DecidableEq, Repr

/-- Queue states (Table 02-11), in the order of their codes. -/
inductive QState where
  | free | active | held | destroying | halted | reset
  deriving DecidableEq, Repr

/-- The code of a queue state. -/
def QState.code (q : QState) : Nat :=
  match q with
  | .free => 0 | .active => 1 | .held => 2 | .destroying => 3 | .halted => 4 | .reset => 5

/-- A completion that is decided: its entry (Table 02-3), and whether its interrupt is due (R67). -/
structure Cpl where
  sq : Nat
  seq : Nat
  entry : List Word
  irqDue : Bool
  stage : Nat := 0
  deriving DecidableEq, Repr

/-- A submission queue (Table 02-8, R55, R66, R73). `arrived` holds the entries whose read data has come and that are
not accepted; `held` the completions of R91; `accepted` the last sequence number given; `retired` the sequence numbers
retired above the retired sequence number. -/
structure Sq where
  fn : Nat
  ctx : Nat
  cr : Nat
  base : Word
  log2 : Nat
  poll : Nat
  depth : Nat
  irq : Bool
  dbSlot : Nat
  seqAddr : Word
  drainUs : Nat
  state : QState := .active
  pi : Half := 0
  ci : Half := 0
  fetched : Half := 0
  arrived : List (List Word) := []
  badPi : Bool := false
  accepted : Nat := 0
  retiredSeq : Nat := 0
  retired : List Nat := []
  due : Nat := 0
  held : List Cpl := []
  deriving DecidableEq, Repr

/-- A completion ring. `reserved` counts the slots reserved under R74. -/
structure Cr where
  fn : Nat
  base : Word
  log2 : Nat
  irqSrc : Nat
  dbSlot : Nat
  piShadow : Word
  state : QState := .active
  pi : Half := 0
  ci : Half := 0
  badCi : Bool := false
  reserved : Nat := 0
  deriving DecidableEq, Repr

/-- An accepted administrative entry that has not completed (R79): its qwords and whether it has started. -/
structure AdmEntry where
  idx : Nat
  q : List Word
  started : Bool := false
  deriving DecidableEq, Repr

/-- A fetched and not accepted entry of F0's admin SQ: its read is outstanding, its data has come, its read faulted or was
refused (R26), or it waits to be read again after a later doorbell. -/
inductive AdmCell where
  | reading
  | data (e : List Word)
  | failed
  | again
  deriving DecidableEq, Repr

/-- The admin queue of F0 as the scanner holds it (R73, R83): the index up to which it has fetched, the entries from the consumer
index on, the next index for a progress record, the progress records, and the completion slots reserved. -/
structure Adm where
  fetched : Half := 0
  cells : List AdmCell := []
  next : Nat := 0
  prog : List AdmEntry := []
  reserved : Nat := 0
  deriving DecidableEq, Repr

/-- Kinds of waiting-on record (Table 04-3), in the order of their codes. -/
inductive WaitKind where
  | event (handle : Half) (target : Word)
  | sem (node index count : Nat)
  | credit (port node : Nat)
  | maquette
  | crSpace (cr : Nat)
  | drain (cls : Cls) (peng : Nat)
  | window
  | earlier (sq seq : Nat)
  deriving DecidableEq, Repr

/-- A waiting-on record (R140): what is waited for, since when, and the moment a timeout elapses, if there is one. -/
structure WaitRec where
  kind : WaitKind
  since : Nat
  deadline : Option Nat := none
  deriving DecidableEq, Repr

/-- An address register (R117). -/
structure AReg where
  base : Word := 0
  stride : Int := 0
  mask : Nat := 0
  deriving DecidableEq, Repr

/-- An open loop (R118). -/
structure Loop where
  trips : Nat
  body : Nat
  deriving DecidableEq, Repr

/-- A watch (R122): its fields as resolved, and the layer and operator its result names. -/
structure Watch where
  target : Nat
  kind : Nat
  elem : Nat
  range : Nat
  addr : Word
  len : Nat
  result : Word
  layer : Nat
  op : Nat
  deriving DecidableEq, Repr

/-- A CALL in progress (R119, R120): its routine, the CALL's header, its arguments with the addresses resolved and the data
it has read; `started` once it has what it needs, the next of the `total` commands it issues, and the counters it writes at
its end. A customer routine's handed command stands in `ibuf` (R442); its committed scratch
registers stand in `data`, its commit points so far in `idx` (R443), and `total` is 1 once END was taken with an ISSUE. -/
structure Call where
  routine : Nat
  hdr : Word
  args : List Word
  data : List Word := []
  idx : Nat := 0
  total : Nat := 0
  after : List (Nat × Word) := []
  started : Bool := false
  ibuf : Option (List Word) := none
  deriving DecidableEq, Repr

/-- How a submission ends early: status, the command to which it applies (R64, R125), and the fabric time at which the status was
decided, which its completion entry carries (Table 02-3). -/
structure EndRec where
  status : Nat
  off : Nat
  layer : Nat
  op : Nat
  at0 : Nat
  deriving DecidableEq, Repr

/-- A flight-table entry: an accepted submission with the state of Table 03-6. `words` holds the words of its buffer that
block reads have delivered, by word index. `pend` lists the engine commands handed over and not yet launched, `out` those
launched and not completed; `age` rises with each acceptance among the entries taken. -/
structure Flight where
  sq : Nat
  seq : Nat
  marker : Bool
  ordered : Bool
  irqForce : Bool
  tag : Half
  addr : Word
  length : Nat
  arg : Word
  ctx : Nat
  off : Nat := 0
  c : List Word := []
  k : List Bool := [false, false, false, false]
  areg : List AReg := List.replicate 16 {}
  loops : List Loop := []
  watches : List Watch := []
  watching : Option Watch := none
  words : Tab Word := []
  pend : List Nat := []
  out : List Nat := []
  launchedAny : Bool := false
  wait : Option WaitRec := none
  ending : Option EndRec := none
  lastLayer : Nat := 0
  lastOp : Nat := 0
  seqr : Option Nat := none
  readySince : Option Nat := none
  call : Option Call := none
  count : Nat := 0
  inTeardown : Bool := false
  age : Nat := 0
  deriving DecidableEq, Repr

/-- A range of workgroups (Table 07-2). -/
structure Range where
  first : Nat
  last : Nat
  stride : Nat
  deriving DecidableEq, Repr

/-- A rank of a cores task: the core that holds it, the ranges it still has to run (the first is the one launched when
`running`), and what R251 counts. -/
structure Rank where
  core : Nat
  ranges : List Range
  launched : Bool := false
  running : Bool := false
  released : Bool := false
  count : Nat := 0
  launchAt : Nat := 0
  deriving DecidableEq, Repr

/-- A weight blob's header, once it has been checked (Table 10-5). -/
structure BlobHdr where
  model : Word
  plain : Nat
  nonce : BitVec 96
  deriving DecidableEq, Repr

/-- How far the weight gate is with a LOAD_WEIGHTS (R326 to R328): the header, the bytes read of what is in progress, the first chunk
not written, and whether the command ends with INTEGRITY_FAIL. -/
structure Gate where
  hdr : Option BlobHdr := none
  got : List Byte := []
  chunk : Nat := 0
  failed : Bool := false
  deriving DecidableEq, Repr

/-- Where an engine command stands. -/
inductive TaskPhase where
  | ready | gathering | preloaded | running | cleaning | done
  deriving DecidableEq, Repr

/-- A stretch of a run segment with inherited precedence (R198): the instance and its slot context, the moments at which it began and
ended, and the engine time and the energy that fell in it. -/
structure Heir where
  inst : Nat
  ctx : Nat
  since : Nat
  till : Option Nat := none
  ns : Nat := 0
  nj : Nat := 0
  deriving DecidableEq, Repr

/-- An engine command handed over and not complete. `words` are its words with every address field resolved; `ranks` and
`progress` belong to cores tasks (R249, R253), and `undo` keeps the progress record and the set size from before a resumed set became
final, for a discard before it launches (R245); `doneBytes` is what a yielded transfer has done, `binned` the primitives and the list
positions that a yielded tiler command has saved (Table 05-7); `inherits` are the stretches of its open segment that ran with inherited
precedence; `cleaning` lists the cores whose clean is outstanding (Table 04-4). -/
structure Task where
  f : Nat
  sq : Nat
  fn : Nat
  ctx : Nat
  part : Nat
  cls : Cls
  opcode : Nat
  words : List Word
  outs : List (Word × Nat) := []
  off : Nat
  layer : Nat
  op : Nat
  isync : Bool
  trace : Bool
  taskGrain : Bool
  engine : Nat
  phase : TaskPhase := .ready
  readyAt : Nat
  launchedEver : Bool := false
  grid : Nat := 0
  setn : Nat := 0
  ranks : List Rank := []
  progress : List (Nat × Range) := []
  undo : Option (List (Nat × Range) × Nat) := none
  doneBytes : Nat := 0
  binned : Nat × Nat := (0, 0)
  wanted : Nat := 0
  held : List Nat := []
  pickedAt : Nat := 0
  hdrSent : Bool := false
  isStatic : Bool := false
  slot : Option Nat := none
  entry : Word := 0
  stateAddr : Word := 0
  stateLen : Nat := 0
  remainder : List Nat := []
  order : List Nat := []
  segs : Nat := 0
  segEng : List (Nat × Nat) := []
  runNs : Nat := 0
  totalNs : Nat := 0
  exNs : Nat := 0
  exWg : Nat := 0
  ranOn : List Nat := []
  cleaning : List Nat := []
  watches : List Watch := []
  yielding : Bool := false
  squashed : Bool := false
  rtc : Bool := false
  rt : Option Nat := none
  deferred : Option Nat := none
  lostRt : Bool := false
  dest : Nat := 0
  xfer : Option Nat := none
  result : Nat := 0
  latchAt : Option Nat := none
  startMv : Nat := 750
  segNj : Nat := 0
  coreNj : Nat := 0
  inherits : List Heir := []
  waitFrom : Nat := 0
  runFrom : Nat := 0
  acked : List Nat := []
  resume : Bool := false
  yieldAt : Option Nat := none
  early : Option Nat := none
  gate : Gate := {}
  deriving DecidableEq, Repr

/-- What runs on an engine: the task and the TAG it was launched with; for a core the rank too. -/
structure Run where
  task : Nat
  tag : Nat
  rank : Nat := 0
  start : Nat := 0
  deriving DecidableEq, Repr

/-- A physical core (R233, SCH_CORE_STATE). `bank` is the task whose preload its shadow bank holds or gathers
for; `scrub` marks a _CTL_ scrub that it has not acknowledged (Tables 09-4 and 09-7). -/
structure Core where
  present : Bool := false
  owner : Option Nat := none
  reserved : Option Nat := none
  run : Option Run := none
  bank : Option Nat := none
  moving : Bool := false
  scrub : Bool := false
  deriving DecidableEq, Repr

/-- A physical engine of a class other than cores. `runs` holds the launched commands, oldest first: at most one, but two
for composition (latched, staged: R109) and eight for a link port (R363). `lastPart` is the partition it last ran for;
`ctl` the control operation it has not acknowledged; `owed` holds the tasks and TAGs of the COMPOSE commands that a latch edge has
completed and whose done record is still to come (R108). -/
structure Eng where
  present : Bool := false
  runs : List Run := []
  lastPart : Option Nat := none
  ctl : Option CtlOp := none
  reservedFor : Option Nat := none
  owed : List (Nat × Nat) := []
  deriving DecidableEq, Repr

/-- A trim that is not answered (R251): the victim and the core it is for, the task, the trims sent so far with this one,
the victim's last workgroup when it was sent, and the TAG it carries. -/
structure Trim where
  victim : Nat
  thief : Nat
  task : Nat
  tried : List Nat
  oldLast : Nat
  tag : Nat
  deriving DecidableEq, Repr

/-- A due launch (R235): class, engine, task, rank or continuation range, and since when it is due; `stalled` while it waits for a remainder
or a scrub. -/
structure Due where
  cls : Cls
  peng : Nat
  task : Nat
  rank : Nat := 0
  cont : Option Range := none
  at0 : Nat
  stalled : Bool := false
  deriving DecidableEq, Repr

/-- What a stream of a cluster channel carries (R241, R244). -/
inductive MqKind where
  | image | header | remainder
  deriving DecidableEq, Repr

/-- A stream of a cluster channel: its task, the cores it fills, and whether it is the one in progress; the streams that
wait stand behind it in their order (R241). `sent` marks a stream in progress whose writes have left; `dead` one whose preload is
discarded, which only its acknowledgement ends. -/
structure MqJob where
  cluster : Nat
  task : Nat
  kind : MqKind
  cores : List Nat
  active : Bool := false
  sent : Bool := false
  dead : Bool := false
  deriving DecidableEq, Repr

/-- A maquette slot that is taken (R239): its task, and its image once the task's state has been read. -/
structure MqSlot where
  task : Nat
  image : Option (List Word) := none
  deriving DecidableEq, Repr

/-- A maquette write (Table 07-6). -/
structure MqWrite where
  data : List Word
  core : Nat := 15
  offset : Nat := 0
  header : Bool := false
  select : Bool := false
  deriving DecidableEq, Repr

/-- A staged hint (R246): its submission, place and length, when it took the slot, and its image once that has been read. -/
structure Hint where
  f : Nat
  addr : Word
  len : Nat
  at0 : Nat
  image : Option (List Word) := none
  deriving DecidableEq, Repr

/-- A bound event (R127, R130, R131, R134). Waiters are local submissions with their targets; proxies are waiting nodes
with the lowest target each awaits. -/
structure Event where
  part : Nat
  value : Word
  abandoned : Bool := false
  recorder : Option (Nat × Nat) := none
  waiters : List (Nat × Word) := []
  proxies : List (Nat × Word) := []
  deriving DecidableEq, Repr

/-- A queued acquirer: a submission of this node, or a context of another node (R137). -/
structure Acq where
  node : Nat
  f : Nat
  ctx : Nat
  count : Nat
  deriving DecidableEq, Repr

/-- A recorded holder (R138). -/
structure Holder where
  ctx : Nat
  node : Nat
  count : Nat
  deriving DecidableEq, Repr

/-- A fabric semaphore (R137, EV_SEM_CFG). -/
structure Sem where
  value : Nat := 0
  part : Nat := 0
  bound : Bool := false
  ovf : Bool := false
  refused : Bool := false
  leaked : Nat := 0
  queue : List Acq := []
  holders : List Holder := []
  more8 : Bool := false
  deriving DecidableEq, Repr

/-- A local waiter on a remote event (R134): its submission and target, and, after a refusal by the home, the
moment `retryAt` of the next attempt. -/
structure RemoteWait where
  handle : Half
  f : Nat
  target : Word
  retryAt : Option Nat := none
  deriving DecidableEq, Repr

/-- The command that an operation at a remote home belongs to: its context, offset, layer and operator. -/
structure CmdRef where
  ctx : Nat
  off : Nat
  layer : Nat
  op : Nat
  deriving DecidableEq, Repr

/-- An operation sent to another node and not yet acknowledged (R369, R370): the submission or the function (R136) it is
for, and, for the record of a link transfer (R111), which no submission awaits, the transfer's command; `back` marks a SEM_REL that gives
back a grant which nothing waited for any more. -/
structure RemoteOp where
  dest : Nat
  seq : Nat
  msg : Msg
  f : Option Nat
  host : Option Nat := none
  cmd : Option CmdRef := none
  back : Bool := false
  deriving DecidableEq, Repr

/-- An acquirer that a submission of this node has queued at a remote home and that is not granted (R137), in the order sent; `f` is
none once the submission no longer waits. -/
structure RemoteAcq where
  home : Nat
  index : Nat
  count : Nat
  ctx : Nat
  f : Option Nat
  deriving DecidableEq, Repr

/-- Counts that a context of this node holds at a remote home, as this node has seen them granted and released (R137, R195). -/
structure RemoteHold where
  home : Nat
  index : Nat
  ctx : Nat
  count : Nat
  deriving DecidableEq, Repr

/-- A context with its accounting (R154, R402). -/
structure Ctx where
  fn : Nat
  part : Nat
  share : Nat
  det : Bool
  noSteal : Bool
  noRotate : Bool
  background : Bool
  wdMs : Nat
  vc : Word := 0
  active : Bool := false
  engNs : List Nat := [0, 0, 0, 0, 0, 0]
  nj : Nat := 0
  segs : Nat := 0
  preempts : Nat := 0
  waitNs : Nat := 0
  waitMax : Nat := 0
  preLate : Nat := 0
  cnt : List Word := List.replicate 8 0
  shadow : List Word := List.replicate 8 0
  deriving DecidableEq, Repr

/-- The two sides of the device-local aperture (R32): the host initiator and the memory port. -/
inductive Port where
  | host | mem
  deriving DecidableEq, Repr

/-- For whom Voxbin makes an access (R314): the partition whose memory it means (8 is the Voxbin region), the function and the context. -/
structure Issuer where
  part : Option Nat := none
  fn : Option Nat := none
  ctx : Option Nat := none
  deriving DecidableEq, Repr

/-- What an access of Voxbin's own carries (R296, R314, Table 01-5): the port, and, at the memory port, the partition and the key
identifier; host memory is not enciphered. -/
structure Access extends Issuer where
  port : Port
  key : Option Nat := none
  deriving DecidableEq, Repr

/-- A line of the cipher's metadata cache that has not been written back (R321): the node of a partition's tree by level and index, the
way whose part holds it (none for the Voxbin region's own), and the functions whose requests dirtied it. -/
structure MetaLine where
  part : Nat
  level : Nat
  idx : Nat
  way : Option Nat := none
  fns : List Nat := []
  deriving DecidableEq, Repr

/-- A read that Voxbin has issued and that has not ended: what it serves, where it went and what it covers. -/
structure RdOut where
  tag : ReadTag
  port : Port
  addr : Word
  bytes : Nat
  deriving DecidableEq, Repr

/-- What a frame carries: nothing, what TRAIN says, a step of a handshake, a control message with its number, a part of a segment, or what a
forwarded frame brought: the port and the virtual channel in which it came and its counter there, `owe` while its buffer's hop credit has
to go back (R353). -/
inductive FrameBody where
  | none
  | train (i : TrainInfo)
  | kex (m : KexMsg)
  | msg (seq : Nat) (m : Msg)
  | seg
  | through (inp vc ctr : Nat) (owe : Bool)
  deriving DecidableEq, Repr

/-- A frame of a port with what it carries. `text` holds its bodies in clear while it waits, and their cipher text once it has left. -/
structure Frame extends FrameIn where
  body : FrameBody := .none
  deriving DecidableEq, Repr

/-- What leaves Voxbin through its ports, in the order in which it leaves. `ways` tells the system cache what to do with ways of a
partition (Table 09-5), `wipe` a core to scrub without write-back (Table 09-7 step 6); a `node` goes to the metadata area of a channel. A
`tail` is a write of less than eight bytes. `msg`, `seg` and `flood` are what the Tamnel controller hands to its link ports, `frame` what
leaves those. -/
inductive Emit where
  | read (acc : Access) (tag : ReadTag) (addr : Word) (bytes : Nat)
  | write (acc : Access) (addr : Word) (data : List Word)
  | irq (fn : Nat)
  | ibi (byte : Byte)
  | ctl (cls : Cls) (peng : Nat) (op : CtlOp) (tag : Nat)
  | launch (cls : Cls) (peng : Nat) (rec : List (Nat × Nat × Nat))
  | mq (cluster : Nat) (w : MqWrite)
  | msg (dest : Nat) (seq : Nat) (m : Msg)
  | regData (who : Who) (v : Word)
  | frame (port : Nat) (f : Frame)
  | seg (dest xfer index : Nat)
  | flood (src seq : Nat) (m : Msg)
  | pin (name : String) (level : Bool)
  | vf (cluster : Nat) (point : Nat)
  | stretch (group : Nat) (on : Bool)
  | sagLevel (sensor : Nat) (level : Nat)
  | tables (spill : Bool) (addr : Nat)
  | cipher (op : String) (part : Nat)
  | ways (op : String) (part : Option Nat) (mask : BitVec 48)
  | wipe (core : Nat)
  | line (part key channel offset : Nat) (text : List (BitVec 128)) (mac : Word)
  | node (part key channel level idx : Nat) (node : TreeNode)
  | plain (addr : Word) (data : List Byte)
  | spdm (peer : SpdmPeer) (a : SpdmAns)
  | scan (w : Word)
  | tail (acc : Access) (addr : Word) (data : List Byte)
  | wake (rung : Nat)
  | fnReset (fn : Nat)
  | loadAns (result detail : Nat)
  deriving DecidableEq, Repr

/-- A wait-for edge on which precedence inheritance rests (R195): the holder, the home and index of the semaphore, and the submission
that waits for it. -/
structure Edge where
  holder : Nat
  home : Nat
  index : Nat
  f : Nat
  deriving DecidableEq, Repr

/-- A slot instance from the moment it takes its cores (R248) until its deadline work is over. `wasRunning` tells that a task of it ran at
a deadline that a regrowth put off, and was done before the regrowth carried it out (R279). -/
structure Inst where
  slot : Nat
  def0 : Slot
  margin : Nat
  period : Nat
  start : Nat
  started : Bool := false
  cores : List Nat := []
  committed : Nat := 0
  usedNj : Nat := 0
  rtNj : Nat := 0
  edges : List Edge := []
  deadlinePassed : Bool := false
  outcome : Nat := 0
  wasRunning : Bool := false
  recordDue : Bool := false
  deriving DecidableEq, Repr

/-- The counters of one slot (CYC_SLOT_CNT, CYC_SLOT_ADMIT, CYC_SLOT_ENERGY). -/
structure SlotCnt where
  out : List Nat := [0, 0, 0, 0]
  deferred : Nat := 0
  rejected : Nat := 0
  lastUj : Nat := 0
  overCnt : Nat := 0
  deriving DecidableEq, Repr

/-- The cyclic table (R167 to R173). `begun` lists the slots of the current period that have started; `pendAt` is the moment
at which a pending table of ANCHOR 0 takes over on its own grid; `running` tells that the slots of the period start (R170);
`deferredActs` holds
the starts and deadlines that fell due while the front end was halted (R279, R423): moment, deadline or not, slot; `voids` the removed
partitions whose slots are void from the next period start on (Table 09-7 step 6). -/
structure Cyc where
  table : Option CycTable := none
  pending : Option CycTable := none
  running : Bool := false
  periods : Nat := 0
  begun : List Nat := []
  preloaded : List Nat := []
  insts : Tab Inst := []
  nextInst : Nat := 0
  pendAt : Option Nat := none
  cnts : Tab SlotCnt := []
  deferredActs : List (Nat × Bool × Nat) := []
  voids : List Nat := []
  deriving DecidableEq, Repr

/-- A guilty fault of a context (R126): the faulting submission, if there is one, its status and the command it applies
to, and the fabric time at which it was detected. -/
structure Guilt where
  ctx : Nat
  f : Option Nat := none
  status : Nat := 4
  off : Nat := 0
  layer : Nat := 0
  op : Nat := 0
  addr : Word := 0
  at0 : Option Nat := none
  deriving DecidableEq, Repr

/-- A teardown sequence (R270), in the order of arrival: its kind and object, the step it is in, whether it holds entry
`slot` of the table and since when, the drain limit, the functions whose limit has passed (`cut`; an autotomy and a
DESTROY_SQ use function 64), and what its last steps need: the fault, the admin entry it answers, the partition request's
or host loss's cause. `merged` marks a DESTROY_SQ that waits for an autotomy (R89). A tenant
removal keeps the functions whose lines the cipher flushes, those it has freed, those whose own reset it has taken in (`asked`), and
the moment its step 3 began, and whether the scrub of its ways is outstanding. `spent` is the
drain time, by function, that sequences taken over had used already (Table 08-5). -/
structure Td where
  kind : TdKind
  obj : Nat
  step : Nat := 1
  has : Bool := false
  slot : Nat := 0
  entered : Nat := 0
  limitNs : Nat := 200000
  cut : List Nat := []
  guilt : Option Guilt := none
  adm : Option Nat := none
  why : Nat := 0
  merged : Bool := false
  mark : Nat := 0
  flushing : List Nat := []
  freed : List Nat := []
  asked : List Nat := []
  ways : Bool := false
  spent : Tab Nat := []
  deriving DecidableEq, Repr

/-- The partition request in progress (R298): kind, ends (none for idleness), mask, whether the scrub of its ways is outstanding (Table
09-5 step 3), and whether it waits for the memory key of a partition that it makes live (R310). -/
structure PartReq where
  kind : Nat
  src : Option Nat
  dst : Option Nat
  mask : BitVec 48
  scrub : Bool := false
  keyWait : Bool := false
  deriving DecidableEq, Repr

/-- A done record (R237), as it is held for regrowth (R39, Table 08-6 step 6): `at0` is the fabric time at which it came; `task` names the
task where Voxbin's own link port, or a latch edge, ends it. -/
structure HeldDone where
  cls : Cls
  peng : Nat
  tag : Nat
  status : Nat
  refused : Bool
  noneLeft : Bool
  next : Nat
  engineNs : Nat
  task : Option Nat := none
  at0 : Nat := 0
  deriving DecidableEq, Repr

/-- The regrowth controller (R272 to R283), and the errors that ERR_INJECT has armed (R288): sequencers whose next microword
read fails parity, and tables whose next read meets an uncorrectable or a correctable error. -/
structure Regrow where
  open0 : Bool := false
  faults : Nat := 0
  cause : Nat := 0
  culprits : List (Nat × Nat) := []
  errs : List TabErr := []
  dones : List HeldDone := []
  autotomies : List Guilt := []
  watchdogs : List Nat := []
  hostLoss : Option Nat := none
  reread : Option (Nat × Nat) := none
  injParity : List Nat := []
  injBad : List Nat := []
  injFix : List Nat := []
  deriving DecidableEq, Repr

/-- A scanner's visit requests (R72, R76): urgent requests in write order (`none` is F0's admin SQ), short SQs in the order
they became short, and the visits whose entries are not all accepted, in their order, with the entries left of each: the order in
which SQs are granted flight-table entries (R75). `again` lists the queues that are never polled, F0's admin SQ (`none`) among them, whose
next visit a regrowth has made due at once (Table 08-6 step 4). -/
structure Scan where
  urgent : List (Option Nat) := []
  short : List (Option Nat) := []
  again : List (Option Nat) := []
  visits : List (Nat × Nat) := []
  deriving DecidableEq, Repr

/-- The interrupt controller's own state: the view pending bits (R387), the raises of each source in the present storm
window (R396), per function the vector mask and the function mask of MSI-X and whether a masked message waits (R390), the sources raised,
taken or quenched, at the moment `raisedAt` of the reference domain, the entries of IRQ_MAP written at the moment `mapAt`, with the words
in force before (R391), and how the in-band interrupt stands: whether one has been requested, and whether management has cleared every
enabled bit since (R394). -/
structure Irq where
  viewPend : BitVec 512 := 0
  storm : Tab Nat := []
  raisedAt : Nat := 0
  raised : List Nat := []
  msixMask : BitVec 64 := 0
  msixFnMask : BitVec 64 := 0
  msixPend : BitVec 64 := 0
  mapAt : Nat := 0
  mapWas : List (Nat × Nat × Word) := []
  ibiAsked : Bool := false
  ibiClear : Bool := false
  deriving DecidableEq, Repr

/-- What a discrete input keeps beside its registers (R48, R50): the moment of the last accepted edge since enable, and, while
stuck detection is armed, the start of the measurement where the level is asserted. -/
structure Din where
  last : Option Nat := none
  armed : Bool := false
  since : Nat := 0
  deriving DecidableEq, Repr

/-- An energy meter (R200). -/
structure Meter where
  last : Nat := 0
  nj : Nat := 0
  per : Nat := 0
  attr : Int := 0
  deriving DecidableEq, Repr

/-- The governor (chapter 06). `meters` holds, per meter (48 is the uncore meter), the last sample's moment, energy and
period and what the open period has attributed (R200); `coeffs`, `vf` and `baseMw` are the plinth's energy coefficients,
V/F points (MHz, mV) and uncore baseline. `buckets` holds the closed 100 µs buckets, newest first, as total and real-time
energy, `bktTot` and `bktRt` the open one (R201). `tab`, `shadow` and `plinthTab` are the price table in force, its shadow
and the plinth's; `tabNext` the one that takes over at the next update, and whether it is an override (R209). `theta` are
the nodes' temperatures in 1/2^20 °C, `powers` the interval energies of the nodes, newest first, `ivl` the core energies and
`ivlUn` the uncore energy of the open interval (R217, R219); `staleCnt` and `goodCnt` count in a row (R218); `clampOk` and
`emergLow` count evaluations (Table 06-2). `vfReq` holds the changes of point in progress by cluster and `prep` the slot
instances whose preparation of R214 has begun (slot and period). `leaving` is the rung of the exit in progress, and whether its entry was
aborted. `sagUp` are the stretch groups that a sag line holds,
`fallAt` the moment their last line fell, `sagSet` the sensors' thresholds as set (R215). `gapAt` is the start of the idle gap (R224). -/
structure Gov where
  meters : Tab Meter := []
  unattrNj : Int := 0
  totalNj : Nat := 0
  coeffs : List Nat := []
  vf : List (Nat × Nat) := []
  baseMw : Nat := 0
  corr : Tab (Nat × Nat) := []
  rung : Nat := 0
  entering : Option Nat := none
  exiting : Bool := false
  leaving : Nat × Bool := (0, false)
  buckets : List (Nat × Nat) := []
  bktTot : Nat := 0
  bktRt : Nat := 0
  tab : List PricePoint := []
  shadow : List PricePoint := []
  plinthTab : List PricePoint := []
  tabNext : Option (List PricePoint × Bool) := none
  nodes : List ThermNode := []
  tAmb : Int := 0
  limitMax : Nat := 1680
  theta : List Int := []
  powers : List (List Nat) := []
  ivl : Tab Nat := []
  ivlUn : Nat := 0
  staleCnt : Tab Nat := []
  goodCnt : Tab Nat := []
  clampOk : Nat := 0
  emergLow : Nat := 0
  vfReq : Tab Nat := []
  unWt : Nat := 0
  unT : Nat := 0
  prep : List (Nat × Nat) := []
  sagUp : BitVec 8 := 0
  fallAt : Tab Nat := []
  sagSet : Tab Nat := []
  gapAt : Option Nat := none
  deriving DecidableEq, Repr

/-- A key generation that has been requested (R309, R310): the memory key of a partition, the session key of a fabric tenant at the lead
(R341), or the wrap key for a function's session (R332). -/
inductive KeyReq where
  | part (t : Nat)
  | tenant (f : Nat)
  | wrap (fn : Nat)
  deriving DecidableEq, Repr

/-- What an end of a handshake has generated (Table 10-10 step 2): its ephemeral private key and its random. -/
structure Eph where
  priv : BitVec 384
  rand : BitVec 256
  deriving DecidableEq, Repr

/-- An SPDM session (R330, R331, R344): its peer, whether FINISH has come, the device's ephemeral private key while a wrap key is live
(R332), and the owner key of a management session. -/
structure Session where
  peer : SpdmPeer
  finished : Bool := false
  wrapKey : Option (BitVec 384) := none
  owner : Nat := 0
  deriving DecidableEq, Repr

/-- The security controller and the memory cipher (chapter 10): key generations waiting, sessions, management authentication (R344),
MODEL_ID of the blob slots, the keys of the slots, which nothing outside reads (R312, R313), the counters of the version trees by
partition and level, with the lines whose version is saturated (R317, R320), the device identity key (R311), mailboxes with a request in
progress and the answers they will carry, each with whether it is a secured message (R331), page releases in progress (first page, pages,
and those of them that a later write has taken out already, by function: R318), the metadata lines not written back (R321) and the data
pages each partition holds (R317), blob slots whose revocation waits for the gate (R329), fabric tenants whose old key is still in place
and, once the new epoch has been announced, until when (R343), those whose new key is installed and not announced yet, with its epoch, at
the lead those whose new key is not acknowledged by every member (R341), and the times of the tag failures of each link (R338). -/
structure Sec where
  keyReqs : List KeyReq := []
  sessions : List Session := []
  fails : Nat := 0
  lockUntil : Option Nat := none
  modelIds : Tab Word := []
  keys : Tab (BitVec 256) := []
  ctrs : Tab (Tab Nat) := []
  sat : List (Nat × Nat) := []
  mbox : List Nat := []
  mboxAns : Tab (SpdmAns × Bool) := []
  identity : BitVec 384 := 0
  releases : Tab (Nat × Nat × List Nat) := []
  dirty : List MetaLine := []
  pages : Tab (List Nat) := []
  revoke : List Nat := []
  oldKeys : Tab (Option Nat × BitVec 256) := []
  nextEpoch : Tab Nat := []
  keyDue : List (Nat × Nat) := []
  tagFails : Tab (List Nat) := []
  deriving DecidableEq, Repr

/-- A link key of one direction with its salt (Table 10-10 step 4). -/
structure LinkKey where
  key : BitVec 256 := 0
  salt : BitVec 32 := 0
  deriving DecidableEq, Repr

/-- A frame that has been sent and is not acknowledged (R352): as it left, the moment it was last sent, and whether a key has followed its
own (R337). -/
structure Sent where
  frame : Frame
  at0 : Nat
  old : Bool := false
  deriving DecidableEq, Repr

/-- A link port's own state (R312, R336, R337, R352, R353): frame counters, the frames sent and not acknowledged, the frames that wait to
be sent, the moment of the last frame received, hop credits by pool, those to be returned, whether the next frame asks for a resend, where
the round robin stands (R357: the data pool and the control pool to serve next, and for each pool the input port, 4 for the node's own
traffic), and what each end has sent in the handshake of Table 10-10. `rekey` marks an exchange inside the protected link; `txKey` and
`rxKey` are the link keys, `newKey` the transmit key that follows this end's KEY_SWITCH, `oldTx` the frames sent under the key before, and
`oldKey` the previous receive key, kept until KEY_SWITCH. -/
structure TPort where
  tx : Nat := 0
  rx : Nat := 0
  replay : List Sent := []
  oldTx : Nat := 0
  queue : List Frame := []
  rxAt : Nat := 0
  credits : List Nat := List.replicate 12 0
  owed : List Nat := List.replicate 12 0
  nakDue : Bool := false
  rr : Nat := 0
  rrCtl : Nat := 0
  rrIn : List Nat := List.replicate 12 0
  mine : Option Eph := none
  theirs : Option Hello := none
  peerLead : Option Nat := none
  rekey : Bool := false
  txKey : Option LinkKey := none
  newKey : Option LinkKey := none
  rxKey : Option LinkKey := none
  oldKey : Option LinkKey := none
  deriving DecidableEq, Repr

/-- A transfer this node issued (R363 to R368): its task, destination, port, kind, fabric tenant and epoch, its segments, how
many have been sent (LINK_PUT) and how many are covered by REPORTs or written (LINK_GET), and how many written ones are
acknowledged; `paused` while its task has yielded (R193), with the response credits `owed` that have not been returned meanwhile; its
bytes, and the IV counters of the segments sent (R342). `sent` counts the segments that have drawn a credit, `out` those handed to the port
and `wired` those of which a frame has left it; `data` keeps the segments read that no REPORT covers (R367). -/
structure Xfer where
  task : Nat
  dest : Nat
  port : Nat
  get : Bool
  ft : Nat
  epoch : Nat
  segs : Nat
  sent : Nat := 0
  sentAt : List Nat := []
  covered : Nat := 0
  acked : Nat := 0
  squashing : Bool := false
  paused : Bool := false
  owed : Nat := 0
  len : Nat := 0
  ivs : List Nat := []
  out : Nat := 0
  wired : Nat := 0
  data : Tab (List Word) := []
  deriving DecidableEq, Repr

/-- An inbound transfer (R365): issuer and its transfer number, kind, partition, tenant, epoch, segments and how many have
been written or read, and how many written ones are acknowledged; where it starts, the credits left for response segments (R364), and its
bytes. `out` counts the response segments sent, `data` holds those read that wait for earlier ones. -/
structure InXfer where
  src : Nat
  xfer : Nat
  get : Bool
  part : Nat
  ft : Nat
  epoch : Nat
  segs : Nat
  remote : Word
  got : Nat := 0
  acked : Nat := 0
  credits : Nat := 64
  squashing : Bool := false
  len : Nat := 0
  out : Nat := 0
  data : Tab (List Word) := []
  deriving DecidableEq, Repr

/-- The Tamnel controller (chapter 11): next sequence numbers per destination (16 for broadcasts), ports, transfers, node keys held
(R340), broadcasts already forwarded, the armed agreed-time actions (R374), the period of the last announced epoch (R375), the moment of
the last heartbeat, the end of an open settle window (R379), good and bad time exchanges in a row (R373), the end of a planned leave's
transfer limit (R381), whether a JOIN_GRANT has come and the counter has stepped (Table 11-9), what the ends of node-key exchanges have
sent, and the exchanges that wait for the noise source (R310, R340), the last epoch that has started here and the last accepted vsync
edge, if any (R375), the offset in ns that a member has still to slew and the time since its last nanosecond of it (R371), the position
that the plinth, training or a JOIN_GRANT gives the node before it is a member (R348), the routes in force by destination, the
destinations whose route has changed while control messages to them are outstanding, with the messages that wait (R358), the destinations
whose transfers a change of route still has to send again (R367), and the next IV counter of each tenant (R342). -/
structure Tml where
  seqs : Tab Nat := []
  ports : Tab TPort := []
  xfers : Tab Xfer := []
  nextXfer : Nat := 0
  inb : List InXfer := []
  nodeKeys : Tab (BitVec 256) := []
  joining : List Nat := []
  seen : List (Nat × Nat) := []
  atActs : List (Nat × Nat) := []
  epochPeriod : Nat := 0
  hbAt : Nat := 0
  settle : Option Nat := none
  oldLead : Option Nat := none
  goodEx : Nat := 0
  badEx : Nat := 0
  leaveAt : Option Nat := none
  granted : Bool := false
  stepped : Bool := false
  kexMine : Tab Eph := []
  kexTheirs : Tab Hello := []
  kexWait : List Nat := []
  epochDone : Option Nat := none
  vsyncAt : Option Nat := none
  slew : Int := 0
  slewNs : Nat := 0
  pos : Nat := 0
  routes : List (Option (Bool × (Nat × Nat) × (Nat × Nat))) := []
  moved : List Nat := []
  rerouted : List Nat := []
  outbox : List (Nat × Nat × Msg) := []
  ivs : Tab Nat := []
  deriving DecidableEq, Repr

/-- The observation unit (chapter 13): bytes of trace written in the present cap window, the qwords of the scan image that the
debug port has shifted out, the wait-for graph in work with its count of cycles and the moment of its snapshot (R426), the moment of the
last freeze, the fabric time of one whose trace record is still to be written, the moment of the last one that LOCKED turned away (R404),
whether a stop has been asked for after the double-fault halt (R420), and the instruction that the debug port has selected (R424). -/
structure Obs where
  ir : Nat := 3
  winUsed : Nat := 0
  scanPos : Nat := 0
  graph : Option (List Word × Nat) := none
  graphAt : Nat := 0
  frozenAt : Option Nat := none
  freezeRec : Option Nat := none
  missedAt : Option Nat := none
  haltStop : Bool := false
  deriving DecidableEq, Repr

/-- The microcode state of a sequencer (R432 to R437, R442): its position, call stack, scratch registers U0 to U15, working
copy of the counters, IBUF, flags Z, N, CY and V, RDY, microwords since the last commit point, its outstanding read (channel 1
MRD or 2 EVRD, and what it sent), the counter that an ISSUE's word still writes once the command is done (R432 steps 3 and 4),
and the ROM position to which it goes back. -/
structure Seqr where
  pc : Nat := 0
  stack : List Nat := []
  u : List Word := List.replicate 16 0
  c : List Word := []
  ibuf : List Word := []
  z : Bool := false
  n : Bool := false
  cy : Bool := false
  v : Bool := false
  rdy : Bool := false
  count : Nat := 0
  read : Option (Nat × Word) := none
  post : Option (Nat × Word) := none
  back : Nat := 0
  deriving DecidableEq, Repr

/-- A load in progress (R447, R448): kind, length, bytes staged, and the checked image that waits for the pause. -/
structure Load where
  kind : Nat
  total : Nat
  staged : Tab Byte := []
  ready : Option McsImage := none
  deriving DecidableEq, Repr

/-- The control store (chapter 14): the sequencers (0 to 7 stream, 8 service), the set version and digest of the patina and of the
customer set (0 and 1), the words of the customer region and of the
patina, the control-store addresses whose parity bits were written inverted (R440), and the load in progress. -/
structure Mcs where
  seqs : Tab Seqr := []
  sets : Tab (Nat × BitVec 384) := []
  cust : List (BitVec 128) := []
  patina : List (BitVec 128) := []
  bad : List Nat := []
  load : Option Load := none
  deriving DecidableEq, Repr

/-- Start-up and what it latched (chapter 15): the channels present, as MEM_PRESENT gives them and, once configured, after the
plinth's overrides (R31), log2 of a channel's capacity, the aperture base
and the places of the launch area, the graph build area and the brumation area (Table 15-3, MEMORY); whether the plinth lists
peers, the plinth that a warm reset applies again (R462), the fuses (R424, R455), the action that RSTACT last set (R35), the
moment of the reset's release, how start-up failed, which a warm reset repeats (R458), whether the reference clock (domain 17)
was lost since the last cold or warm reset (R21), and the cause of a host loss that waits for READY (R27). -/
structure Start where
  mem : BitVec 8 := 0
  log2c : Nat := 30
  apBase : Word := 0
  launchArea : Nat := 0
  graphArea : Nat := 0
  brumArea : Nat := 0
  peersListed : Bool := false
  plinth : Option Plinth := none
  fuses : Option Fuses := none
  rstact : RstAct := .peripheral
  resetAt : Nat := 0
  failed : Option (Nat × Word) := none
  refLost : Bool := false
  lossDue : Option Nat := none
  deriving DecidableEq, Repr

/-- The state of the block. `now` is fabric time; `ref` counts the nanoseconds of the reference domain, on which every limit and
interval runs (R5); `reads` lists the reads that are outstanding, oldest first; `faulting` names the writes of a teardown that will
fault (R90); `remoteAcqs` lists this node's acquirers at remote homes, `remoteHolds` what they hold there, `fnRecs` the records by
function that wait for the function's earlier writes (R136); `regs` holds the registers that are stored as words, by storage key
(a key not listed holds its reset word); `out` is the log of what has left the ports; `fresh` numbers the free values;
`preq` is the partition request in progress, `removals` the removals that wait for it (R308).
`pending` is the queue of commands that wait. -/
structure State where
  pending : List Instr := []
  now : Nat := 0
  ref : Nat := 0
  regs : Tab Word := []
  irq : Irq := {}
  out : List Emit := []
  reads : List RdOut := []
  faulting : List (Nat × WriteFault) := []
  fresh : Nat := 0
  sqs : Tab Sq := []
  crs : Tab Cr := []
  adm : Adm := {}
  admHeld : Tab (List (List Word)) := []
  scan : Scan := {}
  flights : Tab Flight := []
  tasks : Tab Task := []
  nextTask : Nat := 0
  hints : Tab Hint := []
  mqSlots : Tab MqSlot := []
  mqJobs : List MqJob := []
  due : List Due := []
  lanes : Tab Due := []
  launches : Nat := 0
  cores : List Core := List.replicate 48 {}
  engs : Tab Eng := []
  trims : List Trim := []
  events : Tab Event := []
  sems : Tab Sem := []
  remoteWaits : List RemoteWait := []
  remoteOps : List RemoteOp := []
  remoteAcqs : List RemoteAcq := []
  remoteHolds : List RemoteHold := []
  fnRecs : Tab (List (Half × Nat × Word)) := []
  ctxs : Tab Ctx := []
  cyc : Cyc := {}
  wd : Tab Nat := []
  td : List Td := []
  preq : Option PartReq := none
  removals : List Nat := []
  dins : Tab Din := []
  regrow : Regrow := {}
  gov : Gov := {}
  sec : Sec := {}
  tml : Tml := {}
  obs : Obs := {}
  mcs : Mcs := {}
  start : Start := {}
  deriving DecidableEq, Repr

/-- Voxbin when PO_RST_N has just been released: nothing is retained, every register is at its reset value, and
VXB_RESET_CAUSE reports the cold reset (R44, R45, R455). -/
def State.reset : State := {}

end Sys2Proof.Machine
end

