-- ==== Sys2Proof/Machine/Ops.lean ====
section
/-! DEFINITION. The named operations over the state that every chapter uses: time, registers, counters, the ports' log,
raises of interrupt sources (chapter 12), trace records and freezes (chapter 13), error-log records (chapter 08). -/

namespace Sys2Proof.Machine

/-- Something leaves through a port. -/
def State.emit (s : State) (e : Emit) : State := { s with out := s.out ++ [e] }

/-- Several things leave through ports, in order. -/
def State.emits (s : State) (es : List Emit) : State := { s with out := s.out ++ es }

/-- The next free value, and the state that has used it. -/
def State.draw (s : State) : Nat × State := (Config.free s.fresh, { s with fresh := s.fresh + 1 })

/-- The active level at reset of discrete input `n` (Table 01-10): POL, 1 for active low. -/
def dinPol (n : Nat) : Nat := if 1 ≤ n && n ≤ 4 then 1 else 0

/-- The reset word of a register where its field table's constants depend on the index (R386, R394, R395, Table 01-10,
VXB_FN_QUOTA, MCS_RTN_MAP, VXB_RESET_CAUSE). -/
def resetWord (r : Reg) (i j : Nat) : Word :=
  match r with
  | .IRQ_MAP => if i = 0 && j < 30 then mkWord [(0, 9, j), (9, 1, 1)] else 0
  | .IRQ_WAKE_EN => if i = 0 then BitVec.allOnes 64 else 0
  | .IRQ_MG_EN => if i = 0 then BitVec.allOnes 64 else 0
  | .VXB_FN_QUOTA => if i = 0 then mkWord [(0, 13, 4096), (16, 11, 1024), (32, 11, 1024)] else 0
  | .MCS_RTN_MAP => if i = 0 then 0x7FF else 0
  | .VXB_DIN_CFG => mkWord [(32, 1, dinPol i)]
  | .FN_ID => mkWord [(0, 6, i)]
  | _ => rstWord r.spec.fields

/-- The stored word of a register. -/
def State.reg (s : State) (r : Reg) (i : Nat := 0) (j : Nat := 0) : Word :=
  (Tab.get? s.regs (r.key i j)).getD (resetWord r i j)

/-- A register holding a word. -/
def State.setReg (s : State) (r : Reg) (i j : Nat) (v : Word) : State := { s with regs := Tab.set s.regs (r.key i j) v }

/-- Field [lo+w-1:lo] of a register. -/
def State.rf (s : State) (r : Reg) (i j lo w : Nat) : Nat := fld (s.reg r i j) lo w

/-- A word with field [lo+w-1:lo] replaced. -/
def putFld (v : Word) (lo w x : Nat) : Word :=
  (v &&& ~~~(BitVec.ofNat 64 ((2 ^ w - 1) <<< lo))) ||| BitVec.ofNat 64 ((x % 2 ^ w) <<< lo)

/-- A register with field [lo+w-1:lo] replaced. -/
def State.setF (s : State) (r : Reg) (i j lo w x : Nat) : State := s.setReg r i j (putFld (s.reg r i j) lo w x)

/-- One bit of a register. -/
def State.rb (s : State) (r : Reg) (i j b : Nat) : Bool := bitOf (s.reg r i j) b

/-- A register with one bit set to a value. -/
def State.setB (s : State) (r : Reg) (i j b : Nat) (v : Bool) : State := s.setF r i j b 1 (b2n v)

/-- A field that counts, saturating at its greatest value. -/
def State.bump (s : State) (r : Reg) (i j lo w k : Nat) : State :=
  s.setF r i j lo w (satAdd (2 ^ w - 1) (s.rf r i j lo w) k)

/-- Bit `n` of an array of 64-bit registers. -/
def State.arrBit (s : State) (r : Reg) (n : Nat) : Bool := s.rb r (n / 64) 0 (n % 64)

/-- Bit `n` of an array of 64-bit registers set to a value. -/
def State.setArrBit (s : State) (r : Reg) (n : Nat) (v : Bool) : State := s.setB r (n / 64) 0 (n % 64) v

/-- `f` where the condition holds, else the state as it is. -/
def State.when (s : State) (c : Bool) (f : State → State) : State := if c then f s else s

/-- This node's number (TML_STAT.NODE); 0 on a node that belongs to no fabric (R127). -/
def State.node (s : State) : Nat := s.rf .TML_STAT 0 0 0 4

/-- This node is a member of a fabric. -/
def State.member (s : State) : Bool := s.rb .TML_STAT 0 0 4

/-- The place of this node in its fabric: its node ID as a member, before that the position it will have (R348). -/
def State.posn (s : State) : Nat := if s.member then s.node else s.tml.pos

/-- The double-fault halt is in force (R283). -/
def State.haltedAll (s : State) : Bool := s.rb .ERR_STAT 0 0 2

/-- A regrowth window is open (R272). -/
def State.regrowing (s : State) : Bool := s.rb .ERR_STAT 0 0 1

/-- A global stop is in force (R419). -/
def State.gstopped (s : State) : Bool := s.rb .OBS_STOP_STAT 0 0 0

/-- A soft stop is in force (R423). -/
def State.sstopped (s : State) : Bool := s.rb .OBS_STOP_STAT 0 0 1

/-- Start-up is complete (R457). -/
def State.ready (s : State) : Bool := s.rb .VXB_START_STAT 0 0 3

/-- The front end takes work: after READY, and not halted by regrowth, a stop or the double-fault halt. -/
def State.frontRuns (s : State) : Bool :=
  s.ready && !s.regrowing && !s.gstopped && !s.sstopped && !s.haltedAll

/-- A feature that the plinth's capability overrides remove (R459, Table 15-6). -/
def State.lacks (s : State) (k : Nat) : Bool := s.start.plinth.any (fun p => bitOf p.capFeatures k)

/-- Voxbin acts at all: after READY, with no global stop and no double-fault halt. -/
def State.alive (s : State) : Bool := s.ready && !s.gstopped && !s.haltedAll

/-! ## Counters (R398, R401) -/

/-- What a counted happening carries, for the filters of R401. -/
structure Who3 where
  part : Option Nat := none
  ctx : Option Nat := none
  layer : Option Nat := none
  deriving DecidableEq, Repr

/-- Whether the configuration word of a programmable counter matches an increment of fixed counter `i` (R401). -/
def pcfgMatches (w : Word) (i : Nat) (x : Who3) : Bool :=
  fld w 0 9 == i
  && (!bitOf w 9 || x.part == some (fld w 10 3))
  && (!bitOf w 13 || x.ctx == some (fld w 14 10))
  && (!bitOf w 24 || x.layer == some (fld w 32 16))

/-- Counter `i` grows by `k`, modulo 2^64. -/
def State.cntAdd1 (s : State) (i k : Nat) : State := s.setReg .OBS_CNT i 0 (s.reg .OBS_CNT i 0 + BitVec.ofNat 64 k)

/-- The programmable counters whose configuration is stored and matches. -/
def State.pcfgHits (s : State) (i : Nat) (x : Who3) : List Nat :=
  let lo := Reg.OBS_PCFG.key 0 0
  (s.regs.filter (fun e => lo ≤ e.1 && e.1 < lo + 0x1000 && pcfgMatches e.2 i x)).map (fun e => (e.1 - lo) / 8)

/-- A counted happening: fixed counter `i` and every programmable counter that counts it grow by `k`. Counters stand still
during a global stop (R420). -/
def State.count (s : State) (i : Nat) (k : Nat := 1) (x : Who3 := {}) : State :=
  if s.gstopped then s
  else (s.pcfgHits i x).foldl (fun s j => s.cntAdd1 (512 + j) k) (s.cntAdd1 i k)

/-- Context counter `k` of a context grows (R402, Table 13-2). -/
def State.ctxCount (s : State) (c k n : Nat) : State :=
  if s.gstopped then s
  else { s with ctxs := Tab.upd s.ctxs c (fun x => { x with cnt := modAt x.cnt k (fun w => w + BitVec.ofNat 64 n) }) }

/-- What a counted happening of a task carries. -/
def Task.who (t : Task) : Who3 := { part := some t.part, ctx := some t.ctx, layer := some t.layer }

/-- What a running task has read and written in its partition's system cache and written to the host meanwhile (Table 13-1, counters 96 to 127
and 177; Table 13-2): Voxbin's boundary does not show it, so the bytes are free values (log 88). -/
def State.cacheTraffic (s : State) (t : Task) : State :=
  let v (i : Nat) : Nat := Config.free (s.fresh + i)
  let s1 := { s with fresh := s.fresh + 5 }
  let s1 := (List.range 4).foldl (fun s k => s.count (96 + 4 * t.part + k) (v k) t.who) s1
  let s1 := ((s1.ctxCount t.ctx 1 (v 0)).ctxCount t.ctx 2 (v 1)).ctxCount t.ctx 5 (v 4)
  s1.count 177 (v 4) t.who

/-- What a core that runs a task has read and written in its tile memory meanwhile (Table 13-1, counters 0 to 95; Table 13-2): free values
(log 88). -/
def State.tileTraffic (s : State) (p : Nat) (t : Task) : State :=
  let v (i : Nat) : Nat := Config.free (s.fresh + i)
  let s1 := ({ s with fresh := s.fresh + 2 }).count (2 * p) (v 0) t.who
  (s1.count (2 * p + 1) (v 1) t.who).ctxCount t.ctx 0 (v 0 + v 1)

/-- The time during which the cores run their tasks grows (Table 13-1, counters 320 to 367), and what they and the other engines move within
it. -/
def State.coreTime (s : State) (ns : Nat) : State :=
  let s1 := (s.cores.zipIdx).foldl (fun s c =>
    match c.1.run.bind (fun r => Tab.get? s.tasks r.task) with
    | none => s
    | some t => ((s.count (320 + c.2) ns t.who).tileTraffic c.2 t).cacheTraffic t) s
  (s1.engs.flatMap (fun e => e.2.runs.map (·.task))).foldl (fun s k =>
    match Tab.get? s.tasks k with | some t => s.cacheTraffic t | none => s) s1

/-! ## Wakes (R230) -/

/-- The end of an idle gap: idle_avg moves an eighth of the way to the gap's length (R228). -/
def State.endGap (s : State) : State :=
  match s.gov.gapAt with
  | none => s
  | some a =>
    let avg : Int := s.rf .GOV_IDLE_AVG 0 0 0 40
    let gap : Int := s.ref - a
    ({ s with gov := { s.gov with gapAt := none } }).setF .GOV_IDLE_AVG 0 0 0 40 (avg + (gap - avg).tdiv 8).toNat

/-- A wake: the idle gap ends, and the exit from the current rung begins, or an entry in progress is abandoned and served
as an exit from the rung being entered. One that meets the rung decision in its arbitration wins: no rung is entered. -/
def State.wake (s : State) : State :=
  let met := s.gov.gapAt == some s.ref
  let s := s.endGap
  match s.gov.entering with
  | some k =>
    if met then { s with gov := { s.gov with entering := none } }
    else
    (({ s with gov := { s.gov with entering := none, exiting := true, leaving := (k, true) } }).setF .GOV_RUNG_ENT k 0 32 32
      (s.rf .GOV_RUNG_ENT k 0 32 32 + 1)).emit (.wake k)
  | none =>
    if s.gov.rung == 0 || s.gov.exiting then s
    else ({ s with gov := { s.gov with exiting := true, leaving := (s.gov.rung, false) } }).emit (.wake s.gov.rung)

/-! ## Memory on either side of the aperture (R27, R32) -/

/-- The partition offset of an address inside the device-local aperture (R32, R316). -/
def State.partOffset (s : State) (a : Word) : Option Nat :=
  if a.toNat < s.start.apBase.toNat || s.start.apBase.toNat + 8 * (2 ^ s.start.log2c * 25 / 32) ≤ a.toNat then none
  else some (a.toNat - s.start.apBase.toNat)

/-- The port to which an address goes (R32): the memory port inside the device-local aperture, else the host initiator. -/
def State.portOf (s : State) (a : Word) : Port := if (s.partOffset a).isSome then .mem else .host

/-- Table 01-4 is in progress: nothing leaves through the host initiator (R27, R28). -/
def State.hostCut (s : State) : Bool := s.rb .VXB_HOST_LINK 0 0 11

/-- A port is closed: the host initiator during host loss. -/
def State.closed (s : State) (p : Port) : Bool := p == .host && s.hostCut

/-- A memory access by Voxbin at LL3 or deeper is a wake (R230). -/
def State.memWake (s : State) : State := s.when (3 ≤ s.gov.rung) State.wake

/-! ## For whom an access is made (R290, R296, R314) -/

/-- The partition of a function, if it is assigned (R290; VXB_FN_CFG). -/
def State.fnPart (s : State) (n : Nat) : Option Nat :=
  let w := s.reg .VXB_FN_CFG n
  if bitOf w 3 then some (fld w 0 3) else none

/-- The partition of a context. -/
def State.ctxPart (s : State) (c : Nat) : Option Nat := (Tab.get? s.ctxs c).map (·.part)

/-- The function of a context. -/
def State.ctxFn (s : State) (c : Nat) : Option Nat := (Tab.get? s.ctxs c).map (·.fn)

/-- An access for a function. -/
def State.forFn (s : State) (n : Nat) : Issuer := { part := s.fnPart n, fn := some n }

/-- An access for a context. -/
def State.forCtx (s : State) (c : Nat) : Issuer := { part := s.ctxPart c, fn := s.ctxFn c, ctx := some c }

/-- An access for a submission. -/
def State.forFlight (s : State) (f : Nat) : Issuer := match Tab.get? s.flights f with | some x => s.forCtx x.ctx | none => {}

/-- An access for an SQ: it is its context's. -/
def State.forSq (s : State) (q : Nat) : Issuer := match Tab.get? s.sqs q with | some x => s.forCtx x.ctx | none => {}

/-- The key identifier of a partition: its memory key's slot (R312); that of the Voxbin region is slot 63. -/
def cipherSlot (t : Nat) : Nat := if t = 8 then 63 else t

/-- What an access carries at the port of its address. -/
def State.access (s : State) (o : Issuer) (a : Word) : Access :=
  match s.portOf a with
  | .mem => { o with port := .mem, key := o.part.map cipherSlot }
  | .host => { o with port := .host, part := none }

/-- For whom a read is made. -/
def State.readIssuer (s : State) (r : ReadTag) : Issuer :=
  match r with
  | .entryFetch q => s.forSq q
  | .adminFetch => s.forFn 0
  | .buffer f _ => s.forFlight f
  | .taskState f => s.forFlight f
  | .hint f => s.forFlight f
  | .cmdData f => s.forFlight f
  | .watch f => s.forFlight f
  | .mbox n => s.forFn n
  | .launchArea => { part := some 8 }
  | .graphBuffer => { part := some 8 }
  | .brumation _ => { part := some 8 }
  | .segment x _ => (match (Tab.get? s.tml.xfers x).bind (fun y => Tab.get? s.tasks y.task) with
    | some t => s.forCtx t.ctx
    | none => {})
  | .response n x _ => { part := (s.tml.inb.find? (fun y => y.src == n && y.xfer == x)).map (·.part) }
  | _ => {}

/-- What an access carries for the filters of R401. -/
def Issuer.who (o : Issuer) : Who3 := { part := o.part, ctx := o.ctx }

/-- A write of Voxbin's own, through the port of its address; a write bound for the host initiator during host loss is discarded. -/
def State.writeMem (s : State) (o : Issuer) (a : Word) (data : List Word) : State :=
  let p := s.portOf a
  if s.closed p then s
  else (s.memWake.emit (.write (s.access o a) a data)).when (p == .host) (fun s => s.count 177 (8 * data.length) o.who)

/-- The end of the read comes as a happening of its own. The data that a command itself or a watch reads comes with that command. -/
def readTracked (r : ReadTag) : Bool :=
  match r with
  | .entryFetch _ => true
  | .adminFetch => true
  | .buffer _ _ => true
  | .taskState _ => true
  | .hint _ => true
  | .mbox _ => true
  | .segment _ _ => true
  | .response _ _ _ => true
  | _ => false

/-- The read serves a submission. -/
def readFor (r : ReadTag) (f : Nat) : Bool :=
  match r with
  | .buffer g _ => g == f
  | .taskState g => g == f
  | .hint g => g == f
  | _ => false

/-- A read of Voxbin's own, through the port of its address; it is outstanding until its data or its error comes. None goes to the
host initiator during host loss. -/
def State.readMem (s : State) (tag : ReadTag) (a : Word) (bytes : Nat) : State :=
  if s.closed (s.portOf a) then s
  else
    let p := s.portOf a
    let o := s.readIssuer tag
    let s := (s.memWake.emit (.read (s.access o a) tag a bytes)).when (p == .host) (fun s => s.count 176 bytes o.who)
    s.when (readTracked tag) (fun s => { s with reads := s.reads ++ [{ tag := tag, port := p, addr := a, bytes := bytes }] })

/-- The first `n` bytes of the outstanding reads that satisfy `p` have ended; a read ends with its last byte. -/
def spendReads (p : RdOut → Bool) : Nat → List RdOut → List RdOut
  | _, [] => []
  | n, r :: l =>
    if !p r then r :: spendReads p n l
    else if r.bytes ≤ n then spendReads p (n - r.bytes) l
    else if n = 0 then r :: l
    else { r with addr := r.addr + BitVec.ofNat 64 n, bytes := r.bytes - n } :: l

/-- The oldest outstanding read of a tag through a port, or through either where none is named. -/
def State.readOf (s : State) (tag : ReadTag) (port : Option Port) : Option RdOut :=
  s.reads.find? (fun r => r.tag == tag && port.all (fun p => r.port == p))

/-- The bytes of a tag's reads that are outstanding through a port. -/
def State.readBytes (s : State) (tag : ReadTag) (port : Option Port) : Nat :=
  (s.reads.filter (fun r => r.tag == tag && port.all (fun p => r.port == p))).foldl (fun n r => n + r.bytes) 0

/-- The first `n` outstanding bytes of a tag's reads have ended. -/
def State.endBytes (s : State) (tag : ReadTag) (n : Nat) : State :=
  { s with reads := spendReads (fun r => r.tag == tag) n s.reads }

/-- The outstanding reads that satisfy `p` are given up. -/
def State.dropReads (s : State) (p : RdOut → Bool) : State := { s with reads := s.reads.filter (fun r => !p r) }

/-! ## Interrupts (chapter 12) -/

/-- The source that entry `v` of the view of function `f` maps, if it is valid (R386). -/
def State.mapped (s : State) (f v : Nat) : Option Nat :=
  if v = 63 then some (64 + f)
  else
    let w := s.reg .IRQ_MAP f v
    if bitOf w 9 then some (fld w 0 9) else none

/-- The stored valid entries of IRQ_MAP that map a source, as (function, entry). -/
def State.storedViews (s : State) (src : Nat) : List (Nat × Nat) :=
  let lo := Reg.IRQ_MAP.key 0 0
  (s.regs.filter (fun e => lo ≤ e.1 && e.1 < lo + 0x4000 && bitOf e.2 9 && fld e.2 0 9 == src)).map
    (fun e => ((e.1 - lo) / 0x100, (e.1 - lo) % 0x100 / 4))

/-- The views and entries that map a source (R383, R386): at most one for a function's event source and for a message source;
entries of F0's view for a device source. -/
def State.viewsOf (s : State) (src : Nat) : List (Nat × Nat) :=
  if 64 ≤ src && src < 128 then [(src - 64, 63)]
  else
    s.storedViews src ++ (if src < 30 && (Tab.get? s.regs (Reg.IRQ_MAP.key 0 src)).isNone then [(0, src)] else [])

/-- A view and entry that map a source. -/
def State.viewOf (s : State) (src : Nat) : Option (Nat × Nat) := (s.viewsOf src).head?

/-- A source is quenched (R396). -/
def State.quenched (s : State) (src : Nat) : Bool := s.arrBit .IRQ_QUENCH src

/-- Entry `v` of the view of `f` holds the line high: enabled, mapped, view-pending and not quenched (R389, R390). -/
def State.claimable (s : State) (f v : Nat) : Option Nat :=
  match s.mapped f v with
  | some src =>
    if s.rb .IRQ_EN f 0 v && s.irq.viewPend.getLsbD src && !s.quenched src then some src else none
  | none => none

/-- The claimable sources of a view. -/
def State.claimables (s : State) (f : Nat) : List Nat := (List.range 64).filterMap (s.claimable f)

/-- MSI-X masks the message of a function, by its vector mask or its function mask (R390). -/
def State.msixMasked (s : State) (f : Nat) : Bool := s.irq.msixMask.getLsbD f || s.irq.msixFnMask.getLsbD f

/-- The message of a function waits for its mask, or waits no more. -/
def State.setMsixPend (s : State) (f : Nat) (v : Bool) : State :=
  let bit := 1#64 <<< f
  { s with irq := { s.irq with msixPend := if v then s.irq.msixPend ||| bit else s.irq.msixPend &&& ~~~bit } }

/-- A view may send its message: none leaves in the double-fault halt (R397), during host loss (R28), or for a function that a regrowth
has halted (R280). -/
def State.mayMessage (s : State) (f : Nat) : Bool := !s.haltedAll && !s.hostCut && !s.rb .ADM_STAT f 0 2

/-- The level of the request line of a view (R390). -/
def State.lineLevel (s : State) (f : Nat) : Bool :=
  !s.rb .IRQ_STAT f 0 1 && !s.rb .IRQ_LINE_MASK f 0 0 && !(s.claimables f).isEmpty

/-- The line of a view takes its level; each rise sends one message, which the masks of MSI-X hold back until they clear, or until the
line falls (R390). -/
def State.updLine (s : State) (f : Nat) : State :=
  let now := s.lineLevel f
  let was := s.rb .IRQ_STAT f 0 0
  let s := s.setB .IRQ_STAT f 0 0 now
  if now && !was && s.mayMessage f then (if s.msixMasked f then s.setMsixPend f true else s.emit (.irq f))
  else s.when (!now && s.irq.msixPend.getLsbD f) (fun s => s.setMsixPend f false)

/-- A bit of IRQ_MG_PEND that IRQ_MG_EN enables is set (R394). -/
def State.mgAny (s : State) : Bool :=
  (List.range 8).any (fun k => (s.reg .IRQ_MG_PEND k &&& s.reg .IRQ_MG_EN k) != 0)

/-- The in-band interrupt of R394, with its data byte 0x00: requested at the first moment at which an enabled bit is set, and later
where one sets (`sets`) after management has cleared every enabled bit since the last request. -/
def State.ibiAfter (s : State) (sets : Bool) : State :=
  if s.mgAny && (!s.irq.ibiAsked || (sets && s.irq.ibiClear)) then
    ({ s with irq := { s.irq with ibiAsked := true, ibiClear := false } }).emit (.ibi 0)
  else s

/-- The source is enabled anywhere (R395). -/
def State.enabledAnywhere (s : State) (src : Nat) : Bool :=
  (s.viewsOf src).any (fun (e : Nat × Nat) => s.rb .IRQ_EN e.1 0 e.2)
  || s.arrBit .IRQ_MG_EN src || s.arrBit .IRQ_SS_EN src || s.arrBit .IRQ_WAKE_EN src

/-- The entries of IRQ_MAP written in the arbitration of this moment, with the words in force before (R391). -/
def State.mapJust (s : State) : List (Nat × Nat × Word) := if s.irq.mapAt = s.ref then s.irq.mapWas else []

/-- A write of this moment has mapped a source, or mapped another in its place: a raise of it uses the map before, which for a source
newly mapped names no entry, and for one that is mapped no longer an entry whose pending bit the write has cleared (R386, R391). -/
def State.mapMoved (s : State) (src : Nat) : Bool :=
  s.mapJust.any (fun e => (bitOf e.2.2 9 && fld e.2.2 0 9 == src) || s.mapped e.1 e.2.1 == some src)

/-- The copies of R387 set; whether any of them was clear comes back for the storm count. -/
def State.raiseCopies (s : State) (src : Nat) : Bool × State :=
  let sets := !s.arrBit .IRQ_MG_PEND src && s.arrBit .IRQ_MG_EN src
  let v := if s.mapMoved src then none else s.viewOf src
  let fresh := (v.isSome && !s.irq.viewPend.getLsbD src) || !s.arrBit .IRQ_MG_PEND src
    || !s.arrBit .IRQ_SS_PEND src || !s.arrBit .IRQ_DB_PEND src
  let s := s.when v.isSome (fun s =>
    { s with irq := { s.irq with viewPend := s.irq.viewPend ||| (1#512 <<< src) } })
  let s := ((s.setArrBit .IRQ_MG_PEND src true).setArrBit .IRQ_SS_PEND src true).setArrBit .IRQ_DB_PEND src true
  let s := s.ibiAfter sets
  (fresh, match v with | some (f, _) => s.updLine f | none => s)

/-- A raise without the storm count: sources 0 and 7, which are never quenched (R396). -/
def State.raisePlain (s : State) (src : Nat) : State :=
  let s := s.when (s.enabledAnywhere src) State.wake
  (s.raiseCopies src).2

/-- A source was raised in the arbitration of this moment (R391). -/
def State.justRaised (s : State) (src : Nat) : Bool := s.irq.raisedAt = s.ref && s.irq.raised.contains src

/-- The raise of a source, taken or quenched, is noted for what meets it in the same arbitration (R391). -/
def State.noteRaise (s : State) (src : Nat) : State :=
  if s.justRaised src then s
  else { s with irq := { s.irq with raisedAt := s.ref,
                                    raised := (if s.irq.raisedAt = s.ref then s.irq.raised else []) ++ [src] } }

/-- A source is raised (R384, R387, R395, R396). -/
def State.raise (s : State) (src : Nat) : State :=
  let s := s.noteRaise src
  if 30 ≤ src && src < 64 || 512 ≤ src || s.quenched src then s
  else if src = 0 || src = 7 then s.raisePlain src
  else
    let s := s.when (s.enabledAnywhere src) State.wake
    let (fresh, s) := s.raiseCopies src
    let n := Tab.getD s.irq.storm src 0 + b2n fresh
    let s := { s with irq := { s.irq with storm := Tab.set s.irq.storm src n } }
    let lim := s.rf .IRQ_STORM_CFG 0 0 0 16
    if lim ≠ 0 && lim < n then
      let s := s.setArrBit .IRQ_QUENCH src true
      let s := match s.viewOf src with | some (f, _) => (s.setB .IRQ_STAT f 0 2 true).updLine f | none => s
      (s.noteRaise 7).raisePlain 7
    else s

/-- The event source of function `f` is raised (R385): its bit of IRQ_FN_EVT, source 9, then the source itself. -/
def State.raiseFn (s : State) (f : Nat) : State := ((s.setB .IRQ_FN_EVT 0 0 f true).raise 9).raise (64 + f)

/-- The source that entry `v` of the view of `f` names to a raise: by the map before a write of this moment (R391). -/
def State.mappedBefore (s : State) (f v : Nat) : Option Nat :=
  match s.mapJust.find? (fun e => e.1 == f && e.2.1 == v) with
  | some e => if bitOf e.2.2 9 then some (fld e.2.2 0 9) else none
  | none => s.mapped f v

/-- A raise named by a view entry: a completion or admin completion (R67, R387). -/
def State.raiseEntry (s : State) (f v : Nat) : State :=
  match s.mappedBefore f v with
  | some src => if 64 ≤ src && src < 128 then s.raiseFn (src - 64) else s.raise src
  | none => s.bump .IRQ_STAT f 0 8 8 1

/-- A cause of a function's event source (R385): the cause bit, then the source. -/
def State.fnEvent (s : State) (f cause : Nat) : State := (s.setB .IRQ_FN_CAUSE f 0 cause true).raiseFn f

/-! ## Freezes (R403, R404) -/

/-- Every counter copied into its shadow, the context counters too. -/
def State.copyShadows (s : State) : State :=
  let lo := Reg.OBS_CNT.key 0 0
  let sh := Reg.OBS_SHADOW.key 0 0
  let kept := s.regs.filter (fun e => !(sh ≤ e.1 && e.1 < sh + 0x2000))
  let live := kept.filter (fun e => lo ≤ e.1 && e.1 < lo + 0x2000)
  let regs := live.foldl (fun t e => Tab.set t (e.1 - lo + sh) e.2) kept
  { s with regs := regs, ctxs := Tab.mapV s.ctxs (fun c => { c with shadow := c.cnt }) }

/-- The base, size, indices and free slots of a trace ring (R55, R406). -/
def State.ringLog2 (s : State) (r : Nat) : Nat :=
  let l := s.rf .TRC_RING_CFG r 0 0 5
  if 7 ≤ l && l ≤ 20 then l else 7

/-- The records a trace ring holds. -/
def State.ringFill (s : State) (r : Nat) : Nat :=
  (BitVec.ofNat 32 (s.rf .TRC_RING_PI r 0 0 32) - BitVec.ofNat 32 (s.rf .TRC_RING_CI r 0 0 32)).toNat

/-- The free slots of a trace ring. -/
def State.ringFree (s : State) (r : Nat) : Nat := 2 ^ s.ringLog2 r - s.ringFill r

/-- The bytes a cap window allows (R409): channels present × 68.25 GB/s × CAP × 10 µs. -/
def State.capBytes (s : State) : Nat :=
  let h := s.rf .OBS_CAP 0 0 0 4
  let h := if 1 ≤ h && h ≤ 8 then h else 4
  let ch := ((List.range 8).filter (fun m => s.start.mem.getLsbD m)).length
  ch * 6825 * h / 2

/-- The window has room for one more record. -/
def State.capRoom (s : State) : Bool := s.obs.winUsed + 32 ≤ s.capBytes

/-- A record written into a ring, and its producer index advanced (R406); source 18 when the fill reaches THRESH (R410). -/
def State.ringPut (s : State) (r : Nat) (rec : List Word) : State :=
  let pi := s.rf .TRC_RING_PI r 0 0 32
  let addr := (s.reg .TRC_RING_BASE r) + BitVec.ofNat 64 (32 * (pi % 2 ^ s.ringLog2 r))
  let s := s.writeMem (s.forFn 0) addr rec
  let s := { s with obs := { s.obs with winUsed := s.obs.winUsed + 32 } }
  let s := s.setF .TRC_RING_PI r 0 0 32 (pi + 1)
  let th := s.rf .TRC_RING_CFG r 0 16 16
  s.when (th ≠ 0 && s.ringFill r == th) (fun s => s.raise 18)

/-- Qword 1 of a device record (Table 13-4). -/
def State.devQ1 (s : State) (ty : Nat) : Word := mkWord [(0, 8, ty), (8, 4, s.node), (15, 1, 1)]

/-- The next record offered to a ring brings a LOSS record first: drops are pending, and there is room for it (R410). -/
def State.lossDue (s : State) (r : Nat) : Bool := s.reg .TRC_RING_STAT r ≠ 0 && 1 ≤ s.ringFree r && s.capRoom

/-- A record offered to a ring (R410): a LOSS record first where drops are pending, then the record, or a drop. -/
def State.ringWrite (s : State) (r : Nat) (rec : List Word) : State :=
  let full := s.rf .TRC_RING_STAT r 0 0 32
  let cap := s.rf .TRC_RING_STAT r 0 32 32
  let s :=
    if s.lossDue r then
      let loss : List Word := [BitVec.ofNat 64 s.now, s.devQ1 0x1F, 0, mkWord [(0, 32, full), (32, 32, cap)]]
      ((s.setReg .TRC_RING_STAT r 0 0).ringPut r loss).raise 18
    else s
  if s.ringFree r < 2 then s.bump .TRC_RING_STAT r 0 0 32 1
  else if !s.capRoom then s.bump .TRC_RING_STAT r 0 32 32 1
  else s.ringPut r rec

/-- A trace ring is enabled. -/
def State.ringOn (s : State) (r : Nat) : Bool := s.rb .TRC_RING_CFG r 0 5


end Sys2Proof.Machine
end

