-- ==== Sys2Proof/Machine/Seal.lean ====
section
/-! DEFINITION. The protection of what travels between nodes: link frames under the keys of their port (R336, R350, Tables 11-2 to 11-4),
segments under the session key of their fabric tenant (R342, R351), and the body flit of a control message (R369). -/

namespace Sys2Proof.Machine

/-- The `n` bytes of a number, the lowest first. -/
def leBytes (n x : Nat) : List Nat := (beBytes n x).reverse

/-- Bytes as numbers. -/
def byteNats (l : List Byte) : List Nat := l.map BitVec.toNat

/-- The bytes of qwords as they lie in memory. -/
def wordBytes (ws : List Word) : List Byte := ws.flatMap (fun w => (List.range 8).map (fun i => BitVec.ofNat 8 (fld w (8 * i) 8)))

/-- The bytes of flit bodies, each with its lowest byte first (log 160). -/
def flitBytes (l : List (BitVec 512)) : List Nat := l.flatMap (fun x => leBytes 64 x.toNat)

/-- Bytes as flit bodies. -/
def bytesFlits (l : List Nat) : List (BitVec 512) := (cutBy 64 l.length l).map (fun b => BitVec.ofNat 512 (beNat b.reverse))

/-- Flit bodies whose content the spec leaves open: free values. -/
def State.drawFlits (s : State) (n : Nat) : List (BitVec 512) × State :=
  ((List.range n).map (fun i => BitVec.ofNat 512 (Config.free (s.fresh + i))), { s with fresh := s.fresh + n })

/-- The key that a slot holds; an empty slot reads as zero. -/
def State.keyOf (s : State) (k : Nat) : BitVec 256 := Tab.getD s.sec.keys k 0

/-! ## Link frames (R336, R350) -/

/-- A flit header (Table 11-2): `first` its SOF, `last` its TRL. -/
def flitHeader (f : FrameIn) (first last : Bool) : Nat :=
  packFields [(0, 4, f.dest), (4, 4, f.src), (8, 2, f.cls), (10, 2, f.vc), (12, 1, b2n first), (13, 1, b2n last)]

/-- The 248 bits of a segment descriptor (Table 11-4). -/
def segBits (d : SegDesc) : Nat :=
  packFields [(0, 16, d.xfer), (16, 28, d.seg), (44, 4, d.ft), (48, 1, d.ep), (49, 3, d.frame), (52, 1, b2n d.last), (53, 64, d.iv),
              (117, 128, if d.last then d.tag.toNat else 0)]

/-- SEG of a frame: its descriptor where TYPE is 0, zero otherwise (Table 11-3). -/
def frameSeg (f : FrameIn) : Nat :=
  match f.typ, f.seg with
  | 0, some d => segBits d
  | _, _ => 0

/-- Trailer bits [511:192] (Table 11-3). -/
def trailerBits (f : FrameIn) : Nat :=
  packFields ([(0, 16, f.ack), (16, 1, b2n f.nak), (17, 3, f.typ), (20, 4, f.text.length), (72, 248, frameSeg f)]
    ++ (List.range 12).map (fun i => (24 + 4 * i, 4, nth f.credit i 0)))

/-- The associated data of a frame: the headers of its flits, the trailer's last, and then trailer bits [511:192] (R350), each lowest
byte first (log 160). -/
def frameAad (f : FrameIn) : List Nat :=
  let n := f.text.length
  (List.range (n + 1)).flatMap (fun i => leBytes 2 (flitHeader f (i == 0) (i == n))) ++ leBytes 40 (trailerBits f)

/-- The IV of a frame: the salt and the 64-bit frame counter (R336). -/
def LinkKey.iv (k : LinkKey) (ctr : Nat) : BitVec 96 := k.salt ++ BitVec.ofNat 64 ctr

/-- A frame's text under a key: the cipher text of its bodies, or the bodies of its cipher text. -/
def LinkKey.text (k : LinkKey) (f : FrameIn) : List (BitVec 512) := bytesFlits (gcmText k.key (k.iv f.ctr) (flitBytes f.text))

/-- LINK_TAG of a frame that holds its cipher text. -/
def LinkKey.tag (k : LinkKey) (f : FrameIn) : BitVec 128 :=
  BitVec.ofNat 128 (gcmTag k.key (k.iv f.ctr) (frameAad f) (flitBytes f.text))

/-- A frame as it leaves: enciphered, with its tag (R336). -/
def LinkKey.sealed (k : LinkKey) (f : FrameIn) : FrameIn :=
  let g := { f with text := k.text f }
  { g with tag := k.tag g }

/-! ## Segments (R342, R351) -/

/-- The session key of a tenant for an epoch parity: the current one, the one before it while it is kept, or one that is installed and not
yet announced (R341, R343). -/
def State.ftKey (s : State) (ft ep : Nat) : Option (BitVec 256) :=
  let slot := s.keyOf (8 + s.rf .SEC_FT ft 0 16 3)
  let old := (Tab.get? s.sec.oldKeys ft).map (·.2)
  match Tab.get? s.sec.nextEpoch ft with
  | some e => if ep = e % 2 then some slot else old
  | none => if ep = s.rf .SEC_FT ft 0 32 16 % 2 && s.rb .SEC_FT ft 0 20 then some slot else old

/-- The IV of a segment: the node that sends it, three zero bytes and its counter (R342). -/
def segIv (src iv : Nat) : BitVec 96 := BitVec.ofNat 96 ((src % 256) <<< 88 ||| iv % 2 ^ 64)

/-- The associated data of a segment: SEG bits [48:0] and its length, each as a little-endian qword (R351; log 144). -/
def segAad (xfer seg ft ep len : Nat) : List Nat :=
  leBytes 8 (packFields [(0, 16, xfer), (16, 28, seg), (44, 4, ft), (48, 1, ep)]) ++ leBytes 8 len

/-- A segment's payload as it leaves a node: its cipher text under the tenant's session key, and its tag (R342). -/
def segSeal (k : BitVec 256) (src : Nat) (d : SegDesc) (payload : List Nat) : List Nat × BitVec 128 :=
  let text := gcmText k (segIv src d.iv) payload
  (text, BitVec.ofNat 128 (gcmTag k (segIv src d.iv) (segAad d.xfer d.seg d.ft d.ep text.length) text))

/-! ## Control messages (R369) -/

/-- TYPE of a control message (Table 11-7). -/
def msgType (m : Msg) : Nat :=
  match m with
  | .record .. => 0x01 | .waitReg .. => 0x02 | .release .. => 0x03 | .waitDrop .. => 0x04
  | .semAcq .. => 0x05 | .semGrant .. => 0x06 | .semRel .. => 0x07 | .refuse .. => 0x08 | .ack .. => 0x09
  | .opens .. => 0x10 | .report .. => 0x11 | .squash .. => 0x12 | .squashAck .. => 0x13 | .credit .. => 0x14
  | .heartbeat .. => 0x20 | .lost .. => 0x21 | .lead .. => 0x22 | .joinReq .. => 0x23 | .joinGrant .. => 0x24
  | .epoch .. => 0x25 | .atMsg .. => 0x26 | .leave .. => 0x27 | .key .. => 0x28 | .nodeKex .. => 0x29

/-- The body flit of a control message: TYPE, the sequence number, and its fields from bit 32 on, whose places the spec does not give
(R369, log 160). -/
def msgFlit (seq : Nat) (m : Msg) : BitVec 512 :=
  BitVec.ofNat 512 (packFields [(0, 8, msgType m), (16, 16, seq), (32, 480, (Config.msgFields m).toNat)])

end Sys2Proof.Machine
end

