-- ==== Sys2Proof/Machine/Wire.lean ====
section
/-! DEFINITION. What carries traffic between nodes (chapter 11): routes from the live map (R346, R347, R354 to R356), the frames of a port
with their hop credits and replay buffer (R336, R349, R350, R352, R353, R357), control messages and broadcasts (R358, R369, R374). -/

namespace Sys2Proof.Machine

/-! ## Positions and routes (R346, R347, R354) -/

/-- The size of the fabric in x. -/
def State.fabW (s : State) : Nat := s.rf .TML_CFG 0 0 2 4 + 1

/-- The size of the fabric in y; 1 for a ring. -/
def State.fabH (s : State) : Nat := if s.rf .TML_CFG 0 0 0 2 = 2 then s.rf .TML_CFG 0 0 6 4 + 1 else 1

/-- The nodes the topology declares. -/
def State.fabN (s : State) : Nat := if s.rf .TML_CFG 0 0 0 2 = 0 then 1 else s.fabW * s.fabH

/-- A node is live in the live map. -/
def State.nodeUp (s : State) (n : Nat) : Bool := bitOf (s.reg .TML_STAT) (16 + n)

/-- Port `p` of node `n` is up in the live map. -/
def State.linkUp (s : State) (n p : Nat) : Bool := n < 16 && bitOf (s.reg .TML_LINKMAP) (4 * n + p)

/-- The neighbour on port `p` of the node at `n`, and its port (Table 11-1). -/
def State.neighbour (s : State) (n p : Nat) : Nat × Nat :=
  let w := s.fabW
  let h := s.fabH
  let x := n % w
  let y := n / w
  match p with
  | 0 => (y * w + (x + 1) % w, 1)
  | 1 => (y * w + (x + w - 1) % w, 0)
  | 2 => ((y + 1) % h * w + x, 3)
  | _ => ((y + h - 1) % h * w + x, 2)

/-- The link of port `p` of node `n` and the node behind it are there. -/
def State.hopUp (s : State) (n p : Nat) : Bool :=
  let m := s.neighbour n p
  s.linkUp n p && s.linkUp m.1 m.2 && s.nodeUp m.1

/-- `k` hops through port `p` from node `n` cross no missing link or node. -/
def State.arcUp (s : State) (p : Nat) : Nat → Nat → Bool
  | 0, _ => true
  | k + 1, n => s.hopUp n p && s.arcUp p k (s.neighbour n p).1

/-- Movement within one ring: from, distance in the + direction, size; `none` where neither direction reaches, else port and
hops (R354). -/
def State.ringDir (s : State) (plus minus from0 d size : Nat) : Option (Nat × Nat) :=
  if d = 0 then some (plus, 0)
  else if s.arcUp plus size from0 then (if d ≤ size - d then some (plus, d) else some (minus, size - d))
  else if s.arcUp plus d from0 then some (plus, d)
  else if s.arcUp minus (size - d) from0 then some (minus, size - d)
  else none

/-- A path from `a` to `b`, x first or y first: the port and the hops in the first ring and in the second (R354). -/
def State.arcs (s : State) (xFirst : Bool) (a b : Nat) : Option ((Nat × Nat) × (Nat × Nat)) :=
  let w := s.fabW
  let h := s.fabH
  let dx := (b % w + w - a % w) % w
  let dy := (b / w + h - a / w) % h
  if xFirst then
    match s.ringDir 0 1 a dx w, s.ringDir 2 3 (a / w * w + b % w) dy h with
    | some r, some q => some (r, q)
    | _, _ => none
  else if h = 1 then none
  else
    match s.ringDir 2 3 a dy h, s.ringDir 0 1 (b / w * w + a % w) dx w with
    | some r, some q => some (r, q)
    | _, _ => none

/-- The first port and the hops of a path. -/
def arcsHop (r : (Nat × Nat) × (Nat × Nat)) : Nat × Nat := (if r.1.2 = 0 then r.2.1 else r.1.1, r.1.2 + r.2.2)

/-- A path from `a` to `b`: its first port and its hops. -/
def State.path (s : State) (xFirst : Bool) (a b : Nat) : Option (Nat × Nat) := (s.arcs xFirst a b).map arcsHop

/-- The path that the source uses (R354): whether x comes first, and its arcs; `none` when `b` is unreachable. -/
def State.routeArcs (s : State) (a b : Nat) : Option (Bool × (Nat × Nat) × (Nat × Nat)) :=
  let w := s.fabW
  let y := (s.arcs false a b).map (fun r => (false, r))
  if !s.nodeUp b then none
  else
    match s.arcs true a b with
    | some r => if s.nodeUp (a / w * w + b % w) then some (true, r) else y
    | none => y

/-- The route from `a` to `b` (R354): first port and hops; `none` when `b` is unreachable. -/
def State.route (s : State) (a b : Nat) : Option (Nat × Nat) := (s.routeArcs a b).map (fun r => arcsHop r.2)

/-- This node can reach node `n`. -/
def State.reachable (s : State) (n : Nat) : Bool := n == s.node || (s.route s.node n).isSome

/-- The route tables recomputed from the live map (R356). A destination whose route has changed gets no new control message while one
sent before is outstanding (R358), and its transfers send again what no REPORT covers (R367). -/
def State.reroute (s : State) : State :=
  let was := s.tml.routes
  let now := (List.range 16).map (fun n => if n < s.fabN && n ≠ s.node then s.routeArcs s.node n else none)
  let moved := (List.range 16).filter (fun n => nth was n none ≠ nth now n none && s.remoteOps.any (fun o => o.dest == n))
  let s := { s with tml := { s.tml with routes := now,
                                        moved := s.tml.moved ++ moved.filter (fun n => !s.tml.moved.contains n),
                                        rerouted := s.tml.rerouted ++ (List.range 16).filter (fun n =>
                                          nth was n none ≠ nth now n none && !s.tml.rerouted.contains n) } }
  (List.range 16).foldl (fun s n =>
    let self := n == s.node
    let xf := if n < s.fabN && s.nodeUp n && !self then s.path true s.node n else none
    let yf := if n < s.fabN && s.nodeUp n && !self then s.path false s.node n else none
    s.setReg .TML_ROUTE n 0 (mkWord [
      (0, 2, (xf.map (·.1)).getD 0), (2, 4, (xf.map (·.2)).getD 0), (6, 2, (yf.map (·.1)).getD 0),
      (8, 4, (yf.map (·.2)).getD 0), (12, 1, b2n xf.isSome), (13, 1, b2n yf.isSome), (14, 1, b2n self)])) s

/-! ## Ports and frames (R336, R349, R350, R352, R353) -/

/-- A port's own state. -/
def State.tport (s : State) (p : Nat) : TPort := Tab.getD s.tml.ports p {}

/-- A change of a port's own state. -/
def State.updPort (s : State) (p : Nat) (f : TPort → TPort) : State :=
  { s with tml := { s.tml with ports := Tab.set s.tml.ports p (f (s.tport p)) } }

/-- The state of a port (TML_PORT.STATE). -/
def State.portState (s : State) (p : Nat) : Nat := s.rf .TML_PORT p 0 0 3

/-- The credit pool of a frame (Table 11-3); 12 is the link-local class, which needs no credit. -/
def Frame.pool (f : Frame) : Nat := if f.cls = 0 then 12 else 4 * (f.cls - 1) + f.vc

/-- Where a frame came from: an input port, or 4 for this node's own traffic. -/
def Frame.source (f : Frame) : Nat := match f.body with | .through p _ _ _ => p | _ => 4

/-- The order in which the frames that wait at a port are served (R357): link-local ones, then the control pools, then the others, each round
robin from the one after the last served, and within a pool the input ports and the node's own traffic round robin. DESIGN CHOICE (log 143):
what comes from one source in one pool keeps its order. -/
def TPort.rank (x : TPort) (f : Frame) : Nat :=
  if f.pool = 12 then 0
  else 5 * (if f.pool < 4 then 1 + (f.pool + 4 - x.rrCtl) % 4 else 5 + (f.pool + 8 - x.rr) % 8)
    + (f.source + 5 - nth x.rrIn f.pool 0) % 5

/-- Two frames are of segments of one transfer: of one that this node issued, or of the answer to one of another node's. -/
def Frame.sameXfer (f g : Frame) : Bool :=
  f.body == .seg && g.body == .seg && f.cls == g.cls && f.dest == g.dest && f.seg.map (·.xfer) == g.seg.map (·.xfer)

/-- What waits at a port after a frame has left it: the rest of its transfer stands behind the others, so that transfers interleave frame by
frame (R363). -/
def TPort.rest (x : TPort) (f : Frame) : List Frame :=
  let q := x.queue.erase f
  q.filter (fun g => !g.sameXfer f) ++ q.filter (fun g => g.sameXfer f)

/-- The round robin of a port moves past a frame that has left it. -/
def TPort.served (x : TPort) (f : Frame) : TPort :=
  if f.pool = 12 then x
  else
    { x with rr := if f.pool < 4 then x.rr else (f.pool + 1) % 8,
             rrCtl := if f.pool < 4 then (f.pool + 1) % 4 else x.rrCtl,
             rrIn := modAt x.rrIn f.pool (fun _ => (f.source + 1) % 5) }

/-- The next frame that a port may send: one whose pool holds a credit (R353), while the replay buffer has room (R352) and the counter
has not reached its limit (R337). During a global stop (`stop`) none of this node's own segments leaves (R420). -/
def TPort.next (x : TPort) (stop : Bool) : Option Frame :=
  if 64 ≤ x.replay.length || (2 ^ 48 - 2 ^ 16 ≤ x.tx && x.newKey.isNone) then none
  else
    match x.queue.filter (fun f => f.pool = 12 || (0 < nth x.credits f.pool 0 && !(stop && f.body == .seg))) with
    | [] => none
    | a :: r => some (r.foldl (fun a b => if x.rank b < x.rank a then b else a) a)

/-- After its own KEY_SWITCH an end sends under the new key, from counter 0 (R337); what it has sent before keeps its ciphertext. -/
def TPort.switchTx (x : TPort) : TPort :=
  { x with txKey := x.newKey.or x.txKey, newKey := none, tx := 0, oldTx := x.tx,
           replay := x.replay.map (fun (e : Sent) => { e with old := true }) }

/-- The node at the other end of a port's link. -/
def State.peerOf (s : State) (p : Nat) : Nat :=
  if 2 ≤ s.portState p then s.rf .TML_PORT p 0 14 4 else (s.neighbour s.posn p).1

/-- The buffer of a received frame is free again, and its hop credit is due to the sender (R353). -/
def State.oweCredit (s : State) (p cls vc : Nat) : State :=
  if cls = 0 then s else s.updPort p (fun x => { x with owed := modAt x.owed (4 * (cls - 1) + vc) (fun c => c + 1) })

/-- The buffer in which a forwarded frame came is free. -/
def State.freeFrame (s : State) (f : Frame) : State :=
  match f.body with
  | .through p vc _ true => s.oweCredit p f.cls vc
  | _ => s

/-- The first frame of a segment of a transfer of this node has left: its transfer credit is used (R364, R368). -/
def State.segWired (s : State) (f : Frame) : State :=
  match f.body, f.seg with
  | .seg, some d =>
    if f.cls = 2 && d.frame = 0 then
      { s with tml := { s.tml with xfers := Tab.upd s.tml.xfers d.xfer (fun y => { y with wired := max y.wired (d.seg + 1) }) } }
    else s
  | _, _ => s

/-- What the flits of a segment carry for the filters of R401: the task of this node's transfer, or the partition that another node's
reaches. -/
def State.frameWho (s : State) (f : Frame) : Who3 :=
  match f.body, f.seg with
  | .seg, some d =>
    if f.cls = 2 then
      (((Tab.get? s.tml.xfers d.xfer).bind (fun y => Tab.get? s.tasks y.task)).map Task.who).getD {}
    else { part := (s.tml.inb.find? (fun y => y.src == f.dest && y.xfer == d.xfer)).map (·.part) }
  | _, _ => {}

/-- A frame leaves a port under the next counter, with the acknowledgement and the credits that it returns, enciphered under the port's
key (R336; one that has been zeroised reads as zero), and waits in the replay buffer; its pool's hop credit is used, and the buffer of one
that came through another port is free. A link-local one goes to the node at the other end (R349). Its body flits are counted, and those
of another node's frame once more (Table 13-1). -/
def State.txNow (s : State) (p : Nat) (f : Frame) : State :=
  let x := s.tport p
  let h := if f.cls = 0 then { f with dest := s.peerOf p, src := s.posn } else f
  let g := { h with ctr := x.tx, ack := (x.rx + 65535) % 65536, nak := x.nakDue, credit := x.owed.map (fun c => min 15 c) }
  let g := { g with toFrameIn := (x.txKey.getD {}).sealed g.toFrameIn }
  let s := s.updPort p (fun x => { x.served f with
    tx := x.tx + 1, replay := x.replay ++ [{ frame := g, at0 := s.ref }], credits := modAt x.credits f.pool (fun c => c - 1),
    owed := x.owed.map (fun c => c - min 15 c), nakDue := false, queue := x.rest f })
  let s := (s.freeFrame f).segWired f
  let s := s.when (f.typ = 4) (fun s => s.updPort p TPort.switchTx)
  let s := (s.setF .SEC_LINK p 0 48 16 ((s.tport p).tx / 2 ^ 32)).emit (.frame p g)
  let s := s.count (160 + 2 * p) (64 * f.text.length) (s.frameWho f)
  match f.body with
  | .through _ _ _ _ => s.count (168 + p) (64 * f.text.length)
  | _ => s

/-- The frames that wait at a port and may leave do so, at most `n`. -/
def State.pump (s : State) (p : Nat) : Nat → State
  | 0 => s
  | n + 1 =>
    if s.portState p ≠ 3 then s
    else
      match (s.tport p).next s.gstopped with
      | some f => (s.txNow p f).pump p n
      | none => s

/-- What a port may send leaves. -/
def State.pumpAll (s : State) (p : Nat) : State := s.pump p (s.tport p).queue.length

/-- A frame is handed to a port. -/
def State.txFrame (s : State) (p : Nat) (f : Frame) : State :=
  (s.updPort p (fun x => { x with queue := x.queue ++ [f] })).pumpAll p

/-- The virtual channel in which a frame leaves through port `q` (R354, R355): it keeps its channel within a dimension, starts in the
lower one of its pair in a new dimension, and takes the higher one where it crosses the dateline. -/
def State.nextVc (s : State) (vc : Nat) (from0 : Option Nat) (q : Nat) : Nat :=
  let x := s.posn % s.fabW
  let y := s.posn / s.fabW
  let crosses := match q with
    | 0 => x + 1 == s.fabW
    | 1 => x == 0
    | 2 => y + 1 == s.fabH
    | _ => y == 0
  if crosses then vc / 2 * 2 + 1 else if from0.any (fun p => p / 2 == q / 2) then vc else vc / 2 * 2

/-- The first hop of traffic to a node: the port and whether it goes x first. A node that is no member yet is reached through a member
neighbour, and reaches the fabric through its first port that is up (Table 11-9). -/
def State.hopTo (s : State) (n : Nat) : Option (Nat × Bool) :=
  if n = s.posn then none
  else
    match s.routeArcs s.posn n with
    | some (x, r) => some ((arcsHop r).1, x)
    | none =>
      match (List.range 4).find? (fun p => s.portState p = 3 && (s.neighbour s.posn p).1 == n) with
      | some p => some (p, true)
      | none =>
        if s.member then
          ((List.range 4).findSome? (fun p => s.routeArcs s.posn (s.neighbour n p).1)).map (fun r => ((arcsHop r.2).1, r.1))
        else ((List.range 4).find? (fun p => s.portState p = 3)).map (fun p => (p, true))

/-- The port through which a frame of another node goes on to a node, x first or y first as it came (R354: no frame changes between the two);
one for a node that is no member yet as in `hopTo`. -/
def State.hopOn (s : State) (n : Nat) (x : Bool) : Option Nat :=
  if n = s.posn then none
  else
    match (if s.nodeUp n then s.path x s.posn n else none) with
    | some r => some r.1
    | none =>
      if s.nodeUp n then none
      else
        match (List.range 4).find? (fun p => s.portState p = 3 && (s.neighbour s.posn p).1 == n) with
        | some p => some p
        | none => (List.range 4).findSome? (fun p =>
            let m := (s.neighbour n p).1
            if s.nodeUp m then (s.path x s.posn m).map (·.1) else none)

/-- A frame of this node's own traffic goes on its way to a node. -/
def State.wire (s : State) (dest : Nat) (f : Frame) : State :=
  match s.hopTo dest with
  | some (q, x) => s.txFrame q { f with dest := dest, src := s.posn, vc := s.nextVc (if x then 0 else 2) none q }
  | none => s

/-! ## Control messages and broadcasts (R358, R369, R374) -/

/-- A control message leaves for a node. -/
def State.sendNow (s : State) (dest seq : Nat) (m : Msg) : State :=
  (s.emit (.msg dest seq m)).wire dest { typ := 1, cls := 1, body := .msg seq m, text := [msgFlit seq m] }

/-- A control message to another node, numbered for the pair (R358, R369); what waits for its acknowledgement is kept. After a change of
route one that is kept waits until every earlier one is acknowledged or has failed. -/
def State.send (s : State) (dest : Nat) (m : Msg) (f : Option Nat := none) (host : Option Nat := none)
    (cmd : Option CmdRef := none) (back : Bool := false) : State :=
  let q := Tab.getD s.tml.seqs dest 0
  let s := { s with tml := { s.tml with seqs := Tab.set s.tml.seqs dest ((q + 1) % 65536) },
                    remoteOps := if m.kept then s.remoteOps ++ [RemoteOp.mk dest q m f host cmd back] else s.remoteOps }
  if m.kept && s.tml.moved.contains dest then { s with tml := { s.tml with outbox := s.tml.outbox ++ [(dest, q, m)] } }
  else s.sendNow dest q m

/-- The messages to a node that waited for earlier ones go out once none of those is outstanding (R358). -/
def State.outboxOf (s : State) (dest : Nat) : State :=
  let mine := s.tml.outbox.filter (fun e => e.1 == dest)
  if s.remoteOps.any (fun o => o.dest == dest && !mine.any (fun e => e.2.1 == o.seq)) then s
  else
    let s := { s with tml := { s.tml with moved := s.tml.moved.filter (fun n => n ≠ dest),
                                          outbox := s.tml.outbox.filter (fun e => e.1 ≠ dest) } }
    (mine.filter (fun e => s.remoteOps.any (fun o => o.dest == dest && o.seq == e.2.1))).foldl
      (fun s e => s.sendNow e.1 e.2.1 e.2.2) s

/-- The same for every destination whose route has changed. -/
def State.outboxPoll (s : State) : State := s.tml.moved.foldl State.outboxOf s

/-- A broadcast goes out on every link (R374). -/
def State.flood (s : State) (src seq : Nat) (m : Msg) : State :=
  (List.range 4).foldl (fun s p =>
    if s.portState p = 3 then
      s.txFrame p { typ := 1, cls := 1, vc := s.nextVc 0 none p, dest := (s.neighbour s.posn p).1, src := s.posn, body := .msg seq m,
                    text := [msgFlit seq m] }
    else s) (s.emit (.flood src seq m))

/-- A broadcast is known here. Its origin numbers them modulo 65536: one that is 32,768 or more behind is forgotten (log 180). -/
def State.sees (s : State) (src seq : Nat) : State :=
  let kept := s.tml.seen.filter (fun e => e.1 ≠ src || (seq + 65536 - e.2) % 65536 < 32768)
  { s with tml := { s.tml with seen := kept ++ [(src, seq)] } }

/-- A broadcast, which floods every link (R374); this node will not forward it again. -/
def State.broadcast (s : State) (m : Msg) : State :=
  let q := Tab.getD s.tml.seqs 16 0
  let s := { s with tml := { s.tml with seqs := Tab.set s.tml.seqs 16 ((q + 1) % 65536) } }
  (s.sees s.node q).flood s.node q m

/-! ## Segments (R342, R351, R364) -/

/-- The bytes of segment `i` of a transfer of `len` bytes. -/
def segBytes (len i : Nat) : Nat := min 4096 (len - 4096 * i)

/-- The next counter of the segment IVs of a tenant in its present epoch (R342). -/
def State.nextIv (s : State) (ft : Nat) : Nat × State :=
  let v := Tab.getD s.tml.ivs ft 0
  (v, { s with tml := { s.tml with ivs := Tab.set s.tml.ivs ft (v + 1) } })

/-- A segment goes out to a node: enciphered under the tenant's session key (R342), in up to eight frames of a class, each with its
descriptor (Table 11-4). Its payload is what the link port has read from the partition's memory. -/
def State.sendSeg (s : State) (dest cls : Nat) (d : SegDesc) (payload : List Word) : State :=
  let sealed := segSeal ((s.ftKey d.ft d.ep).getD 0) s.posn d (byteNats (wordBytes payload))
  let parts := cutBy 8 payload.length (bytesFlits sealed.1)
  parts.zipIdx.foldl (fun s e =>
    s.wire dest { cls := cls, body := .seg, text := e.1,
                  seg := some { d with frame := e.2, last := decide (e.2 + 1 = parts.length), tag := sealed.2 } })
    (s.emit (.seg dest d.xfer d.seg))

/-- A control frame that is no message has body flits whose number and content the spec does not give: free values (log 147). -/
def State.someFlits (s : State) : List (BitVec 512) × State :=
  let (v, s) := s.draw
  s.drawFlits (1 + v % 8)

end Sys2Proof.Machine
end

