-- ==== Sys2Proof/Machine/Trace.lean ====
section
/-! DEFINITION. Stops (R418, R419, R423), the trace records and their trigger (chapter 13), the error log (chapter 08), and the
partition of a function. -/

namespace Sys2Proof.Machine

/-! ## Stops (R418, R419, R423) -/

/-- A load that has not reached step 4 of Table 14-13 ends with a result of Table 14-12. -/
def State.endLoad (s : State) (result detail : Nat) : State :=
  let s := (s.setB .MCS_LOAD_STAT 0 0 0 false).setF .MCS_LOAD_STAT 0 0 1 3 0
  let s := (s.setF .MCS_LOAD_STAT 0 0 8 4 result).setF .MCS_LOAD_STAT 0 0 32 32 detail
  ({ s with mcs := { s.mcs with load := none } }).emit (.loadAns result detail)

/-- Every engine that is present, as class and physical number. -/
def State.presentEngines (s : State) : List (Cls × Nat) :=
  ((List.range 48).filter (fun p => (nth s.cores p {}).present)).map (fun p => (Cls.cores, p))
  ++ (s.engs.filter (fun e => e.2.present)).filterMap (fun e =>
      if e.1 < 2 then some (Cls.tiler, e.1) else if e.1 < 6 then some (Cls.dma, e.1 - 2)
      else if e.1 = 6 then some (Cls.comp, 0) else if e.1 = 7 then some (Cls.gate, 0) else none)

/-- Table 13-8 steps 1 and 2, and R418's broadcast, without the trace record. A stop that finds one in force does
nothing further, and one after the double-fault halt only lets step 3 run (R420). -/
def State.globalStopCore (s : State) (cause : Nat) : State :=
  if !s.rb .OBS_STOP_CFG 0 0 0 || s.gstopped then s
  else if s.haltedAll then { s with obs := { s.obs with haltStop := true } }
  else
    let s := s.emits (s.presentEngines.map (fun e => Emit.ctl e.1 e.2 .stop 0))
    let s := s.when s.mcs.load.isSome (fun s => s.endLoad 10 0)
    let s := (s.setB .OBS_STOP_STAT 0 0 0 true).setF .OBS_STOP_STAT 0 0 3 4 cause
    let s := s.setReg .OBS_STOP_TIME 0 0 (BitVec.ofNat 64 s.now)
    let s := s.when (s.rb .OBS_STOP_CFG 0 0 2 && cause ≠ 4) (fun s => s.broadcast (.atMsg 0 2))
    s.raise 20

/-- No task or transfer remains (R423). -/
def State.quiet (s : State) : Bool :=
  s.cores.all (fun c => c.run.isNone) && s.engs.all (fun e => e.2.runs.isEmpty)

/-- A soft stop, without the trace record (R423). -/
def State.softStopCore (s : State) (cause : Nat) : State :=
  if !s.rb .OBS_STOP_CFG 0 0 0 || s.gstopped || s.sstopped then s
  else
    let s := (s.setB .OBS_STOP_STAT 0 0 1 true).setF .OBS_STOP_STAT 0 0 3 4 cause
    let s := s.setB .OBS_STOP_STAT 0 0 2 s.quiet
    let s := s.setReg .OBS_STOP_TIME 0 0 (BitVec.ofNat 64 s.now)
    let s := s.when (s.rb .OBS_STOP_CFG 0 0 2 && cause ≠ 4) (fun s => s.broadcast (.atMsg 0 3))
    s.raise 20

/-! ## Trace (R407 to R411) -/

/-- A device record of the types 0x10 to 0x15, past the trigger (R408), of a happening at a fabric time. -/
def State.devRecordAt (s : State) (time ty data : Nat) : State :=
  if s.ringOn 8 && s.rb .TRC_GCFG 0 0 (ty - 0x10) then
    s.ringWrite 8 [BitVec.ofNat 64 time, s.devQ1 ty, 0, BitVec.ofNat 64 data]
  else s

/-- The same for one that happens now. -/
def State.devRecord (s : State) (ty data : Nat) : State := s.devRecordAt s.now ty data

/-- A freeze without its trace record: shadows, SEQ, CAUSE, TIME, source 19 (R403, R404). The fabric time of the window is
a free value from 0 to 30 ns after the trigger. A trigger in the arbitration of a freeze adds its cause to that one; those of one arbitration
that LOCKED turns away are one missed freeze. -/
def State.freezeCore (s : State) (cause : Nat) : State :=
  if s.obs.frozenAt = some s.ref then
    s.setF .OBS_FREEZE_STAT 0 0 16 4 (s.rf .OBS_FREEZE_STAT 0 0 16 4 ||| cause)
  else if s.rb .OBS_FREEZE_CTL 0 0 2 then
    (if s.obs.missedAt = some s.ref then s
     else ({ s with obs := { s.obs with missedAt := some s.ref } }).bump .OBS_FREEZE_STAT 0 0 32 16 1)
  else
    let (d, s) := s.draw
    let s := { s.copyShadows with obs := { s.copyShadows.obs with frozenAt := some s.ref, freezeRec := some s.now } }
    let s := s.setF .OBS_FREEZE_STAT 0 0 0 16 (s.rf .OBS_FREEZE_STAT 0 0 0 16 + 1)
    let s := s.setF .OBS_FREEZE_STAT 0 0 16 4 cause
    let s := s.setReg .OBS_FREEZE_TIME 0 0 (BitVec.ofNat 64 (s.now + d % 31))
    let s := s.when (s.rb .OBS_FREEZE_CTL 0 0 1) (fun s => s.setB .OBS_FREEZE_CTL 0 0 2 true)
    s.raise 19

/-- The FREEZE record of an earlier freeze (Table 13-5), past the trigger, with every cause that met in its arbitration (R404). -/
def State.freezeRecord (s : State) : State :=
  match s.obs.freezeRec with
  | some t =>
    if s.obs.frozenAt = some s.ref then s
    else ({ s with obs := { s.obs with freezeRec := none } }).devRecordAt t 0x14 (s.rf .OBS_FREEZE_STAT 0 0 0 20)
  | none => s

/-- The action of the trace trigger (R411), performed with ARMED clear. -/
def State.triggerAct (s : State) : State :=
  let act := s.rf .TRC_TRIG 0 0 10 2
  let fab := s.rb .TRC_TRIG 0 0 12
  let s := s.setB .TRC_TRIG 0 0 13 false
  if act = 1 then
    if s.rb .OBS_STOP_CFG 0 0 0 then
      let was := s.sstopped || s.gstopped
      let s := s.softStopCore 3
      let s := s.when (fab && !was && !s.rb .OBS_STOP_CFG 0 0 2) (fun s => s.broadcast (.atMsg 0 3))
      s.when (!was) (fun s => s.devRecord 0x15 1)
    else s
  else if act = 2 then
    if s.rb .OBS_STOP_CFG 0 0 0 then
      let was := s.gstopped || s.haltedAll
      let s := s.globalStopCore 3
      let s := s.when (fab && !was && !s.rb .OBS_STOP_CFG 0 0 2) (fun s => s.broadcast (.atMsg 0 2))
      s.when (!was) (fun s => s.devRecord 0x15 0)
    else s
  else
    let s := s.when fab (fun s => s.broadcast (.atMsg (s.now + 2000) 1))
    s.freezeRecord.freezeCore 4

/-- The trigger compared with a generated record (R411). -/
def State.trigger (s : State) (ty layer op : Nat) : State :=
  let w := s.reg .TRC_TRIG
  if bitOf w 13 && fld w 0 8 == ty && (!bitOf w 8 || fld w 32 16 == layer) && (!bitOf w 9 || fld w 48 16 == op) then
    s.triggerAct
  else s

/-- The LOSS record that the next record of a ring brings is compared with the trigger as every other one (R411). -/
def State.lossTrigger (s : State) (r : Nat) : State := s.when (s.lossDue r) (fun s => s.trigger 0x1F 0 0)

/-- A device record (types 0x10 to 0x15): generated only while its ring and its type are enabled (R408). -/
def State.traceDevAt (s : State) (time ty data : Nat) : State :=
  if s.ringOn 8 && s.rb .TRC_GCFG 0 0 (ty - 0x10) then ((s.trigger ty 0 0).lossTrigger 8).devRecordAt time ty data else s

/-- The same for one that happens now. -/
def State.traceDev (s : State) (ty data : Nat) : State := s.traceDevAt s.now ty data

/-- What a command's record carries (Table 13-4). -/
structure CmdTag where
  part : Nat
  ctx : Nat
  fn : Nat
  layer : Nat
  op : Nat
  tag : Half
  sq : Nat
  deriving DecidableEq, Repr

/-- A record of the types 0x01 to 0x06, into the ring of the context's partition and, with COPY, the global ring (R408). -/
def State.traceCmd (s : State) (ty : Nat) (c : CmdTag) (data : Word) : State :=
  if !s.ringOn c.part then s
  else
    let q1 := mkWord [(0, 8, ty), (8, 4, s.node), (12, 3, c.part), (16, 10, c.ctx), (26, 6, c.fn), (32, 16, c.layer),
      (48, 16, c.op)]
    let rec0 : List Word := [BitVec.ofNat 64 s.now, q1, mkWord [(0, 32, c.tag.toNat), (32, 12, c.sq)], data]
    let s := ((s.trigger ty c.layer c.op).lossTrigger c.part).ringWrite c.part rec0
    s.when (s.rb .TRC_GCFG 0 0 6 && s.ringOn 8) (fun s => (s.lossTrigger 8).ringWrite 8 rec0)

/-- The FREEZE record of a freeze is written once its arbitration is over, with every cause that met in it (R403, R404; log 172). -/
def State.freezePoll (s : State) : State :=
  match s.obs.freezeRec with
  | some t =>
    if s.obs.frozenAt = some s.ref then s
    else ({ s with obs := { s.obs with freezeRec := none } }).traceDevAt t 0x14 (s.rf .OBS_FREEZE_STAT 0 0 0 20)
  | none => s

/-- A freeze (R403); `cause` is a mask of Table 13's cause bits. -/
def State.freeze (s : State) (cause : Nat) : State := s.freezePoll.freezeCore cause

/-- The RUNG record of an entry or an exit (Table 13-5). -/
def State.rungRec (s : State) (k : Nat) (out aborted : Bool) : State :=
  s.traceDev 0x11 (packFields [(0, 3, k), (3, 1, b2n out), (4, 1, b2n aborted)])

/-- An exit completes: the processor is at LL0. At LL5 Voxbin's tables have been restored from the brumation area (R226). -/
def State.rungExited (s : State) : State :=
  if !s.gov.exiting then s
  else
    let s1 := { s with gov := { s.gov with exiting := false, rung := 0 } }
    let s1 := if s.gov.rung = 5 then s1.emit (.tables false (Config.regionAddr s.start.brumArea)) else s1
    s1.rungRec s.gov.leaving.1 true s.gov.leaving.2

/-- A host access to a register is a wake; at LL4 and LL5 it completes after the exit (R230, R231). DESIGN CHOICE (log 133): the
command stands for the access as it completes, so that the exit is over when it acts. -/
def State.hostWake (s : State) : State := if 4 ≤ s.gov.rung then s.wake.rungExited else s.wake

/-- A global stop for a cause of Table 13-10, with its STOP record. -/
def State.globalStop (s : State) (cause : Nat) : State :=
  let was := s.gstopped
  let s := s.globalStopCore cause
  s.when (!was && s.gstopped) (fun s => s.traceDev 0x15 0)

/-- A soft stop for a cause of Table 13-10, with its STOP record. -/
def State.softStop (s : State) (cause : Nat) : State :=
  let was := s.sstopped
  let s := s.softStopCore cause
  s.when (!was && s.sstopped) (fun s => s.traceDev 0x15 1)

/-! ## The error log (R286, R287) -/

/-- The fields of an error-log record (Table 08-11). -/
structure ErrRec where
  cls : Nat
  sub : Nat := 0
  fn : Option Nat := none
  ctx : Option Nat := none
  obj : Option Nat := none
  addr : Word := 0
  off : Nat := 0
  layer : Nat := 0
  op : Nat := 0
  tag : Nat := 0
  seq : Nat := 0
  detail : List Word := []
  deriving DecidableEq, Repr

/-- The qwords of an error-log record. -/
def ErrRec.qwords (e : ErrRec) (time : Nat) : List Word :=
  [mkWord [(0, 8, e.cls), (8, 8, e.sub), (16, 6, e.fn.getD 0), (22, 10, e.ctx.getD 0), (32, 12, e.obj.getD 0),
     (44, 1, b2n e.fn.isSome), (45, 1, b2n e.ctx.isSome), (46, 1, b2n e.obj.isSome)],
   BitVec.ofNat 64 time, e.addr,
   mkWord [(0, 25, e.off), (32, 16, e.layer), (48, 16, e.op)],
   mkWord [(0, 32, e.tag), (32, 32, e.seq)],
   nth e.detail 0 0, nth e.detail 1 0, nth e.detail 2 0]

/-- One more error of a class that is counted only (TEARDOWN_WAIT, MERGED). -/
def State.errCount (s : State) (cls : Nat) : State := s.bump .ERR_CNT cls 0 0 16 1

/-- An error-log record is written (R286): the primary record where none is held, the class count, source 0, and the FAULT
trace record (Table 13-5). -/
def State.logErr (s : State) (e : ErrRec) : State :=
  let s := s.errCount e.cls
  let s :=
    if s.rb .ERR_STAT 0 0 0 then s
    else
      let s := ((e.qwords s.now).zipIdx).foldl (fun s q => s.setReg .ERR_REC q.2 0 q.1) s
      (s.setB .ERR_STAT 0 0 0 true).setF .ERR_STAT 0 0 8 8 e.cls
  let s := s.when s.ready (fun s => s.raise 0)
  s.traceDev 0x13 (packFields [(0, 8, e.cls), (8, 8, e.sub), (16, 12, e.obj.getD 0)])

end Sys2Proof.Machine
end

