-- ==== Sys2Proof/Machine/Cipher.lean ====
section
/-! DEFINITION. What the memory cipher lets through (R315, R316, R323, R324): the places of partition memory, its sealed pages,
and the requests that are refused. -/

namespace Sys2Proof.Machine

/-- A partition is live (VXB_PART_RES.LIVE). -/
def State.live (s : State) (t : Nat) : Bool := s.rb .VXB_PART_RES t 0 24


/-- A byte range of partition offsets meets a sealed range of the partition (R323, MCI_SEAL). -/
def State.meetsSeal (s : State) (t o len : Nat) : Bool :=
  (List.range 4).any (fun r =>
    let w := s.reg .MCI_SEAL t r
    bitOf w 36 && fld w 0 36 * 4096 < o + len && o < (fld w 0 36 + fld w 40 24) * 4096)

/-- The cipher refuses an access of Voxbin's own, or of an engine but a core or the weight gate, to `len` bytes (R323, R324): at
or above the partition's data size, of a partition that is not live, or in a sealed page. -/
def State.placeRefused (s : State) (t : Nat) (a : Word) (len : Nat) : Bool :=
  match s.partOffset a with
  | none => false
  | some o => !s.live t || s.rf .MCI_PART t 0 16 36 * 4096 < o + len || s.meetsSeal t o len

/-- The same for the partition of a function or a context, where there is one. -/
def State.refused (s : State) (t : Option Nat) (a : Word) (len : Nat) : Bool := t.any (fun t => s.placeRefused t a len)

/-- The cipher's count of refused requests (MCI_STAT). -/
def State.refuseCnt (s : State) : State := s.bump .MCI_STAT 0 0 32 16 1

/-- A request of Voxbin's own that the cipher refuses is counted. -/
def State.noteRefused (s : State) (t : Option Nat) (a : Word) (len : Nat) : State := s.when (s.refused t a len) State.refuseCnt

/-- Data that a place delivers, or none where the cipher refuses it. -/
def State.unlessRefused {α : Type} (s : State) (t : Option Nat) (a : Word) (len : Nat) (d : Option α) : Option α :=
  if s.refused t a len then none else d

end Sys2Proof.Machine
end

