-- ==== Sys2Proof/Machine/Sched.lean ====
section
/-! DEFINITION. Contexts, virtual charges and the no-progress watchdog (R154 to R166, R263, R264), and the passing of
fabric time, which is where watchdog counts and rung residence grow. -/

namespace Sys2Proof.Machine

/-- The submissions of a context, by flight-table index. -/
def State.flightsOf (s : State) (c : Nat) : Tab Flight := s.flights.filter (fun e => e.2.ctx == c)

/-- The engine commands of a context that are not complete. -/
def State.tasksOf (s : State) (c : Nat) : Tab Task := s.tasks.filter (fun e => e.2.ctx == c)

/-- A context is active while it has an accepted, unretired submission (R155). -/
def State.ctxActive (s : State) (c : Nat) : Bool := s.flights.any (fun e => e.2.ctx == c)

/-- A change of a context's entry. -/
def State.updCtx (s : State) (c : Nat) (f : Ctx → Ctx) : State := { s with ctxs := Tab.upd s.ctxs c f }

/-- A change of a submission's flight-table entry. -/
def State.updFlight (s : State) (f : Nat) (g : Flight → Flight) : State := { s with flights := Tab.upd s.flights f g }

/-- A change of a task. -/
def State.updTask (s : State) (k : Nat) (g : Task → Task) : State := { s with tasks := Tab.upd s.tasks k g }

/-- A change of an SQ's entry. -/
def State.updSq (s : State) (q : Nat) (g : Sq → Sq) : State := { s with sqs := Tab.upd s.sqs q g }

/-- A change of a CR's entry. -/
def State.updCr (s : State) (c : Nat) (g : Cr → Cr) : State := { s with crs := Tab.upd s.crs c g }

/-- A change of a core. -/
def State.updCore (s : State) (p : Nat) (g : Core → Core) : State := { s with cores := modAt s.cores p g }

/-- A change of an engine of another class, by its number in the order tilers, DMA, composition, gate, links. -/
def State.updEng (s : State) (e : Nat) (g : Eng → Eng) : State := { s with engs := Tab.upd s.engs e g }

/-- The number of an engine of a class other than cores in the order of SCH_ENGMAP's classes: tilers 0 and 1, DMA 2 to 5,
composition 6, weight gate 7, links 8 to 11 (as Table 05-4 ENGINES numbers them). -/
def engNo (c : Cls) (peng : Nat) : Nat :=
  match c with
  | .tiler => peng | .dma => 2 + peng | .comp => 6 | .gate => 7 | .link => 8 + peng | .cores => 100 + peng

/-- The class and physical number of an engine number. -/
def engCls (e : Nat) : Cls × Nat :=
  if e < 2 then (.tiler, e) else if e < 6 then (.dma, e - 2) else if e = 6 then (.comp, 0)
  else if e = 7 then (.gate, 0) else (.link, e - 8)

/-- The weight of a class (Table 05-1). -/
def State.weight (s : State) (c : Cls) : Nat :=
  match c with
  | .cores => s.rf .SCH_CLASS_WEIGHT 0 0 0 16
  | .tiler => s.rf .SCH_CLASS_WEIGHT 0 0 16 16
  | .dma => s.rf .SCH_CLASS_WEIGHT 0 0 32 16
  | .comp => s.rf .SCH_CLASS_WEIGHT 0 0 48 16
  | .link => s.rf .SCH_CLASS_WEIGHT2 0 0 0 16
  | .gate => s.rf .SCH_CLASS_WEIGHT2 0 0 16 16

/-- The charge of a run segment (R156): class, engine time summed over engines, energy in nJ, at the price in force. -/
def State.chargeOf (s : State) (c : Cls) (ns nj : Nat) : Nat :=
  min ((ns * s.weight c + nj * s.rf .GOV_PRICE 0 0 0 16) / 256) (2 ^ 64 - 1)

/-- `a` lies below `b` by the signed difference modulo 2^64 (R160). -/
def vcLt (a b : Word) : Bool := (a - b).toInt < 0

/-- The lowest of some VCs by signed difference. -/
def vcMin : List Word → Option Word
  | [] => none
  | a :: r => match vcMin r with | some b => some (if vcLt b a then b else a) | none => some a

/-- The VCs of the active contexts of a class, but for one context. -/
def State.classVcs (s : State) (bg : Bool) (but : Option Nat) : List Word :=
  (s.ctxs.filter (fun e => e.2.background == bg && s.ctxActive e.1 && but != some e.1)).map (fun e => e.2.vc)

/-- SCH_VC_MIN or SCH_VC_MIN_BG: the lowest VC among the active contexts of a class, 0 when none is active (R159). -/
def State.vcMinOf (s : State) (bg : Bool) : Word := (vcMin (s.classVcs bg none)).getD 0

/-- The clamp of R160: a VC more than 2^62 above the minimum of its class becomes that minimum plus 2^62. -/
def State.clampVc (s : State) (c : Nat) : State :=
  match Tab.get? s.ctxs c with
  | none => s
  | some x =>
    let m := (vcMin (s.classVcs x.background none)).getD x.vc
    if (2 : Int) ^ 62 < (x.vc - m).toInt then s.updCtx c (fun x => { x with vc := m + (1#64 <<< 62) }) else s

/-- A context becomes active (R159, R263): its VC is at least the minimum among the other active contexts of its class, and
its watchdog count starts again. -/
def State.activate (s : State) (c : Nat) : State :=
  match Tab.get? s.ctxs c with
  | none => s
  | some x =>
    let s := match vcMin (s.classVcs x.background (some c)) with
      | some m => if vcLt x.vc m then s.updCtx c (fun x => { x with vc := m }) else s
      | none => s
    ({ s with wd := Tab.set s.wd c 0 }).clampVc c

/-- A progress happening of a context restarts its watchdog count (R263). -/
def State.progress (s : State) (c : Nat) : State := { s with wd := Tab.set s.wd c 0 }

/-- A charge reaches the VC of a context (R158, R160). -/
def State.addVc (s : State) (c charge : Nat) : State :=
  let s := s.updCtx c (fun x => { x with vc := x.vc + BitVec.ofNat 64 (charge * 65536 / max 1 x.share) })
  s.clampVc c

/-- Slots of the running table. -/
def State.slots (s : State) : List Slot := match s.cyc.table with | some t => t.slots | none => []

/-- The context is named by a slot of the running table, with the table enabled (R154, R170). -/
def State.isSlotCtx (s : State) (c : Nat) : Bool := s.cyc.running && s.slots.any (fun d => d.ctx == c)

/-- The task is real-time and waits for an instance (R180, R182). -/
def Task.rtWaiting (t : Task) : Bool := t.rtc && t.rt.isNone

/-- Waiting-on records of engine commands. -/
def WaitKind.engine (k : WaitKind) : Bool :=
  match k with | .window => true | .maquette => true | .credit _ _ => true | .drain _ _ => true | _ => false

/-- A task's submission is parked on what the task lacks: a maquette slot or link credits (Table 04-3, kinds 2 and 3). -/
def State.taskParked (s : State) (t : Task) : Bool :=
  match (Tab.get? s.flights t.f).bind (fun x => x.wait) with
  | some w => (match w.kind with | .maquette => t.cls == .cores | .credit _ _ => t.cls == .link | _ => false)
  | none => false

/-- A context is eligible under R155 for some resource: a task that is not launched, neither parked nor a real-time task waiting for
its instance, or a submission able to run on a sequencer. -/
def State.ctxEligible (s : State) (c : Nat) : Bool :=
  (s.tasksOf c).any (fun e => (e.2.phase == .ready || e.2.phase == .gathering || e.2.phase == .preloaded) && !e.2.rtWaiting
    && !s.taskParked e.2)
  || (s.flightsOf c).any (fun e => e.2.readySince.isSome && e.2.seqr.isNone)

/-- The only outstanding work of a submission is real-time tasks that wait for an instance (R185). -/
def State.rtOnly (s : State) (f : Nat) (x : Flight) : Bool :=
  let ts := s.tasks.filter (fun e => e.2.f == f)
  !ts.isEmpty && ts.all (fun e => e.2.rtWaiting) && x.wait.any (fun w => w.kind.engine)

/-- A wait on an event or semaphore with a timeout. -/
def WaitRec.timed (w : WaitRec) : Bool :=
  match w.kind with
  | .event _ _ => w.deadline.isSome
  | .sem _ _ _ => w.deadline.isSome
  | _ => false

/-- A function is in a function-level reset or a wider teardown, or its halt is being carried out (R280, R305, R308). -/
def State.fnInTd (s : State) (n : Nat) : Bool :=
  s.td.any (fun d =>
    match d.kind with
    | .flr => d.obj == n || d.obj == 0
    | .halted => d.obj == n
    | .removal => d.step ≤ 2 && s.fnPart n == some d.obj
    | .hostLoss => true
    | _ => false)

/-- A context is in an autotomy or in a teardown that covers its function (R271). -/
def State.ctxInTd (s : State) (c : Nat) : Bool :=
  s.td.any (fun d => d.kind == .autotomy && d.obj == c)
  || (match Tab.get? s.ctxs c with | some x => s.fnInTd x.fn | none => false)

/-- The scanner may visit and accept for an SQ: it is ACTIVE and nothing tears its context or function down. -/
def State.sqOpen (s : State) (x : Sq) : Bool := x.state == .active && !s.ctxInTd x.ctx && !s.fnInTd x.fn

/-- The conditions of Table 08-2 under which the watchdog count of a context stands still. -/
def State.wdHolds (s : State) (c : Nat) : Bool :=
  let fs := s.flightsOf c
  let parked := fs.filter (fun e => e.2.wait.isSome)
  let running := (s.tasksOf c).any (fun e => e.2.phase == .running)
  let heldCr := fs.any (fun e => match e.2.wait with
    | some w => (match w.kind with | .crSpace k => (Tab.get? s.crs k).any (fun r => r.state == .held) | _ => false)
    | none => false)
  s.ctxEligible c
  || (!parked.isEmpty && parked.all (fun e => e.2.wait.any WaitRec.timed) && !running)
  || heldCr
  || (!fs.isEmpty && fs.all (fun e => s.rtOnly e.1 e.2))
  || s.regrowing || s.sstopped || s.gstopped
  || s.ctxInTd c

/-- The reference domain (domain 17) delivers its clock: its loss lasts until a warm or cold reset (R21). -/
def State.refAlive (s : State) : Bool := !s.start.refLost

/-- A moment of the reference count as fabric time, at the offset of this moment. -/
def State.fabOf (s : State) (r : Nat) : Nat := s.now - (s.ref - r)

/-- The watchdog counts after `d` nanoseconds (R264). -/
def State.wdAfter (s : State) (d : Nat) : Tab Nat :=
  s.wd.map (fun e => if s.ctxActive e.1 && !s.wdHolds e.1 then (e.1, e.2 + d) else e)

/-- What a member has slewed of its offset to its parent while `n` ns of fabric time passed: at most 1 ns per µs (R371). -/
def slewed (off : Int) (n : Nat) : Int := if off < 0 then max off (-(n / 1000 : Nat)) else min off (n / 1000 : Nat)

/-- The slewing of an offset over `d` ns of fabric time. -/
def Tml.slewBy (m : Tml) (off : Int) (d : Nat) : Tml :=
  if off = 0 then { m with slew := 0, slewNs := 0 }
  else { m with slew := off - slewed off (m.slewNs + d), slewNs := (m.slewNs + d) % 1000 }

/-- The offset that this node's counter slews; the lead's own counter is the master. -/
def State.toSlew (s : State) : Int := if s.rb .TML_STAT 0 0 5 then 0 else s.tml.slew

/-- The service sequencer clears bits of IRQ_SS_PEND as it serves their sources, those enabled in IRQ_SS_EN (R393). Its microcode is
Hokuherad's own: which ones it has cleared meanwhile is a free value (log 158). -/
def State.serveSources (s : State) : State :=
  (List.range 8).foldl (fun s k =>
    let m := s.reg .IRQ_SS_PEND k &&& s.reg .IRQ_SS_EN k
    if m = 0 then s
    else
      let (v, s) := s.draw
      s.setReg .IRQ_SS_PEND k 0 (s.reg .IRQ_SS_PEND k &&& ~~~(m &&& BitVec.ofNat 64 v))) s

/-- Fabric time moves to the moment of a happening, and the reference count by as much less what was slewed; neither goes backwards,
and both stand while the reference is lost. The watchdog counts and the residence of the rung grow by what has passed (R5, R13, R231,
R264, R371), so do the counters of what runs, and the service sequencer has served sources. -/
def State.at (s : State) (t : Nat) : State :=
  let d := t - s.now
  if d = 0 || !s.refAlive then s
  else
    let e := ((d : Int) - slewed s.toSlew (s.tml.slewNs + d)).toNat
    let s1 := s.setReg .GOV_RUNG_RES s.gov.rung 0 (s.reg .GOV_RUNG_RES s.gov.rung 0 + BitVec.ofNat 64 e)
    let s1 := (s1.coreTime e).when s1.alive State.serveSources
    { s1 with now := t, ref := s.ref + e, wd := s.wdAfter e, tml := s.tml.slewBy s.toSlew d }

/-- The stretch of R71 and the demand behind it as a fraction: visits per second, numerator and denominator. -/
def addFrac (a b : Nat × Nat) : Nat × Nat :=
  let n := a.1 * b.2 + b.1 * a.2
  let d := a.2 * b.2
  let g := Nat.gcd n d
  if g = 0 then (0, 1) else (n / g, d / g)

/-- The largest n with (2n − 1)^32 ≤ 200^32 × 10^c, found bit by bit from bit `k`. -/
def pollSearch (c : Nat) : Nat → Nat → Nat
  | 0, n => n
  | k + 1, n =>
    let m := n + 2 ^ k
    pollSearch c k (if (2 * m - 1) ^ 32 ≤ 200 ^ 32 * 10 ^ c then m else n)

/-- The nominal interval of a poll code in ns (R70): 100 ns × 10^(c/32) to the nearest nanosecond. -/
def pollNs (c : Nat) : Nat := pollSearch c 31 0

/-- The demand D of R71 in visits per second. -/
def State.demand (s : State) : Nat × Nat :=
  (s.sqs.filter (fun e => e.2.state == .active && e.2.poll ≤ 224)).foldl
    (fun a e => addFrac a (1000000000, pollNs e.2.poll)) (0, 1)

/-- The stretch S of R71, unsigned 16.16. -/
def State.stretch (s : State) : Nat :=
  let d := s.demand
  max 65536 ((d.1 * 65536 + d.2 * 250000000 - 1) / (d.2 * 250000000))

/-- QS_DEMAND: the demand in thousands of visits per second, rounded up. -/
def State.demandK (s : State) : Nat := let d := s.demand; (d.1 + d.2 * 1000 - 1) / (d.2 * 1000)

/-- The effective interval of an SQ (R71), to the nearest nanosecond. -/
def State.effNs (s : State) (q : Sq) : Nat := (pollNs q.poll * s.stretch + 32768) / 65536

end Sys2Proof.Machine
end

