-- ==== Sys2Proof/Machine/Lanes.lean ====
section
/-! DEFINITION. Discarding preloads and due launches (R245, R258), the start of a regrowth (R272, R273, Table 08-6 steps 1
to 3) and the double-fault halt (R283). -/

namespace Sys2Proof.Machine

/-- The maquette slots a task holds become free (R243). -/
def State.freeSlots (s : State) (k : Nat) : State := { s with mqSlots := s.mqSlots.filter (fun e => e.2.task ≠ k) }

/-- The due launches that satisfy `p` are dropped: the ranges of a continuation stay with its rank, and a task of another class than
cores is ready again. -/
def State.dropDue (s : State) (p : Due → Bool) : State :=
  let gone := s.due.filter p
  let s := { s with due := s.due.filter (fun d => !p d) }
  gone.foldl (fun s d => if d.cls == .cores then s else s.updTask d.task (fun t => { t with phase := .ready })) s

/-- The streams of a task on the cluster channels go: one in progress keeps its channel until it is acknowledged (R241). -/
def State.dropJobs (s : State) (p : Nat → Bool) : State :=
  { s with mqJobs := (s.mqJobs.filter (fun j => j.active || !p j.task)).map (fun (j : MqJob) =>
      if p j.task then { j with dead := true } else j) }

/-- Every shadow bank that a task holds or gathers becomes empty. -/
def State.emptyBanks (s : State) (k : Nat) : State :=
  { s with cores := s.cores.map (fun c => if c.bank == some k then { c with bank := none } else c) }

/-- The preload of a task is discarded (R245): the banks of the cores that have not launched become empty, the slot is
free, and a task that has launched nowhere is ready with its age and its progress record as they were; otherwise the ranges of the
ranks not launched become orphaned (R468). -/
def State.discard (s : State) (k : Nat) : State :=
  match Tab.get? s.tasks k with
  | none => s
  | some t =>
    if t.cls != .cores || (t.phase != .gathering && t.phase != .preloaded && !(t.ranks.any (fun r => !r.launched && !r.released)))
    then s
    else
      let s := (s.dropDue (fun d => d.task == k && d.cont.isNone)).emptyBanks k
      let s := s.dropJobs (fun j => j == k)
      let s := (s.freeSlots k).bump .SCH_MQ_CNT 0 0 0 16 1
      let s := s.count 278 1 { part := some t.part, ctx := some t.ctx, layer := some t.layer }
      if t.ranks.any (fun r => r.launched) then
        s.updTask k (fun t =>
          let orphans := (t.ranks.zipIdx.filter (fun r => !r.1.launched && !r.1.released)).flatMap
            (fun r => r.1.ranges.map (fun g => (r.2, g)))
          { t with
            progress := t.progress ++ orphans,
            ranks := t.ranks.map (fun r => if r.launched then r else { r with released := true, ranges := [] }),
            slot := none, remainder := [] })
      else
        s.updTask k (fun t =>
          let old := t.undo.getD (t.progress, if t.progress.isEmpty then 0 else t.setn)
          { t with phase := .ready, ranks := [], held := [], slot := none, hdrSent := false, remainder := [],
                   acked := [], progress := old.1, setn := old.2, undo := none })

/-- A staged hint is released (R246). -/
def State.dropHints (s : State) (p : Hint → Bool) : State := { s with hints := s.hints.filter (fun e => !p e.2) }

/-- Every preload, staged hint, gathering set and due launch that has not risen is discarded (R258), and the sequencers are reset (Table
08-6 step 3). A launch whose handshake has risen keeps its lane until the handshake completes. -/
def State.resetFront (s : State) : State :=
  let s := s.dropDue (fun _ => true)
  let s := (s.tasks.map (fun e => e.1)).foldl State.discard s
  { (s.dropJobs (fun _ => true)) with hints := [], mqSlots := [], mcs := { s.mcs with seqs := [] } }

/-- Every memory key slot and link key is zeroised (R283 step 3). -/
def State.zeroiseKeys (s : State) : State :=
  let s := (List.range 64).foldl (fun s k => s.setReg .SEC_SLOT k 0 0) s
  let s := { s with sec := { s.sec with keys := [], oldKeys := [] }, tml := { s.tml with ports := Tab.mapV s.tml.ports (fun p =>
    { p with txKey := none, newKey := none, rxKey := none, oldKey := none }) } }
  (List.range 4).foldl (fun s p => s.setF .SEC_LINK p 0 0 2 0) s

/-- A frame that came through a port which is down: there is no credit to give back there. -/
def Frame.unowed (p : Nat) (f : Frame) : Frame :=
  match f.body with
  | .through q vc ctr _ => if q = p then { f with body := .through q vc ctr false } else f
  | _ => f

/-- A link port is down: its state and lanes as TML_PORT shows them, and what waited on it is gone. -/
def State.portOff (s : State) (p : Nat) : State :=
  let s := (((s.setF .TML_PORT p 0 0 3 0).setF .TML_PORT p 0 3 4 0).setB .TML_PORT p 0 9 false).setF .TML_PORT p 0 7 2 3
  { s with tml := { s.tml with ports := Tab.mapV (Tab.erase s.tml.ports p) (fun (x : TPort) =>
      { x with queue := x.queue.map (Frame.unowed p) }) } }

/-- The squashes of the double-fault halt, one for each task that an engine runs (R38). -/
def State.haltSquashes (s : State) : List Emit :=
  (List.range 48).filterMap (fun p => (nth s.cores p {}).run.map (fun r => Emit.ctl .cores p .squash r.tag))
  ++ s.engs.flatMap (fun e => e.2.runs.map (fun r => Emit.ctl (engCls e.1).1 (engCls e.1).2 .squash r.tag))

/-- The double-fault halt (R283). Views send no message from its start on (R397): ERR_STAT.HALTED is set ahead of what is raised. -/
def State.doubleFault (s : State) (cause : Nat) : State :=
  let s := (s.emits s.haltSquashes).emits (s.presentEngines.map (fun e => Emit.ctl e.1 e.2 .stop 0))
  let ups := (List.range 4).filter (fun p => 3 ≤ s.rf .TML_PORT p 0 0 3)
  let s := ((List.range 4).foldl State.portOff s).zeroiseKeys
  let s := s.setB .ERR_STAT 0 0 2 true
  let s := s.logErr { cls := 0x03, sub := cause }
  (s.when (!ups.isEmpty) (fun s => s.raise 14)).emit (.pin "VXB_HALT_N" false)

/-- What a regrowth trigger carries into the capture record (Table 08-12). -/
structure RegrowInfo where
  cause : Nat
  seqr : Nat := 15
  addr : Nat := 0
  fn : Option Nat := none
  ctx : Option Nat := none
  sq : Nat := 0
  admin : Bool := false
  entry : List Word := []
  entryAddr : Word := 0
  tag : Nat := 0
  deriving DecidableEq, Repr

/-- The capture record ERR_REGROW: SEQ and MCS_ADDR name a parity error alone. -/
def State.capture (s : State) (i : RegrowInfo) (rep : Bool) : State :=
  let hi := (i.entry.drop 4).any (fun w => w ≠ 0)
  let pos (k : Nat) : Nat := (Tab.getD s.mcs.seqs k {}).pc
  let par := i.cause = 2
  let q0 := mkWord [(0, 3, i.cause), (3, 1, b2n rep), (4, 4, if par then i.seqr else 15), (8, 16, if par then i.addr else 0), (24, 6, i.fn.getD 0),
    (30, 12, if i.admin then 0 else i.sq), (42, 1, b2n hi), (43, 1, b2n i.admin)]
  let q1 := mkWord [(0, 16, pos 0), (16, 16, pos 1), (32, 16, pos 2), (48, 16, pos 3)]
  let q2 := mkWord [(0, 16, pos 4), (16, 16, pos 5), (32, 16, pos 6), (48, 16, pos 7)]
  let q3 := mkWord [(0, 16, pos 8), (16, 48, s.now)]
  ([q0, q1, q2, q3, nth i.entry 0 0, nth i.entry 1 0, nth i.entry 2 0, nth i.entry 3 0].zipIdx).foldl
    (fun s q => s.setReg .ERR_REGROW q.2 0 q.1) s

/-- A submission held on a sequencer goes back to its last committed boundary, able to run (Table 08-6 steps 3 and 5): a
customer routine that has committed nothing is entered again from its CALL (R443). -/
def Flight.unseat (f : Flight) (now : Nat) : Flight :=
  match f.seqr with
  | some _ =>
    { f with seqr := none, readySince := some (f.readySince.getD now),
             call := f.call.bind (fun (c : Call) => if 64 ≤ c.routine && c.idx = 0 then none else some c) }
  | none => f

/-- A regrowth trigger interrupts a load whose image has been handed to the checks (Table 14-14). -/
def State.cutLoad (s : State) : State := s.when (s.mcs.load.any (fun l => l.ready.isSome)) (fun s => s.endLoad 10 0)

/-- A regrowth starts (R272): Table 08-6 steps 1 to 3 and the window's fault count (R273, R282). The third fault of a
window makes the double-fault halt. DESIGN CHOICE (log 134): the entry to a rung that is in progress is abandoned as by a wake (R232). -/
def State.startRegrow (s : State) (i : RegrowInfo) (errs : List TabErr) : State :=
  let n := if s.regrow.open0 then s.regrow.faults + 1 else 1
  let s := s.setF .ERR_STAT 0 0 48 2 n
  if 3 ≤ n then
    ({ s with regrow := { s.regrow with faults := 3 } }).doubleFault i.cause
  else
    let rep := s.regrow.open0
    let old := if rep then s.regrow else {}
    let off := match i.fn with
      | some f => old.culprits.filter (fun o => o.1 ≠ f) ++ (if old.culprits.any (fun o => o.1 == f) then
          old.culprits.filter (fun o => o.1 == f) else [(f, if i.cause = 1 then 1 else 2)])
      | none => old.culprits
    let s := { s with regrow := { old with injParity := s.regrow.injParity, injBad := s.regrow.injBad, injFix := s.regrow.injFix,
                                           open0 := true, faults := n, cause := i.cause, culprits := off,
                                           errs := old.errs ++ errs,
                                           reread := if i.cause = 2 then some (i.seqr, i.addr) else old.reread } }
    let s := (s.setB .ERR_STAT 0 0 1 true).bump .ERR_STAT 0 0 32 16 1
    let s := s.capture i rep
    let s := s.logErr { cls := 0x02, sub := i.cause, fn := i.fn, ctx := i.ctx, obj := if i.cause = 1 && !i.admin then some i.sq else none,
                        addr := if i.cause = 2 || i.cause = 5 then BitVec.ofNat 64 i.addr else i.entryAddr, tag := i.tag }
    let s := (s.when s.gov.entering.isSome State.wake).cutLoad.resetFront
    let s := { s with flights := Tab.mapV s.flights (fun f => f.unseat s.ref) }
    let s := s.dropReads (fun r => match r.tag with | .mbox _ => false | _ => true)
    { s with scan := { s.scan with visits := [] } }

end Sys2Proof.Machine
end

