-- ==== Sys2Proof/Machine/Queue.lean ====
section
/-! DEFINITION. Queues, rings and the scanner (chapter 02): doorbells, visits and fetches, the checks and the acceptance of
entries, completion entries, held completion rings, retirements and admin completions. -/

namespace Sys2Proof.Machine

/-! ## Doorbell slots -/

/-- The SQ in a doorbell slot of a function. -/
def State.sqAt (s : State) (f slot : Nat) : Option (Nat × Sq) :=
  s.sqs.find? (fun e => e.2.fn == f && e.2.dbSlot == slot)

/-- The CR in a doorbell slot of a function. -/
def State.crAt (s : State) (f slot : Nat) : Option (Nat × Cr) :=
  s.crs.find? (fun e => e.2.fn == f && e.2.dbSlot == slot)

/-- The size of a ring. -/
def ringSize (log2 : Nat) : Nat := 2 ^ log2

/-- R68: a producer index is in range. -/
def piOk (ci old new : Half) (log2 : Nat) : Bool :=
  (old - ci).toNat ≤ (new - ci).toNat && (new - ci).toNat ≤ ringSize log2

/-- R69: a consumer index is in range. -/
def ciOk (pi old new : Half) : Bool := (new - old).toNat ≤ (pi - old).toNat

/-- A write of an SQ's producer index (R68); `true` comes back when it was accepted. HELD SQs accept it too (Table 02-11). DESIGN
CHOICE (log 116): an out-of-range write on a HELD SQ sets BAD_PI, as on an ACTIVE one. -/
def State.writePi (s : State) (q : Nat) (x : Sq) (v : Half) : Bool × State :=
  if x.state != .active && x.state != .held then (false, s)
  else if piOk x.ci x.pi v x.log2 then (true, s.updSq q (fun x => { x with pi := v }))
  else (false, s.updSq q (fun x => { x with badPi := true }))

/-- An urgent request for a visit, after the requests already waiting (R72). Requests that arrive during a regrowth or a
soft stop keep their order and are served when the front end resumes (R279, R423). -/
def State.urgent (s : State) (q : Option Nat) : State :=
  { s with scan := { s.scan with urgent := s.scan.urgent ++ [q] } }

/-- A doorbell write of an SQ (R68, R72): with URGENT, or on an SQ that is never polled, it requests a visit at once. -/
def State.doorbell (s : State) (f slot : Nat) (v : Word) : State :=
  match s.sqAt f slot with
  | none => s
  | some (q, x) =>
    if s.fnInTd f || s.rb .ADM_STAT f 0 2 then s else
    let (ok, s1) := s.writePi q x (v.setWidth 32)
    let s1 := s1.wake
    if ok && (bitOf v 63 || x.poll == 255) then s1.urgent (some q) else s1

/-! ## Capacity -/

/-- The free count of a CR (R74). -/
def Cr.free (c : Cr) : Nat := ringSize c.log2 - (c.pi - c.ci).toNat - c.reserved

/-- Entries of an SQ that are fetched and not accepted. -/
def Sq.buffered (q : Sq) : Nat := (q.fetched - q.ci).toNat

/-- An admin queue's size, 2^4 for a code outside 4 to 12 (ADM_CFG). -/
def admLog2 (n : Nat) : Nat := if 4 ≤ n && n ≤ 12 then n else 4

/-- F0's admin consumer index. -/
def State.admCi (s : State) (f : Nat) : Half := BitVec.ofNat 32 (s.rf .ADM_SQ_CI f 0 0 32)

/-- An entry of F0's admin SQ holds an entry buffer: its read is outstanding or its data has come. -/
def AdmCell.holds (c : AdmCell) : Bool :=
  match c with
  | .reading => true
  | .data _ => true
  | .failed => false
  | .again => false

/-- The entry buffers that F0's admin SQ holds. -/
def State.admBuffered (s : State) : Nat := (s.adm.cells.filter AdmCell.holds).length

/-- Free entry buffers of the pool of 2,048 (R73, R76). -/
def State.poolFree (s : State) : Nat :=
  2048 - (s.sqs.foldl (fun n e => n + e.2.buffered) 0 + s.admBuffered)

/-- The free slots of a function's admin CR. -/
def State.admCrFree (s : State) (f : Nat) : Nat :=
  let pi : Half := BitVec.ofNat 32 (s.rf .ADM_CR_PI f 0 0 32)
  let ci : Half := BitVec.ofNat 32 (s.rf .ADM_CR_CI f 0 0 32)
  2 ^ admLog2 (s.rf .ADM_CFG f 0 4 4) - (pi - ci).toNat - (if f = 0 then s.adm.reserved else (Tab.getD s.admHeld f []).length)

/-! ## Visits (R72, R73, R76) -/

/-- The places of `n` slots from index `i` of a ring of 64-byte entries, split at the end of the ring (R73): address and bytes of
each read. -/
def fetchParts (base : Word) (log2 : Nat) (i : Half) (n : Nat) : List (Word × Nat) :=
  let p := i.toNat % ringSize log2
  let a := min n (ringSize log2 - p)
  let one := (base + BitVec.ofNat 64 (64 * p), 64 * a)
  if a < n then [one, (base, 64 * (n - a))] else [one]

/-- The reads of `n` slots of a ring are issued. -/
def State.fetch (s : State) (tag : ReadTag) (base : Word) (log2 : Nat) (i : Half) (n : Nat) : State :=
  (fetchParts base log2 i n).foldl (fun s p => s.readMem tag p.1 p.2) s

/-- An SQ is marked short, keeping its place, or is short no longer (R76). -/
def State.markShort (s : State) (q : Option Nat) (short : Bool) : State :=
  let l := s.scan.short
  let l' := if short then (if l.contains q then l else l ++ [q]) else l.filter (fun x => x ≠ q)
  { s with scan := { s.scan with short := l' } }

/-- A fetching visit takes its place among the visits whose entries are not all accepted (R75). -/
def State.noteVisit (s : State) (q n : Nat) : State :=
  { s with scan := { s.scan with visits := s.scan.visits ++ [(q, n)] } }

/-- A visit of an SQ. One that is not ACTIVE, or is being torn down, is left as it is. -/
def State.visitSq (s : State) (q : Nat) : State :=
  match Tab.get? s.sqs q with
  | none => s
  | some x =>
    if !s.sqOpen x then s
    else
      match Tab.get? s.crs x.cr with
      | none => s
      | some c =>
        let avail := (x.pi - x.fetched).toNat
        let want := x.depth - x.buffered
        let pool := s.poolFree
        let free := c.free
        let n := min avail (min (min want pool) free)
        let s :=
          if n = 0 then s
          else
            let s := s.updCr x.cr (fun c => { c with reserved := c.reserved + n })
            let s := (s.fetch (.entryFetch q) x.base x.log2 x.fetched n).noteVisit q n
            s.updSq q (fun x => { x with fetched := x.fetched + BitVec.ofNat 32 n })
        s.markShort (some q) (n < min avail (min want free) && s.poolFree == 0)

/-- The admin SQ is in service and may be visited: enabled, its CR not held, the function not halted. -/
def State.admOpen (s : State) : Bool := s.rb .ADM_STAT 0 0 0 && !s.rb .ADM_STAT 0 0 1 && !s.rb .ADM_STAT 0 0 2

/-- The reads of `n` entries of F0's admin SQ from index `i` are issued, their completion slots reserved. -/
def State.admFetch (s : State) (i : Half) (n : Nat) : State :=
  let s := s.fetch .adminFetch (s.reg .ADM_SQ_BASE 0) (admLog2 (s.rf .ADM_CFG 0 0 0 4)) i n
  { s with adm := { s.adm with reserved := s.adm.reserved + n } }

/-- The entries of discarded reads that a doorbell has made due are read again, as many as there are completion slots (R26). The
number of entries is the number of the cells passed. -/
def State.admAgain (s : State) : Nat → State
  | 0 => s
  | k + 1 =>
    match s.adm.cells.findIdx? (· == AdmCell.again) with
    | none => s
    | some i =>
      if s.admCrFree 0 = 0 || s.poolFree = 0 || 8 ≤ s.admBuffered then s
      else
        let s := s.admFetch (s.admCi 0 + BitVec.ofNat 32 i) 1
        ({ s with adm := { s.adm with cells := modAt s.adm.cells i (fun _ => .reading) } }).admAgain k

/-- A visit of F0's admin SQ, whose DEPTH is 8 (R73): first the entries to be read again, then the published ones. -/
def State.visitAdm (s : State) : State :=
  if !s.admOpen then s
  else
    let s := s.admAgain 8
    let pi : Half := BitVec.ofNat 32 (s.rf .ADM_SQ_PI 0 0 0 32)
    let avail := (pi - s.adm.fetched).toNat
    let want := 8 - s.admBuffered
    let pool := s.poolFree
    let free := s.admCrFree 0
    let n := min avail (min (min want pool) free)
    let s :=
      if n = 0 then s
      else
        let s := s.admFetch s.adm.fetched n
        { s with adm := { s.adm with fetched := s.adm.fetched + BitVec.ofNat 32 n,
                                     cells := s.adm.cells ++ List.replicate n .reading } }
    s.markShort none (n < min avail (min want free) && s.poolFree == 0)

/-- A visit. The visits of R72 are counted (Table 13-1, 264 and 265). -/
def State.visit (s : State) (q : Option Nat) (isUrgent : Bool) : State :=
  let who := (match q with | some q => s.forSq q | none => s.forFn 0).who
  let s := s.count 264 1 who
  let s := s.when isUrgent (fun s => s.count 265 1 who)
  match q with
  | some q => s.visitSq q
  | none => s.visitAdm

/-- The SQ whose scheduled visit is most overdue at this moment, the lower ID first among equals (R72): a polled one, or one that a
regrowth has made due (Table 08-6 step 4). After the SQs comes F0's admin SQ, where a regrowth has made it due. -/
def State.overdue (s : State) : Option (Option Nat) :=
  let l := s.sqs.filter (fun e => s.sqOpen e.2 && (e.2.poll ≤ 224 || s.scan.again.contains (some e.1)) && e.2.due ≤ s.ref)
  match l with
  | [] => if s.scan.again.contains none && s.admOpen then some none else none
  | e :: r => some (some (r.foldl (fun a b => if b.2.due < a.2.due then b else a) e).1)

/-- The visit that a regrowth has made due is made: a queue that is never polled is due no more. -/
def State.visited (s : State) (q : Option Nat) : State :=
  { s with scan := { s.scan with again := s.scan.again.filter (fun x => x ≠ q) } }

/-! ## Acceptance (R60, R75, R78) -/

/-- An SQ entry is malformed (Table 02-2). -/
def sqEntryBad (x : Sq) (e : List Word) : Bool :=
  let q0 := nth e 0 0
  let q1 := nth e 1 0
  let q2 := nth e 2 0
  let ty := fld q0 0 8
  let len := fld q2 0 25
  fld q0 10 6 ≠ 0 || fld q0 26 6 ≠ 0 || fld q2 25 39 ≠ 0 || (e.drop 4).any (fun w => w ≠ 0)
  || (ty ≠ 1 && ty ≠ 2)
  || (ty = 1 && (len = 0 || 16777216 < len || len % 8 ≠ 0 || 2 ^ 64 < q1.toNat + len || q1.toNat % 8 ≠ 0))
  || (ty = 2 && (q1 ≠ 0 || len ≠ 0))
  || fld q0 16 10 ≠ x.ctx

/-- The reserved bits of qwords 1 to 7 of an admin entry, by opcode (Table 02-8): the mask of each qword's fields. -/
def admMask (op : Nat) : Option (List Word) :=
  let m (fs : List (Nat × Nat)) : Word := mkWord (fs.map (fun f => (f.1, f.2, 2 ^ f.2 - 1)))
  let all : Word := BitVec.allOnes 64
  match op with
  | 0 => some [m [(0, 8)], 0, 0, 0]
  | 1 => some [all, m [(0, 5), (8, 12), (21, 31)], all, m [(0, 16)]]
  | 2 => some [m [(0, 12)], 0, 0, 0]
  | 3 => some [all, m [(0, 22)], all, 0]
  | 4 => some [m [(0, 10)], 0, 0, 0]
  | 5 => some [m [(0, 20), (32, 16)], 0, 0, 0]
  | 6 => some [m [(0, 10)], 0, 0, 0]
  | 7 => some [m [(0, 10), (16, 16)], 0, 0, 0]
  | 8 => some [m [(0, 34)], all, 0, 0]
  | 9 => some [m [(0, 8), (16, 12)], all, 0, 0]
  | 10 => some [all, m [(0, 9)], 0, 0]
  | 11 => some [m [(0, 10)], 0, 0, 0]
  | _ => none

/-- An F0 admin entry is malformed (R78). -/
def admEntryBad (e : List Word) : Bool :=
  let q0 := nth e 0 0
  match admMask (fld q0 0 8) with
  | none => true
  | some ms =>
    fld q0 8 8 ≠ 0 || fld q0 24 8 ≠ 0
    || ((e.drop 1).zipIdx).any (fun w => (w.1 &&& ~~~(nth ms w.2 0)) ≠ 0)

/-- The lowest flight-table index that is free. -/
def State.freeFlight (s : State) : Option Nat := Tab.lowestFree s.flights 0 8192

/-- An earlier submission of the same SQ has not retired. -/
def State.earlierOut (s : State) (q seq : Nat) : Bool := s.flights.any (fun e => e.2.sq == q && e.2.seq < seq)

/-- The sequence number of the oldest unretired submission of an SQ before `seq`. -/
def State.oldestBefore (s : State) (q seq : Nat) : Nat :=
  (s.flights.filter (fun e => e.2.sq == q && e.2.seq < seq)).foldl (fun m e => min m e.2.seq) seq

/-- The flight-table entry of a submission at its acceptance (R59, Table 03-6). -/
def mkFlight (q : Nat) (x : Sq) (e : List Word) (now : Nat) : Flight :=
  let q0 := nth e 0 0
  let marker := fld q0 0 8 == 2
  let arg := nth e 3 0
  { sq := q, seq := x.accepted + 1, marker := marker, ordered := bitOf q0 8, irqForce := bitOf q0 9,
    tag := BitVec.ofNat 32 (fld q0 32 32), addr := nth e 1 0, length := fld (nth e 2 0) 0 25, arg := arg, ctx := x.ctx,
    c := [arg, 0, 0, 0, 0, 0, 0, 0], readySince := if marker then none else some now }

/-- One entry of an SQ's oldest visit has been accepted; a visit with none left is over. -/
def leaveVisit (q : Nat) : List (Nat × Nat) → List (Nat × Nat)
  | [] => []
  | (p, n) :: r => if p = q then (if n ≤ 1 then r else (p, n - 1) :: r) else (p, n) :: leaveVisit q r

/-- An entry is accepted into a flight-table entry (R75): CI advances, the buffer returns to the pool, and the context may
become active. -/
def State.acceptInto (s : State) (q : Nat) (x : Sq) (e : List Word) (f : Nat) : State :=
  let fl := mkFlight q x e s.ref
  let wasActive := s.ctxActive x.ctx
  let fl := if fl.marker && s.earlierOut q fl.seq then
      { fl with wait := some { kind := .earlier q (s.oldestBefore q fl.seq), since := s.ref } }
    else fl
  let age := s.flights.foldl (fun m e => max m (e.2.age + 1)) 0
  let s := { s with flights := Tab.set s.flights f { fl with age := age } }
  let s := s.updSq q (fun x => { x with ci := x.ci + 1, accepted := x.accepted + 1, arrived := x.arrived.drop 1 })
  let s := { s with scan := { s.scan with visits := leaveVisit q s.scan.visits } }
  let s := s.count 266 1 (s.forCtx x.ctx).who
  if wasActive then s else s.activate x.ctx

/-- The SQs with entries that have arrived and are not accepted, in the order of their visits (R75). -/
def State.waiters (s : State) : List Nat :=
  (s.scan.visits.map (·.1)).filter (fun q => (Tab.get? s.sqs q).any (fun x => !x.arrived.isEmpty))

/-- A flight-table entry is free for an SQ: none of those visited before it waits for one (R75). -/
def State.flightFor (s : State) (q : Nat) : Option Nat :=
  if s.waiters.head?.all (fun p => p == q) then s.freeFlight else none

/-- A malformed entry at an SQ's CI starts regrowth (R60, R61). -/
def State.badSqEntry (s : State) (q : Nat) (x : Sq) (e : List Word) : State :=
  s.startRegrow { cause := 1, fn := some x.fn, sq := q, entry := e,
                  entryAddr := x.base + BitVec.ofNat 64 (64 * (x.ci.toNat % ringSize x.log2)),
                  tag := fld (nth e 0 0) 32 32 } []

/-- The next arrived entry of an SQ is checked and accepted (R75): a malformed entry starts regrowth and CI stays at it (R60,
R61); a full flight table, or an SQ visited before that waits, leaves the rest waiting. `true` comes back where an entry was
accepted. -/
def State.acceptNext (s : State) (q : Nat) : Bool × State :=
  match Tab.get? s.sqs q with
  | none => (false, s)
  | some x =>
    match x.arrived with
    | [] => (false, s)
    | e :: _ =>
      if sqEntryBad x e then (false, s.badSqEntry q x e)
      else
        match s.flightFor q with
        | none => (false, s)
        | some f => (true, s.acceptInto q x e f)

/-- The arrived entries of an SQ are accepted in index order (R75), at most `n` of them. -/
def State.acceptLoop (s : State) (q : Nat) : Nat → State
  | 0 => s
  | n + 1 => if (s.acceptNext q).1 then (s.acceptNext q).2.acceptLoop q n else (s.acceptNext q).2

/-- The arrived entries of F0's admin SQ are checked and accepted in index order into the progress records; they take no
flight-table entry. -/
def State.acceptAdm (s : State) : Nat → State
  | 0 => s
  | n + 1 =>
    match s.adm.cells with
    | .data e :: rest =>
      let ci := s.admCi 0
      if admEntryBad e then
        s.startRegrow { cause := 1, fn := some 0, admin := true, entry := e,
                        entryAddr := s.reg .ADM_SQ_BASE 0 +
                          BitVec.ofNat 64 (64 * (ci.toNat % 2 ^ admLog2 (s.rf .ADM_CFG 0 0 0 4))),
                        tag := fld (nth e 0 0) 32 32 } []
      else
        let s := { s with adm := { s.adm with cells := rest, next := s.adm.next + 1,
                                              prog := s.adm.prog ++ [AdmEntry.mk s.adm.next e false] } }
        let s := s.count 266 1 (s.forFn 0).who
        (s.setF .ADM_SQ_CI 0 0 0 32 (ci.toNat + 1)).acceptAdm n
    | _ => s

/-- Read data cut into entries of eight qwords; a rest of fewer is dropped. -/
def cutEntries : Nat → List Word → List (List Word)
  | 0, _ => []
  | n + 1, l => if l.length < 8 then [] else l.take 8 :: cutEntries n (l.drop 8)

/-- The place among the fetched entries of F0's admin SQ of the slot at an address. -/
def State.admPlace (s : State) (a : Word) : Nat :=
  let size := 2 ^ admLog2 (s.rf .ADM_CFG 0 0 0 4)
  ((a - s.reg .ADM_SQ_BASE 0).toNat / 64 + size - (s.admCi 0).toNat % size) % size

/-- Data of the admin SQ's reads arrives, entry by entry in the order of the reads. -/
def State.admData (s : State) (port : Option Port) : List (List Word) → State
  | [] => s
  | e :: es =>
    match s.readOf .adminFetch port with
    | none => s
    | some r =>
      let s := s.endBytes .adminFetch 64
      ({ s with adm := { s.adm with cells := modAt s.adm.cells (s.admPlace r.addr) (fun _ => .data e) } }).admData port es

/-- The entries that have arrived are accepted, of the SQs in the order of their visits (R75); a halted scanner accepts nothing. -/
def State.acceptAll (s : State) : State :=
  if s.frontRuns then (s.scan.visits.foldl (fun s v => s.acceptLoop v.1 8) s).acceptAdm 8 else s

/-- Read data of fetched entries arrives (R75): the reads of one ring are answered in the order in which they were issued, and
data beyond what is outstanding is no happening (log 117). A scanner that a soft stop halts accepts what has arrived when it resumes
(R423). -/
def State.entryData (s : State) (sq : Option Nat) (port : Option Port) (data : List Word) : State :=
  match sq with
  | some q =>
    let es := (cutEntries 8 data).take (s.readBytes (.entryFetch q) port / 64)
    let s := s.endBytes (.entryFetch q) (64 * es.length)
    (s.updSq q (fun x => { x with arrived := x.arrived ++ es })).when s.frontRuns (fun s => s.acceptLoop q 8)
  | none => (s.admData port (cutEntries 8 data)).when s.frontRuns (fun s => s.acceptAdm 8)

/-- A faulting or refused read of F0's admin SQ (R26): the entries it covered are discarded and their reservations released, and
FETCH_ERR is set; they are read again at the next admin doorbell. -/
def State.admFetchError (s : State) (r : RdOut) : State :=
  let p := s.admPlace r.addr
  let n := r.bytes / 64
  let cells := (s.adm.cells.zipIdx).map (fun c => if p ≤ c.2 && c.2 < p + n then AdmCell.failed else c.1)
  let s := { s with adm := { s.adm with cells := cells, reserved := s.adm.reserved - n } }
  s.setB .ADM_STAT 0 0 5 true

/-- A write of ADM_SQ_PI on F0 makes the entries of failed reads due again (R26). -/
def State.admReread (s : State) : State :=
  { s with adm := { s.adm with cells := s.adm.cells.map (fun c => if c == .failed then .again else c) } }

/-- What the scanner holds of F0's admin SQ is given up: its entries, their reads and their reservations. -/
def State.admDiscard (s : State) : State :=
  let n := s.admBuffered
  let s := s.dropReads (fun r => r.tag == .adminFetch)
  { s with adm := { s.adm with fetched := s.admCi 0, cells := [], reserved := s.adm.reserved - n } }

/-- The fetched and not accepted entries of an SQ are discarded and their reservations released (R74). -/
def State.discardFetched (s : State) (q : Nat) : State :=
  match Tab.get? s.sqs q with
  | none => s
  | some x =>
    let n := x.buffered
    let s := s.updSq q (fun x => { x with fetched := x.ci, arrived := [] })
    let s := (s.updCr x.cr (fun c => { c with reserved := c.reserved - n })).dropReads (fun r => r.tag == .entryFetch q)
    { s with scan := { s.scan with visits := s.scan.visits.filter (fun y => y.1 ≠ q) } }

/-! ## Completions (R62 to R67, R90, R91) -/

/-- A completion entry (Table 02-3). -/
def cplEntry (tag : Half) (sq status time layer op : Nat) (result : Word) : List Word :=
  [mkWord [(0, 32, tag.toNat), (32, 12, sq), (48, 8, status)], BitVec.ofNat 64 time,
   mkWord [(0, 16, layer), (16, 16, op)], result]

/-- A CR becomes held (R90), `sub` naming the write that faulted, and `addr` its address. -/
def State.holdCr (s : State) (c sub : Nat) (addr : Word) : State :=
  match Tab.get? s.crs c with
  | none => s
  | some r =>
    let s := s.updCr c (fun r => { r with state := .held })
    let s := { s with sqs := Tab.mapV s.sqs (fun q =>
      if q.cr == c && q.state == QState.active then { q with state := .held } else q) }
    let s := (s.noteRefused (s.fnPart r.fn) addr (if sub = 1 then 32 else 8)).logErr
      { cls := 0x04, sub := sub, fn := some r.fn, obj := some c, addr := addr }
    s.fnEvent r.fn 1

/-- The highest N such that all of 1 to N have retired (R66), from a list of numbers retired above it. -/
def advanceSeq : Nat → Nat → List Nat → Nat × List Nat
  | 0, n, l => (n, l)
  | k + 1, n, l => if l.contains (n + 1) then advanceSeq k (n + 1) (l.filter (fun x => x ≠ n + 1)) else (n, l)

/-- A retirement reaches the retired sequence number; `true` comes back when it advances (R66). -/
def State.retireSeq (s : State) (q seq : Nat) : Bool × State :=
  match Tab.get? s.sqs q with
  | none => (false, s)
  | some x =>
    let l := (x.retired ++ [seq]).filter (fun n => x.retiredSeq < n)
    let (n, l') := advanceSeq l.length x.retiredSeq l
    (x.retiredSeq < n, s.updSq q (fun x => { x with retiredSeq := n, retired := l' }))

/-- The sequence word of an SQ is written (R66). -/
def State.seqWord (s : State) (q : Nat) : State :=
  match Tab.get? s.sqs q with
  | none => s
  | some x => s.writeMem (s.forSq q) x.seqAddr [BitVec.ofNat 64 x.retiredSeq]

/-- The cipher refuses a write of an SQ's sequence word (R90, R324). -/
def State.seqRefused (s : State) (q : Nat) : Bool :=
  (Tab.get? s.sqs q).any (fun x => s.refused (s.fnPart x.fn) x.seqAddr 8)

/-- Where the next entry of a CR goes. -/
def Cr.slot (r : Cr) : Word := r.base + BitVec.ofNat 64 (32 * (r.pi.toNat % ringSize r.log2))

/-- The completion entry and the producer index (R65 step 1), from the stage the completion has reached. A fault or refusal of
either write holds the CR (R90); the stage that comes back is where the writing stopped, 2 when both are done. -/
def State.writeEntry (s : State) (c : Nat) (p : Cpl) (w : WriteFault) : Nat × State :=
  match Tab.get? s.crs c with
  | none => (2, s)
  | some r =>
    if p.stage = 0 && (w == .entry || s.refused (s.fnPart r.fn) r.slot 32) then (0, s.holdCr c 1 r.slot)
    else
      let s :=
        if p.stage = 0 then
          let s := s.writeMem (s.forSq p.sq) r.slot p.entry
          (s.updCr c (fun r => { r with pi := r.pi + 1, reserved := r.reserved - 1 })).count 267 1 (s.forSq p.sq).who
        else s
      if p.stage ≤ 1 && r.piShadow ≠ 0 then
        if w == .piShadow || s.refused (s.fnPart r.fn) r.piShadow 8 then (1, s.holdCr c 2 r.piShadow)
        else
          let pi := match Tab.get? s.crs c with | some r => r.pi | none => 0
          (2, s.writeMem (s.forSq p.sq) r.piShadow [pi.setWidth 64])
      else (2, s)

/-- A completion is held for its SQ (R91). -/
def State.keepHeld (s : State) (q : Nat) (p : Cpl) : State := s.updSq q (fun x => { x with held := x.held ++ [p] })

/-- A decided completion is written in the order of R65: entry, PI_SHADOW, sequence word, interrupt. Where a write faults
the CR becomes held and the completion is kept with the stage it reached. -/
def State.writeCpl (s : State) (p : Cpl) (w : WriteFault) : State :=
  match Tab.get? s.sqs p.sq with
  | none => s
  | some x =>
    let (stage, s) := s.writeEntry x.cr p w
    if stage < 2 then s.keepHeld p.sq { p with stage := stage }
    else
      let (adv, s) := s.retireSeq p.sq p.seq
      if adv && (w == .seqWord || s.seqRefused p.sq) then (s.holdCr x.cr 3 x.seqAddr).keepHeld p.sq { p with stage := 2 }
      else
        let s := s.when adv (fun s => s.seqWord p.sq)
        match Tab.get? s.crs x.cr with
        | some r => s.when p.irqDue (fun s => s.raiseEntry r.fn r.irqSrc)
        | none => s

/-- The CR of an SQ is held. -/
def State.crHeld (s : State) (q : Nat) : Bool :=
  match Tab.get? s.sqs q with
  | some x => (Tab.get? s.crs x.cr).any (fun r => r.state == .held)
  | none => false

/-- The submissions of an SQ that waited for the earlier ones are released when none is left (R59). -/
def State.releaseEarlier (s : State) (q : Nat) : State :=
  let early (f : Flight) : Bool := s.flights.any (fun e => e.2.sq == q && e.2.seq < f.seq)
  { s with flights := Tab.mapV s.flights (fun f =>
      match f.wait with
      | some w =>
        (match w.kind with
         | .earlier _ _ =>
           if f.sq == q && !early f then
             { f with wait := none, readySince := if f.marker then none else some s.ref }
           else f
         | _ => f)
      | none => f) }

/-- A flight-table entry becomes free: its reads are given up, and what it has at remote homes is no submission's any more. -/
def State.freeEntry (s : State) (f : Nat) : State :=
  ({ s with flights := Tab.erase s.flights f,
            remoteOps := s.remoteOps.map (fun (o : RemoteOp) => if o.f == some f then { o with f := none } else o),
            remoteAcqs := s.remoteAcqs.map (fun (a : RemoteAcq) => if a.f == some f then { a with f := none } else a) }).dropReads
    (fun r => readFor r.tag f)

/-- A submission leaves the flight table: hints of it are released (R246), its context makes progress (R263), and
submissions that waited for it go on. -/
def State.dropFlight (s : State) (f : Nat) : State :=
  match Tab.get? s.flights f with
  | none => s
  | some x =>
    let s := ((s.freeEntry f).dropHints (fun h => h.f == f)).progress x.ctx
    s.releaseEarlier x.sq

/-- A submission completes with a status: its completion is written, or held under R91, and it leaves the flight table.
With 16 completions held already it waits on CR space instead. `time` is the moment at which the status was decided. -/
def State.complete (s : State) (f status off layer op : Nat) (time : Nat) (result : Word) (w : WriteFault) : State :=
  match Tab.get? s.flights f with
  | none => s
  | some x =>
    match Tab.get? s.sqs x.sq with
    | none => s.dropFlight f
    | some q =>
      let p : Cpl := { sq := x.sq, seq := x.seq, entry := cplEntry x.tag x.sq status time layer op result,
                       irqDue := q.irq || x.irqForce }
      if s.crHeld x.sq then
        if q.held.length < 16 then (s.keepHeld x.sq p).dropFlight f
        else s.updFlight f (fun y => { y with
          ending := some { status := status, off := off, layer := layer, op := op, at0 := time },
          wait := some { kind := .crSpace q.cr, since := s.ref }, readySince := none, seqr := none })
      else (s.writeCpl p w).dropFlight f

/-! ## Admin completions (R80, R81, R83) -/

/-- An admin completion entry (Table 02-3): the function in [37:32], ADMIN, REFLECTED. -/
def admCpl (tag fn status time : Nat) (reflected : Bool) (result : Word) : List Word :=
  [mkWord [(0, 32, tag), (32, 6, fn), (44, 1, 1), (45, 1, b2n reflected), (48, 8, status)], BitVec.ofNat 64 time, 0, result]

/-- The result word of an admin completion (Table 02-9). -/
def admResult (res : Nat) (reflectFailed : Bool) (value final : Nat) : Word :=
  mkWord [(0, 8, res), (8, 1, b2n reflectFailed), (16, 16, value), (32, 32, final)]

/-- Where the next entry of a function's admin CR goes. -/
def State.admSlot (s : State) (f : Nat) : Word :=
  s.reg .ADM_CR_BASE f + BitVec.ofNat 64 (32 * (s.rf .ADM_CR_PI f 0 0 32 % 2 ^ admLog2 (s.rf .ADM_CFG f 0 4 4)))

/-- An admin CR becomes held (R90, ADM_STAT.HELD). -/
def State.holdAdm (s : State) (f : Nat) : State :=
  let s := s.setB .ADM_STAT f 0 1 true
  let s := (s.noteRefused (s.fnPart f) (s.admSlot f) 32).logErr { cls := 0x04, sub := 1, fn := some f, addr := s.admSlot f }
  s.fnEvent f 1

/-- The cipher refuses a write of the next entry of a function's admin CR (R90, R324). -/
def State.admRefused (s : State) (f : Nat) : Bool := s.refused (s.fnPart f) (s.admSlot f) 32

/-- An entry is written into a function's admin CR, its producer index advances and its view source is raised. -/
def State.putAdm (s : State) (f : Nat) (e : List Word) : State :=
  let pi := s.rf .ADM_CR_PI f 0 0 32
  let s := (s.writeMem (s.forFn f) (s.admSlot f) e).count 267 1 (s.forFn f).who
  (s.setF .ADM_CR_PI f 0 0 32 (pi + 1)).raiseEntry f (s.rf .ADM_CFG f 0 8 6)

/-- A completion is kept for a function's held admin CR. -/
def State.keepAdm (s : State) (f : Nat) (e : List Word) : State :=
  { s with admHeld := Tab.set s.admHeld f (Tab.getD s.admHeld f [] ++ [e]) }

/-- A completion for F0's admin CR is written, or kept while the CR is held or its write faults; a completion kept has its
reservation still. -/
def State.putAdm0 (s : State) (e : List Word) (w : WriteFault) : State :=
  if s.rb .ADM_STAT 0 0 1 then s.keepAdm 0 e
  else if w == .entry || s.admRefused 0 then (s.holdAdm 0).keepAdm 0 e
  else
    let s := { s with adm := { s.adm with reserved := s.adm.reserved - 1 } }
    s.putAdm 0 e

/-- The admin entry of a progress record. -/
def State.admEntry (s : State) (i : Nat) : Option AdmEntry := s.adm.prog.find? (fun e => e.idx == i)

/-- OBO_EN and the function an admin entry acts for (R82). -/
def AdmEntry.oboEn (e : AdmEntry) : Bool := bitOf (nth e.q 0 0) 22

/-- The acting function of an F0 admin entry. -/
def AdmEntry.acting (e : AdmEntry) : Nat := if e.oboEn then fld (nth e.q 0 0) 16 6 else 0

/-- The admin entry asks for a reflected copy. -/
def AdmEntry.reflect (e : AdmEntry) : Bool := bitOf (nth e.q 0 0) 23 && e.oboEn

/-- The admin completion of an entry (R80, R83 step 6): F0's completion, then the reflected copy with `refl` as its RESULT
where one is given; the entry's progress record ends. `w` says which write faults: F0's entry, or (`piShadow`) the copy. A copy
for a held admin CR is kept with it (Table 02-9). DESIGN CHOICE (log 118): the copy is written at once though F0's own completion
is kept for a held admin CR of F0. DESIGN CHOICE (log 163): the refusal of an entry with OBO_EN, an OBO of zero and REFLECT is reflected into
F0's own admin CR. -/
def State.admDone (s : State) (e : AdmEntry) (status res value final : Nat) (refl : Option Nat) (w : WriteFault) : State :=
  let tag := fld (nth e.q 0 0) 32 32
  let f := e.acting
  let canRefl := s.rb .ADM_STAT f 0 0 && 0 < s.admCrFree f
  let failed := e.reflect && !canRefl
  let s := { s with adm := { s.adm with prog := s.adm.prog.filter (fun x => x.idx ≠ e.idx) } }
  let s := s.putAdm0 (admCpl tag f status s.now false (admResult res failed value final)) w
  let copy := admCpl tag f status s.now true (admResult (refl.getD res) false value final)
  if e.reflect && canRefl then
    if s.rb .ADM_STAT f 0 1 then s.keepAdm f copy
    else if w == .piShadow || s.admRefused f then (s.holdAdm f).keepAdm f copy
    else s.putAdm f copy
  else s

end Sys2Proof.Machine
end

