-- ==== Sys2Proof/Machine/Events.lean ====
section
/-! DEFINITION. Events, fabric semaphores and the parking and release of submissions (chapter 04), with the place of a
submission in its command buffer or in a resident routine (R94, R120). -/

namespace Sys2Proof.Machine

/-! ## Where a submission stands -/

/-- The header of the command at byte offset `off` of the buffer, once its block has been read. -/
def Flight.hdrAt (f : Flight) (off : Nat) : Option Word := Tab.get? f.words (off / 8)

/-- SIZE of a header (Table 03-1). -/
def hdrSize (h : Word) : Nat := fld h 48 8

/-- OPCODE of a header. -/
def hdrOp (h : Word) : Nat := fld h 56 8

/-- LAYER of a header. -/
def hdrLayer (h : Word) : Nat := fld h 16 16

/-- OPERATOR of a header. -/
def hdrOper (h : Word) : Nat := fld h 0 16

/-- TRACE, ASYNC and TASK_GRAIN of a header (Table 03-2). -/
def hdrTrace (h : Word) : Bool := bitOf h 41

/-- The words of the command at a byte offset, if all of them have been read. -/
def Flight.cmdAt (f : Flight) (off : Nat) : Option (List Word) :=
  match f.hdrAt off with
  | none => none
  | some h => ((List.range (max 1 (hdrSize h))).mapM (fun i => Tab.get? f.words (off / 8 + i)))

/-- The header of a command that a routine issues: opcode, size, class and engine, with the CALL's FLAGS, LAYER and
OPERATOR (R120) and the flags the routine adds. -/
def routineHdr (c : Call) (op size cls eng flags : Nat) : Word :=
  mkWord [(56, 8, op), (48, 8, size), (40, 8, fld c.hdr 40 8 ||| flags), (36, 4, cls), (32, 4, min 15 eng), (0, 32, fld c.hdr 0 32)]

/-- Argument `i` of a CALL. -/
def Call.p (c : Call) (i : Nat) : Word := nth c.args i 0

/-- An address that a routine has computed, as the address field of a command: one of 2^63 or more is no address (R98), and its
field is one that no command may carry. -/
def romAddr (a : Word) : Word := if bitOf a 63 then BitVec.allOnes 64 else a

/-- The `i`-th command a ROM routine issues (Table 03-20). DESIGN CHOICE (log 126): addresses are computed modulo 2^64; WAIT_ALL takes
a handle from the low half of its list qword, RECORD_LIST the whole qword as word 1; HALO_PUT's transfers are routed (ENGINE 0xF), and it takes
its event from the low half of P6; bits of P4 above 9, and of COPY_2D's and COPY_3D's P6 above 3, are ignored. -/
def Call.cmd (c : Call) (i : Nat) : List Word :=
  let d (k : Nat) : Word := nth c.data k 0
  let copy (src dst len : Word) (eng : Nat) : List Word := [routineHdr c 0x04 4 3 eng 1, src, dst, len]
  let row (k : Nat) (stride : Word) : Word := BitVec.ofNat 64 k * stride
  match c.routine with
  | 0 =>
    let b := 24 * i
    let h := d (b + 22)
    mkWord [(56, 8, 0x01), (48, 8, 23), (40, 8, fld h 0 8), (36, 4, 1), (16, 16, fld h 16 16), (0, 16, fld h 32 16)]
      :: (c.data.drop b).take 22
  | 1 =>
    let t := c.data.take 22
    let at0 := 22 + 2 * i
    routineHdr c 0x01 23 1 0 1 :: (t.take 9 ++ [d at0, d (at0 + 1)] ++ t.drop 11)
  | 2 => copy (romAddr (c.p 0 + row i (c.p 4))) (romAddr (c.p 1 + row i (c.p 5))) (c.p 2) (fld (c.p 6) 0 4)
  | 3 =>
    let rows := max 1 (c.p 3).toNat
    let k := i / rows
    let r := i % rows
    let sp : Word := BitVec.ofNat 64 (k * (fld (c.p 7) 32 16 * 4096))
    let dp : Word := BitVec.ofNat 64 (k * (fld (c.p 7) 48 16 * 4096))
    copy (romAddr (c.p 0 + sp + row r (c.p 4))) (romAddr (c.p 1 + dp + row r (c.p 5))) (c.p 2) (fld (c.p 6) 0 4)
  | 4 => copy (d (3 * i)) (d (3 * i + 1)) (d (3 * i + 2)) (c.p 2).toNat
  | 5 => [routineHdr c 0x05 4 3 (c.p 5).toNat 1, romAddr (c.p 0 + row i (c.p 3)), c.p 1, c.p 4]
  | 6 => [routineHdr c 0x11 3 0 0 0, mkWord [(0, 32, fld (d (2 * i)) 0 32), (32, 25, (c.p 2).toNat)], d (2 * i + 1)]
  | 7 => [routineHdr c 0x10 3 0 0 0, d (2 * i), d (2 * i + 1)]
  | 9 =>
    let up := !bitOf (c.p 4) 8 && i = 0
    let len := (c.p 3).toNat * (c.p 1).toNat
    let loc := if up then c.p 0 else c.p 0 + (c.p 2 - c.p 3) * c.p 1
    let node := if up then fld (c.p 4) 0 4 else fld (c.p 4) 4 4
    let rem := c.p 5 + BitVec.ofNat 64 (64 * Config.haloPlace up (c.p 1).toNat (c.p 2).toNat (c.p 3).toNat)
    [routineHdr c 0x08 6 5 15 0, romAddr loc, romAddr rem,
     if 2 ^ 40 ≤ len then BitVec.allOnes 64 else mkWord [(0, 40, len), (40, 4, node)],
     mkWord [(0, 32, fld (c.p 6) 0 32), (32, 1, 1), (33, 2, 1)], c.p 7]
  | _ => []

/-- The command a submission stands at: the next one a routine issues, else the one at its command offset. -/
def Flight.cur (f : Flight) : Option (List Word) :=
  match f.call with
  | some c => if !c.started then none else if 64 ≤ c.routine then c.ibuf else some (c.cmd c.idx)
  | none => f.cmdAt f.off

/-- The header of the command a submission stands at. -/
def Flight.curHdr (f : Flight) : Word :=
  match f.cur with
  | some (h :: _) => h
  | _ => (f.call.map (fun (c : Call) => c.hdr)).getD ((f.hdrAt f.off).getD 0)

/-- The counters after the writes a routine makes at its end (Table 03-20). -/
def setCounters (c : List Word) (ws : List (Nat × Word)) : List Word :=
  ws.foldl (fun c w => modAt c w.1 (fun _ => w.2)) c

/-- The submission past the command at its offset in the buffer. -/
def Flight.nextCmd (f : Flight) : Flight :=
  { f with off := f.off + 8 * (match f.hdrAt f.off with | some h => hdrSize h | none => 0) }

/-- A routine is left: its counters are written and the submission goes on after the CALL. -/
def Flight.leaveCall (f : Flight) : Flight :=
  match f.call with
  | some c => Flight.nextCmd { f with call := none, c := setCounters f.c c.after }
  | none => f

/-- The submission past the command it stands at: the next command of its routine, or the next command of its buffer; a ROM
routine that has issued its last command is left. -/
def Flight.advance (f : Flight) : Flight :=
  let h := f.curHdr
  let f := { f with lastLayer := hdrLayer h, lastOp := hdrOper h }
  match f.call with
  | some c =>
    if 64 ≤ c.routine then (if c.total = 1 then f.leaveCall else { f with call := some { c with ibuf := none } })
    else if c.total ≤ c.idx + 1 then f.leaveCall
    else { f with call := some { c with idx := c.idx + 1 } }
  | none => f.nextCmd

/-- The tag of a command's trace records. -/
def State.cmdTag (s : State) (f : Flight) (h : Word) : CmdTag :=
  let x := Tab.get? s.ctxs f.ctx
  { part := (x.map (·.part)).getD 0, ctx := f.ctx, fn := (x.map (·.fn)).getD 0, layer := hdrLayer h, op := hdrOper h,
    tag := f.tag, sq := f.sq }

/-- The SYNC record of a command with TRACE as it takes effect (Table 13-5). -/
def State.traceSync (s : State) (f : Flight) (h : Word) (v : Nat) : State :=
  s.when (hdrTrace h) (fun s => s.traceCmd 5 (s.cmdTag f h) (mkWord [(0, 8, hdrOp h), (32, 32, v)]))

/-! ## Parking, release, early ends -/

/-- A submission parks on a resource and leaves its sequencer (R140). -/
def State.park (s : State) (f : Nat) (k : WaitKind) (deadline : Option Nat) : State :=
  s.updFlight f (fun x => { x with wait := some { kind := k, since := s.ref, deadline := deadline }, seqr := none,
                                   readySince := none })

/-- A parked submission is able to run again. -/
def State.unpark (s : State) (f : Nat) : State :=
  s.updFlight f (fun x =>
    if x.inTeardown || x.ending.isSome then { x with wait := none }
    else { x with wait := none, readySince := some s.ref })

/-- A submission waits for its engine commands to complete, if it has any (Table 04-3, kind 6). -/
def Flight.windowWait (f : Flight) (now : Nat) : Option WaitRec :=
  if f.out.isEmpty && f.pend.isEmpty then none else some { kind := .window, since := now }

/-! ## Handles -/

/-- The home node of an event handle (Table 00-3). -/
def evNode (h : Half) : Nat := h.toNat / 2 ^ 28

/-- The index of an event handle. -/
def evIdx (h : Half) : Nat := h.toNat % 65536

/-- Bits [27:16] of a handle are zero (R112). -/
def evWellFormed (h : Half) : Bool := h.toNat / 65536 % 4096 == 0

/-- A wait that has been met: the context makes progress, the submission passes its WAIT and can run (R130, R263). -/
def State.waitMet (s : State) (f : Nat) (v : Nat) : State :=
  match Tab.get? s.flights f with
  | none => s
  | some x =>
    let s := (s.progress x.ctx).traceSync x x.curHdr v
    (s.updFlight f (fun x => if x.ending.isSome || x.inTeardown then x else x.advance)).unpark f

/-- A node is this one, or a live member of this fabric (R135). -/
def State.nodeLive (s : State) (n : Nat) : Bool :=
  n == s.node || (s.rb .TML_STAT 0 0 4 && bitOf (s.reg .TML_STAT) (16 + n))

/-! ## Events at their home (R128 to R134) -/

/-- Table 04-1. -/
def recordValue (mode : Nat) (old v : Word) : Word :=
  match mode with
  | 1 => if 2 ^ 64 ≤ old.toNat + v.toNat then BitVec.allOnes 64 else old + v
  | 2 => if old.toNat ≤ v.toNat then v else old
  | _ => v

/-- A change of an event's entry. -/
def State.updEvent (s : State) (i : Nat) (f : Event → Event) : State := { s with events := Tab.upd s.events i f }

/-- What a happening of a submission carries for the filters of R401: its partition, its context and its command's layer. -/
def State.flightWho (s : State) (f : Nat) : Who3 :=
  match Tab.get? s.flights f with
  | some x => { part := s.ctxPart x.ctx, ctx := some x.ctx, layer := some (hdrLayer x.curHdr) }
  | none => {}

/-- A record takes effect on an event of this node (R128, R130, R131): the value, ABANDONED, the recorder, then every
waiter and proxy whose target is met is released. -/
def State.recordLocal (s : State) (i mode : Nat) (v : Word) (rec : Option (Nat × Nat)) (layer : Option Nat := none) : State :=
  match Tab.get? s.events i with
  | none => s
  | some e =>
    let nv := recordValue mode e.value v
    let met (w : Nat × Word) : Bool := w.2.toNat ≤ nv.toNat
    let go := e.waiters.filter met
    let rel := e.proxies.filter met
    let s := s.updEvent i (fun e => { e with value := nv, abandoned := false, recorder := rec,
                                             waiters := e.waiters.filter (fun w => !met w),
                                             proxies := e.proxies.filter (fun w => !met w) })
    let s := s.count 300 1 { part := some e.part, ctx := (rec.filter (fun r => r.2 == s.node)).map (·.1), layer := layer }
    let s := go.foldl (fun s w => (s.count 301 1 (s.flightWho w.1)).waitMet w.1 (w.2.toNat % 2 ^ 32)) s
    let h : Half := BitVec.ofNat 32 (s.node * 2 ^ 28 + i)
    rel.foldl (fun s w => s.send w.1 (.release h nv)) s

/-- Proxy entries in use (EV_STAT). -/
def State.proxyUsed (s : State) : Nat := s.events.foldl (fun n e => n + e.2.proxies.length) 0

/-! ## Semaphores (R137, R138) -/

/-- A semaphore's entry. -/
def State.semOf (s : State) (i : Nat) : Sem := Tab.getD s.sems i {}

/-- A semaphore's entry replaced. -/
def State.setSem (s : State) (i : Nat) (m : Sem) : State := { s with sems := Tab.set s.sems i m }

/-- Counts acquired are recorded for a holder, at most eight of them (R138). DESIGN CHOICE (log 123): the mark "more than eight"
stays until the semaphore is unbound; the spec does not say when it clears. -/
def Sem.hold (m : Sem) (ctx node k : Nat) : Sem :=
  if m.holders.any (fun h => h.ctx == ctx && h.node == node) then
    { m with holders := m.holders.map (fun h =>
        if h.ctx == ctx && h.node == node then { h with count := h.count + k } else h) }
  else if m.holders.length < 8 then { m with holders := m.holders ++ [{ ctx := ctx, node := node, count := k }] }
  else { m with more8 := true }

/-- Counts released are taken from a holder's record. -/
def Sem.unhold (m : Sem) (ctx node k : Nat) : Sem :=
  { m with holders := (m.holders.map (fun h =>
      if h.ctx == ctx && h.node == node then { h with count := h.count - k } else h)).filter (fun h => h.count ≠ 0) }

/-- Acquirers are granted strictly in arrival order while the value suffices (R137), at most `n` of them. -/
def State.semGrant (s : State) (i : Nat) : Nat → State
  | 0 => s
  | n + 1 =>
    let m := s.semOf i
    match m.queue with
    | [] => s
    | a :: r =>
      if m.value < a.count then s
      else
        let s := s.setSem i ({ m with value := m.value - a.count, queue := r }.hold a.ctx a.node a.count)
        let s := s.count 302 1 (if a.node == s.node then s.flightWho a.f else { part := some m.part })
        let s := if a.node == s.node then s.waitMet a.f a.count else s.send a.node (.semGrant i a.count)
        s.semGrant i n

/-- An acquirer reaches the home (R137). -/
def State.semAcquire (s : State) (i : Nat) (a : Acq) : State :=
  let m := s.semOf i
  let s := s.setSem i { m with queue := m.queue ++ [a] }
  s.semGrant i (m.queue.length + 1)

/-- The wait-for edges that satisfy `p` are gone (R196). -/
def State.dropEdges (s : State) (p : Edge → Bool) : State :=
  { s with cyc := { s.cyc with insts := Tab.mapV s.cyc.insts (fun x => { x with edges := x.edges.filter (fun e => !p e) }) } }

/-- A release reaches the home (R137); inheritance that rested on the releasing context ends (R196). -/
def State.semRelease (s : State) (i ctx node k : Nat) : State :=
  let m := s.semOf i
  let v := m.value + k
  let m := { m with value := min v 0xFFFFFFFF, ovf := m.ovf || decide (0xFFFFFFFF < v) }.unhold ctx node k
  let s := (s.setSem i m).when (node == s.node) (fun s => s.dropEdges (fun e => e.holder == ctx && e.home == s.node && e.index == i))
  s.semGrant i (m.queue.length)

/-- Acquirers at the head of every queue are granted where the value suffices, once an acquirer ahead of them has gone (R137). -/
def State.regrant (s : State) : State :=
  ((s.sems.filter (fun e => !e.2.queue.isEmpty)).map (·.1)).foldl (fun s i => s.semGrant i (s.semOf i).queue.length) s

/-- The acquirers that satisfy `p` leave the queues of this node's semaphores. -/
def State.dropAcqs (s : State) (p : Acq → Bool) : State :=
  if s.sems.any (fun e => e.2.queue.any p) then
    ({ s with sems := Tab.mapV s.sems (fun m => { m with queue := m.queue.filter (fun a => !p a) }) }).regrant
  else s

/-- How a REFUSE names semaphore `i`: bit 16 tells it from an event (log entry 49). -/
def semHandle (i : Nat) : Half := BitVec.ofNat 32 (65536 + i)

/-- A submission leaves the waiter lists, acquirer queues and remote waits it stands in; a remote event that nothing of this
node awaits any more loses its proxy (WAIT_DROP of Table 11-7). DESIGN CHOICE (log 174): where others of this node still await it, no message
goes, and the proxy keeps the target it has. -/
def State.unlist (s : State) (f : Nat) : State :=
  let hs := (s.remoteWaits.filter (fun w => w.f == f)).map (fun w => w.handle)
  let s := { s with
    events := Tab.mapV s.events (fun e => { e with waiters := e.waiters.filter (fun w => w.1 ≠ f) }),
    remoteWaits := s.remoteWaits.filter (fun w => w.f ≠ f),
    remoteAcqs := s.remoteAcqs.map (fun (a : RemoteAcq) => if a.f == some f then { a with f := none } else a) }
  let s := s.dropAcqs (fun a => a.node == s.node && a.f == f)
  hs.foldl (fun s h => if s.remoteWaits.any (fun w => w.handle == h) then s else s.send (evNode h) (.waitDrop h)) s

/-! ## Early ends (R125, R149) -/

/-- The early end that counts: the first that is decided, but ABORTED_BY_PARTITION before any other (R149). -/
def laterEnd (old : Option EndRec) (e : EndRec) : EndRec :=
  match old with
  | some o => if e.status = 0xE && o.status ≠ 0xE then e else o
  | none => e

/-- A submission whose early end is decided passes over what is left and waits for the engine commands it has launched (R125). -/
def Flight.endWith (x : Flight) (e : EndRec) (now : Nat) : Flight :=
  match x.ending with
  | some _ => { x with ending := some (laterEnd x.ending e) }
  | none => { x with ending := some e, wait := x.windowWait now, seqr := none, readySince := none, call := none }

/-- An early end without fault (R125), of the command at which the submission stands. -/
def State.endEarly (s : State) (f status : Nat) : State :=
  (s.unlist f).updFlight f (fun x =>
    x.endWith { status := status, off := x.off, layer := hdrLayer x.curHdr, op := hdrOper x.curHdr, at0 := s.now } s.ref)

/-- An early end without fault caused by an engine command (R125): the offset is that of the command, or of its CALL. -/
def State.endEarlyAt (s : State) (f status off layer op : Nat) : State :=
  (s.unlist f).updFlight f (fun x => x.endWith { status := status, off := off, layer := layer, op := op, at0 := s.now } s.ref)

/-! ## Abandonment (R131, R132) -/

/-- An event becomes ABANDONED (R132): its unmet waiters fail with DEPENDENCY_FAILED, here and at the nodes that hold a
proxy. -/
def State.abandon (s : State) (i : Nat) : State :=
  match Tab.get? s.events i with
  | none => s
  | some e =>
    let s := s.updEvent i (fun e => { e with abandoned := true, waiters := [], proxies := [] })
    let s := e.waiters.foldl (fun s w => s.endEarly w.1 2) s
    let h : Half := BitVec.ofNat 32 (s.node * 2 ^ 28 + i)
    e.proxies.foldl (fun s w => s.send w.1 (.refuse 0 3 h)) s

/-- Every event of this node whose recorder satisfies `p` is abandoned (Table 04-2). -/
def State.abandonBy (s : State) (p : Nat × Nat → Bool) : State :=
  ((s.events.filter (fun e => e.2.recorder.any p)).map (fun e => e.1)).foldl State.abandon s

/-- The holdings of a context are added to LEAKED, not returned (R138). -/
def State.leakSems (s : State) (p : Nat × Nat → Bool) : State :=
  { s with sems := Tab.mapV s.sems (fun m =>
      let gone := m.holders.filter (fun h => p (h.ctx, h.node))
      { m with leaked := satAdd 255 m.leaked (gone.foldl (fun n h => n + h.count) 0),
               holders := m.holders.filter (fun h => !p (h.ctx, h.node)) }) }

/-- A context of a node is torn down, as a home sees it (Table 04-2, R138): the events that it recorded last are abandoned, its
holdings leak, and its acquirers leave their queues. -/
def State.homeCtxGone (s : State) (c n : Nat) : State :=
  let s := (s.abandonBy (fun r => r == (c, n))).leakSems (fun r => r == (c, n))
  s.dropAcqs (fun a => a.node == n && a.ctx == c && n ≠ s.node)

/-- Contexts of this node are torn down (R131, R138, R196, R266): what they recorded and held is dealt with here, and at every other home,
which a broadcast LOST that names node and context tells (log entry 124); no operation at a remote home is theirs any more. -/
def State.ctxsGone (s : State) (cs : List Nat) : State :=
  let s := cs.foldl (fun s c => s.homeCtxGone c s.node) s
  let s := { s with
    remoteOps := s.remoteOps.map (fun (o : RemoteOp) => if o.cmd.any (fun (r : CmdRef) => cs.contains r.ctx) then { o with cmd := none } else o),
    remoteAcqs := s.remoteAcqs.filter (fun a => !cs.contains a.ctx),
    remoteHolds := s.remoteHolds.filter (fun h => !cs.contains h.ctx) }
  let s := s.dropEdges (fun e => cs.contains e.holder)
  if s.member then cs.foldl (fun s c => s.broadcast (.lost s.node none (some c))) s else s

/-! ## Binding (R133) -/

/-- Event `i` bound to a partition with a value: waiters present fail first; value INIT, not abandoned, no recorder. -/
def State.bindEvent (s : State) (part : Nat) (init : Word) (i : Nat) : State :=
  let s := s.abandon i
  { s with events := Tab.set s.events i { part := part, value := init } }

/-- Event `i` unbound: abandoned first. -/
def State.unbindEvent (s : State) (i : Nat) : State :=
  let s := s.abandon i
  { s with events := Tab.erase s.events i }

/-! ## Remote operations (R134, R369) -/

/-- The lowest target this node awaits on a remote event. -/
def State.lowestRemote (s : State) (h : Half) : Option Word :=
  let l := (s.remoteWaits.filter (fun w => w.handle == h)).map (fun w => w.target)
  match l with
  | [] => none
  | a :: r => some (r.foldl (fun a b => if b.toNat < a.toNat then b else a) a)

/-- A submission waits on a remote event: it registers at the home, which checks the handle and tests the value (R134, R135). -/
def State.remoteWait (s : State) (h : Half) (target : Word) (f : Nat) : State :=
  let s := { s with remoteWaits := s.remoteWaits ++ [RemoteWait.mk h f target none] }
  s.send (evNode h) (.waitReg h target) (some f)

end Sys2Proof.Machine
end

