-- ==== Sys2Proof/Machine/Energy.lean ====
section
/-! DEFINITION. The ledger's attribution and the energy model (R198 to R204). Energies are whole nJ; where the spec divides
without saying how the quotient is rounded the rounding is `Config.energyRound`. -/

namespace Sys2Proof.Machine

/-- A quotient of the model: exact where it is whole, else as the governor rounds it (log entry 40). -/
def quotient (n d : Nat) : Nat := if n % d = 0 then n / d else Config.energyRound n d

/-- Word `i` of a command. -/
def Task.w (t : Task) (i : Nat) : Nat := (nth t.words i 0).toNat

/-- Coefficient `i` of the plinth, in pJ per unit as unsigned 16.16 (Table 15-3): int8, int4, sf16, sf8, fp32, tile, sc, mem, link,
gate, comp. The estimates below are in 1/65,536 pJ. -/
def State.coeff (s : State) (i : Nat) : Nat := nth s.gov.coeffs i 0

/-- The uncore part of a command's estimate, before correction (Table 06-1). -/
def State.estUncorePj (s : State) (t : Task) : Nat :=
  let mem := s.coeff 7
  match t.opcode with
  | 0x01 => t.w 20 * s.coeff 6 + t.w 21 * mem
  | 0x03 => t.w 5 % 2 ^ 40 * mem
  | 0x02 => t.w 4 % 2 ^ 40 * mem
  | 0x04 => 2 * (t.w 3 % 2 ^ 40) * mem
  | 0x05 => t.w 2 % 2 ^ 40 * mem
  | 0x08 => t.w 3 % 2 ^ 40 * (mem + s.coeff 8)
  | 0x09 => t.w 3 % 2 ^ 40 * (mem + s.coeff 8)
  | 0x07 => t.w 2 % 2 ^ 40 * (2 * mem + s.coeff 9)
  | 0x06 => s.coeff 10 * (match t.latchAt with | some a => (s.ref - a) / 1000 | none => 0)
  | _ => 0

/-- The core part of a DISPATCH's or RENDER's estimate at 0.75 V (Table 06-1). -/
def State.estCorePj (s : State) (t : Task) : Nat :=
  match t.opcode with
  | 0x01 => t.w 14 * s.coeff 0 + t.w 15 * s.coeff 1 + t.w 16 * s.coeff 2 + t.w 17 * s.coeff 3 + t.w 18 * s.coeff 4
      + t.w 19 * s.coeff 5
  | 0x03 => t.w 3 % 2 ^ 16 * s.coeff 5
  | _ => 0

/-- The correction factor of a layer, 4.12 (R203), and how often it was learnt. -/
def State.corrOf (s : State) (layer : Nat) : Nat × Nat := Tab.getD s.gov.corr (layer % 4096) (0x1000, 0)

/-- The uncore estimate after correction, × 4096. -/
def State.uncoreWeight (s : State) (t : Task) : Nat :=
  s.estUncorePj t * (if t.opcode = 1 then (s.corrOf t.layer).1 else 0x1000)

/-- The learning step of R203 on a factor: the ratio `num` to `den` in 1/4,096, clamped, and the step rounded toward zero. -/
def learnStep (f num den shift : Nat) : Nat :=
  let r : Nat × Nat := if num < 0x100 * den then (0x100, 1) else if 0xFFFF * den < num then (0xFFFF, 1) else (num, den)
  ((f : Int) + ((r.1 : Int) - f * r.2).tdiv (r.2 * 2 ^ shift : Nat)).toNat

/-- GOV_LEARN.SHIFT as it acts: values other than 1 to 8 act as 4. -/
def State.learnShift (s : State) : Nat := let n := s.rf .GOV_LEARN 0 0 0 4; if 1 ≤ n && n ≤ 8 then n else 4

/-- A DISPATCH has completed in one segment: the factor of its layer learns (R203), unless learning is frozen. The estimate is scaled
to the voltage at which the segment started (R202). -/
def State.learn (s : State) (t : Task) : State :=
  let est := s.estCorePj t
  if t.opcode ≠ 1 || est = 0 || s.rb .GOV_LEARN 0 0 4 || t.segs ≠ 1 then s
  else
    let c := s.corrOf t.layer
    let f := learnStep c.1 (t.coreNj * 1000 * 65536 * 4096 * 750 ^ 2) (max 1 (est * t.startMv ^ 2)) s.learnShift
    { s with gov := { s.gov with corr := Tab.set s.gov.corr (t.layer % 4096) (f, min (c.2 + 1) 0xFFFFFFFF) } }

/-- A task is running on some engine. -/
def Task.isRunning (t : Task) : Bool := t.phase == .running

/-- The time that a task has run in the open uncore period. -/
def State.uncoreRun (s : State) (t : Task) : Nat := s.ref - max t.runFrom (Tab.getD s.gov.meters 48 {}).last

/-- The sums of weight × time and of time over the segments that ran in the open uncore period: those that run, and those that
ended in it (R199). -/
def State.uncoreSums (s : State) : Nat × Nat :=
  s.tasks.foldl (fun n e => if e.2.isRunning then (n.1 + s.uncoreWeight e.2 * s.uncoreRun e.2, n.2 + s.uncoreRun e.2) else n)
    (s.gov.unWt, s.gov.unT)

/-- The uncore energy of a period above the plinth's baseline, in nJ (mW × ns = pJ). -/
def State.aboveBase (s : State) (nj per : Nat) : Nat := nj - s.gov.baseMw * per / 1000

/-- A running task's part of the uncore energy `num` / `den` of the open period (R199). -/
def State.uncorePart (s : State) (t : Task) (num den : Nat) : Nat :=
  let tot := s.uncoreSums
  if tot.1 = 0 then quotient (num * s.uncoreRun t) (max 1 (den * tot.2))
  else quotient (num * (s.uncoreRun t * s.uncoreWeight t)) (max 1 (den * tot.1))

/-- The part of an interval that ran with inherited precedence (R198). -/
def Heir.overlap (h : Heir) (a b : Nat) : Nat := min b (h.till.getD b) - max a h.since

/-- The part of a quantity that fell in such an interval in proportion to time. -/
def Heir.part (h : Heir) (n a b : Nat) : Nat :=
  if h.overlap a b = b - a then n else min n (quotient (n * h.overlap a b) (max 1 (b - a)))

/-- Engine time of a run from `a` to `b` reaches the stretches of inherited precedence that it overlaps (R198). -/
def Task.inheritNs (t : Task) (ns a b : Nat) : List Heir :=
  t.inherits.map (fun (h : Heir) => { h with ns := h.ns + h.part ns a b })

/-- Energy of a real-time or inherited segment counts in its instance (R177), and up to the instance's allowance it leaves the share
windows (R201). -/
def State.rtGive (s : State) (i nj : Nat) : State :=
  match Tab.get? s.cyc.insts i with
  | none => s
  | some x =>
    let part := min nj (x.def0.allowUj * 1000 - x.rtNj)
    { s with cyc := { s.cyc with insts := Tab.upd s.cyc.insts i (fun x =>
               { x with rtNj := x.rtNj + part, usedNj := x.usedNj + nj }) },
             gov := { s.gov with bktRt := s.gov.bktRt + part } }

/-- Energy of an interval that began at `a` and ends now reaches a task, and the open period of a meter remembers it. -/
def State.giveNj (s : State) (k meter nj : Nat) (core : Bool) (a : Nat) : State :=
  match Tab.get? s.tasks k with
  | none => s
  | some t =>
    let s := match t.rt with
      | some i => s.rtGive i nj
      | none => t.inherits.foldl (fun (s : State) (h : Heir) => s.rtGive h.inst (h.part nj a s.ref)) s
    let s := s.updTask k (fun t => { t with
      segNj := t.segNj + nj, coreNj := if core then t.coreNj + nj else t.coreNj,
      inherits := t.inherits.map (fun (h : Heir) => { h with nj := h.nj + h.part nj a s.ref }) })
    let m := Tab.getD s.gov.meters meter {}
    { s with gov := { s.gov with meters := Tab.set s.gov.meters meter { m with attr := m.attr + nj } } }

/-- The open period's energy of a core for a run that ends now, at the rate of the last closed period (R200). -/
def State.coreEnd (s : State) (k p start : Nat) : State :=
  let m := Tab.getD s.gov.meters p {}
  let a := max start m.last
  if m.per = 0 then s else s.giveNj k p (quotient (m.nj * (s.ref - a)) m.per) true a

/-- The open period's uncore energy of a task whose segment ends now, at the rate of the last closed period (R199, R200). -/
def State.uncoreEnd (s : State) (k : Nat) : State :=
  match Tab.get? s.tasks k with
  | none => s
  | some t =>
    let m := Tab.getD s.gov.meters 48 {}
    let r := s.uncoreRun t
    let s1 := if m.per = 0 then s
      else s.giveNj k 48 (s.uncorePart t (s.aboveBase m.nj m.per * (s.ref - m.last)) m.per) false (max t.runFrom m.last)
    { s1 with gov := { s1.gov with unWt := s1.gov.unWt + s.uncoreWeight t * r, unT := s1.gov.unT + r } }

/-- A core meter's period closes with `nj` (R199, R200): the run on the core receives its part, and the rest of the period
that nothing received goes to the unattributed energy. -/
def State.coreSample (s : State) (p nj : Nat) : State :=
  let m := Tab.getD s.gov.meters p {}
  let per := s.ref - m.last
  let s := match (nth s.cores p {}).run with
    | some r =>
      let a := max r.start m.last
      s.giveNj r.task p (quotient (nj * (s.ref - a)) (max 1 per)) true a
    | none => s
  let m' := Tab.getD s.gov.meters p {}
  { s with gov := { s.gov with
      meters := Tab.set s.gov.meters p { last := s.ref, nj := nj, per := per, attr := 0 },
      unattrNj := s.gov.unattrNj + ((nj : Int) - m'.attr), totalNj := s.gov.totalNj + nj, bktTot := s.gov.bktTot + nj,
      ivl := Tab.set s.gov.ivl p (Tab.getD s.gov.ivl p 0 + nj) } }

/-- The uncore meter's period closes with `nj`: every running task receives its part (R199). -/
def State.uncoreSample (s : State) (nj : Nat) : State :=
  let m := Tab.getD s.gov.meters 48 {}
  let per := s.ref - m.last
  let above := s.aboveBase nj per
  let run := (s.tasks.filter (fun e => e.2.isRunning)).map (fun e => (e.1, s.uncorePart e.2 above 1, max e.2.runFrom m.last))
  let s := run.foldl (fun s e => s.giveNj e.1 48 e.2.1 false e.2.2) s
  let m' := Tab.getD s.gov.meters 48 {}
  { s with gov := { s.gov with
      meters := Tab.set s.gov.meters 48 { last := s.ref, nj := nj, per := per, attr := 0 },
      unattrNj := s.gov.unattrNj + ((nj : Int) - m'.attr), totalNj := s.gov.totalNj + nj, bktTot := s.gov.bktTot + nj,
      ivlUn := s.gov.ivlUn + nj, unWt := 0, unT := 0 } }

end Sys2Proof.Machine
end

