-- ==== Sys2Proof/Machine/Tasks.lean ====
section
/-! DEFINITION. Engine commands as tasks (chapters 05 and 07): run segments and their charge, the ranks of a cores task,
steals and trims, yields, the steps of completion (Table 04-4), and what completion releases. -/

namespace Sys2Proof.Machine

/-- The TAG of a launch (Table 07-2): flight-table index and segment number modulo 8. DESIGN CHOICE (log 168): the segments counted are
those of the command, so that commands of one submission can share a TAG. -/
def Task.tag (t : Task) : Nat := t.f + 8192 * (t.segs % 8)


/-- The tag of a task's trace records. -/
def State.taskTag (s : State) (t : Task) : CmdTag :=
  { part := t.part, ctx := t.ctx, fn := t.fn, layer := t.layer, op := t.op,
    tag := match Tab.get? s.flights t.f with | some f => f.tag | none => 0, sq := t.sq }

/-- How a run segment ends. -/
inductive SegEnd where
  | complete | yield | squash
  deriving DecidableEq, Repr

/-- A change of an instance. -/
def State.updInst (s : State) (i : Nat) (f : Inst → Inst) : State :=
  { s with cyc := { s.cyc with insts := Tab.upd s.cyc.insts i f } }

/-- An instance is active: it has started and its deadline has not passed (R174). -/
def Inst.live (x : Inst) : Bool := x.started && !x.deadlinePassed

/-- A context has precedence inherited from an active instance (R195, R196). -/
def State.inherits (s : State) (c i : Nat) : Bool :=
  match Tab.get? s.cyc.insts i with
  | some x => x.live && x.edges.any (fun e => e.holder == c)
  | none => false

/-- A task has the slot precedence of an instance: admitted by it, or of a context that inherits it (R162, R183). -/
def State.precedes (s : State) (t : Task) (i : Nat) : Bool := t.rt == some i || (!t.rtc && s.inherits t.ctx i)

/-- Engine time and energy of a segment reach the account of a context (R166). -/
def State.account (s : State) (c : Nat) (cls : Cls) (ns nj : Nat) : State :=
  s.updCtx c (fun x => { x with engNs := modAt x.engNs cls.idx (fun n => n + ns), nj := x.nj + nj })

/-- The workgroups in a range. -/
def Range.count (g : Range) : Nat := if g.last < g.first then 0 else (g.last - g.first) / max 1 g.stride + 1

/-- The workgroups in some ranges. -/
def rangesCount (l : List Range) : Nat := l.foldl (fun n g => n + g.count) 0

/-- The ranges of a cores task that have not run: those of its progress record and of the ranks that hold some. -/
def Task.unrun (t : Task) : List Range :=
  t.progress.map (·.2) ++ (t.ranks.filter (fun r => !r.released)).flatMap (fun r => r.ranges)

/-- What a yielding task has done (Tables 05-7 and 13-5): workgroups, primitives, bytes or chunks. -/
def State.yieldUnits (s : State) (t : Task) : Nat :=
  match t.cls with
  | .cores => t.grid - rangesCount t.unrun
  | .dma => t.doneBytes
  | .tiler => t.binned.1
  | .link => (match t.xfer.bind (fun x => Tab.get? s.tml.xfers x) with
    | some y => min y.len (4096 * (if y.get then y.covered else y.sent))
    | none => 0)
  | .gate => t.gate.chunk
  | .comp => 0

/-- The trace record of an engine's answer to a squash or a yield of a TRACE task (Table 13-5, R38). -/
def State.traceAnswer (s : State) (k : Nat) : State :=
  match Tab.get? s.tasks k with
  | none => s
  | some t =>
    if !t.trace then s
    else if t.squashed then s.traceCmd 4 (s.taskTag t) (mkWord [(0, 8, t.opcode)])
    else if t.yielding then s.traceCmd 3 (s.taskTag t) (mkWord [(0, 8, t.opcode), (32, 32, min 0xFFFFFFFF (s.yieldUnits t))])
    else s

/-- A task runs with inherited precedence at this moment. -/
def Task.heirOpen (t : Task) : Bool := t.inherits.any (fun h => h.till.isNone)

/-- A running task goes on with inherited precedence (R195): what it has used so far stays its own context's (R198). -/
def State.beginHeir (s : State) (k i : Nat) : State :=
  match Tab.get? s.cyc.insts i, Tab.get? s.tasks k with
  | some x, some t =>
    if t.phase != .running || t.heirOpen || t.rt.isSome then s
    else s.updTask k (fun t => { t with inherits := t.inherits ++ [{ inst := i, ctx := x.def0.ctx, since := s.ref }] })
  | _, _ => s

/-- A run segment ends (R156, R158, R166, R198, R263): its charge goes to the VC of the owner unless it ran as a real-time
task or with inherited precedence; its engine time and energy go to the accounts, what it used under inheritance to that of the slot
context; completion and yield are progress. -/
def State.segmentEnd (s : State) (k : Nat) (e : SegEnd) : State :=
  match Tab.get? s.tasks k with
  | none => s
  | some t =>
    let ns := t.segEng.foldl (fun n x => n + x.2) 0
    let charge := s.chargeOf t.cls ns t.segNj
    let s := s.account t.ctx t.cls (ns - t.inherits.foldl (fun n h => n + h.ns) 0) (t.segNj - t.inherits.foldl (fun n h => n + h.nj) 0)
    let s := t.inherits.foldl (fun s h => s.account h.ctx t.cls h.ns h.nj) s
    let s := s.updCtx t.ctx (fun x => { x with segs := x.segs + 1 })
    let s := if t.rt.isSome || !t.inherits.isEmpty then s else s.addVc t.ctx charge
    let s := if e == .squash then s else s.progress t.ctx
    let late : Bool := match t.yieldAt with | some a => 20000 < s.ref - a | none => false
    let s := s.when (e == .yield) (fun s => (s.updCtx t.ctx (fun x => { x with
      preempts := x.preempts + 1, preLate := if late then satAdd 65535 x.preLate 1 else x.preLate })).count
        (288 + t.cls.idx) 1 t.who)
    let s := s.when (e == .squash) (fun s => s.count (294 + t.cls.idx) 1 t.who)
    s.updTask k (fun t => { t with segEng := [], segNj := 0, segs := t.segs + 1, totalNs := t.totalNs + ns,
                                   yieldAt := none, inherits := [] })

/-- The submission has to stand still for an engine command it issued without ASYNC. -/
def State.syncOut (s : State) (f : Flight) : Bool :=
  (f.pend ++ f.out).any (fun k => (Tab.get? s.tasks k).any (fun t => !t.isync || t.phase == .ready || t.phase == .gathering
    || t.phase == .preloaded) && (f.pend.contains k || (Tab.get? s.tasks k).any (fun t => !t.isync)))

/-- The command at the submission's place acts as a FENCE (R102), as does the end of the buffer. -/
def Flight.fencing (f : Flight) : Bool :=
  match f.cur with
  | none => f.off == f.length
  | some ws =>
    let h := nth ws 0 0
    let w1 := nth ws 1 0
    match hdrOp h with
    | 0x10 => true
    | 0x14 => true
    | 0x18 => fld w1 4 2 == 2 || fld w1 4 2 == 3
    | 0x20 => w1 ≠ 0
    | 0x21 => fld w1 0 2 == 1
    | _ => false

/-- The command at the submission's place is an engine command (Table 03-4). -/
def Flight.atEngine (f : Flight) : Bool :=
  match f.cur with
  | some (h :: _) => 1 ≤ hdrOp h && hdrOp h ≤ 9
  | _ => false


/-- A submission parked on its engine commands goes on once what it waits for has come (R100, R102, R125). -/
def State.windowCheck (s : State) (f : Nat) : State :=
  match Tab.get? s.flights f with
  | none => s
  | some x =>
    match x.wait with
    | none => s
    | some w =>
      if !w.kind.engine || x.watching.isSome then s
      else if x.ending.isSome then
        if x.out.isEmpty && x.pend.isEmpty then s.unpark f else s
      else if s.syncOut x || (x.atEngine && 64 ≤ x.out.length) || (x.fencing && !x.out.isEmpty) then s
      else s.unpark f

/-- A task leaves the table: it is no longer outstanding in its submission, which may go on. -/
def State.dropTask (s : State) (k : Nat) : State :=
  match Tab.get? s.tasks k with
  | none => s
  | some t =>
    let s := { s with tasks := Tab.erase s.tasks k, due := s.due.filter (fun d => d.task ≠ k) }
    let s := ((s.dropJobs (fun j => j == k)).freeSlots k).emptyBanks k
    let s := s.updFlight t.f (fun x => { x with out := x.out.filter (fun j => j ≠ k), pend := x.pend.filter (fun j => j ≠ k) })
    s.windowCheck t.f

/-- The trace record at the end of a command with TRACE (Table 13-5). -/
def State.traceComplete (s : State) (t : Task) (status : Nat) : State :=
  s.when t.trace (fun s => s.traceCmd 2 (s.taskTag t)
    (mkWord [(0, 8, t.opcode), (8, 8, status), (32, 32, min 0xFFFFFFFF (t.totalNs / 1000))]))

/-- Table 04-4 step 4: the command is complete. Its last segment is charged, the correction of its layer learns (R203), and
the submission parked on it is released. -/
def State.commandComplete (s : State) (k : Nat) : State :=
  match Tab.get? s.tasks k with
  | none => s
  | some t =>
    let s := s.segmentEnd k .complete
    match Tab.get? s.tasks k with
    | none => s
    | some t1 =>
      let s := s.learn t1
      let s := s.count (282 + t.cls.idx) 1 t.who
      let s := s.traceComplete t1 0
      let s := match t.early with | some st => s.endEarlyAt t.f st t.off t.layer t.op | none => s
      s.dropTask k

/-- A task ends because its context or SQ is torn down, or its instance is abandoned: the segment is charged and the command
is not completed; an early end that the squash carries out is decided now. -/
def State.taskGone (s : State) (k status : Nat) : State :=
  match Tab.get? s.tasks k with
  | none => s
  | some t =>
    let s := if t.launchedEver && t.phase == .running then s.segmentEnd k .squash else s
    let s := s.traceComplete t status
    let s := match t.early with | some st => s.endEarlyAt t.f st t.off t.layer t.op | none => s
    s.dropTask k

/-- The context of a submission is in an autotomy, or its function in a wider teardown (R267). -/
def State.tornDown (s : State) (f : Nat) : Bool :=
  match Tab.get? s.flights f with | some x => x.inTeardown | none => true

/-- After step 3 of Table 04-4: the armed watches of a DISPATCH are evaluated before step 4 (R413); else the command is
complete. -/
def State.afterClean (s : State) (k : Nat) : State :=
  match Tab.get? s.tasks k with
  | none => s
  | some t =>
    if t.watches.isEmpty then s.commandComplete k
    else
      let s := s.updTask k (fun t => { t with phase := .done })
      t.watches.foldl (fun s w => s.readMem (.watch t.f) w.addr w.len) s

/-- Table 04-4 steps 1 and 2 of a cores task whose ranges have all run: clean goes to every core that ran the task, for its
declared ranges. A context in teardown is not cleaned (Table 08-3 step 2). -/
def State.startClean (s : State) (k : Nat) : State :=
  match Tab.get? s.tasks k with
  | none => s
  | some t =>
    if s.tornDown t.f then s.taskGone k 4
    else if t.outs.isEmpty then s.afterClean k
    else
      let s := s.updTask k (fun t => { t with phase := .cleaning, cleaning := t.ranOn })
      s.emits (t.ranOn.map (fun p => Emit.ctl .cores p .clean t.tag))

/-! ## Ranks -/

/-- A change of rank `r` of a task. -/
def State.updRank (s : State) (k r : Nat) (g : Rank → Rank) : State :=
  s.updTask k (fun t => { t with ranks := modAt t.ranks r g })

/-- A range cut after its first `n` workgroups. -/
def Range.cut (g : Range) (n : Nat) : Range × Range :=
  let l := g.first + (n - 1) * g.stride
  ({ g with last := l }, { g with first := l + g.stride })

/-- Ranges cut after their first `n` workgroups (R251 step 1). -/
def splitRanges : Nat → List Range → List Range × List Range
  | _, [] => ([], [])
  | n, g :: gs =>
    if n = 0 then ([], g :: gs)
    else if g.count ≤ n then
      let r := splitRanges (n - g.count) gs
      (g :: r.1, r.2)
    else ([(g.cut n).1], (g.cut n).2 :: gs)

/-- A task drains: its submission is in a teardown, or its SQ is being destroyed (Table 02-12, Table 08-3). -/
def State.draining (s : State) (t : Task) : Bool :=
  s.tornDown t.f || (Tab.get? s.sqs t.sq).any (fun q => q.state == .destroying)

/-- The task's set has no rank left to launch or to run. -/
def Task.ranksOver (t : Task) : Bool := t.ranks.all (fun r => r.released)

/-- The first launch of a preloaded task on a core that is idle becomes due (R235): the set is final, its header and image
are in the bank, and a real-time task is admitted. -/
def State.coreDue (s : State) (p : Nat) : State :=
  let c := nth s.cores p {}
  match c.bank with
  | none => s
  | some k =>
    match Tab.get? s.tasks k with
    | none => s
    | some t =>
      if c.run.isSome || !t.hdrSent || !t.acked.contains p || t.rtWaiting || s.due.any (fun d => d.cls == .cores && d.peng == p)
      then s
      else
        match t.ranks.zipIdx.find? (fun r => r.1.core == p && !r.1.launched && !r.1.released) with
        | none => s
        | some r =>
          { s with due := s.due ++ [{ cls := .cores, peng := p, task := k, rank := r.2, at0 := s.ref }] }

/-- A core stops running its task. -/
def State.coreStop (s : State) (p : Nat) : State := s.updCore p (fun c => { c with run := none })

/-- A task whose ranks are all over goes on to its clean, or back to ready with what it has left (R250, R253, R468). -/
def State.ranksCheck (s : State) (k : Nat) : State :=
  match Tab.get? s.tasks k with
  | none => s
  | some t =>
    if t.phase != .running || !t.ranksOver then s
    else
      let s := s.uncoreEnd k
      if t.squashed || s.tornDown t.f then s.taskGone k 4
      else if t.progress.isEmpty then s.startClean k
      else
        let s := s.segmentEnd k .yield
        let s := s.freeSlots k
        s.updTask k (fun t => { t with phase := .ready, ranks := [], held := [], slot := none, hdrSent := false, acked := [],
                                       yielding := false, resume := true, waitFrom := s.ref })

/-- A rank is released (R250): its core takes no further part in the task and goes to what its bank holds. -/
def State.releaseRank (s : State) (k r : Nat) : State :=
  match Tab.get? s.tasks k with
  | none => s
  | some t =>
    let p := (nth t.ranks r ⟨0, [], false, false, true, 0, 0⟩).core
    let s := s.updRank k r (fun x => { x with released := true, running := false, ranges := [] })
    ((s.coreStop p).coreDue p).ranksCheck k

/-- Rank `r` goes on with some ranges, one after another: the first becomes due as a continuation (R235, R253). -/
def State.continueOn (s : State) (k r : Nat) (gs : List Range) : State :=
  match gs, Tab.get? s.tasks k with
  | g :: _, some t =>
    let p := (nth t.ranks r ⟨0, [], false, false, true, 0, 0⟩).core
    let s := s.updRank k r (fun x => { x with ranges := gs, running := false })
    { s with due := s.due ++ [{ cls := .cores, peng := p, task := k, rank := r, cont := some g, at0 := s.ref }] }
  | _, _ => s

/-- Rank `r` gives up its ranges to the task's progress record and is released (R252, R253). -/
def State.returnRank (s : State) (k r : Nat) : State :=
  (s.updTask k (fun t => { t with
    progress := t.progress ++ (nth t.ranks r ⟨0, [], false, false, true, 0, 0⟩).ranges.map (fun g => (r, g)) })).releaseRank k r

/-- The continuations of a task that are due are cancelled (R252). -/
def State.cancelConts (s : State) (k : Nat) : State :=
  let p (d : Due) : Bool := d.task == k && d.cont.isSome
  ((s.due.filter p).map (fun d => d.rank)).foldl (fun s r => s.returnRank k r) (s.dropDue p)

/-- The estimate of R251 step 2 of a rank's unstarted work. -/
def Task.est (t : Task) (now : Nat) (r : Rank) : Nat :=
  if t.exWg = 0 || t.exNs = 0 then r.count else r.count - (now - r.launchAt) * t.exWg / t.exNs

/-- The running rank with the largest estimate of at least 2 that has not been tried, the lower rank first (R251). DEDUCED (log
15): a core in `busy`, whose earlier trim is not answered (R39, R252), is passed over. -/
def Task.trimVictim (t : Task) (now : Nat) (tried busy : List Nat) : Option Nat :=
  let l := (t.ranks.zipIdx.filter (fun r => r.1.running && !tried.contains r.2 && !busy.contains r.1.core
    && 2 ≤ t.est now r.1))
  match l with
  | [] => none
  | a :: rest => some (rest.foldl (fun a b => if t.est now a.1 < t.est now b.1 then b else a) a).2

/-- The next trim of a steal, at most two in all; with no victim left the core is released (R251). -/
def State.tryTrim (s : State) (k r : Nat) (tried : List Nat) : State :=
  match Tab.get? s.tasks k with
  | none => s
  | some t =>
    let v := if tried.length < 2 then t.trimVictim s.ref (r :: tried) (s.trims.map (fun x => x.victim)) else none
    match v with
    | none => s.releaseRank k r
    | some q =>
      let rk := nth t.ranks q ⟨0, [], false, false, true, 0, 0⟩
      let thief := (nth t.ranks r ⟨0, [], false, false, true, 0, 0⟩).core
      let last := match rk.ranges with | g :: _ => g.last | [] => 0
      let s := { s with trims := s.trims ++ [Trim.mk rk.core thief k (tried ++ [q]) last t.tag] }
      s.emit (.ctl .cores rk.core .trim t.tag)

/-- No steal applies to the task's launches (R251, R254). -/
def State.noSteal (s : State) (t : Task) : Bool :=
  t.isStatic || (Tab.get? s.ctxs t.ctx).any (fun x => x.det || x.noSteal)

/-- The rank not launched that has the most workgroups, at least 2, the lower rank among equals (R251 step 1). -/
def Task.richest (t : Task) : Option (Rank × Nat) :=
  match t.ranks.zipIdx.filter (fun x => !x.1.launched && !x.1.released && 2 ≤ rangesCount x.1.ranges) with
  | [] => none
  | a :: l => some (l.foldl (fun a b => if rangesCount a.1.ranges < rangesCount b.1.ranges then b else a) a)

/-- A steal for rank `r`, which has nothing left of its own (R251, R468): a whole orphaned range, the lowest rank's first, a part of
a rank not launched, a trim, or release. -/
def State.steal (s : State) (t : Task) (k r : Nat) : State :=
  match t.progress with
  | a :: l =>
    let lowest := l.foldl (fun a b => if b.1 < a.1 then b else a) a
    (s.updTask k (fun t => { t with progress := t.progress.erase lowest })).continueOn k r [lowest.2]
  | [] =>
    match t.richest with
    | some q =>
      let cut := splitRanges ((rangesCount q.1.ranges + 1) / 2) q.1.ranges
      let s := s.updRank k q.2 (fun x => { x with ranges := cut.1 })
      ((s.bump .SCH_STEAL_CNT 0 0 0 32 1).count 280 1 t.who).continueOn k r cut.2
    | none => s.tryTrim k r []

/-- An EXHAUSTED done of rank `r` (R250, R251, R253, R468): a further range of its own, or a steal. A task that drains or yields
launches nothing more; `keep` tells that the core goes on at all (R299). -/
def State.exhausted (s : State) (k r : Nat) (keep : Bool) : State :=
  let s := s.updRank k r (fun x => { x with running := false, ranges := x.ranges.drop 1 })
  match Tab.get? s.tasks k with
  | none => s
  | some t =>
    let mine := (nth t.ranks r ⟨0, [], false, false, true, 0, 0⟩).ranges
    if t.squashed || s.tornDown t.f then s.releaseRank k r
    else if t.yielding || s.draining t || !keep then s.returnRank k r
    else if !mine.isEmpty then s.continueOn k r mine
    else if s.noSteal t then s.releaseRank k r
    else s.steal t k r

/-- The answer to a trim (R251, R252): a new last gives the waiting core the rest of the range; a refusal moves on. A core that is moving
goes on with nothing (Table 09-4 step 2): what was taken for it is orphaned. -/
def State.trimAck (s : State) (victim : Nat) (refused : Bool) (last : Nat) : State :=
  match s.trims.find? (fun x => x.victim == victim) with
  | none => s
  | some tr =>
    let s := { s with trims := s.trims.filter (fun x => x.victim ≠ victim) }
    match Tab.get? s.tasks tr.task with
    | none => s
    | some t =>
      let r := (t.ranks.findIdx (fun x => x.core == tr.thief && !x.released))
      let q := tr.tried.getLast?.getD 0
      let held := t.yielding || s.draining t || (nth s.cores tr.thief {}).moving
      let g := match (nth t.ranks q ⟨0, [], false, false, true, 0, 0⟩).ranges with | g :: _ => g | [] => ⟨0, 0, 1⟩
      if refused || tr.oldLast ≤ last then
        let s := (s.bump .SCH_STEAL_CNT 0 0 32 16 1).count 281 1 t.who
        if held || t.squashed then s.releaseRank tr.task r else s.tryTrim tr.task r tr.tried
      else
        let keep : Range := { g with last := last }
        let give : Range := { first := last + g.stride, last := tr.oldLast, stride := g.stride }
        let s := s.updRank tr.task q (fun x => { x with ranges := keep :: x.ranges.drop 1, count := keep.count })
        let s := (s.bump .SCH_STEAL_CNT 0 0 0 32 1).count 280 1 t.who
        if t.squashed || s.tornDown t.f then s.releaseRank tr.task r
        else if held then
          (s.updTask tr.task (fun t => { t with progress := t.progress ++ [(r, give)] })).releaseRank tr.task r
        else s.continueOn tr.task r [give]

/-- A trim that a yield or squash overtook counts as refused (R252). -/
def State.missedTrim (s : State) (victim : Nat) : State :=
  if s.trims.any (fun x => x.victim == victim) then s.trimAck victim true 0 else s

/-! ## Yields and squashes -/

/-- A link task's transfer has sent its last segment, so that there is nothing left to yield: a LINK_PUT by this node, a LINK_GET by
the other. -/
def State.sentAll (s : State) (t : Task) : Bool :=
  match t.xfer.bind (Tab.get? s.tml.xfers) with
  | some y => t.cls == .link && (if y.get then y.segs ≤ y.covered else y.segs ≤ y.sent)
  | none => false

/-- A task may be yielded at workgroup grain. A task being drained or squashed, TASK_GRAIN tasks and composition are never yielded (R189,
R191); neither is a transfer that has nothing left to send. -/
def State.mayYield (s : State) (t : Task) : Bool :=
  t.phase == .running && !t.yielding && !t.squashed && !t.taskGrain && t.cls != .comp && !s.draining t && !s.sentAll t

/-- A workgroup-grain yield of a task that may be yielded (R186, R190): _CTL_ yield goes to every engine that runs it; its continuations that
are due are cancelled (R252), and what has not launched is discarded. -/
def State.yieldTask (s : State) (k : Nat) : State :=
  match Tab.get? s.tasks k with
  | none => s
  | some t =>
    if !s.mayYield t then s
    else
      let s := s.updTask k (fun t => { t with yielding := true, yieldAt := some s.ref })
      if t.cls == .cores then
        let s := s.discard k
        let s := s.emits ((t.ranks.filter (fun r => r.running)).map (fun r => Emit.ctl .cores r.core .yield t.tag))
        (s.cancelConts k).ranksCheck k
      else
        s.emits ((s.engs.filter (fun e => e.1 < 8 && e.2.runs.any (fun r => r.task == k))).map
          (fun e => Emit.ctl (engCls e.1).1 (engCls e.1).2 .yield t.tag))

/-- A task is squashed on every engine it occupies (R266 step 2, Table 05-6): what has not launched is dropped, and what
runs is squashed; a task that runs nowhere is gone at once. -/
def State.squashTask (s : State) (k : Nat) : State :=
  match Tab.get? s.tasks k with
  | none => s
  | some t =>
    if t.phase == .ready || t.phase == .gathering || t.phase == .preloaded || t.phase == .cleaning || t.phase == .done then
      (s.discard k).taskGone k 4
    else if t.squashed then s
    else
      let s := (s.discard k).updTask k (fun t => { t with squashed := true })
      if t.cls == .cores then
        let s := s.emits ((t.ranks.filter (fun r => r.running)).map (fun r => Emit.ctl .cores r.core .squash t.tag))
        (s.cancelConts k).ranksCheck k
      else
        s.emits ((s.engs.filter (fun e => e.1 < 8 && e.2.runs.any (fun r => r.task == k))).map
          (fun e => Emit.ctl (engCls e.1).1 (engCls e.1).2 .squash t.tag))

end Sys2Proof.Machine
end

