-- ==== Sys2Proof/Machine/Keys.lean ====
section
/-! DEFINITION. Key slots, sessions and their ends (R312, R329, R330, R334), the partition's layout block and its changes,
sealed ranges and held pages (R315 to R318, R323). -/

namespace Sys2Proof.Machine

/-- Every session of a peer ends (R331). -/
def Sec.endSession (c : Sec) (p : SpdmPeer) : Sec := { c with sessions := c.sessions.filter (fun x => x.peer ≠ p) }

/-- The role and binding of a key slot (SEC_SLOT). -/
def State.slotType (s : State) (k : Nat) : Nat := s.rf .SEC_SLOT k 0 0 2

/-- The partition a key slot is bound to. -/
def State.slotPart (s : State) (k : Nat) : Nat := s.rf .SEC_SLOT k 0 2 3

/-- A key slot zeroised. -/
def State.zeroSlot (s : State) (k : Nat) : State :=
  let s := s.setReg .SEC_SLOT k 0 0
  { s with sec := { s.sec with modelIds := Tab.erase s.sec.modelIds k, keys := Tab.erase s.sec.keys k,
                               revoke := s.sec.revoke.filter (fun j => j ≠ k) } }

/-- A change of the security controller. -/
def State.setSec (s : State) (f : Sec → Sec) : State := { s with sec := f s.sec }

/-- A buffer of a mailbox faults: ERR is set and the request is over. -/
def State.mboxErr (s : State) (n : Nat) : State :=
  if s.sec.mbox.contains n then
    (s.setSec (fun c => { c with mbox := c.mbox.filter (fun m => m ≠ n), mboxAns := Tab.erase c.mboxAns n })).setB .SEC_FN_MBOX_CTL n 0 15 true
  else s

/-- A key comes from the DRBG, which reseeds first (R309): its output is a free value (log 141). -/
def State.genKey (s : State) : Nat × State := (s.bump .SEC_STAT 0 0 32 32 1).draw

/-- A slot takes a key. -/
def State.putKey (s : State) (k : Nat) (v : BitVec 256) : State := { s with sec := { s.sec with keys := Tab.set s.sec.keys k v } }

/-- A new key in a slot. -/
def State.newKey (s : State) (k : Nat) : State :=
  let (v, s) := s.genKey
  s.putKey k (BitVec.ofNat 256 v)

/-! ## Handshakes (R311, R335, R340) -/

/-- The device identity key (R311). -/
def identityKey : BitVec 384 := Config.ecdsaKey (Config.hkdf (beBytes 32 Config.deviceSecret.toNat) [] [] 56)

/-- The certificate chain of R311. -/
def State.chain (s : State) : List Byte := match s.start.plinth with | some p => p.idChain | none => []

/-- An ephemeral key with a random (Table 10-10 step 2). -/
def State.newEph (s : State) : Eph × State :=
  let (k, s) := s.genKey
  let (r, s) := s.draw
  ({ priv := BitVec.ofNat 384 k, rand := BitVec.ofNat 256 r }, s)

/-- The public half. -/
def Eph.hello (e : Eph) : Hello := { rand := e.rand, pub := Config.p384Point e.priv }

/-- The message that carries it, with the chain. -/
def Eph.msg (e : Eph) (chain : List Byte) : KexMsg := .hello e.rand (Config.p384Point e.priv) chain

/-- PROOF (Table 10-10 step 3): a signature over the SHA-384 of both HELLOs. -/
def State.proof (s : State) (e : Eph) (h : Hello) : KexMsg × State :=
  let (r, s) := s.draw
  let both := Config.helloBytes (e.msg s.chain) ++ Config.helloBytes (.hello h.rand h.pub [])
  (.proof (Config.ecdsaSign s.sec.identity (Config.sha384 both) r), s)

/-- This end's public key orders lower. -/
def Eph.lower (e : Eph) (h : Hello) : Bool := decide (e.hello.pub.toNat ≤ h.pub.toNat)

/-- The bytes that a handshake yields (Table 10-10 step 4): the salt is the two randoms, ordered as their public keys. -/
def Eph.derive (e : Eph) (h : Hello) (n : Nat) : List Nat :=
  let a := beBytes 32 e.rand.toNat
  let b := beBytes 32 h.rand.toNat
  Config.hkdf (Config.ecdh e.priv h.pub) (if e.lower h then a ++ b else b ++ a) ("tamnel link".toList.map Char.toNat) n

/-- The link keys of a handshake, to send and to receive (Table 10-10 step 4): a 32-byte key and a 4-byte salt for each direction, the first
for the end whose public key orders lower. -/
def Eph.linkKeys (e : Eph) (h : Hello) : LinkKey × LinkKey :=
  let l := e.derive h 72
  let key (l : List Nat) : LinkKey := { key := BitVec.ofNat 256 (beNat (l.take 32)), salt := BitVec.ofNat 32 (beNat ((l.drop 32).take 4)) }
  if e.lower h then (key l, key (l.drop 36)) else (key (l.drop 36), key l)

/-- The node key of a handshake (R340): its 32 bytes are the first that it yields. -/
def Eph.nodeKey (e : Eph) (h : Hello) : BitVec 256 := BitVec.ofNat 256 (beNat (e.derive h 32))

/-- KEY_SLOT of a LOAD_WEIGHTS. -/
def Task.keySlot (t : Task) : Nat := t.w 5 % 64

/-- A LOAD_WEIGHTS that uses a slot is running on the gate. -/
def State.slotInUse (s : State) (k : Nat) : Bool :=
  s.tasks.any (fun e => e.2.cls == .gate && e.2.phase == .running && e.2.keySlot == k)

/-- A blob key is revoked or freed; while the gate uses it, at the end of the chunk in progress (R329). -/
def State.freeBlob (s : State) (k : Nat) : State :=
  if s.slotType k ≠ 3 then s
  else if s.slotInUse k then
    if s.sec.revoke.contains k then s else { s with sec := { s.sec with revoke := s.sec.revoke ++ [k] } }
  else s.zeroSlot k

/-- The blob slots that satisfy `p`. -/
def State.blobSlots (s : State) (p : Nat → Bool) : List Nat :=
  ((List.range 47).map (· + 16)).filter (fun k => s.slotType k == 3 && p k)

/-- An error-log record of class SECURITY; every SUB but 1 to 3 raises device source 16 (Table 12-2). -/
def State.securityRec (s : State) (sub : Nat) (obj : Option Nat) (detail : List Word) : State :=
  let s := s.logErr { cls := 0x0E, sub := sub, obj := obj, detail := detail }
  if 1 ≤ sub && sub ≤ 3 then s else s.raise 16

/-- Blob keys are revoked by a change of Table 10-9, with a record of SUB 9 where any was. -/
def State.revokeBlobs (s : State) (p : Nat → Bool) : State :=
  match s.blobSlots p with
  | [] => s
  | k :: r => ((k :: r).foldl State.freeBlob s).securityRec 9 none [BitVec.ofNat 64 k, BitVec.ofNat 64 (s.slotPart k), 0]

/-- LOAD_ABORT, and the end of the management session, abandon a load that is not yet written. -/
def State.loadAbort (s : State) : State := if s.mcs.load.isSome then s.endLoad 11 0 else s

/-- A change of a partition's layout block (R330, Table 10-9): the keys are revoked, those with KEEP only if more than the
core mask changed; the sessions whose measurements it changes end, the management session, which may ask for every partition's, among
them (log 176). -/
def State.layoutChanged (s : State) (t : Nat) (coresOnly : Bool) : State :=
  let s := s.revokeBlobs (fun k => s.slotPart k == t && (!coresOnly || !s.rb .SEC_SLOT k 0 5))
  let s := s.when (s.sec.sessions.any (fun x => x.peer == .mgmt)) State.loadAbort
  { s with sec := { s.sec with sessions := s.sec.sessions.filter (fun x => match x.peer with
      | .host n => s.fnPart n ≠ some t
      | .mgmt => false) } }

/-- A change of a measurement that every session summarises: the plinth, the patina or the customer region (R330). -/
def State.imageChanged (s : State) : State :=
  let s := s.revokeBlobs (fun _ => true)
  { s with sec := { s.sec with sessions := [] } }

/-- The layout block of a partition (R330): eight qwords. -/
def State.layoutBlock (s : State) (t : Nat) : List Word :=
  [mkWord [(0, 4, s.node), (4, 3, t)], mkWord [(0, 48, s.rf .VXB_PART_CORES t 0 0 48)],
   mkWord [(0, 16, s.rf .VXB_PART_RES t 0 0 16), (16, 8, s.rf .VXB_PART_RES t 0 16 8), (24, 8, s.rf .MCI_PART t 0 0 8), (32, 6, s.start.log2c)]]
  ++ (List.range 4).map (fun r => s.reg .MCI_SEAL t r) ++ [0]

/-- The bytes of a digest: its first byte stands in the lowest bits. -/
def digestBytes (d : BitVec 384) : List Nat := (beBytes 48 d.toNat).reverse

/-- The set version and the digest of a control-store set, zero where none is loaded (Table 10-6). -/
def State.setBytes (s : State) (kind : Nat) : List Nat :=
  let e := Tab.getD s.mcs.sets kind (0, 0)
  (beBytes 4 e.1).reverse ++ digestBytes e.2

/-- A measurement, for a peer that may ask for it (Table 10-6). -/
def State.measurement (s : State) (p : SpdmPeer) (i : Nat) : Option (List Nat) :=
  let layout (t : Nat) : List Nat := digestBytes (Config.sha384 (byteNats (wordBytes (s.layoutBlock t))))
  match i with
  | 1 => some (digestBytes ((s.start.plinth.map (·.digest)).getD 0))
  | 2 => some (s.setBytes 0)
  | 3 => some (s.setBytes 1)
  | 4 => (match p with | .host n => (s.fnPart n).map layout | .mgmt => none)
  | _ => if 0x10 ≤ i && i ≤ 0x17 && p == .mgmt then some (layout (i - 0x10)) else none

/-- The measurements that a peer may ask for, with their indices. -/
def State.measurements (s : State) (p : SpdmPeer) : List (Nat × List Nat) :=
  ([1, 2, 3, 4] ++ (List.range 8).map (· + 0x10)).filterMap (fun i => (s.measurement p i).map (fun v => (i, v)))

/-- The measurement summary to which a session is bound (R330). -/
def State.summary (s : State) (p : SpdmPeer) : BitVec 384 := Config.sha384 ((s.measurements p).flatMap (·.2))

/-- A signature under the device identity key; what it covers is a transcript of DSP0274, which the spec does not give: a free value (log
175). -/
def State.sign (s : State) : BitVec 768 × State :=
  let (v, s) := s.draw
  (BitVec.ofNat 768 v, s)

/-! ## Partitions as the cipher sees them -/

/-- The data pages a partition holds. -/
def State.heldPages (s : State) (t : Nat) : List Nat := Tab.getD s.sec.pages t []

/-- The channels of a partition's interleave set, rising. -/
def State.ilv (s : State) (t : Nat) : List Nat := (List.range 8).filter (fun m => s.rb .MCI_PART t 0 m)

/-- Data pages of one channel: Dc / 4,096 with Dc = C × 25 / 32 (R315). -/
def State.chPages (s : State) : Nat := 2 ^ s.start.log2c * 25 / 32 / 4096

/-- MCI_PART of a partition: ILV, JOIN and the data size that follows from ILV (R316). -/
def State.setIlv (s : State) (t ilv join : Nat) : State :=
  let k := ((List.range 8).filter (fun m => Nat.testBit ilv m)).length
  s.setReg .MCI_PART t 0 (mkWord [(0, 8, ilv), (8, 8, join), (16, 36, k * s.chPages)])

/-- The channels that wait to join enter the interleave set when the partition holds no page (R316); ILV is part of the layout
block (R330). -/
def State.joinIlv (s : State) (t : Nat) : State :=
  if (s.heldPages t).isEmpty && s.rf .MCI_PART t 0 8 8 ≠ 0 then
    (s.setIlv t (s.rf .MCI_PART t 0 0 8 ||| s.rf .MCI_PART t 0 8 8) 0).layoutChanged t false
  else s

/-- This node's number in what names its own contexts: recorders, holders and acquirers (R131, R138). -/
def State.renumber (s : State) (old new : Nat) : State :=
  let at0 (n : Nat) : Nat := if n = old then new else n
  { s with
    events := Tab.mapV s.events (fun e => { e with recorder := e.recorder.map (fun r => (r.1, at0 r.2)) }),
    sems := Tab.mapV s.sems (fun m => { m with queue := m.queue.map (fun a => { a with node := at0 a.node }),
                                               holders := m.holders.map (fun h => { h with node := at0 h.node }) }) }

/-- The node ID in force; NODE is part of every layout block (R330, Table 10-9). -/
def State.setNode (s : State) (n : Nat) : State :=
  let was := s.node
  let s := s.setF .TML_STAT 0 0 0 4 n
  if n % 16 = was then s else (List.range 8).foldl (fun s t => s.layoutChanged t false) (s.renumber was (n % 16))

/-- A page becomes held at the first write to one of its lines (R317). -/
def State.holdPage (s : State) (t p : Nat) : State :=
  let l := s.heldPages t
  if l.contains p then s else { s with sec := { s.sec with pages := Tab.set s.sec.pages t (l ++ [p]) } }

/-- A byte range of partition offsets lies in one sealed range (R110, R323). -/
def State.inOneSeal (s : State) (t a len : Nat) : Bool :=
  (List.range 4).any (fun r =>
    let w := s.reg .MCI_SEAL t r
    bitOf w 36 && fld w 0 36 * 4096 ≤ a && a + len ≤ (fld w 0 36 + fld w 40 24) * 4096)

end Sys2Proof.Machine
end

