-- ==== Sys2Proof/Machine/Mci.lean ====
section
/-! DEFINITION. What the memory cipher does with lines (R315 to R320, R325): their places in the channels, their encryption and their
MACs, and the version tree of a partition. Partition 8 is the Voxbin region, whose key is slot 63 (log 139). -/

namespace Sys2Proof.Machine

/-! ## Places (R316) -/

/-- The channel and the channel offset of a partition offset. -/
def State.chPlace (s : State) (t o : Nat) : Nat × Nat :=
  let ch := s.ilv t
  let p := o / 4096
  (nth ch (p % max 1 ch.length) 8, p / max 1 ch.length * 4096 + o % 4096)

/-! ## Lines (R319, R320) -/

/-- The counter block of Table 10-3. -/
def counterBlock (version line part : Nat) (mac : Bool) (block : Nat) : Nat :=
  (version % 2 ^ 56) <<< 72 ||| (line % 2 ^ 42) <<< 30 ||| (part % 8) <<< 27 ||| (b2n mac) <<< 26 ||| block % 4

/-- The block of two qwords of a line, whose first byte in memory is the most significant one. -/
def blockOf (a b : Word) : Nat := beNat ((List.range 8).map (fun i => fld a (8 * i) 8) ++ (List.range 8).map (fun i => fld b (8 * i) 8))

/-- The two qwords of a block. -/
def blockWords (x : Nat) : List Word :=
  (cutBy 8 2 (beBytes 16 x)).map (fun l => BitVec.ofNat 64 (beNat l.reverse))

/-- The blocks of a line of eight qwords. -/
def lineBlocks : List Word → List Nat
  | a :: b :: l => blockOf a b :: lineBlocks l
  | _ => []

/-- Counter mode over the blocks of a line, which encrypts and decrypts alike. -/
def lineCrypt (k : BitVec 256) (version line part : Nat) (bs : List Nat) : List Nat :=
  bs.zipIdx.map (fun b => b.1 ^^^ aes256 k (counterBlock version line part false b.2))

/-- The MAC of a line of ciphertext with `n` bytes. -/
def lineMac (k : BitVec 256) (version line part : Nat) (bs : List Nat) (n : Nat) : Word :=
  BitVec.ofNat 64 (ghash (aes256 k 0) (bs ++ [lengthBlock 0 n]) ^^^ aes256 k (counterBlock version line part true 0))

/-- The eight counters of a node as the blocks that its MAC covers: 56 bytes, the lowest counter first, each with its least significant
byte first (log 139). -/
def nodeBlocks (cs : List (BitVec 56)) : List Nat :=
  blocksOf (cs.flatMap (fun c => (beBytes 7 c.toNat).reverse))

/-- The MAC of a node, with its parent's counter as VERSION. LINE of a node is not architectural (R315, log 139). -/
def nodeMac (k : BitVec 256) (version part level idx : Nat) (cs : List (BitVec 56)) : Word :=
  lineMac k version (Config.nodeLine part level idx) (if part = 8 then Config.regionPart else part) (nodeBlocks cs) 56

/-! ## The version tree (R317, R320) -/

/-- The lines of a partition. -/
def State.partLines (s : State) (t : Nat) : Nat :=
  if t = 8 then ((List.range 8).filter (fun m => s.start.mem.getLsbD m)).length * (2 ^ s.start.log2c / 256 / 64)
  else s.rf .MCI_PART t 0 16 36 * 64

/-- The top level of a tree whose level 0 has `n` nodes: the first with eight nodes or fewer. -/
def treeTop : Nat → Nat → Nat
  | 0, _ => 0
  | fuel + 1, n => if n ≤ 8 then 0 else treeTop fuel ((n + 7) / 8) + 1

/-- The top level of a partition's tree. -/
def State.topLevel (s : State) (t : Nat) : Nat := treeTop 16 ((s.partLines t + 7) / 8)

/-- Where a partition's counters of a level stand: those of level 0 are the versions of the lines, those of level j + 1 belong to the
nodes of level j, and those above the top level are the root. -/
def ctrKey (t level : Nat) : Nat := t * 32 + level

/-- A counter as the cipher has last written it: line or node `i`; 0 is unwritten. -/
def State.ctr (s : State) (t level i : Nat) : Nat := Tab.getD (Tab.getD s.sec.ctrs (ctrKey t level) []) i 0

/-- A counter takes a value. -/
def State.setCtr (s : State) (t level i v : Nat) : State :=
  { s with sec := { s.sec with ctrs := Tab.set s.sec.ctrs (ctrKey t level) (Tab.set (Tab.getD s.sec.ctrs (ctrKey t level) []) i v) } }

/-- The path of a line: its version and the counters of the nodes above it, up to the root, as level and index. -/
def State.treePath (s : State) (t line : Nat) : List (Nat × Nat) :=
  (List.range (s.topLevel t + 2)).map (fun j => (j, line / 8 ^ j))

/-! ## The metadata cache (R320, R321) -/

/-- A node of a tree as it stands: its eight counters, and its MAC with its parent's counter as VERSION. -/
def State.treeNode (s : State) (t level idx : Nat) : TreeNode :=
  let cs := (List.range 8).map (fun i => BitVec.ofNat 56 (s.ctr t level (8 * idx + i)))
  { ctrs := cs, mac := nodeMac (s.keyOf (cipherSlot t)) (s.ctr t (level + 1) idx) t level idx cs }

/-- The channel of a node: a leaf stands in that of its data lines, node i of a level above in ILV[i mod k]. -/
def State.nodeChannel (s : State) (t level idx : Nat) : Nat :=
  let ch := s.ilv t
  if level = 0 then (s.chPlace t (64 * (8 * idx))).1 else nth ch (idx % max 1 ch.length) 8

/-- Dirty metadata lines that satisfy `p` are written back, and counted in their channels (Table 13-1). -/
def State.writeBack (s : State) (p : MetaLine → Bool) : State :=
  let out := s.sec.dirty.filter p
  let s := { s with sec := { s.sec with dirty := s.sec.dirty.filter (fun m => !p m) } }
  out.foldl (fun s m =>
    let c := s.nodeChannel m.part m.level m.idx
    (s.emit (.node m.part (cipherSlot m.part) c m.level m.idx (s.treeNode m.part m.level m.idx))).when (m.part ≠ 8)
      (fun s => s.count (145 + 2 * c) 64)) s

/-- A node has been changed by a request of a function; where it is not in the cache yet, which of its partition's ways has the part that
takes it is a free value. -/
def State.dirtyNode (s : State) (fn : Option Nat) (t level idx : Nat) : State :=
  let mine (m : MetaLine) : Bool := m.part == t && m.level == level && m.idx == idx
  if s.sec.dirty.any mine then
    let more (m : MetaLine) : MetaLine := { m with fns := m.fns ++ (fn.toList.filter (fun n => !m.fns.contains n)) }
    { s with sec := { s.sec with dirty := s.sec.dirty.map (fun m => if mine m then more m else m) } }
  else
    let ws := (List.range 16).filter (fun w => t ≠ 8 && s.rb .VXB_PART_RES t 0 w)
    let (v, s) := s.draw
    let m : MetaLine := { part := t, level := level, idx := idx, way := ws[v % max 1 ws.length]?, fns := fn.toList }
    { s with sec := { s.sec with dirty := s.sec.dirty ++ [m] } }

/-- The nodes of a line's path are dirty, and the cache writes back some of the partition's dirty lines, the oldest: how many is a free
value (log 147). -/
def State.dirtyPath (s : State) (fn : Option Nat) (t line : Nat) : State :=
  let s := (List.range (s.topLevel t + 1)).foldl (fun s j => s.dirtyNode fn t j (line / 8 ^ (j + 1))) s
  let mine := s.sec.dirty.filter (fun m => m.part == t)
  let (v, s) := s.draw
  let out := mine.take (v % (mine.length + 1))
  s.writeBack (fun m => out.contains m)

/-- A line is written back (R317, R319, R320) for a request of a function: the version and every counter of its path advance, and the
ciphertext and the MAC go to the channel. A write that would take one of them past 2^56 − 1 is discarded, and the line is marked. -/
def State.writeLine (s : State) (fn : Option Nat) (t line : Nat) (data : List Word) : State :=
  let ps := s.treePath t line
  if s.sec.sat.contains (t, line) then s
  else if ps.any (fun p => 2 ^ 56 - 1 ≤ s.ctr t p.1 p.2) then { s with sec := { s.sec with sat := s.sec.sat ++ [(t, line)] } }
  else
    let s := ps.foldl (fun s p => s.setCtr t p.1 p.2 (s.ctr t p.1 p.2 + 1)) s
    let k := s.keyOf (cipherSlot t)
    let v := s.ctr t 0 line
    let part := if t = 8 then Config.regionPart else t
    let text := lineCrypt k v line part (lineBlocks data)
    let at0 := s.chPlace t (64 * line)
    (s.emit (.line t (cipherSlot t) at0.1 at0.2 (text.map (BitVec.ofNat 128)) (lineMac k v line part text 64))).dirtyPath fn t line

/-- The nodes of a path that came with a line, from the highest down, checked with the counter of the node above as VERSION: the
levels that fail, and the line's version. `level` counts the nodes left. An unwritten node holds unwritten lines only. -/
def State.checkNodes (s : State) (t line : Nat) : Nat → List TreeNode → Nat → List Nat × Nat
  | 0, _, ctr => ([], ctr)
  | _, [], ctr => ([], ctr)
  | level + 1, x :: up, ctr =>
    if ctr = 0 then ([], 0)
    else
      let i := line / 8 ^ (level + 1)
      let r := s.checkNodes t line level up (x.ctrs.getD (line / 8 ^ level % 8) 0).toNat
      if nodeMac (s.keyOf (cipherSlot t)) ctr t level i x.ctrs = x.mac then r else (r.1 ++ [level], r.2)

/-- A failure of a check (Table 10-4): its SUB, the line and the level. -/
abbrev CheckFail := Nat × Nat × Nat

/-- A line that has been read: the checks that fail, from the line up, and its eight qwords (R317, R319, R320). -/
def State.openLine (s : State) (t line : Nat) (l : MemLine) : List CheckFail × List Word :=
  let ns := l.nodes.take (s.topLevel t + 1)
  let (bad, v) := s.checkNodes t line ns.length ns.reverse (s.ctr t ns.length (line / 8 ^ ns.length))
  let up := bad.map (fun j => (2, line, j))
  if s.sec.sat.contains (t, line) then ([(3, line, 0)], List.replicate 8 0)
  else if v = 0 then (up, List.replicate 8 0)
  else
    let k := s.keyOf (cipherSlot t)
    let part := if t = 8 then Config.regionPart else t
    let text := l.text.map BitVec.toNat
    let own := if lineMac k v line part text 64 = l.mac then [] else [(1, line, 0)]
    (own ++ up, (lineCrypt k v line part text).flatMap blockWords)

/-- Consecutive lines that have been read. -/
def State.openLines (s : State) (t : Nat) : Nat → List MemLine → List CheckFail × List Word
  | _, [] => ([], [])
  | line, l :: r =>
    let a := s.openLine t line l
    let b := s.openLines t (line + 1) r
    (a.1 ++ b.1, a.2 ++ b.2)

/-- The counters of a level whose node or line is still written, by the counters of the level below. -/
def keepParents (below : Tab Nat) (l : Tab Nat) : Tab Nat := l.filter (fun e => below.any (fun b => b.1 / 8 == e.1))

/-- The levels above one are pruned of the nodes that hold unwritten counters only (R318 step 3). -/
def State.pruneUp (s : State) (t : Nat) : Nat → Nat → State
  | 0, _ => s
  | n + 1, j =>
    let below := Tab.getD s.sec.ctrs (ctrKey t j) []
    let up := keepParents below (Tab.getD s.sec.ctrs (ctrKey t (j + 1)) [])
    let s := { s with sec := { s.sec with ctrs := Tab.set s.sec.ctrs (ctrKey t (j + 1)) up } }
    s.pruneUp t n (j + 1)

/-- The versions of some pages, but for those of `but`, are set to unwritten, and the metadata that covers only them is freed (R318 steps 2
and 3). -/
def State.clearPages (s : State) (t first n : Nat) (but : List Nat) : State :=
  let out (line : Nat) : Bool := line < first * 64 || (first + n) * 64 ≤ line || but.contains (line / 64)
  let s := { s with sec := { s.sec with
    ctrs := Tab.set s.sec.ctrs (ctrKey t 0) ((Tab.getD s.sec.ctrs (ctrKey t 0) []).filter (fun e => out e.1)),
    sat := s.sec.sat.filter (fun e => e.1 ≠ t || out e.2) } }
  let s := s.pruneUp t (s.topLevel t + 1) 0
  { s with sec := { s.sec with dirty := s.sec.dirty.filter (fun m => m.part ≠ t || s.ctr t (m.level + 1) m.idx ≠ 0) } }

/-- Pages of a partition that are released are held no more (R317, R318). -/
def State.freePages (s : State) (t first n : Nat) (but : List Nat) : State :=
  let s := s.clearPages t first n but
  let left := (Tab.getD s.sec.pages t []).filter (fun p => p < first || first + n ≤ p || but.contains p)
  { s with sec := { s.sec with pages := Tab.set s.sec.pages t left } }

/-- A write reaches a page whose release is in progress: the release, which arrived first, takes the page, and the write holds it again
(R318). -/
def State.releaseFirst (s : State) (t page : Nat) : State :=
  let hit (e : Nat × Nat × Nat × List Nat) : Bool :=
    s.fnPart e.1 == some t && e.2.1 ≤ page && page < e.2.1 + e.2.2.1 && !e.2.2.2.contains page
  if s.sec.releases.any hit then
    let s := { s with sec := { s.sec with releases := s.sec.releases.map (fun e => if hit e then (e.1, e.2.1, e.2.2.1, e.2.2.2 ++ [page]) else e) } }
    s.freePages t page 1 []
  else s

/-- Nothing of a partition is written any more. -/
def State.clearPart (s : State) (t : Nat) : State :=
  { s with sec := { s.sec with ctrs := s.sec.ctrs.filter (fun e => e.1 / 32 ≠ t), sat := s.sec.sat.filter (fun e => e.1 ≠ t),
                               pages := Tab.erase s.sec.pages t, dirty := s.sec.dirty.filter (fun m => m.part ≠ t) } }

end Sys2Proof.Machine
end

