-- ==== Sys2Proof/Machine/Gate.lean ====
section
/-! DEFINITION. The weight gate (R110, R326 to R329): the blob header, the chunks and their tags, and what a LOAD_WEIGHTS writes. -/

namespace Sys2Proof.Machine

/-- The most plaintext bytes of a chunk. -/
def chunkBytes : Nat := 65536

/-- The chunks of a blob: n = ⌈PLAIN_LEN / 65,536⌉ (R326). -/
def BlobHdr.chunks (h : BlobHdr) : Nat := (h.plain + chunkBytes - 1) / chunkBytes

/-- The plaintext bytes of chunk `k`. -/
def BlobHdr.chunkLen (h : BlobHdr) (k : Nat) : Nat := min chunkBytes (h.plain - chunkBytes * k)


/-- A number from bytes, lowest first. -/
def leNat : List Byte → Nat
  | [] => 0
  | b :: r => b.toNat + 256 * leNat r

/-- The bytes from `o` on, `n` of them. -/
def cutBytes (l : List Byte) (o n : Nat) : List Byte := (l.drop o).take n


/-- The IV of NONCE_BASE with a number XORed into its low 32 bits (R327). -/
def gateIv (nonce : BitVec 96) (x : Nat) : BitVec 96 := nonce ^^^ BitVec.ofNat 96 (x % 2 ^ 32)

/-- The associated data of a chunk: MODEL_ID, PLAIN_LEN and k as little-endian qwords (R327). -/
def chunkAad (h : BlobHdr) (k : Nat) : List Byte := wordBytes [h.model, BitVec.ofNat 64 h.plain, BitVec.ofNat 64 k]

/-- The fields of a header (Table 10-5). NONCE_BASE stands with its first byte first. -/
def blobFields (b : List Byte) : BlobHdr :=
  { model := BitVec.ofNat 64 (leNat (cutBytes b 8 8)), plain := leNat (cutBytes b 16 8),
    nonce := BitVec.ofNat 96 (beNat (byteNats (cutBytes b 24 12))) }

/-- HDR_TAG verifies under the blob key (Table 10-5, R327). -/
def hdrTagOk (k : BitVec 256) (b : List Byte) : Bool :=
  gcmTag k (gateIv (blobFields b).nonce 0xFFFFFFFF) (byteNats (cutBytes b 0 240)) [] == beNat (byteNats (cutBytes b 240 16))

/-- KEY_SLOT holds a blob key of the context's partition. -/
def State.gateKey (s : State) (t : Task) : Bool := s.slotType t.keySlot == 3 && s.slotPart t.keySlot == t.part

/-- What step 2 of R328 asks of a header beside its tag: MAGIC, VERSION, the reserved bytes, BLOB_LEN, MODEL_ID and DST_CAP. -/
def State.hdrOk (s : State) (t : Task) (b : List Byte) : Bool :=
  let h := blobFields b
  leNat (cutBytes b 0 4) == 0x56474231 && leNat (cutBytes b 4 2) == 1 && (cutBytes b 6 2 ++ cutBytes b 36 204).all (fun x => x == 0)
    && 1 ≤ h.plain && h.plain < 2 ^ 40 && t.w 2 % 2 ^ 40 == 256 + h.plain + 16 * h.chunks
    && h.model == Tab.getD s.sec.modelIds t.keySlot 0 && h.plain ≤ t.w 4 % 2 ^ 40

/-- A change of the gate's work on a command. -/
def State.updGate (s : State) (k : Nat) (f : Gate → Gate) : State := s.updTask k (fun t => { t with gate := f t.gate })

/-- A header or chunk tag that fails (WG_STAT). -/
def State.tagFail (s : State) : State := s.bump .WG_STAT 0 0 32 16 1

/-- Step 2 of R328: the header, once its 256 bytes have come. -/
def State.gateHeader (s : State) (k : Nat) (t : Task) : State :=
  let b := t.gate.got.take 256
  let tagOk := hdrTagOk (s.keyOf t.keySlot) b
  let s := s.when (s.gateKey t && !tagOk) State.tagFail
  if s.gateKey t && tagOk && s.hdrOk t b then
    s.updGate k (fun g => { g with hdr := some (blobFields b), got := g.got.drop 256 })
  else s.updGate k (fun g => { g with failed := true, got := [] })

/-- Step 3 of R328: the chunk in progress, once its ciphertext and its tag have come. A revocation that waits takes effect after
it, and the command goes no further (R329). -/
def State.gateChunk (s : State) (k : Nat) (t : Task) (h : BlobHdr) : State :=
  let n := h.chunkLen t.gate.chunk
  let text := byteNats (t.gate.got.take n)
  let tag := beNat (byteNats (cutBytes t.gate.got n 16))
  let iv := gateIv h.nonce t.gate.chunk
  let key := s.keyOf t.keySlot
  if gcmTag key iv (byteNats (chunkAad h t.gate.chunk)) text ≠ tag then
    (s.updGate k (fun g => { g with failed := true, got := [] })).tagFail
  else
    let dst : Word := BitVec.ofNat 64 (t.w 3) + BitVec.ofNat 64 (chunkBytes * t.gate.chunk)
    let s := s.emit (.plain dst ((gcmText key iv text).map (BitVec.ofNat 8)))
    let more := t.gate.chunk + 1 < h.chunks
    let s := s.updGate k (fun g => { g with chunk := g.chunk + 1, got := if more then g.got.drop (n + 16) else [] })
    if s.sec.revoke.contains t.keySlot then
      (s.zeroSlot t.keySlot).updGate k (fun g => { g with failed := g.failed || more })
    else s

/-- One header or chunk that is whole. -/
def State.gateStep (s : State) (k : Nat) : State :=
  match Tab.get? s.tasks k with
  | none => s
  | some t =>
    if t.gate.failed then s
    else
      match t.gate.hdr with
      | none => if t.gate.got.length < 256 then s else s.gateHeader k t
      | some h =>
        if h.chunks ≤ t.gate.chunk || t.gate.got.length < h.chunkLen t.gate.chunk + 16 then s else s.gateChunk k t h

/-- `n` headers or chunks at most. -/
def State.gateSteps (s : State) (k : Nat) : Nat → State
  | 0 => s
  | n + 1 => (s.gateStep k).gateSteps k n

/-- Blob data reach the gate, in order of their addresses. A header or a chunk takes more than two qwords. -/
def State.gateData (s : State) (k : Nat) (data : List Word) : State :=
  (s.updGate k (fun g => if g.failed then g else { g with got := g.got ++ wordBytes data })).gateSteps k (data.length + 1)

/-- The gate has nothing more to do for a command: a check has failed, or every chunk is written. -/
def Gate.finished (g : Gate) : Bool := g.failed || g.hdr.any (fun h => decide (h.chunks ≤ g.chunk))

/-- A command is launched on the gate: from the first chunk not written on; without its key it can go no further (R328, R329). -/
def State.gateStart (s : State) (k : Nat) (t : Task) : State :=
  s.updGate k (fun g => { g with got := [], failed := g.failed || (g.hdr.isSome && !s.gateKey t) })

end Sys2Proof.Machine
end

