-- ==== Sys2Proof/Machine/Teardown.lean ====
section
/-! DEFINITION. The drain-or-squash sequences that share the teardown table (R266 to R271, R280, R305, R86, Table 01-4):
autotomy, DESTROY_SQ, function-level reset, host loss and the halting of a function. Their steps that wait on engines
advance in `State.tdAdvance`. -/

namespace Sys2Proof.Machine

/-! ## What a sequence covers -/

/-- The function of a submission. -/
def State.flightFn (s : State) (f : Flight) : Option Nat := s.ctxFn f.ctx

/-- Whether a sequence covers a function. -/
def State.tdFn (s : State) (d : Td) (n : Nat) : Bool :=
  match d.kind with
  | .flr => d.obj == n || d.obj == 0
  | .halted => d.obj == n
  | .removal => s.fnPart n == some d.obj
  | .hostLoss => true
  | _ => false

/-- Whether a sequence covers a submission. -/
def State.tdCovers (s : State) (d : Td) (f : Flight) : Bool :=
  match d.kind with
  | .autotomy => f.ctx == d.obj
  | .destroySq => f.sq == d.obj
  | _ => (s.flightFn f).any (s.tdFn d)

/-- Whether a sequence covers a task. -/
def State.tdTask (s : State) (d : Td) (t : Task) : Bool :=
  match d.kind with
  | .autotomy => t.ctx == d.obj
  | .destroySq => t.sq == d.obj
  | _ => s.tdFn d t.fn

/-- The flight-table indices that a sequence covers. -/
def State.tdFlights (s : State) (d : Td) : List Nat := (s.flights.filter (fun e => s.tdCovers d e.2)).map (fun e => e.1)

/-- The tasks that a sequence covers. -/
def State.tdTasks (s : State) (d : Td) : List Nat := (s.tasks.filter (fun e => s.tdTask d e.2)).map (fun e => e.1)

/-- The sequence of a kind and object. -/
def State.tdOf (s : State) (k : TdKind) (obj : Nat) : Option Td := s.td.find? (fun d => d.kind == k && d.obj == obj)

/-- A change of a sequence. -/
def State.updTd (s : State) (k : TdKind) (obj : Nat) (g : Td → Td) : State :=
  { s with td := s.td.map (fun d => if d.kind == k && d.obj == obj then g d else d) }

/-- A sequence leaves the table. -/
def State.endTd (s : State) (k : TdKind) (obj : Nat) : State :=
  { s with td := s.td.filter (fun d => !(d.kind == k && d.obj == obj)) }

/-- The lowest free teardown entry (R270). -/
def State.tdSlot (s : State) : Option Nat :=
  (List.range 16).find? (fun j => !s.td.any (fun d => d.has && d.slot == j))

/-- A sequence waits for an entry (R270); a merged DESTROY_SQ waits for its autotomy instead (R89). -/
def Td.waits (d : Td) : Bool := !d.has && !d.merged

/-- A sequence at its step 1 takes an entry, or waits where all are taken, and counts TEARDOWN_WAIT (R270). It waits too, uncounted, where
an earlier sequence has not taken the entry that has become free yet. -/
def State.takeTd (s : State) (d : Td) : State :=
  match s.tdSlot with
  | some j =>
    if s.td.any Td.waits then { s with td := s.td ++ [d] }
    else { s with td := s.td ++ [{ d with has := true, slot := j, entered := s.ref, step := 2 }] }
  | none => { (s.errCount 0x10) with td := s.td ++ [d] }

/-- The oldest waiting sequence takes an entry that has become free; its drain counts from now (R270). -/
def State.grantTd (s : State) : State :=
  match s.tdSlot, s.td.find? Td.waits with
  | some j, some d => s.updTd d.kind d.obj (fun d => { d with has := true, slot := j, entered := s.ref, step := 2 })
  | _, _ => s

/-! ## Step 1 -/

/-- A task of a sequence stops launching: what is due or preloaded is dropped. A DESTROY_SQ keeps the command, which will
never launch; any other sequence removes it, unless it runs (R266, R86, Table 09-6). DESIGN CHOICE (log 170): one whose completion is in
progress (Table 04-4 steps 2 and 3) leaves with its last segment uncharged, for none of the ends of R156 is reached. -/
def State.haltTask (s : State) (destroy : Bool) (k : Nat) : State :=
  let s := s.dropDue (fun d => d.task == k && d.cont.isNone)
  match Tab.get? s.tasks k with
  | none => s
  | some t =>
    match t.phase with
    | .running =>
      if t.cls != .cores then s
      else
      ((s.discard k).cancelConts k).ranksCheck k
    | .cleaning => if destroy then s else s.taskGone k 4
    | .done => if destroy then s else s.taskGone k 4
    | _ => if destroy then s.discard k else (s.discard k).taskGone k 4

/-- Precedence inheritance that contexts satisfying `p` give or receive ends (R196). -/
def State.endInherit (s : State) (p : Nat → Bool) : State :=
  s.dropEdges (fun e => p e.holder || (match Tab.get? s.flights e.f with | some y => p y.ctx | none => true))

/-- A submission is held in its teardown: off its sequencer, in no list of waiters (Table 08-3 step 1). -/
def State.holdFlight (s : State) (f : Nat) : State :=
  let s := s.updFlight f (fun x => { x with inTeardown := true, seqr := none, readySince := none })
  (s.unlist f).dropHints (fun h => h.f == f)

/-- A submission that has launched nothing is removed without a completion (Table 09-6 step 1). -/
def State.removeFlight (s : State) (f : Nat) : State :=
  let s := s.unlist f
  let ks := (s.tasks.filter (fun e => e.2.f == f)).map (fun e => e.1)
  let s := ks.foldl (fun s k => match Tab.get? s.tasks k with | some t => s.traceComplete t 4 | none => s) s
  (ks.foldl State.dropTask (s.freeEntry f)).dropHints (fun h => h.f == f)

/-- Step 1 of a sequence for everything it covers. -/
def State.tdStep1 (s : State) (d : Td) : State :=
  let destroy := d.kind == .destroySq
  let qs := (s.sqs.filter (fun e => match d.kind with
    | .autotomy => e.2.ctx == d.obj
    | .destroySq => e.1 == d.obj
    | _ => s.tdFn d e.2.fn)).map (fun e => e.1)
  let s := qs.foldl State.discardFetched s
  let s := if (d.kind == .flr || d.kind == .hostLoss || d.kind == .halted || d.kind == .removal) && s.tdFn d 0 then
      s.admDiscard
    else s
  let fs := s.tdFlights d
  let hold (f : Nat) : Bool := match Tab.get? s.flights f with
    | some x => !destroy || !x.launchedAny
    | none => false
  let s := (fs.filter hold).foldl State.holdFlight s
  let s := (s.tdTasks d).foldl (fun s k => s.haltTask destroy k) s
  let s := if destroy then s else s.endInherit (fun c => match d.kind with
    | .autotomy => c == d.obj
    | _ => (s.ctxFn c).any (s.tdFn d))
  if destroy || d.kind == .autotomy then s
  else
    (fs.filter (fun f => match Tab.get? s.flights f with | some x => !x.launchedAny | none => false)).foldl
      State.removeFlight s

/-! ## Starts -/

/-- The sequences wider than an autotomy that cover a context. -/
def State.widerTd (s : State) (c : Nat) : Bool :=
  match Tab.get? s.ctxs c with
  | some x => s.fnInTd x.fn
  | none => true

/-- The DESTROY_SQs of a context's SQs merge into its autotomy: they give up their teardown entries and end after it (R89). -/
def State.mergeDestroys (s : State) (c : Nat) : State :=
  { s with td := s.td.map (fun e =>
      if e.kind == .destroySq && (Tab.get? s.sqs e.obj).any (fun x => x.ctx == c) then { e with merged := true, has := false }
      else e) }

/-- A guilty fault of a context (R126, R266, R271): autotomy starts, or the fault is merged, or queued during regrowth. -/
def State.startAutotomy (s : State) (g : Guilt) : State :=
  if (Tab.get? s.ctxs g.ctx).isNone then s
  else if s.regrowing then { s with regrow := { s.regrow with autotomies := s.regrow.autotomies ++ [{ g with at0 := some (g.at0.getD s.now) }] } }
  else if s.widerTd g.ctx || s.td.any (fun d => d.kind == .autotomy && d.obj == g.ctx) then s.errCount 0x11
  else
    let d : Td := { kind := .autotomy, obj := g.ctx, guilt := some { g with at0 := some (g.at0.getD s.now) } }
    ((s.mergeDestroys g.ctx).tdStep1 d).takeTd d

/-- A guilty fault of the command at which a submission stands, with its offset (R64, R126). -/
def State.guilty (s : State) (f status : Nat) (off : Option Nat) (addr : Word) : State :=
  match Tab.get? s.flights f with
  | none => s
  | some x =>
    let h := match off with | some o => (x.hdrAt o).getD 0 | none => x.curHdr
    s.startAutotomy { ctx := x.ctx, f := some f, status := status, off := off.getD x.off, layer := hdrLayer h,
                      op := hdrOper h, addr := addr }

/-- The guilty fault of an engine command: its own offset, layer and operator. -/
def State.guiltyTask (s : State) (k status : Nat) (addr : Word) : State :=
  match Tab.get? s.tasks k with
  | none => s
  | some t => s.startAutotomy { ctx := t.ctx, f := some t.f, status := status, off := t.off, layer := t.layer, op := t.op,
                                addr := addr }

/-- An autotomy or a DESTROY_SQ whose contexts a function sequence covers (R271, R89). -/
def State.tdUnder (s : State) (d e : Td) : Bool :=
  match e.kind with
  | .autotomy => (s.ctxFn e.obj).any (s.tdFn d)
  | .destroySq => (match Tab.get? s.sqs e.obj with | some x => s.tdFn d x.fn | none => true)
  | .flr => d.kind == .hostLoss || (d.kind == .flr && d.obj == 0) || (d.kind == .removal && e.obj ≠ 0 && s.tdFn d e.obj)
  | .halted => s.tdFn d e.obj
  | _ => false

/-- A tenant removal whose function resets a host loss takes into its step 3 (R29). -/
def tdJoins (d e : Td) : Bool := d.kind == .hostLoss && e.kind == .removal && e.step ≤ 2

/-- The drain time that the sequences under a wider one have used, by function: an autotomy's for the function of its context, a
reset's for each function it covers (Table 08-5, R29). -/
def State.drainSpent (s : State) (d : Td) : Tab Nat :=
  (s.td.filter (fun e => (s.tdUnder d e || tdJoins d e) && e.has && e.step ≤ 3)).foldl (fun m e =>
    let ns := s.ref - e.entered
    let add (m : Tab Nat) (n : Nat) : Tab Nat := Tab.set m n (max (Tab.getD m n 0) (ns + Tab.getD e.spent n 0))
    match e.kind with
    | .autotomy => (match s.ctxFn e.obj with | some n => add m n | none => m)
    | .flr => ((List.range 64).filter (s.tdFn e)).foldl add m
    | .removal => ((List.range 64).filter (s.tdFn e)).foldl add m
    | _ => m) []

/-- A sequence over whole functions starts: it takes over the sequences under it, abandons the DESTROY_SQs without a
completion, whose reserved slots are released (R74), and carries out its step 1. -/
def State.startWide (s : State) (d : Td) : State :=
  let d := { d with spent := s.drainSpent d,
                    asked := (s.td.filter (fun e => s.tdUnder d e && e.kind == .flr)).map (·.obj) }
  let adms := (s.td.filter (fun e => s.tdUnder d e && e.kind == .destroySq)).filterMap (fun e => e.adm)
  let s1 := { s with td := s.td.filter (fun e => !s.tdUnder d e),
                     adm := { s.adm with prog := s.adm.prog.filter (fun e => !adms.contains e.idx),
                                         reserved := s.adm.reserved - (s.adm.prog.filter (fun (e : AdmEntry) => adms.contains e.idx)).length } }
  (s1.tdStep1 d).takeTd d

/-- The drain limit of a function in ns (VXB_FN_CFG.DRAIN_US). -/
def State.fnDrainNs (s : State) (n : Nat) : Nat := s.rf .VXB_FN_CFG n 0 16 16 * 1000

/-- A function is present (R289). -/
def State.fnPresent (s : State) (n : Nat) : Bool := n == 0 || (n < 64 && n ≤ s.rf .VXB_VF_EN 0 0 0 6)

/-- A function-level reset (R304, R307). A reset of F0 clears VXB_VF_EN.COUNT and covers every function. One that merges into a tenant
removal is reported with the removal's reset of the function. -/
def State.startFlr (s : State) (n : Nat) : State :=
  if s.td.any (fun d => d.kind != .halted && d.kind != .autotomy && d.kind != .destroySq && s.tdFn d n
      && (n != 0 || d.kind == .flr || d.kind == .hostLoss)) then
    { s with td := s.td.map (fun d => if d.kind == .removal && s.tdFn d n then { d with asked := d.asked ++ [n] } else d) }
  else
    let s := if n = 0 then s.setF .VXB_VF_EN 0 0 0 6 0 else s
    s.startWide { kind := .flr, obj := n }

/-- A mailbox read that is failed without retry ends its request with ERR (R27, R331). -/
def State.failMbox (s : State) (r : RdOut) : State :=
  match r.tag with
  | .mbox n => s.mboxErr n
  | _ => s

/-- Host loss (R27, R29, Table 01-4); its outstanding host reads fail, those of contexts with the contexts. During regrowth it starts when
the regrowth ends. -/
def State.startHostLoss (s : State) (cause : Nat) : State :=
  let s := (s.setB .VXB_HOST_LINK 0 0 10 true).setB .VXB_HOST_LINK 0 0 11 true
  if s.regrowing then { s with regrow := { s.regrow with hostLoss := some cause } }
  else if s.td.any (fun d => d.kind == .hostLoss) then s
  else
    let d : Td := { kind := .hostLoss, obj := 0, why := cause }
    let lost := s.reads.filter (fun r => r.port == .host)
    let s := (lost.foldl State.failMbox (s.dropReads (fun r => r.port == .host))).startWide d
    { s with td := s.td.map (fun e => if tdJoins d e then { e with merged := true } else e) }

/-- A function halted by regrowth is torn down with drain limit 0 (R280); `why` is the SUB of its record. -/
def State.startHalted (s : State) (n why : Nat) : State :=
  if s.fnInTd n then s
  else s.startWide { kind := .halted, obj := n, why := why, limitNs := 0 }

/-- A DESTROY_SQ starts (R86): it is merged into an autotomy of the context (R89); a RESET SQ is free at once, through the
advance that follows. -/
def State.startDestroy (s : State) (q : Nat) (x : Sq) (adm : Nat) : State :=
  let d : Td := { kind := .destroySq, obj := q, adm := some adm, limitNs := x.drainUs * 1000 }
  if x.state == .reset then { s with td := s.td ++ [{ d with merged := true }] }
  else if s.td.any (fun e => e.kind == .autotomy && e.obj == x.ctx) then { s with td := s.td ++ [{ d with merged := true }] }
  else
    let s := s.updSq q (fun x => { x with state := .destroying })
    (s.tdStep1 d).takeTd d

/-! ## Squashes -/

/-- Every task that a sequence covers, in one function where one is named, is squashed (step 2 of the sequences). -/
def State.squashScope (s : State) (d : Td) (fn : Option Nat) : State :=
  let ks := (s.tdTasks d).filter (fun k => match Tab.get? s.tasks k with
    | some t => t.phase == .running && (fn.isNone || fn == some t.fn)
    | none => false)
  ks.foldl State.squashTask s

/-- Work of a sequence is on an engine, or, for DESTROY_SQ, on its way to completion. -/
def State.tdBusy (s : State) (d : Td) : Bool :=
  s.tasks.any (fun e => s.tdTask d e.2 && (e.2.phase == .running
    || (d.kind == .destroySq && (e.2.phase == .cleaning || e.2.phase == .done))))

/-! ## Last steps -/

/-- Insertion of a submission's index by its sequence number. -/
def insSeq (a : Nat × Flight) : List (Nat × Flight) → List (Nat × Flight)
  | [] => [a]
  | b :: r => if a.2.seq ≤ b.2.seq then a :: b :: r else b :: insSeq a r

/-- The submissions of an SQ in sequence-number order. -/
def State.flightsInOrder (s : State) (q : Nat) : List (Nat × Flight) :=
  (s.flights.filter (fun e => e.2.sq == q)).foldl (fun l e => insSeq e l) []

/-- The tasks of a submission leave the table, as their submission ends with a status. -/
def State.dropTasksOf (s : State) (f status : Nat) : State :=
  ((s.tasks.filter (fun e => e.2.f == f)).map (fun e => e.1)).foldl (fun s k => s.taskGone k status) s

/-- A submission waits on CR space. -/
def Flight.onCrSpace (x : Flight) : Bool := x.wait.any (fun w => match w.kind with | .crSpace _ => true | _ => false)

/-- The first of some writes for an SQ that is known to fault (R90), taken out of the list. -/
def State.takeFault (s : State) (q : Nat) (ws : List WriteFault) : WriteFault × State :=
  match s.faulting.find? (fun e => e.1 == q && ws.contains e.2) with
  | some e => (e.2, { s with faulting := s.faulting.erase e })
  | none => (.none, s)

/-- One completion of a teardown's step 4: the entry and PI_SHADOW are written, or the completion is held (R90, R91, R267). One that
waits on CR space waits on while its CR is held, with the status that the teardown gives it (R149). `true` comes back where an entry
whose interrupt is due has been written. -/
def State.abortOne (s : State) (f : Nat) (e : EndRec) : Bool × State :=
  match Tab.get? s.flights f with
  | none => (false, s)
  | some x =>
    if x.onCrSpace && s.crHeld x.sq then (false, s.updFlight f (fun x => { x with ending := some e, inTeardown := false }))
    else if s.crHeld x.sq then
      (false, (s.dropTasksOf f e.status).complete f e.status e.off e.layer e.op e.at0 (BitVec.ofNat 64 e.off) .none)
    else
      match Tab.get? s.sqs x.sq with
      | none => (false, (s.dropTasksOf f e.status).dropFlight f)
      | some q =>
        let p : Cpl := { sq := x.sq, seq := x.seq, irqDue := q.irq || x.irqForce,
                         entry := cplEntry x.tag x.sq e.status e.at0 e.layer e.op (BitVec.ofNat 64 e.off) }
        let (w, s) := (s.dropTasksOf f e.status).takeFault x.sq [.entry, .piShadow]
        let (stage, s) := s.writeEntry q.cr p w
        if stage < 2 then (false, (s.keepHeld x.sq { p with stage := stage }).dropFlight f)
        else (p.irqDue, ((s.retireSeq x.sq x.seq).2).dropFlight f)

/-- The completions of step 4 for some submissions, in order; `true` comes back where an interrupt is due. -/
def State.abortAll (s : State) (st : Nat → Flight → EndRec) : List (Nat × Flight) → Bool × State
  | [] => (false, s)
  | e :: l =>
    let (due, s) := s.abortOne e.1 (st e.1 e.2)
    let (dues, s) := s.abortAll st l
    (due || dues, s)

/-- Step 4 for one SQ: its completions in order, then its sequence word, unless its CR has become held, and the interrupt of the
entries written, if one is due. DESIGN CHOICE (log 167): where the sequence word faults, that interrupt is raised at once all the same. -/
def State.abortSq (s : State) (q : Nat) (st : Nat → Flight → EndRec) : State :=
  match Tab.get? s.sqs q with
  | none => s
  | some x =>
    let (due, s) := s.abortAll st (s.flightsInOrder q)
    let s :=
      if s.crHeld q then s
      else
        let (w, s) := s.takeFault q [.seqWord]
        if w == .seqWord || s.seqRefused q then s.holdCr x.cr 3 x.seqAddr else s.seqWord q
    match Tab.get? s.crs x.cr with
    | some r => s.when due (fun s => s.raiseEntry r.fn r.irqSrc)
    | none => s

/-- How a teardown ends a submission with its own status (R149): an INTEGRITY_FAIL decided before outranks it, and keeps its command and
its time. DESIGN CHOICE (log 118): ABORTED_BY_RESET and ABORTED_BY_DESTROY apply to the command at which the submission stands, past the
engine commands that it has handed over; at the end of its buffer that is LENGTH, with LAYER and OPERATOR 0. -/
def Flight.abortEnd (x : Flight) (status now : Nat) : EndRec :=
  match x.ending.filter (fun e => e.status == 0xE) with
  | some e => e
  | none => { status := status, off := x.off, layer := hdrLayer x.curHdr, op := hdrOper x.curHdr, at0 := now }

/-- How an autotomy ends a submission (R149, Table 08-3 step 4): the guilty one with the status of the fault, decided when it was
detected, any other with ABORTED_BY_RESET. -/
def abortStatus (g : Option Guilt) (now f : Nat) (x : Flight) : EndRec :=
  match g.filter (fun g => g.f == some f) with
  | some g => { status := g.status, off := g.off, layer := g.layer, op := g.op, at0 := g.at0.getD now }
  | none => x.abortEnd 4 now

/-- Steps 4 to 6 of an autotomy. -/
def State.finishAutotomy (s : State) (d : Td) : State :=
  let g := d.guilt
  let gf := match g with | some g => (match g.f with | some f => Tab.get? s.flights f | none => none) | none => none
  let qs := (s.sqs.filter (fun e => e.2.ctx == d.obj)).map (fun e => e.1)
  let s := qs.foldl (fun s q => s.abortSq q (abortStatus g s.now)) s
  let s := s.ctxsGone [d.obj]
  let s := qs.foldl (fun s q => s.updSq q (fun x =>
    if x.state == .destroying then x else { x with state := .reset })) s
  let s := s.endTd .autotomy d.obj
  let fn := s.ctxFn d.obj
  let g0 : Guilt := g.getD { ctx := d.obj }
  let s := s.logErr { cls := 0x01, sub := g0.status, fn := fn, ctx := some d.obj, obj := gf.map (·.sq), addr := g0.addr,
                      off := g0.off, layer := g0.layer, op := g0.op,
                      tag := (gf.map (fun x => x.tag.toNat)).getD 0, seq := (gf.map (fun x => x.seq)).getD 0 }
  match fn with
  | some n => s.fnEvent n 0
  | none => s

/-- Steps 4 and 5 of a DESTROY_SQ, with the rule for a held CR (R86, R93), which also holds for the completions that a refused
write of step 4 leaves. -/
def State.finishDestroy (s : State) (d : Td) : State :=
  match Tab.get? s.sqs d.obj with
  | none => s.endTd .destroySq d.obj
  | some x =>
    let heldCr := s.crHeld d.obj
    let fs := s.flightsInOrder d.obj
    let value := if heldCr then x.held.length + (fs.filter (fun e => e.2.onCrSpace)).length else 0
    let s :=
      if heldCr then
        let s := (fs.map (fun e => e.1)).foldl (fun s f => (s.dropTasksOf f 3).dropFlight f) s
        let n := fs.length + (x.held.filter (fun p => p.stage == 0)).length
        s.updCr x.cr (fun r => { r with reserved := r.reserved - n })
      else if x.state == .reset || d.merged then s
      else s.abortSq d.obj (fun _ x => x.abortEnd 3 s.now)
    let left := if heldCr then [] else match Tab.get? s.sqs d.obj with | some y => y.held | none => []
    let s := s.when (!left.isEmpty)
      (fun s => s.updCr x.cr (fun r => { r with reserved := r.reserved - (left.filter (fun p => p.stage == 0)).length }))
    let heldCr := heldCr || !left.isEmpty
    let value := value + left.length
    let s := { s with sqs := Tab.erase s.sqs d.obj, faulting := s.faulting.filter (fun e => e.1 ≠ d.obj) }
    let s := { (s.endTd .destroySq d.obj) with scan := { s.scan with
      short := s.scan.short.filter (fun q => q ≠ some d.obj), visits := s.scan.visits.filter (fun q => q.1 ≠ d.obj),
      urgent := s.scan.urgent.filter (fun q => q ≠ some d.obj) } }
    match d.adm with
    | none => s
    | some i =>
      match s.admEntry i with
      | none => s
      | some e =>
        let (w, s) := s.takeFault 4096 [.entry, .piShadow]
        s.admDone e (if heldCr then 0xF else 0) 0 value x.accepted none w

/-- A context is freed. Device source 12 is raised once for each slot of the running and pending tables that names it
(R306). -/
def State.freeCtx (s : State) (c : Nat) : State :=
  let named (t : Option CycTable) : Nat := match t with
    | some t => (t.slots.filter (fun d => d.ctx == c)).length
    | none => 0
  let n := named s.cyc.table + named s.cyc.pending
  let s := { s with ctxs := Tab.erase s.ctxs c, wd := Tab.erase s.wd c }
  (List.range n).foldl (fun s _ => s.raise 12) s

/-- A function's view after a function-level reset (R397). -/
def State.resetView (s : State) (n : Nat) : State :=
  let srcs := (List.range 64).filterMap (s.mapped n)
  let s := srcs.foldl (fun s src => (s.setArrBit .IRQ_QUENCH src false)) s
  let mask := srcs.foldl (fun (m : BitVec 512) src => m ||| (1#512 <<< src)) 0
  let s := { s with irq := { s.irq with viewPend := s.irq.viewPend &&& ~~~mask } }
  let lo := 0x400000 + n * 0x10000
  let out (k : Nat) : Bool := k < lo || lo + 0x10000 ≤ k
    || !((0x1000 ≤ k - lo && k - lo < 0x1100) || (0x2000 ≤ k - lo && k - lo < 0x2100) || (0xF00 ≤ k - lo && k - lo < 0xF20))
  { s with regs := s.regs.filter (fun e => out e.1) }

/-- Table 09-6 steps 5 and 6 for one function. -/
def State.freeFn (s : State) (n : Nat) : State :=
  let cs := (s.ctxs.filter (fun e => e.2.fn == n)).map (fun e => e.1)
  let s := s.ctxsGone cs
  let fs := (s.flights.filter (fun e => cs.contains e.2.ctx)).map (fun e => e.1)
  let s := fs.foldl State.removeFlight s
  let s := { s with sqs := s.sqs.filter (fun e => e.2.fn ≠ n), crs := s.crs.filter (fun e => e.2.fn ≠ n),
                    admHeld := Tab.erase s.admHeld n, fnRecs := Tab.erase s.fnRecs n,
                    faulting := s.faulting.filter (fun e => e.1 ≠ 4096 + n && (Tab.get? s.sqs e.1).all (fun q => q.fn ≠ n)) }
  let s := cs.foldl State.freeCtx s
  let s := s.resetView n
  let s := s.setMsixPend n false
  let s := s.setF .ADM_VF_PI_CI n 0 32 32 0
  let s := s.setB .ADM_VF_PEND 0 0 n false
  let s := { s with sec := s.sec.endSession (.host n) }
  let live (q : Option Nat) : Bool := match q with | some k => (Tab.get? s.sqs k).isSome | none => n ≠ 0
  let s := { s with scan := { s.scan with short := s.scan.short.filter live, urgent := s.scan.urgent.filter live,
                                          visits := s.scan.visits.filter (fun v => live (some v.1)) } }
  if n = 0 then { s with adm := {} } else s

/-- The functions that a sequence covers. -/
def State.tdFns (s : State) (d : Td) : List Nat := (List.range 64).filter (s.tdFn d)

/-- Steps 5 to 7 of a function-level reset. -/
def State.finishFlr (s : State) (d : Td) : State :=
  let ns := s.tdFns d
  let s := ns.foldl State.freeFn s
  let s := s.endTd .flr d.obj
  ns.foldl (fun s n => if s.fnPresent n || n == d.obj then (s.raise 11).emit (.fnReset n) else s) s

/-- Steps 4 and 5 of host loss, once the cipher has flushed. -/
def State.finishHostLoss (s : State) (d : Td) : State :=
  let s := (List.range 64).foldl State.freeFn s
  let s := s.endTd .hostLoss d.obj
  let s := { s with td := s.td.map (fun (e : Td) =>
    if e.kind == TdKind.removal && e.merged then
      { e with merged := false, freed := (List.range 64).filter (s.tdFn e), flushing := [], step := 3, mark := s.ref }
    else e) }
  let s := s.logErr { cls := 0x05, sub := d.why }
  (s.setB .VXB_HOST_LINK 0 0 11 false).raise 2

/-- The end of a halted function's teardown (R280). -/
def State.finishHalted (s : State) (d : Td) : State :=
  let cs := (s.ctxs.filter (fun e => e.2.fn == d.obj)).map (fun e => e.1)
  let s := s.ctxsGone cs
  let fs := (s.flights.filter (fun e => cs.contains e.2.ctx)).map (fun e => e.1)
  let s := fs.foldl State.removeFlight s
  let s := s.endTd .halted d.obj
  let s := s.logErr { cls := 0x12, sub := d.why, fn := some d.obj }
  s.fnEvent d.obj 2

/-- A submission of an SQ can still go on by itself. -/
def State.sqRunnable (s : State) (q : Nat) : Bool :=
  s.flights.any (fun e => e.2.sq == q && !e.2.inTeardown && e.2.wait.isNone && e.2.ending.isNone)

end Sys2Proof.Machine
end

