-- ==== Sys2Proof/Machine/Done.lean ====
section
/-! DEFINITION. Done records and control acknowledgements applied to the tasks (R237, R250 to R253, R260, R469, Table 04-4),
and the runs of engines of the classes other than cores. -/

namespace Sys2Proof.Machine

/-- A done that names no launch on its engine (R260). -/
def State.unknownDone (s : State) : State := s.logErr { cls := 0x0A, sub := 0xFF }

/-- The part of a range that has run when `next` is its first unstarted workgroup. -/
def Range.ran (g : Range) (next : Nat) : Nat := (next - g.first) / max 1 g.stride

/-- The run that a done closes is accounted to its task (R156, R200): engine time, the open period's energy, the workgroups
of an exhausted range (R251). -/
def State.closeRun (s : State) (k p : Nat) (r : Run) (ns wg : Nat) (exhausted : Bool) : State :=
  let s := s.coreEnd k p r.start
  s.updTask k (fun t => { t with
    segEng := t.segEng ++ [(p, ns)], runNs := t.runNs + ns,
    inherits := t.inheritNs ns r.start s.ref,
    exNs := if exhausted then t.exNs + ns else t.exNs, exWg := if exhausted then t.exWg + wg else t.exWg,
    ranOn := if t.ranOn.contains p then t.ranOn else t.ranOn ++ [p] })

/-- STATUS 1 or 5 to 15: a fault the engine reports (Table 07-3); 5 to 15 are logged too. -/
def State.engineFault (s : State) (k status : Nat) : State :=
  let s := s.when (5 ≤ status) (fun s =>
    match Tab.get? s.tasks k with
    | some t =>
      let x := Tab.get? s.flights t.f
      s.logErr { cls := 0x0A, sub := status, fn := some t.fn, ctx := some t.ctx, layer := t.layer, op := t.op,
                 tag := (x.map (fun x => x.tag.toNat)).getD 0, seq := (x.map (fun x => x.seq)).getD 0 }
    | none => s.logErr { cls := 0x0A, sub := status })
  s.guiltyTask k 8 0

/-- A done of a core that closes its range (R250, R253, R299, R469). -/
def State.coreDone (s : State) (p : Nat) (r : Run) (h : HeldDone) : State :=
  match Tab.get? s.tasks r.task with
  | none => s.unknownDone
  | some t =>
    let k := r.task
    let rk := nth t.ranks r.rank ⟨p, [], false, false, true, 0, 0⟩
    if !rk.running || rk.released then s.unknownDone
    else
      let g := match rk.ranges with | g :: _ => g | [] => ⟨0, 0, 1⟩
      match h.status with
      | 0 =>
        let s := (s.closeRun k p r h.engineNs g.count true).updRank k r.rank (fun x => { x with ranges := x.ranges.drop 1 })
        (s.traceAnswer k).exhausted k r.rank (t.isStatic || !(nth s.cores p {}).moving)
      | 2 =>
        let s := s.missedTrim p
        let s := s.closeRun k p r h.engineNs 0 false
        let left := if h.noneLeft then [] else [{ g with first := h.next }]
        let s := s.updRank k r.rank (fun x => { x with ranges := left ++ x.ranges.drop 1 })
        (s.traceAnswer k).returnRank k r.rank
      | 3 =>
        let s := s.missedTrim p
        ((s.closeRun k p r h.engineNs 0 false).traceAnswer k).releaseRank k r.rank
      | st =>
        let s := (s.closeRun k p r h.engineNs 0 false).traceAnswer k
        (s.engineFault k st).releaseRank k r.rank

/-- A run of an engine of another class is over. -/
def State.endRun (s : State) (e k : Nat) : State :=
  s.updEng e (fun x => { x with runs := x.runs.filter (fun r => r.task ≠ k) })

/-- The destination and the length of a COPY or FILL (Table 03-9); length 0 for any other command. -/
def Task.moves (t : Task) : Nat × Nat :=
  match t.opcode with
  | 0x04 => (t.w 2, t.w 3 % 2 ^ 40)
  | 0x05 => (t.w 1, t.w 2 % 2 ^ 40)
  | _ => (0, 0)

/-- The bytes done at a yield of a transfer (Table 05-7): the bytes done before, or a 4 KiB boundary of the destination after them; the
free value `v` picks among them (log 128). -/
def Task.yieldAtBytes (t : Task) (v : Nat) : Nat :=
  let first := t.doneBytes + (4096 - (t.moves.1 + t.doneBytes) % 4096)
  let k := v % (1 + (t.moves.2 - first + 4095) / 4096)
  if k = 0 then t.doneBytes else first + 4096 * (k - 1)

/-- The primitives of a BIN (Table 03-8). -/
def Task.prims (t : Task) : Nat := t.w 2 % 2 ^ 32

/-- The primitives binned at a yield of the tiler (Table 05-7): those binned before, or whole batches of 256 after them; the free value
`v` picks among them (log 128). -/
def Task.yieldAtPrims (t : Task) (v : Nat) : Nat := min t.prims (t.binned.1 + 256 * (v % (1 + (t.prims - t.binned.1) / 256)))

/-- The launch descriptor: the command's words (R236). DESIGN CHOICE (log 128): for a command that resumes after a yield the saved progress
follows them, so that the engine does only the unfinished work (R190): the bytes done, the primitives binned and the list positions, or
the chunks written. -/
def Task.launchWords (t : Task) : List Word :=
  let saved : List Nat := match t.cls with
    | .dma => [t.doneBytes]
    | .tiler => [t.binned.1, t.binned.2]
    | .gate => [t.gate.chunk]
    | _ => []
  t.words ++ (if t.resume then saved.map (BitVec.ofNat 64) else [])

/-- The progress that a yielded engine has saved (R186). -/
def State.noteYield (s : State) (k : Nat) : State :=
  match Tab.get? s.tasks k with
  | none => s
  | some t =>
    if t.cls == .dma then
      let (v, s) := s.draw
      s.updTask k (fun t => { t with doneBytes := t.yieldAtBytes v })
    else if t.cls == .tiler then
      let (v, s) := s.draw
      let (l, s) := s.draw
      s.updTask k (fun t => { t with binned := (t.yieldAtPrims v, l) })
    else s

/-- A done of an engine of another class than cores (R142, R237, R253, R328, R329). The weight gate's EXHAUSTED done comes once it has
nothing more to do for the command (log 140). -/
def State.engDone (s : State) (e : Nat) (r : Run) (h : HeldDone) : State :=
  match Tab.get? s.tasks r.task with
  | none => s.unknownDone
  | some t =>
    let k := r.task
    if t.cls == .gate && h.status = 0 && !t.gate.finished then s
    else
    let s := s.endRun e k
    let s := s.updTask k (fun t => { t with
      segEng := t.segEng ++ [(e, h.engineNs)], runNs := t.runNs + h.engineNs, inherits := t.inheritNs h.engineNs r.start s.ref })
    let s := s.uncoreEnd k
    let s := (s.when (h.status = 2) (fun s => s.noteYield k)).traceAnswer k
    let gone := t.cls == .gate && s.sec.revoke.contains t.keySlot
    let s := s.when gone (fun s => s.zeroSlot t.keySlot)
    let torn := s.tornDown t.f
    match h.status with
    | 0 =>
      let s := s.when t.gate.failed (fun s => s.updTask k (fun t => { t with early := some 9 }))
      if torn then s.taskGone k 4 else s.commandComplete k
    | 2 =>
      if torn || t.squashed then s.taskGone k 4
      else if t.cls == .comp then
        s.updTask k (fun t => { t with phase := .ready, yielding := false, segs := t.segs + 1, waitFrom := s.ref })
      else
        let s := s.segmentEnd k .yield
        s.updTask k (fun t => { t with phase := .ready, yielding := false, resume := true, waitFrom := s.ref })
    | 3 => s.taskGone k 4
    | 4 => s.unknownDone
    | st => (s.engineFault k st).taskGone k 8

/-- The run that a done of an engine of another class than cores ends: that of the task it names, or of its TAG; where commands of one
submission share the TAG, a YIELDED or SQUASHED done is that of the command which was yielded or squashed. -/
def State.runOf (s : State) (e : Nat) (h : HeldDone) : Option Run :=
  let runs := (Tab.getD s.engs e {}).runs
  let asked (r : Run) : Bool := (Tab.get? s.tasks r.task).any (fun t => if h.status = 3 then t.squashed else t.yielding)
  match h.task with
  | some k => runs.find? (fun r => r.task == k)
  | none =>
    let l := runs.filter (fun r => r.tag == h.tag)
    if h.status = 2 || h.status = 3 then (match l.find? asked with | some r => some r | none => l.head?) else l.head?

/-- A done record as the completion path applies it (R237, R260). -/
def State.applyDone (s : State) (h : HeldDone) : State :=
  match h.cls with
  | .cores =>
    if h.status = 4 then
      if s.trims.any (fun x => x.victim == h.peng && x.tag == h.tag) then s.trimAck h.peng h.refused h.next else s.unknownDone
    else
      match (nth s.cores h.peng {}).run with
      | some r => if r.tag == h.tag then s.coreDone h.peng r h else s.unknownDone
      | none => s.unknownDone
  | c =>
    let e := engNo c h.peng
    match s.runOf e h with
    | some r => s.engDone e r h
    | none => s.unknownDone

/-- A done arrives: it is applied, or held in the completion holding buffers during regrowth (R39). -/
def State.doneArrives (s : State) (h : HeldDone) : State :=
  if s.regrowing then
    if s.regrow.dones.length < 1024 then { s with regrow := { s.regrow with dones := s.regrow.dones ++ [{ h with at0 := s.now }] } } else s
  else s.applyDone h

/-- An acknowledged clean (Table 04-4 step 3): when the last core has answered, the command goes on. -/
def State.cleanAck (s : State) (p : Nat) : State :=
  match s.tasks.find? (fun e => e.2.phase == .cleaning && e.2.cleaning.contains p) with
  | none => s
  | some (k, t) =>
    let rest := t.cleaning.filter (fun q => q ≠ p)
    let s := s.updTask k (fun t => { t with cleaning := rest })
    if rest.isEmpty then s.afterClean k else s

end Sys2Proof.Machine
end

