-- ==== Sys2Proof/Machine/Tml.lean ====
section
/-! DEFINITION. The Tamnel fabric (chapter 11): issued and inbound transfers, the records of link transfers, the loss of a node and of a
port, the lead and its takeover. -/

namespace Sys2Proof.Machine

/-- The noise source has failed (SEC_STAT.ES_FAILED). -/
def State.esFailed (s : State) : Bool := s.rb .SEC_STAT 0 0 1

/-- A change of the Tamnel controller. -/
def State.setTml (s : State) (f : Tml → Tml) : State := { s with tml := f s.tml }

/-- An error-log record of class LINK or LEAD. -/
def State.linkRec (s : State) (p reason : Nat) : State :=
  s.logErr { cls := 0x0B, sub := reason, obj := some p,
             detail := [mkWord [(0, 4, s.rf .TML_PORT p 0 14 4), (8, 2, s.rf .TML_PORT p 0 18 2)], 0, 0] }

/-- A LEAD record, which raises device source 15 (Table 12-2). -/
def State.leadRec (s : State) (sub obj : Nat) : State := (s.logErr { cls := 0x0C, sub := sub, obj := some obj }).raise 15

/-! ## Transfers (R363 to R368) -/

/-- The fabric tenant that holds a partition on this node (SEC_FT). -/
def State.tenantOf (s : State) (part : Nat) : Option Nat :=
  (List.range 16).find? (fun f => s.rb .SEC_FT f 0 19 && s.rf .SEC_FT f 0 16 3 == part)

/-- A change of an issued transfer. -/
def State.updXfer (s : State) (x : Nat) (f : Xfer → Xfer) : State :=
  { s with tml := { s.tml with xfers := Tab.upd s.tml.xfers x f } }

/-- Transfer credits held for a destination (TML_E2E.HELD). -/
def State.heldCr (s : State) (n : Nat) : Nat := s.rf .TML_E2E n 0 0 7

/-- Payload of a transfer is counted in its context (Table 13-2): sent (6) or received (7). -/
def State.payload (s : State) (y : Xfer) (k n : Nat) : State :=
  match Tab.get? s.tasks y.task with
  | some t => s.ctxCount t.ctx k n
  | none => s

/-- LOCAL of a link transfer's command. -/
def Task.linkLocal (t : Task) : Word := BitVec.ofNat 64 (t.w 1)

/-- A segment of a LINK_PUT goes out, under the IV and with the payload that it was first sent with (R342, R367). -/
def State.putSeg (s : State) (x : Nat) (y : Xfer) (i : Nat) : State :=
  (s.sendSeg y.dest 2 { xfer := x, seg := i, ft := y.ft, ep := y.epoch % 2, iv := nth y.ivs i 0 } (Tab.getD y.data i [])).payload y 6
    (segBytes y.len i)

/-- Segments of a transfer that wait at a port are taken back, and the reads for later ones are given up: the issuer stops sending
(R368). -/
def State.dropSegs (s : State) (x : Nat) : State :=
  let mine (f : Frame) : Bool := f.cls == 2 && f.body == .seg && f.seg.any (fun d => d.xfer == x)
  let s := s.dropReads (fun r => match r.tag with | .segment k _ => k == x | _ => false)
  { s with tml := { s.tml with ports := Tab.mapV s.tml.ports (fun (p : TPort) => { p with queue := p.queue.filter (fun f => !mine f) }) } }

/-- The segments of a LINK_PUT whose payload has been read go to the port in their order, at most `n`. -/
def State.flushSegs (s : State) (x : Nat) : Nat → State
  | 0 => s
  | n + 1 =>
    match Tab.get? s.tml.xfers x with
    | none => s
    | some y =>
      if y.squashing || y.paused || y.sent ≤ y.out || 8 * (Tab.getD y.data y.out []).length < segBytes y.len y.out then s
      else
        ((s.updXfer x (fun y => { y with out := y.out + 1, sentAt := y.sentAt ++ [s.ref] })).putSeg x y y.out).flushSegs x n

/-- Data come for a segment of a LINK_PUT (Table 11-6 step 1). -/
def State.segData (s : State) (x i : Nat) (data : List Word) : State :=
  let s := s.updXfer x (fun y => { y with data := Tab.set y.data i (Tab.getD y.data i [] ++ data) })
  s.flushSegs x 64

/-- The segments of a LINK_PUT that its credits allow are read and sent, at most `n` (R364). -/
def State.sendSegs (s : State) (x : Nat) : Nat → State
  | 0 => s
  | n + 1 =>
    match Tab.get? s.tml.xfers x with
    | none => s
    | some y =>
      if y.get || y.squashing || y.paused || y.segs ≤ y.sent || s.heldCr y.dest = 0 then s
      else
        let s := s.setF .TML_E2E y.dest 0 0 7 (s.heldCr y.dest - 1)
        let (iv, s) := s.nextIv y.ft
        let s := s.updXfer x (fun y => { y with sent := y.sent + 1, ivs := y.ivs ++ [iv] })
        let from0 := match Tab.get? s.tasks y.task with | some t => t.linkLocal | none => 0
        (s.readMem (.segment x y.sent) (from0 + BitVec.ofNat 64 (4096 * y.sent)) (segBytes y.len y.sent)).sendSegs x n

/-- The port of a transfer raises the done of its task with a status (Table 11-6 step 5). -/
def State.xferRaise (s : State) (y : Xfer) (status : Nat) : State :=
  match Tab.get? s.tasks y.task with
  | none => s
  | some t => s.doneArrives { cls := .link, peng := y.port, tag := t.tag, status := status, refused := false,
                              noneLeft := false, next := 0, engineNs := min 0xFFFFFFFF (s.ref - t.runFrom), task := some y.task }

/-- The issuer's transfer is over; the task of one that has not yielded has its done raised. -/
def State.xferDone (s : State) (x status : Nat) : State :=
  match Tab.get? s.tml.xfers x with
  | none => s
  | some y =>
    let s := { s.dropSegs x with tml := { (s.dropSegs x).tml with xfers := Tab.erase s.tml.xfers x } }
    if y.paused then s else s.xferRaise y status

/-- An engine command that cannot launch ends its submission early (R125, R363). -/
def State.endUnlaunched (s : State) (k status : Nat) : State :=
  match Tab.get? s.tasks k with
  | none => s
  | some t => (s.endEarlyAt t.f status t.off t.layer t.op).taskGone k status

/-- An issued transfer ends early with a status of R125. -/
def State.xferEnd (s : State) (x status : Nat) : State :=
  match Tab.get? s.tml.xfers x with
  | none => s
  | some y =>
    if y.paused then (s.xferDone x 0).endUnlaunched y.task status
    else (s.updTask y.task (fun t => { t with early := some status })).xferDone x 0

/-- An issued transfer is squashed by this node itself and ends early with a status (R343, R368, R381). -/
def State.xferSquash (s : State) (x status : Nat) : State :=
  match Tab.get? s.tml.xfers x with
  | none => s
  | some y => ((s.bump .TML_XFER 0 0 48 16 1).send y.dest (.squash x)).xferEnd x status

/-- A link transfer that launches on port `p` will end at once with LINK_LOST: its node is no live member, or no route to it leaves by
`p`, or the node is leaving (R111, R363, R381). -/
def State.linkDoomed (s : State) (t : Task) (p : Nat) : Bool :=
  let dest := t.w 3 / 2 ^ 40 % 16
  s.tml.leaveAt.isSome || !s.nodeLive dest || !((s.route s.node dest).any (fun r => r.1 == p))

/-- An inbound transfer is closed; its reads stop (R368). -/
def State.closeIn (s : State) (src xfer : Nat) : State :=
  let s := s.dropReads (fun r => match r.tag with | .response n x _ => n == src && x == xfer | _ => false)
  { s with tml := { s.tml with inb := s.tml.inb.filter (fun y => !(y.src == src && y.xfer == xfer)) } }

/-- The link squash of a transfer (R368): SQUASH goes to the far end; with no route the port answers at once. -/
def State.linkSquash (s : State) (x : Nat) : State :=
  match Tab.get? s.tml.xfers x with
  | none => s
  | some y =>
    if y.squashing then s
    else
      let s := s.bump .TML_XFER 0 0 48 16 1
      let s := (s.updXfer x (fun y => { y with squashing := true })).dropSegs x
      if s.reachable y.dest then s.send y.dest (.squash x) else s.xferDone x 3

/-- The transfers that have been squashed and not told the far end yet send SQUASH: those of squashed tasks that run, and those whose
tasks are gone while they had yielded. -/
def State.linkSquashes (s : State) : State :=
  let gone (y : Xfer) : Bool := match Tab.get? s.tasks y.task with
    | some t => t.squashed && t.phase == .running
    | none => true
  ((s.tml.xfers.filter (fun e => gone e.2 && !e.2.squashing)).map (fun e => e.1)).foldl State.linkSquash s

/-- A transfer stops at the end of the frame in progress (R368): the frames and reads that wait are taken back, and the credits of the segments
of which no frame has left return to the node (R193), for its other transfers there. A segment that has left in part is kept, to be sent
again from its start. -/
def State.pauseXfer (s : State) (x : Nat) : State :=
  match Tab.get? s.tml.xfers x with
  | none => s
  | some y =>
    let mine := (s.tport y.port).queue.filterMap (fun f =>
      if f.body == .seg && f.cls == 2 then (f.seg.filter (fun d => d.xfer == x)).map (·.seg) else none)
    let out := mine.foldl min (min y.out y.wired)
    let s := s.dropSegs x
    let s := s.setF .TML_E2E y.dest 0 0 7 (min 64 (s.heldCr y.dest + (y.sent - y.wired)))
    let s := s.updXfer x (fun y => { y with
      paused := true, sent := y.wired, out := out, sentAt := y.sentAt.take out, ivs := y.ivs.take y.wired,
      data := y.data.filter (fun e => e.1 < y.wired) })
    ((s.tml.xfers.filter (fun e => e.2.dest == y.dest)).map (·.1)).foldl (fun s x => s.sendSegs x 64) s

/-- A yield of a link transfer takes effect at the end of the frame in progress, and the task is ready again; what it has moved stays with the
transfer (R193, R368). One that has nothing left to move completes instead (R191). -/
def State.linkYields (s : State) : State :=
  (s.tasks.filter (fun e => e.2.cls == .link && e.2.yielding && !e.2.squashed && e.2.phase == .running)).foldl
    (fun s e => match e.2.xfer with
      | some x =>
        if s.sentAll e.2 then s.updTask e.1 (fun t => { t with yielding := false, yieldAt := none })
        else
          (match Tab.get? s.tml.xfers x with
           | some y => if y.paused then s else (s.pauseXfer x).xferRaise y 2
           | none => s)
      | none => s) s

/-! ## Handles at a home -/

/-- The partition check of a home on an event: 0 when bound to the partition, else the reason of R135: unbound, or another
tenant's. -/
def State.evCheck (s : State) (h : Half) (part : Option Nat) : Option Nat :=
  match Tab.get? s.events (evIdx h) with
  | none => some 0
  | some e => if part == some e.part then none else some 1

/-- The partition check of a home on a semaphore. -/
def State.semCheck (s : State) (i : Nat) (part : Option Nat) : Option Nat :=
  let m := s.semOf i
  if !m.bound then some 0 else if part == some m.part then none else some 1

/-- The record that a link transfer with EV_EN makes at its end (R111, R128, R131). The home checks the handle (R135): an unbound or
foreign one is a guilty fault of the transfer's context; at a lost home the submission ends with LINK_LOST (R132). -/
def State.evEnRecord (s : State) (k : Nat) : State :=
  match Tab.get? s.tasks k with
  | none => s
  | some t =>
    let w4 := nth t.words 4 0
    let h : Half := BitVec.ofNat 32 (fld w4 0 32)
    let mode := fld w4 33 2
    let v := nth t.words 5 0
    if !bitOf w4 32 || s.tornDown t.f then s
    else if evNode h == s.node then
      if (s.evCheck h (some t.part)).isSome then s.guiltyTask k 0xB 0
      else s.recordLocal (evIdx h) mode v (some (t.ctx, s.node)) (some t.layer)
    else if s.nodeLive (evNode h) then
      s.send (evNode h) (.record h mode v (some (t.ctx, s.node))) (some t.f) none
        (some { ctx := t.ctx, off := t.off, layer := t.layer, op := t.op })
    else s.endEarlyAt t.f 0xD t.off t.layer t.op

/-- The operation is a registration on an event (R134). -/
def RemoteOp.asks (o : RemoteOp) (h : Half) : Bool := match o.msg with | .waitReg g _ => g == h | _ => false

/-- The home tells that a remote event is ABANDONED (R132): the local waiters whose target is known not to be met fail. Those that wait for the
answer to a registration which has not come, with a lower target than the home knew, are left to that answer. -/
def State.failWaits (s : State) (h : Half) : State :=
  let asked (w : RemoteWait) : Bool := s.remoteOps.any (fun o => match o.msg with | .waitReg g t => g == h && t == w.target | _ => false)
  let ws := (s.remoteWaits.filter (fun w => w.handle == h)).takeWhile (fun w => !asked w)
  let s := { s with remoteWaits := s.remoteWaits.filter (fun w => !ws.contains w) }
  ws.foldl (fun s w => s.endEarly w.f 2) s

/-- Every local waiter on a remote event fails with DEPENDENCY_FAILED (R132, R370). -/
def State.failRemote (s : State) (p : Half → Bool) : State :=
  let ws := s.remoteWaits.filter (fun w => p w.handle)
  let s := { s with remoteWaits := s.remoteWaits.filter (fun w => !p w.handle) }
  ws.foldl (fun s w => s.endEarly w.f 2) s

/-- A transfer has moved its last byte: the record of R111 with EV_EN, then the done. -/
def State.xferComplete (s : State) (x : Nat) : State :=
  match Tab.get? s.tml.xfers x with
  | none => s
  | some y =>
    (s.evEnRecord y.task).xferDone x 0

/-- A transfer that had yielded goes on (R190, R193): the response credits withheld return, and what its credits allow is sent; one
that was completed meanwhile ends. -/
def State.linkResume (s : State) (x p : Nat) : State :=
  match Tab.get? s.tml.xfers x with
  | none => s
  | some y =>
    let s := s.updXfer x (fun y => { y with paused := false, port := p, owed := 0 })
    let s := s.when (y.owed ≠ 0) (fun s => s.send y.dest (.credit y.owed (some x)))
    if y.get && y.segs ≤ y.acked then s.xferComplete x else (s.flushSegs x 64).sendSegs x 64

/-- A transfer is opened (Table 11-6 step 1): OPEN leaves and, for LINK_PUT, the segments its credits allow. -/
def State.linkOpen (s : State) (k p ft : Nat) (t : Task) : State :=
  let dest := t.w 3 / 2 ^ 40 % 16
  let len := t.w 3 % 2 ^ 40
  let x := s.tml.nextXfer
  let y : Xfer := { task := k, dest := dest, port := p, get := t.opcode == 9, ft := ft, epoch := s.rf .SEC_FT ft 0 32 16,
                    segs := (len + 4095) / 4096, len := len }
  let s := { s with tml := { s.tml with nextXfer := (x + 1) % 65536, xfers := Tab.set s.tml.xfers x y } }
  let s := s.updTask k (fun t => { t with xfer := some x, dest := dest })
  (s.send dest (.opens x y.get ft (BitVec.ofNat 64 (t.w 2)) len)).sendSegs x 64

/-- The launch of a link transfer (R342, R363, R365): it ends early where the tenant, the member, the key or the route is
missing. -/
def State.linkStart (s : State) (k p : Nat) : State :=
  match Tab.get? s.tasks k with
  | none => s
  | some t =>
    let dest := t.w 3 / 2 ^ 40 % 16
    let fail (st : Nat) : State :=
      let s := s.endRun (engNo .link p) k
      match t.xfer with
      | some x => ({ s with tml := { s.tml with xfers := Tab.erase s.tml.xfers x } }).endUnlaunched k st
      | none => s.endUnlaunched k st
    match s.tenantOf t.part with
    | none => fail 0xE
    | some ft =>
      if !s.rb .SEC_FT ft 0 dest || !s.rb .SEC_FT ft 0 20 then fail 0xE
      else if s.linkDoomed t p then fail 0xD
      else
        match t.xfer with
        | some x => s.linkResume x p
        | none => s.linkOpen k p ft t

/-! ## Losses (R370, R379, R382) -/

/-- The operations that await the acknowledgement of an unreachable node end (R370); a function's record sets ERR (R136). -/
def State.dropOps (s : State) (n : Nat) : State :=
  let ops := s.remoteOps.filter (fun o => o.dest == n)
  let s := { s with remoteOps := s.remoteOps.filter (fun o => o.dest ≠ n) }
  ops.foldl (fun s o =>
    let s := match o.host with | some n => s.setB .EV_FN_CTL n 0 3 true | none => s
    match o.f with
    | none => s
    | some f =>
      match o.msg with
      | .record _ _ _ _ => (match o.cmd with | some c => s.endEarlyAt f 0xD c.off c.layer c.op | none => s.endEarly f 0xD)
      | .semRel _ _ _ => s.endEarly f 0xD
      | .waitReg _ _ => s.endEarly f 2
      | .semAcq _ _ _ => s.endEarly f 2
      | _ => s) s

/-- The submissions that wait for a semaphore homed on a node. -/
def State.semWaiters (s : State) (n : Nat) : List Nat :=
  (s.flights.filter (fun e => match e.2.wait with
    | some w => (match w.kind with | .sem m _ _ => m == n | _ => false)
    | none => false)).map (fun e => e.1)

/-- What the loss of node `n` does here (Table 11-10). -/
def State.nodeLost (s : State) (n : Nat) : State :=
  let s := s.dropOps n
  let s := s.failRemote (fun h => evNode h == n)
  let s := (s.semWaiters n).foldl (fun s f => s.endEarly f 2) s
  let s := s.dropAcqs (fun a => a.node == n && n ≠ s.node)
  let s := { s with events := Tab.mapV s.events (fun e => { e with proxies := e.proxies.filter (fun w => w.1 ≠ n) }),
                    remoteAcqs := s.remoteAcqs.filter (fun a => a.home ≠ n),
                    remoteHolds := s.remoteHolds.filter (fun h => h.home ≠ n),
                    tml := { s.tml with inb := s.tml.inb.filter (fun y => y.src ≠ n),
                                        nodeKeys := Tab.erase s.tml.nodeKeys n } }
  let xs := (s.tml.xfers.filter (fun e => e.2.dest == n)).map (fun e => e.1)
  xs.foldl (fun s x => s.xferEnd x 0xD) s

/-- The lead by R376 on the live map. -/
def State.chooseLead (s : State) (but : Option Nat) : Option Nat :=
  let live := (List.range 16).filter (fun n => s.nodeUp n && but != some n)
  let pref := s.rf .TML_CFG 0 0 15 4
  if s.rb .TML_CFG 0 0 19 && live.contains pref then some pref else live.head?

/-- A routed transfer that is due on a port its route has left is ready again, for the port that the route takes now (R139, R363). -/
def State.reRouteDue (s : State) : State :=
  s.dropDue (fun d => d.cls == .link && (Tab.get? s.tasks d.task).any (fun t =>
    t.engine == 15 && (match s.route s.node (t.w 3 / 2 ^ 40 % 16) with | some r => r.1 ≠ d.peng | none => false)))

/-- A transfer sends every segment that no REPORT covers again (R367); the frames of it that still wait are taken back first. -/
def State.resendSegs (s : State) (x : Nat) : State :=
  match Tab.get? s.tml.xfers x with
  | none => s
  | some y =>
    let reads := s.reads
    let s := { s.dropSegs x with reads := reads }
    let s := s.bump .TML_XFER 0 0 32 16 (y.out - y.covered)
    let s := s.updXfer x (fun y => { y with sentAt := y.sentAt.map (fun _ => s.ref) })
    (List.range (y.out - y.covered)).foldl (fun s i => s.putSeg x y (y.covered + i)) s

/-- The run of a transfer moves to another port. -/
def State.moveXfer (s : State) (x p : Nat) : State :=
  match Tab.get? s.tml.xfers x with
  | none => s
  | some y =>
    if p == y.port then s
    else
      let r := (Tab.getD s.engs (engNo .link y.port) {}).runs.filter (fun r => r.task == y.task)
      let s := (s.endRun (engNo .link y.port) y.task).updEng (engNo .link p) (fun e => { e with runs := e.runs ++ r })
      s.updXfer x (fun y => { y with port := p })

/-- The transfers after a change of route (R363, R367), once no global stop is in force (R420): one whose node is unreachable, or that names
another port than its route takes now, ends with LINK_LOST; any other one to a destination whose route has changed sends its uncovered
segments again over the current route, one that has yielded when it goes on. -/
def State.reRouteXfers (s : State) : State :=
  if s.gstopped then s
  else
    let moved := s.tml.rerouted
    let s := s.reRouteDue
    let s := (s.tml.xfers.map (fun e => e.1)).foldl (fun s x =>
      match Tab.get? s.tml.xfers x with
      | none => s
      | some y =>
        if !s.reachable y.dest then s.xferEnd x 0xD
        else if y.squashing || !moved.contains y.dest then s
        else if y.paused then
          (s.bump .TML_XFER 0 0 32 16 y.out).updXfer x (fun y => { y with out := 0, sentAt := [] })
        else
          match s.route s.node y.dest with
          | some (p, _) =>
            if p ≠ y.port && (Tab.get? s.tasks y.task).any (fun t => t.engine ≠ 15) then s.xferEnd x 0xD
            else (s.moveXfer x p).resendSegs x
          | none => s) s
    s.setTml (fun m => { m with rerouted := [] })

/-- Nodes with no link up in the live map are lost (R379). -/
def State.mapSettle (s : State) : State :=
  let dead := (List.range 16).filter (fun n => s.nodeUp n && n ≠ s.node && !((List.range 4).any (fun p => s.linkUp n p)))
  let s := dead.foldl (fun s n => s.setB .TML_STAT 0 0 (16 + n) false) s
  let s := s.setB .TML_STAT 0 0 15 ((List.range 16).countP (fun n => s.nodeUp n) < s.fabN)
  let s := s.reroute
  (dead.foldl State.nodeLost s).reRouteXfers

/-- The link of a port of a node goes down in the live map, at both of its ends. -/
def State.linkDown (s : State) (n p : Nat) : State :=
  let m := s.neighbour n p
  (s.setB .TML_LINKMAP 0 0 (4 * n + p) false).setB .TML_LINKMAP 0 0 (4 * m.1 + m.2) false

/-- A settle window for loss notices opens (Table 11-8 step 2). -/
def State.openSettle (s : State) : State :=
  match s.tml.settle with
  | some _ => s
  | none => { s with tml := { s.tml with settle := some (s.ref + 50000) } }

/-- The lead is marked lost (Table 11-8 steps 1 and 2). -/
def State.leadLost (s : State) : State :=
  let s := s.openSettle
  match s.tml.oldLead with
  | some _ => s
  | none => { s with tml := { s.tml with oldLead := some (s.rf .TML_STAT 0 0 6 4) } }

/-- A member that no longer sees its lead opens the takeover (R379). -/
def State.leadCheck (s : State) : State :=
  let l := s.rf .TML_STAT 0 0 6 4
  if s.rb .TML_STAT 0 0 4 && l ≠ s.node && (!s.nodeUp l || !s.reachable l) then s.leadLost else s

/-- A port that the topology uses, on a link that is present (Table 11-1). -/
def State.portUsed (s : State) (p : Nat) : Bool :=
  let topo := s.rf .TML_CFG 0 0 0 2
  (Tab.getD s.engs (engNo .link p) {}).present && ((topo = 1 && p < 2) || (topo = 2 && p < 4))

/-- A port that is down begins to train, where nothing holds it down and its clock runs (R21, R359). -/
def State.trainPort (s : State) (p : Nat) : State :=
  if s.rb .TML_CTL 0 0 (2 + p) || !s.portUsed p || s.portState p ≠ 0 || !s.rb .VXB_DOMAIN_STAT 0 0 (3 + p) then s
  else s.setF .TML_PORT p 0 0 3 1

/-- A frame that waited at a port which has gone down takes the route of now: one of this node's own a new one, one that came through another
port stays x first or y first, as it came (R354). Segments of its transfers this node sends again itself (R367). -/
def State.reWire (s : State) (f : Frame) : State :=
  match f.body with
  | .through p vc _ _ =>
    (match s.hopOn f.dest (vc < 2) with
     | some q => s.txFrame q { f with vc := s.nextVc vc (some p) q }
     | none => s.freeFrame f)
  | _ =>
    if f.cls = 0 || (f.body == .seg && f.cls = 2) then s
    else match s.hopTo f.dest with
      | some (q, x) => s.txFrame q { f with vc := s.nextVc (if x then 0 else 2) none q }
      | none => s

/-- A port goes down for a reason of Table 11-5 (R360): its record and source 14, its keys zeroised, its place in the live
map, and the LOST broadcast of R379. It trains again (R359), unless its clock is lost, it is disabled or the node has left. -/
def State.portDown (s : State) (p reason : Nat) : State :=
  let was := s.portState p
  if was = 0 && reason ≠ 12 then s
  else
    let left := (s.tport p).queue
    let s := (s.portOff p).setF .TML_PORT p 0 10 4 reason
    let s := s.bump .TML_PORT_CNT p 0 32 16 1
    let s := (s.setF .SEC_LINK p 0 0 2 (if reason = 4 then 3 else 0)).setB .SEC_LINK p 0 3 false
    let s := (s.linkRec p reason).raise 14
    let s :=
      if (was = 3 || was = 4) && s.rb .TML_STAT 0 0 4 then
        let s := s.linkDown s.node p
        let s := s.broadcast (.lost s.node (some p) none)
        left.foldl State.reWire s.mapSettle.openSettle.leadCheck
      else left.foldl State.freeFrame s
    if 11 ≤ reason && reason ≤ 13 then s else s.trainPort p

/-- A node key is held with a node. -/
def State.hasNodeKey (s : State) (n : Nat) : Bool := (Tab.get? s.tml.nodeKeys n).isSome

/-- Members of a fabric tenant that are live, as the lead sees them. -/
def State.tenantMembers (s : State) (f : Nat) : List Nat :=
  (List.range 16).filter (fun n => s.rb .SEC_FT f 0 n && s.nodeUp n)

/-- The lead asks for a new session key of a fabric tenant, while at least two members remain (R341). -/
def State.rekeyTenant (s : State) (f : Nat) : State :=
  if s.rb .TML_STAT 0 0 5 && 2 ≤ (s.tenantMembers f).length && !s.sec.keyReqs.contains (.tenant f) then
    { s with sec := { s.sec with keyReqs := s.sec.keyReqs ++ [.tenant f] } }
  else s

/-- The lead rekeys every tenant that names a node (R341, Table 11-8 step 5, Table 11-9 step 5). -/
def State.rekeyFor (s : State) (n : Nat) : State :=
  ((List.range 16).filter (fun f => s.rb .SEC_FT f 0 n)).foldl State.rekeyTenant s

/-- The lead confirms the live map in a LEAD message (R377). -/
def State.sendLead (s : State) : State :=
  let d := s.chooseLead (some s.node)
  let s := (s.setF .TML_STAT 0 0 10 4 (d.getD 0)).setB .TML_STAT 0 0 14 d.isSome
  s.broadcast (.lead (BitVec.ofNat 16 (s.rf .TML_STAT 0 0 16 16)) (s.reg .TML_LINKMAP) d)

/-- This node leaves its fabric: its ports go down for a reason, and it is a member no more (R380, R381); its node ID is 0 (R127). It names no
lead and no deputy, and its time is locked to none until it joins again (R373, Table 11-9). -/
def State.leaveFabric (s : State) (reason : Nat) : State :=
  let s := { s with tml := { s.tml with pos := s.posn } }
  let s := (s.setB .TML_STAT 0 0 4 false).setB .TML_STAT 0 0 5 false
  let s := (List.range 4).foldl (fun s p => if s.portState p = 0 then s else s.portDown p reason) s
  let others := (List.range 16).filter (fun n => n ≠ s.node && s.nodeUp n)
  let s := ((s.setF .TML_STAT 0 0 16 16 0).setReg .TML_LINKMAP 0 0 0).reroute
  let s := (others.foldl State.nodeLost s).setNode 0
  let s := ((s.setF .TML_STAT 0 0 6 4 0).setF .TML_STAT 0 0 10 4 0).setB .TML_STAT 0 0 14 false
  let s := s.setB .TML_TIME_STAT 0 0 0 false
  let m := { s.tml with granted := false, stepped := false, settle := none, oldLead := none, leaveAt := none, slew := 0 }
  { s with tml := { m with goodEx := 0, badEx := 0, joining := [], moved := [], outbox := [], kexMine := [], kexTheirs := [], kexWait := [] } }

/-- A broadcast arrives: it is forwarded once (R374) and acknowledged to its origin (R369); `true` comes back the first time. -/
def State.flooded (s : State) (src seq : Nat) (m : Msg) : Bool × State :=
  if s.tml.seen.contains (src, seq) then (false, s)
  else (true, ((s.sees src seq).flood src seq m).send src (.ack { seq := seq, flood := true }))

/-- A link port is up: the live map shows it, and device source 14 is raised. -/
def State.portUp (s : State) (p : Nat) : State :=
  let s := s.setF .TML_PORT p 0 0 3 3
  let deg := s.rf .TML_PORT p 0 3 4 < 8 || s.rf .TML_PORT p 0 7 2 ≠ 0
  let s := (s.setB .TML_PORT p 0 9 deg).raise 14
  let peer := s.rf .TML_PORT p 0 14 4
  let s := s.updPort p (fun x => { x with credits := List.replicate 12 (s.rf .TML_PORT p 0 21 7) })
  let s := (s.setB .TML_LINKMAP 0 0 (4 * s.posn + p) true).setB .TML_LINKMAP 0 0 (4 * peer + s.rf .TML_PORT p 0 18 2) true
  s.reroute

/-- The end of a planned leave (R381 steps 3 and 4): LEAVE is broadcast and the ports go down with LEFT. -/
def State.finishLeave (s : State) : State := (s.broadcast (.leave s.node)).leaveFabric 13

/-- A planned leave goes on when no transfer is in flight any more (R381). -/
def State.leavePoll (s : State) : State :=
  if s.tml.leaveAt.isSome && s.tml.xfers.isEmpty && s.tml.inb.isEmpty then s.finishLeave else s

/-! ## Handshakes and session keys (R310, R335, R337, R340, R341) -/

/-- A step of a link's handshake leaves: on a port that trains by itself, on one that is up inside the protected link (R337). Its flits, whose
content the spec does not give, are free values (log 147). -/
def State.linkKex (s : State) (p : Nat) (m : KexMsg) : State :=
  let (n, s) := s.someFlits
  let f : Frame := { typ := 1, cls := 1, dest := s.rf .TML_PORT p 0 14 4, src := s.posn, body := .kex m, text := n }
  if s.portState p = 3 then s.txFrame p f else s.emit (.frame p f)

/-- LINK_HELLO goes out with a new ephemeral key (Table 10-10 step 2); while the noise source has failed the handshake stays there (R310). -/
def State.sayHello (s : State) (p : Nat) : State :=
  if s.esFailed || (s.tport p).mine.isSome then s
  else
    let (e, s) := s.newEph
    (s.updPort p (fun x => { x with mine := some e })).linkKex p (e.msg s.chain)

/-- LINK_PROOF goes out once both HELLOs are there (Table 10-10 step 3). -/
def State.sayProof (s : State) (p : Nat) : State :=
  match (s.tport p).mine, (s.tport p).theirs with
  | some e, some h => let (m, s) := s.proof e h; s.linkKex p m
  | _, _ => s

/-- The start of a node-key exchange with a node (R340, R378): a HELLO goes to it, once new keys can be made (R310). -/
def State.startKex (s : State) (n : Nat) : State :=
  if n = s.posn then s
  else if s.esFailed then s.setTml (fun m => { m with kexWait := m.kexWait.filter (fun k => k ≠ n) ++ [n] })
  else
    let (e, s) := s.newEph
    let s := s.setTml (fun m => { m with kexMine := Tab.set m.kexMine n e, kexTheirs := Tab.erase m.kexTheirs n })
    s.send n (.nodeKex (e.msg s.chain))

/-- PROOF of a node-key exchange goes out once both HELLOs are there. -/
def State.nodeProof (s : State) (n : Nat) : State :=
  match Tab.get? s.tml.kexMine n, Tab.get? s.tml.kexTheirs n with
  | some e, some h => let (m, s) := s.proof e h; s.send n (.nodeKex m)
  | _, _ => s

/-- A HELLO of a node that came while no new key could be made, or that opens an exchange, is answered with this end's own and the proof. -/
def State.nodeHello (s : State) (n : Nat) : State :=
  match Tab.get? s.tml.kexMine n with
  | some _ => s.nodeProof n
  | none =>
    let theirs := Tab.get? s.tml.kexTheirs n
    let s := s.startKex n
    if s.esFailed then s
    else
      match theirs with
      | some h => (s.setTml (fun m => { m with kexTheirs := Tab.set m.kexTheirs n h })).nodeProof n
      | none => s

/-- The noise source works again (R310): the handshakes that have waited for it go on. -/
def State.resumeKex (s : State) : State :=
  let s := (List.range 4).foldl (fun s p =>
    if (s.tport p).mine.isNone && (s.portState p = 2 || (s.tport p).rekey) then (s.sayHello p).sayProof p else s) s
  let ns := s.tml.kexWait
  ns.foldl State.nodeHello (s.setTml (fun m => { m with kexWait := [] }))

/-- A request for a new key waits for the noise source (SEC_STAT.KEYGEN_WAIT). -/
def State.keyWaits (s : State) : Bool :=
  s.esFailed && (!s.sec.keyReqs.isEmpty || !s.tml.kexWait.isEmpty
    || (List.range 4).any (fun p => (s.tport p).mine.isNone && (s.portState p = 2 || (s.tport p).rekey)))

/-- A tenant's new epoch is announced (R341, R343): its key, installed before, is the one in use, and the one before it may still be used
for 100 µs. -/
def State.announced (s : State) (f epoch : Nat) : State :=
  if Tab.get? s.sec.nextEpoch f ≠ some epoch then s
  else
    let old := match Tab.get? s.sec.oldKeys f with
      | some o => Tab.set s.sec.oldKeys f (some (s.ref + 100000), o.2)
      | none => s.sec.oldKeys
    let s := s.setSec (fun c => { c with nextEpoch := Tab.erase c.nextEpoch f, oldKeys := old })
    let s := { s with tml := { s.tml with ivs := Tab.erase s.tml.ivs f } }
    (s.when (s.rb .SEC_FT f 0 19) (fun s => s.setB .SEC_FT f 0 20 true)).setF .SEC_FT f 0 32 16 epoch

/-- Once every member has acknowledged a tenant's new key, or is lost, the lead announces the epoch (R341). -/
def State.keyPoll (s : State) : State :=
  let due := s.sec.keyDue.filter (fun d => !s.remoteOps.any (fun o => match o.msg with | .key g _ => g == d.1 | _ => false))
  let s := s.setSec (fun c => { c with keyDue := c.keyDue.filter (fun d => !due.contains d) })
  if !s.rb .TML_STAT 0 0 5 then s
  else due.foldl (fun s d => (s.announced d.1 d.2).broadcast (.epoch (s.reg .TML_EPOCH).toNat { period := s.tml.epochPeriod, key := some d })) s


end Sys2Proof.Machine
end

