-- ==== Sys2Proof/Machine/Place.lean ====
section
/-! DEFINITION. Where a cores task may run: placement orders and eligibility (R174, R175, R189, R222, R247 to R249), the
logical engines (R233), and the instance a real-time task belongs to (R180, R196). -/

namespace Sys2Proof.Machine

/-! ## Logical and physical engines (R233) -/

/-- The number of engines of a class in SCH_ENGMAP's order that the device can have. -/
def clsMax (c : Cls) : Nat :=
  match c with | .tiler => 2 | .dma => 4 | .link => 4 | .comp => 1 | .gate => 1 | .cores => 0

/-- The physical engines of a class that are present, rising. -/
def State.physOf (s : State) (c : Cls) : List Nat :=
  (List.range (clsMax c)).filter (fun p => (Tab.get? s.engs (engNo c p)).any (fun e => e.present))

/-- The physical engine of a logical number. -/
def State.physEng (s : State) (c : Cls) (l : Nat) : Option Nat := (s.physOf c)[l]?

/-- The logical number of a physical engine, if it is present. -/
def State.logEng (s : State) (c : Cls) (p : Nat) : Option Nat :=
  if (s.physOf c).contains p then some ((s.physOf c).filter (fun q => q < p)).length else none

/-- The bit of ENGINES (Table 05-4) of a physical engine. -/
def State.engBit (s : State) (c : Cls) (p : Nat) : Option Nat := (s.logEng c p).map (engNo c)

/-- The engine numbers of State.engs that a slot's ENGINES field names, by logical number. -/
def State.slotEngs (s : State) (d : Slot) : List Nat :=
  (List.range 12).filterMap (fun b =>
    if Nat.testBit d.engines b then (s.physEng (engCls b).1 (engCls b).2).map (engNo (engCls b).1) else none)

/-- ENGINE of a task names this physical engine; a routed link transfer takes the first hop of its route. -/
def State.engineFits (s : State) (t : Task) (c : Cls) (p : Nat) : Bool :=
  if c == .link && t.engine == 15 then
    match s.route s.node (t.w 3 / 2 ^ 40 % 16) with
    | some (q, _) => q == p
    | none => true
  else s.physEng c t.engine == some p

/-! ## Cores and their order -/

/-- The cores that a partition owns and that are present. -/
def State.ownedCores (s : State) (t : Nat) : List Nat :=
  (List.range 48).filter (fun p => (nth s.cores p {}).present && (nth s.cores p {}).owner == some t)

/-- The thermal node of a core by the plinth's node map (R217, Table 15-3). DESIGN CHOICE (log 129): a core that the map names nowhere
has the node of its own number, as the default map gives. -/
def State.nodeOf (s : State) (p : Nat) : Nat := (s.gov.nodes.findIdx? (fun n => n.place == p)).getD p

/-- The 1 ms prediction of a core's node, in 1/16 °C (GOV_MAP). -/
def State.pred (s : State) (p : Nat) : Int := sx16 (s.rf .GOV_MAP (s.nodeOf p / 4) 0 (16 * (s.nodeOf p % 4)) 16)

/-- The rotation delta of the profile in force (Table 06-3); none for Deadline. -/
def State.rotDelta (s : State) : Option Nat :=
  match s.rf .GOV_STAT 0 0 6 2 with | 0 => some 64 | 1 => some 128 | 3 => some 32 | _ => none

/-- Insertion by a key, the earlier of equals first. -/
def insKey (key : Nat → Int) (a : Nat) : List Nat → List Nat
  | [] => [a]
  | b :: r => if key a < key b then a :: b :: r else b :: insKey key a r

/-- A rising list of numbers in the order of a key, equals in rising order. -/
def sortKey (key : Nat → Int) (l : List Nat) : List Nat := l.foldl (fun r a => insKey key a r) []

/-- The placement order of a context over some cores given in rising order, the bands counted from the coolest of the cores `es` that are
eligible (R249). -/
def State.placeOver (s : State) (c : Nat) (es cs : List Nat) : List Nat :=
  let plain := (Tab.get? s.ctxs c).any (fun x => x.det || x.noRotate)
  match s.rotDelta with
  | none => cs
  | some d =>
    if plain then cs
    else
      match es.map s.pred with
      | [] => cs
      | a :: r =>
        let pmin := r.foldl (fun x y => if y < x then y else x) a
        sortKey (fun p => (s.pred p - pmin).fdiv (d : Int)) cs

/-- The placement order of a context over its eligible cores. -/
def State.placement (s : State) (c : Nat) (cs : List Nat) : List Nat := s.placeOver c cs cs

/-! ## Instances -/

/-- The slot lends its reserved resources: LEND, or its context is orphaned (R175, R306). -/
def State.lends (s : State) (x : Inst) : Bool := x.def0.lend || (Tab.get? s.ctxs x.def0.ctx).isNone


/-- The instance on whose cores a real-time task may be placed: the one that admitted it, or the next one that has taken
its cores and has not started (R178, R180). -/
def State.rtInst (s : State) (t : Task) : Option Nat :=
  match t.rt with
  | some i => some i
  | none =>
    if t.rtc then (s.cyc.insts.find? (fun e => e.2.def0.ctx == t.ctx && !e.2.started)).map (·.1) else none

/-- The instances on whose cores a task is placed, if it is real-time or inherits precedence (R196, R248). -/
def State.slotInsts (s : State) (t : Task) : List Nat :=
  if t.rtc || t.rt.isSome then (s.rtInst t).toList
  else (s.cyc.insts.filter (fun e => !e.2.cores.isEmpty && s.inherits t.ctx e.1)).map (·.1)

/-- A core is one that an instance holds (R248). -/
def State.instCore (s : State) (i p : Nat) : Bool := (Tab.get? s.cyc.insts i).any (fun x => x.cores.contains p)

/-! ## Predicted starts (R173) -/

/-- A slot instance that is to start: its slot, definition and table's margin, its predicted start and period number. -/
structure NextSlot where
  slot : Nat
  def0 : Slot
  margin : Nat
  start : Nat
  period : Nat
  deriving DecidableEq, Repr

/-- The start of the current period. -/
def State.cycP0 (s : State) : Nat := (s.reg .CYC_PERIOD_START).toNat

/-- The next time that the lead has sequenced for an epoch, if it lies after `t` (R375). -/
def State.epochAfter (s : State) (t : Nat) : Option Nat :=
  let e := s.reg .TML_EPOCH
  if e = BitVec.allOnes 64 || e.toNat ≤ t then none else some e.toNat

/-- The predicted start of the next period of the running table (R173). -/
def State.nextPeriod (s : State) : Option Nat :=
  s.cyc.table.bind (fun tb => if tb.anchor = 2 then s.epochAfter s.cycP0 else some (s.cycP0 + tb.period))

/-- The predicted moment at which the pending table takes over (R169), where there is one: an edge of its own anchor that nothing
announces is not predicted. -/
def State.pendStart (s : State) : Option Nat :=
  match s.cyc.pending with
  | none => none
  | some p =>
    match p.anchor with
    | 0 => (match s.cyc.pendAt with | some a => some a | none => s.nextPeriod)
    | 1 => if s.cyc.table.any (fun tb => tb.anchor = 1) then s.nextPeriod else none
    | _ => s.epochAfter s.now

/-- The instances of a table's slots in a period. -/
def slotNexts (tb : CycTable) (p0 no : Nat) (p : Nat → Bool) : List NextSlot :=
  (tb.slots.zipIdx.filter (fun e => p e.2)).map (fun e =>
    { slot := e.2, def0 := e.1, margin := tb.margin, start := p0 + e.1.offset, period := no })

/-- The slot instances that are predicted: the rest of the current period, and of the running and of the pending table the next `n`
periods each (R169, R170, R173). -/
def State.upcoming (s : State) (n : Nat) : List NextSlot :=
  let no := s.rf .CYC_PERIOD_NO 0 0 0 64
  let on := s.rb .CYC_CFG 0 0 0
  let before (t : Nat) : Bool := s.pendStart.all (fun u => t < u)
  let starts := match s.cyc.table, s.nextPeriod with
    | some tb, some b => if on then ((List.range n).map (fun k => b + k * tb.period)).filter before else []
    | _, _ => []
  let own := match s.cyc.table with
    | some tb =>
      ((if s.cyc.running then slotNexts tb s.cycP0 no (fun j => !s.cyc.begun.contains j) else [])
        ++ starts.zipIdx.flatMap (fun b => slotNexts tb b.1 (no + 1 + b.2) (fun _ => true))).filter (fun x => before x.start)
    | none => []
  let pend := match s.cyc.pending, s.pendStart with
    | some tb, some u =>
      if on then (List.range n).flatMap (fun k => slotNexts tb (u + k * tb.period) (no + 1 + starts.length + k) (fun _ => true)) else []
    | _, _ => []
  own ++ pend

/-- The earliest of some predicted instances. -/
def earliest (l : List NextSlot) : Option NextSlot :=
  match l with
  | [] => none
  | a :: r => some (r.foldl (fun a b => if b.start < a.start then b else a) a)

/-- The next predicted instance of a slot. -/
def State.nextOf (s : State) (j : Nat) : Option NextSlot := earliest ((s.upcoming 1).filter (fun x => x.slot == j))

/-- CYC_NEXT_START (R173): the earliest predicted start of any slot, all ones when none is due. -/
def State.nextStart (s : State) : Nat := ((earliest (s.upcoming 1)).map (·.start)).getD (2 ^ 64 - 1)

/-- The instance of a slot in a period. -/
def State.instOf (s : State) (j period : Nat) : Option Nat :=
  (s.cyc.insts.find? (fun e => e.2.slot == j && e.2.period == period)).map (·.1)

/-! ## TASK_GRAIN (R189) -/

/-- The clock of cluster `c`, in MHz: while its point changes, the lower of the two (R214). -/
def State.clusterMhz (s : State) (c : Nat) : Nat :=
  let mhz (i : Nat) : Nat := (nth s.gov.vf i (0, 0)).1
  let now := mhz (s.rf .GOV_VF 0 0 (4 * c) 4)
  match Tab.get? s.gov.vfReq c with | some i => min now (mhz i) | none => now

/-- The need of R181: margin in percent, clock in MHz. -/
def needNs (wcet margin mhz : Nat) : Nat :=
  let d := max 1 (mhz * 100)
  1000 + (wcet * 1000 * (100 + margin) + d - 1) / d

/-- WCET_CYCLES of a DISPATCH. -/
def Task.wcet (t : Task) : Nat := if t.opcode = 1 then t.w 22 % 2 ^ 40 else 0

/-- Two slots overlap (R168). -/
def slotOverlaps (a b : Slot) : Bool := a.offset < b.offset + b.length && b.offset < a.offset + a.length

/-- Some slot with cores of partition `p` is predicted to start within `d` ns and has not taken its cores: it counts as reserving
every core that no overlapping instance holds (R189). -/
def State.slotSoon (s : State) (p d : Nat) : Bool :=
  (s.upcoming 2).any (fun x => x.def0.part == p && x.def0.cores ≠ 0 && x.start < s.now + d && (s.instOf x.slot x.period).isNone)

/-- The cores that the slots of a table reserve in a partition: each slot's first ones that no slot before it that overlaps it
reserves. DEDUCED (log 130): by the placement orders as they stand now. -/
def State.tableCores (s : State) (tb : Option CycTable) (p : Nat) : List Nat :=
  let add (l : List (Slot × List Nat)) (d : Slot) : List (Slot × List Nat) :=
    let taken := (l.filter (fun e => slotOverlaps d e.1)).flatMap (·.2)
    l ++ [(d, ((s.placement d.ctx ((s.ownedCores p).filter (fun q => !taken.contains q))).take d.cores))]
  match tb with
  | none => []
  | some tb => ((tb.slots.filter (fun d => d.part == p)).foldl add []).flatMap (·.2)

/-- An instance holds a core. -/
def State.instHeld (s : State) (p : Nat) : Bool := s.cyc.insts.any (fun e => e.2.cores.contains p)

/-- R189 allows a core for a task. -/
def State.grainOk (s : State) (t : Task) (p : Nat) : Bool :=
  if !t.taskGrain then true
  else if s.instHeld p then false
  else if t.wcet = 0 then
    !((s.tableCores s.cyc.table t.part).contains p || (s.tableCores s.cyc.pending t.part).contains p)
  else
    let need := needNs t.wcet ((s.cyc.table.map (·.margin)).getD 0) (s.clusterMhz (p / 12))
    !s.slotSoon t.part need

/-- R189 allows an engine of another class for a task: such a task declares no WCET_CYCLES, so that it goes only to engines that no
slot of the running or pending table reserves. -/
def State.grainEng (s : State) (t : Task) (e : Nat) : Bool :=
  let names (tb : Option CycTable) : Bool := tb.any (fun tb => tb.slots.any (fun d => (s.slotEngs d).contains e))
  !t.taskGrain || !(names s.cyc.table || names s.cyc.pending)

/-! ## Eligibility (R248) -/

/-- A core is eligible for a task: of the instance of a task that is real-time or inherits precedence, else one that no instance that
has started holds without lending it. -/
def State.eligible (s : State) (t : Task) (p : Nat) : Bool :=
  let c := nth s.cores p {}
  c.present && c.owner == some t.part && !c.moving
  && (match s.slotInsts t with
      | [] => !t.rtc && s.grainOk t p && s.cyc.insts.all (fun e => !e.2.cores.contains p || !e.2.started || s.lends e.2)
      | is => is.any (fun i => s.instCore i p) && (t.rtc || !t.taskGrain))

/-- The eligible cores of a task, rising. -/
def State.eligCores (s : State) (t : Task) : List Nat := (List.range 48).filter (s.eligible t)

/-- CORES_MAX of a task; a RENDER has none. -/
def Task.coresMax (t : Task) : Nat := if t.opcode = 1 then t.w 3 / 2 ^ 16 % 256 else 0

/-- The wanted set size (R247, R253, R254). -/
def State.wantedSet (s : State) (t : Task) : Nat :=
  let det := (Tab.get? s.ctxs t.ctx).any (·.det)
  let lim := if t.coresMax = 0 then t.grid else min t.coresMax t.grid
  if det && !t.progress.isEmpty && t.setn ≠ 0 then t.setn
  else
    match (if t.rtc then s.rtInst t else none) with
    | some i => min lim (match Tab.get? s.cyc.insts i with | some x => x.def0.cores | none => 0)
    | none => if det then min lim (s.ownedCores t.part).length else min lim (s.eligCores t).length

/-! ## The order of tasks (R163) -/

/-- The sequence number of a task's submission. -/
def State.taskSeq (s : State) (t : Task) : Nat := match Tab.get? s.flights t.f with | some f => f.seq | none => 0

/-- Task `a` goes before task `b` within one context: age, SQ, sequence number, then the order of issue. -/
def State.older (s : State) (a b : Nat × Task) : Bool :=
  if a.2.readyAt ≠ b.2.readyAt then a.2.readyAt < b.2.readyAt
  else if a.2.sq ≠ b.2.sq then a.2.sq < b.2.sq
  else if s.taskSeq a.2 ≠ s.taskSeq b.2 then s.taskSeq a.2 < s.taskSeq b.2
  else a.1 < b.1

/-- The oldest of some tasks. -/
def State.oldest (s : State) (l : List (Nat × Task)) : Option (Nat × Task) :=
  match l with
  | [] => none
  | a :: r => some (r.foldl (fun a b => if s.older b a then b else a) a)

/-- The context with the lowest VC among some (in rising order), the lower number among equals (R162). -/
def State.lowestVc (s : State) (l : List Nat) : Option Nat :=
  match l with
  | [] => none
  | a :: r => some (r.foldl (fun a b =>
      match Tab.get? s.ctxs a, Tab.get? s.ctxs b with
      | some x, some y => if vcLt y.vc x.vc then b else a
      | _, _ => a) a)

/-- The share contexts, or the background contexts, that satisfy `p`, rising. -/
def State.clsCtxs (s : State) (bg : Bool) (p : Nat → Bool) : List Nat :=
  (s.ctxs.filter (fun e => e.2.background == bg && p e.1)).map (·.1)

/-- A task may be picked at all: nothing tears its submission or its SQ down. -/
def State.launchable (s : State) (t : Task) : Bool :=
  t.phase == .ready && !s.tornDown t.f && (Tab.get? s.sqs t.sq).any (fun q => q.state != .destroying)

/-- The pick of R162 among some tasks that can take the resource: those with slot precedence, then share, then background. -/
def State.pickOf (s : State) (l : List (Nat × Task)) (first : Task → Bool) : Option (Nat × Task) :=
  match s.oldest (l.filter (fun e => first e.2)) with
  | some e => some e
  | none =>
    let rest := l.filter (fun e => !e.2.rtc)
    let has (c : Nat) : Bool := rest.any (fun e => e.2.ctx == c)
    match s.lowestVc (s.clsCtxs false has) with
    | some c => s.oldest (rest.filter (fun e => e.2.ctx == c))
    | none =>
      match s.lowestVc (s.clsCtxs true has) with
      | some c => s.oldest (rest.filter (fun e => e.2.ctx == c))
      | none => none

end Sys2Proof.Machine
end

