-- ==== Sys2Proof/Machine/Cyclic.lean ====
section
/-! DEFINITION. The cyclic table (R167 to R185, R192, R195 to R198): its validation, periods, instances, admission, deadlines
and precedence inheritance. -/

namespace Sys2Proof.Machine

/-! ## Table images (R167, R168) -/

/-- The slot of a table entry (Table 05-4). -/
def parseSlot (e : List Word) : Slot :=
  let q (i : Nat) : Word := nth e i 0
  { offset := fld (q 0) 0 40, length := fld (q 1) 0 40, part := fld (q 2) 0 3, ctx := fld (q 2) 3 10, cores := fld (q 2) 13 6,
    lend := bitOf (q 2) 19, policy := fld (q 2) 20 2, dlEn := bitOf (q 2) 22, engines := fld (q 3) 0 12,
    minMhz := fld (q 3) 32 11, allowUj := fld (q 4) 0 48, dlEvent := BitVec.ofNat 32 (fld (q 5) 0 32) }

/-- A reserved bit of a slot entry is set. -/
def slotRsv (e : List Word) : Bool :=
  let q (i : Nat) : Word := nth e i 0
  fld (q 0) 40 24 ≠ 0 || fld (q 1) 40 24 ≠ 0 || fld (q 2) 23 41 ≠ 0 || fld (q 3) 12 20 ≠ 0 || fld (q 3) 43 21 ≠ 0
  || fld (q 4) 48 16 ≠ 0 || fld (q 5) 32 32 ≠ 0 || q 6 ≠ 0 || q 7 ≠ 0

/-- A reserved bit of a table header is set (Table 05-3). -/
def cycHdrRsv (h : List Word) : Bool :=
  let q (i : Nat) : Word := nth h i 0
  fld (q 0) 42 22 ≠ 0 || fld (q 1) 40 24 ≠ 0 || fld (q 2) 5 59 ≠ 0 || ((h.drop 4).take 4).any (fun w => w ≠ 0)

/-- The entries of an image after its header. -/
def imageEntries : Nat → List Word → List (List Word)
  | 0, _ => []
  | n + 1, l => l.take 8 :: imageEntries n (l.drop 8)

/-- A table whose slots of some partitions reserve nothing (Table 09-7 step 6). -/
def voidSlots (tb : CycTable) (ts : List Nat) : CycTable :=
  { tb with slots := tb.slots.map (fun d => if ts.contains d.part then { d with cores := 0, engines := 0, allowUj := 0 } else d) }

/-- The table of an image. -/
def parseTable (n : Nat) (img : List Word) : CycTable :=
  let q (i : Nat) : Word := nth img i 0
  { period := fld (q 0) 0 40, anchor := fld (q 0) 40 2, vsyncTol := fld (q 1) 0 40, margin := fld (q 2) 0 5,
    startAt := (q 3).toNat, slots := (imageEntries n (img.drop 8)).map parseSlot }


/-- The effective caps in mW (R205, GOV_BUDGET). -/
def State.effCaps (s : State) : Nat × Nat := (s.rf .GOV_BUDGET 0 0 0 16, s.rf .GOV_BUDGET 0 0 16 16)

/-- RT_MAX_PCT as it acts (R206). -/
def State.rtMaxPct (s : State) : Nat := min 100 (s.rf .GOV_CAP_MGMT 0 0 32 7)

/-- The reserve of a table is within RT_MAX_PCT of a sustained cap in mW (R206). -/
def reserveFits (tb : CycTable) (sust pct : Nat) : Bool :=
  (tb.slots.foldl (fun n d => n + d.allowUj) 0) * 1000000000 * 100 ≤ pct * sust * 1000 * tb.period

/-- The instance power of a slot in µW, as a fraction. -/
def slotPower (d : Slot) : Nat × Nat := (d.allowUj * 1000000000, max 1 d.length)

/-- The first slot at which a set of overlapping slots up to it exceeds a peak cap in mW (R168, R206). -/
def peakFault (peak : Nat) : List Slot → List Slot → Nat → Option Nat
  | _, [], _ => none
  | before, d :: rest, i =>
    let sum := (before.filter (fun e => d.offset < e.offset + e.length)).foldl (fun a e => addFrac a (slotPower e)) (addFrac (0, 1) (slotPower d))
    if peak * 1000 * sum.2 < sum.1 then some i else peakFault peak (before ++ [d]) rest (i + 1)

/-- A table passes R206 under caps. -/
def tableFits (tb : CycTable) (sust peak pct : Nat) : Bool :=
  reserveFits tb sust pct && (peakFault peak [] tb.slots 0).isNone

/-- A V/F point is in the plinth's range (Table 05-5, code 7). -/
def State.mhzOk (s : State) (m : Nat) : Bool :=
  match s.gov.vf with
  | [] => false
  | a :: r => (r.foldl (fun x y => min x y.1) a.1) ≤ m && m ≤ (r.foldl (fun x y => max x y.1) a.1)

/-- The first check of Table 05-5 that slot `d`, after the slots `before`, fails. -/
def State.slotFault (s : State) (tb : CycTable) (before : List Slot) (d : Slot) (rsv : Bool) : Option Nat :=
  let ov := before.filter (fun e => slotOverlaps d e)
  if before.any (fun e => d.offset < e.offset) || d.length < 10000 || tb.period < d.offset + d.length then some 2
  else if !(Tab.get? s.ctxs d.ctx).any (fun x => x.part == d.part && !x.background) then some 3
  else if (s.ownedCores d.part).length < (ov.filter (fun e => e.part == d.part)).foldl (fun n e => n + e.cores) d.cores then some 4
  else if (List.range 12).any (fun b => Nat.testBit d.engines b
      && ((s.physEng (engCls b).1 (engCls b).2).isNone || ov.any (fun e => Nat.testBit e.engines b))) then some 5
  else if ov.any (fun e => e.ctx == d.ctx) then some 6
  else if (if d.cores = 0 then d.minMhz ≠ 0 else !s.mhzOk d.minMhz) then some 7
  else if d.dlEn && (evNode d.dlEvent ≠ s.node || !evWellFormed d.dlEvent
      || !(Tab.get? s.events (evIdx d.dlEvent)).any (fun e => e.part == d.part)) then some 9
  else if rsv || d.policy == 3 then some 11
  else none

/-- The first failing slot, with its code. -/
def State.slotsFault (s : State) (tb : CycTable) : List Slot → List (Slot × Bool) → Nat → Option (Nat × Nat)
  | _, [], _ => none
  | before, (d, r) :: rest, i =>
    match s.slotFault tb before d r with
    | some c => some (c, i)
    | none => s.slotsFault tb (before ++ [d]) rest (i + 1)

/-- The first failure of a table whose header and entries carry the given reserved-bit findings (R168): code and slot. -/
def State.tableFault (s : State) (n : Nat) (tb : CycTable) (hdrRsv : Bool) (rsv : List Bool) : Option (Nat × Nat) :=
  if n = 0 || 256 < n || tb.period < 100000 || 1000000000 < tb.period || tb.anchor == 3 || tb.period < tb.vsyncTol
      || 25 < tb.margin then some (1, 256)
  else if tb.anchor == 2 && !s.rb .TML_STAT 0 0 4 then some (10, 256)
  else if hdrRsv then some (11, 256)
  else
    match s.slotsFault tb [] (tb.slots.zip rsv) 0 with
    | some f => some f
    | none =>
      if !reserveFits tb s.effCaps.1 s.rtMaxPct then some (8, 256)
      else (peakFault s.effCaps.2 [] tb.slots 0).map (fun i => (8, i))

/-! ## Acceptance and periods (R169 to R173) -/

/-- A change of the cyclic table's own state. -/
def State.setCyc (s : State) (f : Cyc → Cyc) : State := { s with cyc := f s.cyc }


/-- The first time of a grid at or after a moment. -/
def gridFrom (start period t : Nat) : Nat :=
  if t ≤ start then start else start + (t - start + period - 1) / max 1 period * period

/-- A table that has been accepted is pending (R169). -/
def State.acceptTable (s : State) (tb : CycTable) : State :=
  let a : Option Nat :=
    if tb.anchor ≠ 0 then none
    else if tb.startAt ≠ 0 then some (gridFrom tb.startAt tb.period s.now)
    else if s.cyc.table.isSome then none else some s.now
  s.setCyc (fun c => { c with pending := some tb, pendAt := a })

/-- A rejection of SET_CYCLIC (R168). -/
def State.rejectTable (s : State) (code slot : Nat) : State :=
  ((s.setB .CYC_STAT 0 0 3 true).setF .CYC_STAT 0 0 8 8 code).setF .CYC_STAT 0 0 16 9 slot

/-- The cores that an instance holds are given up; a later instance that has taken them holds them now. -/
def State.relCores (s : State) (i : Nat) : State :=
  let next (p : Nat) : Option Nat := (s.cyc.insts.find? (fun e => e.1 ≠ i && e.2.cores.contains p)).map (·.1)
  let s := s.updInst i (fun x => { x with cores := [] })
  { s with cores := (s.cores.zipIdx).map (fun c => if c.1.reserved == some i then { c.1 with reserved := next c.2 } else c.1),
           engs := Tab.mapV s.engs (fun e => if e.reservedFor == some i then { e with reservedFor := none } else e) }

/-- An instance is over. -/
def State.dropInst (s : State) (i : Nat) : State :=
  let s := s.setCyc (fun c => { c with insts := Tab.erase c.insts i })
  s.relCores i

/-- The preloads of tasks that satisfy `p` and have launched nowhere are discarded (R245). -/
def State.discardAll (s : State) (p : Task → Bool) : State :=
  ((s.tasks.filter (fun e => (e.2.phase == .gathering || e.2.phase == .preloaded) && e.2.cls == .cores && p e.2)).map (·.1)).foldl
    State.discard s

/-- The real-time standing of the waiting tasks after the set of slot contexts has changed (R170, R180): a preload made under the
other standing is discarded. -/
def State.reclass (s : State) : State :=
  let now (t : Task) : Bool := t.wcet ≠ 0 && s.isSlotCtx t.ctx
  let changes (t : Task) : Bool := !(t.rt.isSome || t.launchedEver || t.lostRt) && t.rtc != now t
  let s := s.discardAll changes
  { s with tasks := Tab.mapV s.tasks (fun t => if changes t then { t with rtc := now t } else t) }

/-- The slots of the old period that have not started are not started, and preloads made for them are discarded; instances already
taken for the new period stay where the table that runs it has their slot. -/
def State.dropUnstarted (s : State) (on : Bool) : State :=
  let stays (x : Inst) : Bool := on && x.period == s.rf .CYC_PERIOD_NO 0 0 0 64 && s.slots[x.slot]? == some x.def0
  let gone := s.cyc.insts.filter (fun e => !e.2.started && !s.cyc.deferredActs.any (fun d => !d.2.1 && d.2.2 == e.1) && !stays e.2)
  let s := s.discardAll (fun t => t.rtWaiting && gone.any (fun e => e.2.def0.ctx == t.ctx))
  (gone.map (·.1)).foldl State.dropInst s

/-- A period ends and the next begins at a moment; a pending table whose anchor this is takes over (R169 to R172), and ends a
free run and wakes the processor (R230). EN is taken here (R170). DEDUCED (log 17): while it is 0 the periods go on and no
slot of theirs starts. -/
def State.periodBegin (s : State) (start : Nat) (takePending : Bool) : State :=
  let on := s.rb .CYC_CFG 0 0 0
  let fresh := takePending && s.cyc.pending.isSome
  let no := if s.cyc.periods = 0 then 0 else s.rf .CYC_PERIOD_NO 0 0 0 64 + 1
  let s := s.setCyc (fun c => { c with
    table := if fresh then c.pending else c.table.map (fun tb => voidSlots tb c.voids), voids := [],
    pending := if fresh then none else c.pending,
    pendAt := if fresh then none else c.pendAt,
    running := on, begun := [], preloaded := [], periods := c.periods + 1 })
  let s := (s.setReg .CYC_PERIOD_NO 0 0 (BitVec.ofNat 64 no)).setReg .CYC_PERIOD_START 0 0 (BitVec.ofNat 64 start)
  let s := (s.when fresh (fun s => (s.setB .CYC_STAT 0 0 2 false).wake)).dropUnstarted on
  let margin := (s.cyc.table.map (·.margin)).getD 0
  let s := s.setCyc (fun c => { c with insts := Tab.mapV c.insts (fun x =>
    if x.started || x.period ≠ no then x else { x with start := start + x.def0.offset, margin := margin }) })
  s.reclass

/-- The pending table takes over at whatever period start of the running table comes next (R169). -/
def State.pendNext (s : State) : Bool := s.cyc.pending.any (fun p => p.anchor = 0 && p.startAt = 0)

/-- The moment at which a fixed period starts next, and whether the pending table takes over there (R169, R171, R172). -/
def State.fixedDue (s : State) : Option (Nat × Bool) :=
  let own : Option (Nat × Bool) := match s.cyc.table with
    | some tb =>
      if tb.anchor = 0 || (tb.anchor = 1 && s.rb .CYC_STAT 0 0 2) then some (s.cycP0 + tb.period, s.pendNext) else none
    | none => none
  match s.cyc.pendAt, own with
  | some a, some (b, k) => if a ≤ b then some (a, true) else some (b, k)
  | some a, none => some (a, true)
  | none, o => o

/-- The tolerance of the vsync anchor (Table 05-3). -/
def cycTol (tb : CycTable) : Nat := if tb.vsyncTol = 0 then tb.period / 4 else tb.vsyncTol

/-- An accepted edge of discrete input 0 at the vsync anchor (R171, R172). -/
def State.vsyncEdge (s : State) : State :=
  let pend := s.cyc.pending.any (fun p => p.anchor = 1)
  let own := s.cyc.table.any (fun p => p.anchor = 1)
  if pend || own then (s.setB .CYC_STAT 0 0 2 false).periodBegin s.now (pend || s.pendNext) else s

/-- A start that the lead sequences, at the epoch anchor (R171, R375). -/
def State.epochEdge (s : State) (start : Nat) : State :=
  let pend := s.cyc.pending.any (fun p => p.anchor = 2)
  let own := s.cyc.table.any (fun p => p.anchor = 2)
  if pend || own then s.periodBegin start (pend || s.pendNext) else s

/-- A write of CYC_CFG.EN, which the next period start takes (R170). -/
def State.setCycEn (s : State) (on : Bool) : State := s.setB .CYC_CFG 0 0 0 on

/-! ## Instances (R173 to R179) -/


/-- The cores an instance takes (R248): the first of its partition in the placement order of its context that no overlapping
instance holds. -/
def State.pickCores (s : State) (d : Slot) (start : Nat) : List Nat :=
  let freeFor (p : Nat) : Bool := !(s.cyc.insts.any (fun e => e.2.cores.contains p
      && start < e.2.start + e.2.def0.length && e.2.start < start + d.length && !e.2.deadlinePassed))
  let cs := (s.ownedCores d.part).filter (fun p => freeFor p && !(nth s.cores p {}).moving)
  (s.placement d.ctx cs).take d.cores

/-- An instance comes into being and takes its cores. -/
def State.newInst (s : State) (j : Nat) (d : Slot) (margin period start : Nat) : Nat × State :=
  let i := s.cyc.nextInst
  let cs := s.pickCores d start
  let x : Inst := { slot := j, def0 := d, margin := margin, period := period, start := start, cores := cs }
  let s := s.setCyc (fun c => { c with insts := Tab.set c.insts i x, nextInst := i + 1 })
  (i, cs.foldl (fun s p => s.updCore p (fun c => if c.reserved.isNone then { c with reserved := some i } else c)) s)

/-- The preloads in the banks of an instance's cores that satisfy `p` are discarded. -/
def State.clearWhere (s : State) (i : Nat) (p : Task → Bool) : State :=
  match Tab.get? s.cyc.insts i with
  | none => s
  | some x =>
    ((x.cores.filterMap (fun c => (nth s.cores c {}).bank)).filter (fun k => (Tab.get? s.tasks k).any p)).foldl State.discard s

/-- At a start, and where inheritance begins, the preloads on an instance's cores of tasks without its precedence are discarded
(R164, R174, R179): those of its own context that are not real-time stay where it lends its cores. -/
def State.clearBanks (s : State) (i : Nat) : State :=
  match Tab.get? s.cyc.insts i with
  | none => s
  | some x => s.clearWhere i (fun t => !s.precedes t i && !(t.ctx == x.def0.ctx && (t.rtWaiting || s.lends x)))

/-- An instance takes cores 20 µs before its predicted start; share and background preloads on them are discarded (R178, R248). -/
def State.slotPreload (s : State) (j : Nat) : State :=
  match s.nextOf j with
  | none => s
  | some x =>
    if s.now + 20000 < x.start || (s.instOf j x.period).isSome then s
    else
      let (i, s) := s.newInst j x.def0 x.margin x.period x.start
      s.clearWhere i (fun t => (s.slotInsts t).isEmpty)

/-! ## Precedence inheritance (R195, R196) -/

/-- The semaphore on which a submission is parked by SEM_ACQUIRE: home and index. -/
def Flight.onSem (x : Flight) : Option (Nat × Nat) :=
  x.wait.bind (fun w => match w.kind with | .sem n i k => if k = 0 then none else some (n, i) | _ => none)

/-- The contexts of this node other than `c` that hold a semaphore. DEDUCED (log 131): of a remote home, by what this node has seen
granted and released there. -/
def State.holdersHere (s : State) (c home i : Nat) : List Nat :=
  if home = s.node then ((s.semOf i).holders.filter (fun h => h.node == s.node && h.ctx ≠ c)).map (·.ctx)
  else (s.remoteHolds.filter (fun h => h.home == home && h.index == i && h.ctx ≠ c)).map (·.ctx)

/-- A task that has launched nowhere, or has yielded, wants a resource that an instance reserves. -/
def State.wantsOf (s : State) (x : Inst) (t : Task) : Bool :=
  (t.phase == .ready || t.phase == .gathering || t.phase == .preloaded) && !t.rtWaiting
  && (if t.cls == .cores then t.part == x.def0.part && x.def0.cores ≠ 0
      else (s.slotEngs x.def0).any (fun e => (engCls e).1 == t.cls && s.engineFits t t.cls (engCls e).2))

/-- The tasks that run on the resources an instance reserves. -/
def State.onReserved (s : State) (x : Inst) : List Nat :=
  x.cores.filterMap (fun p => (nth s.cores p {}).run.map (·.task))
  ++ (s.slotEngs x.def0).flatMap (fun e => (Tab.getD s.engs e {}).runs.map (·.task))

/-- A context of this node needs the precedence of an instance for a task that waits (R195); at the instance's start (`atStart`) also for
one that runs on its resources and would have to yield. -/
def State.needsOf (s : State) (x : Inst) (atStart : Bool) (h : Nat) : Bool :=
  s.tasks.any (fun e => e.2.ctx == h && (s.wantsOf x e.2 || (atStart && (s.onReserved x).contains e.1)))

/-- The wait-for edges of R195 from a submission of an instance's context. -/
def State.edgesOf (s : State) (x : Inst) (atStart : Bool) (f : Nat) (y : Flight) : List Edge :=
  match y.onSem with
  | some (n, i) => ((s.holdersHere y.ctx n i).filter (s.needsOf x atStart)).map (fun h => { holder := h, home := n, index := i, f := f })
  | none => []

/-- Edges are added to an instance: the tasks of their holders that run on its resources go on with its precedence (R195). -/
def State.addEdges (s : State) (i : Nat) (es : List Edge) : State :=
  match Tab.get? s.cyc.insts i with
  | none => s
  | some x =>
    let es := es.filter (fun e => !x.edges.contains e)
    let s := s.updInst i (fun x => { x with edges := x.edges ++ es })
    ((s.onReserved x).filter (fun k => (Tab.get? s.tasks k).any (fun t => es.any (fun e => e.holder == t.ctx)))).foldl
      (fun s k => s.beginHeir k i) s

/-- Inheritance begins at an instance start where the edge is already there (R195). -/
def State.inheritAtStart (s : State) (i : Nat) : State :=
  match Tab.get? s.cyc.insts i with
  | none => s
  | some x => s.addEdges i ((s.flightsOf x.def0.ctx).flatMap (fun e => s.edgesOf x true e.1 e.2))

/-- A task on a reserved resource has to leave it: it is another context's without the instance's precedence, or another instance's. -/
def State.foreign (s : State) (i : Nat) (x : Inst) (k : Nat) : Bool :=
  match Tab.get? s.tasks k with
  | some t => (t.ctx ≠ x.def0.ctx && !s.precedes t i) || (t.rt.isSome && t.rt != some i)
  | none => false

/-- A staged COMPOSE of another context is withdrawn (R109): the yield is answered by the done that makes it ready again
(R38). -/
def State.withdrawComp (s : State) (i : Nat) (x : Inst) : State :=
  if !Nat.testBit x.def0.engines 6 then s
  else
    let staged := (Tab.getD s.engs 6 {}).runs.filter (fun r => s.foreign i x r.task
      && (Tab.get? s.tasks r.task).any (fun t => t.latchAt.isNone && !t.yielding))
    staged.foldl (fun s r =>
      (s.updTask r.task (fun t => { t with yielding := true })).emit (.ctl .comp 0 .yield r.tag)) s

/-- A drain that goes on on a reserved resource is cut short (R192): the sequence counts as having reached its limit, also one that still
waits for its entry (R270), and its work there is squashed. -/
def State.cutDrains (s : State) (x : Inst) : State :=
  let ks := s.onReserved x
  ks.foldl (fun s k =>
    match Tab.get? s.tasks k with
    | none => s
    | some t =>
      let hit (d : Td) : Bool := !d.merged && s.tdTask d t
      let add (d : Td) : Nat := match d.kind with | .autotomy => 64 | .destroySq => 64 | _ => t.fn
      let s1 := { s with td := s.td.map (fun d =>
        if hit d && !d.cut.contains (add d) then { d with cut := d.cut ++ [add d] } else d) }
      (s.td.filter hit).foldl (fun s d => s.squashScope d (if add d = 64 then none else some t.fn)) s1) s

/-! ## Admission (R181, R182) -/

/-- The counters of a slot. -/
def State.slotCnt (s : State) (j : Nat) : SlotCnt := Tab.getD s.cyc.cnts j {}

/-- A change of a slot's counters. -/
def State.updCnt (s : State) (j : Nat) (f : SlotCnt → SlotCnt) : State :=
  s.setCyc (fun c => { c with cnts := Tab.set c.cnts j (f (s.slotCnt j)) })

/-- A task is considered for admission by an instance. -/
def State.consider (s : State) (i k : Nat) : State :=
  match Tab.get? s.cyc.insts i, Tab.get? s.tasks k with
  | some x, some t =>
    let d := x.def0
    let s := s.when (!t.held.all x.cores.contains) (fun s => s.discard k)
    let need := needNs t.wcet x.margin d.minMhz
    if d.cores = 0 || d.length < 20000 + need then
      let s := (s.discard k).updTask k (fun t => { t with rtc := false, lostRt := true, deferred := none })
      (s.updCnt x.slot (fun c => { c with rejected := satAdd 0xFFFFFFFF c.rejected 1 })).raise 12
    else
      let b := max x.committed s.now
      if b + need ≤ x.start + d.length then
        let s := s.updInst i (fun x => { x with committed := b + need })
        let s := s.updTask k (fun t => { t with rt := some i, deferred := none })
        t.held.foldl State.coreDue s
      else
        let s := (s.discard k).updTask k (fun t => { t with deferred := some i })
        s.updCnt x.slot (fun c => { c with deferred := satAdd 0xFFFFFFFF c.deferred 1 })
  | _, _ => s

/-- Insertion of a task by R163. -/
def State.insOlder (s : State) (a : Nat × Task) : List (Nat × Task) → List (Nat × Task)
  | [] => [a]
  | b :: r => if s.older a b then a :: b :: r else b :: s.insOlder a r

/-- The waiting real-time tasks of a context in the order of R163. -/
def State.rtWaiters (s : State) (c : Nat) : List Nat :=
  ((s.tasks.filter (fun e => e.2.ctx == c && e.2.rtWaiting && !s.tornDown e.2.f)).foldl
    (fun l e => s.insOlder e l) []).map (·.1)

/-- A real-time task that has just become ready is considered by the current instance of its slot (R181). -/
def State.considerNew (s : State) (k : Nat) : State :=
  match Tab.get? s.tasks k with
  | none => s
  | some t =>
    if !t.rtWaiting then s
    else
      match s.cyc.insts.find? (fun e => e.2.def0.ctx == t.ctx && e.2.live) with
      | some e => s.consider e.1 k
      | none => s

/-! ## Starts and deadlines (R179, R183, R184) -/

/-- The SLOT record of Table 13-5. -/
def State.slotRec (s : State) (x : Inst) (dl : Bool) : State :=
  s.traceDev 0x10 (packFields [(0, 8, x.slot), (8, 2, if dl then x.outcome else 0), (10, 1, b2n dl), (32, 32, x.period)])

/-- An instance starts (R179): yields, discards, drains cut short, then admission (R181); a start before LL0 is counted
(R229). -/
def State.instStart (s : State) (i : Nat) : State :=
  match Tab.get? s.cyc.insts i with
  | none => s
  | some x0 =>
    let x := { x0 with started := true, committed := x0.start + 20000 }
    let s := s.updInst i (fun _ => x)
    let s := s.when (s.gov.rung ≠ 0 || s.gov.exiting || s.gov.entering.isSome) (fun s => s.bump .GOV_RUNG 0 0 16 32 1)
    let s := s.setCyc (fun c => { c with insts := Tab.mapV c.insts (fun y =>
      if y.deadlinePassed then { y with cores := y.cores.filter (fun p => !x.cores.contains p) } else y) })
    let s := x.cores.foldl (fun s p => s.updCore p (fun c => { c with reserved := some i })) s
    let s := (s.slotEngs x.def0).foldl (fun s e => s.updEng e (fun y => { y with reservedFor := some i })) s
    let s := s.inheritAtStart i
    let s := s.clearBanks i
    let s := s.dropDue (fun d => d.cls != .cores && (s.slotEngs x.def0).contains (engNo d.cls d.peng) && s.foreign i x d.task)
    let s := s.withdrawComp i x
    let s := s.cutDrains x
    let s := ((s.onReserved x).filter (s.foreign i x)).foldl State.yieldTask s
    let s := (s.rtWaiters x.def0.ctx).foldl (fun s k => s.consider i k) s
    s.slotRec x false

/-- DL_EVENT is recorded (R184). -/
def State.dlRecord (s : State) (i : Nat) : State :=
  match Tab.get? s.cyc.insts i with
  | none => s
  | some x =>
    let h := x.def0.dlEvent
    let s := s.updInst i (fun x => { x with recordDue := false })
    if evNode h == s.node && (Tab.get? s.events (evIdx h)).any (fun e => e.part == x.def0.part) then
      s.recordLocal (evIdx h) 0 (BitVec.ofNat 64 (x.period * 4 + x.outcome)) none
    else s

/-- The tasks that an instance has admitted and that are not over. -/
def State.rtTasks (s : State) (i : Nat) : List (Nat × Task) := s.tasks.filter (fun e => e.2.rt == some i)

/-- An instance reaches its deadline (R183, R184, Table 05-6). DESIGN CHOICE (log 169): a deferred task's submission ends with SKIPPED, as
Table 05-6 says, also where it has launched other engine work, though Table 04-8 has SKIPPED for one that has launched none. -/
def State.instDeadline (s : State) (i : Nat) : State :=
  match Tab.get? s.cyc.insts i with
  | none => s
  | some x =>
    let d := x.def0
    let run := (s.rtTasks i).filter (fun e => e.2.phase == .running)
    let ran := x.wasRunning || !run.isEmpty
    let late := (s.rtTasks i).filter (fun e => !e.2.launchedEver)
    let defd := late ++ s.tasks.filter (fun e => e.2.deferred == some i && e.2.rtWaiting)
    let outcome := if d.policy = 2 && (ran || !defd.isEmpty) then 3
      else if (d.policy = 1 && ran) || !defd.isEmpty then 2
      else if ran then 1 else 0
    let s := s.updInst i (fun x => { x with deadlinePassed := true, outcome := outcome, recordDue := d.dlEn, edges := [] })
    let s := late.foldl (fun s e => (s.discard e.1).updTask e.1 (fun t => { t with rt := none })) s
    let s :=
      if d.policy = 2 then
        let s := defd.foldl (fun s e => (s.endEarlyAt e.2.f 1 e.2.off e.2.layer e.2.op).taskGone e.1 1) s
        run.foldl (fun s e => (s.updTask e.1 (fun t => { t with early := some 0xC })).squashTask e.1) s
      else if d.policy = 1 then run.foldl (fun s e => s.yieldTask e.1) s
      else s
    let s := { s with engs := Tab.mapV s.engs (fun e => if e.reservedFor == some i then { e with reservedFor := none } else e) }
    let s := if d.policy = 0 && !run.isEmpty then s else s.relCores i
    let s := s.updCnt x.slot (fun c => { c with out := modAt c.out outcome (fun n => satAdd 65535 n 1) })
    let s := s.slotRec { x with outcome := outcome } true
    if d.dlEn && !(d.policy = 2 && !run.isEmpty) then s.dlRecord i else s

/-- A task has run with precedence inherited from an instance in its open segment, whose energy the instance still counts (R177, R198). -/
def State.heirsOf (s : State) (i : Nat) : Bool := s.tasks.any (fun e => e.2.inherits.any (fun h => h.inst == i))

/-- An instance whose deadline has passed and whose tasks are over is done: its record under the abandon policy, its cores, and, once no
segment that inherited from it is open, its energy (R177, R184). -/
def State.instDone (s : State) (i : Nat) : State :=
  match Tab.get? s.cyc.insts i with
  | none => s
  | some x =>
    let s := s.when x.recordDue (fun s => s.dlRecord i)
    if s.heirsOf i then s.relCores i
    else
    let uj := x.usedNj / 1000
    let s := s.updCnt x.slot (fun c => { c with
      lastUj := min 0xFFFFFFFF uj, overCnt := if x.def0.allowUj * 1000 < x.usedNj then satAdd 0xFFFFFFFF c.overCnt 1 else c.overCnt })
    s.dropInst i

/-- Inheritance ends where its waiter no longer waits (R196), and a task that ran with it has the rest of its segment for its own
context. -/
def State.edgePoll (s : State) : State :=
  let s := s.dropEdges (fun e => ((Tab.get? s.flights e.f).bind Flight.onSem) != some (e.home, e.index))
  { s with tasks := Tab.mapV s.tasks (fun (t : Task) =>
      { t with inherits := t.inherits.map (fun (h : Heir) =>
          if h.till.isNone && !s.inherits t.ctx h.inst then { h with till := some s.ref } else h) }) }

/-- The cores on which a cores task is to launch: those of its ranks that have not, those that it holds while it gathers, and those that
it would take next. -/
def State.coreClaims (s : State) (t : Task) : List Nat :=
  let next (n : Nat) : List Nat :=
    ((s.placement t.ctx (s.eligCores t)).filter (fun p => (nth s.cores p {}).bank.isNone && !t.held.contains p)).take n
  match t.phase with
  | .ready => next (s.wantedSet t)
  | .gathering => t.held ++ next (t.wanted - t.held.length)
  | _ => (t.ranks.filter (fun r => !r.launched && !r.released)).map (fun r => r.core)

/-- The slot context has work for a reserved core (R175): an admitted task is to launch on it. -/
def State.coreWork (s : State) (i : Nat) (x : Inst) (p : Nat) : Bool :=
  s.tasks.any (fun e => e.2.ctx == x.def0.ctx && e.2.cls == .cores && e.2.rt == some i && !s.draining e.2
    && (s.coreClaims e.2).contains p)

/-- The slot context has work for a reserved engine of another class (R175). -/
def State.engWork (s : State) (x : Inst) (n : Nat) : Bool :=
  s.tasks.any (fun e => e.2.ctx == x.def0.ctx && (e.2.phase == .ready || e.2.phase == .gathering || e.2.phase == .preloaded)
    && (engCls n).1 == e.2.cls && s.engineFits e.2 e.2.cls (engCls n).2 && !s.draining e.2)

/-- The tasks that have to leave the resources of an instance: while it is active, other contexts' work, on a resource that it lends
only where the slot context has work for it (R175); and work whose inheritance from it is over (R196). -/
def State.leaving (s : State) (i : Nat) (x : Inst) : List Nat :=
  let late (k : Nat) : Bool := (Tab.get? s.tasks k).any (fun t => t.inherits.any (fun h => h.inst == i) && !t.heirOpen)
  let out (work : Bool) (k : Nat) : Bool := late k || (x.live && s.foreign i x k && (!s.lends x || work))
  x.cores.flatMap (fun p => ((nth s.cores p {}).run.toList.map (·.task)).filter (out (s.coreWork i x p)))
  ++ (s.slotEngs x.def0).flatMap (fun e =>
    if x.live then ((Tab.getD s.engs e {}).runs.map (·.task)).filter (out (s.engWork x e)) else [])

/-- What follows of itself for the instances: inheritance whose waiter is gone ends, tasks carried past a deadline become share tasks,
finished instances end, and work that has to leave reserved resources yields (R175, R183, R196). -/
def State.cycPoll (s : State) : State :=
  let s := s.edgePoll
  let past (i : Nat) : Bool := match Tab.get? s.cyc.insts i with | some x => x.deadlinePassed | none => true
  let s : State := { s with tasks := Tab.mapV s.tasks (fun (t : Task) =>
    if t.rt.any past && t.phase == .ready then { t with rt := none, rtc := false, lostRt := true } else t) }
  let s := ((s.cyc.insts.filter (fun e => e.2.deadlinePassed && (s.rtTasks e.1).isEmpty)).map (·.1)).foldl State.instDone s
  (s.cyc.insts.filter (fun e => e.2.started)).foldl (fun s e => (s.leaving e.1 e.2).foldl State.yieldTask s) s

/-- The starts and deadlines that fell due while the front end was halted are performed in the order of their times (R279,
R423). -/
def State.doDeferred (s : State) : State :=
  let l := s.cyc.deferredActs
  let s := s.setCyc (fun c => { c with deferredActs := [] })
  let ins (a : Nat × Bool × Nat) (r : List (Nat × Bool × Nat)) : List (Nat × Bool × Nat) :=
    r.takeWhile (fun b => b.1 ≤ a.1) ++ [a] ++ r.dropWhile (fun b => b.1 ≤ a.1)
  (l.foldl (fun r a => ins a r) []).foldl (fun s a => if a.2.1 then s.instDeadline a.2.2 else s.instStart a.2.2) s

/-- The front end is halted, so that starts and deadlines wait (R279, R423). -/
def State.cycHeld (s : State) : Bool := s.regrowing || s.sstopped

/-- The instance of a slot in the period that runs, which counts as begun; one that has taken no cores yet takes them now. -/
def State.takeSlot (s : State) (j : Nat) (d : Slot) : Nat × State :=
  let no := s.rf .CYC_PERIOD_NO 0 0 0 64
  let m := match s.cyc.table with | some tb => tb.margin | none => 0
  let s : State := s.setCyc (fun c => { c with begun := c.begun ++ [j] })
  match s.instOf j no with
  | some i => (i, s)
  | none => s.newInst j d m no (s.cycP0 + d.offset)

/-- A start or a deadline that waits until the front end can carry it out. -/
def State.deferAct (s : State) (at0 : Nat) (deadline : Bool) (i : Nat) : State :=
  s.setCyc (fun c => { c with deferredActs := c.deferredActs ++ [(at0, deadline, i)] })

/-- An instance's deadline comes, or is deferred. -/
def State.slotDeadline (s : State) (i : Nat) : State :=
  match Tab.get? s.cyc.insts i with
  | none => s
  | some x =>
    let dl := x.start + x.def0.length
    let waits := s.cyc.deferredActs.any (fun a => a.2.2 == i)
    if s.now < dl || x.deadlinePassed || (!x.started && !waits) then s
    else if s.cycHeld then
      if s.cyc.deferredActs.any (fun a => a.2.1 && a.2.2 == i) then s else s.deferAct dl true i
    else s.instDeadline i

/-- A slot's instance starts at this moment (R179), or is deferred, after the deadlines that come no later. -/
def State.slotStart (s : State) (j : Nat) : State :=
  match s.slots[j]? with
  | none => s
  | some d =>
    let start := s.cycP0 + d.offset
    if !s.cyc.running || s.cyc.begun.contains j || s.now < start then s
    else
      let due := s.cyc.insts.filter (fun e => e.2.start + e.2.def0.length ≤ start)
      let r := ((due.map (·.1)).foldl State.slotDeadline s).takeSlot j d
      if s.cycHeld then r.2.deferAct start false r.1 else r.2.instStart r.1

/-- A slot whose start, and perhaps whose deadline, lies before the declaration of a free-running period (R172). -/
def State.pastSlot (s : State) (j : Nat) : State :=
  match s.slots[j]? with
  | none => s
  | some d =>
    let start := s.cycP0 + d.offset
    if !s.cyc.running || s.cyc.begun.contains j || s.now < start then s
    else
      let r := s.takeSlot j d
      let s := r.2.deferAct start false r.1
      s.when (start + d.length ≤ s.now) (fun s => s.deferAct (start + d.length) true r.1)

/-- No accepted edge has come within the tolerance (R172): a period starts where it was due, and the table free-runs. What of the
new period lies in the past happens now, in the order of its times. -/
def State.vsyncFreeRun (s : State) : State :=
  match s.cyc.table with
  | none => s
  | some tb =>
    let b := s.cycP0 + tb.period
    if tb.anchor ≠ 1 || s.rb .CYC_STAT 0 0 2 || s.now < b + cycTol tb then s
    else
      let s := (s.setB .CYC_STAT 0 0 2 true).raise 12
      let s := s.periodBegin b s.pendNext
      let s := (List.range 256).foldl State.pastSlot s
      if s.cycHeld then s else s.doDeferred

/-- A fixed period starts at its moment (R169, R171). -/
def State.fixedStart (s : State) : State :=
  match s.fixedDue with
  | some (b, k) => if b ≤ s.now then s.periodBegin b k else s
  | none => s

/-- The edges to a holder that an instance comes to have: the preloads without precedence leave its cores (R164). -/
def State.inheritInto (s : State) (f h : Nat) (y : Flight) (e : Nat × Inst) : State :=
  match (s.edgesOf e.2 false f y).filter (fun g => g.holder == h) with
  | [] => s
  | es => (s.addEdges e.1 es).clearBanks e.1

/-- Inheritance is detected (R195) for a parked submission and a holder of this node, in every active instance of the submission's
context. -/
def State.inheritDetect (s : State) (f h : Nat) : State :=
  match Tab.get? s.flights f with
  | none => s
  | some y => (s.cyc.insts.filter (fun e => e.2.live && e.2.def0.ctx == y.ctx)).foldl (fun s e => s.inheritInto f h y e) s

end Sys2Proof.Machine
end

