-- ==== Sys2Proof/Machine/Pick.lean ====
section
/-! DEFINITION. Picks, preloads and launches (R161 to R165, R235 to R250, R297): which task or submission takes a free
resource, the streams of the cluster channels, gathering and ranks, the launch records, and the pre-emption of background
work. -/

namespace Sys2Proof.Machine

/-! ## Maquette slots and cluster channels (R239 to R246) -/

/-- The slot size S in bytes (R239). -/
def State.slotBytes (s : State) : Nat := 2048 * 2 ^ (s.rf .SCH_MQ_CFG 0 0 16 2)

/-- The lowest free maquette slot; where only staged hints are left, that of the oldest (R246). -/
def State.freeSlot (s : State) : Option Nat :=
  match (List.range 64).find? (fun k => (Tab.get? s.mqSlots k).isNone && (Tab.get? s.hints k).isNone) with
  | some k => some k
  | none =>
    match s.hints with
    | [] => none
    | a :: r => some (r.foldl (fun a b => if b.2.at0 < a.2.at0 then b else a) a).1

/-- The launch header of a task (Table 07-5). -/
def Task.header (t : Task) : List Word :=
  let gx := if t.opcode = 1 then t.w 4 % 2 ^ 32 else (t.w 6 % 2 ^ 16 + 2 ^ (t.w 6 / 2 ^ 32 % 256) - 1) / 2 ^ (t.w 6 / 2 ^ 32 % 256)
  let gy := if t.opcode = 1 then t.w 4 / 2 ^ 32 else
    (t.w 6 / 2 ^ 16 % 2 ^ 16 + 2 ^ (t.w 6 / 2 ^ 32 % 256) - 1) / 2 ^ (t.w 6 / 2 ^ 32 % 256)
  let gz := if t.opcode = 1 then t.w 5 % 2 ^ 32 else 1
  [mkWord [(0, 32, gx), (32, 32, gy)], mkWord [(0, 32, gz), (32, 8, t.setn), (40, 10, t.stateLen / 64)],
   mkWord [(0, 16, t.layer), (16, 16, t.op), (32, 16, t.tag)], 0, 0, 0, 0, 0]

/-- The ARG words of a DISPATCH, placed at bytes 0 to 31 of its image; a RENDER has none (R239). -/
def Task.args (t : Task) : List Word := if t.opcode = 1 then (t.words.drop 10).take 4 else []

/-- The image of a task whose state has been read: the resolved ARGs replace its first bytes (R239). -/
def Task.image (t : Task) (state : List Word) : List Word := t.args ++ state.drop t.args.length

/-- The select bits of some cores of a cluster. -/
def selectBits (cs : List Nat) : Nat := cs.foldl (fun n p => n + 2 ^ (p % 12)) 0

/-- Words in pieces of 64 bytes, at most `n` of them. -/
def pieces : Nat → List Word → List (List Word)
  | 0, _ => []
  | n + 1, l => if l.isEmpty then [] else (l.take 8 ++ List.replicate (8 - l.length) 0) :: pieces n (l.drop 8)

/-- The maquette writes of a stream (Table 07-6): SELECT, then its bytes from an offset in 64-byte units. -/
def mqWrites (cs : List Nat) (header : Bool) (offset : Nat) (data : List Word) : List MqWrite :=
  { data := mkWord [(0, 12, selectBits cs)] :: List.replicate 7 0, select := true }
  :: (pieces 512 data).zipIdx.map (fun d => { data := d.1, offset := offset + d.2, header := header })

/-- The writes of a stream leave on its cluster's channel. -/
def State.mqSend (s : State) (j : MqJob) (header : Bool) (offset : Nat) (data : List Word) : State :=
  (({ s with mqJobs := s.mqJobs.map (fun (i : MqJob) => if i == j then { i with sent := true } else i) }).emits
    ((mqWrites j.cores header offset data).map (fun w => Emit.mq j.cluster w)))

/-- A stream can start: a preload's image stands in its slot (R241). -/
def State.mqReady (s : State) (j : MqJob) : Bool :=
  match j.kind with
  | .image => ((Tab.get? s.tasks j.task).bind (fun t => t.slot.bind (Tab.get? s.mqSlots))).any (fun m => m.image.isSome)
  | _ => true

/-- A stream of a cluster channel starts (R241, R244): an image or a header is written; a remainder is read first. -/
def State.mqStart (s : State) (j : MqJob) : State :=
  match Tab.get? s.tasks j.task with
  | none => s
  | some t =>
    let k := { j with active := true }
    let s := { s with mqJobs := s.mqJobs.map (fun i => if i == j then k else i) }
    match j.kind with
    | .image => s.mqSend k false 0 (((t.slot.bind (Tab.get? s.mqSlots)).bind (fun m => m.image)).getD [])
    | .header => s.mqSend k true 0 t.header
    | .remainder => s.readMem (.taskState t.f) (t.stateAddr + BitVec.ofNat 64 s.slotBytes) (t.stateLen - s.slotBytes)

/-- The processor is at LL0 and stays there, so that engines take preloads and launches (R225, R229). -/
def State.atRun (s : State) : Bool := s.gov.rung == 0 && !s.gov.exiting && s.gov.entering.isNone

/-- The pick whose preload a stream belongs to. -/
def State.mqPick (s : State) (j : MqJob) : Nat := ((Tab.get? s.tasks j.task).map (fun t => t.pickedAt)).getD 0

/-- The next stream of a cluster channel (R241): a remainder first, else that of the earliest pick. -/
def State.mqNext (s : State) (c : Nat) : Option MqJob :=
  let l := s.mqJobs.filter (fun j => j.cluster == c)
  match l.find? (fun j => j.kind == .remainder) with
  | some j => some j
  | none => match l with
    | [] => none
    | a :: r => some (r.foldl (fun a b => if s.mqPick b < s.mqPick a then b else a) a)

/-- Every cluster channel that is idle takes its next stream, if that can start. -/
def State.mqKick (s : State) : State :=
  if !s.atRun || !s.frontRuns then s
  else
    (List.range 4).foldl (fun s c =>
      if s.mqJobs.any (fun j => j.cluster == c && j.active) then s
      else
        match s.mqNext c with
        | some j => if s.mqReady j then s.mqStart j else s
        | none => s) s

/-- The clusters of some cores. -/
def clustersOf (cs : List Nat) : List Nat := (List.range 4).filter (fun c => cs.any (fun p => p / 12 == c))

/-- Streams of one kind to some cores, one per cluster. -/
def State.mqAdd (s : State) (k : Nat) (kind : MqKind) (cs : List Nat) : State :=
  let js := (clustersOf cs).map (fun c => { cluster := c, task := k, kind := kind, cores := cs.filter (fun p => p / 12 == c) })
  ({ s with mqJobs := s.mqJobs ++ js }).mqKick

/-! ## Ranks (R249, R253) -/

/-- The largest workgroup of rank `r`'s stripe. -/
def stripeLast (g n r : Nat) : Nat := r + (g - 1 - r) / n * n

/-- The set of a task is final (R242): ranks in placement order, stripes or the recorded ranges, and the launch header. -/
def State.setFinal (s : State) (k : Nat) : State :=
  match Tab.get? s.tasks k with
  | none => s
  | some t =>
    let cs := (t.order.filter (fun p => t.held.contains p)) ++ t.held.filter (fun p => !t.order.contains p)
    let n := cs.length
    let rangesOf (r : Nat) : List Range :=
      if t.progress.isEmpty then (if r < t.grid then [⟨r, stripeLast t.grid n r, n⟩] else [])
      else (t.progress.filter (fun e => e.1 % n == r)).map (·.2)
    let ranks : List Rank := cs.zipIdx.map (fun c =>
      let gs := rangesOf c.2
      { core := c.1, ranges := gs, released := gs.isEmpty, count := match gs with | g :: _ => g.count | [] => 0 })
    let spare := ranks.filter (fun r => r.released)
    let s := s.updTask k (fun t => { t with ranks := ranks, setn := n, progress := [], undo := some (t.progress, t.setn),
                                            hdrSent := true, phase := .preloaded,
                                            held := cs.filter (fun p => !spare.any (fun r => r.core == p)) })
    let s := spare.foldl (fun s r => s.updCore r.core (fun c => { c with bank := none })) s
    s.mqAdd k .header (cs.filter (fun p => !spare.any (fun r => r.core == p)))

/-- A gathering task takes further banks (R242), and its set is final once it holds what it wants. -/
def State.gatherTake (s : State) (k : Nat) : State :=
  match Tab.get? s.tasks k with
  | none => s
  | some t =>
    if t.phase != .gathering then s
    else
      let free := (s.placement t.ctx (s.eligCores t)).filter (fun p => (nth s.cores p {}).bank.isNone)
      let take := (t.order.filter (fun p => free.contains p) ++ free.filter (fun p => !t.order.contains p)).take (t.wanted - t.held.length)
      if take.isEmpty then s
      else
        let s := take.foldl (fun s p => s.updCore p (fun c => { c with bank := some k })) s
        let s := s.updTask k (fun t => { t with held := t.held ++ take })
        let s := s.mqAdd k .image take
        if t.wanted ≤ t.held.length + take.length then s.setFinal k else s

/-- A deterministic context's task waits for its whole set. -/
def State.detTask (s : State) (t : Task) : Bool := (Tab.get? s.ctxs t.ctx).any (·.det)

/-- The gathering window of R242 in ns. -/
def State.gatherNs (s : State) : Nat := s.rf .SCH_MQ_CFG 0 0 0 16

/-- The gathering window of a task has ended: its set is the banks it holds. -/
def State.gatherEnd (s : State) (k : Nat) : State :=
  match Tab.get? s.tasks k with
  | none => s
  | some t =>
    if t.phase == .gathering && !s.detTask t && !t.held.isEmpty && t.pickedAt + s.gatherNs ≤ s.ref then s.setFinal k else s

/-! ## The cores pick (R161, R162, R242) -/

/-- A partition has a task that gathers. -/
def State.gathering (s : State) (p : Nat) : Bool := s.tasks.any (fun e => e.2.part == p && e.2.phase == .gathering)

/-- The ready cores tasks of a partition that some empty bank of an eligible core can take. -/
def State.coreCands (s : State) (p : Nat) : List (Nat × Task) :=
  s.tasks.filter (fun e => e.2.cls == .cores && e.2.part == p && s.launchable e.2
    && (s.eligCores e.2).any (fun c => (nth s.cores c {}).bank.isNone))

/-- The cores pick of a partition. -/
def State.corePick (s : State) (p : Nat) : State :=
  if s.gathering p || !s.atRun then s
  else
    match s.pickOf (s.coreCands p) (fun t => !(s.slotInsts t).isEmpty) with
    | none => s
    | some (k, t) =>
      let staged := s.hints.find? (fun h => h.2.f == t.f && h.2.addr == t.stateAddr && h.2.len == t.stateLen && h.2.image.isSome)
      let slot := match staged with | some h => some h.1 | none => s.freeSlot
      match slot with
      | none => s
      | some sl =>
        let image := (staged.bind (fun h => h.2.image)).map t.image
        let s := { s with hints := Tab.erase s.hints sl, mqSlots := Tab.set s.mqSlots sl { task := k, image := image } }
        let s := (s.count 276 1 t.who).count 277 1 t.who
        let s := match staged with
          | some _ => s.bump .SCH_MQ_CNT 0 0 32 16 1
          | none => s.readMem (.taskState t.f) t.stateAddr (min t.stateLen s.slotBytes)
        let s := s.updTask k (fun t => { t with
          phase := .gathering, slot := some sl, pickedAt := s.ref, held := [], acked := [],
          remainder := [], hdrSent := false, wanted := s.wantedSet t, order := s.placeOver t.ctx (s.eligCores t) (s.ownedCores t.part),
          isStatic := s.detTask t })
        (s.gatherTake k).gatherEnd k

/-- The state of a submission's task has been read, from an address: the image of a preload (R239), or a remainder, whose writes now
leave (R244). -/
def State.stateData (s : State) (f : Nat) (a : Word) (data : List Word) : State :=
  let mine (k : Nat) (off : Nat) : Bool := (Tab.get? s.tasks k).any (fun t => t.f == f && t.stateAddr + BitVec.ofNat 64 off == a)
  match s.mqSlots.find? (fun e => e.2.image.isNone && mine e.2.task 0) with
  | some (n, m) =>
    let image := (Tab.get? s.tasks m.task).map (fun (t : Task) => t.image (data.take (min t.stateLen s.slotBytes / 8)))
    ({ s with mqSlots := Tab.upd s.mqSlots n (fun m => { m with image := image }) }).mqKick
  | none =>
    match s.mqJobs.find? (fun j => j.kind == .remainder && j.active && !j.sent && !j.dead && mine j.task s.slotBytes) with
    | some j => s.mqSend j false (s.slotBytes / 64) (data.take (4096 - s.slotBytes / 8))
    | none => s

/-- The shadow-bank writes of the stream in progress on a cluster's channel are acknowledged (R241). -/
def State.mqAck (s : State) (c : Nat) : State :=
  match s.mqJobs.find? (fun j => j.cluster == c && j.active && j.kind != .remainder) with
  | none => s
  | some j =>
    let s := { s with mqJobs := s.mqJobs.erase j }
    let s :=
      if j.kind == .header && !j.dead then
        let s := s.updTask j.task (fun t => { t with acked := t.acked ++ j.cores })
        j.cores.foldl State.coreDue s
      else s
    s.mqKick

/-- A remainder stream has ended (R244): the cluster's banks are complete and the held launches go on. -/
def State.remainderEnd (s : State) (c : Nat) : State :=
  match s.mqJobs.find? (fun j => j.cluster == c && j.active && j.kind == .remainder && (j.sent || j.dead)) with
  | none => s
  | some j =>
    let s := { s with mqJobs := s.mqJobs.erase j }
    if j.dead then s.mqKick
    else
      let free (d : Due) : Due := if d.cls == .cores && d.task == j.task && d.peng / 12 == c then { d with stalled := false } else d
      (({ s with due := s.due.map free }).updTask j.task (fun t => { t with remainder := t.remainder ++ [c] })).mqKick

/-- A due launch of a split preload is held until the remainder of its cluster has streamed (R244). -/
def State.splitPoll (s : State) : State :=
  let held := s.due.filter (fun d => d.cls == .cores && d.cont.isNone && !d.stalled
    && (match Tab.get? s.tasks d.task with
        | some t => s.slotBytes < t.stateLen && !t.remainder.contains (d.peng / 12)
        | none => false))
  held.foldl (fun s d =>
    let c := d.peng / 12
    let s := { s with due := s.due.map (fun e => if e.cls == .cores && e.peng == d.peng then { e with stalled := true } else e) }
    if s.mqJobs.any (fun j => j.task == d.task && j.cluster == c && j.kind == .remainder && !j.dead) then s
    else
      match Tab.get? s.tasks d.task with
      | none => s
      | some t =>
        let s := (s.bump .SCH_MQ_CNT 0 0 16 16 1).count 279 1 t.who
        s.mqAdd d.task .remainder (t.held.filter (fun p => p / 12 == c))) s

/-! ## Picks of other engines (R109, R161, R162, R174, R297, R363) -/

/-- An engine can take another launch. -/
def State.engFree (s : State) (c : Cls) (p : Nat) : Bool :=
  let e := Tab.getD s.engs (engNo c p) {}
  let queued := s.due.any (fun d => d.cls == c && d.peng == p)
  e.present && e.ctl.isNone && !queued
  && (match c with
      | .comp => e.runs.all (fun r => (Tab.get? s.tasks r.task).any (fun t => t.latchAt.isSome))
      | .link => e.runs.length < 8
      | _ => e.runs.isEmpty)

/-- The tasks that an engine can take: those of the slot context and what inherits from it where a reservation covers the
engine, all others too where it does not or lends (R162, R174, R175). -/
def State.engCands (s : State) (c : Cls) (p : Nat) : List (Nat × Task) :=
  let l := s.tasks.filter (fun e => e.2.cls == c && s.launchable e.2 && s.engineFits e.2 c p && s.grainEng e.2 (engNo c p))
  match (Tab.getD s.engs (engNo c p) {}).reservedFor with
  | none => l
  | some i =>
    match Tab.get? s.cyc.insts i with
    | none => l
    | some x => if s.lends x then l else l.filter (fun e => e.2.ctx == x.def0.ctx || s.precedes e.2 i)

/-- The pick of an engine of a class other than cores: its launch becomes due, after a scrub where the engine last ran for
another partition (R297). -/
def State.engPick (s : State) (c : Cls) (p : Nat) : State :=
  if c == .cores || !s.engFree c p then s
  else
    let e := Tab.getD s.engs (engNo c p) {}
    let prec (t : Task) : Bool := match e.reservedFor with
      | some i => (match Tab.get? s.cyc.insts i with
        | some x => t.ctx == x.def0.ctx || s.precedes t i
        | none => false)
      | none => false
    match s.pickOf (s.engCands c p) prec with
    | none => s
    | some (k, t) =>
      let scrub := c != .link && e.lastPart.any (fun q => q ≠ t.part)
      let s := s.count 276 1 t.who
      let s := s.updTask k (fun t => { t with phase := .preloaded })
      let s := { s with due := s.due ++ [{ cls := c, peng := p, task := k, at0 := s.ref, stalled := scrub }] }
      if scrub then (s.updEng (engNo c p) (fun e => { e with ctl := some .scrub })).emit (.ctl c p .scrub 0) else s

/-- A scrub before a launch is acknowledged (R297). -/
def State.scrubAck (s : State) (c : Cls) (p : Nat) : State :=
  let e := engNo c p
  if (Tab.getD s.engs e {}).ctl != some .scrub then s
  else
    let s := s.updEng e (fun y => { y with ctl := none, lastPart := none })
    { s with due := s.due.map (fun d => if d.cls == c && d.peng == p then { d with stalled := false } else d) }

/-! ## The sequencers' pick (R161, R163) -/

/-- A submission is able to run on a sequencer. -/
def State.seqReady (s : State) (x : Flight) : Bool :=
  x.readySince.isSome && x.seqr.isNone && x.wait.isNone && x.ending.isNone && !x.inTeardown
  && (Tab.get? s.sqs x.sq).any (fun q => q.state == .active || q.state == .held || q.state == .destroying)

/-- Submission `a` goes before `b` within one context. -/
def flightOlder (a b : Nat × Flight) : Bool :=
  let x := a.2.readySince.getD 0
  let y := b.2.readySince.getD 0
  if x ≠ y then x < y else if a.2.sq ≠ b.2.sq then a.2.sq < b.2.sq else a.2.seq < b.2.seq

/-- The submission that a free sequencer takes. -/
def State.seqChoice (s : State) : Option Nat :=
  let l := s.flights.filter (fun e => s.seqReady e.2)
  let has (c : Nat) : Bool := l.any (fun e => e.2.ctx == c)
  let c := match s.lowestVc (s.clsCtxs false has) with | some c => some c | none => s.lowestVc (s.clsCtxs true has)
  match c with
  | none => none
  | some c =>
    match l.filter (fun e => e.2.ctx == c) with
    | [] => none
    | a :: r => some (r.foldl (fun a b => if flightOlder b a then b else a) a).1

/-- A stream sequencer is free. -/
def State.seqFree (s : State) (n : Nat) : Bool := n < 8 && !s.flights.any (fun e => e.2.seqr == some n)

/-! ## Launches (R166, R235, R236) -/

/-- The instance that reserves an engine or a core. -/
def State.reservedBy (s : State) (c : Cls) (p : Nat) : Option Nat :=
  match c with
  | .cores => (nth s.cores p {}).reserved
  | _ => (Tab.getD s.engs (engNo c p) {}).reservedFor

/-- A launch is on a core or engine that an instance which is starting reserves (R235). DESIGN CHOICE (log 173): an instance is starting in
the 20 µs after its start that R181 holds back for the yields of R179. -/
def State.slotFirst (s : State) (d : Due) : Bool :=
  (s.reservedBy d.cls d.peng).any (fun i => (Tab.get? s.cyc.insts i).any (fun x => x.live && s.now < x.start + 20000))

/-- The order of R235 among due launches. -/
def State.dueBefore (s : State) (a b : Due) : Bool :=
  if s.slotFirst a != s.slotFirst b then s.slotFirst a
  else if a.at0 ≠ b.at0 then a.at0 < b.at0
  else if a.cls.code ≠ b.cls.code then a.cls.code < b.cls.code
  else a.peng < b.peng

/-- The core of a due launch runs no range: it is idle, or it keeps the rank that the continuation is for (R251). -/
def State.coreWaits (s : State) (d : Due) : Bool :=
  match (nth s.cores d.peng {}).run with
  | none => true
  | some r => d.cont.isSome && r.task == d.task && r.rank == d.rank

/-- R189 allows the launch of a TASK_GRAIN task that is due, on a core or an engine. -/
def State.grainLaunch (s : State) (t : Task) (d : Due) : Bool :=
  if d.cls == .cores then d.cont.isSome || !(s.slotInsts t).isEmpty || s.grainOk t d.peng else s.grainEng t (engNo d.cls d.peng)

/-- A due launch can rise: the engines are at LL0 (R225), it is not held, its core answers no trim (R252), and a link transfer holds a
credit for its first segment, unless it is going to fail (R364); R189 allows it. -/
def State.dueReady (s : State) (d : Due) : Bool :=
  !d.stalled && s.atRun && (Tab.get? s.tasks d.task).all (fun t => s.grainLaunch t d)
  && (d.cls != .cores || (s.coreWaits d && !s.trims.any (fun x => x.victim == d.peng)))
  && (d.cls != .link || (match Tab.get? s.tasks d.task with
      | some t => s.linkDoomed t d.peng || s.heldCr (t.w 3 / 2 ^ 40 % 16) ≠ 0
      | none => true))

/-- The due launch that a lane takes next. -/
def State.nextDue (s : State) : Option Due :=
  match s.due.filter s.dueReady with
  | [] => none
  | a :: r => some (r.foldl (fun a b => if s.dueBefore b a then b else a) a)

/-- The lowest idle lane. -/
def State.freeLane (s : State) : Option Nat := (List.range 8).find? (fun n => (Tab.get? s.lanes n).isNone)

/-- The launch record of a core (Table 07-2). -/
def Task.coreRecord (t : Task) (d : Due) (g : Range) (static : Bool) : List (Nat × Nat × Nat) :=
  [(0, 6, d.peng), (6, 2, b2n d.cont.isSome), (8, 6, if d.cont.isSome then 0 else t.slot.getD 0), (16, 16, t.tag),
   (32, 64, t.entry.toNat), (96, 8, d.rank), (104, 8, g.stride), (112, 32, g.first), (144, 32, g.last),
   (176, 1, b2n t.taskGrain), (177, 1, b2n static)]

/-- The voltage of the point at which a cluster runs, in mV (R202). -/
def State.clusterMv (s : State) (c : Nat) : Nat := (nth s.gov.vf (s.rf .GOV_VF 0 0 (4 * c) 4) (0, 750)).2

/-- The first handshake of a segment (R156, R166, R198, R202): the wait is accounted, a first launch makes the command outstanding. -/
def State.segmentStart (s : State) (k peng : Nat) : State :=
  match Tab.get? s.tasks k with
  | none => s
  | some t =>
    let w := s.ref - t.waitFrom
    let s := s.updCtx t.ctx (fun c => { c with waitNs := c.waitNs + w, waitMax := max c.waitMax w })
    let s := s.updTask k (fun t => { t with
      phase := .running, runFrom := s.ref, launchedEver := true, undo := none, startMv := s.clusterMv (peng / 12) })
    let s := match s.reservedBy t.cls peng with
      | some i => s.when (s.inherits t.ctx i) (fun s => s.beginHeir k i)
      | none => s
    if t.launchedEver then s
    else
      let s := s.updFlight t.f (fun x => { x with pend := x.pend.filter (fun j => j ≠ k), out := x.out ++ [k], launchedAny := true })
      s.when t.trace (fun s => s.traceCmd 1 (s.taskTag t) (mkWord [(0, 8, t.opcode), (8, 4, t.cls.code), (12, 8, peng),
        (20, 8, if t.cls == .cores then t.setn - 1 else 0), (32, 25, t.off)]))

/-- A launch on a core. -/
def State.launchCore (s : State) (d : Due) : State :=
  match Tab.get? s.tasks d.task with
  | none => s
  | some t =>
    let k := d.task
    let s := if t.phase == .running then s else s.segmentStart k d.peng
    let rk := nth t.ranks d.rank ⟨d.peng, [], false, false, false, 0, 0⟩
    let g : Range := match d.cont with | some g => g | none => (match rk.ranges with | g :: _ => g | [] => ⟨0, 0, 1⟩)
    let s := s.emit (.launch .cores d.peng (t.coreRecord d g (s.noSteal t)))
    let s := s.updCore d.peng (fun c => { c with
      run := some { task := k, tag := t.tag, rank := d.rank, start := s.ref }, bank := if d.cont.isSome then c.bank else none })
    let s := s.updRank k d.rank (fun r => { r with launched := true, running := true, count := g.count, launchAt := s.ref })
    let s := s.windowCheck t.f
    match Tab.get? s.tasks k with
    | some t => if t.ranks.all (fun r => r.launched || r.released) then s.freeSlots k else s
    | none => s

/-- A launch on another engine: its descriptor becomes visible in the launch area first (R236). The place in the area is a
free value, and the area's address is that of the Voxbin region of the channels (Table 15-3), aligned to 64 bytes. -/
def State.launchEng (s : State) (d : Due) : State :=
  match Tab.get? s.tasks d.task with
  | none => s
  | some t =>
    let k := d.task
    let s := s.segmentStart k d.peng
    let (v, s) := s.draw
    let ws := t.launchWords
    let a : Word := BitVec.ofNat 64 (Config.regionAddr (s.start.launchArea + 64 * (v % (16384 - ws.length / 8))) / 64 * 64)
    let s := s.memWake.emit (.write { port := .mem, part := some 8, key := some (cipherSlot 8) } a ws)
    let s := s.emit (.launch d.cls d.peng [(0, 8, d.peng), (16, 16, t.tag), (32, 64, a.toNat)])
    let s := s.updEng (engNo d.cls d.peng) (fun e => { e with
      runs := e.runs ++ [{ task := k, tag := t.tag, start := s.ref }], lastPart := some t.part })
    let s := s.windowCheck t.f
    if d.cls == .link then s.linkStart k d.peng else if d.cls == .gate then s.gateStart k t else s

/-- A dispatch lane takes the next due launch and its handshake rises (R235). -/
def State.launchNext (s : State) : State :=
  match s.freeLane, s.nextDue with
  | some n, some d =>
    let who : Who3 := match Tab.get? s.tasks d.task with | some t => t.who | none => {}
    let s := { s with due := s.due.filter (fun e => !(e.cls == d.cls && e.peng == d.peng)), lanes := Tab.set s.lanes n d,
                      launches := (s.launches + 1) % 2 ^ 32 }
    let s := s.count (268 + n) 1 who
    if d.cls == .cores then s.launchCore d else s.launchEng d
  | _, _ => s

/-- The handshake of a launch completes and its lane is free. -/
def State.launchAck (s : State) (c : Cls) (p : Nat) : State :=
  { s with lanes := s.lanes.filter (fun e => !(e.2.cls == c && e.2.peng == p)) }

/-! ## Background pre-emption (R165) -/

/-- Engines of a class that run a background task. -/
def State.bgTasks (s : State) (p : Task → Bool) : List (Nat × Task) :=
  s.tasks.filter (fun e => e.2.phase == .running && p e.2 && (Tab.get? s.ctxs e.2.ctx).any (fun c => c.background))

/-- One background task yields: of those that may be yielded, that of the context with the highest VC, the latest launched among equals. -/
def State.bgYield (s : State) (l : List (Nat × Task)) : State :=
  if l.any (fun e => e.2.yielding) then s
  else
    match l.filter (fun e => s.mayYield e.2) with
    | [] => s
    | a :: r =>
      let vc (e : Nat × Task) : Word := match Tab.get? s.ctxs e.2.ctx with | some c => c.vc | none => 0
      let better (a b : Nat × Task) : Bool := vcLt (vc a) (vc b) || (vc a == vc b && a.2.runFrom < b.2.runFrom)
      s.yieldTask (r.foldl (fun a b => if better a b then b else a) a).1

/-- A share or slot task is ready for a kind of engine or for a partition's cores. -/
def State.shareReady (s : State) (p : Task → Bool) : Bool :=
  s.tasks.any (fun e => p e.2 && s.launchable e.2 && !e.2.rtWaiting && (Tab.get? s.ctxs e.2.ctx).any (fun c => !c.background))

/-- Background work makes room for share and slot work (R165). -/
def State.bgPoll (s : State) : State :=
  let s := [Cls.tiler, .dma, .link, .gate].foldl (fun s c =>
    if s.shareReady (fun t => t.cls == c) && !((s.physOf c).any (s.engFree c)) then s.bgYield (s.bgTasks (fun t => t.cls == c))
    else s) s
  (List.range 8).foldl (fun s p =>
    if s.shareReady (fun t => t.cls == .cores && t.part == p) && !((s.ownedCores p).any (fun q => (nth s.cores q {}).run.isNone)) then
      s.bgYield (s.bgTasks (fun t => t.cls == .cores && t.part == p))
    else s) s

/-! ## What parked submissions wait for (R140) -/

/-- The engine that runs a task: its class and physical number. -/
def State.taskEngine (s : State) (k : Nat) (t : Task) : Cls × Nat :=
  match t.cls with
  | .cores => (.cores, ((t.ranks.find? (fun r => r.running)).map (fun r => r.core)).getD 0)
  | _ => match s.engs.find? (fun e => e.2.runs.any (fun r => r.task == k)) with
    | some e => engCls e.1
    | none => (t.cls, 0)

/-- A link task needs a transfer credit to go on (R193, R364): it has not started, it is a LINK_PUT with segments to send, or a LINK_GET
that has yielded. -/
def State.unsent (s : State) (t : Task) : Bool :=
  match t.xfer.bind (Tab.get? s.tml.xfers) with
  | some y => if y.get then y.paused else y.sent < y.segs
  | none => true

/-- A task is a link transfer that waits for a transfer credit (R364). -/
def State.lacksCredit (s : State) (t : Task) : Bool :=
  let n := t.w 3 / 2 ^ 40 % 16
  t.cls == .link && t.phase != .ready && !t.squashed && s.unsent t && s.heldCr n = 0 && s.reachable n

/-- What an engine command that a submission waits for lacks at this moment (Table 04-3): the end of a drain or squash on its engine,
a maquette slot, link credits, or its own completion. -/
def State.taskLacks (s : State) (k : Nat) (t : Task) : WaitKind :=
  if t.phase == .running && (t.squashed || s.tornDown t.f || (Tab.get? s.sqs t.sq).any (fun q => q.state == .destroying)) then
    let e := s.taskEngine k t
    .drain e.1 e.2
  else
    match t.cls with
    | .cores => if t.phase == .ready && !t.rtWaiting && s.freeSlot.isNone then .maquette else .window
    | .link =>
      let n := t.w 3 / 2 ^ 40 % 16
      if s.unsent t && s.heldCr n = 0 && s.reachable n then
        .credit (match s.route s.node n with | some r => r.1 | none => 0) n
      else .window
    | _ => .window

/-- The engine command for which a submission stands still (R100): the one handed over and not launched, or one without ASYNC that runs;
where it waits for the engine window or for a FENCE, a transfer that lacks a credit; none for an early end. -/
def State.awaited (s : State) (x : Flight) : Option Nat :=
  if x.ending.isSome && !x.inTeardown then none
  else match x.pend.getLast? with
    | some k => some k
    | none =>
      match x.out.find? (fun k => (Tab.get? s.tasks k).any (fun t => !t.isync || (x.inTeardown && t.phase == .running))) with
      | some k => some k
      | none => x.out.find? (fun k => (Tab.get? s.tasks k).any s.lacksCredit)


/-- The waiting-on record that a submission has now, where it waits for engine work; a new resource has a new beginning (R140). -/
def State.waitNow (s : State) (x : Flight) : Option WaitRec :=
  let lack : WaitKind := match s.awaited x with
    | some k => (match Tab.get? s.tasks k with | some t => s.taskLacks k t | none => .window)
    | none => .window
  match x.wait with
  | some w =>
    if x.watching.isSome || w.kind == lack then some w
    else if w.kind.engine || (x.inTeardown && lack.engine && lack ≠ .window && !(match w.kind with | .crSpace _ => true | _ => false)) then
      some { kind := lack, since := s.ref }
    else some w
  | none => if x.inTeardown && lack ≠ .window then some { kind := lack, since := s.ref } else none

/-- The waiting-on records follow what the submissions wait for (R140). -/
def State.waitPoll (s : State) : State := { s with flights := Tab.mapV s.flights (fun x => { x with wait := s.waitNow x }) }

/-- After a regrowth, continuations that were dropped are due again, and a task whose cores have all been released while ranges of it
are orphaned is ready (R258, R468). -/
def State.rankPoll (s : State) : State :=
  if s.regrowing then s
  else
    (s.tasks.filter (fun e => e.2.cls == .cores && e.2.phase == .running)).foldl (fun s e =>
      let idle (r : Rank) : Bool := r.launched && !r.running && !r.released && !r.ranges.isEmpty
        && !s.due.any (fun d => d.cls == .cores && d.task == e.1 && d.peng == r.core)
      let s := (e.2.ranks.zipIdx.filter (fun r => idle r.1)).foldl (fun s r =>
        if e.2.yielding || e.2.squashed || s.draining e.2 || ((nth s.cores r.1.core {}).moving && !e.2.isStatic) then
          s.returnRank e.1 r.2
        else s.continueOn e.1 r.2 r.1.ranges) s
      s.ranksCheck e.1) s

/-- A TASK_GRAIN task that has not launched leaves a core or an engine on which R189 no longer allows it: it is ready again. -/
def State.grainPoll (s : State) : State :=
  let bad (t : Task) : Bool := t.taskGrain && t.cls == .cores && (s.slotInsts t).isEmpty
    && (t.phase == .gathering || t.phase == .preloaded || t.phase == .running)
    && (if t.phase == .gathering then t.held else (t.ranks.filter (fun r => !r.launched && !r.released)).map (fun r => r.core)).any
      (fun p => !s.grainOk t p)
  let s := ((s.tasks.filter (fun e => bad e.2)).map (·.1)).foldl State.discard s
  s.dropDue (fun d => d.cls != .cores && (Tab.get? s.tasks d.task).any (fun t => !s.grainEng t (engNo d.cls d.peng)))

/-- Gathering tasks take the banks that have become empty (R242). -/
def State.gatherPoll (s : State) : State :=
  ((s.tasks.filter (fun e => e.2.phase == .gathering)).map (·.1)).foldl State.gatherTake s

end Sys2Proof.Machine
end

