-- ==== Sys2Proof/Machine/Gov.lean ====
section
/-! DEFINITION. The governor (chapter 06): power windows, caps and the reserve, headroom and price, the clusters' points, sag
stretch, the thermal model and its actions, the ladder. -/

namespace Sys2Proof.Machine

/-- A change of the governor. -/
def State.setGov (s : State) (f : Gov → Gov) : State := { s with gov := f s.gov }

/-! ## Power windows, caps, reserve (R201, R205 to R208) -/

/-- The mean power in mW of some buckets of 100 µs, total or share (R201). -/
def meanMw (share : Bool) (l : List (Nat × Nat)) : Nat :=
  match l with
  | [] => 0
  | _ =>
    let tot := l.foldl (fun n b => n + b.1) 0
    let rt := if share then l.foldl (fun n b => n + b.2) 0 else 0
    min 65535 (quotient (tot - rt) (100 * l.length))

/-- A bucket closes, and the four windows of GOV_POWER follow (R201). A bucket spent at LL4 or LL5 counts as zero. -/
def State.closeBucket (s : State) : State :=
  let b := if 4 ≤ s.gov.rung then (0, 0) else (s.gov.bktTot, s.gov.bktRt)
  let l := (b :: s.gov.buckets).take 10000
  let s := s.setGov (fun g => { g with buckets := l, bktTot := 0, bktRt := 0 })
  s.setReg .GOV_POWER 0 0 (mkWord [(0, 16, meanMw false l), (16, 16, meanMw false (l.take 10)), (32, 16, meanMw true l),
    (48, 16, meanMw true (l.take 10))])

/-- The lower of a cap of the management port and one of F0, where 0 sets none (R205). -/
def lowerCap (m f : Nat) : Nat := if f = 0 then m else min m f

/-- The effective caps that the two cap registers would give (R205). -/
def State.capsWith (s : State) (f0 : Word) : Nat × Nat :=
  (lowerCap (s.rf .GOV_CAP_MGMT 0 0 0 16) (fld f0 0 16), lowerCap (s.rf .GOV_CAP_MGMT 0 0 16 16) (fld f0 16 16))

/-- The real-time reserve of the running table in mW, rounded up (R206, GOV_BUDGET). -/
def State.reserveMw (s : State) : Nat :=
  match s.cyc.running, s.cyc.table with
  | true, some tb => ((tb.slots.foldl (fun n d => n + d.allowUj) 0) * 1000000 + (max 1 tb.period - 1)) / max 1 tb.period
  | _, _ => 0

/-- The slot definitions of the instances that are active or start within the next millisecond (R208): periods last 100 µs or more
(R168), so that it holds at most ten period starts. -/
def State.instSoon (s : State) : List Slot :=
  let next := s.upcoming 12
  let begun (x : Inst) : Bool := !next.any (fun n => n.slot == x.slot && n.period == x.period)
  (s.cyc.insts.filter (fun e => !e.2.deadlinePassed && begun e.2)).map (fun e => e.2.def0)
  ++ (next.filter (fun n => n.start ≤ s.now + 1000000)).map (fun n => n.def0)

/-- RT_NEXT in mW, rounded up (R208). -/
def State.rtNextMw (s : State) : Nat :=
  let f := s.instSoon.foldl (fun a d => addFrac a (d.allowUj * 1000000, max 1 d.length)) (0, 1)
  (f.1 + f.2 - 1) / f.2

/-- A management write of GOV_CAP_MGMT (R205, R207): zero caps leave their fields. -/
def State.writeCapMgmt (s : State) (v : Word) : State :=
  let keep (lo : Nat) : Nat := if fld v lo 16 = 0 then s.rf .GOV_CAP_MGMT 0 0 lo 16 else fld v lo 16
  s.setReg .GOV_CAP_MGMT 0 0 (mkWord [(0, 16, keep 0), (16, 16, keep 16), (32, 7, fld v 32 7)])

/-- F0's write of GOV_CAP_F0 (R207): refused where the running or pending table would fail R206. -/
def State.writeCapF0 (s : State) (v : Word) : State :=
  let caps := s.capsWith v
  let fits (t : Option CycTable) : Bool := match t with
    | some tb => tableFits tb caps.1 caps.2 s.rtMaxPct
    | none => true
  let s := s.when (bitOf v 32) (fun s => s.setB .GOV_CAP_F0 0 0 32 false)
  if fits (if s.cyc.running then s.cyc.table else none) && fits s.cyc.pending then
    s.setF .GOV_CAP_F0 0 0 0 32 (fld v 0 32)
  else s.setB .GOV_CAP_F0 0 0 32 true

/-- GOV_BUDGET takes the caps, the reserve and RT_NEXT, and RT_OVERCOMMIT is assessed (R205 to R207). -/
def State.assess (s : State) : State :=
  let c := s.capsWith (s.reg .GOV_CAP_F0)
  let s := s.setReg .GOV_BUDGET 0 0 (mkWord [(0, 16, c.1), (16, 16, c.2), (32, 16, min 65535 s.reserveMw),
    (48, 16, min 65535 s.rtNextMw)])
  let bad := match s.cyc.running, s.cyc.table with
    | true, some tb => !tableFits tb c.1 c.2 s.rtMaxPct
    | _, _ => false
  let was := s.rb .GOV_STAT 0 0 3
  let s := s.setB .GOV_STAT 0 0 3 bad
  if bad && !was then (s.logErr { cls := 0x07 }).raise 5 else s

/-! ## Price (R208 to R211) -/

/-- A headroom clamped to ±1,000. -/
def clampMille (x : Int) : Int := min 1000 (max (-1000) x)

/-- TBAND as it acts (GOV_TLIMIT). -/
def State.tband (s : State) : Nat := let b := s.rf .GOV_TLIMIT 0 0 16 16; if 16 ≤ b && b ≤ 800 then b else 160

/-- The junction limit in 1/16 °C. -/
def State.tlimit (s : State) : Int := sx16 (s.rf .GOV_TLIMIT 0 0 0 16)

/-- hs, hp and ht of R208; in the safe state ht is −1,000 (R218). -/
def State.headrooms (s : State) : Int × Int × Int :=
  let sust : Int := s.rf .GOV_BUDGET 0 0 0 16
  let peak : Int := s.rf .GOV_BUDGET 0 0 16 16
  let hs := ((sust - s.rf .GOV_BUDGET 0 0 32 16 - s.rf .GOV_POWER 0 0 32 16) * 1000).tdiv sust
  let hp := ((peak - s.rf .GOV_BUDGET 0 0 48 16 - s.rf .GOV_POWER 0 0 48 16) * 1000).tdiv peak
  let ht := ((s.tlimit - sx16 (s.rf .GOV_TSTAT 0 0 32 16)) * 1000).tdiv (s.tband : Int)
  (clampMille hs, clampMille hp, if s.rb .GOV_STAT 0 0 4 then -1000 else clampMille ht)

/-- The last of some points that satisfies `p`. -/
def lastPoint (p : PricePoint → Bool) (l : List PricePoint) : Option (Nat × PricePoint) :=
  ((l.zipIdx.filter (fun e => p e.1)).getLast?).map (fun e => (e.2, e.1))

/-- The target price at a headroom (R210). -/
def priceTarget (l : List PricePoint) (h : Int) : Nat :=
  match l.head?, l.getLast? with
  | some a, some z =>
    if a.headroom ≤ h then a.price
    else if h ≤ z.headroom then z.price
    else
      match lastPoint (fun p => h ≤ p.headroom) l with
      | some (i, p) =>
        match l[i + 1]? with
        | some q => p.price + ((p.headroom - h).toNat * (q.price - p.price)) / (p.headroom - q.headroom).toNat
        | none => p.price
      | none => a.price
  | _, _ => 0

/-- The ceiling at a price (R210). -/
def priceCeil (l : List PricePoint) (price : Nat) : Nat :=
  match lastPoint (fun p => p.price ≤ price) l with
  | some (_, p) => p.ceil
  | none => match l.head? with | some p => p.ceil | none => 0

/-- Deepest rung, price floor and rotation of a profile (Table 06-3). -/
def profileFloor (p : Nat) : Nat := match p with | 0 => 256 | 3 => 1024 | _ => 0

/-- The deepest rung of a profile. -/
def profileRung (p : Nat) : Nat := match p with | 1 => 3 | 2 => 1 | _ => 5

/-- The profile in force (GOV_STAT.PROFILE). -/
def State.profile (s : State) : Nat := s.rf .GOV_STAT 0 0 6 2

/-- The external alarm (R221): an enabled ALARM_N input with ACTION 1 has its level asserted. -/
def State.alarmIn (s : State) : Bool :=
  (List.range 4).any (fun a => s.rb .VXB_DIN_CFG (a + 1) 0 36 && s.rf .VXB_DIN_CFG (a + 1) 0 34 2 = 1
    && s.rb .VXB_DIN_STAT (a + 1) 0 2)

/-- The highest core V/F point. -/
def State.topPoint (s : State) : Nat := s.gov.vf.length - 1

/-- A point that a field names: an index above the highest acts as the highest (R213). -/
def State.pointOf (s : State) (lo : Nat) : Nat := min s.topPoint (s.rf .GOV_VF 0 0 lo 4)

/-- The price moves one step to its target, and the ceiling follows (R210); a change of the price is recorded (Table 13-5). -/
def State.stepPrice (s : State) : State :=
  let (hs, hp, ht) := s.headrooms
  let h := min hs (min hp ht)
  let s := s.setReg .GOV_HEADROOM 0 0 (mkWord [(0, 16, to16 hs), (16, 16, to16 hp), (32, 16, to16 ht), (48, 16, to16 h)])
  let target := priceTarget s.gov.tab h
  let top := match s.gov.tab.getLast? with | some z => z.price | none => 0
  let target := if s.alarmIn then max target top else target
  let price : Int := s.rf .GOV_PRICE 0 0 0 16
  let d : Int := (target : Int) - price
  let q := d.tdiv 4
  let step := if q = 0 then d.sign else q
  let p := (min 65535 (max (profileFloor s.profile : Int) (price + step))).toNat
  let s := (s.setReg .GOV_PRICE 0 0 (mkWord [(0, 16, p), (16, 16, target)])).setF .GOV_VF 0 0 16 4 (priceCeil s.gov.tab p)
  s.when ((p : Int) ≠ price) (fun s => s.traceDev 0x12 (packFields [(0, 16, p), (16, 16, target), (32, 16, to16 h)]))

/-- A price table is valid (R209). -/
def priceTabOk (l : List PricePoint) : Bool :=
  (l.zip (l.drop 1)).all (fun e => e.2.headroom < e.1.headroom && e.1.price ≤ e.2.price && e.2.ceil ≤ e.1.ceil)

/-- COMMIT of the shadow table (R209). -/
def State.priceCommit (s : State) : State :=
  if priceTabOk s.gov.shadow then s.setGov (fun g => { g with tabNext := some (g.shadow, true) })
  else s.setB .GOV_PRICE_TAB_CTL 0 0 1 true

/-- RESTORE of the plinth's table (R209). -/
def State.priceRestore (s : State) : State := s.setGov (fun g => { g with tabNext := some (g.plinthTab, false) })

/-- A pending price table takes over (R209). -/
def State.takeTab (s : State) : State :=
  match s.gov.tabNext with
  | some (l, ov) => (s.setGov (fun g => { g with tab := l, tabNext := none })).setB .GOV_PRICE_TAB_CTL 0 0 2 ov
  | none => s

/-! ## The clusters (R213, R214) -/

/-- The clusters that a slot's preparation counts: those with a core of its partition that no overlapping instance holds. -/
def State.prepClusters (s : State) (d : Slot) (start : Nat) : List Nat :=
  let held (p : Nat) : Bool := s.cyc.insts.any (fun e => e.2.cores.contains p && !e.2.deadlinePassed
    && start < e.2.start + e.2.def0.length && e.2.start < start + d.length)
  clustersOf ((s.ownedCores d.part).filter (fun p => !held p))

/-- The lowest point at or above a frequency. -/
def State.pointFor (s : State) (mhz : Nat) : Nat :=
  match s.gov.vf.findIdx? (fun v => mhz ≤ v.1) with | some i => i | none => s.topPoint

/-- R of R213 for a cluster. -/
def State.clusterR (s : State) (c : Nat) : Nat :=
  let act := (s.cyc.insts.filter (fun e => !e.2.deadlinePassed && e.2.cores.any (fun p => p / 12 == c)
    && (e.2.started || s.gov.prep.contains (e.2.slot, e.2.period)))).map (fun e => s.pointFor e.2.def0.minMhz)
  let prep := (s.upcoming 1).filterMap (fun n =>
    if s.gov.prep.contains (n.slot, n.period) && (s.instOf n.slot n.period).isNone && (s.prepClusters n.def0 n.start).contains c then
      some (s.pointFor n.def0.minMhz)
    else none)
  (act ++ prep).foldl max 0

/-- The point at which a cluster is to run (R213). -/
def State.clusterPoint (s : State) (c : Nat) : Nat :=
  let p := max (s.clusterR c) (min (s.pointOf 16) (s.pointOf 20))
  if s.rb .GOV_STAT 0 0 0 then min p (s.pointOf 24) else p

/-- A cluster has a core. -/
def State.clusterPresent (s : State) (c : Nat) : Bool := (List.range 12).any (fun i => (nth s.cores (12 * c + i) {}).present)

/-- Every cluster whose point is not the one R213 gives starts a change, unless one is in progress (R214). -/
def State.vfPoll (s : State) : State :=
  if s.gov.vf.isEmpty then s
  else
    (List.range 4).foldl (fun s c =>
      let p := s.clusterPoint c
      if !s.clusterPresent c || (Tab.get? s.gov.vfReq c).isSome || s.rf .GOV_VF 0 0 (4 * c) 4 = p then s
      else (s.setGov (fun g => { g with vfReq := Tab.set g.vfReq c p })).emit (.vf c p)) s

/-- A change of point completes. -/
def State.vfDone (s : State) (c : Nat) : State :=
  match Tab.get? s.gov.vfReq c with
  | none => s
  | some p => (s.setGov (fun g => { g with vfReq := Tab.erase g.vfReq c })).setF .GOV_VF 0 0 (4 * c) 4 p

/-- The clocks of a slot's clusters begin to rise (R214): at LL0, no earlier than 30 µs before the predicted start. -/
def State.slotClockRaise (s : State) (j : Nat) : State :=
  match s.nextOf j with
  | none => s
  | some n =>
    if s.now + 30000 < n.start || !s.atRun || s.gov.prep.contains (j, n.period) then s
    else s.setGov (fun g => { g with prep := (g.prep.filter (fun x => x.1 ≠ j)) ++ [(j, n.period)] })

/-! ## Supply sag (R215, R216) -/

/-- The stretch groups a sensor covers: the four clusters, the tilers, the DMA engines, composition and weight gate, and the
link ports, which only sensor 15 covers. -/
def sagGroups (l : Nat) : List Nat :=
  if l < 12 then [l / 3] else if l = 15 then List.range 8 else [l - 8]

/-- THRESH as it acts, in steps of 0.5 % (GOV_SAG_CFG). -/
def State.sagSteps (s : State) : Nat := let n := s.rf .GOV_SAG_CFG 0 0 0 5; if 4 ≤ n && n ≤ 16 then n else 6

/-- The setpoint in mV of the rail that a sensor watches: of a cluster its point, while that changes the lower of the old and the new
(R215); the other rails' voltages are not in the spec (log 135). -/
def State.sagRail (s : State) (l : Nat) : Nat :=
  if 12 ≤ l then Config.railMv l
  else
    let mv (i : Nat) : Nat := (nth s.gov.vf i (0, 0)).2
    let now := mv (s.rf .GOV_VF 0 0 (4 * (l / 3)) 4)
    match Tab.get? s.gov.vfReq (l / 3) with | some i => min now (mv i) | none => now

/-- The threshold of a sensor in 1/200 mV: THRESH × 0.5 % below the setpoint (R215). -/
def State.sagThresh (s : State) (l : Nat) : Nat := s.sagRail l * (200 - s.sagSteps)

/-- Every sensor whose threshold is not the one of R215 is set anew. -/
def State.sagPoll (s : State) : State :=
  if s.gov.vf.isEmpty then s
  else
    let l := ((List.range 16).map (fun n => (n, s.sagThresh n))).filter (fun e => Tab.get? s.gov.sagSet e.1 ≠ some e.2)
    (s.setGov (fun g => { g with sagSet := l.foldl (fun t e => Tab.set t e.1 e.2) g.sagSet })).emits
      (l.map (fun e => Emit.sagLevel e.1 e.2))

/-- Critical stretch holds every _STRETCH high (Table 06-2). -/
def State.critical (s : State) : Bool := s.rb .GOV_STAT 0 0 1

/-- A sag line of a group is high. -/
def State.sagHigh (s : State) (g : Nat) : Bool :=
  (List.range 16).any (fun l => (sagGroups l).contains g && s.rb .GOV_SAG_STAT 0 0 l)

/-- A sag line rises: _STRETCH rises with it; one episode is counted where any _STRETCH rose from low. -/
def State.sagRise (s : State) (l : Nat) : State :=
  if 16 ≤ l || 2 ≤ s.gov.rung then s
  else
    let s := s.setB .GOV_SAG_STAT 0 0 l true
    if !s.rb .GOV_SAG_CFG 0 0 5 then s
    else
      let up := (sagGroups l).filter (fun g => !s.gov.sagUp.getLsbD g)
      let s := s.setGov (fun v => { v with sagUp := (sagGroups l).foldl (fun (b : BitVec 8) g => b ||| (1#8 <<< g)) v.sagUp,
                                           fallAt := v.fallAt.filter (fun e => !(sagGroups l).contains e.1) })
      if up.isEmpty || s.critical then s
      else ((s.bump .GOV_SAG_STAT 0 0 16 32 1).count (304 + l)).emits (up.map (fun g => Emit.stretch g true))

/-- A sag line falls: where it was a group's last, the 200 ns begin. -/
def State.sagFall (s : State) (l : Nat) : State :=
  if 16 ≤ l || !s.rb .GOV_SAG_STAT 0 0 l then s
  else
    let s := s.setB .GOV_SAG_STAT 0 0 l false
    let gs := (sagGroups l).filter (fun g => s.gov.sagUp.getLsbD g && !s.sagHigh g)
    gs.foldl (fun s g => s.setGov (fun v => { v with fallAt := Tab.set v.fallAt g s.ref })) s

/-- A _STRETCH is lowered, 200 ns after the last covering line fell (R215). -/
def State.stretchDrop (s : State) (g : Nat) : State :=
  match Tab.get? s.gov.fallAt g with
  | none => s
  | some a =>
    if s.ref < a + 200 then s
    else
      let s := s.setGov (fun v => { v with sagUp := v.sagUp &&& ~~~(1#8 <<< g), fallAt := Tab.erase v.fallAt g })
      if s.critical then s else s.emit (.stretch g false)

/-- Critical stretch begins or ends (Table 06-2); where it raises a _STRETCH from low, that is an episode (R215). -/
def State.setCritical (s : State) (on : Bool) : State :=
  if s.critical == on then s
  else
    let low := (List.range 8).filter (fun g => !s.gov.sagUp.getLsbD g)
    let s := (s.setB .GOV_STAT 0 0 1 on).emits (low.map (fun g => Emit.stretch g on))
    s.when (on && !low.isEmpty) (fun s => s.bump .GOV_SAG_STAT 0 0 16 32 1)

/-! ## The thermal model (R217 to R220) -/

/-- A node's next temperature in 1/2^20 °C (R217): its energy over the 10 µs as a fraction of nJ, the neighbours' and the
ambient's part, and the sensor's correction. The coefficients are 16.16 and 8.8 numbers in J/K and W/K. -/
def thermNext (nd : ThermNode) (th : List Int) (tAmb : Int) (i : Nat) (e : Nat × Nat) (smp : Option Int) : Int :=
  let x := nth th i 0
  let g := nd.neigh.foldl (fun (n : Int) a => n + (a.2 * 256 : Int) * (x - nth th a.1 0)) 0 + nd.gAmb * (x - tAmb * 65536)
  let l : Int := match smp with | some v => nd.lGain * (v * 65536 - x) | none => 0
  let den := nd.c * 1000000000 * 65536 * e.2
  Config.tempRound (x * den + (e.1 * 65536 * 2 ^ 20 * 65536 : Nat) - g * (10000 * 65536 * e.2 : Nat)
    + l * (nd.c * 1000000000 * e.2 : Nat)) den

/-- A node's mean interval energy over the last 100 µs (R219). -/
def State.meanPower (s : State) (i : Nat) : Nat × Nat :=
  let l := s.gov.powers.take 10
  (l.foldl (fun n p => n + nth p i 0) 0, max 1 l.length)

/-- The interval energy that the prediction gives a node at a moment: the instance's power on a core that an instance
reserves, active or starting within the horizon, else the mean of the last 100 µs (R219). -/
def State.predPower (s : State) (nd : ThermNode) (i at0 horizon : Nat) : Nat × Nat :=
  let inst : Option Inst := if nd.place < 48 then
      match (nth s.cores nd.place {}).reserved with
      | some k => Tab.get? s.cyc.insts k
      | none => none
    else none
  match inst with
  | some x =>
    if x.start ≤ s.now + horizon && x.start ≤ at0 && at0 < x.start + x.def0.length && x.def0.cores ≠ 0 then
      (x.def0.allowUj * 10000000, max 1 (x.def0.length * x.def0.cores))
    else s.meanPower i
  | none => s.meanPower i

/-- The model run forward `n` steps of 10 µs: the last temperatures, and the highest one of each node. -/
def State.runAhead (s : State) (horizon : Nat) : Nat → List Int → List Int → Nat → List Int × List Int
  | 0, th, hi, _ => (th, hi)
  | n + 1, th, hi, k =>
    let th' := s.gov.nodes.zipIdx.map (fun e =>
      thermNext e.1 th s.gov.tAmb e.2 (s.predPower e.1 e.2 (s.now + 10000 * k) horizon) none)
    s.runAhead horizon n th' ((hi.zip th').map (fun e => max e.1 e.2)) (k + 1)

/-- A temperature as a register shows it, in 1/16 °C. -/
def shownTemp (x : Int) : Int := Config.tempRound x 65536

/-- The highest of some temperatures and its node, the lowest node among equals. -/
def hottest (l : List Int) : Int × Nat :=
  match l.zipIdx with
  | [] => (0, 0)
  | a :: r => r.foldl (fun a b => if a.1 < b.1 then b else a) a

/-- The sensor samples of an interval (R43, R218): a sample that came and lies in −40 °C to 150 °C is fresh. -/
def freshSample (x : Option Int) : Bool := match x with | some v => -640 ≤ v && v ≤ 2400 | none => false

/-- A sensor's sample of one interval. -/
def State.sensor (s : State) (n : Nat) (x : Option Int) : State :=
  if freshSample x then
    let v := x.getD 0
    let good := min 100 (Tab.getD s.gov.goodCnt n 0 + 1)
    let s := s.setGov (fun g => { g with goodCnt := Tab.set g.goodCnt n good, staleCnt := Tab.erase g.staleCnt n })
    let s := (s.setF .GOV_TEMP (n / 4) 0 (16 * (n % 4)) 16 (to16 v)).setB .GOV_STALE 0 0 n false
    s.when (good = 100) (fun s => s.setB .GOV_FAILED 0 0 n false)
  else
    let st := min 10 (Tab.getD s.gov.staleCnt n 0 + 1)
    let s := s.setGov (fun g => { g with staleCnt := Tab.set g.staleCnt n st, goodCnt := Tab.erase g.goodCnt n })
    let s := s.setB .GOV_STALE 0 0 n true
    if st = 10 && !s.rb .GOV_FAILED 0 0 n then
      ((s.setB .GOV_FAILED 0 0 n true).logErr { cls := 0x08, sub := n, obj := some n }).raise 4
    else s

/-- The thermal clamp (Table 06-2). -/
def State.clampStep (s : State) (t1 : Int) : State :=
  let c := s.pointOf 20
  let top := s.topPoint
  let s :=
    if s.tlimit < t1 then
      (s.setGov (fun g => { g with clampOk := 0 })).setF .GOV_VF 0 0 20 4 (c - 1)
    else if t1 ≤ s.tlimit - (s.tband / 4 : Nat) && c < top then
      let n := s.gov.clampOk + 1
      if 10 ≤ n then (s.setGov (fun g => { g with clampOk := 0 })).setF .GOV_VF 0 0 20 4 (c + 1)
      else s.setGov (fun g => { g with clampOk := n })
    else s.setGov (fun g => { g with clampOk := 0 })
  s.setB .GOV_STAT 0 0 2 (s.pointOf 20 < top)

/-- The thermal emergency starts (Table 06-2, R221): EMERG begins at the highest point in use. -/
def State.startEmergency (s : State) : State :=
  if s.rb .GOV_STAT 0 0 0 then s
  else
    let hi := ((List.range 4).filter s.clusterPresent).foldl (fun m c => max m (s.rf .GOV_VF 0 0 (4 * c) 4)) 0
    let s := (s.setB .GOV_STAT 0 0 0 true).bump .GOV_STAT 0 0 16 16 1
    let s := (s.setF .GOV_VF 0 0 24 4 hi).setGov (fun g => { g with emergLow := 0 })
    (s.logErr { cls := 0x09, sub := 1 }).raise 3

/-- Critical stretch starts. -/
def State.startCritical (s : State) : State :=
  if s.critical then s else (s.setCritical true).logErr { cls := 0x09, sub := 2 }

/-- The emergency at an evaluation (Table 06-2). -/
def State.emergencyStep (s : State) (t1 : Int) (samples : List (Option Int)) : State :=
  let fresh := (samples.filter freshSample).map (fun x => x.getD 0)
  let above := fresh.any (fun v => s.tlimit < v)
  let hard := s.rb .GOV_ALARM_CFG 0 0 0 && s.alarmIn
  if !s.rb .GOV_STAT 0 0 0 then
    let s := s.when (above || hard) State.startEmergency
    s.when (fresh.any (fun v => s.tlimit + 80 < v)) State.startCritical
  else if fresh.all (fun v => v ≤ s.tlimit - 32) && t1 ≤ s.tlimit && !hard then
    (((s.setB .GOV_STAT 0 0 0 false).setF .GOV_VF 0 0 24 4 s.topPoint).setCritical false).setGov (fun g => { g with emergLow := 0 })
  else
    let e := s.pointOf 24
    let s := if e = 0 then s.setGov (fun g => { g with emergLow := min 100 (g.emergLow + 1) }) else s.setF .GOV_VF 0 0 24 4 (e - 1)
    s.when (s.gov.emergLow = 100 || fresh.any (fun v => s.tlimit + 80 < v)) State.startCritical

/-- An evaluation of the thermal model (R217 to R222): sensors, nodes, predictions, thermal actions. Every tenth evaluation
is that of a 100 µs update, which `T20` belongs to. -/
def State.evaluate (s : State) (samples : List (Option Int)) : State :=
  let s := (List.range 64).foldl (fun s n => s.sensor n (nth samples n none)) s
  let s := s.setB .GOV_STAT 0 0 4 (8 ≤ ((List.range 64).filter (fun n => s.rb .GOV_FAILED 0 0 n)).length)
  let fresh := (samples.take 64).filter freshSample
  let s := match fresh.map (fun x => x.getD 0) with
    | [] => s
    | a :: r => s.setF .GOV_TSTAT 0 0 0 16 (to16 (r.foldl max a))
  let base := s.fresh
  let e := s.gov.nodes.zipIdx.map (fun nd =>
    if nd.1.place < 48 then Tab.getD s.gov.ivl nd.1.place 0 else Config.free (base + nd.2))
  let s := { s with fresh := s.fresh + 64 }
  let ok (i : Nat) : Option Int :=
    if s.rb .GOV_STALE 0 0 i || s.rb .GOV_FAILED 0 0 i then none else nth samples i none
  let th := s.gov.nodes.zipIdx.map (fun nd => thermNext nd.1 s.gov.theta s.gov.tAmb nd.2 (nth e nd.2 0, 1) (ok nd.2))
  let s := s.setGov (fun g => { g with theta := th, powers := (e :: g.powers).take 10, ivl := [], ivlUn := 0 })
  let (last, hi) := s.runAhead 1000000 100 th th 0
  let (t1, node) := hottest hi
  let t1 := shownTemp t1
  let s := (s.setF .GOV_TSTAT 0 0 16 16 (to16 t1)).setF .GOV_TSTAT 0 0 48 6 node
  let s := last.zipIdx.foldl (fun s x => s.setF .GOV_MAP (x.2 / 4) 0 (16 * (x.2 % 4)) 16 (to16 (shownTemp x.1))) s
  (s.clampStep t1).emergencyStep t1 samples

/-- The 10 µs evaluation; at LL4 and LL5 the model is stopped (Table 06-6). -/
def State.thermal (s : State) (samples : List (Option Int)) : State := if 4 ≤ s.gov.rung then s else s.evaluate samples

/-- How far T20_MAX looks ahead: 20 ms in ns (R219). -/
def aheadNs : Nat := 20000000

/-- T20_MAX, ahead of each price update (R219). -/
def State.predict20 (s : State) : State :=
  let hi := (s.runAhead aheadNs 2000 s.gov.theta s.gov.theta 0).2
  s.setF .GOV_TSTAT 0 0 32 16 (to16 (shownTemp (hottest hi).1))

/-- A price update (R208 to R211, R223): the bucket closes; at LL4 and LL5 nothing else happens. -/
def State.priceUpdate (s : State) : State :=
  let s := s.closeBucket
  if 4 ≤ s.gov.rung then s
  else
    let s := s.setF .GOV_STAT 0 0 6 2 (s.rf .GOV_PROFILE 0 0 0 2)
    s.takeTab.predict20.assess.stepPrice

/-- A write of GOV_TLIMIT (R220): LIMIT within 0 to the ceiling, and raised only by the management port. -/
def State.writeTlimit (s : State) (mgmt : Bool) (v : Word) : State :=
  let l := sx16 (fld v 0 16)
  let ok := 0 ≤ l && l ≤ (s.gov.limitMax : Int) && (mgmt || l ≤ s.tlimit)
  let s := s.setF .GOV_TLIMIT 0 0 16 16 (fld v 16 16)
  if ok then s.setF .GOV_TLIMIT 0 0 0 16 (fld v 0 16) else s

/-- A write of GOV_SAG_CFG by the management port (R216): EN is cleared only while global stop is enabled. -/
def State.writeSag (s : State) (v : Word) : State :=
  let s := s.setF .GOV_SAG_CFG 0 0 0 5 (fld v 0 5)
  if bitOf v 5 || s.rb .OBS_STOP_CFG 0 0 0 then s.setB .GOV_SAG_CFG 0 0 5 (bitOf v 5) else s

/-- A write of GOV_PROFILE (R223): only the management port sets LOCK, which locks both fields. -/
def State.writeProfile (s : State) (mgmt : Bool) (v : Word) : State :=
  if s.rb .GOV_PROFILE 0 0 2 then s
  else (s.setF .GOV_PROFILE 0 0 0 2 (fld v 0 2)).setB .GOV_PROFILE 0 0 2 (mgmt && bitOf v 2)

/-- Every correction factor starts again at 1.0 (R203, GOV_LEARN.CLEAR). DESIGN CHOICE (log 171): its count of samples too. -/
def State.learnClear (s : State) : State := s.setGov (fun g => { g with corr := [] })

/-! ## The ladder (R224 to R232) -/

/-- A submission queue holds a published entry that has not been accepted; F0's admin SQ is one of them (R224, Table 00-3). -/
def State.published (s : State) : Bool :=
  s.sqs.any (fun e => e.2.pi != e.2.ci) || s.rf .ADM_SQ_PI 0 0 0 32 ≠ s.rf .ADM_SQ_CI 0 0 0 32

/-- The processor is idle (R224). An engine that runs nothing has no memory request outstanding, since its done comes after the last
of them (R39, R40, R142). -/
def State.idleNow (s : State) : Bool :=
  s.cores.all (fun c => c.run.isNone) && s.engs.all (fun e => e.1 == 6 || e.2.runs.isEmpty) && s.due.isEmpty && s.tml.xfers.isEmpty && s.tml.inb.isEmpty
  && s.tasks.all (fun e => e.2.opcode == 0x06 && e.2.phase == .running)
  && s.engs.all (fun e => e.2.ctl.isNone) && s.td.isEmpty && !s.published

/-- A COMPOSE with OUT zero is latched (R227). -/
def State.displays (s : State) : Bool := s.tasks.any (fun e => e.2.opcode == 0x06 && e.2.latchAt.isSome && e.2.w 2 = 0)

/-- The limits of R227 as GOV_RUNG.LIMIT shows them: rung and bit. -/
def State.rungLimits (s : State) : List (Nat × Nat) :=
  [(profileRung s.profile, 1)]
  ++ (if s.displays then [(2, 2)] else [])
  ++ (if (List.range 4).any (fun p => s.rf .TML_PORT p 0 0 3 = 3 || s.rf .TML_PORT p 0 0 3 = 4) then [(2, 4)] else [])
  ++ (if s.crs.any (fun e => e.2.state == .held) || (List.range 64).any (fun n => s.rb .ADM_STAT n 0 1) then [(3, 8)] else [])

/-- The deepest rung allowed (R227). -/
def State.deepest (s : State) : Nat := (s.rungLimits.map (·.1)).foldl min 5

/-- GOV_RUNG.LIMIT: the limits that give the deepest rung. -/
def State.limitBits (s : State) : Nat :=
  ((s.rungLimits.filter (fun l => l.1 == s.deepest)).map (·.2)).foldl (· + ·) 0

/-- Entry in ns without what is dirty, and worst exit in ns, of a rung (Table 06-5). -/
def rungTimes (k : Nat) : Nat × Nat :=
  match k with
  | 1 => (50, 150) | 2 => (500, 1500) | 3 => (5000, 15000) | 4 => (20000, 150000) | 5 => (150000, 1500000) | _ => (0, 0)

/-- How far off the timers of R228 are, in ns: wait and semaphore timeouts, watchdogs, a pending table. -/
def State.nextTimers (s : State) : List Int :=
  (s.flights.filterMap (fun e => e.2.wait.bind (fun w => w.deadline))).map (fun (t : Nat) => (t : Int) - s.ref)
  ++ s.ctxs.filterMap (fun e => if e.2.wdMs ≠ 0 && s.ctxActive e.1 && !s.wdHolds e.1 then
      some ((e.2.wdMs * 1000000 : Nat) - Tab.getD s.wd e.1 0 : Int) else none)
  ++ s.pendStart.toList.map (fun (t : Nat) => (t : Int) - s.now)

/-- The prediction of R228. -/
def State.idlePred (s : State) : Int :=
  s.nextTimers.foldl min (min ((s.nextStart : Int) - 20000 - s.now) (s.rf .GOV_IDLE_AVG 0 0 0 40 : Nat))

/-- The rung of R228 for a prediction; what is dirty at the deeper rungs is a free value. -/
def State.chooseRung (s : State) (pred : Int) : Nat → Nat
  | 0 => 0
  | k + 1 =>
    let t := rungTimes (k + 1)
    let dirty := if 3 ≤ k + 1 then Config.free (s.fresh + k) else 0
    if k + 1 ≤ s.deepest && (s.rf .GOV_BE (k + 1) 0 0 40 : Int) ≤ pred && ((t.1 + dirty + t.2 : Nat) : Int) ≤ pred then k + 1
    else s.chooseRung pred k

/-- An idle gap starts, and a rung is chosen (R228); none is entered during regrowth (R232). -/
def State.idleStart (s : State) : State :=
  if !s.idleNow || s.gov.gapAt.isSome || s.gov.rung ≠ 0 || s.gov.exiting || s.gov.entering.isSome then s
  else
    let s := s.setF .GOV_STAT 0 0 6 2 (s.rf .GOV_PROFILE 0 0 0 2)
    let pred := s.idlePred
    let k := if s.regrowing then 0 else s.chooseRung pred 5
    let s := s.setF .GOV_IDLE 0 0 0 40 (min (2 ^ 40 - 1) pred.toNat)
    { s with fresh := s.fresh + 5, gov := { s.gov with gapAt := some s.ref, entering := if k = 0 then none else some k } }

/-- An entry completes (R225): maquettes are lost from LL3 on, and a preload with them is discarded under R164; at LL5 Voxbin's tables
are spilled to the brumation area (R226). None completes during regrowth (R232), nor where the record of the entry raises a source that
wakes (R395, R410). -/
def State.rungEntered (s : State) : State :=
  match s.gov.entering with
  | none => s
  | some k =>
    if s.regrowing then s
    else
      let s := s.rungRec k false false
      if s.gov.entering ≠ some k then s
      else
      let s := (s.setGov (fun g => { g with entering := none, rung := k })).setF .GOV_RUNG_ENT k 0 0 32
        (s.rf .GOV_RUNG_ENT k 0 0 32 + 1)
      let s := s.when (3 ≤ k) (fun s => ((s.tasks.map (·.1)).foldl State.discard s).dropHints (fun _ => true))
      s.when (k == 5) (fun s => s.emit (.tables true (Config.regionAddr s.start.brumArea)))

/-- The exit scheduled ahead of a cyclic instance (R229). -/
def State.ladderExit (s : State) : State :=
  let k := match s.gov.entering with | some k => k | none => s.gov.rung
  if k ≠ 0 && !s.gov.exiting && s.nextStart ≤ s.now + 20000 + (rungTimes k).2 then s.wake else s

end Sys2Proof.Machine
end

