-- ==== Sys2Proof/Machine/Flags.lean ====
section
/-! DEFINITION. The comparator flags: what COMPARE sets (Table 03-18). -/

namespace Sys2Proof.Machine

/-- Table 03-18: the comparator's new value by OP. -/
def compareOp (op : Nat) (a b : Word) : Bool :=
  match op with
  | 0 => a == b
  | 1 => a != b
  | 2 => a.toNat < b.toNat
  | 3 => a.toNat ≤ b.toNat
  | 4 => b.toNat < a.toNat
  | 5 => b.toNat ≤ a.toNat
  | 6 => a.toInt < b.toInt
  | 7 => a.toInt ≤ b.toInt
  | 8 => b.toInt < a.toInt
  | 9 => b.toInt ≤ a.toInt
  | 10 => (a &&& b) != 0
  | _ => false

end Sys2Proof.Machine
end

