-- ==== Sys2Proof/Machine/Operands.lean ====
section
/-! DEFINITION. The operand forms of the command stream (R94 to R98, R103 to R122): the checks at decode, the address
fields, and the walks over headers that SKIP_IF and a zero-count REPEAT make. -/

namespace Sys2Proof.Machine

/-! ## Opcodes (Tables 03-3 and 03-4) -/

/-- What Table 03-4 says of an opcode: class, least and greatest SIZE, the flags allowed. -/
def opRow (op : Nat) : Option (Nat × Nat × Nat × Nat) :=
  match op with
  | 0x00 => some (0, 1, 255, 2)
  | 0x01 => some (1, 23, 23, 7)
  | 0x02 => some (2, 7, 7, 3)
  | 0x03 => some (1, 7, 7, 7)
  | 0x04 => some (3, 4, 4, 3)
  | 0x05 => some (3, 4, 4, 3)
  | 0x06 => some (4, 8, 72, 3)
  | 0x07 => some (6, 6, 6, 3)
  | 0x08 => some (5, 6, 6, 3)
  | 0x09 => some (5, 6, 6, 3)
  | 0x10 => some (0, 3, 3, 2)
  | 0x11 => some (0, 3, 3, 2)
  | 0x12 => some (0, 3, 3, 2)
  | 0x13 => some (0, 2, 2, 2)
  | 0x14 => some (0, 1, 1, 2)
  | 0x18 => some (0, 3, 3, 0)
  | 0x19 => some (0, 3, 3, 0)
  | 0x1A => some (0, 3, 3, 0)
  | 0x1B => some (0, 2, 2, 0)
  | 0x1C => some (0, 2, 2, 0)
  | 0x1D => some (0, 1, 1, 0)
  | 0x1E => some (0, 2, 10, 2)
  | 0x1F => some (0, 3, 3, 0)
  | 0x20 => some (0, 3, 3, 0)
  | 0x21 => some (0, 5, 5, 0)
  | 0x22 => some (0, 2, 2, 0)
  | 0x23 => some (0, 3, 3, 0)
  | _ => none

/-- OPCODE or SIZE of a header is not in Table 03-4; a COMPOSE has 8 words and 8 more for each layer. -/
def hdrBad (h : Word) : Bool :=
  match opRow (hdrOp h) with
  | none => true
  | some (_, lo, hi, _) => hdrSize h < lo || hi < hdrSize h || (hdrOp h = 6 && hdrSize h % 8 ≠ 0)

/-- The header of a command is malformed by itself (R96, R97). -/
def hdrFault (h : Word) : Bool :=
  hdrBad h
  || (match opRow (hdrOp h) with
      | none => true
      | some (c, _, _, fl) => fld h 36 4 ≠ c || (fld h 40 8) &&& (255 - fl) ≠ 0 || (c = 0 && fld h 32 4 ≠ 0))

/-- The engine class of an opcode. -/
def opCls (op : Nat) : Option Cls :=
  match op with
  | 1 => some .cores | 2 => some .tiler | 3 => some .cores | 4 => some .dma | 5 => some .dma | 6 => some .comp
  | 7 => some .gate | 8 => some .link | 9 => some .link | _ => none

/-! ## Reserved bits and ranges (Tables 03-7 to 03-21) -/

/-- Word `i` of a command. -/
def cw (ws : List Word) (i : Nat) : Word := nth ws i 0

/-- Bits outside [w-1:0] of a word are set. -/
def above (v : Word) (w : Nat) : Bool := v.toNat >>> w ≠ 0

/-- An address field sets a reserved bit of its indirect form (Table 03-5). -/
def addrRsv (v : Word) : Bool := bitOf v 63 && fld v 52 11 ≠ 0

/-- A pixel format of Table 03-13, with whether two-plane formats may be used. -/
def fmtOk (f : Nat) (twoPlane : Bool) : Bool := f ≤ 2 || (twoPlane && 4 ≤ f && f ≤ 6)

/-- STATE_LEN of a DISPATCH, RENDER or PRELOAD_HINT is out of range. -/
def stateLenBad (n : Nat) : Bool := n % 64 ≠ 0 || n < 64 || 32768 < n

/-- The target size and tile size of BIN and RENDER are out of range. -/
def targetBad (v : Word) : Bool :=
  above v 40 || fld v 0 16 = 0 || 16384 < fld v 0 16 || fld v 16 16 = 0 || 16384 < fld v 16 16
  || fld v 32 8 < 4 || 6 < fld v 32 8

/-- The set bits of an 8-bit mask, rising. -/
def bitsOf (m : Nat) : List Nat := (List.range 8).filter (fun i => Nat.testBit m i)

/-- Layer block `b` (its first word) of layer `n` of a COMPOSE is out of range (Table 03-11). -/
def layerBad (ws : List Word) (b n fallback : Nat) (gen : Bool) : Bool :=
  let q (i : Nat) : Word := cw ws (b + i)
  let sw := fld (q 2) 0 16
  let sh := fld (q 2) 16 16
  let dw := fld (q 3) 32 16
  let dh := fld (q 3) 48 16
  let fmt := fld (q 4) 0 4
  addrRsv (q 0) || addrRsv (q 1) || addrRsv (q 5) || addrRsv (q 6) || addrRsv (q 7)
  || above (q 4) 19
  || (fmt ≤ 2 && q 1 ≠ 0)
  || sw = 0 || 16384 < sw || sh = 0 || 16384 < sh || fld (q 2) 32 32 % 256 ≠ 0
  || dw = 0 || dh = 0
  || (if n < 4 then 4 * dw < sw || 8 * sw < dw || 4 * dh < sh || 8 * sh < dh else dw ≠ sw || dh ≠ sh)
  || !fmtOk fmt (n < 4) || fld (q 4) 4 2 = 3
  || (!(fallback = 2 && gen) && (q 6 ≠ 0 || q 7 ≠ 0))

/-- A list of numbers has two equal ones. -/
def hasDup : List Nat → Bool
  | [] => false
  | a :: r => r.contains a || hasDup r

/-- A COMPOSE is malformed at decode (R106). -/
def composeBad (ws : List Word) : Bool :=
  let w1 := cw ws 1
  let en := fld w1 0 8
  let gen := fld w1 8 8
  let fb := fld w1 16 2
  let ls := (bitsOf en).zipIdx
  above w1 18 || gen &&& (255 - en) ≠ 0 || fb = 3
  || hdrSize (cw ws 0) ≠ 8 + 8 * (bitsOf en).length
  || addrRsv (cw ws 2) || addrRsv (cw ws 4) || addrRsv (cw ws 7)
  || above (cw ws 3) 36 || fld (cw ws 3) 0 16 = 0 || 8192 < fld (cw ws 3) 0 16 || fld (cw ws 3) 16 16 = 0
  || 4352 < fld (cw ws 3) 16 16 || !fmtOk (fld (cw ws 3) 32 4) true
  || above (cw ws 5) 32
  || ls.any (fun l => layerBad ws (8 + 8 * l.2) l.1 fb (Nat.testBit gen l.1))
  || hasDup (ls.map (fun l => fld (cw ws (12 + 8 * l.2)) 16 3))

/-- A timeout field is out of range. -/
def timeoutBad (n : Nat) : Bool := 16777216 < n

/-- The words of a command are malformed at decode: a reserved bit set or a field outside its range (Table 03-24). -/
def wordsBad (ws : List Word) : Bool :=
  let w := cw ws
  match hdrOp (w 0) with
  | 0x00 => false
  | 0x01 =>
    [1, 2, 6, 8, 10, 11, 12, 13].any (fun i => addrRsv (w i))
    || above (w 3) 24 || stateLenBad (fld (w 3) 0 16)
    || fld (w 4) 0 32 = 0 || fld (w 4) 32 32 = 0 || above (w 5) 32 || w 5 = 0
    || 2 ^ 32 < fld (w 4) 0 32 * fld (w 4) 32 32 * (w 5).toNat
    || above (w 7) 40 || above (w 9) 5 || 16 < (w 9).toNat || (w 9 = 0 && w 8 ≠ 0) || above (w 22) 40
  | 0x02 =>
    addrRsv (w 1) || above (w 2) 32 || w 2 = 0 || addrRsv (w 3) || above (w 4) 40 || (w 4).toNat < 4096 || addrRsv (w 5)
    || targetBad (w 6)
  | 0x03 =>
    addrRsv (w 1) || addrRsv (w 2) || above (w 3) 16 || stateLenBad (w 3).toNat || addrRsv (w 4) || above (w 5) 40
    || (w 5).toNat < 64 || targetBad (w 6)
  | 0x04 => addrRsv (w 1) || addrRsv (w 2) || above (w 3) 40 || w 3 = 0
  | 0x05 => addrRsv (w 1) || above (w 2) 40 || (w 2).toNat < 8 || (w 2).toNat % 8 ≠ 0
  | 0x06 => composeBad ws
  | 0x07 => addrRsv (w 1) || above (w 2) 40 || addrRsv (w 3) || above (w 4) 40 || above (w 5) 6
  | 0x08 => addrRsv (w 1) || addrRsv (w 2) || above (w 3) 44 || fld (w 3) 0 40 % 64 ≠ 0 || fld (w 3) 0 40 = 0
      || above (w 4) 35 || fld (w 4) 33 2 = 3
  | 0x09 => addrRsv (w 1) || addrRsv (w 2) || above (w 3) 44 || fld (w 3) 0 40 % 64 ≠ 0 || fld (w 3) 0 40 = 0
      || above (w 4) 35 || fld (w 4) 33 2 = 3
  | 0x10 => above (w 1) 38 || fld (w 1) 32 2 = 3
  | 0x11 => above (w 1) 61 || timeoutBad (fld (w 1) 32 25)
  | 0x12 => fld (w 1) 32 32 = 0 || above (w 2) 25 || timeoutBad (fld (w 2) 0 25)
  | 0x13 => fld (w 1) 32 32 = 0
  | 0x14 => false
  | 0x18 => above (w 1) 11 || bitOf (w 1) 3 || fld (w 1) 6 2 ≠ 0 || (bitOf (w 1) 5 && addrRsv (w 2))
  | 0x19 => above (w 1) 11 || bitOf (w 1) 3 || fld (w 1) 5 3 ≠ 0
  | 0x1A => above (w 1) 19 || fld (w 1) 2 2 ≠ 0 || bitOf (w 1) 7 || fld (w 1) 13 3 ≠ 0 || 10 < fld (w 1) 8 4
  | 0x1B => above (w 1) 8 || bitOf (w 1) 3 || fld (w 1) 4 4 = 0
  | 0x1C => above (w 1) 36
  | 0x1D => false
  | 0x1E => above (w 1) 8
  | 0x1F => addrRsv (w 1) || above (w 2) 44 || fld (w 2) 36 4 ≠ 0
  | 0x20 => addrRsv (w 1) || above (w 2) 4
  | 0x21 =>
    let tgt := fld (w 1) 0 2
    let kind := fld (w 1) 2 2
    above (w 1) 13 || 1 < tgt || 1 < kind || 10 < fld (w 1) 4 4 || (kind = 1 && fld (w 1) 4 4 ≠ 0)
    || (tgt = 0 && (16 < fld (w 1) 8 5 || w 2 ≠ 0 || w 3 ≠ 0))
    || (tgt = 1 && (fld (w 1) 8 5 ≠ 0 || addrRsv (w 2) || above (w 3) 40)) || addrRsv (w 4)
  | 0x22 => false
  | 0x23 => addrRsv (w 1) || above (w 2) 16 || stateLenBad (w 2).toNat
  | _ => true

/-! ## Address fields (R98) -/

/-- The effective address of an address field, aligned to `al`; `none` where it wraps, reaches 2^63 or is misaligned. -/
def Flight.addrOf (f : Flight) (v : Word) (al : Nat) : Option Word :=
  let a : Int :=
    if bitOf v 63 then
      ((nth f.areg (fld v 48 4) {}).base.toNat : Int) + (BitVec.ofNat 48 (fld v 0 48)).toInt
    else (fld v 0 63 : Int)
  if a < 0 || (2 : Int) ^ 63 ≤ a || a % (max 1 al : Nat) ≠ 0 then none else some (BitVec.ofInt 64 a)

/-- The address fields of a command that is handed to an engine, with their alignments. -/
def addrFields (ws : List Word) : List (Nat × Nat) :=
  match hdrOp (cw ws 0) with
  | 0x01 => [(1, 256), (2, 64), (6, 64), (8, 16), (10, 1), (11, 1), (12, 1), (13, 1)]
  | 0x02 => [(1, 64), (3, 4096), (5, 16)]
  | 0x03 => [(1, 4096), (2, 64), (4, 64)]
  | 0x04 => [(1, 1), (2, 1)]
  | 0x05 => [(1, 8)]
  | 0x06 => [(2, 256), (4, 256), (7, 16)] ++ (List.range ((hdrSize (cw ws 0) - 8) / 8)).flatMap (fun i =>
      [(8 + 8 * i, 256), (9 + 8 * i, 256), (13 + 8 * i, 256), (14 + 8 * i, 256), (15 + 8 * i, 256)])
  | 0x07 => [(1, 64), (3, 4096)]
  | 0x08 => [(1, 64), (2, 64)]
  | 0x09 => [(1, 64), (2, 64)]
  | _ => []

/-- The words of an engine command with every address field resolved (R98, R236). -/
def Flight.resolve (f : Flight) (ws : List Word) : Option (List Word) :=
  (addrFields ws).foldl (fun r a => match r with
    | none => none
    | some l => (f.addrOf (cw l a.1) a.2).map (fun v => modAt l a.1 (fun _ => v))) (some ws)

/-! ## Walks over headers (R116, R118) -/

/-- How a walk over headers ends: at an offset, for want of a block, at a malformed header, or in the guilty fault. -/
inductive Walk where
  | done (off : Nat)
  | need (off : Nat)
  | malformed (off : Nat)
  | guilty
  deriving DecidableEq, Repr

/-- The walk of SKIP_IF over `n` commands. -/
def Flight.skipWalk (f : Flight) : Nat → Nat → Walk
  | 0, off => .done off
  | n + 1, off =>
    if f.length ≤ off then .guilty
    else
      match f.hdrAt off with
      | none => .need off
      | some h =>
        if hdrBad h then .malformed off
        else if f.length < off + 8 * hdrSize h || hdrOp h = 0x1C || hdrOp h = 0x1D then .guilty
        else f.skipWalk n (off + 8 * hdrSize h)

/-- The walk of a zero-count REPEAT to just after the matching END_REPEAT, at nesting depth `d`; the first number bounds the
commands passed. -/
def Flight.repeatWalk (f : Flight) : Nat → Nat → Nat → Walk
  | 0, _, _ => .guilty
  | n + 1, d, off =>
    if f.length ≤ off then .guilty
    else
      match f.hdrAt off with
      | none => .need off
      | some h =>
        let next := off + 8 * hdrSize h
        if hdrBad h then .malformed off
        else if f.length < next then .guilty
        else if hdrOp h = 0x1C then f.repeatWalk n (d + 1) next
        else if hdrOp h = 0x1D then (if d = 0 then .done next else f.repeatWalk n (d - 1) next)
        else f.repeatWalk n d next

/-- The trip count of a REPEAT (R118). -/
def Flight.trips (f : Flight) (w1 : Word) : Nat :=
  if bitOf w1 32 then (nth f.c (fld w1 33 3) 0).toNat else fld w1 0 32

/-- The walk that the command at the submission's place makes, if it makes one. -/
def Flight.walk (f : Flight) (ws : List Word) : Option Walk :=
  let next := f.off + 8 * hdrSize (cw ws 0)
  match hdrOp (cw ws 0) with
  | 0x1B => some (f.skipWalk (fld (cw ws 1) 4 4) next)
  | 0x1C => if f.trips (cw ws 1) = 0 && f.loops.length < 4 then some (f.repeatWalk (f.length / 8 + 1) 0 next) else none
  | _ => none

end Sys2Proof.Machine
end

