-- ==== Sys2Proof/Machine/Stream.lean ====
section
/-! DEFINITION. The stream sequencers (chapter 03): reading the buffer, the checks at decode, the hand-over of engine
commands, the synchronisation, scalar, loop, address-register, observation and hint commands, and the resident routines. -/

namespace Sys2Proof.Machine

/-! ## Reading and checking (R94 to R97, R116, R118, R123) -/

/-- A block of the buffer is asked for, from a byte offset, unless its read is outstanding (R123). -/
def State.askBlock (s : State) (f off : Nat) : State :=
  match Tab.get? s.flights f with
  | none => s
  | some x =>
    if (s.readOf (.buffer f off) none).isSome then s else s.readMem (.buffer f off) (x.addr + BitVec.ofNat 64 off) (min 256 (x.length - off))

/-- A watch of a submission whose result does not apply (R122, R414): a write of it that the cipher refuses is a page fault (R413). -/
def State.invalidWatch (f : Nat) (s : State) (w : Watch) : State :=
  match Tab.get? s.flights f with
  | none => s
  | some x =>
    if s.refused (s.ctxPart x.ctx) w.result 128 then (s.noteRefused (s.ctxPart x.ctx) w.result 128).guilty f 8 none w.result
    else
      let s := s.writeMem (s.forCtx x.ctx) w.result (mkWord [(16, 16, w.layer), (32, 16, w.op)] :: List.replicate 15 0)
      (s.bump .WCH_CNT 0 0 0 32 1).bump .WCH_CNT 0 0 32 32 1

/-- The submission has reached the end of its buffer (R102, R118, R122, R124): an open loop is a guilty fault; the implied
FENCE waits for its engine commands; then it leaves its sequencer, to be retired. DESIGN CHOICE (log 118): an open loop is reported at
offset LENGTH, with LAYER and OPERATOR 0. -/
def State.atEnd (s : State) (f : Nat) (x : Flight) : State :=
  if !x.loops.isEmpty then s.guilty f 5 (some x.length) 0
  else if !(x.out.isEmpty && x.pend.isEmpty) then s.park f .window none
  else
    let s := x.watches.foldl (State.invalidWatch f) s
    s.updFlight f (fun x => { x with watches := [], seqr := none, readySince := none })

/-- The checks of a command all of whose words are there, and what stops it from being issued now: its implied FENCE, a full
window, or ORDERED before an engine command (R59, R97, R100, R102, R116, R118). -/
def State.settleCmd (s : State) (f : Nat) (x : Flight) (ws : List Word) : State :=
  let h := cw ws 0
  let eng := (opCls (hdrOp h)).isSome
  if hdrFault h || wordsBad ws then s.guilty f 0xB none 0
  else
    match x.walk ws with
    | some (.need o) => s.askBlock f o
    | some (.malformed o) => s.guilty f 0xB (some o) 0
    | some .guilty => s.guilty f 5 none 0
    | _ =>
      if x.fencing && !(x.out.isEmpty && x.pend.isEmpty) then s.park f .window none
      else if eng && x.ordered && s.earlierOut x.sq x.seq then s.park f (.earlier x.sq (s.oldestBefore x.sq x.seq)) none
      else if eng && 64 ≤ x.out.length then s.park f .window none
      else s

/-- A submission may run on its sequencer. -/
def Flight.onSeq (x : Flight) : Bool := x.seqr.isSome && x.wait.isNone && x.ending.isNone && !x.inTeardown

/-- What a submission on a sequencer does before its next command: it reads blocks, checks the command, or parks. -/
def State.settle (s : State) (f : Nat) : State :=
  match Tab.get? s.flights f with
  | none => s
  | some x =>
    if !x.onSeq || !s.frontRuns then s
    else
      match x.call with
      | some _ => (match x.cur with | some ws => s.settleCmd f x ws | none => s)
      | none =>
        if x.off == x.length then s.atEnd f x
        else
          match x.hdrAt x.off with
          | none => s.askBlock f x.off
          | some h =>
            if hdrFault h || x.length < x.off + 8 * hdrSize h then s.guilty f 0xB none 0
            else
              match x.cmdAt x.off with
              | some ws => s.settleCmd f x ws
              | none =>
                match (List.range (hdrSize h)).find? (fun i => (Tab.get? x.words (x.off / 8 + i)).isNone) with
                | some i => s.askBlock f (x.off + 8 * i)
                | none => s

/-- A block of the buffer arrives (R123): its words inside the buffer are kept. -/
def State.blockRead (s : State) (f off : Nat) (data : List Word) : State :=
  match Tab.get? s.flights f with
  | none => s
  | some x =>
    if off % 8 ≠ 0 then s
    else
      let ws := data.take (min 32 ((x.length - off) / 8))
      let t := ws.zipIdx.foldl (fun t e => Tab.set t (off / 8 + e.2) e.1) x.words
      (s.updFlight f (fun x => { x with words := t })).settle f

/-- A command of a submission is executed: the submission runs on a sequencer, its next command has this opcode and nothing
holds it; commands are counted for the sequencer (Table 13-1), and 4,096 of them without a launch or a park are the most
(R123). -/
def State.runCmd (s : State) (f op : Nat) (g : State → Flight → List Word → State) : State :=
  let s := s.settle f
  match Tab.get? s.flights f with
  | none => s
  | some x =>
    if !x.onSeq || !s.frontRuns || 4096 ≤ x.count then s
    else
      match x.cur with
      | none => s
      | some ws =>
        if hdrOp (cw ws 0) ≠ op || (match x.walk ws with | some (.need _) => true | _ => false) then s
        else
          let s := s.updFlight f (fun x => { x with count := x.count + 1 })
          let s := s.count (256 + x.seqr.getD 0) 1 { part := s.ctxPart x.ctx, ctx := some x.ctx, layer := some (hdrLayer (cw ws 0)) }
          (g s x ws).settle f

/-- The submission passes its command. -/
def State.pass (s : State) (f : Nat) : State := s.updFlight f Flight.advance

/-- The command is malformed (Table 03-24). -/
def State.malformed (s : State) (f : Nat) : State := s.guilty f 0xB none 0

/-! ## Engine commands (R96, R100, R103 to R111) -/

/-- ENGINE of a command is absent for its class (R96, R234). -/
def State.engAbsent (s : State) (c : Cls) (part eng : Nat) : Bool :=
  match c with
  | .cores => eng ≠ 0 || (s.ownedCores part).isEmpty
  | .link => eng ≠ 15 && (s.physEng c eng).isNone
  | _ => (s.physEng c eng).isNone

/-- The workgroups of a DISPATCH, or the tiles of a RENDER (R104). -/
def gridOf (ws : List Word) : Nat :=
  let w6 := cw ws 6
  let t := 2 ^ fld w6 32 8
  match hdrOp (cw ws 0) with
  | 1 => fld (cw ws 4) 0 32 * fld (cw ws 4) 32 32 * (cw ws 5).toNat
  | 3 => ((fld w6 0 16 + t - 1) / t) * ((fld w6 16 16 + t - 1) / t)
  | _ => 0

/-- The ranges that a command declares and its cores clean (R101). -/
def outsOf (ws : List Word) (list : List Word) : List (Word × Nat) :=
  match hdrOp (cw ws 0) with
  | 1 =>
    (if cw ws 7 = 0 then [] else [(cw ws 6, (cw ws 7).toNat)])
    ++ (List.range (cw ws 9).toNat).map (fun i => (cw list (2 * i), (cw list (2 * i + 1)).toNat))
  | 3 => [(cw ws 4, (cw ws 5).toNat)]
  | _ => []

/-- The range that a watch names on a DISPATCH, if the DISPATCH declares it (R122). -/
def watchRange (ws list : List Word) (r : Nat) : Option (Word × Nat) :=
  if r = 0 then (if cw ws 7 = 0 then none else some (cw ws 6, (cw ws 7).toNat))
  else if (cw ws 9).toNat < r then none
  else some (cw list (2 * (r - 1)), (cw list (2 * (r - 1) + 1)).toNat)

/-- An engine command is handed over to the scheduler (R100, R234): the submission passes it and parks until it has launched,
or completed without ASYNC; `State.waitPoll` names what it lacks. `ws` has its addresses resolved. -/
def State.handOver (s : State) (f : Nat) (x : Flight) (c : Cls) (ws list : List Word) (entry : Word) : State :=
  let h := cw ws 0
  let part := (s.ctxPart x.ctx).getD 0
  let eng := fld h 32 4
  if s.engAbsent c part eng then s.guilty f 6 none 0
  else
    let k := s.nextTask
    let dispatch := hdrOp h = 1
    let wcet := dispatch && cw ws 22 ≠ 0
    let arm := x.watches.map (fun w => { w with layer := hdrLayer h, op := hdrOper h })
    let good := if dispatch then arm.filterMap (fun w => (watchRange ws list w.range).map (fun r => { w with addr := r.1, len := r.2 }))
      else []
    let t : Task := { f := f, sq := x.sq, fn := (s.ctxFn x.ctx).getD 0, ctx := x.ctx, part := part, cls := c, opcode := hdrOp h,
                      words := ws, outs := outsOf ws list, off := x.off, layer := hdrLayer h, op := hdrOper h,
                      isync := bitOf h 40, trace := hdrTrace h, taskGrain := bitOf h 42, engine := eng, readyAt := s.ref,
                      waitFrom := s.ref, grid := gridOf ws, entry := entry,
                      stateAddr := if c == .cores then cw ws 2 else 0,
                      stateLen := if c == .cores then fld (cw ws 3) 0 16 else 0,
                      watches := good, rtc := wcet && s.isSlotCtx x.ctx }
    let s := { s with tasks := Tab.set s.tasks k t, nextTask := k + 1 }
    let s := if dispatch then
        (arm.filter (fun w => (watchRange ws list w.range).isNone)).foldl (State.invalidWatch f) s
      else s
    let s := s.updFlight f (fun x => { (x.advance) with pend := x.pend ++ [k], watches := if dispatch then [] else x.watches })
    (s.park f .window none).wake.considerNew k

/-- An engine command without further conditions: its addresses are resolved, and it is handed over. -/
def State.engCmd (s : State) (f : Nat) (x : Flight) (ws : List Word) (ok : List Word → Bool) : State :=
  match opCls (hdrOp (cw ws 0)), x.resolve ws with
  | some c, some r => if ok r then s.handOver f x c r [] 0 else s.malformed f
  | _, _ => s.malformed f

/-- DISPATCH (R103): OUT_LIST is read as it is issued; `none` is a read that faults. -/
def State.cmdDispatch (s : State) (f : Nat) (x : Flight) (ws : List Word) (list : Option (List Word)) : State :=
  match x.resolve ws with
  | none => s.malformed f
  | some r =>
    let n := (cw ws 9).toNat
    if n = 0 then s.handOver f x .cores r [] (cw r 1)
    else
      let s := s.readMem (.cmdData f) (cw r 8) (16 * n)
      match s.unlessRefused (s.ctxPart x.ctx) (cw r 8) (16 * n) list with
      | none => (s.noteRefused (s.ctxPart x.ctx) (cw r 8) (16 * n)).guilty f 8 none (cw r 8)
      | some l =>
        if (List.range n).any (fun i => (cw l (2 * i)).toNat % 64 ≠ 0) then s.malformed f
        else s.handOver f x .cores r l (cw r 1)

/-- RENDER (R104): the entry point is read from the pipeline state; `none` is a read that faults, and so is one that the cipher
refuses (R324). -/
def State.cmdRender (s : State) (f : Nat) (x : Flight) (ws : List Word) (entry : Option Word) : State :=
  match x.resolve ws with
  | none => s.malformed f
  | some r =>
    let s := s.readMem (.cmdData f) (cw r 2) 8
    match s.unlessRefused (s.ctxPart x.ctx) (cw r 2) 8 entry with
    | none => (s.noteRefused (s.ctxPart x.ctx) (cw r 2) 8).guilty f 8 none (cw r 2)
    | some e => if e.toNat % 256 ≠ 0 then s.malformed f else s.handOver f x .cores r [] e

/-- An event handle of this node's or another's is one that the submission may name at issue (R112): well formed, and, at a
home on this node, bound to the partition. -/
def State.handleOk (s : State) (x : Flight) (h : Half) : Bool :=
  evWellFormed h && (evNode h ≠ s.node || (s.evCheck h (s.ctxPart x.ctx)).isNone)

/-- The destination of a LOAD_WEIGHTS lies in one sealed range of the partition (R110, R323). -/
def State.sealedDst (s : State) (x : Flight) (ws : List Word) : Bool :=
  match s.partOffset (cw ws 3), s.ctxPart x.ctx with
  | some a, some t => s.inOneSeal t a (cw ws 4).toNat
  | _, _ => false

/-- A link transfer names another node, and an event it may name (R111, R112). DESIGN CHOICE (log 126): EVENT is not checked where EV_EN
is 0. -/
def State.linkOk (s : State) (x : Flight) (ws : List Word) : Bool :=
  fld (cw ws 3) 40 4 ≠ s.node && (!bitOf (cw ws 4) 32 || s.handleOk x (BitVec.ofNat 32 (fld (cw ws 4) 0 32)))

/-! ## Synchronisation (R112 to R114, R128 to R138) -/

/-- The deadline of a timeout in µs, none for 0 (R152). -/
def State.deadline (s : State) (us : Nat) : Option Nat := if us = 0 then none else some (s.ref + 1000 * us)

/-- RECORD (R113, R128). -/
def State.cmdRecord (s : State) (f : Nat) (x : Flight) (ws : List Word) : State :=
  let w1 := cw ws 1
  let h : Half := BitVec.ofNat 32 (fld w1 0 32)
  let v := if bitOf w1 34 then nth x.c (fld w1 35 3) 0 else cw ws 2
  let mode := fld w1 32 2
  if !s.handleOk x h then s.malformed f
  else if evNode h == s.node then
    ((s.traceSync x (cw ws 0) (v.toNat % 2 ^ 32)).pass f).recordLocal (evIdx h) mode v (some (x.ctx, s.node)) (some (hdrLayer (cw ws 0)))
  else if !s.nodeLive (evNode h) then s.endEarly f 0xD
  else (s.send (evNode h) (.record h mode v (some (x.ctx, s.node))) (some f)).park f (.event h 0) none

/-- WAIT (R130, R132, R134). -/
def State.cmdWait (s : State) (f : Nat) (x : Flight) (ws : List Word) : State :=
  let w1 := cw ws 1
  let h : Half := BitVec.ofNat 32 (fld w1 0 32)
  let target := if bitOf w1 57 then nth x.c (fld w1 58 3) 0 else cw ws 2
  let dl := s.deadline (fld w1 32 25)
  if !s.handleOk x h then s.malformed f
  else if evNode h == s.node then
    match Tab.get? s.events (evIdx h) with
    | none => s.malformed f
    | some e =>
      if target.toNat ≤ e.value.toNat then
        ((s.progress x.ctx).traceSync x (cw ws 0) (target.toNat % 2 ^ 32)).pass f
      else if e.abandoned then s.endEarly f 2
      else
        let s := s.updEvent (evIdx h) (fun e => { e with waiters := e.waiters ++ [(f, target)] })
        s.park f (.event h target) dl
  else if !s.nodeLive (evNode h) then s.endEarly f 2
  else (s.remoteWait h target f).park f (.event h target) dl

/-- SEM_ACQUIRE (R137). -/
def State.cmdSemAcquire (s : State) (f : Nat) (x : Flight) (ws : List Word) : State :=
  let w1 := cw ws 1
  let i := fld w1 0 12
  let n := fld w1 28 4
  let k := fld w1 32 32
  let dl := s.deadline (fld (cw ws 2) 0 25)
  if fld w1 12 16 ≠ 0 then s.malformed f
  else if n == s.node then
    let m := s.semOf i
    if (s.semCheck i (s.ctxPart x.ctx)).isSome then s.malformed f
    else if m.queue.isEmpty && k ≤ m.value then
      let s := s.setSem i ({ m with value := m.value - k }.hold x.ctx n k)
      let s := s.count 302 1 { part := some m.part, ctx := some x.ctx, layer := some (hdrLayer (cw ws 0)) }
      ((s.progress x.ctx).traceSync x (cw ws 0) k).pass f
    else (s.park f (.sem n i k) dl).semAcquire i { node := n, f := f, ctx := x.ctx, count := k }
  else if !s.nodeLive n then s.endEarly f 2
  else
    let s := { s with remoteAcqs := s.remoteAcqs ++ [RemoteAcq.mk n i k x.ctx (some f)] }
    (s.send n (.semAcq i k x.ctx) (some f)).park f (.sem n i k) dl

/-- SEM_RELEASE (R137). -/
def State.cmdSemRelease (s : State) (f : Nat) (x : Flight) (ws : List Word) : State :=
  let w1 := cw ws 1
  let i := fld w1 0 12
  let n := fld w1 28 4
  let k := fld w1 32 32
  if fld w1 12 16 ≠ 0 then s.malformed f
  else if n == s.node then
    if (s.semCheck i (s.ctxPart x.ctx)).isSome then s.malformed f
    else ((s.traceSync x (cw ws 0) k).pass f).semRelease i x.ctx n k
  else if !s.nodeLive n then s.endEarly f 0xD
  else (s.send n (.semRel i k x.ctx) (some f)).park f (.sem n i 0) none

/-! ## Scalar control, loops and address registers (R115 to R118) -/

/-- Counter `i` holds a value. -/
def Flight.setC (x : Flight) (i : Nat) (v : Word) : Flight := { x with c := modAt x.c i (fun _ => v) }

/-- SET_SCALAR (R115): `mem` is the word read, or in mode 3 any word; `none` is an access that faults or is refused. -/
def State.cmdSetScalar (s : State) (f : Nat) (x : Flight) (ws : List Word) (mem : Option Word) : State :=
  let w1 := cw ws 1
  let dst := fld w1 0 3
  let src := nth x.c (fld w1 8 3) 0
  match fld w1 4 2 with
  | 0 => (s.updFlight f (fun x => x.setC dst (cw ws 2))).pass f
  | 1 => (s.updFlight f (fun x => x.setC dst src)).pass f
  | m =>
    match x.addrOf (cw ws 2) 8 with
    | none => s.malformed f
    | some a =>
      let s := s.when (m = 2) (fun s => s.readMem (.cmdData f) a 8)
      match s.unlessRefused (s.ctxPart x.ctx) a 8 mem with
      | none => (s.noteRefused (s.ctxPart x.ctx) a 8).guilty f 8 none a
      | some v =>
        if m = 2 then (s.updFlight f (fun x => x.setC dst v)).pass f else (s.writeMem (s.forCtx x.ctx) a [src]).pass f

/-- ADD_SCALAR (R115). -/
def State.cmdAddScalar (s : State) (f : Nat) (x : Flight) (ws : List Word) : State :=
  let w1 := cw ws 1
  let dst := fld w1 0 3
  let v := if bitOf w1 4 then nth x.c (fld w1 8 3) 0 else cw ws 2
  (s.updFlight f (fun x => x.setC dst (nth x.c dst 0 + v))).pass f

/-- COMPARE (R115). -/
def State.cmdCompare (s : State) (f : Nat) (x : Flight) (ws : List Word) : State :=
  let w1 := cw ws 1
  let a := nth x.c (fld w1 4 3) 0
  let b := if bitOf w1 12 then nth x.c (fld w1 16 3) 0 else cw ws 2
  (s.updFlight f (fun x => { x with k := modAt x.k (fld w1 0 2) (fun _ => compareOp (fld w1 8 4) a b) })).pass f

/-- SKIP_IF (R116): its walk has passed the headers; where the condition holds the submission goes on after them. -/
def State.cmdSkipIf (s : State) (f : Nat) (x : Flight) (ws : List Word) : State :=
  let w1 := cw ws 1
  let kk := nth x.k (fld w1 0 2) false
  if kk != bitOf w1 2 then
    match x.walk ws with
    | some (.done o) => (s.pass f).updFlight f (fun x => { x with off := o })
    | _ => s
  else s.pass f

/-- REPEAT (R118). -/
def State.cmdRepeat (s : State) (f : Nat) (x : Flight) (ws : List Word) : State :=
  let n := x.trips (cw ws 1)
  if x.loops.length = 4 || 0xFFFFFFFF < n then s.guilty f 5 none 0
  else if n = 0 then
    match x.walk ws with
    | some (.done o) => (s.pass f).updFlight f (fun x => { x with off := o })
    | _ => s
  else (s.pass f).updFlight f (fun x => { x with loops := x.loops ++ [{ trips := n, body := x.off }] })

/-- The address registers after an END_REPEAT that closes level `l` (R117). -/
def stepAregs (rs : List AReg) (l : Nat) : List AReg :=
  rs.map (fun r => if Nat.testBit r.mask (l - 1) then { r with base := r.base + BitVec.ofInt 64 r.stride } else r)

/-- END_REPEAT (R118). -/
def State.cmdEndRepeat (s : State) (f : Nat) (x : Flight) : State :=
  match x.loops.getLast? with
  | none => s.guilty f 5 none 0
  | some l =>
    let s := s.updFlight f (fun x => { x with areg := stepAregs x.areg x.loops.length })
    if l.trips = 1 then (s.pass f).updFlight f (fun x => { x with loops := x.loops.dropLast })
    else (s.pass f).updFlight f (fun x => { x with off := l.body, loops := x.loops.dropLast ++ [{ l with trips := l.trips - 1 }] })

/-- SET_AREG (R117). -/
def State.cmdSetAreg (s : State) (f : Nat) (x : Flight) (ws : List Word) : State :=
  match x.addrOf (cw ws 1) 1 with
  | none => s.malformed f
  | some a =>
    let w2 := cw ws 2
    let r : AReg := { base := a, stride := (BitVec.ofNat 32 (fld w2 0 32)).toInt, mask := fld w2 32 4 }
    (s.updFlight f (fun x => { x with areg := modAt x.areg (fld w2 40 4) (fun _ => r) })).pass f

/-! ## Observation and hints (R121, R122, R246) -/

/-- TIMESTAMP (R121); `fault` is a write that faults or is refused. -/
def State.cmdTimestamp (s : State) (f : Nat) (x : Flight) (ws : List Word) (fault : Bool) : State :=
  let v : Word := BitVec.ofNat 64 s.now
  let w2 := cw ws 2
  let toC (s : State) : State := if bitOf w2 3 then s.updFlight f (fun x => x.setC (fld w2 0 3) v) else s
  if cw ws 1 = 0 then (toC s).pass f
  else
    match x.addrOf (cw ws 1) 8 with
    | none => s.malformed f
    | some a =>
      if fault || s.refused (s.ctxPart x.ctx) a 8 then (s.noteRefused (s.ctxPart x.ctx) a 8).guilty f 8 none a
      else (toC (s.writeMem (s.forCtx x.ctx) a [v])).pass f

/-- WATCH (R122): it arms on the next DISPATCH, or its range is read and the submission waits for the result. -/
def State.cmdWatch (s : State) (f : Nat) (x : Flight) (ws : List Word) : State :=
  let w1 := cw ws 1
  let tgt := fld w1 0 2
  match x.addrOf (cw ws 4) 64, (if tgt = 1 then x.addrOf (cw ws 2) 1 else some 0) with
  | some res, some a =>
    let w : Watch := { target := tgt, kind := fld w1 2 2, elem := fld w1 4 4, range := fld w1 8 5, addr := a,
                       len := fld (cw ws 3) 0 40, result := res, layer := hdrLayer (cw ws 0), op := hdrOper (cw ws 0) }
    if tgt = 0 then
      if 4 ≤ x.watches.length then s.malformed f
      else (s.pass f).updFlight f (fun x => { x with watches := x.watches ++ [w] })
    else
      let s := (s.readMem (.watch f) a w.len).updFlight f (fun x => { x with watching := some w })
      s.park f .window none
  | _, _ => s.malformed f

/-- MARK (R121). -/
def State.cmdMark (s : State) (f : Nat) (x : Flight) (ws : List Word) : State :=
  (s.traceCmd 6 (s.cmdTag x (cw ws 0)) (cw ws 1)).pass f

/-- PRELOAD_HINT (R121, R246). -/
def State.cmdHint (s : State) (f : Nat) (x : Flight) (ws : List Word) : State :=
  match x.addrOf (cw ws 1) 64 with
  | none => s.malformed f
  | some a =>
    let len := (cw ws 2).toNat
    let slot := (List.range 64).find? (fun k => (Tab.get? s.mqSlots k).isNone && (Tab.get? s.hints k).isNone)
    match slot with
    | some k =>
      if s.rb .SCH_MQ_CFG 0 0 18 && len ≤ s.slotBytes then
        let s := { s with hints := Tab.set s.hints k { f := f, addr := a, len := len, at0 := s.ref } }
        (s.readMem (.hint f) a len).pass f
      else (s.bump .SCH_MQ_CNT 0 0 48 16 1).pass f
    | none => (s.bump .SCH_MQ_CNT 0 0 48 16 1).pass f

/-- The oldest hint of a submission, at an address and of a length, whose data has not come. -/
def State.hintDue (s : State) (f : Nat) (a : Word) (len : Nat) : Option Nat :=
  ((s.hints.filter (fun e => e.2.f == f && e.2.addr == a && e.2.len == len && e.2.image.isNone)).foldl
    (fun (m : Option (Nat × Nat)) e =>
      match m with
      | some b => if e.2.at0 < b.2 then some (e.1, e.2.at0) else m
      | none => some (e.1, e.2.at0)) none).map (·.1)

/-- The data of a hint has come: its image is staged (R246). -/
def State.hintReady (s : State) (f : Nat) (a : Word) (len : Nat) (data : List Word) : State :=
  match s.hintDue f a len with
  | some k => { s with hints := Tab.upd s.hints k (fun h => { h with image := some (data.take (len / 8)) }) }
  | none => s

/-- The read of a hint faults: the hint is dropped, which HINT_DROPS counts (R121, R246). -/
def State.hintFault (s : State) (f : Nat) (a : Word) (len : Nat) : State :=
  match s.hintDue f a len with
  | some k => ({ s with hints := Tab.erase s.hints k }).bump .SCH_MQ_CNT 0 0 48 16 1
  | none => s

/-! ## CALL and the resident routines (R119, R120) -/

/-- The arguments a ROM routine takes, and which of them are addresses (Table 03-20). -/
def romArgs (r : Nat) : Option (Nat × List Nat) :=
  match r with
  | 0 => some (2, [0]) | 1 => some (3, [0, 1, 2]) | 2 => some (7, [0, 1]) | 3 => some (8, [0, 1]) | 4 => some (3, [0])
  | 5 => some (6, [0]) | 6 => some (3, [0]) | 7 => some (2, [0]) | 8 => some (4, []) | 9 => some (8, [0]) | 10 => some (2, [])
  | _ => none

/-- The count argument of a list routine is out of its range. -/
def romCountBad (r : Nat) (args : List Word) : Bool :=
  let p (i : Nat) : Nat := (nth args i 0).toNat
  match r with
  | 0 => p 1 = 0 || 4096 < p 1
  | 4 => p 1 = 0 || 65536 < p 1
  | 6 => p 1 = 0 || 256 < p 1 || timeoutBad (p 2)
  | 7 => p 1 = 0 || 256 < p 1
  | 8 => p 1 = 0 || p 1 ≤ p 2
  | 10 => p 1 = 0
  | _ => false

/-- Sequencer `n` enters a customer routine: at its ENTRY, or at its RESUME entry with the committed registers (R436, R443). -/
def State.enterRtn (s : State) (n : Nat) (c : List Word) (r : Nat) (u : List Word) (resume : Bool) : State :=
  let q := Tab.getD s.mcs.seqs n {}
  let e := 0x8000 + (if resume then s.rf .MCS_RTN r 0 12 12 else s.rf .MCS_RTN r 0 0 12)
  let back := if q.pc < 0x8000 then q.pc else q.back
  { s with mcs := { s.mcs with seqs := Tab.set s.mcs.seqs n { pc := e, u := u, c := c, back := back } } }

/-- The arguments with which a ROM routine is entered, its addresses resolved (R117, R119); none where the CALL is malformed. -/
def Flight.romResolve (x : Flight) (r : Nat) (args : List Word) : Option (List Word) :=
  (romArgs r).bind (fun e =>
    let res := e.2.foldl (fun o i => o.bind (fun l =>
      if bitOf (nth l i 0) 63 && addrRsv (nth l i 0) then none else (x.addrOf (nth l i 0) 1).map (fun v => modAt l i (fun _ => v)))) (some args)
    res.bind (fun a => if args.length < e.1 || romCountBad r a then none else some a))

/-- CALL (R119): the routine's arguments are checked and resolved; the routine's own row goes on. -/
def State.cmdCall (s : State) (f : Nat) (x : Flight) (ws : List Word) : State :=
  let r := (cw ws 1).toNat
  let args := ws.drop 2
  let enter (s : State) (a : List Word) (st : Bool) : State :=
    (s.traceSync x (cw ws 0) r).updFlight f (fun x => { x with call := some { routine := r, hdr := cw ws 0, args := a, started := st } })
  if r < 64 then
    match x.romResolve r args with
    | none => s.malformed f
    | some a => enter s a false
  else if !s.rb .MCS_RTN r 0 28 || args.length < s.rf .MCS_RTN r 0 24 4 then s.malformed f
  else
    match x.seqr with
    | some n => (enter s args true).enterRtn n x.c r (List.replicate 16 0) false
    | none => s

/-- A ROM routine on a sequencer that has not got its data yet. -/
def State.romCall (s : State) (f r : Nat) (g : Flight → Call → State) : State :=
  match Tab.get? s.flights f with
  | none => s
  | some x =>
    match x.call with
    | some c => if x.onSeq && s.frontRuns && c.routine = r && !c.started then g x c else s
    | none => s

/-- A routine starts to issue `total` commands; with none it is left at once. -/
def State.startRom (s : State) (f : Nat) (data : List Word) (total : Nat) (after : List (Nat × Word)) : State :=
  let s := s.updFlight f (fun x => match x.call with
    | some c =>
      let x := { x with call := some { c with data := data, total := total, after := after, started := true } }
      if total = 0 then { x with lastLayer := hdrLayer c.hdr, lastOp := hdrOper c.hdr }.leaveCall else x
    | none => x)
  s.settle f

/-- A routine that reads a list of `n` words: a faulting read is a page fault, a shorter list is waited for. -/
def State.romList (s : State) (f : Nat) (c : Call) (n : Nat) (data : Option (List Word)) (total : Nat) : State :=
  let s := s.readMem (.cmdData f) (c.p 0) (8 * n)
  let part := (Tab.get? s.flights f).bind (fun x => s.ctxPart x.ctx)
  match s.unlessRefused part (c.p 0) (8 * n) data with
  | none => (s.noteRefused part (c.p 0) (8 * n)).guilty f 8 none (c.p 0)
  | some l => if l.length < n then s else s.startRom f (l.take n) total []

/-! ## Yields and timeouts (R114, R123, R152) -/

/-- After 4,096 commands the submission gives its sequencer up (R123). -/
def State.seqYield (s : State) (f : Nat) : State :=
  match Tab.get? s.flights f with
  | none => s
  | some x =>
    if x.onSeq && 4096 ≤ x.count then
      s.updFlight f (fun x => { x with seqr := none, readySince := some s.ref, count := 0 })
    else s

/-- A timeout expires (R114, R152), which is a wake (R230), on a wait that is still there: after its deadline, for what becomes true in the
arbitration of the deadline itself wins (log 119). -/
def State.waitTimeout (s : State) (f : Nat) : State :=
  match Tab.get? s.flights f with
  | none => s
  | some x =>
    match x.wait with
    | none => s
    | some w =>
      match w.deadline with
      | none => s
      | some d =>
        if s.ref ≤ d || x.inTeardown || x.ending.isSome then s
        else (s.wake.count 303 1 (s.flightWho f)).endEarly f 7

end Sys2Proof.Machine
end

