-- ==== Sys2Proof/Machine/Parts.lean ====
section
/-! DEFINITION. Functions and partitions (chapter 09): the last steps of the teardown sequences, partition requests, tenant
removal, function assignment; and `fin`, what follows of itself after a command. -/

namespace Sys2Proof.Machine

/-! ## Page counts (R301, R316, R317) -/

/-- The pages that a partition holds in a channel (VXB_PART_PAGES). -/
def State.pagesIn (s : State) (t m : Nat) : Nat :=
  let ch := s.ilv t
  let held := s.heldPages t
  let here := held.filter (fun p => nth ch (p % max 1 ch.length) 8 == m)
  if held.isEmpty || !ch.contains m then 0 else here.length + 1 + Config.metaPages here.length

/-! ## Function resets (R289, R291, R304) -/

/-- The present VF count changes (R289): a VF no longer present is reset. -/
def State.setVfCount (s : State) (k : Nat) : State :=
  let old := s.rf .VXB_VF_EN 0 0 0 6
  let gone := ((List.range 64).filter (fun n => k < n && n ≤ old))
  gone.foldl State.startFlr (s.setF .VXB_VF_EN 0 0 0 6 (min 63 k))

/-- A function owns no SQ, CR or context. -/
def State.fnEmpty (s : State) (n : Nat) : Bool :=
  s.sqs.all (fun e => e.2.fn ≠ n) && s.crs.all (fun e => e.2.fn ≠ n) && s.ctxs.all (fun e => e.2.fn ≠ n)

/-- A function is in a function-level reset or a wider one (FN_STAT.RESETTING). -/
def State.resetting (s : State) (n : Nat) : Bool :=
  s.td.any (fun d => (d.kind == .flr || d.kind == .hostLoss || (d.kind == .removal && !d.freed.contains n && d.step ≤ 2)) && s.tdFn d n)

/-- A write of VXB_FN_CFG (R291, R304). A write that R291 refuses changes nothing but REFUSED; an assignment that changes ends the
function's session, whose measurement 4 is its partition's layout (R330). -/
def State.writeFnCfg (s : State) (mgmt : Bool) (n : Nat) (v : Word) : State :=
  let s := s.when (bitOf v 4) (fun s => s.setB .VXB_FN_CFG n 0 4 false)
  let w := s.reg .VXB_FN_CFG n
  let changes := fld w 0 4 ≠ fld v 0 4
  let ok := (mgmt || n ≠ 0) && s.fnEmpty n && !s.resetting n && (!bitOf v 3 || s.live (fld v 0 3))
  if changes && !ok then s.setB .VXB_FN_CFG n 0 4 true
  else
    let s := (s.setF .VXB_FN_CFG n 0 0 4 (fld v 0 4)).setF .VXB_FN_CFG n 0 16 16 (fld v 16 16)
    let s := s.when changes (fun s => { s with sec := s.sec.endSession (.host n) })
    if bitOf v 6 && (mgmt || n ≠ 0) then s.startFlr n else s

/-! ## Partition requests (R295 to R302) -/

/-- The resources of a kind that a partition owns, as a mask. -/
def State.ownedMask (s : State) (kind t : Nat) : Nat :=
  match kind with
  | 0 => s.rf .VXB_PART_CORES t 0 0 48
  | 1 => s.rf .VXB_PART_RES t 0 0 16
  | _ => s.rf .VXB_PART_RES t 0 16 8

/-- Some partition owns a resource of the mask. -/
def State.anyOwned (s : State) (kind mask : Nat) : Bool :=
  (List.range 8).any (fun t => (s.ownedMask kind t &&& mask) ≠ 0)

/-- The most cores that the slots of a table reserve in a partition at one instant (R169). -/
def slotPeak (tb : Option CycTable) (p : Nat) : Nat :=
  match tb with
  | none => 0
  | some tb =>
    let l := tb.slots.filter (fun d => d.part == p)
    (l.map (fun d => (l.filter (fun e => e.offset ≤ d.offset && d.offset < e.offset + e.length)).foldl (fun n e => n + e.cores) 0)).foldl max 0

/-- BUSY of VXB_PART_REQ_STAT: a request is in progress, or a removal is or waits. -/
def State.reqBusy (s : State) : Bool := s.preq.isSome || !s.removals.isEmpty || s.td.any (fun d => d.kind == .removal)

/-- A partition is being removed. -/
def State.removing (s : State) (t : Nat) : Bool := s.rb .VXB_PART_RES t 0 26

/-- An end of a partition request: a partition, or none; other codes are bad. -/
def partEnd (n : Nat) : Option (Option Nat) := if n < 8 then some (some n) else if n = 8 then some none else none

/-- The number of bits that are set. -/
def popCount (n : Nat) : Nat := ((List.range 64).filter (fun i => Nat.testBit n i)).length

/-- One more than the greatest mask of a kind of resource. -/
def reqLimit (kind : Nat) : Nat := if kind = 0 then 2 ^ 48 else if kind = 1 then 2 ^ 16 else 2 ^ 8

/-- The mask names a core or a channel that is not present. -/
def State.reqAbsent (s : State) (kind mask : Nat) : Bool :=
  if kind = 0 then (List.range 48).any (fun p => Nat.testBit mask p && !(nth s.cores p {}).present)
  else kind == 2 && (List.range 8).any (fun m => Nat.testBit mask m && !s.start.mem.getLsbD m)

/-- The checks of R298 on a move: the result code of Table 09-3 that refuses it. The bad forms come first, then the order of
the table. -/
def State.reqFault (s : State) (kind mask fr dst : Nat) : Option Nat :=
  match partEnd fr, partEnd dst with
  | some a, some b =>
    let fromMask := match a with | some t => s.ownedMask kind t | none => 0
    if mask = 0 || reqLimit kind ≤ mask || a = b then some 7
    else if s.reqBusy || (a.any s.removing) || (b.any s.removing) then some 1
    else if s.reqAbsent kind mask then some 2
    else if (match a with | some _ => decide (mask &&& fromMask ≠ mask) | none => s.anyOwned kind mask) then some 3
    else
      match a with
      | none => none
      | some t =>
        if kind ≠ 0 && s.live t && fromMask = mask then some 4
        else if kind = 0 && (popCount fromMask - popCount mask < slotPeak s.cyc.table t
            || popCount fromMask - popCount mask < slotPeak s.cyc.pending t) then some 5
        else if kind = 2 && (List.range 8).any (fun m => Nat.testBit mask m && s.pagesIn t m ≠ 0) then some 6
        else none
  | _, _ => some 7

/-- MOVING of the partitions that a request names. -/
def State.setMoving (s : State) (r : PartReq) (on : Bool) : State :=
  let s := match r.src with | some t => s.setB .VXB_PART_RES t 0 25 on | none => s
  match r.dst with | some t => s.setB .VXB_PART_RES t 0 25 on | none => s

/-- A request ends with a result; management is informed (Table 09-4 step 5). -/
def State.endReq (s : State) (r : PartReq) (result : Nat) : State :=
  let s := ({ s with preq := none }).setMoving r false
  (s.setReg .VXB_PART_REQ_STAT 0 0 (mkWord [(4, 4, result)])).raise 13

/-- The measurement of an end's layout changes. -/
def State.layoutOf (s : State) (t : Option Nat) (coresOnly : Bool) : State :=
  match t with | some t => s.layoutChanged t coresOnly | none => s

/-- A mask added to or taken from what a partition owns. -/
def State.own (s : State) (kind : Nat) (t : Option Nat) (mask : Nat) (add : Bool) : State :=
  match t with
  | none => s
  | some t =>
    let old := s.ownedMask kind t
    let new := if add then old ||| mask else old &&& (2 ^ 48 - 1 - mask)
    match kind with
    | 0 => s.setF .VXB_PART_CORES t 0 0 48 new
    | 1 => s.setF .VXB_PART_RES t 0 0 16 new
    | _ =>
      let s := s.setF .VXB_PART_RES t 0 16 8 new
      if add then (s.setIlv t (s.rf .MCI_PART t 0 0 8) (s.rf .MCI_PART t 0 8 8 ||| mask)).joinIlv t
      else s.setIlv t (s.rf .MCI_PART t 0 0 8 &&& (255 - mask % 256)) (s.rf .MCI_PART t 0 8 8 &&& (255 - mask % 256))

/-- A way or channel move would make its destination live, and the memory key is not there yet (R295, R310). -/
def State.needsKey (s : State) (r : PartReq) : Option Nat :=
  match r.dst with
  | none => none
  | some t =>
    let ways := s.ownedMask 1 t + (if r.kind = 1 then 1 else 0)
    let chs := s.ownedMask 2 t + (if r.kind = 2 then 1 else 0)
    if r.kind ≠ 0 && ways ≠ 0 && chs ≠ 0 && !s.live t && s.slotType t ≠ 1 then some t else none

/-- The last step of a way or channel move: it holds until the memory key is there. -/
def State.finishMove (s : State) (r : PartReq) : State :=
  match s.needsKey r with
  | some t =>
    let s := { s with preq := some { r with keyWait := true } }
    if s.sec.keyReqs.contains (.part t) then s else { s with sec := { s.sec with keyReqs := s.sec.keyReqs ++ [.part t] } }
  | none =>
    let s := (s.own r.kind r.src r.mask.toNat false).own r.kind r.dst r.mask.toNat true
    let s := match r.dst with
      | some t => s.when (s.ownedMask 1 t ≠ 0 && s.ownedMask 2 t ≠ 0) (fun s => s.setB .VXB_PART_RES t 0 24 true)
      | none => s
    ((s.layoutOf r.src false).layoutOf r.dst false).endReq r 0

/-- The ways of a move are invalidated and zeroed (Table 09-5 step 3). -/
def State.scrubWays (s : State) (r : PartReq) : State :=
  ({ s with preq := some { r with scrub := true } }).emit (.ways "scrub" r.src r.mask)

/-- A move is requested (R298): while another one is in progress it is ignored, but for the RESULT; otherwise the result of its checks is
written, or it starts. -/
def State.partMove (s : State) (kind mask fr dst : Nat) : State :=
  if s.reqBusy then s.setF .VXB_PART_REQ_STAT 0 0 4 4 1
  else
  match s.reqFault kind mask fr dst with
  | some c => s.setReg .VXB_PART_REQ_STAT 0 0 (mkWord [(4, 4, c)])
  | none =>
    let r : PartReq := { kind := kind, src := (partEnd fr).getD none, dst := (partEnd dst).getD none, mask := BitVec.ofNat 48 mask }
    let s := ({ s with preq := some r }).setReg .VXB_PART_REQ_STAT 0 0 (mkWord [(0, 1, 1), (16, 48, mask)])
    let s := s.setMoving r true
    match kind with
    | 0 =>
      let ps := (List.range 48).filter (fun p => Nat.testBit mask p)
      ps.foldl (fun s p =>
        let s : State := match (nth s.cores p {}).bank with
          | some k =>
            (match Tab.get? s.tasks k with
             | some t =>
               if t.phase == .gathering then
                 (s.updTask k (fun t => { t with held := t.held.filter (fun q => q ≠ p) })).updCore p (fun c => { c with bank := none })
               else s.discard k
             | none => s)
          | none => s
        let conts := s.due.filter (fun d => d.cls == .cores && d.peng == p && d.cont.isSome
          && !(Tab.get? s.tasks d.task).any (fun t => t.isStatic))
        let s := s.dropDue (fun d => conts.contains d)
        let s := conts.foldl (fun s d => s.returnRank d.task d.rank) s
        s.updCore p (fun c => { c with moving := true })) s
    | 1 =>
      match r.src with
      | some _ => ((s.emit (.ways "stop" r.src r.mask)).emit (.ways "clean" r.src r.mask)).writeBack (fun m => m.way.any (Nat.testBit mask))
      | none => s.scrubWays r
    | _ => s.finishMove r

/-- The system cache's last write acknowledgement of a way move (Table 09-5 step 2): the ways are scrubbed (step 3). -/
def State.wayClean (s : State) : State :=
  match s.preq with
  | some r => if r.kind = 1 && r.src.isSome && !r.scrub then s.scrubWays r else s
  | none => s

/-- The scrub of ways is done: of a removal's (Table 09-7 step 6), or of a move's, which then pass (Table 09-5 step 4). -/
def State.waysScrubbed (s : State) (n : Nat) : State :=
  if s.td.any (fun d => d.kind == .removal && d.obj == n && d.ways) then s.updTd .removal n (fun d => { d with ways := false })
  else
    match s.preq with
    | some r => if r.kind = 1 && r.scrub && !r.keyWait && r.src.getD 8 = n then s.finishMove r else s
    | none => s

/-- What ends early when a move leaves a partition without a core (R302). -/
def State.noCoresLeft (s : State) (t : Nat) : State :=
  let mine (c : Nat) : Bool := s.ctxPart c == some t
  let parked := (s.flights.filter (fun e => mine e.2.ctx && e.2.wait.isSome && e.2.ending.isNone
    && (match e.2.cur with | some ws => opCls (hdrOp (cw ws 0)) == some .cores | none => false))).map (·.1)
  let ready := s.tasks.filter (fun e => e.2.part == t && e.2.cls == .cores && !e.2.launchedEver
    && (e.2.phase == .ready || e.2.phase == .gathering || e.2.phase == .preloaded))
  let s := parked.foldl (fun s f => s.endEarly f 0xE) s
  ready.foldl (fun s e => ((s.discard e.1).endEarlyAt e.2.f 0xE e.2.off e.2.layer e.2.op).taskGone e.1 0xE) s

/-- A core that is moving or is scrubbed at a removal asks for its scrub once it runs nothing (Table 09-4 steps 2 and 3). -/
def State.movePoll (s : State) : State :=
  (List.range 48).foldl (fun s p =>
    let c := nth s.cores p {}
    if c.moving && !c.scrub && c.run.isNone && !s.due.any (fun d => d.cls == .cores && d.peng == p)
        && !s.trims.any (fun x => x.thief == p) && !s.tasks.any (fun e => e.2.cleaning.contains p) then
      (s.updCore p (fun c => { c with scrub := true })).emit (.ctl .cores p .scrub 0)
    else s) s

/-- Step 4 of a core move for one core, and step 5 with the last one (Table 09-4). -/
def State.coreMoved (s : State) (r : PartReq) (p : Nat) : State :=
  let s := s.updCore p (fun c => { c with moving := false, scrub := false, owner := r.dst })
  let s := (s.own 0 r.src (2 ^ p) false).own 0 r.dst (2 ^ p) true
  let s := s.setB .VXB_PART_REQ_STAT 0 0 (16 + p) false
  let s := (s.layoutOf r.src true).layoutOf r.dst true
  let s := match r.src with
    | some t => s.when (s.ownedMask 0 t = 0) (fun s => s.noCoresLeft t)
    | none => s
  if s.rf .VXB_PART_REQ_STAT 0 0 16 48 = 0 then s.endReq r 0 else s

/-! ## Tenant removal (R308) -/

/-- A removal's sequence starts: the request that names the partition is abandoned, REMOVING and BUSY are set, and every
function of the partition begins its reset. -/
def State.startRemoval (s : State) (t : Nat) : State :=
  let s := match s.preq with
    | some r =>
      let cs : List Core := s.cores.map (fun (c : Core) => { c with moving := false, scrub := false })
      let ks : List KeyReq := s.sec.keyReqs.filter (fun k => decide (k ≠ KeyReq.part t) && !r.dst.any (fun u => k == KeyReq.part u))
      let s : State := { s with preq := none, cores := cs, sec := { s.sec with keyReqs := ks } }
      (s.setMoving r false).setReg .VXB_PART_REQ_STAT 0 0 (mkWord [(4, 4, 8)])
    | none => s
  let s := (s.setB .VXB_PART_RES t 0 26 true).setB .VXB_PART_REQ_STAT 0 0 0 true
  s.startWide { kind := .removal, obj := t }

/-- A removal is requested: it starts at once, or waits for a request that does not name the partition. -/
def State.tenantRemoval (s : State) (fr mask : Nat) : State :=
  if 8 ≤ fr || mask ≠ 0 && 2 ^ 48 ≤ mask then
    if s.reqBusy then s.setF .VXB_PART_REQ_STAT 0 0 4 4 1 else s.setReg .VXB_PART_REQ_STAT 0 0 (mkWord [(4, 4, 7)])
  else if s.removing fr || s.removals.contains fr then s.setF .VXB_PART_REQ_STAT 0 0 4 4 1
  else
    match s.preq with
    | some r => if r.src == some fr || r.dst == some fr then s.startRemoval fr
        else { s with removals := s.removals ++ [fr] }
    | none => if s.td.any (fun d => d.kind == .removal) then { s with removals := s.removals ++ [fr] } else s.startRemoval fr

/-- The drain limit of a function in a sequence, less what sequences taken over have used: at most 2,000 µs in a removal. -/
def State.limitOf (s : State) (d : Td) (n : Nat) : Nat :=
  match d.kind with
  | .removal => min (s.fnDrainNs n) 2000000 - Tab.getD d.spent n 0
  | .flr => s.fnDrainNs n - Tab.getD d.spent n 0
  | .hostLoss =>
    let joined := s.td.any (fun e => e.kind == .removal && e.merged && s.tdFn e n)
    (if joined then min (s.fnDrainNs n) 2000000 else s.fnDrainNs n) - Tab.getD d.spent n 0
  | _ => d.limitNs

/-- A function's tasks of a sequence run no more. -/
def State.fnIdle (s : State) (n : Nat) : Bool := !s.tasks.any (fun e => e.2.fn == n && e.2.phase == .running)

/-- Steps 3 to 6 of a removal as far as nothing is waited for. -/
def State.removalStep (s : State) (d : Td) : State :=
  let t := d.obj
  if d.step = 2 then
    let ns := (s.tdFns d).filter (fun n => !d.freed.contains n && !d.flushing.contains n && s.fnIdle n)
    let s := (s.emits (ns.map (fun n => Emit.cipher "flush function" n))).writeBack (fun m => m.fns.any ns.contains)
    let s := s.updTd .removal t (fun d => { d with flushing := d.flushing ++ ns })
    if (s.tdFns d).all (fun n => d.freed.contains n) then s.updTd .removal t (fun d => { d with step := 3, mark := s.ref }) else s
  else if d.step = 3 then
    if s.tml.inb.any (fun y => y.part == t) then s
    else (s.emit (.cipher "drain tenant" t)).updTd .removal t (fun d => { d with step := 4 })
  else s

/-- Table 09-7 step 5: the partition's memory key, its fabric session key on this node and its blob keys are zeroised (R334, R343). A lead that
removes its own partition rekeys the members that remain; the spec gives no message by which another node would tell it (log 177). -/
def State.removalKeys (s : State) (t : Nat) : State :=
  let s := s.revokeBlobs (fun k => s.slotPart k == t)
  let fts := (List.range 16).filter (fun f => s.rf .SEC_FT f 0 16 3 == t && s.rb .SEC_FT f 0 19)
  let s := fts.foldl (fun s f =>
    let s := { s with sec := { s.sec with oldKeys := Tab.erase s.sec.oldKeys f, nextEpoch := Tab.erase s.sec.nextEpoch f } }
    let s := s.setB .SEC_FT f 0 20 false
    s.when (s.rb .TML_STAT 0 0 5) (fun s => (s.setB .SEC_FT f 0 s.node false).rekeyTenant f)) s
  (s.zeroSlot t).zeroSlot (8 + t)

/-- Table 09-7 step 5 and the first part of step 6: keys zeroised, events and semaphores unbound, cores and ways scrubbed without
write-back. -/
def State.removalFree (s : State) (t : Nat) : State :=
  let s := (s.removalKeys t).setB .VXB_PART_RES t 0 24 false
  let s := ((s.events.filter (fun e => e.2.part == t)).map (·.1)).foldl State.unbindEvent s
  let s := (s.sems.filter (fun e => e.2.bound && e.2.part == t)).foldl (fun s e =>
    let s := s.setSem e.1 {}
    e.2.queue.foldl (fun s a => if a.node == s.node then s.endEarly a.f 2 else s.send a.node (.refuse 0 3 (semHandle e.1))) s) s
  let ps := s.ownedCores t
  let s := ps.foldl (fun s p => (s.updCore p (fun c => { c with moving := true, scrub := true })).emit (.wipe p)) s
  let ws := s.ownedMask 1 t
  let s := s.when (ws ≠ 0) (fun s => s.emit (.ways "scrub" (some t) (BitVec.ofNat 48 ws)))
  s.updTd .removal t (fun d => { d with step := 6, flushing := ps, ways := ws ≠ 0 })

/-- The end of Table 09-7 step 6, once the scrubs are done: no page is held, slots are voided, functions unassigned, and nothing is owned.
The slots of the running table are void from the next period start on. -/
def State.removalDrop (s : State) (t : Nat) : State :=
  let fns := (List.range 64).filter (fun n => s.fnPart n == some t)
  let s := s.setCyc (fun c => { c with voids := c.voids ++ [t], pending := c.pending.map (fun tb => voidSlots tb [t]) })
  let s := s.clearPart t
  let s := { s with sec := fns.foldl (fun c n => c.endSession (.host n)) s.sec }
  let s := { s with sec := { s.sec with releases := s.sec.releases.filter (fun e => !fns.contains e.1) } }
  let s := fns.foldl (fun s n => ((s.setB .VXB_FN_CFG n 0 3 false).setB .FN_STAT n 0 2 true).fnEvent n 4) s
  let s := ((s.setReg .VXB_PART_CORES t 0 0).setReg .VXB_PART_RES t 0 (mkWord [(26, 1, 1)])).setReg .MCI_PART t 0 0
  s.layoutChanged t false

/-- Table 09-7 step 7. -/
def State.removalEnd (s : State) (t : Nat) : State :=
  let s := (s.removalDrop t).endTd .removal t
  let s := s.setReg .VXB_PART_RES t 0 0
  (s.setReg .VXB_PART_REQ_STAT 0 0 0).raise 13

/-- A core's scrub is acknowledged: of a move, or of a removal (Tables 09-4 and 09-7). -/
def State.coreScrubbed (s : State) (p : Nat) : State :=
  let c := nth s.cores p {}
  if !c.scrub then s
  else
    match s.td.find? (fun d => d.kind == .removal && d.step == 6 && d.flushing.contains p) with
    | some d =>
      let s := s.updCore p (fun c => { c with moving := false, scrub := false, owner := none })
      s.updTd .removal d.obj (fun d => { d with flushing := d.flushing.filter (fun q => q ≠ p) })
    | none =>
      match s.preq with
      | some r => if r.kind = 0 && c.moving then s.coreMoved r p else s
      | none => s

/-! ## The sequences' own advance (Tables 08-3, 09-6, 09-7, 01-4, R86) -/

/-- Nothing of a sequence is left on an engine: the memory cipher has still to acknowledge (Tables 08-3, 02-12 and 09-6, step 3). -/
def State.askCipher (s : State) (k : TdKind) (obj : Nat) (what : String) : State :=
  (s.updTd k obj (fun d => { d with step := 3 })).emit (.cipher what obj)

/-- The memory cipher acknowledges a sequence that waits for it. -/
def State.cipherAck (s : State) (k : TdKind) (obj : Nat) : State :=
  s.updTd k obj (fun d => if d.step = 3 then { d with step := 4 } else d)

/-- What a sequence that holds an entry does of itself. -/
def State.tdOne (s : State) (k : TdKind) (obj : Nat) : State :=
  match s.tdOf k obj with
  | none => s
  | some d =>
    match d.kind with
    | .destroySq =>
      if d.merged then
        (match Tab.get? s.sqs obj with
         | some x => if x.state == .reset || !s.td.any (fun e => e.kind == .autotomy && e.obj == x.ctx) then s.finishDestroy d else s
         | none => s.finishDestroy d)
      else
        let s := if d.has && d.limitNs = 0 && d.cut.isEmpty then
            (s.updTd k obj (fun d => { d with cut := [64] })).squashScope d none
          else s
        if d.has && d.step = 2 && !s.tdBusy d && (!s.sqRunnable obj || d.cut.contains 64 || d.limitNs = 0) then
          s.askCipher k obj "acknowledge SQ"
        else s.when (d.step = 4) (fun s => s.finishDestroy d)
    | .autotomy =>
      if d.has && d.step = 2 && !s.tdBusy d then s.askCipher k obj "acknowledge context"
      else s.when (d.step = 4) (fun s => s.finishAutotomy d)
    | .halted =>
      let s := if d.has && d.cut.isEmpty then (s.updTd k obj (fun d => { d with cut := [obj] })).squashScope d none else s
      if d.has && d.step = 2 && !s.tdBusy d then s.askCipher k obj "acknowledge function"
      else s.when (d.step = 4) (fun s => s.finishHalted d)
    | .removal =>
      if d.merged then s
      else
      let s := if d.has then
          ((s.tdFns d).filter (fun n => s.limitOf d n = 0 && !d.cut.contains n)).foldl (fun s n =>
            (s.updTd k obj (fun d => { d with cut := d.cut ++ [n] })).squashScope d (some n)) s
        else s
      let s := match s.tdOf k obj with | some d => if d.has then s.removalStep d else s | none => s
      (match s.tdOf k obj with
       | some d => if d.step = 6 && d.flushing.isEmpty && !d.ways then s.removalEnd obj else s
       | none => s)
    | _ =>
      let s := if d.has then
          ((s.tdFns d).filter (fun n => s.limitOf d n = 0 && !d.cut.contains n)).foldl (fun s n =>
            (s.updTd k obj (fun d => { d with cut := d.cut ++ [n] })).squashScope d (some n)) s
        else s
      if d.has && d.step = 2 && !s.tdBusy d then
        let all := k == .hostLoss || obj = 0
        ((s.updTd k obj (fun d => { d with step := 4 })).emit (.cipher (if all then "flush all" else "flush function") obj)).writeBack
          (fun m => m.fns.any (fun n => all || n == obj))
      else s

/-- Every sequence advances; a removal that waits starts once no request is in progress. During regrowth the completion
writer stands still (Table 08-6 step 1). -/
def State.tdPoll (s : State) : State :=
  if s.regrowing then s
  else
    let s := (s.td.map (fun d => (d.kind, d.obj))).foldl (fun s d => s.tdOne d.1 d.2) s
    match s.removals with
    | t :: r => if s.preq.isNone && !s.td.any (fun d => d.kind == .removal) then ({ s with removals := r }).startRemoval t else s
    | [] => s

/-- The cipher reports that no request of a context or an SQ (Tables 08-3 and 02-12, step 3), no line of a function, or no request of a
tenant is left (Table 09-6 steps 3 and 4, Table 09-7 steps 2 and 4, Table 01-4 step 4). -/
def State.flushDone (s : State) (scope : CipherScope) (n : Nat) : State :=
  match scope with
  | .ctx => s.cipherAck .autotomy n
  | .sq => s.cipherAck .destroySq n
  | .ways => s.waysScrubbed n
  | .tenant =>
    match s.tdOf .removal n with
    | some d => if d.step = 4 then s.removalFree n else s
    | none => s
  | .fn =>
    let s := s.cipherAck .halted n
    match s.td.find? (fun d => d.kind == .removal && d.flushing.contains n && d.step == 2) with
    | some d =>
      let s := s.freeFn n
      let s := s.when (d.asked.contains n) (fun s => (s.raise 11).emit (.fnReset n))
      s.updTd .removal d.obj (fun d => { d with flushing := d.flushing.filter (fun m => m ≠ n), freed := d.freed ++ [n] })
    | none =>
      match s.td.find? (fun d => (d.kind == .flr && d.obj == n || d.kind == .hostLoss) && d.step == 4) with
      | some d => if d.kind == .hostLoss then s.finishHostLoss d else s.finishFlr d
      | none => s

/-- A drain limit expires (R86, R266, R305, R308): what still runs is squashed; `n` names the function where a sequence covers
several, and a removal's step 3 is named by 64. -/
def State.drainExpire (s : State) (k : TdKind) (obj n : Nat) : State :=
  match s.tdOf k obj with
  | none => s
  | some d =>
    if !d.has || d.merged then s
    else
      let single := k == .autotomy || k == .destroySq
      if single then
        if s.ref < d.entered + d.limitNs || d.cut.contains 64 then s
        else (s.updTd k obj (fun d => { d with cut := d.cut ++ [64] })).squashScope d none
      else if k == .removal && d.step = 3 then
        if s.ref < d.mark + 1000000 then s
        else
          let l := s.tml.inb.filter (fun y => y.part == obj && !y.squashing)
          let s := { s with tml := { s.tml with inb := s.tml.inb.map (fun y => if y.part == obj then { y with squashing := true } else y) } }
          l.foldl (fun s y => s.send y.src (.squash y.xfer)) s
      else if !s.tdFn d n || s.ref < d.entered + s.limitOf d n || d.cut.contains n then s
      else (s.updTd k obj (fun d => { d with cut := d.cut ++ [n] })).squashScope d (some n)

/-! ## What follows of itself -/

/-- The rules that act on the state a command leaves behind: instances, gathering, splits, background work, yields and
squashes of transfers, teardowns, moves and points. Nothing but the record of a freeze follows while the block stands still. -/
def State.polls (s : State) : State :=
  let s := s.freezePoll
  if !s.alive then s
  else
    let s := s.cycPoll.rankPoll.grainPoll.gatherPoll.splitPoll.mqKick.bgPoll.linkYields.linkSquashes.reRouteXfers.leavePoll
    let s := s.tdPoll.tdPoll.movePoll.vfPoll.sagPoll.waitPoll.outboxPoll.keyPoll
    s.when s.sstopped (fun s => s.setB .OBS_STOP_STAT 0 0 2 s.quiet)

/-- The outcome of a command that leaves a state. -/
def fin (s : State) : Host.Outcome State Fault Refusal := .next s.polls

/-- A command that happens at a moment, once start-up is complete and nothing stands still: time moves to the moment, the
command has its effect, and what follows of itself happens. Otherwise the happening cannot occur and nothing changes. -/
def act (s : State) (t : Nat) (f : State → State) : Host.Outcome State Fault Refusal :=
  if s.alive then fin (f (s.at t)) else .next s

/-- The front end takes work: regrowth and a soft stop halt it (Table 08-6, R423), and LL4 and LL5 stop it (Table 06-6). -/
def State.takesWork (s : State) : Bool := s.frontRuns && decide (s.gov.rung < 4)

/-- As `act`, for what the front end does: nothing while it takes no work. -/
def actFront (s : State) (t : Nat) (f : State → State) : Host.Outcome State Fault Refusal :=
  if s.takesWork then fin (f (s.at t)) else .next s

end Sys2Proof.Machine
end

