-- ==== Sys2Proof/Machine/Watch.lean ====
section
/-! DEFINITION. The watch unit (R412 to R417): exact integer statistics, FP32 statistics with their error bounds, and the CRC
digest. A finite FP32 value is held as an integer multiple of 2^-149. -/

namespace Sys2Proof.Machine

/-! ## Bytes and elements (R412) -/

/-- Bits of an element by ELEM (Table 13-6). -/
def elemBits (e : Nat) : Nat :=
  match e with
  | 0 => 8 | 1 => 8 | 2 => 4 | 3 => 4 | 4 => 16 | 5 => 16 | 6 => 32 | 7 => 32 | 8 => 32 | 9 => 16 | _ => 8

/-- The element type is a float. -/
def elemFp (e : Nat) : Bool := 8 ≤ e

/-- Groups of `n` bytes, with `fuel` groups at most; a rest is dropped. -/
def groups (n : Nat) : Nat → List Byte → List (List Byte)
  | 0, _ => []
  | f + 1, l => if l.length < n then [] else l.take n :: groups n f (l.drop n)

/-- The raw elements of a range in address order, low nibble first. -/
def rawElems (e : Nat) (l : List Byte) : List Nat :=
  if elemBits e = 4 then l.flatMap (fun b => [b.toNat % 16, b.toNat / 16])
  else (groups (elemBits e / 8) l.length l).map leNat

/-- An integer element. -/
def intElem (e x : Nat) : Int :=
  let w := elemBits e
  if e = 0 || e = 2 || e = 4 || e = 6 then (BitVec.ofNat w x).toInt else x

/-- The least and greatest value of an integer type. -/
def intRange (e : Nat) : Int × Int :=
  let w := elemBits e
  if e = 0 || e = 2 || e = 4 || e = 6 then (-(2 ^ (w - 1) : Int), 2 ^ (w - 1) - 1) else (0, 2 ^ w - 1)

/-! ## FP32 (R415, R416) -/

/-- The bits are those of a NaN. -/
def fpIsNan (x : Nat) : Bool := 0x7F800000 < x % 2 ^ 31

/-- The bits are those of an infinity. -/
def fpIsInf (x : Nat) : Bool := x % 2 ^ 31 == 0x7F800000

/-- The sign bit. -/
def fpNeg (x : Nat) : Bool := Nat.testBit x 31

/-- The magnitude of a finite value in 2^-149. -/
def fpMag (x : Nat) : Nat :=
  let e := x / 2 ^ 23 % 256
  let m := x % 2 ^ 23
  if e = 0 then m else (2 ^ 23 + m) * 2 ^ (e - 1)

/-- A finite value in 2^-149. -/
def fpVal (x : Nat) : Int := if fpNeg x then -(fpMag x : Int) else fpMag x

/-- A magnitude of `n` × 2^-(149+sh) rounded to FP32, to nearest even or upwards. -/
def fpRound (up : Bool) (n sh : Nat) : Nat :=
  if n = 0 then 0
  else
    let k := max sh (Nat.log2 n - 23)
    let q := n >>> k
    let r := n % 2 ^ k
    let inc := if up then decide (r ≠ 0) else decide (2 ^ k < 2 * r) || (decide (2 * r = 2 ^ k) && decide (0 < k) && q % 2 == 1)
    min 0x7F800000 ((k - sh) * 2 ^ 23 + q + b2n inc)

/-- The FP32 sum of two values that are no NaN, rounded to nearest even; opposite infinities make a NaN. -/
def fpAdd (a b : Nat) : Nat :=
  if fpIsNan a || fpIsNan b then Config.fpNan
  else if fpIsInf a then (if fpIsInf b && fpNeg a != fpNeg b then Config.fpNan else a)
  else if fpIsInf b then b
  else
    let v := fpVal a + fpVal b
    if v = 0 then (if fpNeg a && fpNeg b then 2 ^ 31 else 0)
    else fpRound false v.natAbs 0 + (if v < 0 then 2 ^ 31 else 0)

/-- The sum of two magnitudes, rounded up. -/
def fpAddUp (a b : Nat) : Nat :=
  if fpIsInf a || fpIsInf b then 0x7F800000 else fpRound true (fpMag a + fpMag b) 0

/-- The square of a value, rounded to nearest even or up. -/
def fpSquare (up : Bool) (a : Nat) : Nat :=
  if fpIsInf a then 0x7F800000 else fpRound up (fpMag a * fpMag a) 149

/-- A list folded from its first item. -/
def foldFirst (f : Nat → Nat → Nat) : List Nat → Option Nat
  | [] => none
  | a :: r => some (r.foldl f a)

/-- One level of the pairwise cascade. -/
def pairUp (f : Nat → Nat → Nat) : List Nat → List Nat
  | a :: b :: r => f a b :: pairUp f r
  | l => l

/-- The pairwise cascade of the lines' sums, with at most `fuel` levels. -/
def cascade (f : Nat → Nat → Nat) : Nat → List Nat → Nat
  | _, [] => 0
  | _, [a] => a
  | 0, a :: _ => a
  | n + 1, l => cascade f n (pairUp f l)

/-- The elements of a range cut into its 64-byte lines, by the address of their first byte. -/
def lineCut (size addr : Nat) (xs : List Nat) : List (List Nat) :=
  let n := (addr % 64 + xs.length * size + 63) / 64
  (List.range n).map (fun l => (xs.zipIdx.filter (fun x => (addr % 64 + x.2 * size) / 64 == l)).map (·.1))

/-- A sum over lines by the tree of R416: `g` makes the terms of the elements. -/
def lineSum (f : Nat → Nat → Nat) (g : Nat → Nat) (lines : List (List Nat)) : Nat :=
  cascade f 64 (lines.filterMap (fun l => foldFirst f ((l.filter (fun x => !fpIsNan x)).map g)))

/-- The bound of R416 on a sum whose terms' magnitudes add up to `a`: d × 2^-24 × (1 + 2^-20) × a, rounded up. -/
def errBound (d a : Nat) : Nat := if fpIsInf a then 0x7F800000 else fpRound true (fpMag a * d * (2 ^ 20 + 1)) 44

/-- The ceiling of log2. -/
def ceilLog2 (n : Nat) : Nat := if n ≤ 1 then 0 else Nat.log2 (n - 1) + 1

/-- The order of minimumNumber and maximumNumber among values that are no NaN: −0 lies below +0. -/
def fpKey (x : Nat) : Int := if fpNeg x then -(x % 2 ^ 31 : Nat) - 1 else (x % 2 ^ 31 : Nat)

/-- A list put into the order in which its items arrive, which free values give. -/
def arrive (base : Nat) : List (List Nat) → Nat → List (List Nat)
  | [], _ => []
  | l :: r, k => let t := arrive base r (k + 1); t.insertIdx (Config.free (base + k) % (t.length + 1)) l

/-! ## The digest (R417) -/

/-- One bit of the CRC. -/
def crcBit (c : BitVec 64) : BitVec 64 := if c.msb then (c <<< 1) ^^^ 0x42F0E1EBA9EA3693#64 else c <<< 1

/-- One byte of the CRC. -/
def crcByte (c : BitVec 64) (b : Byte) : BitVec 64 :=
  (List.range 8).foldl (fun c _ => crcBit c) (c ^^^ (b.setWidth 64 <<< 56))

/-- CRC-64/ECMA-182 of some bytes. -/
def crc64 (l : List Byte) : BitVec 64 := l.foldl crcByte 0

/-! ## Results (R414) -/

/-- The two words of a 128-bit number. -/
def words128 (x : Int) : List Word := let v := BitVec.ofInt 128 x; [v.setWidth 64, (v >>> 64).setWidth 64]

/-- Qwords 1 to 11 of an integer result. -/
def intStats (e : Nat) (xs : List Int) (none0 : Word × Word) : List Word :=
  let lo := match xs with | [] => none0.1 | a :: r => BitVec.ofInt 64 (r.foldl min a)
  let hi := match xs with | [] => none0.2 | a :: r => BitVec.ofInt 64 (r.foldl max a)
  let rg := intRange e
  [BitVec.ofNat 64 xs.length, lo, hi] ++ words128 (xs.foldl (· + ·) 0) ++ words128 (xs.foldl (fun n x => n + x * x) 0)
  ++ [BitVec.ofNat 64 (xs.filter (fun x => x == 0)).length,
      BitVec.ofNat 64 (xs.filter (fun x => x == rg.1 || x == rg.2)).length, 0, 0]

/-- Qwords 1 to 11 of an FP result; `lines` in the order in which they are combined. -/
def fpStats (per : Nat) (xs : List Nat) (lines : List (List Nat)) : List Word :=
  let ok := xs.filter (fun x => !fpIsNan x)
  let lo := match ok with | [] => Config.fpNan | a :: r => r.foldl (fun a b => if fpKey b < fpKey a then b else a) a
  let hi := match ok with | [] => Config.fpNan | a :: r => r.foldl (fun a b => if fpKey a < fpKey b then b else a) a
  let d := per + ceilLog2 lines.length
  let a1 := lineSum fpAddUp (fun x => x % 2 ^ 31) lines
  let a2 := lineSum fpAddUp (fpSquare true) lines
  let w (n : Nat) : Word := BitVec.ofNat 64 (n % 2 ^ 32)
  [BitVec.ofNat 64 xs.length, w lo, w hi, w (lineSum fpAdd (fun x => x) lines), 0, w (lineSum fpAdd (fpSquare false) lines), 0,
   BitVec.ofNat 64 (xs.filter (fun x => x % 2 ^ 31 == 0)).length,
   BitVec.ofNat 64 (xs.filter (fun x => fpIsNan x || fpIsInf x)).length, 0,
   mkWord [(0, 32, errBound d a1), (32, 32, errBound d a2)]]

/-- The 16 qwords of a watch's result over the bytes of its range; `det` is whether the context is deterministic. -/
def watchWords (w : Watch) (l : List Byte) (det : Bool) (fresh : Nat) : List Word :=
  let partial0 := w.kind = 0 && elemBits w.elem ≠ 4 && l.length % (elemBits w.elem / 8) ≠ 0
  let ordered := w.kind = 0 && elemFp w.elem && det
  let q0 := mkWord [(0, 1, 1), (1, 1, w.kind), (2, 4, w.elem), (6, 1, b2n partial0), (7, 1, b2n ordered), (16, 16, w.layer),
    (32, 16, w.op)]
  let body :=
    if w.kind = 1 then [BitVec.ofNat 64 l.length, 0, 0, 0, 0, 0, 0, 0, 0, crc64 l, 0]
    else
      let raw := rawElems w.elem l
      if elemFp w.elem then
        let xs := if w.elem = 8 then raw else raw.map (Config.shortFloat (elemBits w.elem))
        let size := elemBits w.elem / 8
        let lines := lineCut size w.addr.toNat xs
        fpStats (64 / size) xs (if det then lines else arrive fresh lines 0)
      else intStats w.elem (raw.map (intElem w.elem)) (BitVec.ofNat 64 (Config.free fresh), BitVec.ofNat 64 (Config.free (fresh + 1)))
  q0 :: body ++ List.replicate 4 0

/-- A watch's result is written (R414). -/
def State.watchWrite (s : State) (w : Watch) (ctx : Nat) (l : List Byte) : State :=
  let det := (Tab.get? s.ctxs ctx).any (fun c => c.det)
  let ws := watchWords w l det s.fresh
  let s := { s with fresh := s.fresh + l.length + 2 }
  (s.writeMem (s.forCtx ctx) w.result ws).bump .WCH_CNT 0 0 0 32 1

/-- What the cipher refuses of a watch's accesses is counted (R324). -/
def State.watchRefused (s : State) (c : Nat) (w : Watch) : State :=
  (s.noteRefused (s.ctxPart c) w.addr w.len).noteRefused (s.ctxPart c) w.result 128

/-- The range of a watch has been read and its result is visible (R413): of the TARGET 1 watch at which a submission stands,
or of the next watch of a DISPATCH; `none` is an access that faults, and so is one that the cipher refuses (R324). -/
def State.watchResult (s : State) (f : Nat) (k : Option Nat) (data : Option (List Byte)) : State :=
  let ok (c : Nat) (w : Watch) : Option (List Byte) :=
    let t := s.ctxPart c
    if s.refused t w.result 128 then none else s.unlessRefused t w.addr w.len data
  match k with
  | none =>
    match Tab.get? s.flights f with
    | none => s
    | some x =>
      match x.watching with
      | none => s
      | some w =>
        if x.inTeardown || x.ending.isSome then s
        else
          match ok x.ctx w with
          | none => ((s.updFlight f (fun x => { x with watching := none })).watchRefused x.ctx w).guilty f 8 none w.addr
          | some l =>
            if l.length < w.len then s
            else
              let s := (s.watchWrite w x.ctx (l.take w.len)).updFlight f (fun x => { x.advance with watching := none })
              s.unpark f
  | some k =>
    match Tab.get? s.tasks k with
    | none => s
    | some t =>
      match t.phase, t.watches with
      | .done, w :: rest =>
        (match ok t.ctx w with
         | none => (s.watchRefused t.ctx w).guiltyTask k 8 w.addr
         | some l =>
           if l.length < w.len then s
           else
             let s := (s.watchWrite w t.ctx (l.take w.len)).updTask k (fun t => { t with watches := rest })
             if rest.isEmpty then s.commandComplete k else s)
      | _, _ => s

end Sys2Proof.Machine
end

