-- ==== Sys2Proof/Machine/Sec.lean ====
section
/-! DEFINITION. The security controller (chapter 10): key generation and the noise source, page releases, mailboxes and the SPDM
responder, key release, zeroisation. No command shows a key (R313): SEC_SLOT gives its role and binding only. -/

namespace Sys2Proof.Machine

/-! ## Key generation (R309, R310, R341) -/

/-- A fabric session key is installed in the slot of the partition (R341); the one that it replaces stays in use until the new epoch is
announced. -/
def State.installFt (s : State) (f epoch : Nat) (key : BitVec 256) : State :=
  let p := s.rf .SEC_FT f 0 16 3
  let s1 :=
    if !s.rb .SEC_FT f 0 19 then s
    else
      let s := s.when (s.slotType (8 + p) = 2 && s.rb .SEC_FT f 0 20 && (Tab.get? s.sec.nextEpoch f).isNone) (fun s =>
        s.setSec (fun c => { c with oldKeys := Tab.set c.oldKeys f (none, s.keyOf (8 + p)) }))
      (s.setReg .SEC_SLOT (8 + p) 0 (mkWord [(0, 2, 2), (2, 3, p), (8, 4, f)])).putKey (8 + p) key
  s1.setSec (fun c => { c with nextEpoch := Tab.set c.nextEpoch f epoch })

/-- The lead's new session key of a tenant (R341): installed where the lead is a member, and sent to every other member wrapped under its
node key. A member without a node key gets one, and then a key, by the exchange of R340. -/
def State.tenantKey (s : State) (f : Nat) : State :=
  let e := ((Tab.get? s.sec.nextEpoch f).getD (s.rf .SEC_FT f 0 32 16) + 1) % 65536
  let (v, s) := s.genKey
  let key := BitVec.ofNat 256 v
  let s := s.installFt f e key
  let s := s.setSec (fun c => { c with keyDue := c.keyDue.filter (fun d => d.1 ≠ f) ++ [(f, e)] })
  ((s.tenantMembers f).filter (fun n => n ≠ s.node)).foldl (fun s n =>
    match Tab.get? s.tml.nodeKeys n with
    | some k => s.send n (.key f { epoch := e, members := BitVec.ofNat 16 (s.rf .SEC_FT f 0 0 16), wrapped := Config.keyWrap k key })
    | none => s) s

/-- A wrap key of the device for a function's session (R332). -/
def State.newWrap (s : State) (p : SpdmPeer) : State × SpdmAns :=
  let (v, s) := s.genKey
  let k := BitVec.ofNat 384 v
  (s.setSec (fun c => { c with sessions := c.sessions.map (fun x => if x.peer == p then { x with wrapKey := some k } else x) }),
   .wrapKey (Config.p384Point k))

/-- The oldest key request is served (R309): the memory key of a partition, a new session key of a fabric tenant, or a wrap key that has
waited for the noise source. -/
def State.keygenDone (s : State) : State :=
  match s.sec.keyReqs with
  | [] => s
  | r :: rest =>
    if s.esFailed then s
    else
      let s := s.setSec (fun c => { c with keyReqs := rest })
      match r with
      | .part t =>
        let s := (s.setReg .SEC_SLOT t 0 (mkWord [(0, 2, 1), (2, 3, t)])).newKey t
        (match s.preq with
         | some q => if q.keyWait then s.finishMove q else s
         | none => s)
      | .tenant f => if !s.rb .TML_STAT 0 0 5 then s else s.tenantKey f
      | .wrap n =>
        if !s.sec.mbox.contains n || !s.sec.sessions.any (fun x => x.peer == .host n && x.finished) then s
        else
          let r := s.newWrap (.host n)
          r.1.setSec (fun c => { c with mboxAns := Tab.set c.mboxAns n (r.2, true) })

/-- A health test fails (R310). The repetition count test and the adaptive proportion test run on raw samples, which no command shows; their
outcome comes as this command. -/
def State.healthFail (s : State) : State :=
  if s.esFailed then s
  else (((s.setB .SEC_STAT 0 0 1 true).setB .SEC_STAT 0 0 0 false).setF .SEC_STAT 0 0 2 2 0).securityRec 7 none []

/-- A repeat of the start-up tests (R310), three of them at most. -/
def State.entropyRetry (s : State) (pass : Bool) : State :=
  let n := s.rf .SEC_STAT 0 0 2 2
  if !s.esFailed || 3 ≤ n then s
  else
    let s := s.setF .SEC_STAT 0 0 2 2 (n + 1)
    if pass then ((s.setB .SEC_STAT 0 0 1 false).setB .SEC_STAT 0 0 0 true).resumeKex else s

/-! ## Page releases (R318) -/

/-- GO of MCI_FN_RELEASE (R318). -/
def State.pageRelease (s : State) (n first pages : Nat) : State :=
  if (Tab.get? s.sec.releases n).isSome then s
  else
    let k := if pages = 0 then 1 else pages
    let bad := match s.fnPart n with
      | none => true
      | some t => 65536 < k || s.rf .MCI_PART t 0 16 36 < first + k
          || (List.range 4).any (fun r =>
              let w := s.reg .MCI_SEAL t r
              bitOf w 36 && fld w 0 36 < first + k && first < fld w 0 36 + fld w 40 24)
    if bad then s.setB .MCI_FN_REL_STAT n 0 2 true
    else
      let s := (s.setSec (fun c => { c with releases := Tab.set c.releases n (first, k, []) })).setB .MCI_FN_REL_STAT n 0 0 true
      match s.fnPart n with
      | some t => s.emit (.cipher "invalidate pages" t)
      | none => s

/-- A release is carried out: its pages are unwritten, and the channels that wait may join (R316, R318). -/
def State.pageReleased (s : State) (n : Nat) : State :=
  match Tab.get? s.sec.releases n with
  | none => s
  | some (a, k, but) =>
    let s := s.setSec (fun c => { c with releases := Tab.erase c.releases n })
    let s := (s.setB .MCI_FN_REL_STAT n 0 0 false).setB .MCI_FN_REL_STAT n 0 1 true
    match s.fnPart n with
    | none => s
    | some t =>
      (s.freePages t a k but).joinIlv t

/-! ## Mailboxes and the SPDM responder (R330 to R332, R344) -/

/-- GO of a mailbox (R331): the request buffer is read. -/
def State.mboxGo (s : State) (n len : Nat) : State :=
  if s.sec.mbox.contains n then s
  else if len = 0 || 4096 < len then (s.setF .SEC_FN_MBOX_CTL n 0 0 13 len).setB .SEC_FN_MBOX_CTL n 0 15 true
  else
    let s := (s.setF .SEC_FN_MBOX_CTL n 0 0 13 len).setSec (fun c => { c with mbox := c.mbox ++ [n] })
    s.readMem (.mbox n) (s.reg .SEC_FN_MBOX_REQ n) len

/-- The qwords of an SPDM answer as they go to a response buffer: byte 0 tells a secured message from another; the bytes of the message,
whose encoding the spec does not give, are free values (log 175). -/
def State.spdmWords (s : State) (secured : Bool) (len : Nat) : List Word × State :=
  let ws := (List.range ((len + 7) / 8)).map (fun i => BitVec.ofNat 64 (Config.free (s.fresh + i)))
  (ws.zipIdx.map (fun e => if e.2 = 0 then putFld e.1 0 8 (if secured then 6 else 5) else e.1), { s with fresh := s.fresh + ws.length })

/-- The response buffer is written (R331), or faults, or the cipher refuses it (R324). -/
def State.mboxResponse (s : State) (n len : Nat) (fault : Bool) : State :=
  match Tab.get? s.sec.mboxAns n with
  | none => s
  | some a =>
    let dst := s.reg .SEC_FN_MBOX_RSP n
    if fault || s.refused (s.fnPart n) dst len then (s.noteRefused (s.fnPart n) dst len).mboxErr n
    else
      let s := (s.dropReads (fun r => r.tag == .mbox n)).setSec (fun c =>
        { c with mbox := c.mbox.filter (fun m => m ≠ n), mboxAns := Tab.erase c.mboxAns n })
      let (ws, s) := s.spdmWords a.2 len
      let s := ((s.writeMem (s.forFn n) dst ws).emit (.spdm (.host n) a.1)).setF .SEC_FN_MBOX_CTL n 0 16 13 len
      (s.setB .SEC_FN_MBOX_CTL n 0 14 true).fnEvent n 3

/-- The open session of a peer. -/
def State.session (s : State) (p : SpdmPeer) : Option Session := s.sec.sessions.find? (fun x => x.peer == p)

/-- A peer's session is open: FINISH has come. -/
def State.inSession (s : State) (p : SpdmPeer) : Bool := (s.session p).any (fun x => x.finished)

/-- A request of a peer is answered: through its mailbox, which must hold a request, or to the management controller. An answer to a request
of an open session is a secured message (R331). -/
def State.answer (s : State) (p : SpdmPeer) (g : State → State × SpdmAns) : State :=
  match p with
  | .mgmt => let r := g s; r.1.emit (.spdm .mgmt r.2)
  | .host n =>
    if s.sec.mbox.contains n && (Tab.get? s.sec.mboxAns n).isNone && !s.sec.keyReqs.contains (.wrap n) then
      let r := g s
      r.1.setSec (fun c => { c with mboxAns := Tab.set c.mboxAns n (r.2, (s.session p).isSome) })
    else s

/-- A change of a peer's session. -/
def State.updSession (s : State) (p : SpdmPeer) (f : Session → Session) : State :=
  s.setSec (fun c => { c with sessions := c.sessions.map (fun x => if x.peer == p then f x else x) })

/-- The digest of the certificate chain in slot 0. -/
def State.chainDigest (s : State) : BitVec 384 := Config.sha384 (byteNats s.chain)

/-- GET_VERSION: SPDM 1.2 (R330). -/
def State.spdmVersion (s : State) : State × SpdmAns := (s, .version 1 2)

/-- GET_CAPABILITIES (R330). -/
def State.spdmCaps (s : State) : State × SpdmAns :=
  (s, .capabilities [.cert, .chal, .measSigned, .encrypt, .mac, .keyEx, .mutAuth, .keyUpd] 15)

/-- NEGOTIATE_ALGORITHMS (R330). -/
def State.spdmAlgs (s : State) : State × SpdmAns := (s, .algorithms [.ecdsaP384, .sha384, .secp384r1, .aes256Gcm, .spdmKeySchedule])

/-- GET_DIGESTS (R330). -/
def State.spdmDigests (s : State) : State × SpdmAns := (s, .digests 0 s.chainDigest)

/-- GET_CERTIFICATE (R330). -/
def State.spdmCert (s : State) : State × SpdmAns := (s, .certificate 0 s.chain)

/-- CHALLENGE (R330). -/
def State.spdmChallenge (s : State) (p : SpdmPeer) : State × SpdmAns :=
  let (sig, s1) := s.sign
  (s1, .challengeAuth s.chainDigest (s.summary p) sig)

/-- GET_MEASUREMENTS (Table 10-6): one measurement that the peer may ask for; index 0 asks how many there are, and 0xFF for all of them (log
175). The layout blocks of other partitions are for the management session only. -/
def State.spdmMeasure (s : State) (p : SpdmPeer) (i : Nat) : State × SpdmAns :=
  let all := (s.measurements p).filter (fun e => e.1 < 0x10 || s.inSession .mgmt)
  if i = 0 then (s, .measurementCount all.length)
  else
    match (if i = 0xFF then all else all.filter (fun e => e.1 = i)) with
    | [] => (s, .error .invalidRequest)
    | l => let (sig, s1) := s.sign; (s1, .measurements l sig)

/-- KEY_EXCHANGE (R310, R331, R344). -/
def State.spdmKeyExchange (s : State) (p : SpdmPeer) : State × SpdmAns :=
  let hosts := (s.sec.sessions.filter (fun x => x.peer ≠ .mgmt)).length
  let locked := p == .mgmt && s.sec.lockUntil.isSome
  if locked then (s, .error .refused)
  else if s.esFailed || (s.session p).isSome || (p ≠ .mgmt && 8 ≤ hosts) then (s, .error .busy)
  else
    let (e, s1) := s.genKey
    let (sig, s1) := s1.sign
    (s1.setSec (fun c => { c with sessions := c.sessions ++ [{ peer := p }] }),
     .keyExchange (Config.p384Point (BitVec.ofNat 384 e)) (s.summary p) sig)

/-- The owner keys that the plinth holds (R344). -/
def State.owners (s : State) : Nat := match s.start.plinth with | some p => p.owners | none => 0

/-- FINISH (R330, R344): `ok` is whether the requester's proof holds, for management under the owner key `owner`, which must be one of the
plinth's. -/
def State.spdmFinish (s : State) (p : SpdmPeer) (ok : Bool) (owner : Nat) : State × SpdmAns :=
  match s.session p with
  | none => (s, .error .unexpectedRequest)
  | some x =>
    if x.finished then (s, .error .unexpectedRequest)
    else if ok && (p ≠ .mgmt || owner < s.owners) then
      let s := s.updSession p (fun x => { x with finished := true, owner := owner })
      (if p == .mgmt then (s.setF .SEC_MGMT 0 0 1 2 owner).setSec (fun c => { c with fails := 0 }) else s, .finish)
    else
      let s := s.setSec (fun c => c.endSession p)
      if p == .mgmt then
        let s := (s.setSec (fun c => { c with fails := c.fails + 1 })).bump .SEC_MGMT 0 0 8 8 1
        let s := s.securityRec 8 none []
        (if 8 ≤ s.sec.fails then s.setSec (fun c => { c with lockUntil := some (s.ref + 10000000000) }) else s, .error .refused)
      else (s, .error .refused)

/-- The lock-out of management authentication ends (R344). -/
def State.lockoutEnd (s : State) : State :=
  match s.sec.lockUntil with
  | some u => if u ≤ s.ref then s.setSec (fun c => { c with lockUntil := none, fails := 0 }) else s
  | none => s

/-- END_SESSION (R331). -/
def State.spdmEnd (s : State) (p : SpdmPeer) : State × SpdmAns :=
  if s.inSession p then (s.setSec (fun c => c.endSession p), .endSessionAck) else (s, .error .unexpectedRequest)

/-- GET_WRAP_KEY (Table 10-7): while the noise source has failed the request waits (R310). -/
def State.spdmWrap (s : State) (p : SpdmPeer) : State :=
  match p with
  | .mgmt => s.emit (.spdm .mgmt (.error .unexpectedRequest))
  | .host n =>
    if !s.inSession p then s.answer p (fun s => (s, .error .unexpectedRequest))
    else if s.esFailed && s.sec.mbox.contains n && (Tab.get? s.sec.mboxAns n).isNone && !s.sec.keyReqs.contains (.wrap n) then
      s.setSec (fun c => { c with keyReqs := c.keyReqs ++ [.wrap n] })
    else s.answer p (fun s => s.newWrap p)

/-- The lowest free blob slot. -/
def State.freeBlobSlot (s : State) : Option Nat := ((List.range 47).map (· + 16)).find? (fun k => s.slotType k = 0)

/-- The blob key that a DELIVER_KEY carries (R332), unwrapped under the KEK of the device's wrap key; none where that fails. -/
def openWrap (w : WrapIn) (priv : BitVec 384) (model : Word) : Option (BitVec 256) :=
  let kek := Config.hkdf (Config.ecdh priv w.pub) (beBytes 97 (Config.p384Point priv).toNat) (byteNats (wordBytes [model])) 32
  Config.keyUnwrap (BitVec.ofNat 256 (beNat kek)) w.wrapped

/-- DELIVER_KEY (R332): the result of Table 10-7, and the slot. -/
def State.spdmDeliver (s : State) (p : SpdmPeer) (w : WrapIn) (keep : Bool) (model : Word) : State × SpdmAns :=
  match p with
  | .mgmt => (s, .error .unexpectedRequest)
  | .host n =>
    if !s.inSession p then (s, .error .unexpectedRequest)
    else
      let had := (s.session p).bind (fun x => x.wrapKey)
      let s := s.updSession p (fun x => { x with wrapKey := none })
      match had, s.fnPart n with
      | none, _ => (s, .delivered 3 0)
      | some _, none => (s, .delivered 4 0)
      | some priv, some t =>
        if !s.live t then (s, .delivered 4 0)
        else
          match openWrap w priv model, s.freeBlobSlot with
          | none, _ => (s, .delivered 2 0)
          | some _, none => (s, .delivered 1 0)
          | some key, some k =>
              let s := (s.setReg .SEC_SLOT k 0 (mkWord [(0, 2, 3), (2, 3, t), (5, 1, b2n keep), (32, 32, fld model 0 32)])).putKey k key
              (s.setSec (fun c => { c with modelIds := Tab.set c.modelIds k model }), .delivered 0 k)

/-- SEC_FN_KEYS: the blob slots of a function's partition. -/
def State.fnKeys (s : State) (n : Nat) : List Nat :=
  match s.fnPart n with | some t => s.blobSlots (fun k => s.slotPart k == t) | none => []

/-! ## Zeroisation (R312, R334, R343) -/

/-- The fabric tenant whose session key a slot holds has a transfer in progress. -/
def State.ftInUse (s : State) (f : Nat) : Bool := s.tml.xfers.any (fun e => e.2.ft == f) || s.tml.inb.any (fun y => y.ft == f)

/-- SEC_ZEROISE.ONE: a fabric session key goes once its transfers have had the 100 µs of R343, a blob key under R329. -/
def State.zeroiseOne (s : State) (k : Nat) : State :=
  if 16 ≤ k && k ≤ 62 then s.freeBlob k
  else if 8 ≤ k && k ≤ 15 && s.slotType k = 2 then
    let f := s.rf .SEC_SLOT k 0 8 4
    let s := s.setB .SEC_FT f 0 20 false
    if s.ftInUse f then s.setSec (fun c => { c with oldKeys := Tab.set c.oldKeys f (some (s.ref + 100000), s.keyOf k) }) else s.zeroSlot k
  else s

/-- The 100 µs of R343 are over: transfers of an old epoch are squashed with ABORTED_BY_PARTITION, and the old key is zeroised;
a slot that no newer key has taken is empty. -/
def State.epochTimeout (s : State) (f : Nat) : State :=
  match (Tab.get? s.sec.oldKeys f).bind (·.1) with
  | none => s
  | some u =>
    if s.ref < u then s
    else
      let s := s.setSec (fun c => { c with oldKeys := Tab.erase c.oldKeys f })
      let cur := s.rf .SEC_FT f 0 32 16
      let ok := s.rb .SEC_FT f 0 20
      let xs := (s.tml.xfers.filter (fun e => e.2.ft == f && (e.2.epoch ≠ cur || !ok))).map (·.1)
      let s := xs.foldl (fun s x => s.xferSquash x 0xE) s
      let s := { s with tml := { s.tml with inb := s.tml.inb.filter (fun y => !(y.ft == f && (y.epoch ≠ cur || !ok))) } }
      if ok then s else
        (List.range 8).foldl (fun s p => if s.slotType (8 + p) = 2 && s.rf .SEC_SLOT (8 + p) 0 8 4 = f then s.zeroSlot (8 + p) else s) s

end Sys2Proof.Machine
end

