-- ==== Sys2Proof/Machine/Obs.lean ====
section
/-! DEFINITION. The observation unit's own commands (chapter 13): counters and freezes, stops and resumes, the scan image and the
wait-for graph. The counting, trace and stop operations that other chapters use stand in Ops. -/

namespace Sys2Proof.Machine

/-! ## Counters and freezes (R398, R401, R403 to R405) -/

/-- OBS_FREEZE_CTL.CLEAR zeroes every live counter, the context counters too (R398). -/
def State.clearCounters (s : State) : State :=
  let lo := Reg.OBS_CNT.key 0 0
  { s with regs := s.regs.filter (fun e => !(lo ≤ e.1 && e.1 < lo + 0x2000)),
           ctxs := Tab.mapV s.ctxs (fun c => { c with cnt := List.replicate 8 0 }) }

/-- A write of OBS_PCFG[j] configures the counter and zeroes it (R401). -/
def State.writePcfg (s : State) (j : Nat) (v : Word) : State :=
  (s.setReg .OBS_PCFG j 0 (v &&& 0x0000FFFF01FFFFFF)).setReg .OBS_CNT (512 + j) 0 0

/-- The armed time is over: the freeze is taken, or counted as missed, and disarmed (R403, R405). -/
def State.freezeDue (s : State) : State :=
  if s.rb .OBS_FREEZE_STAT 0 0 20 && (s.reg .OBS_FREEZE_AT).toNat ≤ s.now then
    (s.setB .OBS_FREEZE_STAT 0 0 20 false).freeze 2
  else s

/-- A write of OBS_FREEZE_AT (R405): armed, broadcast with FABRIC, and taken at once where the time has passed. -/
def State.freezeArm (s : State) (v : Word) : State :=
  let on := v ≠ BitVec.allOnes 64
  let s := (s.setReg .OBS_FREEZE_AT 0 0 v).setB .OBS_FREEZE_STAT 0 0 20 on
  let s := s.when (on && s.rb .OBS_FREEZE_CTL 0 0 4) (fun s => s.broadcast (.atMsg v.toNat 1))
  s.freezeDue

/-! ## Resume (R423) -/

/-- The front end resumes from a soft stop. During regrowth it stays halted, and regrowth performs what fell due (R425). -/
def State.resume (s : State) (fromAt : Bool) : State :=
  if !s.sstopped || s.gstopped then s
  else
    let s := (s.setB .OBS_STOP_STAT 0 0 1 false).setB .OBS_STOP_STAT 0 0 2 false
    let s := s.when (s.rb .OBS_STOP_CFG 0 0 2 && !fromAt) (fun s => s.broadcast (.atMsg 0 4))
    let s := s.traceDev 0x15 3
    if s.regrowing then s else s.acceptAll.doDeferred

/-- The action of an AT message (Table 13-3). -/
def State.atAct (s : State) (action : Nat) : State :=
  match action with
  | 1 => s.freeze 2
  | 2 => s.globalStop 4
  | 3 => s.softStop 4
  | 4 => s.resume true
  | _ => s

/-! ## The wait-for graph (R426 to R429) -/

/-- A node of the graph: KIND and ID (Table 13-12). -/
abbrev GNode := Nat × Nat

/-- The number of an engine as a graph node has it: CLASS and physical number. -/
def engNode (c : Cls) (peng : Nat) : GNode := (6, c.code * 256 + peng)

/-- The engines a task runs on. -/
def State.taskEngines (s : State) (k : Nat) : List GNode :=
  ((List.range 48).filter (fun p => (nth s.cores p {}).run.any (fun r => r.task == k))).map (engNode .cores)
  ++ (s.engs.filter (fun e => e.2.runs.any (fun r => r.task == k))).map (fun e => engNode (engCls e.1).1 (engCls e.1).2)

/-- The submissions whose work an engine holds. -/
def State.engineFlights (s : State) (id : Nat) : List Nat :=
  let p := id % 256
  let ks : List Nat :=
    if id / 256 = 1 then ((nth s.cores p {}).run.map (fun r => [r.task])).getD []
    else
      let c : Cls := match id / 256 with | 2 => .tiler | 3 => .dma | 4 => .comp | 5 => .link | _ => .gate
      (Tab.getD s.engs (engNo c p) {}).runs.map (fun r => r.task)
  (ks.filterMap (fun k => (Tab.get? s.tasks k).map (fun t => t.f))).eraseDups

/-- A recorder or holder as a graph node: a context of this node that exists, or the remote node. -/
def State.ctxNode (s : State) (c n : Nat) : Option GNode :=
  if n ≠ s.node then some (7, n) else if (Tab.get? s.ctxs c).isSome then some (9, c) else none

/-- The parked submissions of a context. -/
def State.parkedOf (s : State) (c : Nat) : List Nat := ((s.flightsOf c).filter (fun e => e.2.wait.isSome)).map (·.1)

/-- The edges out of a node, as EKIND and end (Table 13-12, R429); a context's follow once the nodes are known. -/
def State.graphOut (s : State) (g : GNode) : List (Nat × GNode) :=
  match g.1 with
  | 0 =>
    match Tab.get? s.flights g.2 with
    | none => []
    | some f =>
      match f.wait with
      | none => []
      | some w =>
        match w.kind with
        | .event h _ => [(0, (1, h.toNat))]
        | .sem n i _ => [(0, (2, n * 4096 + i))]
        | .credit p n => [(0, (3, p * 16 + n))]
        | .maquette => [(0, (4, 0))]
        | .crSpace c => [(0, (5, c))]
        | .drain c p => [(0, engNode c p)]
        | .window => ((f.out.flatMap s.taskEngines).eraseDups).map (fun e => (0, e))
        | .earlier q _ =>
          match (s.flightsInOrder q).find? (fun e => e.1 ≠ g.2) with
          | some e => [(0, (0, e.1))]
          | none => []
  | 1 =>
    if g.2 / 2 ^ 28 ≠ s.node then []
    else
      match Tab.get? s.events (g.2 % 65536) with
      | some e => (match e.recorder with
        | some (c, n) => ((s.ctxNode c n).map (fun x => (2, x))).toList
        | none => [])
      | none => []
  | 2 =>
    if g.2 / 4096 ≠ s.node then []
    else (s.semOf (g.2 % 4096)).holders.filterMap (fun h => (s.ctxNode h.ctx h.node).map (fun x => (1, x)))
  | 3 => [(1, (7, g.2 % 16))]
  | 4 => (((s.tasks.filter (fun e => e.2.slot.isSome)).map (fun e => e.2.f)).eraseDups).map (fun f => (1, (0, f)))
  | 5 => [(1, (8, 0))]
  | 6 => (s.engineFlights g.2).map (fun f => (3, (0, f)))
  | 9 => (s.parkedOf g.2).map (fun f => (4, (0, f)))
  | _ => []

/-- The nodes reached from those in `todo`, each once, in the order in which they are reached; at most `n` of them. -/
def State.graphNodes (s : State) : Nat → List GNode → List GNode → List GNode
  | 0, _, seen => seen
  | _, [], seen => seen
  | n + 1, g :: r, seen =>
    let new := ((s.graphOut g).map (·.2)).eraseDups.filter (fun x => !seen.contains x)
    s.graphNodes n (r ++ new) (seen ++ new)

/-- The edges among the nodes: of a context, to each of its submissions that the graph has. -/
def State.graphEdges (s : State) (ns : List GNode) : List (Nat × Nat × Nat) :=
  ns.zipIdx.flatMap (fun a =>
    let outs : List (Nat × GNode) :=
      if a.1.1 = 9 then (ns.filter (fun x => x.1 = 0 && (Tab.get? s.flights x.2).any (fun f => f.ctx == a.1.2))).map (fun x => (4, x))
      else s.graphOut a.1
    outs.filterMap (fun e => (ns.idxOf? e.2).map (fun j => (a.2, j, e.1))))

/-- The nodes that `from0` reaches, in at most `n` rounds. -/
def reachSet (es : List (Nat × Nat × Nat)) : Nat → List Nat → List Nat
  | 0, l => l
  | n + 1, l =>
    let new := ((es.filter (fun e => l.contains e.1 && !l.contains e.2.1)).map (fun e => e.2.1)).eraseDups
    if new.isEmpty then l else reachSet es n (l ++ new)

/-- The nodes of the strongly connected component of `i` (R429). -/
def component (es : List (Nat × Nat × Nat)) (n i : Nat) : List Nat :=
  (List.range n).filter (fun j => (reachSet es n [i]).contains j && (reachSet es n [j]).contains i)

/-- The record of a node (Table 13-11). -/
def State.graphRec (s : State) (trig : List Nat) (ns : List GNode) (cyc : Bool) (g : GNode) : List Word :=
  let f := Tab.get? s.flights g.2
  let ctx := if g.1 = 0 then (f.map (·.ctx)).getD 0 else if g.1 = 9 then g.2 else 0
  let has := g.1 = 0 || g.1 = 9
  let fn := if has then (s.ctxFn ctx).getD 0 else 0
  let waiting (p : WaitKind → Option Nat) : Nat :=
    ((ns.filterMap (fun x => if x.1 = 0 then (Tab.get? s.flights x.2).bind (fun f => f.wait.bind (fun w => p w.kind)) else none)).head?).getD 0
  let q1 := match g.1 with
    | 0 => ((f.bind (fun f => f.wait)).map (fun w => s.fabOf w.since)).getD 0
    | 1 => waiting (fun k => match k with | .event h t => if h.toNat = g.2 then some t.toNat else none | _ => none)
    | 2 => waiting (fun k => match k with | .sem n i c => if n * 4096 + i = g.2 then some c else none | _ => none)
    | _ => 0
  let id := if g.1 = 2 then packFields [(0, 12, g.2 % 4096), (12, 4, g.2 / 4096)] else g.2
  [mkWord [(0, 4, g.1), (4, 1, b2n cyc), (5, 1, b2n (has && trig.contains ctx)), (16, 10, ctx), (26, 6, fn), (32, 32, id)],
   BitVec.ofNat 64 q1]

/-- The wait-for graph of a snapshot, with the number of cycles marked, written up to the buffer's size. -/
def State.buildGraph (s : State) (trig : List Nat) : List Word × Nat :=
  let others := (s.ctxs.map (·.1)).filter (fun c => !trig.contains c && !(s.parkedOf c).isEmpty)
  let seeds := (trig ++ others).map (fun c => ((9, c) : GNode))
  let ns := s.graphNodes 16384 seeds seeds
  let es := s.graphEdges ns
  let n := ns.length
  let comps := (List.range n).map (component es n)
  let inCyc (i : Nat) : Bool := 1 < (nth comps i []).length
  let cycles := ((List.range n).filter (fun i => inCyc i && (nth comps i []).head? == some i)).length
  let size := s.rf .OBS_HANG_CFG 0 0 0 8
  let qw := (if size = 0 then 32 else size) * 8192
  let full := 8 + 2 * n + es.length
  let trunc := qw < full
  let hdr := [mkWord [(0, 32, 0x56585747), (32, 16, 1), (48, 4, s.node), (52, 1, b2n trunc)], BitVec.ofNat 64 s.now,
    mkWord [(0, 32, n), (32, 32, es.length)], mkWord [(0, 16, cycles), (16, 16, trig.length)], 0, 0, 0, 0]
  let body := ns.zipIdx.flatMap (fun a => s.graphRec trig ns (inCyc a.2) a.1)
  let edges := es.map (fun e => mkWord [(0, 16, e.1), (16, 16, e.2.1), (32, 3, e.2.2)])
  ((hdr ++ body ++ edges).take qw, cycles)

/-- A further context whose expiry falls into the arbitration of a graph's snapshot: it counts in the header, and its nodes carry TRIGGER
(R426). -/
def addTrigger (ws : List Word) (c : Nat) : List Word :=
  let n := fld (nth ws 2 0) 0 32
  (ws.zipIdx).map (fun w =>
    if w.2 = 3 then putFld w.1 16 16 (fld w.1 16 16 + 1)
    else if 8 ≤ w.2 && w.2 < 8 + 2 * n && w.2 % 2 = 0 && (fld w.1 0 4 = 0 || fld w.1 0 4 = 9) && fld w.1 16 10 = c then
      putFld w.1 5 1 1
    else w.1)

/-- A snapshot for a graph, or one more that is not taken (R426, R427); expiries in one arbitration share one graph. -/
def State.snapshot (s : State) (trig : List Nat) : State :=
  match s.obs.graph, trig with
  | some g, c :: _ =>
    if s.obs.graphAt = s.ref then { s with obs := { s.obs with graph := some (addTrigger g.1 c, g.2) } }
    else s.bump .OBS_HANG_STAT 0 0 16 16 1
  | _, _ =>
    if s.rb .OBS_HANG_STAT 0 0 1 || s.rb .OBS_HANG_STAT 0 0 0 then s.bump .OBS_HANG_STAT 0 0 16 16 1
    else
      let s1 := s.setB .OBS_HANG_STAT 0 0 1 true
      { s1 with obs := { s1.obs with graph := some (s.buildGraph trig), graphAt := s.ref } }

/-- The graph has been built and copied, or its copy has faulted (R426, R427). -/
def State.graphBuilt (s : State) (fault : Bool) : State :=
  match s.obs.graph with
  | none => s
  | some (ws, cycles) =>
    let s := ({ s with obs := { s.obs with graph := none } }).setB .OBS_HANG_STAT 0 0 1 false
    let s := s.setB .OBS_HANG_STAT 0 0 2 (bitOf (nth ws 0 0) 52)
    if fault then s.setB .OBS_HANG_STAT 0 0 3 true
    else
      let s := (s.writeMem (s.forFn 0) (s.reg .OBS_HANG_DEST) ws).setF .OBS_HANG_STAT 0 0 32 16 cycles
      (s.setB .OBS_HANG_STAT 0 0 0 true).raise 8

end Sys2Proof.Machine
end

