-- ==== Sys2Proof/Machine/Fabric.lean ====
section
/-! DEFINITION. What arrives on the Tamnel fabric (chapter 11): training and the link handshake, frames, segments, control
messages, fabric time, the lead's duties, joining and leaving. -/

namespace Sys2Proof.Machine


/-- This node is the lead. -/
def State.isLead (s : State) : Bool := s.rb .TML_STAT 0 0 5

/-- The lead's node number. -/
def State.leadNode (s : State) : Nat := s.rf .TML_STAT 0 0 6 4

/-- The live nodes of the live map, as a mask. -/
def State.liveMask (s : State) : Nat := s.rf .TML_STAT 0 0 16 16

/-- A node that has become live grants and is granted 64 transfer credits (R364). -/
def State.grantCredits (s : State) (n : Nat) : State := (s.setF .TML_E2E n 0 0 7 64).setF .TML_E2E n 0 8 7 64

/-- The place of this node in the time tree (R371): the root at the lead, else the neighbour with the fewest hops to it. -/
def State.treeUpdate (s : State) : State :=
  let put (s : State) (root : Bool) (p d : Nat) : State :=
    ((s.setB .TML_TIME_STAT 0 0 1 root).setF .TML_TIME_STAT 0 0 2 2 p).setF .TML_TIME_STAT 0 0 4 4 d
  if s.isLead then put s true 0 0
  else
    let cand := (List.range 4).filterMap (fun p =>
      if !s.hopUp s.node p then none
      else
        let m := (s.neighbour s.node p).1
        if m = s.leadNode then some (0, p) else (s.route m s.leadNode).map (fun r => (r.2, p)))
    match cand with
    | [] => put s false 0 0
    | a :: r =>
      let b := r.foldl (fun a b => if b.1 < a.1 then b else a) a
      put s false b.2 (b.1 + 1)

/-- Nodes that were live in `before` and are not any more: the lead rekeys their tenants (R341). -/
def State.rekeyLost (s : State) (before : Nat) : State :=
  if !s.isLead then s
  else ((List.range 16).filter (fun n => Nat.testBit before n && !s.nodeUp n)).foldl State.rekeyFor s

/-- A link-level happening: the links run on through a global stop (R420), but not past the double-fault halt. -/
def actLink (s : State) (t : Nat) (f : State → State) : Host.Outcome State Fault Refusal :=
  if s.ready && !s.haltedAll then
    let s1 := s.at t
    fin ((f s1).rekeyLost s1.liveMask)
  else .next s

/-! ## Training and the handshake (R33, R335, R337, R359 to R362) -/

/-- What this node's TRAIN frame says on a port (R353, R359, R361): its fabric, its node ID or ASSIGN (16), its port, its lead, its own offer of
credits, the feature set of this revision, and its best mode. -/
def State.trainInfo (s : State) (p : Nat) : TrainInfo :=
  let cfg := s.reg .TML_CFG
  { fabricId := BitVec.ofNat 32 (fld cfg 32 32), topo := fld cfg 0 2, xdim := fld cfg 2 4, ydim := fld cfg 6 4,
    node := if bitOf cfg 14 && !s.member then 16 else s.posn, port := p, leadNode := s.leadNode, hasLead := s.member,
    credits := min 64 (max 8 Config.linkOffer), features := 15, protection := true,
    lanes := s.rf .TML_PORT p 0 3 4, rate := s.rf .TML_PORT p 0 7 2 }

/-- A TRAIN frame leaves in clear. Its body flits, whose content the spec places nowhere, are free values (log 147). -/
def State.sayTrain (s : State) (p : Nat) : State :=
  let (n, s) := s.someFlits
  s.emit (.frame p { typ := 6, dest := s.peerOf p, src := s.posn, body := .train (s.trainInfo p), text := n })

/-- TMp_LANE_UP reports the lanes of a port that trains, at a rate of TMp_RATE_SET. -/
def State.lanesUp (s : State) (p lanes rate : Nat) : State :=
  if s.portState p ≠ 1 || s.rf .TML_PORT p 0 3 4 ≠ 0 || 8 < lanes then s
  else if lanes = 0 then s.portDown p 1
  else ((s.setF .TML_PORT p 0 3 4 lanes).setF .TML_PORT p 0 7 2 rate).sayTrain p

/-- The port a peer must show (Table 11-1). -/
def wantedPeerPort (p : Nat) : Nat := if p % 2 = 0 then p + 1 else p - 1

/-- Every port goes down with DISSOLVED, and the node joins again (R380). -/
def State.dissolveHere (s : State) : State :=
  let l := s.leadNode
  (s.leaveFabric 15).leadRec 3 l

/-- The island of this node dissolves (R380). DEDUCED (log 180): each of the other members learns of it by a LEAVE that names it, the farthest
first, since no message of Table 11-7 is for it. -/
def State.dissolve (s : State) : State :=
  let far (n : Nat) : Nat := ((s.route s.node n).map (·.2)).getD 0
  let others := (List.range 16).reverse.flatMap (fun h => (List.range 16).filter (fun n => n ≠ s.node && s.nodeUp n && far n == h))
  (others.foldl (fun s n => s.broadcast (.leave n)) s).dissolveHere

/-- A TRAIN frame arrives (R33, R359): the modes, then the checks of R359; the handshake follows. -/
def State.train (s : State) (p : Nat) (i : TrainInfo) : State :=
  let lanes := s.rf .TML_PORT p 0 3 4
  if s.portState p ≠ 1 || lanes = 0 then s
  else
    let cfg := s.reg .TML_CFG
    let rate := max i.rate (s.rf .TML_PORT p 0 7 2)
    let w := min lanes i.lanes
    let same := i.fabricId.toNat == fld cfg 32 32 && i.topo == fld cfg 0 2 && i.xdim == fld cfg 2 4 && i.ydim == fld cfg 6 4
    if w = 0 then s.portDown p 1
    else if 3 ≤ rate then s.portDown p 2
    else if !i.protection then s.portDown p 3
    else if !same then s.portDown p 6
    else if i.port ≠ wantedPeerPort p then s.portDown p 5
    else if i.features.toNat % 16 ≠ 15 then s.portDown p 8
    else if s.member && i.hasLead && i.leadNode < s.leadNode then s.dissolve
    else
      let at0 := s.posn
      let peer := if i.node < 16 then i.node else (s.neighbour at0 p).1
      let s := (s.setF .TML_PORT p 0 0 3 2).setF .TML_PORT p 0 3 4 w
      let s := (s.setF .TML_PORT p 0 7 2 rate).setF .TML_PORT p 0 14 4 peer
      let s := (s.setF .TML_PORT p 0 18 2 i.port).setB .TML_PORT p 0 20 true
      let s := (s.setF .TML_PORT p 0 21 7 (min 64 (max 8 i.credits))).setF .TML_PORT p 0 32 32 15
      let s := s.when (bitOf cfg 14 && !s.member && i.node < 16 && s.tml.ports.isEmpty) (fun s =>
        s.setTml (fun m => { m with pos := (s.neighbour i.node i.port).1 }))
      let s := s.updPort p (fun _ => { peerLead := if i.hasLead then some i.leadNode else none })
      (s.setF .SEC_LINK p 0 0 2 1).sayHello p

/-- The frames from a counter on that are not acknowledged, after those under an earlier key, are sent again, with the ciphertext and
counters they have (R336, R352). -/
def State.resend (s : State) (p from0 : Nat) : State :=
  let again (e : Sent) : Bool := e.old || from0 ≤ e.frame.ctr
  let r := (s.tport p).replay.filter again
  let s := s.updPort p (fun x => { x with replay := x.replay.map (fun e => if again e then { e with at0 := s.ref } else e) })
  let n := 64 * r.foldl (fun n e => n + e.frame.text.length) 0
  (((s.bump .TML_PORT_CNT p 0 0 16 r.length).emits (r.map (fun e => Emit.frame p e.frame))).count (160 + 2 * p) n).count (172 + p) n

/-- Lanes fall on a port that is up (R362). -/
def State.lanesFall (s : State) (p lanes rate : Nat) : State :=
  if s.portState p ≠ 3 || 8 < lanes then s
  else if lanes = 0 || 3 ≤ rate then s.portDown p 10
  else
    let was := s.rb .TML_PORT p 0 9
    let deg := lanes < 8 || rate ≠ 0
    let s := (s.setF .TML_PORT p 0 3 4 lanes).setF .TML_PORT p 0 7 2 rate
    let s := (s.setB .TML_PORT p 0 9 deg).bump .TML_PORT_CNT p 0 16 16 1
    let s := s.when (deg && !was) (fun s => s.raise 14)
    s.resend p 0

/-- Two microseconds pass without a frame on a port that is up (Table 11-5). -/
def State.lanesLost (s : State) (p : Nat) : State :=
  if s.portState p = 3 && (s.tport p).rxAt + 2000 ≤ s.ref then s.portDown p 10 else s

/-- A rekey of a protected link begins (R337). -/
def State.beginRekey (s : State) (p : Nat) : State :=
  (s.setB .SEC_LINK p 0 3 true).updPort p (fun x => { x with rekey := true, mine := none, theirs := none })

/-- A LINK_HELLO arrives (Table 10-10): this end's own, where it has not gone yet, and the proof answer it, once new keys can be made
(R310). -/
def State.linkHello (s : State) (p : Nat) (h : Hello) : State :=
  if (s.tport p).theirs.isSome || !(s.portState p = 2 || s.portState p = 3) then s
  else
    let s := s.when (s.portState p = 3 && !(s.tport p).rekey) (fun s => s.beginRekey p)
    ((s.updPort p (fun x => { x with theirs := some h })).sayHello p).sayProof p

/-- This node and its neighbour form a fabric of their own, with the lead of R376. -/
def State.form (s : State) (peer : Nat) : State :=
  let s := s.setNode s.posn
  let s := (s.setF .TML_STAT 0 0 16 16 (packFields [(s.node, 1, 1), (peer, 1, 1)])).setB .TML_STAT 0 0 4 true
  let l := (s.chooseLead none).getD s.node
  let s := (s.setF .TML_STAT 0 0 6 4 l).setB .TML_STAT 0 0 5 (l == s.node)
  let d := s.chooseLead (some l)
  let s := (s.setF .TML_STAT 0 0 10 4 (d.getD 0)).setB .TML_STAT 0 0 14 d.isSome
  let s := (s.grantCredits peer).mapSettle
  let s := s.setTml (fun m => { m with hbAt := s.ref, stepped := true, granted := true })
  let s := s.treeUpdate
  if l = s.node then s.sendLead else s.startKex l

/-- A protected link has come up (Table 11-9 steps 1 and 2, R376): two nodes without a fabric form one, a node without one asks
the peer's lead to join, and a lead confirms the map with the new link. -/
def State.linkUpJoin (s : State) (p : Nat) : State :=
  let peer := s.rf .TML_PORT p 0 14 4
  match s.member, (s.tport p).peerLead with
  | false, none => s.form peer
  | false, some l => s.send l (.joinReq (BitVec.ofNat 32 (s.rf .TML_CFG 0 0 32 32)) s.posn)
  | true, _ => if s.isLead && s.nodeUp peer then s.sendLead else s

/-- A SECURITY record of a port (R325): qword 5 is the port. -/
def State.portSecurity (s : State) (sub p : Nat) : State := s.securityRec sub (some p) [BitVec.ofNat 64 p, 0, 0]

/-- A LINK_PROOF arrives (Table 10-10 steps 3 to 5, R337): the keys follow from both HELLOs. After a rekey this end sends KEY_SWITCH as its last
frame under the old key, and takes frames under the old key until that of the peer. -/
def State.linkProof (s : State) (p : Nat) (chainOk listed sigOk : Bool) : State :=
  let x := s.tport p
  match x.mine, x.theirs with
  | some e, some h =>
    let ok := chainOk && sigOk && (listed || !s.start.peersListed)
    let (tx, rx) := e.linkKeys h
    if x.rekey then
      if ok then
        let (n, s) := s.someFlits
        let s := s.updPort p (fun x => { x with newKey := some tx, oldKey := x.rxKey, rxKey := some rx, mine := none, theirs := none })
        s.txFrame p { typ := 4, text := n }
      else (s.portDown p 14).portSecurity 5 p
    else if ok then
      let s := (s.setF .SEC_LINK p 0 0 2 2).updPort p (fun _ =>
        { rxAt := s.ref, peerLead := x.peerLead, txKey := some tx, rxKey := some rx })
      (s.portUp p).linkUpJoin p
    else (s.portSecurity 5 p).portDown p 4
  | _, _ => s

/-- A rekey of a protected link starts (R337). -/
def State.linkRekey (s : State) (p : Nat) : State :=
  if s.rf .SEC_LINK p 0 0 2 ≠ 2 || s.rb .SEC_LINK p 0 3 then s
  else (s.beginRekey p).sayHello p

/-- The transmit counter has reached 2^47 (R337). -/
def State.counterRekey (s : State) (p : Nat) : State := if 2 ^ 47 ≤ (s.tport p).tx then s.linkRekey p else s

/-- A KEY_SWITCH frame arrives: the old receive key is zeroised, and the new one counts from 0 (R337). -/
def State.keySwitch (s : State) (p : Nat) : State :=
  if (s.tport p).oldKey.isNone then s
  else
    let s := s.updPort p (fun x => { x with rx := 0, rekey := false, oldKey := none, rxAt := s.ref })
    (s.setB .SEC_LINK p 0 3 false).bump .SEC_LINK p 0 32 16 1

/-! ## Frames (R336, R338, R350, R352, R353, R355, R357) -/

/-- Hop credits return to their pools, up to the number agreed (R353). -/
def addCredits (most : Nat) (have0 give : List Nat) : List Nat := have0.zipIdx.map (fun e => min most (e.1 + nth give e.2 0))

/-- The number of frames that a 16-bit acknowledgement covers: the greatest up to those sent. -/
def ackedTo (tx ack : Nat) : Nat := tx - (tx + 65535 - ack % 65536) % 65536

/-- The frames still unacknowledged after an acknowledgement. DESIGN CHOICE (log 178): while frames under the key before are among them, one
that falls into their counters is for them; any other one shows that the peer has taken KEY_SWITCH, and with it all of them. -/
def TPort.acked (x : TPort) (ack : Nat) : List Sent :=
  let olds := x.replay.filter (fun e => e.old)
  let a := ackedTo x.oldTx ack
  if olds.any (fun e => e.frame.ctr ≤ a) then x.replay.filter (fun e => !e.old || a ≤ e.frame.ctr)
  else x.replay.filter (fun e => !e.old && ackedTo x.tx ack ≤ e.frame.ctr)

/-- The key under which a port takes frames: the previous one until KEY_SWITCH (R337); a zeroised one reads as zero. -/
def TPort.inKey (x : TPort) : LinkKey := (x.oldKey.or x.rxKey).getD {}

/-- The tag of a frame that arrives at a port holds (R336, R338). -/
def State.frameTagOk (s : State) (p : Nat) (f : FrameIn) : Bool := (s.tport p).inKey.tag f == f.tag

/-- A frame that came through port `p` goes on through the port of its route, enciphered again under the keys and the counter of that
port (R357), x first or y first as it came (R354). Its buffer is free once it has left (R353); an aborted one has none. -/
def State.forward (s : State) (p : Nat) (f : FrameIn) (typ : Nat) : State :=
  let owe := decide (typ ≠ 3)
  match s.hopOn f.dest (f.vc < 2) with
  | none => s.when owe (fun s => s.oweCredit p f.cls f.vc)
  | some q =>
    let s := s.when (typ = 3) (fun s => s.bump .TML_PORT_CNT q 0 48 16 1)
    s.txFrame q { typ := typ, dest := f.dest, src := f.src, cls := f.cls, vc := s.nextVc f.vc (some p) q,
                  body := .through p f.vc f.ctr owe, text := (s.tport p).inKey.text f, seg := f.seg }

/-- What the flits of a segment that arrives at this node carry for the filters of R401; those of another node's carry nothing. -/
def State.arrivedWho (s : State) (f : FrameIn) : Who3 :=
  match f.seg with
  | none => {}
  | some d =>
    if f.dest ≠ s.posn then {}
    else if f.cls = 3 then
      (((Tab.get? s.tml.xfers d.xfer).bind (fun y => Tab.get? s.tasks y.task)).map Task.who).getD {}
    else { part := (s.tml.inb.find? (fun y => y.src == f.src && y.xfer == d.xfer)).map (·.part) }

/-- A frame arrives on a port that is up. -/
def State.frameIn (s : State) (p : Nat) (f : FrameIn) : State :=
  if s.portState p ≠ 3 then s
  else
    let x := s.tport p
    let tagOk := s.frameTagOk p f
    let through := f.cls ≠ 0 && f.dest ≠ s.posn && 1 ≤ f.cls
    let s := (s.updPort p (fun x => { x with rxAt := s.ref })).count (161 + 2 * p) (64 * f.text.length) (s.arrivedWho f)
    if !tagOk || f.ctr ≠ x.rx then
      let s := s.bump .SEC_LINK p 0 16 16 1
      let l := ((Tab.getD s.sec.tagFails p []) ++ [s.ref]).filter (fun a => s.ref < a + 1000000)
      let s := s.setSec (fun c => { c with tagFails := Tab.set c.tagFails p l })
      let s := s.when (through && !tagOk && f.ctr = x.rx) (fun s => s.forward p f 3)
      if 16 ≤ l.length then
        ((s.setSec (fun c => { c with tagFails := Tab.erase c.tagFails p })).portSecurity 4 p).portDown p 9
      else (s.updPort p (fun x => { x with nakDue := true })).txFrame p { typ := 2 }
    else
      let most := s.rf .TML_PORT p 0 21 7
      let s := s.updPort p (fun x => { x with rx := x.rx + 1, replay := x.acked f.ack,
                                              credits := addCredits most x.credits f.credit })
      let goes := through && f.typ ≠ 3
      let s := ((s.when f.nak (fun s => s.resend p 0)).when (!goes) (fun s => s.oweCredit p f.cls f.vc)).pumpAll p
      if f.typ = 3 then s
      else if through then s.forward p f f.typ
      else if f.cls ≠ 0 && !s.gstopped then s.wake else s

/-- A frame has stayed unacknowledged for 5 µs (R352). -/
def State.replayTimeout (s : State) (p : Nat) : State :=
  match (s.tport p).replay with
  | e :: _ => if s.portState p = 3 && e.at0 + 5000 ≤ s.ref then s.resend p 0 else s
  | [] => s

/-- A link-local frame of a port that is up: idle or time. -/
def State.localFrame (s : State) (p typ : Nat) : State :=
  if s.portState p ≠ 3 then s
  else if typ = 2 then s.txFrame p { typ := typ }
  else
    let (n, s) := s.someFlits
    s.txFrame p { typ := typ, text := n }

/-! ## Segments (R342, R364 to R368) -/

/-- Bytes as qwords. -/
def bytesWords (l : List Nat) : List Word := (cutBy 8 l.length l).map (fun p => BitVec.ofNat 64 (leNat (p.map (BitVec.ofNat 8))))

/-- The payload of a segment, where its tag verifies (R342). -/
def State.segOpen (s : State) (src xfer seg ft ep iv : Nat) (tag : BitVec 128) (text : List Word) : Option (List Word) :=
  match s.ftKey ft ep with
  | none => none
  | some k =>
    let b := byteNats (wordBytes text)
    if gcmTag k (segIv src iv) (segAad xfer seg ft ep b.length) b = tag.toNat then some (bytesWords (gcmText k (segIv src iv) b)) else none

/-- A change of an inbound transfer. -/
def State.updIn (s : State) (src xfer : Nat) (f : InXfer → InXfer) : State :=
  s.setTml (fun m => { m with inb := m.inb.map (fun z => if z.src == src && z.xfer == xfer then f z else z) })

/-- An inbound transfer. -/
def State.inOf (s : State) (src xfer : Nat) : Option InXfer := s.tml.inb.find? (fun y => y.src == src && y.xfer == xfer)

/-- The transfer credits that a source holds change with a segment of its that arrives, or one that this node has done with (R364). -/
def State.granted (s : State) (src : Nat) (back : Bool) : State :=
  let g := s.rf .TML_E2E src 0 8 7
  s.setF .TML_E2E src 0 8 7 (if back then min 64 (g + 1) else g - 1)

/-- The credit of a data request goes back to its source (R364). -/
def State.creditBack (s : State) (src : Nat) : State := (s.granted src true).send src (.credit 1 none)

/-- A SECURITY record of a segment whose tag fails (R325, R342): qword 5 is the slot of the session key, qword 6 the partition. -/
def State.tenantSecurity (s : State) (node part : Nat) : State :=
  s.securityRec 6 (some node) [BitVec.ofNat 64 (8 + part), BitVec.ofNat 64 part, 0]

/-- A segment of an inbound LINK_PUT: written in order, a repeat of one written again (Table 11-6 step 2). `data` is its payload, or
none where its tag fails, which ends the transfer (R342). -/
def State.segIn (s : State) (y : InXfer) (seg : Nat) (data : Option (List Word)) : State :=
  if y.get || y.got < seg then s
  else if y.squashing then (s.granted y.src false).creditBack y.src
  else
    let s := if seg < y.got then s else s.granted y.src false
    match data with
    | none =>
      let s := ((s.tenantSecurity y.src y.part).closeIn y.src y.xfer).send y.src (.refuse 0 6 (BitVec.ofNat 32 y.xfer))
      if seg < y.got then s else s.creditBack y.src
    | some d =>
      let s := s.writeMem { part := some y.part } (y.remote + BitVec.ofNat 64 (4096 * seg)) d
      if seg < y.got then s else s.updIn y.src y.xfer (fun z => { z with got := z.got + 1 })

/-- The write of a segment of an inbound LINK_PUT is acknowledged (R30, R143): its credit returns, and REPORT follows the last (Table
11-6 steps 2 and 4). -/
def State.segInAck (s : State) (src xfer : Nat) : State :=
  match s.inOf src xfer with
  | none => s
  | some y =>
    if y.get || y.squashing || y.got ≤ y.acked then s
    else
      let s := (s.updIn src xfer (fun z => { z with acked := z.acked + 1 })).creditBack src
      if y.segs ≤ y.acked + 1 then (s.closeIn src xfer).send src (.report xfer) else s

/-- The write of a response segment of a LINK_GET of this node is acknowledged (R142, R143): with the last the transfer completes
(Table 11-6 steps 3 and 5). -/
def State.segRespAck (s : State) (x : Nat) : State :=
  match Tab.get? s.tml.xfers x with
  | none => s
  | some y =>
    if !y.get || y.squashing || y.covered ≤ y.acked then s
    else
      let s := s.updXfer x (fun y => { y with acked := y.acked + 1 })
      if y.segs ≤ y.acked + 1 && !y.paused then s.xferComplete x else s

/-- A response segment of a LINK_GET of this node; a write to host memory is acknowledged at once (Table 04-5). -/
def State.segResp (s : State) (x : Nat) (y : Xfer) (seg : Nat) (data : Option (List Word)) : State :=
  if y.squashing || seg ≠ y.covered then s
  else
    match data with
    | none => (s.tenantSecurity y.dest (s.rf .SEC_FT y.ft 0 16 3)).xferSquash x 0xD
    | some data =>
    let (at0, o) : Word × Issuer := match Tab.get? s.tasks y.task with | some t => (t.linkLocal, s.forCtx t.ctx) | none => (0, {})
    let a := at0 + BitVec.ofNat 64 (4096 * seg)
    let s := (s.writeMem o a data).payload y 7 (8 * data.length)
    let s := s.updXfer x (fun y => { y with covered := y.covered + 1, owed := if y.paused then y.owed + 1 else 0 })
    let s := s.when (!y.paused) (fun s => s.send y.dest (.credit 1 (some x)))
    if s.portOf a == .host then s.segRespAck x else s

/-- A segment arrives: of a transfer that another node issued (`resp` false), or in response to this node's LINK_GET. Segments
of a closed transfer are discarded (R368), and the credit of one that came as a data request returns (log 142). -/
def State.segmentIn (s : State) (src xfer : Nat) (resp : Bool) (seg ep iv : Nat) (tag : BitVec 128) (text : List Word) : State :=
  if resp then
    match Tab.get? s.tml.xfers xfer with
    | some y => if y.get && y.dest == src then s.segResp xfer y seg (s.segOpen src xfer seg y.ft ep iv tag text) else s
    | none => s
  else
    match s.inOf src xfer with
    | some y => s.segIn y seg (s.segOpen src xfer seg y.ft ep iv tag text)
    | none => (s.granted src false).creditBack src

/-- A segment that no REPORT has covered for 50 µs is sent again (R367). -/
def State.segResend (s : State) (x seg : Nat) : State :=
  match Tab.get? s.tml.xfers x with
  | none => s
  | some y =>
    if y.get || y.squashing || y.paused || seg < y.covered || y.out ≤ seg || s.ref < nth y.sentAt seg 0 + 50000 then s
    else
      let s := s.updXfer x (fun y => { y with sentAt := modAt y.sentAt seg (fun _ => s.ref) })
      (s.bump .TML_XFER 0 0 32 16 1).putSeg x y seg

/-- The response segments of an inbound LINK_GET that have been read go out in their order, at most `n`; with the last it is closed. -/
def State.flushResp (s : State) (src xfer : Nat) : Nat → State
  | 0 => s
  | n + 1 =>
    match s.inOf src xfer with
    | none => s
    | some y =>
      if !y.get || y.squashing then s
      else if y.segs ≤ y.out then s.closeIn src xfer
      else
        let d := Tab.getD y.data y.out []
        if 8 * d.length < segBytes y.len y.out then s
        else
          let s := s.updIn src xfer (fun z => { z with out := z.out + 1, data := Tab.erase z.data y.out })
          let (iv, s) := s.nextIv y.ft
          (s.sendSeg src 3 { xfer := xfer, seg := y.out, ft := y.ft, ep := y.epoch % 2, iv := iv } d).flushResp src xfer n

/-- Data come for a response segment of an inbound LINK_GET (Table 11-6 step 2). -/
def State.respData (s : State) (src xfer i : Nat) (data : List Word) : State :=
  (s.updIn src xfer (fun z => { z with data := Tab.set z.data i (Tab.getD z.data i [] ++ data) })).flushResp src xfer 65

/-- A read for a response segment fails. DESIGN CHOICE (log 182): it belongs to no context, and the destination squashes the transfer. -/
def State.respFault (s : State) (src xfer : Nat) : State :=
  match s.inOf src xfer with
  | none => s
  | some y => if y.squashing then s else (s.updIn src xfer (fun z => { z with squashing := true })).send src (.squash xfer)

/-- Response segments of an inbound LINK_GET that its credits allow are read and sent (R364), at most `n`. -/
def State.sendResp (s : State) (src xfer : Nat) : Nat → State
  | 0 => s
  | n + 1 =>
    match s.inOf src xfer with
    | none => s
    | some y =>
      if !y.get || y.squashing then s
      else if y.segs ≤ y.got || y.credits = 0 then s
      else
        let s := s.updIn src xfer (fun z => { z with got := z.got + 1, credits := z.credits - 1 })
        (s.readMem (.response src xfer y.got) (y.remote + BitVec.ofNat 64 (4096 * y.got)) (segBytes y.len y.got)).sendResp src xfer n

/-! ## Control messages between two nodes (R134, R135, R137, R364 to R370) -/

/-- The acknowledgement of a message (R369). -/
def State.acks (s : State) (src seq : Nat) : State := s.send src (.ack { seq := seq })

/-- A RECORD reaches this home (R128, R135). -/
def State.msgRecord (s : State) (src seq : Nat) (h : Half) (mode : Nat) (v : Word) (rec : Option (Nat × Nat)) (part : Option Nat) : State :=
  match s.evCheck h part with
  | some r => s.send src (.refuse seq r h)
  | none => (s.recordLocal (evIdx h) mode v rec).acks src seq

/-- A WAIT_REG reaches this home (R134): refused, released at once, or kept as the node's one proxy with its lowest target. -/
def State.msgWaitReg (s : State) (src seq : Nat) (h : Half) (target : Word) (part : Option Nat) : State :=
  match s.evCheck h part with
  | some r => s.send src (.refuse seq r h)
  | none =>
    match Tab.get? s.events (evIdx h) with
    | none => s
    | some e =>
      if target.toNat ≤ e.value.toNat then (s.acks src seq).send src (.release h e.value)
      else if e.abandoned then s.send src (.refuse seq 3 h)
      else if e.proxies.any (fun w => w.1 == src) then
        (s.updEvent (evIdx h) (fun e => { e with proxies := e.proxies.map (fun w =>
          if w.1 == src && target.toNat < w.2.toNat then (w.1, target) else w) })).acks src seq
      else if 16384 ≤ s.proxyUsed then (s.bump .EV_PROXY_FULL 0 0 0 32 1).send src (.refuse seq 2 h)
      else (s.updEvent (evIdx h) (fun e => { e with proxies := e.proxies ++ [(src, target)] })).acks src seq

/-- A submission that still awaits a remote event with the lowest target registers again. -/
def State.reRegister (s : State) (h : Half) : State :=
  match s.lowestRemote h with
  | none => s
  | some m =>
    match s.remoteWaits.find? (fun w => w.handle == h && w.target == m) with
    | some w => s.send (evNode h) (.waitReg h m) (some w.f)
    | none => s

/-- A RELEASE reaches the waiting node (R134): its waiters are tested against the value; those that remain register again. -/
def State.msgRelease (s : State) (src seq : Nat) (h : Half) (v : Word) : State :=
  let met (w : RemoteWait) : Bool := w.handle == h && w.target.toNat ≤ v.toNat
  let go := s.remoteWaits.filter met
  let s := { s with remoteWaits := s.remoteWaits.filter (fun w => !met w) }
  let s := go.foldl (fun s w => s.waitMet w.f (w.target.toNat % 2 ^ 32)) s
  (s.reRegister h).acks src seq

/-- A WAIT_DROP: the node's proxy goes. -/
def State.msgWaitDrop (s : State) (src seq : Nat) (h : Half) : State :=
  (s.updEvent (evIdx h) (fun e => { e with proxies := e.proxies.filter (fun w => w.1 ≠ src) })).acks src seq

/-- A SEM_ACQ reaches this home (R137). -/
def State.msgSemAcq (s : State) (src seq i count ctx : Nat) (part : Option Nat) : State :=
  match s.semCheck i part with
  | some r => s.send src (.refuse seq r (BitVec.ofNat 32 i))
  | none => (s.semAcquire i { node := src, f := 0, ctx := ctx, count := count }).acks src seq

/-- Counts that a context of this node has acquired at a remote home. -/
def State.holdRemote (s : State) (home i c k : Nat) : State :=
  let mine (h : RemoteHold) : Bool := h.home == home && h.index == i && h.ctx == c
  let l := s.remoteHolds.map (fun (h : RemoteHold) => if mine h then { h with count := h.count + k } else h)
  { s with remoteHolds := if s.remoteHolds.any mine then l else l ++ [{ home := home, index := i, ctx := c, count := k }] }

/-- Counts that a context of this node has released at a remote home. -/
def State.unholdRemote (s : State) (home i c k : Nat) : State :=
  { s with remoteHolds := (s.remoteHolds.map (fun (h : RemoteHold) =>
      if h.home == home && h.index == i && h.ctx == c then { h with count := h.count - k } else h)).filter (fun h => h.count ≠ 0) }

/-- A SEM_GRANT reaches the waiting node: it is for the first of its acquirers there with that count, for grants come in arrival order
(R137). What nothing waits for any more goes back by SEM_REL (log entry 125). -/
def State.msgSemGrant (s : State) (src seq i count : Nat) : State :=
  let s := s.acks src seq
  match s.remoteAcqs.find? (fun a => a.home == src && a.index == i && a.count == count) with
  | none => s
  | some a =>
    let s := { s with remoteAcqs := s.remoteAcqs.erase a }
    match a.f with
    | some f => (s.holdRemote src i a.ctx count).waitMet f count
    | none => s.send src (.semRel i count a.ctx) none none none true

/-- A SEM_REL reaches this home. -/
def State.msgSemRel (s : State) (src seq i count ctx : Nat) (part : Option Nat) : State :=
  match s.semCheck i part with
  | some r => s.send src (.refuse seq r (BitVec.ofNat 32 i))
  | none => (s.semRelease i ctx src count).acks src seq

/-- A submission of this node whose remote operation was refused as unbound or another tenant's (R135): a guilty fault with
MALFORMED_COMMAND; a host record sets EV_FN_CTL.ERR (R136). -/
def State.refusedOp (s : State) (o : RemoteOp) : State :=
  let s := match o.host with | some n => s.setB .EV_FN_CTL n 0 3 true | none => s
  match o.cmd, o.f with
  | some c, f => s.startAutotomy { ctx := c.ctx, f := f, status := 0xB, off := c.off, layer := c.layer, op := c.op }
  | none, some f =>
    let s := { s with remoteWaits := s.remoteWaits.filter (fun w => w.f ≠ f),
                      remoteAcqs := s.remoteAcqs.filter (fun a => a.f ≠ some f) }
    (match o.msg with | .waitReg h _ => s.reRegister h | _ => s).guilty f 0xB none 0
  | none, none => s

/-- This node's acquirers of semaphore `i` of a node fail: its home has given it up. -/
def State.failSem (s : State) (n i : Nat) : State :=
  let l := s.remoteAcqs.filter (fun a => a.home == n && a.index == i)
  let s := { s with remoteAcqs := s.remoteAcqs.filter (fun a => !(a.home == n && a.index == i)) }
  (l.filterMap (·.f)).foldl (fun s f => s.endEarly f 2) s

/-- A REFUSE arrives (R135, R342, R366): `m` has its own number and that of the refused message. Reasons 0 to 3 are those of Table
11-7, 4 and 5 the refusals of OPEN, 6 a segment whose tag failed (log entry 49); with reason 3 a handle with bit 16 set names a
semaphore. -/
def State.msgRefuse (s : State) (src : Nat) (m : MsgRef) (reason : Nat) (h : Half) : State :=
  let s := s.acks src m.seq
  let ref := m.ref
  let op := s.remoteOps.find? (fun o => o.dest == src && o.seq == ref && reason ≠ 6 && (reason ≠ 3 || o.asks h))
  let s := match op with | some _ => { s with remoteOps := s.remoteOps.filter (fun o => !(o.dest == src && o.seq == ref)) } | none => s
  match reason with
  | 2 => { s with remoteWaits := s.remoteWaits.map (fun (w : RemoteWait) =>
      if w.handle == h then { w with retryAt := some (s.ref + 1000) } else w) }
  | 3 => if h.getLsbD 16 then s.failSem src (evIdx h) else s.failWaits h
  | 4 => s.xferEnd h.toNat 0xE
  | 5 =>
    match Tab.get? s.tml.xfers h.toNat with
    | some y =>
      let k := y.task
      (s.guiltyTask k 8 0).xferDone h.toNat 3
    | none => s
  | 6 => s.xferEnd h.toNat 0xD
  | _ =>
    match op with
    | some o => (match o.msg with
      | .joinReq _ _ => (List.range 4).foldl (fun s p => if s.portState p = 3 then s.portDown p 7 else s) s
      | _ => s.refusedOp o)
    | none => s

/-- Every 1 µs a refused registration is repeated (R134). -/
def State.proxyRetry (s : State) (h : Half) : State :=
  let due (w : RemoteWait) : Bool := w.handle == h && w.retryAt.any (fun u => u ≤ s.ref)
  if s.remoteWaits.any due then
    ({ s with remoteWaits := s.remoteWaits.map (fun (w : RemoteWait) =>
      if w.handle == h then { w with retryAt := none } else w) }).reRegister h
  else s

/-- The RECORD or SEM_RELEASE for which a submission is parked has taken effect at its remote home: its SYNC record, and it goes on. -/
def State.remoteDone (s : State) (f v : Nat) : State :=
  match Tab.get? s.flights f with
  | none => s
  | some x =>
    ((s.traceSync x x.curHdr v).updFlight f (fun x => if x.ending.isSome || x.inTeardown then x else x.advance)).unpark f

/-- An ACK arrives (R369): a submission parked on its RECORD or SEM_RELEASE goes on. Nothing awaits those of a broadcast. -/
def State.msgAck (s : State) (src : Nat) (r : AckRef) : State :=
  match s.remoteOps.find? (fun o => !r.flood && o.dest == src && o.seq == r.seq) with
  | none => s
  | some o =>
    let s := { s with remoteOps := s.remoteOps.filter (fun x => !(x.dest == src && x.seq == r.seq)) }
    let go (s : State) (v : Nat) : State := match (if o.cmd.isSome then none else o.f) with
      | some f => s.remoteDone f v
      | none => s
    match o.msg with
    | .record _ _ v _ => go s (v.toNat % 2 ^ 32)
    | .semRel i n c =>
      if o.back then s
      else go ((s.unholdRemote o.dest i c n).dropEdges (fun e => e.holder == c && e.home == o.dest && e.index == i)) n
    | _ => s

/-- The refusal of an OPEN (R366): 4 without a tenant, a key or a live partition, 5 for a range out of bounds or sealed. -/
def State.openFault (s : State) (ft : Nat) (remote : Word) (len : Nat) : Option Nat :=
  let p := s.rf .SEC_FT ft 0 16 3
  if !s.rb .SEC_FT ft 0 19 || !s.rb .SEC_FT ft 0 20 || !s.live p || s.removing p || s.tml.leaveAt.isSome then some 4
  else if (s.partOffset remote).isNone || s.placeRefused p remote len then some 5
  else none

/-- An OPEN reaches the destination (Table 11-6 step 2). -/
def State.msgOpen (s : State) (src seq xfer : Nat) (get : Bool) (ft : Nat) (remote : Word) (len : Nat) : State :=
  if s.tml.inb.any (fun y => y.src == src && y.xfer == xfer) then s.acks src seq
  else
    match s.openFault ft remote len with
    | some r => s.send src (.refuse seq r (BitVec.ofNat 32 xfer))
    | none =>
      let y : InXfer := { src := src, xfer := xfer, get := get, part := s.rf .SEC_FT ft 0 16 3, ft := ft,
                          epoch := s.rf .SEC_FT ft 0 32 16, segs := (len + 4095) / 4096, remote := remote, len := len }
      ((s.setTml (fun m => { m with inb := m.inb ++ [y] })).acks src seq).sendResp src xfer 65

/-- A REPORT reaches the issuer: every segment is written, and the transfer completes (R365). -/
def State.msgReport (s : State) (src seq xfer : Nat) : State :=
  let s := s.acks src seq
  match Tab.get? s.tml.xfers xfer with
  | some y => if y.dest == src && !y.get then s.xferComplete xfer else s
  | none => s

/-- A SQUASH: from the issuer, which closes the transfer here, or from the destination, whose issuer this node is (R368). -/
def State.msgSquash (s : State) (src seq xfer : Nat) (issuer : Bool) : State :=
  let s := s.acks src seq
  if issuer then (s.closeIn src xfer).send src (.squashAck xfer)
  else
    match Tab.get? s.tml.xfers xfer with
    | some y => if y.dest == src then (s.send src (.squashAck xfer)).xferEnd xfer 0xE else s
    | none => s.send src (.squashAck xfer)

/-- A SQUASH_ACK: the issuer's port acknowledges the link squash; at a destination that squashed, the transfer is closed. -/
def State.msgSquashAck (s : State) (src : Nat) (m : MsgRef) : State :=
  let s := s.acks src m.seq
  let xfer := m.ref
  match Tab.get? s.tml.xfers xfer with
  | some y => if y.squashing && y.dest == src then s.xferDone xfer 3 else s
  | none =>
    if s.tml.inb.any (fun y => y.src == src && y.xfer == xfer && y.squashing) then s.closeIn src xfer else s

/-- A CREDIT (R364): for segments sent as data requests, or, with the transfer, for response segments of a LINK_GET. -/
def State.msgCredit (s : State) (src seq count : Nat) (resp : Option Nat) : State :=
  let s := s.acks src seq
  match resp with
  | some x =>
    (s.setTml (fun m => { m with inb := m.inb.map (fun z =>
      if z.src == src && z.xfer == x then { z with credits := min 64 (z.credits + count) } else z) })).sendResp src x 65
  | none =>
    let s := s.setF .TML_E2E src 0 0 7 (min 64 (s.heldCr src + count))
    ((s.tml.xfers.filter (fun e => e.2.dest == src)).map (·.1)).foldl (fun s x => s.sendSegs x 64) s

/-- A KEY (R341): the member installs the key that its node key unwraps, with the tenant's members (R339; log 177), and acknowledges. -/
def State.msgKey (s : State) (src seq ft : Nat) (k : KeyMsg) : State :=
  match (Tab.get? s.tml.nodeKeys src).bind (fun n => Config.keyUnwrap n k.wrapped) with
  | some key => ((s.setF .SEC_FT ft 0 0 16 k.members.toNat).installFt ft k.epoch key).acks src seq
  | none => s

/-- The lead takes a node in once it holds a node key with it (Table 11-9 step 5). -/
def State.admitNode (s : State) (n : Nat) : State :=
  let s := s.setTml (fun m => { m with joining := m.joining.filter (fun x => x ≠ n) })
  let s := (s.setB .TML_STAT 0 0 (16 + n) true).grantCredits n
  (s.mapSettle.sendLead).rekeyFor n

/-- A node key is there (R340): a lead takes in the node that joins with it, or gives the tenants of a member that had none a key. -/
def State.nodeKeyed (s : State) (n : Nat) : State :=
  if !s.isLead then s else if s.tml.joining.contains n then s.admitNode n else s.rekeyFor n

/-- NODE_KEX (R340, R378): a HELLO, or a PROOF with the outcome of its check. -/
def State.msgNodeKex (s : State) (src seq : Nat) (m : KexMsg) (ok : Bool) : State :=
  let s := s.acks src seq
  match m with
  | .hello r k _ => (s.setTml (fun m => { m with kexTheirs := Tab.set m.kexTheirs src { rand := r, pub := k } })).nodeHello src
  | .proof _ =>
    match Tab.get? s.tml.kexMine src, Tab.get? s.tml.kexTheirs src with
    | some e, some h =>
      let s := s.setTml (fun m => { m with kexMine := Tab.erase m.kexMine src, kexTheirs := Tab.erase m.kexTheirs src })
      if !ok then s.securityRec 5 (some src) [BitVec.ofNat 64 (((s.hopTo src).map (·.1)).getD 0), 0, 0]
      else (s.setTml (fun m => { m with nodeKeys := Tab.set m.nodeKeys src (e.nodeKey h) })).nodeKeyed src
    | _, _ => s

/-! ## The lead, losses, joining and leaving (R348, R376 to R382) -/

/-- HEARTBEAT (R377): the lead's own moves the moment from which its loss counts. -/
def State.msgHeartbeat (s : State) (src seq lead digest : Nat) : State :=
  let r := s.flooded src seq (.heartbeat lead digest)
  if r.1 && r.2.member && lead == r.2.leadNode then r.2.setTml (fun m => { m with hbAt := r.2.ref }) else r.2

/-- A node leaves the live map with all its links (R379, R382). -/
def State.dropNode (s : State) (n : Nat) : State :=
  let s := (List.range 4).foldl (fun s p => s.linkDown n p) s
  let was := s.nodeUp n
  let s := (s.setB .TML_STAT 0 0 (16 + n) false).mapSettle
  if was then (s.nodeLost n).reRouteXfers else s

/-- A loss is noted: a link or a node (R379). -/
def State.noteLoss (s : State) (n : Nat) (port : Option Nat) : State :=
  if !s.member || n = s.node && port.isNone then s
  else
    let s := match port with
      | some p => (s.linkDown n p).mapSettle
      | none => s.dropNode n
    let s := s.openSettle
    (if port.isNone && n = s.leadNode && !s.isLead then s.leadLost else s.leadCheck).treeUpdate

/-- LOST arrives: of a node or one of its ports, or, with a context, the end of a context of that node (log entry 124). -/
def State.msgLost (s : State) (src seq n : Nat) (port ctx : Option Nat) : State :=
  let r := s.flooded src seq (.lost n port ctx)
  match r.1, ctx with
  | false, _ => r.2
  | true, some c => if n = s.node then r.2 else r.2.homeCtxGone c n
  | true, none => r.2.noteLoss n port

/-- LEAVE arrives: a loss without detection (R381); one that names this node tells that its island dissolves (R380; log 180). -/
def State.msgLeave (s : State) (src seq n : Nat) : State :=
  let r := s.flooded src seq (.leave n)
  if !r.1 then r.2
  else if n = r.2.node && src ≠ n && r.2.member then r.2.dissolveHere
  else r.2.noteLoss n none

/-- LEAD arrives (R356, R377, Table 11-8 step 4): the map is adopted, the node is a member of it; a new lead is a takeover. -/
def State.msgLead (s : State) (src seq : Nat) (live : BitVec 16) (up : Word) (deputy : Option Nat) : State :=
  let r := s.flooded src seq (.lead live up deputy)
  let s := r.2
  if !r.1 || src = s.posn || !live.getLsbD s.posn || !(s.member || s.tml.granted) then s
  else
    let was := s.member
    let old := s.leadNode
    let s := s.setNode s.posn
    let gone := (List.range 16).filter (fun n => s.nodeUp n && !live.getLsbD n)
    let new := (List.range 16).filter (fun n => (!was || !s.nodeUp n) && live.getLsbD n && n ≠ s.node)
    let dep := if s.rb .TML_STAT 0 0 14 then some (s.rf .TML_STAT 0 0 10 4) else none
    let s := (s.setF .TML_STAT 0 0 16 16 live.toNat).setReg .TML_LINKMAP 0 0 up
    let s := ((s.setB .TML_STAT 0 0 4 true).setB .TML_STAT 0 0 5 false).setF .TML_STAT 0 0 6 4 src
    let s := (s.setF .TML_STAT 0 0 10 4 (deputy.getD 0)).setB .TML_STAT 0 0 14 deputy.isSome
    let s := s.setTml (fun m => { m with hbAt := s.ref, settle := none, oldLead := none })
    let s := new.foldl State.grantCredits s.mapSettle
    let s := (gone.foldl State.nodeLost s).reRouteXfers.treeUpdate
    let s := s.when (was && old ≠ src) (fun s => (s.bump .TML_STAT 0 0 32 16 1).leadRec 1 src)
    match deputy with
    | some d => if d ≠ s.node && dep ≠ some d then s.startKex d else s
    | none => s

/-- JOIN_REQ reaches the lead (R348, R380, Table 11-9 step 2): the position's ID is granted, or refused where it is live. -/
def State.msgJoinReq (s : State) (src seq : Nat) (fid : Half) (pos : Nat) : State :=
  if !s.isLead || 16 ≤ pos || fid.toNat ≠ s.rf .TML_CFG 0 0 32 32 then s
  else if s.nodeUp pos then (s.send src (.refuse seq 7 0)).leadRec 4 pos
  else
    let s := s.acks src seq
    (s.setTml (fun m => { m with joining := m.joining ++ [pos] })).send pos (.joinGrant fid pos)

/-- JOIN_GRANT reaches the joining node. -/
def State.msgJoinGrant (s : State) (src seq : Nat) (fid : Half) (n : Nat) : State :=
  if s.member || s.tml.granted || fid.toNat ≠ s.rf .TML_CFG 0 0 32 32 then s
  else
    let s := s.setF .TML_STAT 0 0 6 4 src
    (s.setTml (fun m => { m with pos := n, granted := true, stepped := false, goodEx := 0 })).acks src seq

/-- The epoch that the announced time names starts here, once (R375). -/
def State.epochStart (s : State) : State :=
  let n := (s.reg .TML_EPOCH).toNat
  if s.reg .TML_EPOCH = BitVec.allOnes 64 || s.now < n || s.tml.epochDone == some n then s
  else (s.setTml (fun m => { m with epochDone := some n })).epochEdge n

/-- EPOCH arrives from the lead; it may announce a tenant's new key (R341; log 177). -/
def State.msgEpoch (s : State) (src seq start : Nat) (e : EpochMsg) : State :=
  let r := s.flooded src seq (.epoch start e)
  if r.1 && r.2.member && src == r.2.leadNode then
    let s := (r.2.epochStart.setReg .TML_EPOCH 0 0 (BitVec.ofNat 64 start)).setTml (fun m => { m with epochPeriod := e.period })
    match e.key with
    | some k => s.announced k.1 k.2
    | none => s
  else r.2

/-- Epochs are sequenced: enabled, with a period in range. -/
def State.epochsOn (s : State) : Bool :=
  let p := s.rf .TML_EPOCH_CFG 0 0 0 40
  s.rb .TML_EPOCH_CFG 0 0 41 && 100000 ≤ p && p ≤ 1000000000

/-- No epoch start has been announced. -/
def State.noEpoch (s : State) : Bool := s.reg .TML_EPOCH == BitVec.allOnes 64

/-- The lead announces the next epoch start. -/
def State.announceEpoch (s : State) (next : Nat) : State :=
  let p := s.rf .TML_EPOCH_CFG 0 0 0 40
  let s := (s.setReg .TML_EPOCH 0 0 (BitVec.ofNat 64 next)).setTml (fun m => { m with epochPeriod := p })
  s.broadcast (.epoch next { period := p })

/-- The start that follows one at `n`, as far as the lead knows it (R375): a period later, or with SRC_VSYNC a period after the last accepted
edge, once an edge has come from which it follows. -/
def State.epochNext (s : State) (n : Nat) : Option Nat :=
  let p := s.rf .TML_EPOCH_CFG 0 0 0 40
  if s.rb .TML_EPOCH_CFG 0 0 40 then (s.tml.vsyncAt.map (· + p)).filter (fun v => s.noEpoch || n < v) else some (n + p)

/-- An epoch starts at the lead (R375), and the next start is announced, where it is known. -/
def State.epochTick (s : State) : State :=
  let n := (s.reg .TML_EPOCH).toNat
  if !s.isLead || !s.epochsOn || (!s.noEpoch && s.now < n) || (s.noEpoch && s.rb .TML_EPOCH_CFG 0 0 40) then s
  else
    let s := if s.noEpoch then s.setReg .TML_EPOCH 0 0 (BitVec.ofNat 64 s.now) else s
    let s := s.epochStart
    match s.epochNext (s.reg .TML_EPOCH).toNat with
    | some v => s.announceEpoch v
    | none => s

/-- A vsync edge is accepted (R375): with SRC_VSYNC it gives the lead the next start. DEDUCED (log 181): where the epoch announced last has
started without it, or none has been announced, it is announced now. -/
def State.epochEdge0 (s : State) : State :=
  let s := s.setTml (fun m => { m with vsyncAt := some s.now })
  let n := (s.reg .TML_EPOCH).toNat
  if !s.isLead || !s.epochsOn || !s.rb .TML_EPOCH_CFG 0 0 40 || !(s.noEpoch || s.tml.epochDone == some n) then s
  else
    match s.epochNext n with
    | some v => s.announceEpoch v
    | none => s

/-- An announced start passes without an announcement: the node extrapolates by the last period. -/
def State.epochGuess (s : State) : State :=
  let n := (s.reg .TML_EPOCH).toNat
  if !s.member || s.isLead || s.reg .TML_EPOCH = BitVec.allOnes 64 || s.now < n || s.tml.epochPeriod = 0 then s
  else s.epochStart.setReg .TML_EPOCH 0 0 (BitVec.ofNat 64 (n + s.tml.epochPeriod))

/-- AT arrives (R374, R405): time zero acts at once, a time that has passed at once and late, a later one is armed. -/
def State.msgAt (s : State) (src seq time action : Nat) : State :=
  let r := s.flooded src seq (.atMsg time action)
  let s := r.2
  if !r.1 || action = 0 || 4 < action then s
  else if time = 0 then s.atAct action
  else if time ≤ s.now then (s.bump .TML_TIME_STAT 0 0 40 16 1).atAct action
  else s.setTml (fun m => { m with atActs := m.atActs ++ [(time, action)] })

/-- The counter reaches an agreed time. -/
def State.atReached (s : State) : State :=
  match s.tml.atActs.find? (fun a => a.1 ≤ s.now) with
  | some a => (s.setTml (fun m => { m with atActs := m.atActs.erase a })).atAct a.2
  | none => s

/-- The lead's heartbeat, every 5 µs (R377); the digest of the live map is a free value. -/
def State.heartbeat (s : State) : State :=
  if !s.isLead || s.ref < s.tml.hbAt + 5000 then s
  else
    let (d, s) := s.draw
    (s.setTml (fun m => { m with hbAt := s.ref })).broadcast (.heartbeat s.node d)

/-- 20 µs have passed without a heartbeat (R379): the lead is lost, and LOST goes out. -/
def State.leadTimeout (s : State) : State :=
  if !s.member || s.isLead || s.tml.oldLead.isSome || s.ref < s.tml.hbAt + 20000 then s
  else
    let l := s.leadNode
    (s.leadLost.broadcast (.lost l none none)).dropNode l

/-- The settle window closes (R379, R380, Table 11-8 steps 3 and 5): nodes of other islands are lost; a lost lead has a
successor by R376, which broadcasts LEAD, or the lead confirms its map. -/
def State.settleEnd (s : State) : State :=
  match s.tml.settle with
  | none => s
  | some u =>
    if s.ref < u || !s.member then s
    else
      let old := s.tml.oldLead
      let s := s.setTml (fun m => { m with settle := none, oldLead := none })
      let s := match old with | some l => if s.nodeUp l then s.dropNode l else s | none => s
      let far := (List.range 16).filter (fun n => s.nodeUp n && !s.reachable n)
      let s := far.foldl State.dropNode s
      let newLead := (s.chooseLead none).getD s.node
      let s := s.when (!far.isEmpty) (fun s => s.leadRec 2 (if old.isSome then newLead else s.leadNode))
      match old with
      | some l =>
        if newLead ≠ s.node then s
        else
          let s := (s.setF .TML_STAT 0 0 6 4 s.node).setB .TML_STAT 0 0 5 true
          let s := (s.bump .TML_STAT 0 0 32 16 1).leadRec 1 s.node
          let s := (s.setTml (fun m => { m with hbAt := s.ref })).treeUpdate.sendLead
          let s := if s.rb .TML_STAT 0 0 14 then s.startKex (s.rf .TML_STAT 0 0 10 4) else s
          let bare := (List.range 16).filter (fun n => n ≠ s.node && s.nodeUp n && !s.hasNodeKey n && (Tab.get? s.tml.kexMine n).isNone)
          (bare.foldl State.startKex s).rekeyFor l
      | none => if s.isLead then s.treeUpdate.sendLead else s.treeUpdate

/-- TML_CTL.LEAVE (R381): waiting transfers end with LINK_LOST, those in flight have 1 ms. -/
def State.plannedLeave (s : State) : State :=
  if !s.member || s.tml.leaveAt.isSome then s
  else
    let s := s.setTml (fun m => { m with leaveAt := some (s.ref + 1000000) })
    let ks := (s.tasks.filter (fun e => e.2.cls == .link && e.2.phase == .ready)).map (·.1)
    ks.foldl (fun s k => (s.dropDue (fun d => d.task == k)).endUnlaunched k 0xD) s

/-- The 1 ms of a planned leave are over: what is still in flight is squashed, and the node leaves. -/
def State.leaveLimit (s : State) : State :=
  match s.tml.leaveAt with
  | none => s
  | some u =>
    if s.ref < u then s
    else
      let s := s.tml.inb.foldl (fun s y => s.send y.src (.squash y.xfer)) s
      let s := s.setTml (fun m => { m with inb := [] })
      let s := s.tml.xfers.foldl (fun s e => s.xferSquash e.1 0xD) s
      s.finishLeave

/-- TML_CTL.REJOIN: every port not held down trains. -/
def State.rejoin (s : State) : State := (List.range 4).foldl State.trainPort s

/-! ## Fabric time (R371, R373) -/

/-- The counter of a joining node steps to its parent's time (R371). DESIGN CHOICE (log 136): a cyclic table that runs is carried with
it, so that its periods and instances keep their distances from the present. -/
def State.stepTime (s : State) (off : Int) : State :=
  let mv (t : Nat) : Nat := ((t : Int) + off).toNat
  let s := s.setCyc (fun c => { c with
    insts := Tab.mapV c.insts (fun x => { x with start := mv x.start }),
    deferredActs := c.deferredActs.map (fun a => (mv a.1, a.2)),
    pendAt := if c.pending.any (fun p => p.startAt = 0) then c.pendAt.map mv else c.pendAt })
  let s := s.when (s.cyc.periods ≠ 0) (fun s => s.setReg .CYC_PERIOD_START 0 0 (BitVec.ofNat 64 (mv s.cycP0)))
  { s with now := mv s.now }

/-- A TIME exchange with the parent ends (R371): `t1` to `t4` as TMp_TSTAMP gives them, in ns. A joining node steps its counter
once, a member slews its own; the lock of R373 follows the offsets. -/
def State.timeFrame (s : State) (p : Nat) (t1 t2 t3 t4 : Int) : State :=
  let lead : Bool := s.member && s.isLead
  if s.portState p ≠ 3 || lead || !(s.member || s.tml.granted) || (s.member && s.rf .TML_TIME_STAT 0 0 2 2 ≠ p) then s
  else
    let asym : Int := (BitVec.ofNat 8 (s.rf .TML_TIME_CAL 0 0 (8 * p) 8)).toInt
    let n : Int := 16 * ((t2 - t1) - (t4 - t3)) - 2 * asym
    let off := Config.offsetRound n
    let sat : Int := if off < -32768 then -32768 else if 32767 < off then 32767 else off
    let s := s.setF .TML_TIME_STAT 0 0 8 16 (to16 sat)
    if !s.member && !s.tml.stepped then
      (s.setTml (fun m => { m with stepped := true, goodEx := 0 })).stepTime off
    else
      let s := s.when s.member (fun s => s.setTml (fun m => { m with slew := off }))
      let good := if n.natAbs ≤ 64 then s.tml.goodEx + 1 else 0
      let bad := if 512 < n.natAbs then s.tml.badEx + 1 else 0
      let s := s.setTml (fun m => { m with goodEx := good, badEx := bad })
      let locked := s.rb .TML_TIME_STAT 0 0 0
      if !locked && 16 ≤ good then
        let s := s.setB .TML_TIME_STAT 0 0 0 true
        if s.member then s else s.startKex s.leadNode
      else if locked && s.member && 4 ≤ bad then
        ((s.setB .TML_TIME_STAT 0 0 0 false).bump .TML_TIME_STAT 0 0 24 16 1).leadRec 5 s.node
      else s

end Sys2Proof.Machine
end

