-- ==== Sys2Proof/Machine/Irq.lean ====
section
/-! DEFINITION. The interrupt controller's register commands (chapter 12): claim, EOI, the line mask, the map, unquench, the storm
window and the masks of MSI-X. The raises themselves stand in Ops. -/

namespace Sys2Proof.Machine

/-- The lowest of some source numbers. -/
def lowestOf : List Nat → Option Nat
  | [] => none
  | a :: r => some (r.foldl min a)

/-- A view pending bit is cleared. -/
def State.clearPend (s : State) (src : Nat) : State :=
  { s with irq := { s.irq with viewPend := s.irq.viewPend &&& ~~~(1#512 <<< src) } }

/-- A function's claims find nothing while it is being reset (R391). -/
def State.claimNow (s : State) (n : Nat) : Option Nat :=
  if s.resetting n then none else lowestOf (s.claimables n)

/-- The value a read of IRQ_CLAIM returns: the source, or 0xFFFF (R389). -/
def State.claimVal (s : State) (n : Nat) : Word := match s.claimNow n with | some i => BitVec.ofNat 64 i | none => 0xFFFF

/-- A read of IRQ_CLAIM (R389): the lowest claimable source is taken, and ACTIVE is set. -/
def State.claim (s : State) (n : Nat) : State :=
  match s.claimNow n with
  | some i => ((s.clearPend i).setB .IRQ_STAT n 0 1 true).updLine n
  | none => s

/-- A write of 1 to IRQ_EOI (R390). -/
def State.eoi (s : State) (n : Nat) : State :=
  if s.rb .IRQ_STAT n 0 1 then (s.setB .IRQ_STAT n 0 1 false).updLine n else s

/-- A write of IRQ_LINE_MASK. -/
def State.writeLineMask (s : State) (n : Nat) (m : Bool) : State := (s.setB .IRQ_LINE_MASK n 0 0 m).updLine n

/-- A write of IRQ_EN. -/
def State.writeIrqEn (s : State) (n : Nat) (v : Word) : State := (s.setReg .IRQ_EN n 0 v).updLine n

/-- IRQ_PEND: the view pending bits of the sources that the entries map. -/
def State.irqPend (s : State) (n : Nat) : Word :=
  mkWord ((List.range 64).map (fun v => (v, 1, b2n ((s.mapped n v).any (fun i => s.irq.viewPend.getLsbD i)))))

/-- A W1C write of IRQ_PEND: the bit of a source raised in the same arbitration stays set (R391). -/
def State.writeIrqPend (s : State) (n : Nat) (v : Word) : State :=
  let s := (List.range 64).foldl (fun s k =>
    if bitOf v k then (match s.mapped n k with | some i => if s.justRaised i then s else s.clearPend i | none => s) else s) s
  s.updLine n

/-- Every view that shows QUENCHED does so because a source it maps is quenched. -/
def State.updQuenched (s : State) (n : Nat) : State :=
  s.setB .IRQ_STAT n 0 2 ((List.range 64).any (fun v => (s.mapped n v).any s.quenched))

/-- A write of IRQ_MAP entry `v` of function `n` (R386): refused for a device source outside F0, a function event source, or a
message source that another valid entry maps; else the source mapped before loses its pending bit. -/
def State.writeMap (s : State) (n v : Nat) (w : Word) : State :=
  let src := fld w 0 9
  let valid := bitOf w 9
  let other : Bool := match s.viewOf src with | some (f, u) => !(f == n && u == v) | none => false
  if valid && ((src < 64 && n ≠ 0) || (64 ≤ src && src < 128) || (128 ≤ src && other)) then s.setB .IRQ_GSTAT 0 0 0 true
  else
    let new := mkWord [(0, 9, src), (9, 1, b2n valid)]
    let s := if s.reg .IRQ_MAP n v = new then s else
      let s := { s with irq := { s.irq with mapAt := s.ref, mapWas := s.mapJust ++ [(n, v, s.reg .IRQ_MAP n v)] } }
      match s.mapped n v with
      | some old => s.clearPend old
      | none => s
    ((s.setReg .IRQ_MAP n v new).updQuenched n).updLine n

/-- A source is unquenched (R396): at once, its count starting again; a raise of the same arbitration takes effect (R391). -/
def State.unquench (s : State) (src : Nat) : State :=
  if !s.quenched src then s
  else
    let s := s.setArrBit .IRQ_QUENCH src false
    let s := { s with irq := { s.irq with storm := Tab.erase s.irq.storm src } }
    let s := match s.viewOf src with
      | some (f, _) => (s.updQuenched f).updLine f
      | none => s
    s.when (s.justRaised src) (fun s => s.raise src)

/-- A W1C write of IRQ_QUENCH word `k`. -/
def State.writeQuench (s : State) (k : Nat) (v : Word) : State :=
  (List.range 64).foldl (fun s b => if bitOf v b then s.unquench (64 * k + b) else s) s

/-- A window of 100 µs ends (R396). -/
def State.stormWindow (s : State) : State := { s with irq := { s.irq with storm := [] } }

/-- A mask of MSI-X of a function, the function mask or its vector's, set or cleared. -/
def State.setMsixMask (s : State) (n : Nat) (m : MsixMask) : State :=
  let bit := 1#64 <<< n
  let put (x : BitVec 64) : BitVec 64 := if m.masked then x ||| bit else x &&& ~~~bit
  if m.fnMask then { s with irq := { s.irq with msixFnMask := put s.irq.msixFnMask } }
  else { s with irq := { s.irq with msixMask := put s.irq.msixMask } }

/-- The host writes a mask of MSI-X of a function (R390): a message held back leaves as the last mask clears. -/
def State.writeMsix (s : State) (n : Nat) (m : MsixMask) : State :=
  let s := s.setMsixMask n m
  if s.irq.msixPend.getLsbD n && !s.msixMasked n then (s.setMsixPend n false).when (s.mayMessage n) (fun s => s.emit (.irq n))
  else s

/-- A W1C write of IRQ_MG_PEND word `k`; where no enabled bit is left, the next to set asks for an in-band interrupt again (R394). -/
def State.writeMgPend (s : State) (k : Nat) (v : Word) : State :=
  let s := s.setReg .IRQ_MG_PEND k 0 (s.reg .IRQ_MG_PEND k &&& ~~~v)
  s.when (!s.mgAny) (fun s => { s with irq := { s.irq with ibiClear := true } })

/-- A write of IRQ_MG_EN word `k`; it may be the first moment of R394. -/
def State.writeMgEn (s : State) (k : Nat) (v : Word) : State := (s.setReg .IRQ_MG_EN k 0 v).ibiAfter false

end Sys2Proof.Machine
end

