-- ==== Sys2Proof/Machine/Bound.lean ====
section
/-! DEFINITION. The boundary (chapter 01): clocks, the host link, the management port's I3C side, the debug port and the discrete
inputs. -/

namespace Sys2Proof.Machine

/-- A happening that does not wait for start-up or a stop: time moves to the moment and the effect happens. -/
def actAny (s : State) (t : Nat) (f : State → State) : Host.Outcome State Fault Refusal :=
  fin (f (s.at t))

/-! ## Clocks (R21) -/

/-- The form of the host ports: the Stasel integration port. -/
def State.soc (s : State) : Bool := s.rb .VXB_HOST_LINK 0 0 9

/-- The host link is down (VXB_HOST_LINK). -/
def State.hostDown (s : State) : State :=
  let s := s.setB .VXB_HOST_LINK 0 0 8 false
  s.when (!s.soc) (fun s => s.setF .VXB_HOST_LINK 0 0 0 8 0)

/-- The engine domains of Table 00-4, whose clocks Voxbin itself stops. -/
def engineDomain (d : Nat) : Bool := 10 ≤ d && d ≤ 16

/-- Voxbin itself has stopped the clock of a domain: at LL2 and deeper, in a global stop and at the double-fault halt. -/
def State.clockStopped (s : State) (d : Nat) : Bool :=
  engineDomain d && (2 ≤ s.gov.rung || s.gov.entering.any (fun k => 2 ≤ k) || s.gstopped || s.haltedAll)

/-- The host is lost (R27): the link shows it at once, and the sequence of Table 01-4 starts, or waits for READY where start-up is
still running (log 161). After the double-fault halt nothing is left to tear down. -/
def State.hostGone (s : State) (cause : Nat) : State :=
  let s := s.hostDown.setB .VXB_RESET_CAUSE 0 0 4 true
  if s.ready && !s.haltedAll then s.startHostLoss cause
  else
    let s := (s.setB .VXB_HOST_LINK 0 0 10 true).setB .VXB_HOST_LINK 0 0 11 true
    { s with start := { s.start with lossDue := s.start.lossDue.orElse (fun _ => some cause) } }

/-- No clock edge has come for 1 µs on a domain. DESIGN CHOICE (log 33): the loss of a host domain shows the host as down
(VXB_HOST_LINK.UP), as HOST_LOSS does. -/
def State.clockLost (s : State) (d : Nat) : State :=
  if d = 0 || 18 < d || s.clockStopped d || !s.rb .VXB_DOMAIN_STAT 0 0 (d - 1) then s
  else
    let s := (s.setB .VXB_DOMAIN_STAT 0 0 (d - 1) false).setB .VXB_DOMAIN_STAT 0 0 (31 + d) true
    let s := s.when (d = 17) (fun s => { s with start := { s.start with refLost := true } })
    if d ≤ 2 then s.hostGone 3
    else if !s.ready then s
    else if 4 ≤ d && d ≤ 7 then s.portDown (d - 4) 11
    else if d = 17 then
      let s := s.when (s.rb .TML_TIME_STAT 0 0 0) (fun s => s.bump .TML_TIME_STAT 0 0 24 16 1)
      s.setB .TML_TIME_STAT 0 0 0 false
    else s

/-- The domains whose clocks run after reset: every domain whose partner is present (R21). -/
def fuseDomains (f : Fuses) : Nat :=
  let cl (c : Nat) : Bool := (List.range 12).any (fun i => !f.coresOff.getLsbD (12 * c + i))
  ((List.range 18).filter (fun d =>
    if 3 ≤ d && d ≤ 6 then f.links.getLsbD (d - 3) else if 9 ≤ d && d ≤ 12 then cl (d - 9)
    else if d = 13 then f.tilers ≠ 0 else if d = 14 then f.dmas ≠ 0 else true)).foldl (fun n d => n + 2 ^ d) 0

/-- A domain whose partner is present: its clock is monitored. -/
def State.hasDomain (s : State) (d : Nat) : Bool := s.start.fuses.any (fun f => (fuseDomains f).testBit (d - 1))

/-- Clock edges come again on a domain whose clock was lost; the loss of domain 17 lasts until a warm or cold reset. -/
def State.clockReturn (s : State) (d : Nat) : State :=
  if d = 0 || 18 < d || d = 17 || s.rb .VXB_DOMAIN_STAT 0 0 (d - 1) || !s.hasDomain d then s
  else
    let s := s.setB .VXB_DOMAIN_STAT 0 0 (d - 1) true
    if s.ready && 4 ≤ d && d ≤ 7 then s.trainPort (d - 4) else s

/-! ## The host (R27, R28, R304) -/

/-- SUB of a host loss (Table 08-10). -/
def lossSub (c : LossCause) : Nat :=
  match c with
  | .linkDown => 1
  | .presentFell => 2
  | .clockLost => 3

/-- Host loss by the link or HOST_PRESENT. A host that is absent already cannot be lost. -/
def State.hostLost (s : State) (c : LossCause) : State :=
  if !s.rb .VXB_HOST_LINK 0 0 8 && lossSub c ≠ 3 then s
  else s.hostGone (lossSub c)

/-- The host link returns, or HOST_PRESENT rises (R28, Table 01-11). -/
def State.hostReturn (s : State) (width speed : Nat) : State :=
  if s.rb .VXB_HOST_LINK 0 0 8 then s
  else
    let s := s.setB .VXB_HOST_LINK 0 0 8 true
    if s.soc then s.setF .VXB_HOST_LINK 0 0 0 8 0xFF
    else (s.setF .VXB_HOST_LINK 0 0 0 4 width).setF .VXB_HOST_LINK 0 0 4 4 speed

/-- PERST_N or HOST_RST_N: a function-level reset of all functions and a host-port reset (R304, Table 01-9); the PCIe link
is down until it trains again. During start-up the broader reset goes on (R45), and the cause is recorded. -/
def State.hostReset (s : State) : State :=
  let s := s.setB .VXB_RESET_CAUSE 0 0 2 true
  let s := s.when (s.ready && !s.haltedAll) (fun s => s.startFlr 0)
  s.when (!s.soc) State.hostDown

/-! ## The management port's I3C target (R34, R35) -/

/-- A dynamic address is assigned. -/
def State.setDyn (s : State) (a : Nat) : State := (s.setF .VXB_MGMT_STAT 0 0 0 7 a).setB .VXB_MGMT_STAT 0 0 7 true

/-- ENTDAA gives an address to a target that has none. -/
def State.entdaa (s : State) (a : Nat) : State := if s.rb .VXB_MGMT_STAT 0 0 7 then s else s.setDyn a

/-- SETDASA addresses the target by the plinth's static address. -/
def State.setdasa (s : State) (static a : Nat) : State :=
  let own := match s.start.plinth with | some p => p.i3cStatic | none => 0
  if own = 0 || static ≠ own || s.rb .VXB_MGMT_STAT 0 0 7 then s else s.setDyn a

/-- RSTACT sets what the next target reset pattern does. -/
def State.setRstact (s : State) (a : RstAct) : State := { s with start := { s.start with rstact := a } }

/-- "Reset whole target" is enabled by the plinth. -/
def State.wholeOk (s : State) : Bool := match s.start.plinth with | some p => p.wholeReset | none => false

/-- A peripheral reset: the port, its dynamic address and its MCTP state. -/
def State.periphReset (s : State) : State :=
  ((s.setF .VXB_MGMT_STAT 0 0 0 9 0).setB .VXB_MGMT_STAT 0 0 9 true).setRstact .peripheral

/-- The controller enters HDR-DDR. -/
def State.hdrDdr (s : State) : State := s.setB .VXB_MGMT_STAT 0 0 8 true

/-! ## The debug port (R424) -/

/-- The debug port selects an instruction. -/
def State.selectIr (s : State) (c : Nat) : State := { s with obs := { s.obs with ir := c } }

/-- VXB_STOP triggers a global stop at Update-IR. -/
def State.vxbStop (s : State) : State := (s.selectIr 0x20).globalStop 2

/-- DB_TRST_N: Test-Logic-Reset selects IDCODE, and the next scan begins with the first bytes of the image. -/
def State.debugReset (s : State) : State := { s with obs := { s.obs with ir := 3, scanPos := 0 } }

/-! ## Discrete inputs (R47 to R52) -/

/-- The actions that Table 01-10 allows an input; any other value acts as 0. -/
def dinAction (n v : Nat) : Nat :=
  if v = 2 then 2
  else if v = 1 && 1 ≤ n && n ≤ 4 then 1
  else if v = 3 && 5 ≤ n then 3
  else 0

/-- What the model keeps of an input. -/
def State.din (s : State) (n : Nat) : Din := Tab.getD s.dins n {}

/-- A change of it. -/
def State.updDin (s : State) (n : Nat) (f : Din → Din) : State := { s with dins := Tab.set s.dins n (f (s.din n)) }

/-- A latched COMPOSE completes at a latch edge (R108), its engine time counted from its own (R109); its done record follows. One that
is being squashed, or has completed already, does not. -/
def State.composeOver (s : State) (r : Run) : State :=
  match Tab.get? s.tasks r.task with
  | none => s
  | some t =>
    match t.latchAt with
    | none => s
    | some a =>
      if t.squashed || (Tab.getD s.engs (engNo .comp 0) {}).owed.any (fun o => o.1 == r.task) then s
      else
        let s := s.updEng (engNo .comp 0) (fun e => { e with owed := e.owed ++ [(r.task, r.tag)] })
        s.doneArrives { cls := .comp, peng := 0, tag := r.tag, status := 0, refused := false, noneLeft := false, next := 0,
                        engineNs := s.ref - a, task := some r.task }

/-- The composition engine latches its staged COMPOSE at an accepted vsync edge (R51, R107, R108): it completes the one it replaces,
and itself where LAYER_EN is zero. One whose launch is still on its lane, or that is withdrawn or squashed, does not latch (R107, R109). -/
def State.composeLatch (s : State) : State :=
  let runs := (Tab.getD s.engs (engNo .comp 0) {}).runs
  let staged := runs.find? (fun r =>
    (Tab.get? s.tasks r.task).any (fun t => t.latchAt.isNone && !t.yielding && !t.squashed)
    && !s.lanes.any (fun l => l.2.cls == .comp && l.2.task == r.task))
  match staged with
  | none => s
  | some r =>
    match Tab.get? s.tasks r.task with
    | none => s
    | some t =>
      let h : Half := BitVec.ofNat 32 (t.w 5)
      let (free, s) := s.draw
      let v := if evNode h = s.node then ((Tab.get? s.events (evIdx h)).map (fun e => e.value.toNat)).getD 0 else free
      let mask := if v < t.w 6 then t.w 1 / 256 % 256 else 0
      let s := s.updTask r.task (fun t => { t with latchAt := some s.ref })
      let s := s.when (t.w 7 ≠ 0) (fun s => s.writeMem (s.forCtx t.ctx) (nth t.words 7 0) [BitVec.ofNat 64 s.now, BitVec.ofNat 64 mask])
      let s := (runs.filter (fun o => o.task ≠ r.task)).foldl State.composeOver s
      if t.w 1 % 256 = 0 then s.composeOver r else s

/-- The composition engine has this TAG: of a COMPOSE it holds, or of one that a latch edge has completed. -/
def State.compHas (s : State) (tag : Nat) : Bool :=
  let e := Tab.getD s.engs (engNo .comp 0) {}
  e.owed.any (fun o => o.2 == tag) || e.runs.any (fun r => r.tag == tag)

/-- A done record comes (R237). That of a COMPOSE which a latch edge has completed has no further effect, and no COMPOSE on screen ends
as exhausted (R108; log 127). -/
def State.engineDone (s : State) (h : HeldDone) : State :=
  if h.cls == .comp && h.status = 0 && s.compHas h.tag then
    s.updEng (engNo .comp 0) (fun e => { e with owed := e.owed.eraseP (fun o => o.2 == h.tag) })
  else s.doneArrives h

/-- ACTION 2: a RECORD in ADD mode with value 1 on VXB_DIN_EVT, which must be bound (R52). -/
def State.dinRecord (s : State) (n : Nat) : State :=
  let h : Half := BitVec.ofNat 32 (s.rf .VXB_DIN_EVT n 0 0 32)
  if evNode h = s.node && evWellFormed h && (Tab.get? s.events (evIdx h)).isSome then s.recordLocal (evIdx h) 1 1 none
  else s.setB .VXB_DIN_STAT n 0 3 true

/-- An accepted edge (R48). -/
def State.dinAccept (s : State) (n : Nat) : State :=
  let s := s.wake
  let s := s.setReg .VXB_DIN_TS n 0 (BitVec.ofNat 64 s.now)
  let s := s.when (s.rb .VXB_DIN_STAT n 0 0) (fun s => s.bump .VXB_DIN_STAT n 0 8 8 1)
  let s := s.setB .VXB_DIN_STAT n 0 0 true
  let s := s.updDin n (fun d => { d with last := some s.ref, armed := false })
  let s := s.when (n == 0) (fun s =>
    let s := s.epochEdge0.emit (.pin "CP_VSYNC" true)
    s.composeLatch.vsyncEdge)
  let s := s.raise (21 + n)
  match dinAction n (s.rf .VXB_DIN_CFG n 0 34 2) with
  | 2 => s.dinRecord n
  | 3 => s.freeze 8
  | _ => s

/-- The pin of an input changes: LEVEL follows, an assertion restarts the stuck measurement, and an active edge is accepted
or counted in CLOSE; a quenched input accepts none (R48, R50). -/
def State.dinEdge (s : State) (n : Nat) (pin : Bool) : State :=
  let lev := pin != s.rb .VXB_DIN_CFG n 0 32
  if 9 ≤ n || lev == s.rb .VXB_DIN_STAT n 0 2 then s
  else
    let s := s.setB .VXB_DIN_STAT n 0 2 lev
    let s := s.updDin n (fun d => { d with since := s.ref })
    let s := s.when (1 ≤ n && n ≤ 4) (fun s => s.setB .GOV_ALARM_CFG 0 0 1 s.alarmIn)
    if !s.alive || !s.rb .VXB_DIN_CFG n 0 36 || !(lev || s.rb .VXB_DIN_CFG n 0 33) then s
    else
      let ok := match (s.din n).last with
        | none => true
        | some t => t + s.rf .VXB_DIN_CFG n 0 0 16 * 1000 ≤ s.ref
      if ok && !s.rb .VXB_DIN_STAT n 0 1 then s.dinAccept n else s.bump .VXB_DIN_STAT n 0 16 8 1

/-- An armed input's level has stayed asserted for STUCK_LIM (R50). -/
def State.dinStuck (s : State) (n : Nat) : State :=
  let lim := s.rf .VXB_DIN_CFG n 0 16 16 * 1000
  let d := s.din n
  if 9 ≤ n || !s.rb .VXB_DIN_CFG n 0 36 || lim = 0 || !d.armed || !s.rb .VXB_DIN_STAT n 0 2 || s.ref < d.since + lim
      || s.rb .VXB_DIN_STAT n 0 1 then s
  else
    let s := s.setB .VXB_DIN_STAT n 0 1 true
    (s.logErr { cls := 0x06, sub := n, obj := some n }).raise 6

/-- A W1C of PEND arms stuck detection (R50); the measurement starts now where the level is asserted already. One that meets an
accepted edge, at the same moment, leaves PEND set (R49, log 119). -/
def State.dinPendClear (s : State) (n : Nat) : State :=
  if 9 ≤ n || !s.rb .VXB_DIN_STAT n 0 0 || (s.din n).last == some s.ref then s
  else (s.setB .VXB_DIN_STAT n 0 0 false).updDin n (fun d => { d with armed := true, since := s.ref })

/-- A write of UNQUENCH (R50). -/
def State.dinUnquench (s : State) (n : Nat) : State :=
  if 9 ≤ n || s.rb .VXB_DIN_STAT n 0 2 then s else s.setB .VXB_DIN_STAT n 0 1 false

/-- A write of VXB_DIN_CFG (R47): the level follows the new polarity, an enable begins a new count of edges, and no edge is
made. UNQUENCH acts as R50 says. -/
def State.dinCfg (s : State) (n : Nat) (v : Word) : State :=
  let old := s.reg .VXB_DIN_CFG n
  let s := s.setReg .VXB_DIN_CFG n 0 (v &&& 0x1FFFFFFFFF)
  let s := s.when (bitOf old 32 != bitOf v 32) (fun s =>
    (s.setB .VXB_DIN_STAT n 0 2 (!s.rb .VXB_DIN_STAT n 0 2)).updDin n (fun d => { d with since := s.ref }))
  let s := s.when (!bitOf old 36 && bitOf v 36) (fun s => s.updDin n (fun d => { d with last := none }))
  let s := s.when (1 ≤ n && n ≤ 4) (fun s => s.setB .GOV_ALARM_CFG 0 0 1 s.alarmIn)
  s.when (bitOf v 37) (fun s => s.dinUnquench n)

end Sys2Proof.Machine
end

