-- ==== Sys2Proof/Machine/Mcs.lean ====
section
/-! DEFINITION. The control store (chapter 14): the microword, fetch and parity, the ALU, branching, the channels open to customer
routines, and the loading of patina sets and customer images. ROM words are not in the spec: a fetch from ROM brings its word
with the command. -/

namespace Sys2Proof.Machine

/-! ## The microword (R431, R433, R440) -/

/-- A subfield of a microword. -/
def mwf (w : BitVec 128) (lo n : Nat) : Nat := w.toNat / 2 ^ lo % 2 ^ n

/-- The XOR of the low `k` bits of a number. -/
def xorBits : Nat → Nat → Bool
  | 0, _ => false
  | k + 1, n => (n % 2 == 1) != xorBits k (n / 2)

/-- The parity bits of a microword: bit i is the even parity of field Wi. -/
def mwParity (w : BitVec 128) : Nat :=
  (List.range 8).foldl (fun p i => p + (if xorBits 16 (mwf w (16 * i) 16) then 2 ^ i else 0)) 0

/-- A microword with its parity. -/
def withParity (w : BitVec 128) (inverted : Bool) : BitVec 136 :=
  let p := mwParity w
  BitVec.ofNat 136 ((if inverted then 255 - p else p) * 2 ^ 128 + w.toNat)

/-- The parity check of a fetch. -/
def parityOk (x : BitVec 136) : Bool := mwParity (x.setWidth 128) == x.toNat / 2 ^ 128

/-- The microcode state when a routine is left: its sequencer goes back to the ROM. -/
def Seqr.leave (q : Seqr) : Seqr := { pc := q.back }

/-- The microcode state of a sequencer; one whose submission has left it inside a customer routine is back in the ROM. -/
def State.seqr (s : State) (n : Nat) : Seqr :=
  let q := Tab.getD s.mcs.seqs n {}
  let inside := s.flights.any (fun e => e.2.seqr == some n && e.2.call.any (fun c => 64 ≤ c.routine && c.started))
  if 0x8000 ≤ q.pc && q.pc < 0x9000 && !inside then q.leave else q

/-- A change of the microcode state. -/
def State.setSeqr (s : State) (n : Nat) (q : Seqr) : State := { s with mcs := { s.mcs with seqs := Tab.set s.mcs.seqs n q } }

/-- Match register `m` is enabled for a ROM address. -/
def State.matches (s : State) (a m : Nat) : Bool := s.rb .MCS_MATCH m 0 32 && s.rf .MCS_MATCH m 0 0 15 == a

/-- The address from which a word is fetched: a ROM address that an enabled match register holds goes to the patina (R439). -/
def State.fetchAt (s : State) (pc : Nat) : Nat :=
  if pc < 0x8000 then
    match (List.range 64).find? (s.matches pc) with
    | some m => 0xF000 + s.rf .MCS_MATCH m 0 16 11
    | none => pc
  else pc

/-- The word fetched: `rom` is what a read of the ROM brings. -/
def State.fetched (s : State) (a : Nat) (rom : BitVec 136) : BitVec 136 :=
  if a < 0x8000 then rom
  else
    let w := if 0xF000 ≤ a then nth s.mcs.patina (a - 0xF000) 0 else nth s.mcs.cust (a - 0x8000) 0
    withParity w (s.mcs.bad.contains a)

/-! ## The ALU (R435) -/

/-- The bits that a WIDTH names. -/
def aluBits (w : Nat) : Nat := 64 / 2 ^ w

/-- The result of an operation on operands of `n` bits, with CY and V; `none` for NOP. -/
def alu (op n a b : Nat) : Option (Nat × Bool × Bool) :=
  let m := 2 ^ n
  let a := a % m
  let b := b % m
  let sg (x : Nat) : Int := if x < m / 2 then x else (x : Int) - m
  let ov (r : Int) : Bool := r < -((m / 2 : Nat) : Int) || ((m / 2 : Nat) : Int) ≤ r
  let sh := b % 64
  match op with
  | 1 => some (a, false, false)
  | 2 => some ((a + b) % m, m ≤ a + b, ov (sg a + sg b))
  | 3 => some ((a + m - b) % m, a < b, ov (sg a - sg b))
  | 4 => some (Nat.land a b, false, false)
  | 5 => some (Nat.lor a b, false, false)
  | 6 => some (Nat.xor a b, false, false)
  | 7 => some (a * 2 ^ sh % m, false, false)
  | 8 => some (a / 2 ^ sh, false, false)
  | 9 => some ((BitVec.ofInt n (sg a / ((2 ^ sh : Nat) : Int))).toNat, false, false)
  | 10 => some (min a b, false, false)
  | 11 => some (max a b, false, false)
  | 12 => some (a * b % m, m ≤ a * b, false)
  | _ => none

/-! ## Operands (R436) -/

/-- A source operand; `none` for the sequencer-internal codes. -/
def srcVal (q : Seqr) (f : Option Flight) (node k : Nat) : Option Word :=
  let call := f.bind (fun x => x.call)
  if k < 8 then some (nth q.c k 0)
  else if k < 0x10 then some (match call with | some c => c.p (k - 8) | none => 0)
  else if k < 0x20 then some (match f with | some x => (nth x.areg (k - 0x10) {}).base | none => 0)
  else if k < 0x30 then some (nth q.u (k - 0x20) 0)
  else if k = 0x30 then some (match f with
    | some x => (x.k.zipIdx).foldl (fun v e => v ||| (if e.1 then 1#64 <<< e.2 else 0)) 0
    | none => 0)
  else if k = 0x31 then some (match call with | some c => BitVec.ofNat 64 c.args.length | none => 0)
  else if k = 0x32 then some (match call with | some c => c.hdr | none => 0)
  else if k = 0x33 then some (BitVec.ofNat 64 node)
  else if k = 0x3F then some 0
  else none

/-- A destination that the tables give: counters, scratch, IBUF and discard. -/
def dstOk (k : Nat) : Bool := k < 8 || (0x20 ≤ k && k < 0x30) || k = 0x38 || k = 0x3F

/-- A write of a destination. A customer routine changes only the counters of its WMASK. -/
def putDst (q : Seqr) (mask k : Nat) (v : Word) : Seqr :=
  if k < 8 then (if Nat.testBit mask k then { q with c := modAt q.c k (fun _ => v) } else q)
  else if 0x20 ≤ k && k < 0x30 then { q with u := modAt q.u (k - 0x20) (fun _ => v) }
  else if k = 0x38 then { q with ibuf := q.ibuf ++ [v] }
  else q

/-! ## One microword (R432 to R437, R442 to R445) -/

/-- How a handshake ends: it goes on with what it received, waits for its partner, faults with a status and an address, or
ends the submission early. -/
inductive Shake where
  | go (s : State) (q : Seqr) (v : Option Word)
  | wait
  | fault (status : Nat) (addr : Word)
  | early (status : Nat)
  deriving DecidableEq, Repr

/-- ISSUE on channel 0: IBUF must hold one whole command that a routine may issue. -/
def Seqr.shakeIssue (q : Seqr) (s : State) : Shake :=
  if !q.stack.isEmpty then .fault 5 0
  else
    let hd := nth q.ibuf 0 0
    let bad := q.ibuf.isEmpty || q.ibuf.length ≠ hdrSize hd || [0x1B, 0x1C, 0x1D, 0x1E].contains (hdrOp hd)
    if bad then .fault 0xB 0 else .go s q none

/-- A request on channel 1, MRD: the read of a memory word. -/
def Seqr.shakeMrd (q : Seqr) (s : State) (f : Option (Nat × Flight)) (data : Word) : Shake :=
  if q.read.isSome then .wait
  else if data.toNat % 8 ≠ 0 then .fault 0xB data
  else .go (match f with | some e => s.readMem (.cmdData e.1) data 8 | none => s) { q with read := some (1, data) } none

/-- The take of channel 1: a read that faulted or is refused (R324) is a page fault. -/
def Seqr.takeMrd (q : Seqr) (s : State) (part : Option Nat) (inp : MicroIn) : Shake :=
  match q.read with
  | some (k, a) => if k = 1 then (match inp with
     | .mem v => (match s.unlessRefused part a 8 v with
        | some v => .go s { q with read := none } (some v)
        | none => .fault 8 a)
     | _ => .wait) else .fault 5 0
  | none => .fault 5 0

/-- What a remote home answers an EVRD. -/
def Seqr.remoteTake (q : Seqr) (s : State) (r : RemoteVal) : Shake :=
  match r with
  | .value v _ => .go s { q with read := none } (some v)
  | .unbound => .fault 0xB 0
  | .lost => .early 2

/-- The value of an event at its home, as EVRD takes it. -/
def Seqr.eventTake (q : Seqr) (s : State) (h : Half) (part : Option Nat) (inp : MicroIn) : Shake :=
  if evNode h = s.node then
    (if !evWellFormed h || (s.evCheck h part).isSome then .fault 0xB 0
     else .go s { q with read := none } ((Tab.get? s.events (evIdx h)).map (·.value)))
  else if !s.nodeLive (evNode h) then .early 2
  else
    match inp with
    | .event r => q.remoteTake s r
    | _ => .wait

/-- The take of channel 2, EVRD. -/
def Seqr.takeEvrd (q : Seqr) (s : State) (part : Option Nat) (inp : MicroIn) : Shake :=
  match q.read with
  | some (k, d) => if k = 2 then q.eventTake s (d.setWidth 32) part inp else .fault 5 0
  | none => .fault 5 0

/-- The handshake of a word (Table 14-6): HOP and CHAN, the bundled data, and the submission, if any. -/
def State.shake (s : State) (q : Seqr) (f : Option (Nat × Flight)) (hop chan : Nat) (data : Word) (inp : MicroIn) : Shake :=
  let part := f.bind (fun e => s.ctxPart e.2.ctx)
  if hop = 0 then .go s q none
  else if hop = 3 then (match inp with | .ready b => .go s { q with rdy := b } none | _ => .wait)
  else if chan = 0 then q.shakeIssue s
  else if chan = 1 then (if hop = 1 then q.shakeMrd s f data else q.takeMrd s part inp)
  else if chan = 2 then
    (if hop = 1 then (if q.read.isSome then .wait else .go s { q with read := some (2, data) } none)
     else q.takeEvrd s part inp)
  else if chan = 3 then .go s q (some (BitVec.ofNat 64 s.now))
  else
    .go (match f with
      | some e => s.traceCmd 6 (s.cmdTag e.2 e.2.curHdr) data
      | none => s) q none

/-- The word uses only what the spec gives a meaning: the rest is private to the ROM. -/
def mwPublic (w : BitVec 128) : Bool :=
  let flow := mwf w 20 3
  let hop := mwf w 85 3
  let chan := mwf w 80 5
  flow ≤ 4 && mwf w 24 6 ≤ 12 && mwf w 16 4 ≤ 14 && hop ≤ 3 && mwf w 96 16 = 0
  && (hop = 0 || (chan ≤ 4 && (hop = 3 || (match chan with | 0 => hop = 1 | 3 => hop = 2 | 4 => hop = 1 | _ => true))))
  && dstOk (mwf w 48 6) && (hop ≠ 2 || dstOk (mwf w 88 6))

/-- The condition bits of a branch (Table 14-3). -/
def branchBits (q : Seqr) (k : List Bool) (bsel : Nat) : List Bool :=
  let kb (i : Nat) := nth k i false
  let u (i : Nat) := bitOf (nth q.u 15 0) i
  match bsel with
  | 1 => [q.z] | 2 => [q.n] | 3 => [q.cy] | 4 => [q.v] | 5 => [q.rdy]
  | 6 => [q.z, q.n] | 7 => [q.cy, q.v]
  | 8 => [kb 0] | 9 => [kb 0, kb 1] | 10 => [kb 0, kb 1, kb 2, kb 3]
  | 11 => [u 0] | 12 => [u 0, u 1] | 13 => [u 0, u 1, u 2] | 14 => [u 0, u 1, u 2, u 3]
  | _ => []

/-- The address of a branch: NEXT with the condition bits ORed in (R433). -/
def branchTo (next : Nat) (bits : List Bool) : Nat :=
  (bits.zipIdx).foldl (fun a b => if b.1 then Nat.lor a (2 ^ b.2) else a) next

/-- The immediate of a word (Table 14-2). -/
def mwImm (w : BitVec 128) : Word :=
  let x := mwf w 64 16
  let v : Word := if mwf w 58 1 = 1 then (BitVec.ofNat 16 x).signExtend 64 else BitVec.ofNat 64 x
  v <<< (16 * mwf w 56 2)

/-- A commit point (R443): the issued command is handed over with the CALL's TRACE, LAYER and OPERATOR, and the submission
takes the scratch registers and the counters. Where the routine `ends` with the word, its counter write is made then. -/
def Flight.commitIssue (x : Flight) (q : Seqr) (ends : Bool) (post : Option (Nat × Word)) : Flight :=
  match x.call with
  | none => x
  | some c =>
    let h := nth q.ibuf 0 0
    let keep : Word := ~~~(1#64 <<< 41) &&& 0xFFFFFFFF00000000
    let h := (h &&& keep) ||| (c.hdr &&& ~~~keep)
    { x with c := q.c, call := some { c with ibuf := some (h :: q.ibuf.drop 1), data := q.u, idx := c.idx + 1,
                                               total := b2n ends, after := if ends then post.toList else [] } }

/-- A fault of a word: of the submission in customer code; a call-stack fault of the ROM or the patina is a machine check. -/
def State.microFault (s : State) (n a : Nat) (f : Option (Nat × Flight)) (cust stack : Bool) (status : Nat) (addr : Word) : State :=
  if !cust && stack then s.startRegrow { cause := 5, seqr := n, addr := a } []
  else match f with | some e => s.guilty e.1 status none addr | none => s

/-- What FLOW does once the word has acted (R434): the next state of the sequencer, and for END the end of the routine. -/
def State.flow (s : State) (n a : Nat) (f : Option (Nat × Flight)) (cust : Bool) (w : BitVec 128) (q : Seqr) (issued : Bool) : State :=
  let next := branchTo (mwf w 0 16) (branchBits q (match f with | some e => e.2.k | none => []) (mwf w 16 4))
  match mwf w 20 3 with
  | 0 => s.setSeqr n { q with pc := next }
  | 1 => if 8 ≤ q.stack.length then s.microFault n a f cust true 5 0
         else s.setSeqr n { q with pc := next, stack := q.stack ++ [mwf w 64 16] }
  | 2 => match q.stack.getLast? with
         | none => s.microFault n a f cust true 5 0
         | some r => s.setSeqr n { q with pc := r, stack := q.stack.dropLast }
  | 3 =>
    let s := s.setSeqr n q.leave
    if !cust || issued then s
    else
      match f with
      | some e => (s.updFlight e.1 (fun x => match x.call with
          | some c => { x with c := q.c, lastLayer := hdrLayer c.hdr, lastOp := hdrOper c.hdr }.leaveCall
          | none => x)).settle e.1
      | none => s
  | _ => (s.setSeqr n q.leave).microFault n a f true false 5 0

/-- The microcode state with which a word starts: after a commit point the counters are those that the issued command left,
with the write that the ISSUE's word makes once its handshake is done (R432). -/
def Seqr.fresh (q : Seqr) (f : Option Flight) (cust : Bool) : Seqr :=
  if cust && q.count = 0 then
    let c := match f with | some x => x.c | none => q.c
    { q with c := setCounters c q.post.toList, post := none }
  else q

/-- An ISSUE (R442, R443): the commit takes the registers as they stand at the handshake; the word's own DST is written after
it, a counter when the issued command is done. -/
def State.microIssue (s : State) (n a : Nat) (f : Option (Nat × Flight)) (cust : Bool) (w : BitVec 128) (q : Seqr) (mask : Nat)
    (res : Option Word) : State :=
  let d := mwf w 48 6
  let post := match res with | some v => if cust && d < 8 && Nat.testBit mask d then some (d, v) else none | none => none
  let s := if cust then (match f with
      | some e => s.updFlight e.1 (fun x => x.commitIssue q (mwf w 20 3 == 3) post)
      | none => s) else s
  let q := { q with ibuf := [], z := false, n := false, cy := false, v := false, count := 0, post := post }
  let q := match res with | some v => if cust && d < 8 then q else putDst q mask d v | none => q
  let s := s.flow n a f cust w q true
  match f with | some e => s.settle e.1 | none => s

/-- The effect of a word that is fetched with good parity and public. -/
def State.microAct (s : State) (n a : Nat) (f : Option (Nat × Flight)) (w : BitVec 128) (inp : MicroIn) : State :=
  let cust := 0x8000 ≤ a && a < 0x9000
  let fl := f.map (fun e => e.2)
  let q0 := (s.seqr n).fresh fl cust
  let va := srcVal q0 fl s.node (mwf w 32 6)
  let vb := if mwf w 55 1 = 1 then some (mwImm w) else srcVal q0 fl s.node (mwf w 38 6)
  let hop := mwf w 85 3
  let chan := mwf w 80 5
  let data := (srcVal q0 fl s.node (mwf w 88 6)).getD 0
  let bits := aluBits (mwf w 30 2)
  let res := alu (mwf w 24 6) bits (va.getD 0).toNat (vb.getD 0).toNat
  let q := match res with
    | some (r, cy, v) => if mwf w 54 1 = 1 then { q0 with z := r == 0, n := Nat.testBit r (bits - 1), cy := cy, v := v } else q0
    | none => q0
  let mask := if cust then
      (match fl.bind (fun x => x.call) with | some c => s.rf .MCS_RTN c.routine 0 32 8 | none => 0)
    else 255
  match s.shake q f hop chan data inp with
  | .wait => s
  | .fault st ad =>
    (s.when (st = 8) (fun s => s.noteRefused (fl.bind (fun x => s.ctxPart x.ctx)) ad 8)).microFault n a f cust
      (chan == 0 && !q.stack.isEmpty) st ad
  | .early st => match f with | some e => s.endEarly e.1 st | none => s
  | .go s q got =>
    let val : Option Word := res.map (fun r => BitVec.ofNat 64 r.1)
    if hop = 1 && chan = 0 then s.microIssue n a f cust w q mask val
    else
      let q : Seqr := match val with | some v => putDst q mask (mwf w 48 6) v | none => q
      let q : Seqr := match got with | some v => putDst q mask (mwf w 88 6) v | none => q
      if 255 < q.ibuf.length then s.microFault n a f cust false 5 0
      else s.flow n a f cust w { q with count := q.count + 1 } false

/-- The submission on a stream sequencer. -/
def State.seqFlight (s : State) (n : Nat) : Option (Nat × Flight) := s.flights.find? (fun e => e.2.seqr == some n)

/-- Sequencer `n` stands at a customer word. -/
def State.inCustomer (s : State) (n : Nat) : Bool := let a := (s.seqr n).pc; 0x8000 ≤ a && a < 0x9000

/-- Sequencer `n` may fetch: the front end runs, no load writes, and in a customer routine its submission is there, waits for
nothing and has no command of the routine in hand. -/
def State.microRuns (s : State) (n : Nat) : Bool :=
  n ≤ 8 && s.frontRuns && (!s.inCustomer n ||
    (match s.seqFlight n with
     | some e => e.2.onSeq && e.2.call.any (fun c => 64 ≤ c.routine && c.ibuf.isNone)
     | none => false))

/-- The word at which sequencer `n` stands. -/
def State.microWord (s : State) (n : Nat) (rom : BitVec 136) : BitVec 128 :=
  (s.fetched (s.fetchAt (s.seqr n).pc) rom).setWidth 128

/-- A word uses an operand code that only the ROM knows. -/
def State.microPrivate (s : State) (n : Nat) (rom : BitVec 136) : Bool :=
  let w := s.microWord n rom
  let q := s.seqr n
  let src (k : Nat) : Bool := (srcVal q none 0 k).isNone
  parityOk (s.fetched (s.fetchAt q.pc) rom) && !s.regrow.injParity.contains n
  && (!mwPublic w || src (mwf w 32 6) || (mwf w 55 1 = 0 && src (mwf w 38 6)) || (mwf w 85 3 = 1 && src (mwf w 88 6)))

/-- The routine that runs on a sequencer is loaded: a load under a soft stop can have taken it away (R449). -/
def State.rtnLoaded (s : State) (n : Nat) : Bool :=
  (s.seqFlight n).any (fun e => e.2.call.any (fun c => s.rb .MCS_RTN c.routine 0 28))

/-- A sequencer fetches and executes its next microword (R432, R439, R440). -/
def State.micro (s : State) (n : Nat) (rom : BitVec 136) (inp : MicroIn) : State :=
  let q := s.seqr n
  let a := s.fetchAt q.pc
  let x := s.fetched a rom
  if s.regrow.injParity.contains n || !parityOk x then
    let s := { s with regrow := { s.regrow with injParity := s.regrow.injParity.filter (fun m => m ≠ n) } }
    s.startRegrow { cause := 2, seqr := n, addr := a } []
  else if s.inCustomer n && 4096 ≤ q.count then s
  else if s.inCustomer n && !s.rtnLoaded n then
    (match s.seqFlight n with | some e => s.guilty e.1 0xB none 0 | none => s)
  else s.microAct n a (s.seqFlight n) (x.setWidth 128) inp

/-- A customer routine has run 4,096 microwords without ISSUE or END (R444). -/
def State.microLimit (s : State) (n : Nat) : State :=
  if s.inCustomer n && 4096 ≤ (s.seqr n).count then
    s.microFault n (s.seqr n).pc (s.seqFlight n) true false 5 0
  else s

/-- A submission that a sequencer takes up inside a customer routine resumes at its RESUME entry, or meets the fault of an
unloaded routine (R443, R445, R449). -/
def State.resumeRtn (s : State) (n f : Nat) : State :=
  match Tab.get? s.flights f with
  | none => s
  | some x =>
    match x.call with
    | none => s
    | some c =>
      if c.routine < 64 then s
      else if !s.rb .MCS_RTN c.routine 0 28 then s.guilty f 0xB none 0
      else
        (s.updFlight f (fun x => { x with call := x.call.map (fun (c : Call) => { c with total := 0, after := [] }) })).enterRtn n x.c
          c.routine c.data true

/-- A free stream sequencer takes a submission (R161): the scheduler's choice, which goes on at its committed boundary. -/
def State.seqPick (s : State) (n : Nat) : State :=
  if !s.seqFree n then s
  else
    match s.seqChoice with
    | none => s
    | some f =>
      let c := (Tab.get? s.flights f).map (fun (x : Flight) => x.ctx)
      let s := s.updFlight f (fun x => { x with seqr := some n, readySince := none, count := 0 })
      let s := s.count 276 1 { part := c.bind s.ctxPart, ctx := c }
      (s.resumeRtn n f).settle f

/-! ## Images (R446, R447) -/

/-- A little-endian number (R8). -/
def leNum : List Byte → Nat
  | [] => 0
  | b :: r => b.toNat + 256 * leNum r

/-- The number of `k` bytes at an offset. -/
def leAt (b : List Byte) (off k : Nat) : Nat := leNum ((b.drop off).take k)

/-- The first `n` pieces of `k` bytes. -/
def chunks (k : Nat) : Nat → List Byte → List (List Byte)
  | 0, _ => []
  | n + 1, b => b.take k :: chunks k n (b.drop k)

/-- The whole qwords of some bytes. -/
def leQwords (b : List Byte) : List Word := (chunks 8 (b.length / 8) b).map (fun c => BitVec.ofNat 64 (leNum c))

/-- The image that some bytes hold (Table 14-9); `sigOk` and `digest` are the outcome of the signature check and the set digest. -/
def mcsImage (b : List Byte) (sigOk : Bool) (digest : BitVec 384) : McsImage :=
  let ents := leAt b 14 2
  { magic := leAt b 0 4, format := leAt b 4 2, romVer := leAt b 6 2, setVer := leAt b 8 4,
    rsvBad := (((b.drop 16).take 48).findIdx? (· ≠ 0)).map (· + 16),
    entries := (chunks 8 ents (b.drop 64)).map (fun c => BitVec.ofNat 64 (leNum c)),
    words := (chunks 16 (leAt b 12 2) (b.drop (64 + 8 * ents))).map (fun c => BitVec.ofNat 128 (leNum c)),
    sigOk := sigOk, digest := digest }

/-- The staged bytes. -/
def Load.bytes (l : Load) : List Byte := (List.range l.total).map (fun i => Tab.getD l.staged i 0)

/-- The first bad byte offset of an image's format: magic, format, version field, counts, header, entries' reserved bits. -/
def imageFormat (kind : Nat) (i : McsImage) (total : Nat) : Option Nat :=
  let magic := if kind = 0 then 0x56585054 else 0x56584355
  let rsv : Word := if kind = 0 then 0xFFFFF000F8008000 else 0xFFFF00000000F000
  if i.magic ≠ magic then some 0
  else if i.format ≠ 1 then some 4
  else if kind = 1 && i.romVer ≠ 0 then some 6
  else if (if kind = 0 then 2048 < i.words.length else i.words.length = 0 || 4096 < i.words.length) then some 12
  else if (if kind = 0 then 64 < i.entries.length else i.entries.length = 0 || 192 < i.entries.length) then some 14
  else
    match i.rsvBad with
    | some o => some o
    | none =>
      if total ≠ 160 + 8 * i.entries.length + 16 * i.words.length then some 12
      else
        match (i.entries.zipIdx).find? (fun e => e.1 &&& rsv ≠ 0) with
        | some e => some (64 + 8 * e.2 + ((List.range 8).find? (fun b => fld (e.1 &&& rsv) (8 * b) 8 ≠ 0)).getD 0)
        | none => none

/-- The first entry of a bad table. -/
def imageTable (kind : Nat) (i : McsImage) : Option Nat :=
  let n := i.words.length
  let key (e : Word) : Nat := if kind = 0 then fld e 0 15 else fld e 0 8
  let bad (e : Word) : Bool :=
    if kind = 0 then n ≤ fld e 16 11 || fld e 32 12 = 0 || n < fld e 16 11 + fld e 32 12
    else fld e 0 8 < 64 || 8 < fld e 8 4 || n ≤ fld e 24 12 || n ≤ fld e 36 12
  ((i.entries.zipIdx).find? (fun e => bad e.1 || (i.entries.take e.2).any (fun d => key d == key e.1))).map (·.2)

/-- The addresses that a word can reach: NEXT with every combination of its condition bits, and IMM under CALL. -/
def mwReach (w : BitVec 128) : List Nat :=
  let flow := mwf w 20 3
  let k := match mwf w 16 4 with
    | 0 => 0 | 6 => 2 | 7 => 2 | 9 => 2 | 10 => 4 | 12 => 2 | 13 => 3 | 14 => 4 | 15 => 4 | _ => 1
  (if flow ≤ 1 then (List.range (2 ^ k)).map (fun b => Nat.lor (mwf w 0 16) b) else [])
  ++ (if flow = 1 then [mwf w 64 16] else [])

/-- The words that a routine's entry reaches, by word index. -/
def reachWords (ws : List (BitVec 128)) : Nat → List Nat → List Nat → List Nat
  | 0, _, seen => seen
  | _, [], seen => seen
  | n + 1, a :: r, seen =>
    if seen.contains a || ws.length ≤ a then reachWords ws n r seen
    else reachWords ws n ((mwReach (nth ws a 0)).map (fun x => x - 0x8000) ++ r) (seen ++ [a])

/-- Everything that an entry reaches. -/
def reachFrom (ws : List (BitVec 128)) (e : Nat) : List Nat := reachWords ws (18 * ws.length + 1) [e] []

/-- A word breaks R431: a reserved subfield, or an operand or branch that must be zero. -/
def mwReserved (w : BitVec 128) : Bool :=
  mwf w 23 1 ≠ 0 || mwf w 44 4 ≠ 0 || mwf w 59 5 ≠ 0 || mwf w 94 2 ≠ 0 || mwf w 112 16 ≠ 0
  || (2 ≤ mwf w 20 3 && mwf w 20 3 ≤ 4 && mwf w 16 4 ≠ 0) || (mwf w 20 3 = 1 && mwf w 55 1 = 1)
  || (mwf w 55 1 = 1 && mwf w 38 6 ≠ 0) || (mwf w 85 3 = 0 && mwf w 80 5 ≠ 0)

/-- A source code of the customer column of Table 14-5. -/
def custSrc (k : Nat) : Bool := k < 0x34 || k = 0x3F

/-- A customer word uses something outside its set. -/
def custBad (w : BitVec 128) : Bool :=
  let hop := mwf w 85 3
  !mwPublic w || hop = 3 || !custSrc (mwf w 32 6) || (mwf w 55 1 = 0 && !custSrc (mwf w 38 6))
  || (hop = 1 && (if mwf w 80 5 = 0 then mwf w 88 6 ≠ 0x3F else !custSrc (mwf w 88 6)))

/-- Counters that a word writes. -/
def mwCounters (w : BitVec 128) : List Nat :=
  (if mwf w 48 6 < 8 && mwf w 24 6 ≠ 0 then [mwf w 48 6] else [])
  ++ (if mwf w 85 3 = 2 && mwf w 88 6 < 8 then [mwf w 88 6] else [])

/-- The first bad word of an image. -/
def imageWord (kind : Nat) (i : McsImage) : Option Nat :=
  let n := i.words.length
  let inside (a : Nat) : Bool :=
    if kind = 1 then 0x8000 ≤ a && a < 0x8000 + n else a < 0x8000 || (0xF000 ≤ a && a < 0xF000 + n)
  let reach := if kind = 1 then i.entries.map (fun e => (fld e 16 8, reachFrom i.words (fld e 24 12))) else []
  let counters (w : BitVec 128) (j : Nat) : Bool := (mwCounters w).any (fun c =>
    reach.all (fun r => !r.2.contains j || !Nat.testBit r.1 c))
  ((i.words.zipIdx).find? (fun w => mwReserved w.1 || !(mwReach w.1).all inside
    || (kind = 1 && (custBad w.1 || counters w.1 w.2)))).map (·.2)

/-- The checks of an image (Table 14-12): result and DETAIL, or `none` where it passes. -/
def State.imageFault (s : State) (kind : Nat) (i : McsImage) (total : Nat) : Option (Nat × Nat) :=
  match imageFormat kind i total with
  | some o => some (3, o)
  | none =>
    if kind = 1 && !s.start.plinth.any (fun p => p.customerEn) then some (5, 0)
    else if !i.sigOk then some (4, 0)
    else if kind = 0 && i.romVer ≠ s.rf .MCS_VERSION 0 0 0 16 then some (6, 0)
    else if i.setVer < s.rf .MCS_VERSION 1 0 (if kind = 0 then 0 else 32) 32 then some (7, 0)
    else
      match imageTable kind i with
      | some e => some (8, e)
      | none => (imageWord kind i).map (fun w => (9, w))

/-- The image's words, registers and versions come into force (Table 14-13 steps 4 and 5, without the revocations). -/
def State.installImage (s : State) (kind : Nat) (i : McsImage) : State :=
  let lo := if kind = 0 then 0xF000 else 0x8000
  let s := { s with mcs := { s.mcs with bad := s.mcs.bad.filter (fun a => !(lo ≤ a && a < lo + 0x1000)) } }
  let s := s.setF .MCS_VERSION 1 0 (if kind = 0 then 0 else 32) 32 i.setVer
  let s := s.setReg .MCS_VERSION (if kind = 0 then 3 else 4) 0 (i.digest.setWidth 64)
  let s := { s with mcs := { s.mcs with sets := Tab.set s.mcs.sets kind (i.setVer, i.digest) } }
  let s := s.setB .MCS_VERSION 6 0 kind true
  if kind = 0 then
    let s := { s with mcs := { s.mcs with patina := i.words } }
    let s := (List.range 64).foldl (fun s m => s.setReg .MCS_MATCH m 0 (match i.entries[m]? with
      | some e => mkWord [(0, 15, fld e 0 15), (16, 11, fld e 16 11), (32, 1, 1), (36, 12, fld e 32 12)]
      | none => 0)) s
    s.setReg .MCS_VERSION 5 0 0
  else
    let s := { s with mcs := { s.mcs with cust := i.words } }
    let s := (List.range 256).foldl (fun s r => s.setReg .MCS_RTN r 0 (match i.entries.find? (fun e => fld e 0 8 == r) with
      | some e => mkWord [(0, 12, fld e 24 12), (12, 12, fld e 36 12), (24, 4, fld e 8 4), (28, 1, 1), (32, 8, fld e 16 8)]
      | none => 0)) s
    s.setF .MCS_VERSION 6 0 8 8 i.entries.length

/-- The submission inside a customer routine on sequencer `n` resumes under the image in force (R449). Under a soft stop it
stands at its RESUME entry and meets an unloaded routine when it goes on. -/
def State.resumeSeq (s : State) (n : Nat) : State :=
  match s.seqFlight n with
  | some e => (match e.2.call with
    | some c => if c.routine < 64 || !c.started then s
                else if s.sstopped then s.enterRtn n e.2.c c.routine c.data true
                else s.resumeRtn n e.1
    | none => s)
  | none => s

/-- The sequencers go on after a pause. -/
def State.resumeSeqs (s : State) : State := (List.range 8).foldl State.resumeSeq s

/-- A load is applied (Table 14-13 steps 4 to 6). DETAIL is the pause in ns, which the spec bounds by 100 µs and does not
state: a free value. -/
def State.applyLoad (s : State) (l : Load) (i : McsImage) : State :=
  let (p, s) := s.draw
  let s := ((s.installImage l.kind i).imageChanged).raise 17
  (s.endLoad 0 (p % 100001)).resumeSeqs

/-! ## The load requests (R447, R448, R450) -/

/-- Loads are refused while the double-fault halt or a global stop is in force. -/
def State.loadHalted (s : State) : Bool := s.haltedAll || s.gstopped

/-- A result that ends no load in progress is reported too. -/
def State.loadRefused (s : State) (r : Nat) : State :=
  ((s.setF .MCS_LOAD_STAT 0 0 8 4 r).setF .MCS_LOAD_STAT 0 0 32 32 0).emit (.loadAns r 0)

/-- LOAD_BEGIN. -/
def State.loadBegin (s : State) (kind total : Nat) : State :=
  if s.loadHalted then s.loadRefused 2
  else if s.mcs.load.isSome then s.loadRefused 1
  else if kind = 1 && s.lacks 2 then s.loadRefused 5
  else if 2 ≤ kind || total < 160 || 69632 < total then s.loadRefused 3
  else
    let s := { s with mcs := { s.mcs with load := some { kind := kind, total := total } } }
    let s := ((s.setB .MCS_LOAD_STAT 0 0 0 true).setF .MCS_LOAD_STAT 0 0 1 3 1).setB .MCS_LOAD_STAT 0 0 4 (kind == 1)
    s.emit (.loadAns 0 0)

/-- LOAD_DATA. -/
def State.loadData (s : State) (off : Nat) (bytes : List Byte) : State :=
  match s.mcs.load with
  | none => s
  | some l =>
    if s.loadHalted then s.endLoad 2 0
    else if l.ready.isSome then s.loadRefused 1
    else if bytes.isEmpty || 1024 < bytes.length || l.total < off + bytes.length then s.endLoad 3 off
    else
      let st := (bytes.zipIdx).foldl (fun t b => Tab.set t (off + b.2) b.1) l.staged
      ({ s with mcs := { s.mcs with load := some { l with staged := st } } }).emit (.loadAns 0 0)

/-- LOAD_COMMIT: steps 1 and 2, then the pause is requested; under a soft stop the front end stands still already. -/
def State.loadCommit (s : State) (sigOk : Bool) (digest : BitVec 384) : State :=
  match s.mcs.load with
  | none => s
  | some l =>
    if s.loadHalted then s.endLoad 2 0
    else if l.ready.isSome then s.loadRefused 1
    else
      let s := s.wake
      if l.staged.length ≠ l.total then s.endLoad 3 l.staged.length
      else
        let i := mcsImage l.bytes sigOk digest
        match s.imageFault l.kind i l.total with
        | some (r, d) => s.endLoad r d
        | none =>
          if s.sstopped && !s.regrowing then s.applyLoad l i
          else
            let s := s.setF .MCS_LOAD_STAT 0 0 1 3 (if s.regrowing then 2 else 3)
            { s with mcs := { s.mcs with load := some { l with ready := some i } } }

/-- The sequencers are at a command boundary or a commit point, with no read outstanding (Table 14-13 step 3). -/
def State.pauseOk (s : State) : Bool :=
  (List.range 8).all (fun n => !s.inCustomer n || (s.seqFlight n).isNone || ((s.seqr n).count = 0 && (s.seqr n).read.isNone))

/-- All sequencers have stopped for the load. -/
def State.loadPause (s : State) : State :=
  match s.mcs.load with
  | none => s
  | some l =>
    match l.ready with
    | none => s
    | some i => if s.rf .MCS_LOAD_STAT 0 0 1 3 = 3 && s.pauseOk && s.gov.rung = 0 then s.applyLoad l i else s

/-! ## Errors that persist (R274) -/

/-- A PATCH record, which raises source 17. -/
def State.patchRec (s : State) (sub addr : Nat) : State := (s.logErr { cls := 0x0D, sub := sub, addr := BitVec.ofNat 64 addr }).raise 17

/-- A patina word fails again: every match register that points into its patch is disabled. -/
def State.disablePatch (s : State) (a : Nat) : State :=
  let o := a - 0xF000
  let ms := (List.range 64).filter (fun m =>
    s.rb .MCS_MATCH m 0 32 && s.rf .MCS_MATCH m 0 16 11 ≤ o && o < s.rf .MCS_MATCH m 0 16 11 + s.rf .MCS_MATCH m 0 36 12)
  let s := ms.foldl (fun s m => ((s.setB .MCS_MATCH m 0 32 false).setB .MCS_MATCH m 0 33 true).setB .MCS_VERSION 5 0 m true) s
  (s.patchRec 1 a).revokeBlobs (fun _ => true)

/-- A customer word fails again: the routines that reach it are unloaded. -/
def State.unloadRtn (s : State) (a : Nat) : State :=
  let w := a - 0x8000
  let rs := (List.range 256).filter (fun r => s.rb .MCS_RTN r 0 28
    && ((reachFrom s.mcs.cust (s.rf .MCS_RTN r 0 0 12)).contains w || (reachFrom s.mcs.cust (s.rf .MCS_RTN r 0 12 12)).contains w))
  let s := rs.foldl (fun s r => s.setB .MCS_RTN r 0 28 false) s
  let s := s.setF .MCS_VERSION 6 0 8 8 ((List.range 256).filter (fun r => s.rb .MCS_RTN r 0 28)).length
  s.patchRec 2 a

end Sys2Proof.Machine
end

