-- ==== Sys2Proof/Machine/Err.lean ====
section
/-! DEFINITION. Faults (chapter 08): the watchdog, table errors and their injection, and the steps of a regrowth from 4 to 8. The
start of a regrowth stands in Lanes, the teardown sequences in Teardown and Parts. -/

namespace Sys2Proof.Machine

/-! ## The watchdog (R263 to R265) -/

/-- The oldest outstanding submission of a context: of those not completed, the one accepted first. -/
def State.oldestFlight (s : State) (c : Nat) : Option (Nat × Flight) :=
  match s.flights.filter (fun e => e.2.ctx == c) with
  | [] => none
  | a :: r => some (r.foldl (fun a b => if b.2.age < a.2.age then b else a) a)

/-- The fault of a watchdog's expiry: WATCHDOG on the oldest outstanding submission (Table 08-1). -/
def State.watchdogGuilt (s : State) (c : Nat) : Guilt :=
  match s.oldestFlight c with
  | some (f, x) => { ctx := c, f := some f, status := 0xA, off := x.off, layer := hdrLayer x.curHdr, op := hdrOper x.curHdr }
  | none => { ctx := c, status := 0xA }

/-- The no-progress watchdog of a context expires, which is a wake (R230): a snapshot for the wait-for graph, then autotomy; during regrowth the check
is deferred (Table 08-5). -/
def State.watchdog (s : State) (c : Nat) : State :=
  match Tab.get? s.ctxs c with
  | none => s
  | some x =>
    if Tab.getD s.wd c 0 < x.wdMs * 1000000 || x.wdMs = 0 || !s.ctxActive c then s
    else if s.regrowing then
      { s with regrow := { s.regrow with watchdogs := (s.regrow.watchdogs.filter (fun d => d ≠ c)) ++ [c] } }
    else if s.wdHolds c then s
    else (s.wake.snapshot [c]).startAutotomy (s.watchdogGuilt c)

/-! ## Table errors (R275, R288) -/

/-- Tables that ERR_INJECT names. -/
def tabQueue : Nat := 0
/-- The context table. -/
def tabCtx : Nat := 1
/-- The flight table. -/
def tabFlight : Nat := 2
/-- The event table. -/
def tabEvent : Nat := 3
/-- The semaphore table. -/
def tabSem : Nat := 4
/-- The admin-command progress table. -/
def tabAdmin : Nat := 5

/-- The function that an error's regrowth names. -/
def tabErrFn (e : TabErr) : Option Nat :=
  match e with
  | .fn n => some n
  | .ctx n _ => some n
  | _ => none

/-- The context that an error's record names. -/
def State.tabErrCtx (s : State) (e : TabErr) : Option Nat :=
  match e with
  | .ctx _ c => some c
  | .flight f => (Tab.get? s.flights f).map (fun x => x.ctx)
  | _ => none

/-- A table is read at an entry: an error armed for the table shows itself (R275, R288). A correctable one is counted; an
uncorrectable one is a machine check. -/
def State.readTab (s : State) (tab : Nat) (e : TabErr) : State :=
  let s := if s.regrow.injFix.contains tab then
      ({ s with regrow := { s.regrow with injFix := s.regrow.injFix.filter (fun t => t ≠ tab) } }).bump .ERR_CE 0 0 0 32 1
    else s
  if s.regrow.injBad.contains tab then
    ({ s with regrow := { s.regrow with injBad := s.regrow.injBad.filter (fun t => t ≠ tab) } }).startRegrow
      { cause := 3, fn := tabErrFn e, ctx := s.tabErrCtx e } [e]
  else s

/-- ERR_INJECT writes are accepted only from the management port, while global stop is enabled (R288). -/
def State.mayInject (s : State) (mgmt : Bool) : Bool := mgmt && s.rb .OBS_STOP_CFG 0 0 0

/-- KIND 1: a parity error on the next microword that a sequencer reads. -/
def State.injectParity (s : State) (seqr : Nat) : State :=
  if 8 < seqr || s.regrow.injParity.contains seqr then s
  else { s with regrow := { s.regrow with injParity := s.regrow.injParity ++ [seqr] } }

/-- KIND 2: an uncorrectable error on the next read of a table. -/
def State.injectBad (s : State) (tab : Nat) : State :=
  if 5 < tab || s.regrow.injBad.contains tab then s
  else { s with regrow := { s.regrow with injBad := s.regrow.injBad ++ [tab] } }

/-- KIND 3: a correctable error on the next read of a table. -/
def State.injectFix (s : State) (tab : Nat) : State :=
  if 5 < tab || s.regrow.injFix.contains tab then s
  else { s with regrow := { s.regrow with injFix := s.regrow.injFix ++ [tab] } }

/-- The resolution of a table error at step 5 (Table 08-7); the halt of a function is left to step 7. -/
def State.resolveErr (s : State) (e : TabErr) : State :=
  match e with
  | .fn _ => s
  | .ctx _ _ => s
  | .free => s
  | .flight f =>
    match Tab.get? s.flights f with
    | some x => s.startAutotomy { ctx := x.ctx }
    | none => s
  | .event i => (s.updEvent i (fun e => { e with value := 0 })).abandon i
  | .sem i =>
    let m := s.semOf i
    let s := s.setSem i { m with value := 0, queue := [] }
    m.queue.foldl (fun s a => if a.node = s.node then s.endEarly a.f 2 else s.send a.node (.refuse 0 3 (semHandle i))) s

/-! ## Regrowth steps 3 to 8 (Table 08-6) -/

/-- Step 4: queue state from the queue tables; the slots reserved are those of the accepted submissions and of the held completions
whose entry is not written (R74), and the next visit of every ACTIVE SQ, and of F0's admin SQ, is due at once. -/
def State.rebuildQueues (s : State) : State :=
  let sqs := Tab.mapV s.sqs (fun (q : Sq) =>
    { q with fetched := q.ci, arrived := [], due := if q.state == .active then s.ref else q.due })
  let never := (sqs.filter (fun e => e.2.state == .active && e.2.poll == 255)).map (fun e => some e.1)
  let s := { s with sqs := sqs, scan := { s.scan with again := never ++ [none] } }
  let count (c : Nat) : Nat :=
    (s.sqs.filter (fun e => e.2.cr == c)).foldl (fun n e =>
      n + (s.flights.filter (fun f => f.2.sq == e.1)).length + (e.2.held.filter (fun p => p.stage == 0)).length) 0
  let s := { s with crs := s.crs.map (fun (e : Nat × Cr) => (e.1, { e.2 with reserved := count e.1 })) }
  { s with adm := { s.adm with fetched := s.admCi 0, cells := [],
                               reserved := s.adm.prog.length + (Tab.getD s.admHeld 0 []).length } }

/-- Step 7: a function is halted (R280). DESIGN CHOICE (log 118): ADM_STAT.ENABLED keeps its value, as ADM_CFG.EN does; HALTED tells
that the queue is out of service. -/
def State.markHalted (s : State) (n : Nat) : State :=
  let s := s.setB .ADM_STAT n 0 2 true
  { s with sqs := Tab.mapV s.sqs (fun (q : Sq) => if q.fn == n then { q with state := .halted } else q),
           crs := Tab.mapV s.crs (fun (c : Cr) => if c.fn == n then { c with state := .halted } else c) }

/-- The functions that step 7 halts, with the SUB of their records: those the regrowths of the window named, then those of its table
errors. -/
def Regrow.offenders (r : Regrow) : List (Nat × Nat) :=
  r.culprits ++ (r.errs.filterMap (fun e => (tabErrFn e).map (fun n => (n, 2)))).filter
    (fun x => !r.culprits.any (fun o => o.1 == x.1))

/-- Step 8: the front end resumes, and what waited for it happens. -/
def State.resumeFront (s : State) : State :=
  let r := s.regrow
  let s := s.setB .ERR_STAT 0 0 1 false
  let s := { s with regrow := { injParity := r.injParity, injBad := r.injBad, injFix := r.injFix, faults := r.faults } }
  let s := s.when (s.mcs.load.any (fun l => l.ready.isSome)) (fun s => s.setF .MCS_LOAD_STAT 0 0 1 3 3)
  let s := s.raise 1
  let s := s.when (!s.sstopped) State.doDeferred
  let s := r.autotomies.foldl State.startAutotomy s
  let s := r.watchdogs.foldl State.watchdog s
  let s := match r.hostLoss with | some c => s.startHostLoss c | none => s
  r.offenders.foldl (fun s o => s.startHalted o.1 o.2) s

/-- Step 6: the done records that were held are applied in the order in which they came (Table 08-6). -/
def State.applyHeld (s : State) : State := s.regrow.dones.foldl State.applyDone s

/-- The task whose run a done record ends. -/
def State.doneTask (s : State) (h : HeldDone) : Option Nat :=
  if h.status = 4 then none
  else if h.cls == .cores then ((nth s.cores h.peng {}).run.filter (fun r => r.tag == h.tag)).map (·.task)
  else (s.runOf (engNo h.cls h.peng) h).map (·.task)

/-- Before the held done records are applied: the instances whose deadline was put off and one of whose tasks ran beyond it (R279). -/
def State.noteLate (s : State) : State :=
  let late (at0 i : Nat) : Bool := s.regrow.dones.any (fun h => at0 < h.at0
    && (s.doneTask h).any (fun k => (Tab.get? s.tasks k).any (fun t => t.rt == some i)))
  (s.cyc.deferredActs.filter (fun a => a.2.1 && late a.1 a.2.2)).foldl (fun s a =>
    s.updInst a.2.2 (fun x => { x with wasRunning := true })) s

/-- Steps 4 to 8. -/
def State.rebuildRest (s : State) : State :=
  let s := s.rebuildQueues
  let s := (s.regrow.errs.foldl State.resolveErr s).noteLate.applyHeld
  (s.regrow.offenders.foldl (fun s o => s.markHalted o.1) s).resumeFront

/-- The regrowth in progress runs to its end; `ok` is the outcome of the second reading of a failing microword (R274), which
a word written with inverted parity never passes (R440). A ROM word that fails again is a machine check. -/
def State.regrowResume (s : State) (ok : Bool) : State :=
  if !s.regrowing then s
  else
    let s0 := { s with regrow := { s.regrow with reread := none } }
    let fails := match s.regrow.reread with
      | some (_, a) => if ok && !s.mcs.bad.contains a then none else some a
      | none => none
    match fails, s.regrow.reread with
    | some a, some (n, _) =>
      if a < 0x8000 then s.startRegrow { cause := 2, seqr := n, addr := a } []
      else
        let s := if 0xF000 ≤ a then s0.disablePatch a else s0.unloadRtn a
        s.rebuildRest
    | _, _ =>
      s0.rebuildRest

/-- Writing 1 to PRIMARY_VALID releases the primary record (R286). -/
def State.releasePrimary (s : State) : State := s.setB .ERR_STAT 0 0 0 false

end Sys2Proof.Machine
end

