-- ==== Sys2Proof/Machine/Admin.lean ====
section
/-! DEFINITION. The administrative commands (Table 02-8, R78 to R93, R154, R169, R292 to R294): which may start, the refusals
in the order of R80, and what each does. A held completion ring is resumed here too (Table 02-13). -/

namespace Sys2Proof.Machine

/-! ## Which command may start (R79) -/

/-- Qword `i` of an admin entry. -/
def AdmEntry.qw (e : AdmEntry) (i : Nat) : Word := nth e.q i 0

/-- OPCODE of an admin entry (Table 02-6). -/
def AdmEntry.op (e : AdmEntry) : Nat := fld (e.qw 0) 0 8

/-- Field [lo+w-1:lo] of qword `i` of an admin entry. -/
def AdmEntry.f (e : AdmEntry) (i lo w : Nat) : Nat := fld (e.qw i) lo w

/-- The objects that a command names: an SQ (0), a CR (1) or a context (2) with its ID. -/
def AdmEntry.names (e : AdmEntry) : List (Nat × Nat) :=
  match e.op with
  | 1 => [(2, e.f 2 32 10), (1, e.f 2 42 10)]
  | 2 => [(0, e.f 1 0 12)]
  | 4 => [(1, e.f 1 0 10)]
  | 6 => [(2, e.f 1 0 10)]
  | 7 => [(2, e.f 1 0 10)]
  | 9 => if e.f 1 0 8 ≤ 2 then [(e.f 1 0 8, e.f 1 16 12)] else []
  | 11 => [(1, e.f 1 0 10)]
  | _ => []

/-- What a command waits for: the objects it names, and for a DESTROY_CR the DESTROY_SQs of SQs bound to it (3, R89). -/
def AdmEntry.needs (e : AdmEntry) : List (Nat × Nat) := if e.op = 4 then (3, e.f 1 0 10) :: e.names else e.names

/-- What a command that has not completed holds back: the objects it names, and for a DESTROY_SQ the CR of its SQ (3, R89). -/
def State.admHolds (s : State) (e : AdmEntry) : List (Nat × Nat) :=
  match Tab.get? s.sqs (e.f 1 0 12) with
  | some x => if e.op = 2 then (3, x.cr) :: e.names else e.names
  | none => e.names

/-- The first command whose start nothing delays: it has not started, and no command before it holds back what it needs. DESIGN CHOICE
(log 165): a second DESTROY_SQ of an SQ waits under R79 for the first, which leaves it BAD_ID and not the BUSY of R89. -/
def admFirst (holds : AdmEntry → List (Nat × Nat)) : List (Nat × Nat) → List AdmEntry → Option AdmEntry
  | _, [] => none
  | seen, e :: r =>
    if !e.started && e.needs.all (fun o => !seen.contains o) then some e else admFirst holds (seen ++ holds e) r

/-- The command that starts next. -/
def State.admNext (s : State) : Option AdmEntry := admFirst s.admHolds [] s.adm.prog

/-- A command of the admin SQ runs: it has been accepted under that index with that opcode and is the next to start. F0 is
neither halted nor is its admin SQ out of service. -/
def State.runAdm (s : State) (idx op : Nat) (g : State → AdmEntry → State) : State :=
  match s.admNext with
  | some e =>
    if e.idx == idx && e.op == op && !s.rb .ADM_STAT 0 0 2 then
      let s := s.readTab tabAdmin (.fn 0)
      if s.regrowing || s.haltedAll then s else g s e
    else s
  | none => s

/-! ## Refusals (R80, Table 02-7) -/

/-- The first of the causes of refusal that applies. -/
def firstCode : List (Bool × Nat) → Option Nat
  | [] => none
  | (b, c) :: r => if b then some c else firstCode r

/-- The qword-0 faults that complete with BAD_PARAM (R78). -/
def AdmEntry.q0Bad (e : AdmEntry) : Bool :=
  (!e.oboEn && (e.f 0 16 6 ≠ 0 || bitOf (e.qw 0) 23)) || (e.oboEn && e.f 0 16 6 = 0)

/-- The checks every command shares: the acting function is assigned (R292), and qword 0 is consistent (R78). -/
def State.admShared (s : State) (e : AdmEntry) : List (Bool × Nat) :=
  [((s.fnPart e.acting).isNone, 4), (e.q0Bad, 5)]

/-- A command runs after its checks: a refusal leaves all state as it was but for the completion. -/
def State.admGuard (s : State) (e : AdmEntry) (l : List (Bool × Nat)) (w : WriteFault) (g : State → State) : State :=
  match firstCode (s.admShared e ++ l) with
  | some c => s.admDone e 0 c 0 0 none w
  | none => g s

/-- A ring lies wholly on one side of the device-local aperture, at a 4 KiB-aligned base (R54). -/
def State.ringOk (s : State) (base : Word) (bytes : Nat) : Bool :=
  let a := base.toNat
  let lo := s.start.apBase.toNat
  let hi := lo + 8 * (2 ^ s.start.log2c * 25 / 32)
  a % 4096 = 0 && a + bytes ≤ 2 ^ 64 && ((lo ≤ a && a + bytes ≤ hi) || a + bytes ≤ lo || hi ≤ a)

/-- The SQs a function holds. -/
def State.sqUsed (s : State) (n : Nat) : Nat := s.sqs.countV (fun x => x.fn == n)

/-- The CRs a function holds. -/
def State.crUsed (s : State) (n : Nat) : Nat := s.crs.countV (fun x => x.fn == n)

/-- The contexts a function holds. -/
def State.ctxUsed (s : State) (n : Nat) : Nat := s.ctxs.countV (fun x => x.fn == n)

/-- SQ_MAX in force (R293). -/
def State.sqMax (s : State) (n : Nat) : Nat := min 4096 (s.rf .VXB_FN_QUOTA n 0 0 13)

/-- CR_MAX in force. -/
def State.crMax (s : State) (n : Nat) : Nat := min 1024 (s.rf .VXB_FN_QUOTA n 0 16 11)

/-- CTX_MAX in force. -/
def State.ctxMax (s : State) (n : Nat) : Nat := min 1024 (s.rf .VXB_FN_QUOTA n 0 32 11)

/-- A doorbell slot of a function holds an object. -/
def State.dbTaken (s : State) (n slot : Nat) : Bool := (s.sqAt n slot).isSome || (s.crAt n slot).isSome

/-- The lowest free SQ ID. -/
def State.freeSq (s : State) : Option Nat := Tab.lowestFree s.sqs 0 4096

/-- The lowest free CR ID. -/
def State.freeCr (s : State) : Option Nat := Tab.lowestFree s.crs 0 1024

/-- A context is named by the running or the pending table. -/
def State.tableNames (s : State) (c : Nat) : Bool :=
  let inT (t : Option CycTable) : Bool := t.any (fun t => t.slots.any (fun d => d.ctx == c))
  inT s.cyc.table || inT s.cyc.pending

/-- The lowest free context; an orphaned ID is not free (R306). -/
def State.freeCtxId (s : State) : Option Nat :=
  (List.range 1024).find? (fun c => (Tab.get? s.ctxs c).isNone && !s.tableNames c)

/-- A context exists and belongs to a function. -/
def State.ctxOf (s : State) (n c : Nat) : Bool := (Tab.get? s.ctxs c).any (fun x => x.fn == n)

/-- A CR exists and belongs to a function. -/
def State.crOf (s : State) (n c : Nat) : Bool := (Tab.get? s.crs c).any (fun x => x.fn == n)

/-- An SQ exists and belongs to a function. -/
def State.sqOf (s : State) (n q : Nat) : Bool := (Tab.get? s.sqs q).any (fun x => x.fn == n)

/-- A CR is not ACTIVE. -/
def State.crBusy (s : State) (c : Nat) : Bool := (Tab.get? s.crs c).any (fun x => x.state != .active)

/-- SQs bound to a CR. -/
def State.bound (s : State) (c : Nat) : Nat := s.sqs.countV (fun x => x.cr == c)

/-! ## The commands -/

/-- NOP: nothing; REFLECT_RESULT becomes the RESULT of the reflected copy (R83 step 4). -/
def State.doNop (s : State) (e : AdmEntry) (w : WriteFault) : State :=
  s.admGuard e [] w (fun s => s.admDone e 0 0 0 0 (some (e.f 1 0 8)) w)

/-- CREATE_SQ. -/
def State.doCreateSq (s : State) (e : AdmEntry) (w : WriteFault) : State :=
  let n := e.acting
  let log2 := e.f 2 0 5
  let poll := e.f 2 8 8
  let c := e.f 2 32 10
  let r := e.f 2 42 10
  let slot := e.f 2 21 11
  s.admGuard e
    [(log2 < 4 || 16 < log2 || !s.ringOk (e.qw 1) (64 * 2 ^ log2) || (225 ≤ poll && poll ≤ 254) || (e.qw 3).toNat % 8 ≠ 0, 5),
     (!s.ctxOf n c || !s.crOf n r, 1), (s.crBusy r || s.ctxInTd c, 6), (s.dbTaken n slot, 2),
     (s.sqMax n ≤ s.sqUsed n || s.freeSq.isNone, 3)] w
    (fun s =>
      match s.freeSq with
      | none => s
      | some q =>
        let d := e.f 4 0 16
        let x : Sq := { fn := n, ctx := c, cr := r, base := e.qw 1, log2 := log2, poll := poll, depth := e.f 2 16 3 + 1,
                        irq := bitOf (e.qw 2) 19, dbSlot := slot, seqAddr := e.qw 3, drainUs := if d = 0 then 200 else d,
                        due := s.ref }
        let s := { s with sqs := Tab.set s.sqs q x }
        let s := if w == .seqWord || s.seqRefused q then s.holdCr r 3 (e.qw 3) else s.seqWord q
        s.admDone e 0 0 q 0 none w)

/-- DESTROY_SQ: the sequence of Table 02-12 starts, and its admin completion comes with its last step. -/
def State.doDestroySq (s : State) (e : AdmEntry) : State :=
  let q := e.f 1 0 12
  s.admGuard e
    [(!s.sqOf e.acting q, 1),
     ((Tab.get? s.sqs q).any (fun x => x.state == .destroying || x.state == .halted) || s.td.any (fun d => d.kind == .destroySq && d.obj == q), 6)]
    .none
    (fun s =>
      let s := { s with adm := { s.adm with prog := s.adm.prog.map (fun x => if x.idx == e.idx then { x with started := true } else x) } }
      match Tab.get? s.sqs q with
      | some x => s.startDestroy q x e.idx
      | none => s)

/-- CREATE_CR. -/
def State.doCreateCr (s : State) (e : AdmEntry) (w : WriteFault) : State :=
  let n := e.acting
  let log2 := e.f 2 0 5
  let slot := e.f 2 11 11
  s.admGuard e
    [(log2 < 4 || 16 < log2 || !s.ringOk (e.qw 1) (32 * 2 ^ log2) || (e.qw 3).toNat % 8 ≠ 0, 5), (s.dbTaken n slot, 2),
     (s.crMax n ≤ s.crUsed n || s.freeCr.isNone, 3)] w
    (fun s =>
      match s.freeCr with
      | none => s
      | some r =>
        let x : Cr := { fn := n, base := e.qw 1, log2 := log2, irqSrc := e.f 2 5 6, dbSlot := slot, piShadow := e.qw 3 }
        let s := { s with crs := Tab.set s.crs r x }
        let s :=
          if e.qw 3 = 0 then s
          else if w == .seqWord || s.refused (s.fnPart n) (e.qw 3) 8 then s.holdCr r 2 (e.qw 3)
          else s.writeMem (s.forFn n) (e.qw 3) [0]
        s.admDone e 0 0 r 0 none w)

/-- DESTROY_CR: IN_USE while any SQ is bound; a held CR that no SQ is bound to is freed without a write (R93). -/
def State.doDestroyCr (s : State) (e : AdmEntry) (w : WriteFault) : State :=
  let r := e.f 1 0 10
  s.admGuard e
    [(!s.crOf e.acting r, 1), ((Tab.get? s.crs r).any (fun x => x.state == .destroying || x.state == .halted), 6),
     (s.bound r ≠ 0, 2)] w
    (fun s => ({ s with crs := Tab.erase s.crs r }).admDone e 0 0 0 0 none w)

/-- CREATE_CONTEXT (R154): in the acting function's partition, with the minimum VC of its class (R159). -/
def State.doCreateCtx (s : State) (e : AdmEntry) (w : WriteFault) : State :=
  let n := e.acting
  let bg := bitOf (e.qw 1) 19
  s.admGuard e
    [(e.f 1 0 16 = 0 || (bitOf (e.qw 1) 16 && s.lacks 3), 5), (s.ctxMax n ≤ s.ctxUsed n || s.freeCtxId.isNone, 3)] w
    (fun s =>
      match s.freeCtxId, s.fnPart n with
      | some c, some t =>
        let ms := e.f 1 32 16
        let x : Ctx := { fn := n, part := t, share := e.f 1 0 16, det := bitOf (e.qw 1) 16, noSteal := bitOf (e.qw 1) 17,
                         noRotate := bitOf (e.qw 1) 18, background := bg, wdMs := if ms = 0 then 100 else ms, vc := s.vcMinOf bg }
        ({ s with ctxs := Tab.set s.ctxs c x, wd := Tab.set s.wd c 0 }).admDone e 0 0 c 0 none w
      | _, _ => s)

/-- DESTROY_CONTEXT: its events are abandoned and its semaphore holdings leak before the completion; IN_USE also while PENDING
is set and a table names it (R169). -/
def State.doDestroyCtx (s : State) (e : AdmEntry) (w : WriteFault) : State :=
  let c := e.f 1 0 10
  s.admGuard e
    [(!s.ctxOf e.acting c, 1), (s.ctxInTd c, 6),
     (s.sqs.any (fun x => x.2.ctx == c) || (s.cyc.pending.isSome && s.tableNames c), 2)] w
    (fun s => ((s.ctxsGone [c]).freeCtx c).admDone e 0 0 0 0 none w)

/-- SET_SHARE (R159). -/
def State.doSetShare (s : State) (e : AdmEntry) (w : WriteFault) : State :=
  let c := e.f 1 0 10
  let v := e.f 1 16 16
  s.admGuard e [(v = 0, 5), (!s.ctxOf e.acting c, 1), (s.ctxInTd c, 6)] w
    (fun s => (s.updCtx c (fun x => { x with share := v })).admDone e 0 0 0 0 none w)

/-- BIND_EVENTS and, with UNBIND, its opposite (R133). -/
def State.doBind (s : State) (e : AdmEntry) (unbind : Bool) (w : WriteFault) : State :=
  let first := e.f 1 0 16
  let n := e.f 1 16 17
  let part := s.fnPart e.acting
  let is := (List.range n).map (· + first)
  s.admGuard e
    [(n = 0 || 65536 < n || 65536 < first + n, 5),
     (s.events.any (fun v => first ≤ v.1 && v.1 < first + n && some v.2.part != part), 2)] w
    (fun s =>
      match part with
      | some t =>
        let s := if unbind then ((s.events.filter (fun v => first ≤ v.1 && v.1 < first + n)).map (·.1)).foldl State.unbindEvent s
          else is.foldl (State.bindEvent · t (e.qw 2)) s
        s.admDone e 0 0 0 0 none w
      | none => s)

/-! ## QUERY (Table 02-10) -/

/-- The block of an SQ. DESIGN CHOICE (log 166): Table 02-10 names the fields of qword 0 without their bits; they stand as in
QS_SQ_STATE. -/
def State.sqWord (x : Sq) : Word :=
  mkWord [(0, 3, x.state.code), (3, 6, x.fn), (9, 10, x.ctx), (19, 10, x.cr), (29, 8, x.poll), (37, 3, x.depth - 1),
    (40, 1, b2n x.irq), (41, 11, x.dbSlot)]

/-- Qword 0 of a CR. DESIGN CHOICE (log 166): its fields stand as in QS_CR_STATE. -/
def State.crWord (s : State) (r : Nat) (x : Cr) : Word :=
  mkWord [(0, 3, x.state.code), (3, 6, x.fn), (9, 5, x.log2), (14, 17, x.reserved), (31, 13, s.bound r)]

/-- SELECT 0. DESIGN CHOICE (log 118): the effective interval of an SQ that is never polled reads as 0. -/
def State.queryBlockSq (s : State) (q : Nat) (x : Sq) : List Word :=
  [State.sqWord x, mkWord [(0, 32, x.pi.toNat), (32, 32, x.ci.toNat)], BitVec.ofNat 64 x.fetched.toNat,
   BitVec.ofNat 64 (s.flights.filter (fun f => f.2.sq == q)).length, BitVec.ofNat 64 x.retiredSeq,
   BitVec.ofNat 64 (if x.poll ≤ 224 then s.effNs x else 0), 0, 0]

/-- SELECT 1. -/
def State.queryBlockCr (s : State) (r : Nat) (x : Cr) : List Word :=
  [s.crWord r x, mkWord [(0, 32, x.pi.toNat), (32, 32, x.ci.toNat)], BitVec.ofNat 64 x.reserved,
   BitVec.ofNat 64 ((s.sqs.filter (fun q => q.2.cr == r)).foldl (fun n q => n + q.2.held.length) 0), 0, 0, 0, 0]

/-- IN_SLOT of a context: a real-time task of it runs in an instance. -/
def State.inSlot (s : State) (c : Nat) : Bool := s.tasks.any (fun t => t.2.ctx == c && t.2.rt.isSome && t.2.phase == .running)

/-- The accounting record of a context (Table 05-2). -/
def State.acctRec (s : State) (c : Nat) (x : Ctx) : List Word :=
  let ns (k : Cls) : Nat := nth x.engNs k.idx 0
  [mkWord [(0, 16, x.share), (16, 6, x.fn), (22, 3, x.part), (25, 1, b2n x.det), (26, 1, b2n x.noSteal), (27, 1, b2n x.noRotate),
     (28, 1, b2n x.background), (29, 1, b2n (s.ctxActive c)), (30, 1, b2n (s.inSlot c)), (32, 32, ns .comp / 1000000)],
   x.vc, BitVec.ofNat 64 x.waitNs, mkWord [(0, 36, min x.waitMax (2 ^ 36 - 1)), (36, 28, x.preempts)],
   BitVec.ofNat 64 (ns .cores), mkWord [(0, 32, ns .tiler / 1000), (32, 32, ns .dma / 1000)],
   mkWord [(0, 32, ns .link / 1000), (32, 32, ns .gate / 1000)],
   mkWord [(0, 48, x.nj / 1000), (48, 16, min x.preLate 65535)]]

/-- Counts and quotas of a function (Table 09-1). -/
def State.queryBlockFn (s : State) (n : Nat) : List Word :=
  let t := fld (s.reg .VXB_FN_CFG n) 0 3
  let a := bitOf (s.reg .VXB_FN_CFG n) 3
  [mkWord [(0, 6, n), (6, 3, t), (9, 1, b2n a), (10, 1, b2n (s.rb .ADM_STAT n 0 2))],
   mkWord [(0, 16, s.sqUsed n), (16, 16, s.sqMax n), (32, 16, s.crUsed n), (48, 16, s.crMax n)],
   mkWord [(0, 16, s.ctxUsed n), (16, 16, s.ctxMax n), (32, 16, 2048 - s.sqUsed n - s.crUsed n)],
   mkWord [(0, 16, 4096 - s.sqs.length), (16, 16, 1024 - s.crs.length), (32, 16, 1024 - s.ctxs.length)],
   mkWord [(0, 48, if a then s.ownedMask 0 t else 0)],
   mkWord [(0, 16, if a then s.ownedMask 1 t else 0), (16, 8, if a then s.ownedMask 2 t else 0)], 0, 0]

/-- The block that QUERY writes, or none where the object does not exist or belongs to another function. -/
def State.queryBlock (s : State) (n sel obj : Nat) : Option (List Word) :=
  match sel with
  | 0 => (Tab.get? s.sqs obj).bind (fun x => if x.fn == n then some (s.queryBlockSq obj x) else none)
  | 1 => (Tab.get? s.crs obj).bind (fun x => if x.fn == n then some (s.queryBlockCr obj x) else none)
  | 2 => (Tab.get? s.ctxs obj).bind (fun x => if x.fn == n then some (s.acctRec obj x) else none)
  | _ => some (s.queryBlockFn n)

/-- A refusal code that no rule chooses: 1 to 7, otherwise free. -/
def State.freeCode (s : State) : Nat × State := let (d, s) := s.draw; (1 + d % 7, s)

/-- QUERY: the block is written to DEST before the completion. Where that write faults the spec gives no result: RESULT is a
free refusal code. -/
def State.doQuery (s : State) (e : AdmEntry) (destFaults : Bool) (w : WriteFault) : State :=
  let sel := e.f 1 0 8
  let obj := e.f 1 16 12
  let blk := s.queryBlock e.acting sel obj
  s.admGuard e [(3 < sel || (sel = 3 && obj ≠ 0) || (e.qw 2).toNat % 64 ≠ 0, 5), (blk.isNone, 1)] w
    (fun s =>
      if destFaults || s.refused (s.fnPart e.acting) (e.qw 2) 64 then
        let (c, s) := (s.noteRefused (s.fnPart e.acting) (e.qw 2) 64).freeCode
        s.admDone e 0 c 0 0 none w
      else (s.writeMem (s.forFn e.acting) (e.qw 2) (blk.getD [])).admDone e 0 0 0 0 none w)

/-! ## SET_CYCLIC (R168, R169) -/

/-- The validation and acceptance of an image of `n` slots; the result code comes back. Where the image cannot be read the spec
gives no result, and the code is a free refusal code. -/
def State.loadCyclic (s : State) (n : Nat) (image : Option (List Word)) : Nat × State :=
  match image with
  | none => s.freeCode
  | some img =>
    let tb := parseTable n img
    match s.tableFault n tb (cycHdrRsv img) ((imageEntries n (img.drop 8)).map slotRsv) with
    | some (c, i) => (5, s.rejectTable c i)
    | none => (0, s.acceptTable tb)

/-- SET_CYCLIC from F0's admin SQ: with OBO_EN it is not permitted (R82). -/
def State.doSetCyclic (s : State) (e : AdmEntry) (image : Option (List Word)) (w : WriteFault) : State :=
  if e.oboEn then s.admDone e 0 4 0 0 none w
  else
    s.admGuard e [] w (fun s =>
      let (c, s) := s.loadCyclic (e.f 2 0 9) image
      s.admDone e 0 c 0 0 none w)

/-! ## RESUME_CR (Table 02-13) and the resumption of an admin CR -/

/-- One of the writes of a resumption: it is made while the budget of writes that do not fault lasts,
unless the cipher refuses it. -/
def spend (refused : Bool) (b : Option Nat) : Bool × Option Nat :=
  if refused then (false, b) else
  match b with
  | some 0 => (false, some 0)
  | some (n + 1) => (true, some n)
  | none => (true, none)

/-- One completion of a resumption under R65: `true` when all its writes were made, the budget left, and the completion at the
stage it has reached. One kept because its sequence word faulted (stage 2) begins with that write. -/
def State.resumeCpl (s : State) (c : Nat) (p : Cpl) (b : Option Nat) : (Bool × Option Nat) × Cpl × State :=
  match Tab.get? s.sqs p.sq, Tab.get? s.crs c with
  | some _, some r =>
    let (ok0, b) := if p.stage = 0 then spend (s.refused (s.fnPart r.fn) r.slot 32) b else (true, b)
    if !ok0 then ((false, b), p, s)
    else
      let s := if p.stage = 0 then
          let s := s.writeMem (s.forSq p.sq) r.slot p.entry
          (s.updCr c (fun r => { r with pi := r.pi + 1, reserved := r.reserved - 1 })).count 267 1 (s.forSq p.sq).who
        else s
      let p1 := if p.stage = 0 then { p with stage := 1 } else p
      let shadow := p1.stage = 1 && r.piShadow ≠ 0
      let (ok1, b) := if shadow then spend (s.refused (s.fnPart r.fn) r.piShadow 8) b else (true, b)
      if !ok1 then ((false, b), p1, s)
      else
        let pi := match Tab.get? s.crs c with | some r => r.pi | none => 0
        let s := if shadow then s.writeMem (s.forSq p.sq) r.piShadow [pi.setWidth 64] else s
        let (adv, s) := if p1.stage = 2 then (true, s) else s.retireSeq p.sq p.seq
        let (ok2, b) := if adv then spend (s.seqRefused p.sq) b else (true, b)
        if !ok2 then ((false, b), { p1 with stage := 2 }, s)
        else
          let s := s.when adv (fun s => s.seqWord p.sq)
          ((true, b), p1, s.when p.irqDue (fun s => s.raiseEntry r.fn r.irqSrc))
  | _, _ => ((true, b), p, s)

/-- The completion of a submission that waits on CR space, decided when it began to wait. -/
def State.waitingCpl (s : State) (x : Flight) : Cpl :=
  let q := Tab.get? s.sqs x.sq
  let e := x.ending.getD { status := 0, off := 0, layer := 0, op := 0, at0 := s.now }
  let res : Word := if e.status = 0 then (if x.marker then x.arg else nth x.c 0 0) else BitVec.ofNat 64 e.off
  { sq := x.sq, seq := x.seq, irqDue := x.irqForce || q.any (·.irq),
    entry := cplEntry x.tag x.sq e.status e.at0 e.layer e.op res }

/-- The held completions of an SQ, then its waiting retirements, at most `n` writes of completions; `true` while none
faulted. A retirement that a teardown holds gets its status from that (R267). -/
def State.resumeSq (s : State) (c q : Nat) (b : Option Nat) : Nat → (Bool × Option Nat) × State
  | 0 => ((true, b), s)
  | n + 1 =>
    match Tab.get? s.sqs q with
    | none => ((true, b), s)
    | some x =>
      match x.held with
      | p :: rest =>
        let (r, p', s) := (s.updSq q (fun x => { x with held := rest })).resumeCpl c p b
        if r.1 then s.resumeSq c q r.2 n
        else (r, s.updSq q (fun x => { x with held := p' :: x.held }))
      | [] =>
        let waits (f : Flight) : Bool := match f.wait with
          | some w => (match w.kind with | .crSpace k => k == c && !f.inTeardown | _ => false)
          | none => false
        match (s.flightsInOrder q).filter (fun e => waits e.2) with
        | (i, f) :: _ =>
          let (r, p', s) := (s.dropFlight i).resumeCpl c (s.waitingCpl f) b
          if r.1 then s.resumeSq c q r.2 n
          else (r, s.updSq q (fun x => { x with held := [p'] }))
        | [] =>
          let (ok, b) := spend (s.seqRefused q) b
          if ok then ((true, b), s.seqWord q) else ((false, b), s)

/-- Step 1 of Table 02-13 over the bound SQs in ID order. -/
def State.resumeAll (s : State) (c : Nat) : List Nat → Option Nat → Bool × State
  | [], _ => (true, s)
  | q :: r, b =>
    let n := ((Tab.get? s.sqs q).map (fun x => x.held.length)).getD 0 + (s.flights.filter (fun e => e.2.sq == q)).length + 1
    let (k, s) := s.resumeSq c q b n
    if k.1 then s.resumeAll c r k.2 else (false, s)

/-- RESUME_CR; `faultAfter` is the number of the writes of step 1 that are made before one faults, none if all are made. DESIGN
CHOICE (log 118): a polled SQ that it returns to ACTIVE falls due at once; one that is never polled, and F0's admin SQ, wait for a doorbell
(log 164). -/
def State.doResumeCr (s : State) (e : AdmEntry) (faultAfter : Option Nat) (w : WriteFault) : State :=
  let c := e.f 1 0 10
  s.admGuard e [((Tab.get? s.crs c).any (fun x => x.fn == e.acting && x.state != .held), 5), (!s.crOf e.acting c, 1)] w
    (fun s =>
      let qs := (s.sqs.filter (fun q => q.2.cr == c)).map (·.1)
      let (ok, s) := s.resumeAll c qs faultAfter
      if !ok then s.admDone e 0 7 0 0 none w
      else
        let s := s.updCr c (fun r => { r with state := .active })
        let s := { s with sqs := Tab.mapV s.sqs (fun (x : Sq) =>
          if x.cr == c && x.state == QState.held then { x with state := .active, due := s.ref } else x) }
        s.admDone e 0 0 0 0 none w)

/-- The completions kept for a held admin CR are written in order, at most `k` of them; where a write faults again the rest stays
kept. -/
def State.resumeAdm (s : State) (n : Nat) (b : Option Nat) : Nat → State
  | 0 => s
  | k + 1 =>
    match Tab.getD s.admHeld n [] with
    | [] => ({ s with admHeld := Tab.erase s.admHeld n }).setB .ADM_STAT n 0 1 false
    | e :: r =>
      let (ok, b) := spend (s.admRefused n) b
      if !ok then s
      else
        let s := { s with admHeld := Tab.set s.admHeld n r }
        let s := if n = 0 then { s with adm := { s.adm with reserved := s.adm.reserved - 1 } } else s
        (s.putAdm n e).resumeAdm n b k

/-- A held admin CR is resumed (ADM_CFG.RESUME): the completions kept for it are written and HELD clears. `b` is the number of
writes that are made before one faults, none if all are made; after a fault the entries already written stay written and the CR
stays held (R92). -/
def State.adminResume (s : State) (n : Nat) (b : Option Nat) : State :=
  if !s.rb .ADM_STAT n 0 1 || s.rb .ADM_STAT n 0 2 then s
  else s.resumeAdm n b ((Tab.getD s.admHeld n []).length + 1)

end Sys2Proof.Machine
end

