-- ==== Sys2Proof/Machine/RegRead.lean ====
section
/-! DEFINITION. Reads of registers (chapters 00, 15 and 16): the value of every register, those that show other state computed
from it, the capability lists, and the accesses that R464 to R467 and R9 to R11 accept, with what a read does. -/

namespace Sys2Proof.Machine

/-! ## Values computed on a read -/

/-- A slot's first doorbell register (DB_SQ_PI or DB_CR_PI). -/
def State.dbPi (s : State) (n slot : Nat) : Word :=
  match s.sqAt n slot with
  | some (_, x) => BitVec.ofNat 64 x.pi.toNat
  | none =>
    match s.crAt n slot with
    | some (_, c) => mkWord [(0, 32, c.pi.toNat), (32, 1, b2n (c.state == .held))]
    | none => 0

/-- A slot's second doorbell register (DB_SQ_STAT or DB_CR_CI). -/
def State.dbStat (s : State) (n slot : Nat) : Word :=
  match s.sqAt n slot with
  | some (_, x) => mkWord [(0, 32, x.ci.toNat), (32, 3, x.state.code), (35, 1, b2n x.badPi)]
  | none =>
    match s.crAt n slot with
    | some (_, c) => mkWord [(0, 32, c.ci.toNat), (32, 1, b2n c.badCi)]
    | none => 0

/-- EV_INFO of the selected event. -/
def State.evInfo (s : State) : Word :=
  match Tab.get? s.events (s.rf .EV_SEL 0 0 0 16) with
  | none => 0
  | some e =>
    let rc := e.recorder.getD (0, 0)
    mkWord [(0, 1, 1), (1, 3, e.part), (4, 1, b2n e.abandoned), (5, 1, b2n e.recorder.isSome), (6, 10, rc.1),
      (16, 16, min 65535 e.waiters.length), (32, 16, e.proxies.foldl (fun m w => m ||| 2 ^ w.1) 0), (48, 4, rc.2)]

/-- EV_STAT. -/
def State.evStat (s : State) : Word :=
  let ws := s.flights.filter (fun e => match e.2.wait with
    | some w => (match w.kind with | .event _ _ => true | _ => false)
    | none => false)
  mkWord [(0, 17, s.events.length), (32, 14, ws.length), (48, 15, s.proxyUsed)]

/-- EV_SEM_CFG of a semaphore. -/
def State.semCfg (s : State) (i : Nat) : Word :=
  let m := s.semOf i
  mkWord [(0, 32, m.value), (32, 3, m.part), (35, 1, b2n m.bound), (36, 1, b2n m.ovf), (37, 1, b2n m.refused), (40, 8, m.leaked),
    (48, 12, min 4095 m.queue.length)]

/-- SCH_MQ_STAT. -/
def State.mqStat (s : State) : Word :=
  let waits := s.flights.filter (fun e => e.2.wait.any (fun w => w.kind == .maquette))
  mkWord [(0, 7, s.mqSlots.length + s.hints.length), (8, 7, s.hints.length), (16, 6, (s.cores.filter (fun c => c.bank.isSome)).length),
    (32, 14, waits.length)]

/-- SCH_LANE_STAT. -/
def State.laneStat (s : State) : Word :=
  mkWord [(0, 8, s.lanes.foldl (fun m e => m ||| 2 ^ e.1) 0), (16, 7, min 127 s.due.length), (32, 32, s.launches)]

/-- SCH_CORE_STATE of a core. -/
def State.coreState (s : State) (p : Nat) : Word :=
  let c := nth s.cores p {}
  let run := c.run.bind (fun r => (Tab.get? s.tasks r.task).map (fun t => (r, t)))
  let bank := c.bank.bind (fun k => Tab.get? s.tasks k)
  let gath := bank.any (fun t => t.phase == .gathering)
  mkWord [(0, 1, b2n c.present), (1, 1, b2n c.owner.isSome), (2, 3, c.owner.getD 0), (5, 1, b2n c.reserved.isSome),
    (6, 1, b2n c.run.isSome), (7, 1, b2n (bank.isSome && !gath)), (8, 1, b2n gath), (9, 1, b2n c.moving),
    (10, 13, (run.map (fun x => x.2.f)).getD 0), (23, 13, if gath then 0 else (bank.map (·.f)).getD 0),
    (36, 6, (run.map (fun x => x.1.rank)).getD 0), (42, 6, ((run.map (fun x => x.2.setn)).getD 1) - 1)]

/-- The step in progress in the table of a sequence (Tables 08-3, 02-12, 09-6, 09-7, 01-4): the drain, and the acknowledgements
once everything that still runs has been squashed. -/
def State.tdShown (s : State) (d : Td) : Nat :=
  if d.step ≠ 2 then d.step
  else
    match d.kind with
    | .removal => 2
    | .hostLoss => 3
    | .autotomy => if d.cut.isEmpty then 2 else 3
    | .destroySq => if d.cut.isEmpty then 2 else 3
    | _ => if !d.cut.isEmpty && (s.tdFns d).all (fun n => d.cut.contains n || s.fnIdle n) then 3 else 2

/-- ERR_TEARDOWN of an entry. -/
def State.tdWord (s : State) (j : Nat) : Word :=
  match s.td.find? (fun d => d.has && d.slot == j) with
  | none => 0
  | some d => mkWord [(0, 3, d.kind.code), (3, 3, s.tdShown d), (6, 12, d.obj), (18, 24, min (2 ^ 24 - 1) ((s.ref - d.entered) / 1000))]

/-- The context that OBS_CTX_SEL of a function selects, if the function may read it (R402). -/
def State.ctxShown (s : State) (n : Nat) : Option Ctx :=
  (Tab.get? s.ctxs (s.rf .OBS_CTX_SEL n 0 0 10)).bind (fun c => if n = 0 || c.fn == n then some c else none)

/-- The customer routines that a CALL may name (MCS_RTN.LOADED), by word of MCS_RTN_MAP. -/
def State.rtnMap (s : State) (k : Nat) : Word :=
  mkWord ((List.range 64).map (fun b => (b, 1, b2n (if 64 * k + b < 64 then decide (64 * k + b < 11) else s.rb .MCS_RTN (64 * k + b) 0 28))))

/-- The weight gate's running LOAD_WEIGHTS. -/
def State.gateTask (s : State) : Option Task :=
  (Tab.getD s.engs (engNo .gate 0) {}).runs.head?.bind (fun r => Tab.get? s.tasks r.task)

/-- A privileged counter (Table 13-1), or a programmable one that selects one (R400). -/
def State.privileged (s : State) (i : Nat) : Bool :=
  let p (k : Nat) : Bool := (144 ≤ k && k < 160) || (168 ≤ k && k < 176)
  if i < 512 then p i else p (s.rf .OBS_PCFG (i - 512) 0 0 9)

/-- The word of a register for a reader, before the access codes act. In the function window `i` is the function. -/
def State.regVal (s : State) (mgmt : Bool) (r : Reg) (i j : Nat) : Word :=
  let w := s.reg r i j
  match r with
  | .DB_PI => s.dbPi i j
  | .DB_STAT => s.dbStat i j
  | .ADM_VF_PI_CI => mkWord [(0, 32, s.rf .ADM_SQ_PI i 0 0 32), (32, 32, s.rf .ADM_SQ_CI i 0 0 32)]
  | .ADM_VF_SQ_BASE => s.reg .ADM_SQ_BASE i ||| mkWord [(0, 4, s.rf .ADM_CFG i 0 0 4), (4, 1, s.rf .ADM_CFG i 0 16 1)]
  | .QS_STRETCH => BitVec.ofNat 64 s.stretch
  | .QS_DEMAND => BitVec.ofNat 64 s.demandK
  | .QS_FLIGHT => mkWord [(0, 14, s.flights.length), (16, 12, s.waiters.length)]
  | .QS_CR_STATE => ((Tab.get? s.crs i).map (s.crWord i)).getD 0
  | .QS_SQ_STATE => ((Tab.get? s.sqs i).map State.sqWord).getD 0
  | .EV_SEM_CFG => s.semCfg i
  | .EV_VALUE => ((Tab.get? s.events (s.rf .EV_SEL 0 0 0 16)).map (·.value)).getD 0
  | .EV_INFO => s.evInfo
  | .EV_STAT => s.evStat
  | .SCH_STAT => mkWord [(0, 11, (s.classVcs false none).length), (16, 11, (s.classVcs true none).length)]
  | .SCH_VC_MIN => s.vcMinOf false
  | .SCH_VC_MIN_BG => s.vcMinOf true
  | .SCH_CTX_ACCT =>
    let c := s.rf .SCH_CTX_SEL 0 0 0 10
    ((Tab.get? s.ctxs c).map (fun x => nth (s.acctRec c x) i 0)).getD 0
  | .CYC_STAT =>
    putFld (putFld (putFld w 0 1 (b2n s.cyc.table.isSome)) 1 1 (b2n s.cyc.pending.isSome)) 25 8 (s.slots.length - 1)
  | .CYC_NEXT_START => BitVec.ofNat 64 s.nextStart
  | .CYC_SLOT_CNT =>
    let c := s.slotCnt (s.rf .CYC_SLOT_SEL 0 0 0 8)
    mkWord ((List.range 4).map (fun k => (16 * k, 16, min 65535 (nth c.out k 0))))
  | .CYC_SLOT_ADMIT =>
    let c := s.slotCnt (s.rf .CYC_SLOT_SEL 0 0 0 8)
    mkWord [(0, 32, min (2 ^ 32 - 1) c.deferred), (32, 32, min (2 ^ 32 - 1) c.rejected)]
  | .CYC_SLOT_ENERGY =>
    let c := s.slotCnt (s.rf .CYC_SLOT_SEL 0 0 0 8)
    mkWord [(0, 32, min (2 ^ 32 - 1) c.lastUj), (32, 32, min (2 ^ 32 - 1) c.overCnt)]
  | .GOV_STAT => putFld (putFld w 5 1 (b2n s.alarmIn)) 8 3 s.gov.rung
  | .GOV_ALARM_CFG => putFld w 1 1 (b2n s.alarmIn)
  | .GOV_CORR => let c := s.corrOf (s.rf .GOV_CORR_SEL 0 0 0 12); mkWord [(0, 16, c.1), (16, 32, min (2 ^ 32 - 1) c.2)]
  | .GOV_LEDGER => BitVec.ofNat 64 (s.gov.totalNj / 1000)
  | .GOV_UNATTR => BitVec.ofInt 64 (s.gov.unattrNj / 1000)
  | .GOV_PRICE_TAB =>
    ((s.gov.tab[i]?).map (fun p => mkWord [(0, 16, to16 p.headroom), (16, 16, p.price), (32, 4, p.ceil)])).getD 0
  | .GOV_RUNG => putFld (putFld (putFld w 0 3 s.gov.rung) 3 3 s.deepest) 6 4 s.limitBits
  | .SCH_MQ_STAT => s.mqStat
  | .SCH_LANE_STAT => s.laneStat
  | .SCH_CORE_STATE => s.coreState i
  | .ERR_STAT =>
    putFld (putFld w 16 5 (s.td.filter (fun d => d.has)).length) 21 11 (s.td.filter Td.waits).length
  | .ERR_TEARDOWN => s.tdWord i
  | .FN_ID => mkWord [(0, 6, i), (6, 4, fld (s.reg .VXB_FN_CFG i) 0 4), (16, 4, s.node)]
  | .FN_STAT => mkWord [(0, 1, b2n (s.resetting i)), (1, 1, s.rf .ADM_STAT i 0 2 1), (2, 1, fld w 2 1)]
  | .VXB_FN_CFG => putFld w 5 1 (b2n (s.resetting i))
  | .VXB_PART_PAGES => BitVec.ofNat 64 (min (2 ^ 32 - 1) (s.pagesIn i j))
  | .SEC_STAT =>
    let free := ((List.range 47).filter (fun k => s.slotType (16 + k) = 0)).length
    let hosts := (s.sec.sessions.filter (fun x => x.finished && x.peer != .mgmt)).length
    putFld (putFld (putFld (putFld w 4 1 (b2n s.keyWaits)) 8 6 free) 16 4 hosts) 20 1 (b2n (s.inSession .mgmt))
  | .SEC_MGMT => putFld w 0 1 (b2n (s.inSession .mgmt))
  | .SEC_FN_MBOX_CTL => putFld w 29 1 (b2n (s.inSession (.host i)))
  | .SEC_FN_KEYS => mkWord ((s.fnKeys i).map (fun k => (k, 1, 1)))
  | .WG_STAT =>
    (match s.gateTask with
     | some t => putFld (putFld (putFld w 0 1 1) 1 6 t.keySlot) 8 24 t.gate.chunk
     | none => putFld w 0 8 0)
  | .TML_TIME => BitVec.ofNat 64 s.now
  | .TML_XFER => putFld (putFld w 0 6 s.tml.xfers.length) 6 10 s.tml.inb.length
  | .TML_E2E =>
    putFld w 16 16 (s.tasks.filter (fun e => s.lacksCredit e.2 && e.2.w 3 / 2 ^ 40 % 16 == i)).length
  | .IRQ_CLAIM => s.claimVal i
  | .IRQ_PEND => s.irqPend i
  | .IRQ_VMAP => if j = 63 then mkWord [(0, 9, 64 + i), (9, 1, 1)] else s.reg .IRQ_MAP i j
  | .OBS_CNT => if !mgmt && s.privileged i then 0 else w
  | .OBS_SHADOW => if !mgmt && s.privileged i then 0 else w
  | .OBS_CTX_SEL => putFld w 16 1 (b2n (s.ctxShown i).isNone)
  | .OBS_CTX_SEQ => BitVec.ofNat 64 (s.rf .OBS_FREEZE_STAT 0 0 0 16)
  | .OBS_CTX_LIVE => ((s.ctxShown i).map (fun c => nth c.cnt j 0)).getD 0
  | .OBS_CTX_SHADOW => ((s.ctxShown i).map (fun c => nth c.shadow j 0)).getD 0
  | .TRC_FN_RING =>
    (match s.fnPart i with
     | some t => s.reg .TRC_RING_BASE t ||| mkWord [(6, 1, s.rf .TRC_RING_CFG t 0 5 1), (0, 5, s.rf .TRC_RING_CFG t 0 0 5)]
     | none => 0)
  | .TRC_FN_PI => ((s.fnPart i).map (fun t => s.reg .TRC_RING_PI t)).getD 0
  | .TRC_FN_CI => ((s.fnPart i).map (fun t => s.reg .TRC_RING_CI t)).getD 0
  | .MCS_RTN_MAP => s.rtnMap i
  | .VXB_CAP_PTR => if s.ready then 0x2000 else 0
  | .FN_CAP_PTR => if s.ready && (s.fnPart i).isSome then 0x100 else 0
  | _ => w

/-! ## The capability lists (R460, R461, R466, Table 15-7) -/

/-- The nodes of a list, as ID and body: of the node, or of a function of partition `t`. -/
def State.capNodes (s : State) (t : Option Nat) : List (Nat × List Word) :=
  let w (fs : List (Nat × Nat × Nat)) : Word := mkWord fs
  let cores := match t with | some t => s.ownedMask 0 t | none => (s.reg .SCH_CORE_PRESENT).toNat
  let chans := match t with | some t => s.ownedMask 2 t | none => s.start.mem.toNat
  let cnt (c : Cls) : Nat := (s.physOf c).length
  let meters := 49 - ((s.start.fuses.map (fun f => popCount f.coresOff.toNat)).getD 0)
  let mhz (k : Nat) : Nat := (nth s.gov.vf k (0, 0)).1
  let mhz4 (b : Nat) : Word := w ((List.range 4).map (fun i => (16 * i, 16, mhz (b + i))))
  let loaded := ((List.range 192).filter (fun r => s.rb .MCS_RTN (64 + r) 0 28)).length
  let key := s.start.plinth.any (fun p => p.customerEn)
  let has (k : Nat) (n : Nat × List Word) : List (Nat × List Word) := if s.lacks k then [] else [n]
  [(0x1, [w [(0, 8, popCount cores), (8, 8, cnt .tiler), (16, 8, cnt .dma), (24, 8, cnt .link), (32, 1, cnt .comp), (33, 1, cnt .gate),
            (40, 8, popCount chans)], w [(0, 48, cores)], w [(0, 8, chans)]]),
   (0x2, [w [(0, 16, 4096), (16, 16, 1024), (32, 16, 1024), (48, 16, 8192)], w [(0, 8, 16), (8, 8, 8), (16, 16, 2048), (32, 16, 2048)]]),
   (0x3, [w [(0, 32, 65536), (32, 16, 4096), (48, 16, 16384)], w [(0, 4, s.node)]]),
   (0x4, [w [(0, 16, 256), (16, 3, if s.lacks 0 then 3 else 7)], 100000, 1000000000]),
   (0x5, [w [(0, 5, s.gov.vf.length), (8, 8, meters), (16, 8, 64), (24, 8, 16), (32, 4, 0xF)], mhz4 0, mhz4 4, mhz4 8, mhz4 12]),
   (0x6, [w [(0, 3, 5)], 150, 1500, 15000, 150000, 1500000])]
  ++ has 0 (0x7, [s.reg .TML_CFG, w [(0, 32, s.rf .VXB_ID 0 0 16 32)]])
  ++ [(0x8, [w [(0, 3, s.start.log2c - 30), (8, 8, 64), (16, 8, 47)], s.start.apBase, BitVec.ofNat 64 (s.chPages * 4096)])]
  ++ has 1 (0x9, [w [(0, 16, 4), (16, 32, Config.vendorId)], w [(0, 32, 65536)]])
  ++ has 5 (0xA, [w [(0, 16, 0x7FF), (16, 4, 4), (20, 1, 1)]])
  ++ has 6 (0xB, [w [(0, 4, 9), (8, 5, 7), (16, 5, 20), (24, 4, 8)]])
  ++ has 2 (0xC, [w [(0, 16, 4096), (16, 8, loaded), (24, 1, b2n key), (25, 1, s.rf .MCS_VERSION 6 0 1 1)]])
  ++ has 3 (0xD, [1])
  ++ has 4 (0xE, [w [(0, 4, 4), (4, 4, 4), (8, 8, 0x77), (16, 16, 1024), (32, 16, 8192), (48, 16, 4352)]])

/-- The qwords of a list: each node's header, with the distance to the next, then its body. -/
def capWords : List (Nat × List Word) → List Word
  | [] => []
  | n :: r =>
    mkWord [(0, 16, n.1), (16, 8, 1), (24, 8, if r.isEmpty then 0 else n.2.length + 1)] :: n.2 ++ capWords r

/-- The qword of a capability list at an 8-byte-aligned offset of a window. -/
def State.capAt (s : State) (win : Window) (off : Nat) : Option Word :=
  if !s.ready then none
  else
    match win with
    | .glob => if 0x2000 ≤ off then (capWords (s.capNodes none))[(off - 0x2000) / 8]? else none
    | .own n =>
      match s.fnPart n with
      | some t => if 0x100 ≤ off && off < 0xE00 then (capWords (s.capNodes (some t)))[(off - 0x100) / 8]? else none
      | none => none

/-! ## Accesses -/

/-- The 64-bit doorbell registers have no field tables of their own here; every bit of their word is readable. -/
def State.readWord (s : State) (mgmt : Bool) (r : Reg) (i j : Nat) : Word :=
  match r with
  | .DB_PI => s.dbPi i j
  | .DB_STAT => s.dbStat i j
  | _ => accRead r.spec.fields (s.regVal mgmt r i j)

/-- The value of EV_FN_VALUE for a function, whether the event is ABANDONED, and whether the read is refused (R136). `remote` is
what a remote home answers; without it that value is free. -/
def State.evFnValue (s : State) (n : Nat) (remote : Option RemoteVal) : Word × Bool × Bool :=
  let h : Half := BitVec.ofNat 32 (s.rf .EV_FN_HANDLE n 0 0 32)
  if !evWellFormed h || (s.fnPart n).isNone then (0, false, true)
  else if evNode h == s.node then
    match Tab.get? s.events (evIdx h) with
    | some e => if s.fnPart n == some e.part then (e.value, e.abandoned, false) else (0, false, true)
    | none => (0, false, true)
  else if !s.nodeLive (evNode h) then (0, false, true)
  else
    match remote with
    | some (.value v a) => (v, a, false)
    | some .unbound => (0, false, true)
    | some .lost => (0, false, true)
    | none => (BitVec.ofNat 64 (Config.free s.fresh), Config.free (s.fresh + 1) % 2 == 1, false)

/-- What a full-width read does beside returning its value: RC fields clear (R10), IRQ_CLAIM claims (R389), EV_FN_VALUE latches
(R136). -/
def State.afterRead (s : State) (r : Reg) (i j : Nat) (remote : Option RemoteVal) : State :=
  match r with
  | .IRQ_CLAIM => s.claim i
  | .EV_FN_VALUE =>
    let v := s.evFnValue i remote
    let s := s.setB .EV_FN_CTL i 0 2 v.2.1
    let s := s.when v.2.2 (fun s => s.setB .EV_FN_CTL i 0 3 true)
    { s with fresh := s.fresh + 2 }
  | .EV_SEM_CFG => if (s.semOf i).leaked = 0 then s else s.setSem i { s.semOf i with leaked := 0 }
  | .CYC_SLOT_CNT => s.updCnt (s.rf .CYC_SLOT_SEL 0 0 0 8) (fun c => { c with out := [0, 0, 0, 0] })
  | .CYC_SLOT_ADMIT => s.updCnt (s.rf .CYC_SLOT_SEL 0 0 0 8) (fun c => { c with deferred := 0, rejected := 0 })
  | .CYC_SLOT_ENERGY => s.updCnt (s.rf .CYC_SLOT_SEL 0 0 0 8) (fun c => { c with overCnt := 0 })
  | _ =>
    if r.spec.fields.any (fun f => f.acc == .rc) then s.setReg r i j (accAfterRead r.spec.fields (s.reg r i j)) else s

/-- A register whose read the host target answers after a failed start or the double-fault halt (R283, R458). -/
def Reg.vxbErr (r : Reg) : Bool :=
  !r.spec.fnWin && (match r with
    | .VXB_HOST_LINK | .VXB_FLASH_MODE | .VXB_MGMT_STAT | .VXB_DOMAIN_STAT | .VXB_RESET_CAUSE | .VXB_DIN_CFG | .VXB_DIN_STAT
    | .VXB_DIN_TS | .VXB_DIN_EVT | .VXB_VF_EN | .VXB_FN_CFG | .VXB_FN_QUOTA | .VXB_PART_RES | .VXB_PART_CORES | .VXB_PART_REQ
    | .VXB_PART_REQ_STAT | .VXB_PART_PAGES | .VXB_ID | .VXB_CAP_PTR | .VXB_START_STAT | .VXB_PLINTH
    | .ERR_STAT | .ERR_CE | .ERR_REC | .ERR_CNT | .ERR_REGROW | .ERR_TEARDOWN | .ERR_INJECT => true
    | _ => false)

/-- The host target or the management session answers a read of a register at all (R283, R457, R458). -/
def State.mayRead (s : State) (who : Who) (r : Option Reg) : Bool :=
  match who with
  | .mgmt => s.inSession .mgmt
  | .fn _ =>
    if s.haltedAll || s.rb .VXB_START_STAT 0 0 4 then r.any Reg.vxbErr
    else if s.ready then true
    else s.soc && r.any (fun r => r == .VXB_ID || r == .VXB_START_STAT || r == .VXB_HOST_LINK)

/-- A window is within reach (R289, R465). -/
def State.reaches (s : State) (who : Who) (win : Window) : Bool :=
  match who, win with
  | .mgmt, .glob => true
  | .mgmt, .own n => s.fnPresent n
  | .fn m, .glob => m == 0
  | .fn m, .own n => m == n && s.fnPresent n

/-- Whether an access comes from the management session. -/
def byMgmt (w : Who) : Bool := match w with | .mgmt => true | .fn _ => false

/-- The register at an offset of a window, with its indices; the function comes first in the function window. -/
def regOf (win : Window) (off : Nat) : Option (Reg × Nat × Nat) :=
  match win with
  | .glob => regAt false off
  | .own n => (regAt true off).map (fun x => (x.1, n, x.2.1))

/-- A host access to a register is counted and wakes the processor (Table 13-1, R230, R231). -/
def State.hostTouch (s : State) (who : Who) (write : Bool) : State :=
  match who with
  | .mgmt => s
  | .fn n => if s.alive then (s.count (if write then 179 else 178) 1 (s.forFn n).who).hostWake else s

/-- A 32-bit read of one place: a 32-bit register with its effects, or a half of a 64-bit register or of a capability qword
without any (R9, R467). -/
def State.read32 (s : State) (who : Who) (win : Window) (off : Nat) (remote : Option RemoteVal) : Nat × State :=
  let half (w : Word) : Nat := if off % 8 = 0 then fld w 0 32 else fld w 32 32
  let wide (x : Reg × Nat × Nat) : Nat × State :=
    if s.mayRead who (some x.1) then
      let s := s.hostTouch who false
      let v := if x.1 == .EV_FN_VALUE then (s.evFnValue x.2.1 remote).1 else s.readWord (byMgmt who) x.1 x.2.1 x.2.2
      (half v, s)
    else (0, s)
  match regOf win off with
  | some x =>
    if x.1.spec.wide then wide x
    else if s.mayRead who (some x.1) then
      let s := s.hostTouch who false
      (fld (s.readWord (byMgmt who) x.1 x.2.1 x.2.2) 0 32, s.afterRead x.1 x.2.1 x.2.2 remote)
    else (0, s)
  | none =>
    match (if off % 8 = 4 then regOf win (off - 4) else none) with
    | some x => if x.1.spec.wide then wide x else (0, s)
    | none => if s.mayRead who none then (half ((s.capAt win (off / 8 * 8)).getD 0), s) else (0, s)

/-- A register read (R9, R464, R465, R467): its value and what it leaves behind. -/
def State.readAccess (s : State) (who : Who) (win : Window) (off bytes : Nat) (remote : Option RemoteVal) : Word × State :=
  if !s.reaches who win then (0, s)
  else if bytes = 4 && off % 4 = 0 then
    let r := s.read32 who win off remote
    (BitVec.ofNat 64 r.1, r.2)
  else if bytes = 8 && off % 8 = 0 then
    match regOf win off with
    | some x =>
      if x.1.spec.wide then
        if s.mayRead who (some x.1) then
          let s := s.hostTouch who false
          let v := if x.1 == .EV_FN_VALUE then (s.evFnValue x.2.1 remote).1 else s.readWord (byMgmt who) x.1 x.2.1 x.2.2
          (v, s.afterRead x.1 x.2.1 x.2.2 remote)
        else (0, s)
      else
        let a := s.read32 who win off remote
        let b := a.2.read32 who win (off + 4) remote
        (mkWord [(0, 32, a.1), (32, 32, b.1)], b.2)
    | none =>
      match s.capAt win off with
      | some v => (if s.mayRead who none then v else 0, s)
      | none =>
        let b := s.read32 who win (off + 4) remote
        (mkWord [(32, 32, b.1)], b.2)
  else (0, s)

/-- A register read that a command makes: the value leaves through the port that asked. -/
def State.readReg (s : State) (who : Who) (win : Window) (off bytes : Nat) (remote : Option RemoteVal) : State :=
  let r := s.readAccess who win off bytes remote
  r.2.emit (.regData who r.1)

end Sys2Proof.Machine
end

