-- ==== Sys2Proof/Machine/Plinth.lean ====
section
/-! DEFINITION. The plinth image as bytes (R451, R452): its header, its directory and its sections, the checks of R453 on their
layout, and the configuration that they hold. -/

namespace Sys2Proof.Machine

/-! ## Header and directory (Tables 15-1 and 15-2) -/

/-- A directory entry. -/
structure PSection where
  ty : Nat
  sver : Nat
  flags : Nat
  len : Nat
  off : Nat
  rsv : Nat
  deriving DecidableEq, Repr

/-- The header's check: MAGIC, FORMAT, SECTIONS and IMAGE_LEN, with the byte offset of the first that fails. -/
def plinthHeader (b : List Byte) : Option (Nat × Word) :=
  let n := leAt b 6 2
  let len := leAt b 8 4
  if leAt b 0 4 ≠ 0x5658504C then some (1, 0)
  else if leAt b 4 2 ≠ 1 then some (1, 4)
  else if n = 0 || 32 < n then some (1, 6)
  else if len < 1024 || 2097152 < len then some (1, 8)
  else none

/-- IMAGE_LEN. -/
def plinthLen (b : List Byte) : Nat := leAt b 8 4

/-- The directory. -/
def plinthDir (b : List Byte) : List PSection :=
  (chunks 16 (leAt b 6 2) (b.drop 64)).map (fun e =>
    { ty := leAt e 0 2, sver := leAt e 2 1, flags := leAt e 3 1, len := leAt e 4 4, off := leAt e 8 4, rsv := leAt e 12 4 })

/-- A section type of Table 15-3. -/
def PSection.known (d : PSection) : Bool := 1 ≤ d.ty && d.ty ≤ 13

/-- A directory entry that fails by itself in an image of a length with `n` entries (Table 15-2). -/
def PSection.bad (d : PSection) (len n : Nat) : Bool :=
  (if d.known then d.sver ≠ 1 else d.flags % 2 = 0) || 2 ≤ d.flags || d.rsv ≠ 0 || d.off % 8 ≠ 0 || d.off < 64 + 16 * n
  || len - 96 < d.off + d.len

/-- Two sections overlap or, being known, have one type (R452). -/
def PSection.clash (d e : PSection) : Bool :=
  (d.known && d.ty == e.ty) || (d.off < e.off + e.len && e.off < d.off + d.len)

/-- The sections that must be there. -/
def requiredSections : List Nat := [1, 2, 5, 6, 7, 8, 9]

/-- The header's reserved bytes and the directory: DETAIL of the first failure. -/
def plinthDirBad (b : List Byte) : Option Word :=
  let ds := plinthDir b
  match ((b.drop 16).take 48).findIdx? (· ≠ 0) with
  | some i => some (BitVec.ofNat 64 (16 + i))
  | none =>
    match (ds.zipIdx).find? (fun d => d.1.bad (plinthLen b) ds.length || (ds.take d.2).any (fun e => d.1.clash e)) with
    | some d => some (BitVec.ofNat 64 d.1.ty)
    | none => (requiredSections.find? (fun t => !ds.any (fun d => d.ty == t))).map (fun t => BitVec.ofNat 64 t)

/-- The bytes of a section that is there. -/
def plinthSec (b : List Byte) (ty : Nat) : Option (List Byte) :=
  ((plinthDir b).find? (fun d => d.ty == ty)).map (fun d => (b.drop d.off).take d.len)

/-- The qwords of a section, none where it is absent. -/
def plinthWords (b : List Byte) (ty : Nat) : List Word := (((plinthSec b ty).map leQwords).getD [])

/-! ## The layout of the sections (Table 15-3) -/

/-- Every byte from an offset on, `n` of them, is zero. -/
def zeroAt (b : List Byte) (off n : Nat) : Bool := ((b.drop off).take n).all (· = 0)

/-- KEYS: its length, its reserved bytes, and the keys that are not used. -/
def keysBad (b : List Byte) : Bool :=
  b.length ≠ 589 || 2 ≤ leAt b 98 1 || !zeroAt b 99 5
  || !zeroAt b (104 + 97 * leAt b 97 1) (97 * (4 - leAt b 97 1)) || (leAt b 98 1 = 0 && !zeroAt b 492 97)

/-- The qwords have no bit outside these masks. -/
def bitsIn (ws : List Word) (ms : List Word) : Bool := ws.length == ms.length && (ws.zip ms).all (fun e => e.1 &&& ~~~e.2 == 0)

/-- PARTITIONS. -/
def partitionsBad (b : List Byte) : Bool :=
  b.length ≠ 384 || !bitsIn (leQwords (b.take 128)) ((List.replicate 8 [0xFFFFFFFFFFFF, 0xFFFFFF]).flatten)
  || (chunks 4 64 (b.drop 128)).any (fun e => 16 ≤ leNum e)

/-- MODEL: 11 coefficients, the ambient temperature, and 64 node records of 32 bytes, the last of which is not used. DESIGN CHOICE
(log 152): the fields of a node record follow each other without gaps. -/
def modelLayoutBad (b : List Byte) : Bool := b.length ≠ 2096 || (chunks 32 64 (b.drop 48)).any (fun e => leAt e 31 1 ≠ 0)

/-- CYCLIC: EN and the count, the context records, SLOTS, and a table image of that many slots. -/
def cyclicBad (ws : List Word) : Bool :=
  let n := fld (nth ws 0 0) 8 6
  let k := nth ws (1 + n) 0
  nth ws 0 0 &&& ~~~(0x3F01 : Word) ≠ 0 || 32 < n || ((ws.drop 1).take n).any (fun r => fld r 36 28 ≠ 0) || fld k 9 55 ≠ 0
  || ws.length ≠ 10 + n + 8 * fld k 0 9

/-- The slot count and the table image of the CYCLIC section. -/
def cyclicTable (ws : List Word) : Option (Nat × List Word) :=
  let n := fld (nth ws 0 0) 8 6
  if ws.isEmpty then none else some (fld (nth ws (1 + n) 0) 0 9, ws.drop (2 + n))

/-- The lengths and reserved bits of the sections: the TYPE of the first that breaks its layout. Without the fabric feature the
FABRIC section is not looked at (Table 15-6). -/
def plinthLayout (b : List Byte) : Option Nat :=
  let ws (t : Nat) : List Word := plinthWords b t
  let len (t : Nat) : Nat := ((plinthSec b t).map List.length).getD 0
  let has (t : Nat) : Bool := (plinthSec b t).isSome
  let all : Word := BitVec.allOnes 64
  let bad (t : Nat) : Bool :=
    match t with
    | 1 => len 1 = 0 || 16384 < len 1
    | 2 => ((plinthSec b 2).map keysBad).getD true
    | 3 => has 3 && (len 3 % 48 ≠ 0 || len 3 = 0 || 3072 < len 3)
    | 4 => has 4 && !bitOf (nth (ws 12) 2 0) 0
             && (len 4 ≠ 24 || !bitsIn (ws 4) [0xFFFFFFFF000FFFFF, 0xFFFFFFFF, 0x3FFFFFFFFFF])
    | 5 => len 5 ≠ 48 || !bitsIn (ws 5) [all, 7, all, all, all, all]
    | 6 => ((plinthSec b 6).map partitionsBad).getD true
    | 7 => len 7 % 8 ≠ 0 || (ws 7).any (fun w => fld w 32 32 ≠ 0)
    | 8 => len 8 ≠ 184 || !bitsIn (ws 8) ([0x7FFFFFFFFF, 0xFF01F3] ++ List.replicate 16 0xFFFFFFFFF ++ List.replicate 5 0xFFFFFFFFFF)
    | 9 => ((plinthSec b 9).map modelLayoutBad).getD true
    | 10 => has 10 && (len 10 % 8 ≠ 0 || cyclicBad (ws 10))
    | 11 => has 11 && len 11 ≠ 8 + fld (nth (ws 11) 0 0) 0 32 + fld (nth (ws 11) 0 0) 32 32
    | 12 => has 12 && (len 12 ≠ 24 || !bitsIn (ws 12) [0xFFFFFFFFFFFF, 0xFF03FF, 0x7F])
    | 13 => has 13 && (len 13 ≠ 72 || !bitsIn (ws 13) (0x3FF :: List.replicate 8 all))
    | _ => false
  ((List.range 13).map (· + 1)).find? bad

/-! ## The configuration of an image -/

/-- A price point as GOV_PRICE_TAB holds it. -/
def pricePoint (w : Word) : PricePoint := { headroom := (BitVec.ofNat 16 (fld w 0 16)).toInt, price := fld w 16 16, ceil := fld w 32 4 }

/-- A node record of MODEL. -/
def thermNode (e : List Byte) : ThermNode :=
  { place := leAt e 0 1, c := leAt e 1 4, gAmb := leAt e 5 4, lGain := leAt e 9 4,
    neigh := ((chunks 3 6 (e.drop 13)).filter (fun x => leAt x 0 1 ≠ 255)).map (fun x => (leAt x 0 1, leAt x 1 2)) }

/-- The control-store images of the MCS section, each with its length. -/
def plinthImages (b : List Byte) (c : StartChecks) : Option (McsImage × Nat) × Option (McsImage × Nat) :=
  match plinthSec b 11 with
  | none => (none, none)
  | some m =>
    let p := leAt m 0 4
    let k := leAt m 4 4
    (if p = 0 then none else some (mcsImage ((m.drop 8).take p) c.patinaSigOk c.patinaDigest, p),
     if k = 0 then none else some (mcsImage ((m.drop (8 + p)).take k) c.customerSigOk c.customerDigest, k))

/-- The configuration that an image holds, with the defaults of Table 15-3 for the sections that are absent. -/
def plinthOf (b : List Byte) (c : StartChecks) : Plinth :=
  let ws (t : Nat) : List Word := plinthWords b t
  let q (t i : Nat) : Word := nth (ws t) i 0
  let byts (t : Nat) : List Byte := (plinthSec b t).getD []
  let misc := (plinthSec b 13).isSome
  { version := leAt b 12 4, imageLen := plinthLen b, digest := c.digest, idChain := byts 1,
    owners := leAt (byts 2) 97 1, customerEn := leAt (byts 2) 98 1 == 1, peersListed := (plinthSec b 3).isSome,
    tmlCfg := q 4 0, timeCal := (q 4 1).setWidth 32, epochCfg := q 4 2,
    apertureBase := q 5 0, log2c := fld (q 5 1) 0 3, launchArea := (q 5 2).toNat, graphArea := (q 5 3).toNat,
    brumArea := (q 5 4).toNat, uncoreBaseMw := (q 5 5).toNat,
    parts := (chunks 16 8 (byts 6)).map (fun e =>
      { cores := BitVec.ofNat 48 (leAt e 0 8), ways := BitVec.ofNat 16 (leAt e 8 2), channels := BitVec.ofNat 8 (leAt e 10 1) }),
    fns := (chunks 4 64 ((byts 6).drop 128)).map (fun e => (leNum e % 8, leNum e / 8 % 2 == 1)),
    vf := (ws 7).map (fun w => (fld w 0 16, fld w 16 16)),
    capSust := fld (q 8 0) 0 16, capPeak := fld (q 8 0) 16 16, rtMaxPct := fld (q 8 0) 32 7,
    profile := fld (q 8 1) 0 2, thresh := fld (q 8 1) 4 5, limitMaxC := fld (q 8 1) 16 8,
    price := (((ws 8).drop 2).take 16).map pricePoint, be := ((ws 8).drop 18).map (fun w => fld w 0 40),
    coeffs := (chunks 4 11 (byts 9)).map leNum, tAmb := (BitVec.ofNat 32 (leAt (byts 9) 44 4)).toInt,
    nodes := (chunks 32 64 ((byts 9).drop 48)).map thermNode,
    cycEn := bitOf (q 10 0) 0,
    cycCtxs := (((ws 10).drop 1).take (fld (q 10 0) 8 6)).map (fun r =>
      { ctx := fld r 0 10, fn := fld r 10 6, share := fld r 16 16, flags := fld r 32 4 }),
    cycTable := (cyclicTable (ws 10)).map (fun i => parseTable i.1 i.2),
    patina := (plinthImages b c).1.map (·.1), customer := (plinthImages b c).2.map (·.1),
    capCores := BitVec.ofNat 48 (q 12 0).toNat, capEngines := (q 12 1).setWidth 32, capFeatures := q 12 2,
    slotSize := if misc then fld (q 13 0) 0 2 else 1, i3cStatic := fld (q 13 0) 2 7, wholeReset := bitOf (q 13 0) 9,
    ssEn := if misc then (ws 13).drop 1 else List.replicate 8 0 }

end Sys2Proof.Machine
end

