-- ==== Sys2Proof/Machine/Start.lean ====
section
/-! DEFINITION. Start-up (chapter 15): what a cold and a warm reset clear and keep (R455, R462, Table 15-8), the checks of the
plinth (R453), the configuration that it gives (Table 15-5 steps 6 to 8), and a failed start (R458). -/

namespace Sys2Proof.Machine

/-! ## Checks (R453, Table 15-4) -/

/-- The memory channels present after MEM_PRESENT and the overrides (R31, R459). -/
def startChannels (mem : BitVec 8) (p : Plinth) : BitVec 8 := mem &&& ~~~(BitVec.ofNat 8 (p.capEngines.toNat / 65536))

/-- The cores present after fuses and overrides (R234, R459). -/
def startCores (f : Fuses) (p : Plinth) : BitVec 48 := ~~~(f.coresOff ||| p.capCores)

/-- A feature of Table 15-6 is removed. -/
def removes (p : Plinth) (k : Nat) : Bool := bitOf p.capFeatures k

/-- Two of some masks share a bit, or one shares a bit with `acc`. -/
def masksClash : Nat → List Nat → Bool
  | _, [] => false
  | acc, a :: r => acc &&& a ≠ 0 || masksClash (acc ||| a) r

/-- A partition default is live. -/
def partLive (d : PartDef) : Bool := d.ways ≠ 0 && d.channels ≠ 0

/-- The partition and function defaults fail (Table 15-4, SUB 6). -/
def partsBad (f : Fuses) (mem : BitVec 8) (p : Plinth) : Bool :=
  p.parts.length ≠ 8 || p.fns.length ≠ 64
  || masksClash 0 (p.parts.map (fun d => d.cores.toNat)) || masksClash 0 (p.parts.map (fun d => d.ways.toNat))
  || masksClash 0 (p.parts.map (fun d => d.channels.toNat))
  || p.parts.any (fun d => !partLive d && (d.ways ≠ 0 || d.channels ≠ 0 || d.cores ≠ 0))
  || p.parts.any (fun d => d.channels ≠ 0 && d.channels &&& startChannels mem p = 0)
  || p.parts.any (fun d => d.cores &&& ~~~(startCores f p) ≠ 0)
  || p.fns.any (fun e => e.2 && !(p.parts[e.1]?).any partLive)

/-- TML_CFG breaks its ranges (R346): reserved bits, TOPO, dimensions, node numbers. -/
def tmlCfgBad (w : Word) : Bool :=
  let topo := fld w 0 2
  let x := fld w 2 4
  let y := fld w 6 4
  let n := if topo = 0 then 1 else if topo = 1 then x + 1 else (x + 1) * (y + 1)
  fld w 20 12 ≠ 0 || topo = 3 || (topo = 1 && (x = 0 || y ≠ 0)) || (topo = 2 && (x = 0 || 3 < x || y = 0 || 3 < y))
  || (topo ≠ 0 && !bitOf w 14 && n ≤ fld w 10 4) || (topo ≠ 0 && bitOf w 19 && n ≤ fld w 15 4)

/-- Three areas of some sizes overlap or exceed a space. -/
def areasBad (space : Nat) : List (Nat × Nat) → Bool
  | [] => false
  | a :: r => space < a.1 + a.2 || r.any (fun b => a.1 < b.1 + b.2 && b.1 < a.1 + a.2) || areasBad space r

/-- The MEMORY section fails. -/
def memoryBad (mem : BitVec 8) (p : Plinth) : Bool :=
  let c := 2 ^ (30 + p.log2c)
  let n := ((List.range 8).filter (fun m => (startChannels mem p).getLsbD m)).length
  4 < p.log2c || p.apertureBase.toNat % 2 ^ 32 ≠ 0 || 2 ^ 64 < p.apertureBase.toNat + 8 * (c * 25 / 32)
  || areasBad (n * (c / 256)) [(p.launchArea, 2 ^ 20), (p.graphArea, 16 * 2 ^ 20), (p.brumArea, 12 * 2 ^ 20)]

/-- V/F points rise strictly, 1 to 16 of them, at most 1,630 MHz. -/
def vfBad (l : List (Nat × Nat)) : Bool :=
  l.isEmpty || 16 < l.length || l.any (fun e => 1630 < e.1) || (l.zip (l.drop 1)).any (fun e => e.2.1 ≤ e.1.1)

/-- The GOVERNOR section fails: the ranges of its registers, LIMIT_MAX_C, the price table (R209). -/
def governorBad (p : Plinth) : Bool :=
  p.capSust = 0 || 65535 < p.capSust || p.capPeak = 0 || 65535 < p.capPeak || 127 < p.rtMaxPct || 3 < p.profile || 31 < p.thresh
  || 105 < p.limitMaxC || p.price.length ≠ 16 || !priceTabOk p.price || p.be.length ≠ 5

/-- The thermal model has its 64 nodes, whose neighbours are nodes. -/
def modelBad (p : Plinth) : Bool :=
  p.coeffs.length ≠ 11 || p.nodes.length ≠ 64 || p.nodes.any (fun n => 6 < n.neigh.length || n.neigh.any (fun e => 64 ≤ e.1))


/-- The partition of a function in the defaults. -/
def defPart (p : Plinth) (n : Nat) : Option Nat := (p.fns[n]?).bind (fun e => if e.2 then some e.1 else none)

/-- The CYCLIC section's context records fail. -/
def cycCtxsBad (p : Plinth) : Bool :=
  p.cycCtxs.any (fun r => 1024 ≤ r.ctx || 64 ≤ r.fn || r.share = 0 || 65535 < r.share || 15 < r.flags || (defPart p r.fn).isNone)
  || (p.cycCtxs.zipIdx).any (fun r => (p.cycCtxs.take r.2).any (fun x => x.ctx == r.1.ctx))
  || p.cycCtxs.any (fun r => p.cycTable.any (fun t => t.slots.any (fun d => d.ctx == r.ctx && some d.part != defPart p r.fn)))

/-- The first check of R453 that the values of the sections fail: SUB and the DETAIL of the record. -/
def plinthValues (f : Fuses) (mem : BitVec 8) (p : Plinth) : Option (Nat × Word) :=
  if startChannels mem p = 0 then some (10, 0)
  else if p.owners = 0 || 4 < p.owners then some (4, 2)
  else if !removes p 0 && fld p.tmlCfg 0 2 = 2 && f.grade ≠ 0 then some (7, 4)
  else if !removes p 0 && tmlCfgBad p.tmlCfg then some (4, 4)
  else if memoryBad mem p then some (4, 5)
  else if partsBad f mem p then some (6, 6)
  else if vfBad p.vf then some (4, 7)
  else if governorBad p then some (4, 8)
  else if modelBad p then some (4, 9)
  else if 2 < p.slotSize || 127 < p.i3cStatic || p.ssEn.length ≠ 8 then some (4, 13)
  else if cycCtxsBad p then some (4, 10)
  else none

/-- The first check of a cold start that fails, in the order in which Table 15-5 comes to it: the header, the directory and KEYS
as they are read, SIGNER, the signature, the noise source, the identity, and the sections. DESIGN CHOICE (log 153): the order of
the checks within step 6. -/
def plinthFault (f : Fuses) (mem : BitVec 8) (b : List Byte) (c : StartChecks) : Option (Nat × Word) :=
  if mem = 0 then some (10, 0)
  else
    match plinthHeader b with
    | some h => some h
    | none =>
      if !(plinthDir b).any (fun d => d.ty == 2 && !d.bad (plinthLen b) (plinthDir b).length) then some (4, 2)
      else if !f.keyFuseBlank && !c.signerOk then some (2, 2)
      else if !c.sigOk then some (3, 0)
      else if !c.entropyOk then some (9, 0)
      else if !c.identityOk then some (5, 1)
      else
        match plinthDirBad b, plinthLayout b with
        | some d, _ => some (4, d)
        | none, some t => some (4, BitVec.ofNat 64 t)
        | none, none => plinthValues f mem (plinthOf b c)

/-- The MCS images fail R447, the customer key being the plinth's. A customer image of a plinth that removes customer microcode is
not looked at (Table 15-6). -/
def State.mcsFault (s : State) (b : List Byte) (c : StartChecks) : Bool :=
  let i := plinthImages b c
  i.1.any (fun i => (s.imageFault 0 i.1 i.2).isSome)
  || (!removes (plinthOf b c) 2 && i.2.any (fun i => (s.imageFault 1 i.1 i.2).isSome))

/-- The default table fails Table 05-5 with the CYCLIC contexts in place and every DL_EVENT treated as bound (R453). A node whose
plinth declares a topology counts as belonging to a fabric. -/
def State.cycFault (s : State) (n : Nat) (img : List Word) : Bool :=
  let tb := parseTable n img
  let t0 := { tb with slots := tb.slots.map (fun d => { d with dlEn := false }) }
  let s1 := s.setB .TML_STAT 0 0 4 (s.rf .TML_CFG 0 0 0 2 ≠ 0)
  (s1.tableFault n t0 (cycHdrRsv (img.take 8)) ((imageEntries n (img.drop 8)).map slotRsv)).isSome
  || tb.slots.any (fun d => d.dlEn && (evNode d.dlEvent ≠ s.node || !evWellFormed d.dlEvent))

/-! ## Configuration (Table 15-5 steps 6 and 7) -/

/-- Cores, engines and their maps after fuses and overrides (R233, R234, R459). -/
def State.startEngines (s : State) (f : Fuses) (p : Plinth) : State :=
  let cm := startCores f p
  let cap := p.capEngines.toNat
  let tl := f.tilers.toNat &&& (3 ^^^ (cap % 4))
  let dm := f.dmas.toNat &&& (15 ^^^ (cap / 4 % 16))
  let lk := f.links.toNat &&& (15 ^^^ (cap / 64 % 16))
  let comp := !removes p 4
  let gate := !removes p 1
  let on (m i : Nat) : Bool := Nat.testBit m i
  let engs : Tab Eng :=
    ((List.range 12).filter (fun e => if e < 2 then on tl e else if e < 6 then on dm (e - 2) else if e = 6 then comp
      else if e = 7 then gate else on lk (e - 8))).map (fun e => (e, { present := true }))
  let s := { s with cores := (List.range 48).map (fun i => { present := cm.getLsbD i }), engs := engs }
  let s := s.setReg .SCH_CORE_PRESENT 0 0 (cm.setWidth 64)
  s.setReg .SCH_ENGMAP 0 0 (mkWord [(0, 2, tl), (2, 4, dm), (6, 4, lk), (10, 1, b2n comp), (11, 1, b2n gate)])

/-- Partitions, their memory keys and the functions' assignments (R290, R309, R316). -/
def State.startParts (s : State) (p : Plinth) : State :=
  let ch := startChannels s.start.mem p
  let s := (p.parts.zipIdx).foldl (fun s d =>
    let t := d.2
    let s := s.setReg .VXB_PART_CORES t 0 (d.1.cores.setWidth 64)
    let m := (d.1.channels &&& ch).toNat
    let s := s.setReg .VXB_PART_RES t 0 (mkWord [(0, 16, d.1.ways.toNat), (16, 8, m), (24, 1, b2n (partLive d.1))])
    let s := { s with cores := (s.cores.zipIdx).map (fun (c : Core × Nat) =>
      if d.1.cores.getLsbD c.2 then { c.1 with owner := some t } else c.1) }
    if partLive d.1 then ((s.setIlv t m 0).setReg .SEC_SLOT t 0 (mkWord [(0, 2, 1), (2, 3, t)])).newKey t else s) s
  let s := (s.setReg .SEC_SLOT 63 0 (mkWord [(0, 2, 1)])).newKey 63
  (p.fns.zipIdx).foldl (fun s e => s.setF .VXB_FN_CFG e.2 0 0 4 (e.1.1 + 8 * b2n e.1.2)) s

/-- The governor at the plinth's values (R232). The nodes' temperatures start at T_amb (log entry 44). -/
def State.startGov (s : State) (p : Plinth) : State :=
  let lim := if p.limitMaxC = 0 then 1680 else p.limitMaxC * 16
  let s := s.setGov (fun g => { g with
    coeffs := p.coeffs, vf := p.vf, baseMw := p.uncoreBaseMw, tab := p.price, shadow := p.price, plinthTab := p.price,
    nodes := p.nodes, tAmb := p.tAmb, limitMax := lim, theta := List.replicate 64 (p.tAmb * 65536) })
  let s := s.setReg .GOV_CAP_MGMT 0 0 (mkWord [(0, 16, p.capSust), (16, 16, p.capPeak), (32, 7, p.rtMaxPct)])
  let s := s.setReg .GOV_BUDGET 0 0 (mkWord [(0, 16, p.capSust), (16, 16, p.capPeak)])
  let s := (s.setF .GOV_PROFILE 0 0 0 2 p.profile).setF .GOV_STAT 0 0 6 2 p.profile
  let fl := profileFloor p.profile
  let s := s.setReg .GOV_PRICE 0 0 (mkWord [(0, 16, fl), (16, 16, fl)])
  let top := p.vf.length - 1
  let s := s.setReg .GOV_VF 0 0 (mkWord [(16, 4, priceCeil p.price fl), (20, 4, top), (24, 4, top)])
  let s := (s.setF .GOV_TLIMIT 0 0 0 16 lim).setF .GOV_SAG_CFG 0 0 0 5 p.thresh
  (p.be.zipIdx).foldl (fun s e => s.setReg .GOV_BE (e.2 + 1) 0 (BitVec.ofNat 64 (e.1 % 2 ^ 40))) s

/-- The fabric's configuration; without the fabric feature TOPO acts as none. -/
def State.startTml (s : State) (p : Plinth) : State :=
  if removes p 0 then s
  else
    let s := (s.setReg .TML_CFG 0 0 p.tmlCfg).setReg .TML_TIME_CAL 0 0 (p.timeCal.setWidth 64)
    let s := s.setReg .TML_EPOCH_CFG 0 0 p.epochCfg
    if fld p.tmlCfg 0 2 ≠ 0 && !bitOf p.tmlCfg 14 then { s with tml := { s.tml with pos := fld p.tmlCfg 10 4 } } else s

/-- The control-store images come into force. -/
def State.startMcs (s : State) (p : Plinth) : State :=
  let s := s.setReg .MCS_VERSION 2 0 (p.digest.setWidth 64)
  let s := match p.patina with | some i => s.installImage 0 i | none => s
  match p.customer with
  | some i => if removes p 2 then s else s.installImage 1 i
  | none => s

/-- The contexts of the CYCLIC section. -/
def State.startCtxs (s : State) (p : Plinth) : State :=
  p.cycCtxs.foldl (fun s r =>
    match defPart p r.fn with
    | some t =>
      let x : Ctx := { fn := r.fn, part := t, share := r.share, det := Nat.testBit r.flags 0, noSteal := Nat.testBit r.flags 1,
                       noRotate := Nat.testBit r.flags 2, background := Nat.testBit r.flags 3, wdMs := 100 }
      { s with ctxs := Tab.set s.ctxs r.ctx x, wd := Tab.set s.wd r.ctx 0 }
    | none => s) s

/-- Everything that step 7 puts in force but the default table. -/
def State.configure (s : State) (f : Fuses) (p : Plinth) : State :=
  let s := { s with start := { s.start with
    log2c := 30 + p.log2c, apBase := p.apertureBase, launchArea := p.launchArea, graphArea := p.graphArea, brumArea := p.brumArea,
    peersListed := p.peersListed, plinth := some p, mem := startChannels s.start.mem p } }
  let s := (((s.startEngines f p).startParts p).startGov p).startTml p
  let s := { (s.startMcs p).startCtxs p with sec := { ((s.startMcs p).startCtxs p).sec with identity := identityKey } }
  let s := (s.setF .SCH_MQ_CFG 0 0 16 2 p.slotSize).setB .SEC_STAT 0 0 0 true
  let s := (p.ssEn.zipIdx).foldl (fun s e => s.setReg .IRQ_SS_EN e.2 0 e.1) s
  let s := s.setReg .VXB_PLINTH 0 0 (mkWord [(0, 32, p.version), (32, 32, p.imageLen)])
  s.setB .CYC_CFG 0 0 0 p.cycEn

/-- Step 8: READY, and everything that the configuration drives begins; the sequence of a host loss during start-up starts. `us` is
READY_US. -/
def State.becomeReady (s : State) (p : Plinth) (us : Nat) : State :=
  let s := ((s.setF .VXB_START_STAT 0 0 0 3 6).setB .VXB_START_STAT 0 0 3 true).setB .VXB_START_STAT 0 0 6 true
  let s := (s.setF .VXB_START_STAT 0 0 32 32 us).setReg .VXB_CAP_PTR 0 0 0x2000
  let s := s.emit (.pin "VXB_READY" true)
  let s := match p.cycTable with | some tb => s.acceptTable tb | none => s
  let s := (List.range 4).foldl (fun s k => if s.portUsed k then s.trainPort k else s.setF .TML_PORT k 0 10 4 12) s
  match s.start.lossDue with
  | some c => ({ s with start := { s.start with lossDue := none } }).startHostLoss c
  | none => s

/-! ## Failure (R458) -/

/-- Start-up fails. -/
def State.startFail (s : State) (sub : Nat) (detail : Word) : State :=
  let s := s.zeroiseKeys
  let s := s.setB .VXB_START_STAT 0 0 6 true
  let s := s.logErr { cls := 0x0F, sub := sub, detail := [detail] }
  let s := ((s.setB .VXB_START_STAT 0 0 4 true).setF .VXB_START_STAT 0 0 0 3 7).setF .VXB_START_STAT 0 0 8 8 sub
  { s with start := { s.start with failed := some (sub, detail) } }

/-! ## The resets -/

/-- What every reset sets from the fuses and the pins: the identity, the form, the ROM version, the clock monitors, and LEVEL of
the discrete inputs under the reset polarity. -/
def State.fromFuses (s old : State) (f : Fuses) : State :=
  let s := s.setReg .VXB_ID 0 0 (mkWord [(0, 2, f.grade), (8, 8, f.rev), (16, 32, f.features.toNat)])
  let s := (s.setB .VXB_HOST_LINK 0 0 9 f.soc).when f.soc (fun s => s.setF .VXB_HOST_LINK 0 0 0 8 0xFF)
  let s := s.setF .MCS_VERSION 0 0 0 16 f.romVer
  let s := s.setF .VXB_DOMAIN_STAT 0 0 0 18 (fuseDomains f)
  let s := s.setB .VXB_START_STAT 0 0 5 f.keyFuseBlank
  (List.range 9).foldl (fun s n =>
    let pin := old.rb .VXB_DIN_STAT n 0 2 != old.rb .VXB_DIN_CFG n 0 32
    s.setB .VXB_DIN_STAT n 0 2 (pin != (dinPol n == 1))) s

/-- The status pins of a state that a reset leaves behind: VXB_READY falls and VXB_HALT_N rises (R46). -/
def State.resetPins (s old : State) : State :=
  let s := s.when old.ready (fun s => s.emit (.pin "VXB_READY" false))
  s.when old.haltedAll (fun s => s.emit (.pin "VXB_HALT_N" true))

/-- The highest clock of a flash read mode in MHz, and the data lines by which its rate goes, each counted twice where both clock
edges carry data (Table 01-7). -/
def flashMode (m : Nat) : Nat × Nat :=
  match m with
  | 0 => (25, 1)
  | 1 => (104, 4)
  | 2 => (104, 4)
  | 3 => (133, 8)
  | _ => (200, 16)

/-- The read mode that Voxbin selects from the modes and clocks of the SFDP tables: the highest rate that both sides support (R36).
DESIGN CHOICE (log 120): of two modes with one rate, the higher MODE code. -/
def pickFlash (l : List (Nat × Nat)) : Nat × Nat :=
  l.foldl (fun b e =>
    let c := min e.2 (flashMode e.1).1
    let rate := (flashMode e.1).2 * c
    let best := (flashMode b.1).2 * b.2
    if best < rate || (best = rate && b.1 < e.1) then (e.1, c) else b) (0, 25)

/-- A cold reset up to the read of the image: steps 1 and 2 of Table 15-5. `modes` are the read modes of the SFDP tables with their
clocks, where `ok` tells that the tables are there and consistent; `host` is the level of HOST_PRESENT in the SoC form. -/
def State.coldReset (old : State) (t : Nat) (f : Fuses) (mem : BitVec 8) (ok : Bool) (modes : List (Nat × Nat)) (host : Bool) :
    State :=
  let now := max old.now t
  let ref := old.ref + (now - old.now)
  let s : State := { pending := old.pending, out := old.out, fresh := old.fresh, now := now, ref := ref,
                     start := { mem := mem, fuses := some f, resetAt := ref }, obs := { ir := old.obs.ir } }
  let s := (s.resetPins old).fromFuses old f
  let m := pickFlash (if ok then modes else [])
  let s := s.setReg .VXB_FLASH_MODE 0 0 (mkWord [(0, 3, m.1), (4, 8, m.2), (12, 1, b2n ok)])
  let s := s.when (f.soc && host) (fun s => s.setB .VXB_HOST_LINK 0 0 8 true)
  s.setF .VXB_START_STAT 0 0 0 3 2

/-- The last byte of the image has been read: steps 3 to 8 of Table 15-5, or a failed start. An image whose header is sound is read
from byte 0 to IMAGE_LEN − 1 (R455): before that the read is not complete. -/
def State.plinthRead (s : State) (b : List Byte) (c : StartChecks) : State :=
  match s.start.fuses with
  | none => s
  | some f =>
    if s.rf .VXB_START_STAT 0 0 0 3 ≠ 2 || ((plinthHeader b).isNone && b.length ≠ plinthLen b) then s
    else
      match plinthFault f s.start.mem b c with
      | some (sub, d) => s.startFail sub d
      | none =>
        let p := plinthOf b c
        let s0 := { s with start := { s.start with plinth := some p } }
        if s0.mcsFault b c then s.startFail 8 11
        else
          let s1 := s.configure f p
          if (cyclicTable (plinthWords b 10)).any (fun i => s1.cycFault i.1 i.2) then s.startFail 4 10
          else s1.becomeReady p ((s.ref - s.start.resetAt) / 1000)

/-- The registers that a warm reset keeps (Table 15-8): the error log, the reset causes, the flash mode and the host link. -/
def warmKept (k : Nat) : Bool :=
  (0x110000 ≤ k && k < 0x110300) || k = Reg.key .VXB_RESET_CAUSE 0 0 || k = Reg.key .VXB_FLASH_MODE 0 0
  || k = Reg.key .VXB_HOST_LINK 0 0

/-- A warm reset (R462): everything is cleared but what Table 15-8 keeps, and the retained plinth comes into force again; a failed
start fails again; a start that was not complete begins again with the read of the image. READY comes within 9 ms at a moment
that the spec does not fix: READY_US is a free value. -/
def State.warmReset (old : State) (i3c : Bool) : State :=
  let st : Start := { mem := old.start.mem, fuses := old.start.fuses, plinth := old.start.plinth, resetAt := old.ref }
  let s : State := { pending := old.pending, out := old.out, fresh := old.fresh, now := old.now, ref := old.ref, start := st,
                     regs := old.regs.filter (fun e => warmKept e.1), obs := { ir := old.obs.ir } }
  let s := (s.setB .ERR_STAT 0 0 1 false).setB .ERR_STAT 0 0 2 false
  let s := s.setB .VXB_RESET_CAUSE 0 0 (if i3c then 3 else 1) true
  let s := (s.setB .VXB_HOST_LINK 0 0 11 false).resetPins old
  match old.start.fuses with
  | none => s
  | some f =>
    let s := s.fromFuses old f
    match old.start.failed, old.start.plinth with
    | some (sub, d), _ => s.startFail sub d
    | none, some p =>
      let (d, s) := s.draw
      ((s.configure f p).setB .VXB_START_STAT 0 0 7 true).becomeReady p (d % 9001)
    | none, none => s.setF .VXB_START_STAT 0 0 0 3 2

/-- The I3C target reset pattern performs the action that RSTACT last set (R35). DESIGN CHOICE (log 162): the MCTP state that a
peripheral reset clears is that of a load being staged; the management SPDM session stays open. -/
def State.targetReset (s : State) : State :=
  match s.start.rstact with
  | .noReset => s
  | .peripheral => s.periphReset.loadAbort
  | .wholeTarget => if s.wholeOk then s.warmReset true else s.periphReset.loadAbort

end Sys2Proof.Machine
end

