-- ==== Sys2Proof/Machine/RegWrite.lean ====
section
/-! DEFINITION. Writes of registers (chapters 00 and 16): what a write of each register does, who may make it (R345, Table 10-11 and
the chapters), and the accesses that R464 to R467 and R9 to R11 accept. -/

namespace Sys2Proof.Machine

/-! ## Queues (chapter 02) -/

/-- A write of a CR's consumer index (R69). A CR that is not in service ignores it (Table 02-11). -/
def State.writeCrCi (s : State) (n slot : Nat) (v : Half) : State :=
  match s.crAt n slot with
  | none => s
  | some (c, x) =>
    if x.state != .active && x.state != .held then s
    else if ciOk x.pi x.ci v then s.updCr c (fun c => { c with ci := v })
    else s.updCr c (fun c => { c with badCi := true })

/-- A write of an admin CR's consumer index (R69). -/
def State.writeAdmCi (s : State) (n : Nat) (v : Half) : State :=
  let pi : Half := BitVec.ofNat 32 (s.rf .ADM_CR_PI n 0 0 32)
  let ci : Half := BitVec.ofNat 32 (s.rf .ADM_CR_CI n 0 0 32)
  if ciOk pi ci v then s.setF .ADM_CR_CI n 0 0 32 v.toNat else s.setB .ADM_STAT n 0 4 true

/-- A write of a trace ring's consumer index (R69, R406): a refused one leaves no record. -/
def State.writeRingCi (s : State) (r : Nat) (v : Half) : State :=
  let pi : Half := BitVec.ofNat 32 (s.rf .TRC_RING_PI r 0 0 32)
  let ci : Half := BitVec.ofNat 32 (s.rf .TRC_RING_CI r 0 0 32)
  if ciOk pi ci v then s.setF .TRC_RING_CI r 0 0 32 v.toNat else s

/-- A function's write of the consumer index of its partition's ring; an unassigned function's is ignored. -/
def State.writeFnRingCi (s : State) (n : Nat) (v : Half) : State :=
  match s.fnPart n with
  | some t => s.writeRingCi t v
  | none => s

/-- An admin doorbell (R68, R83, R470): on F0 an urgent request for a visit; on a VF the pending bit and the mediator's source. -/
def State.adminDoorbell (s : State) (n : Nat) (v : Half) : State :=
  if !s.rb .ADM_STAT n 0 0 || s.rb .ADM_STAT n 0 2 || s.fnInTd n then s
  else
    let old : Half := BitVec.ofNat 32 (s.rf .ADM_SQ_PI n 0 0 32)
    if piOk (s.admCi n) old v (admLog2 (s.rf .ADM_CFG n 0 0 4)) then
      let s := s.setF .ADM_SQ_PI n 0 0 32 v.toNat
      if n = 0 then s.wake.admReread.urgent none else (s.setB .ADM_VF_PEND 0 0 n true).raise 10
    else s.setB .ADM_STAT n 0 3 true

/-- A function's admin queue has commands outstanding: published and not accepted, accepted and not complete, or complete and held. -/
def State.admBusy (s : State) (n : Nat) : Bool :=
  s.rf .ADM_SQ_PI n 0 0 32 ≠ s.rf .ADM_SQ_CI n 0 0 32 || !(Tab.getD s.admHeld n []).isEmpty
  || (n = 0 && !s.adm.prog.isEmpty) || s.adm.prog.any (fun e => e.oboEn && e.acting == n)

/-- A write of ADM_CFG: the fields while EN is 0, EN, and RESUME (R92). The indices begin at 0 when EN goes from 0 to 1. -/
def State.writeAdmCfg (s : State) (n : Nat) (v : Word) (fault : Option Nat) : State :=
  let en := s.rb .ADM_CFG n 0 16
  let s := if en then s else s.setF .ADM_CFG n 0 0 14 (fld v 0 14)
  let s :=
    if !en && bitOf v 16 then
      let s := (((s.setReg .ADM_SQ_PI n 0 0).setReg .ADM_SQ_CI n 0 0).setReg .ADM_CR_PI n 0 0).setReg .ADM_CR_CI n 0 0
      let s := (s.setB .ADM_CFG n 0 16 true).setB .ADM_STAT n 0 0 true
      if n = 0 then { s with adm := { s.adm with fetched := 0, cells := [], reserved := 0 } } else s
    else if en && !bitOf v 16 && !s.admBusy n then (s.setB .ADM_CFG n 0 16 false).setB .ADM_STAT n 0 0 false
    else s
  if bitOf v 17 then s.adminResume n fault else s

/-! ## Events and semaphores (chapter 04) -/

/-- A function's record takes effect (R136): at the event's home, or refused with ERR. -/
def State.fnRecordNow (s : State) (n : Nat) (h : Half) (mode : Nat) (v : Word) : State :=
  let no := s.setB .EV_FN_CTL n 0 3 true
  if !evWellFormed h || (s.fnPart n).isNone then no
  else if evNode h == s.node then
    match s.evCheck h (s.fnPart n) with
    | none => s.recordLocal (evIdx h) mode v none
    | some _ => no
  else if s.nodeLive (evNode h) then s.send (evNode h) (.record h mode v none) none (some n)
  else no

/-- A write of EV_FN_RECORD (R136), with the handle and mode of this moment; it waits behind records that wait, and, where `behind`,
for the acknowledgement of the function's earlier writes through the host target. It is ignored from step 1 of a reset of the
function (Table 09-6). -/
def State.fnRecord (s : State) (n : Nat) (v : Word) (behind : Bool) : State :=
  let h : Half := BitVec.ofNat 32 (s.rf .EV_FN_HANDLE n 0 0 32)
  let mode := s.rf .EV_FN_CTL n 0 0 2
  let l := Tab.getD s.fnRecs n []
  if s.fnInTd n then s
  else if behind || !l.isEmpty then { s with fnRecs := Tab.set s.fnRecs n (l ++ [(h, mode, v)]) }
  else s.fnRecordNow n h mode v

/-- The function's earlier writes are acknowledged (R30, R136): its records take effect in order. -/
def State.fnRecsGo (s : State) (n : Nat) : State :=
  let l := Tab.getD s.fnRecs n []
  l.foldl (fun s r => s.fnRecordNow n r.1 r.2.1 r.2.2) { s with fnRecs := Tab.erase s.fnRecs n }

/-- A write of EV_SEM_CFG, field by field (R137). -/
def State.semCfgWrite (s : State) (i : Nat) (v : Word) : State :=
  let m := s.semOf i
  let busy := !m.queue.isEmpty
  let badV := busy && fld v 0 32 ≠ m.value
  let badB := busy && m.bound && !bitOf v 35
  let gone := m.bound && !bitOf v 35 && !badB
  s.setSem i { m with
    holders := if gone then [] else m.holders,
    more8 := m.more8 && !gone,
    value := if badV then m.value else fld v 0 32,
    part := if m.bound then m.part else fld v 32 3,
    bound := if badB then true else bitOf v 35,
    ovf := m.ovf && !bitOf v 36,
    refused := (m.refused && !bitOf v 37) || badV || badB }

/-! ## Security, fabric and observation (chapters 10, 11, 13) -/

/-- GO of SEC_FN_KEY_FREE (R329). -/
def State.keyFree (s : State) (n slot : Nat) : State := if (s.fnKeys n).contains slot then s.freeBlob slot else s

/-- SEC_ZEROISE.ALL_BLOB (R334). -/
def State.zeroiseAll (s : State) : State := s.revokeBlobs (fun _ => true)

/-- A management write of SEC_FT (R339, R341): MEMBERS only at the lead, whose change rekeys the tenant. A partition
belongs to at most one tenant: DESIGN CHOICE (log 179), a mapping that would give it a second one is not taken. -/
def State.writeFt (s : State) (f : Nat) (v : Word) : State :=
  let old := s.reg .SEC_FT f
  let taken := bitOf v 19 && (List.range 16).any (fun g => g ≠ f && s.rb .SEC_FT g 0 19 && s.rf .SEC_FT g 0 16 3 = fld v 16 3)
  let v := if taken then putFld v 16 4 (fld old 16 4) else v
  let same := fld old 16 4 == fld v 16 4
  let s := s.setF .SEC_FT f 0 16 4 (fld v 16 4)
  let s := if same then s else s.setB .SEC_FT f 0 20 false
  if s.rb .TML_STAT 0 0 5 && fld old 0 16 ≠ fld v 0 16 then (s.setF .SEC_FT f 0 0 16 (fld v 0 16)).rekeyTenant f else s

/-- A management write of MCI_SEAL, which is part of the partition's layout block (R323, R330). -/
def State.writeSeal (s : State) (t r : Nat) (v : Word) : State :=
  let new := v &&& maskOf (fun _ => true) Reg.MCI_SEAL.spec.fields
  if s.reg .MCI_SEAL t r = new then s else (s.setReg .MCI_SEAL t r new).layoutChanged t false

/-- A management write of TML_CTL: ports held down, REJOIN, LEAVE (R359, R381). -/
def State.writeTmlCtl (s : State) (v : Word) : State :=
  let old := s.rf .TML_CTL 0 0 2 4
  let s := s.setF .TML_CTL 0 0 2 4 (fld v 2 4)
  let s := (List.range 4).foldl (fun s p =>
    if bitOf v (2 + p) && !Nat.testBit old p then
      (if s.portState p = 0 then s.setF .TML_PORT p 0 10 4 12 else s.portDown p 12)
    else s) s
  let s := if bitOf v 1 then s.rejoin else s
  if bitOf v 0 then s.plannedLeave else s

/-- A write of OBS_FREEZE_CTL (R398, R403 to R405): the settings first, then LOCKED, GO and CLEAR. -/
def State.writeFreezeCtl (s : State) (v : Word) : State :=
  let s := (s.setB .OBS_FREEZE_CTL 0 0 1 (bitOf v 1)).setB .OBS_FREEZE_CTL 0 0 4 (bitOf v 4)
  let s := if bitOf v 2 then s.setB .OBS_FREEZE_CTL 0 0 2 false else s
  let s := if bitOf v 0 then s.freeze 1 else s
  if bitOf v 3 then s.clearCounters else s

/-- A write of TRC_RING_CFG: EN, and the other fields only while EN is clear (R406); without the trace feature EN stays 0. -/
def State.writeRingCfg (s : State) (r : Nat) (v : Word) : State :=
  let s := if s.rb .TRC_RING_CFG r 0 5 then s else (s.setF .TRC_RING_CFG r 0 0 5 (fld v 0 5)).setF .TRC_RING_CFG r 0 16 16 (fld v 16 16)
  s.setB .TRC_RING_CFG r 0 5 (bitOf v 5 && !s.lacks 6)

/-- A management write of OBS_STOP_CTL (R418, R419, R423). -/
def State.writeStopCtl (s : State) (v : Word) : State :=
  let s := if bitOf v 0 then s.globalStop 1 else s
  let s := if bitOf v 1 then s.softStop 1 else s
  if bitOf v 2 then s.resume false else s

/-- A management write of GOV_PRICE_TAB: a point of the shadow (R209). -/
def State.writePriceTab (s : State) (i : Nat) (v : Word) : State :=
  s.setGov (fun g => { g with shadow := modAt g.shadow i (fun _ =>
    { headroom := sx16 (fld v 0 16), price := fld v 16 16, ceil := fld v 32 4 }) })

/-- A management write of GOV_PRICE_TAB_CTL. -/
def State.writePriceCtl (s : State) (v : Word) : State :=
  let s := if bitOf v 1 then s.setB .GOV_PRICE_TAB_CTL 0 0 1 false else s
  let s := if bitOf v 0 then s.priceCommit else s
  if bitOf v 3 then s.priceRestore else s

/-- An ERR_INJECT write (R288). -/
def State.inject (s : State) (mgmt : Bool) (v : Word) : State :=
  if !s.mayInject mgmt then s
  else
    match fld v 0 2 with
    | 1 => s.injectParity (fld v 2 4)
    | 2 => s.injectBad (fld v 6 3)
    | 3 => s.injectFix (fld v 6 3)
    | _ => s

/-- A partition request (R298, R308). -/
def State.partReq (s : State) (v : Word) : State :=
  if fld v 56 2 = 3 then s.tenantRemoval (fld v 48 4) (fld v 0 48) else s.partMove (fld v 56 2) (fld v 0 48) (fld v 48 4) (fld v 52 4)

/-- A write of VXB_VF_EN.COUNT (R289): in the SoC form, by F0. -/
def State.writeVfEn (s : State) (mgmt : Bool) (v : Word) : State := if s.soc && !mgmt then s.setVfCount (fld v 0 6) else s

/-- A write of the mailbox control register (R331). -/
def State.writeMbox (s : State) (n : Nat) (v : Word) : State :=
  let s := if bitOf v 14 then s.setB .SEC_FN_MBOX_CTL n 0 14 false else s
  let s := if bitOf v 15 then s.setB .SEC_FN_MBOX_CTL n 0 15 false else s
  if bitOf v 13 then s.mboxGo n (fld v 0 13) else s.setF .SEC_FN_MBOX_CTL n 0 0 13 (fld v 0 13)

/-- A write of MCI_FN_RELEASE (R318). -/
def State.writeRelease (s : State) (n : Nat) (v : Word) : State :=
  let s := s.setF .MCI_FN_RELEASE n 0 0 53 (fld v 0 53)
  if bitOf v 53 then s.pageRelease n (fld v 0 36) (fld v 36 17) else s

/-- A write of VXB_DIN_STAT: PEND and EVT_ERR (R50, R52). -/
def State.writeDinStat (s : State) (n : Nat) (v : Word) : State :=
  let s := if bitOf v 3 then s.setB .VXB_DIN_STAT n 0 3 false else s
  if bitOf v 0 then s.dinPendClear n else s

/-- A write of VXB_DIN_EVT: a handle of another node is ignored. -/
def State.writeDinEvt (s : State) (n : Nat) (v : Word) : State :=
  if fld v 28 4 = s.node then s.setF .VXB_DIN_EVT n 0 0 32 (fld v 0 32) else s

/-! ## The write of a register -/

/-- Registers whose writes the management port alone makes (Table 10-11 and the register tables). -/
def Reg.mgmtOnly (r : Reg) : Bool :=
  match r with
  | .GOV_CAP_MGMT | .GOV_SAG_CFG | .GOV_ALARM_CFG | .GOV_PRICE_TAB | .GOV_PRICE_TAB_CTL | .GOV_BE | .VXB_PART_REQ | .SEC_ZEROISE
  | .SEC_LINK | .SEC_FT | .MCI_SEAL | .TML_CFG | .TML_STAT | .TML_CTL | .TML_PORT | .TML_PORT_CNT | .TML_TIME_STAT | .TML_TIME_CAL
  | .TML_EPOCH_CFG | .TML_XFER | .IRQ_STORM_CFG | .IRQ_WAKE_EN | .IRQ_MG_PEND | .IRQ_MG_EN | .OBS_CAP | .OBS_STOP_CFG
  | .OBS_STOP_CTL | .OBS_SCAN_BASE | .OBS_SCAN_SIZE | .ERR_INJECT => true
  | _ => false

/-- A write by the access codes of the fields alone (R10, R11). -/
def State.plainWrite (s : State) (r : Reg) (i j : Nat) (v : Word) : State := s.setReg r i j (accWrite r.spec.fields false (s.reg r i j) v)

/-- What a write of a register does. In the function window `i` is the function. -/
def State.writeReg (s : State) (mgmt : Bool) (r : Reg) (i j : Nat) (v : Word) : State :=
  if r.mgmtOnly && !mgmt then s
  else
    match r with
    | .DB_PI => s.doorbell i j v
    | .DB_STAT =>
      (match s.sqAt i j with
       | some (q, _) => if bitOf v 35 then s.updSq q (fun x => { x with badPi := false }) else s
       | none =>
         match s.crAt i j with
         | some (c, _) =>
           let s := if bitOf v 32 then s.updCr c (fun x => { x with badCi := false }) else s
           s.writeCrCi i j (v.setWidth 32)
         | none => s)
    | .ADM_SQ_BASE => if s.rb .ADM_CFG i 0 16 then s else s.plainWrite r i j v
    | .ADM_CR_BASE => if s.rb .ADM_CFG i 0 16 then s else s.plainWrite r i j v
    | .ADM_CFG => s.writeAdmCfg i v none
    | .ADM_SQ_PI => s.adminDoorbell i (v.setWidth 32)
    | .ADM_CR_CI => s.writeAdmCi i (v.setWidth 32)
    | .ADM_VF_PI_CI => if mgmt then s else s.setF .ADM_SQ_CI i 0 0 32 (fld v 32 32)
    | .EV_FN_RECORD => s.fnRecord i v false
    | .EV_SEM_CFG => s.semCfgWrite i v
    | .CYC_CFG => s.setCycEn (bitOf v 0)
    | .GOV_CAP_MGMT => s.writeCapMgmt v
    | .GOV_CAP_F0 => s.writeCapF0 v
    | .GOV_PROFILE => s.writeProfile mgmt v
    | .GOV_TLIMIT => s.writeTlimit mgmt v
    | .GOV_SAG_CFG => s.writeSag v
    | .GOV_LEARN => if bitOf v 5 then (s.plainWrite r i j v).learnClear else s.plainWrite r i j v
    | .GOV_PRICE_TAB => s.writePriceTab i v
    | .GOV_PRICE_TAB_CTL => s.writePriceCtl v
    | .ERR_STAT => if bitOf v 0 then s.releasePrimary else s
    | .ERR_INJECT => s.inject mgmt v
    | .FN_CTL => if bitOf v 0 then s.startFlr i else s
    | .VXB_VF_EN => s.writeVfEn mgmt v
    | .VXB_FN_CFG => s.writeFnCfg mgmt i v
    | .VXB_FN_QUOTA => if i = 0 && !mgmt then s else s.plainWrite r i j v
    | .VXB_PART_REQ => s.partReq v
    | .SEC_ZEROISE =>
      let s := if bitOf v 6 then s.zeroiseOne (fld v 0 6) else s
      if bitOf v 7 then s.zeroiseAll else s
    | .SEC_LINK => if bitOf v 2 then s.linkRekey i else s
    | .SEC_FT => s.writeFt i v
    | .MCI_SEAL => s.writeSeal i j v
    | .SEC_FN_MBOX_CTL => s.writeMbox i v
    | .SEC_FN_KEY_FREE => if bitOf v 6 then s.keyFree i (fld v 0 6) else s
    | .MCI_FN_RELEASE => s.writeRelease i v
    | .TML_CTL => s.writeTmlCtl v
    | .IRQ_EOI => if bitOf v 0 then s.eoi i else s
    | .IRQ_LINE_MASK => s.writeLineMask i (bitOf v 0)
    | .IRQ_EN => s.writeIrqEn i v
    | .IRQ_PEND => s.writeIrqPend i v
    | .IRQ_MAP => s.writeMap i j v
    | .IRQ_QUENCH => s.writeQuench i v
    | .IRQ_MG_PEND => s.writeMgPend i v
    | .IRQ_MG_EN => s.writeMgEn i v
    | .OBS_FREEZE_CTL => s.writeFreezeCtl v
    | .OBS_FREEZE_AT => s.freezeArm v
    | .TRC_RING_BASE => if s.rb .TRC_RING_CFG i 0 5 then s else s.plainWrite r i j v
    | .TRC_RING_CFG => s.writeRingCfg i v
    | .TRC_RING_CI => s.writeRingCi i (v.setWidth 32)
    | .TRC_FN_CI => s.writeFnRingCi i (v.setWidth 32)
    | .OBS_STOP_CTL => s.writeStopCtl v
    | .OBS_HANG_CTL => if bitOf v 0 then s.snapshot [] else s
    | .OBS_PCFG => s.writePcfg i v
    | .VXB_DIN_CFG => s.dinCfg i v
    | .VXB_DIN_STAT => s.writeDinStat i v
    | .VXB_DIN_EVT => s.writeDinEvt i v
    | .QS_CR_STATE => s
    | .QS_SQ_STATE => s
    | _ => s.plainWrite r i j v

/-! ## Accesses -/

/-- The host target or the management session takes a write at all (R283, R457, R458). -/
def State.mayWrite (s : State) (who : Who) : Bool :=
  match who with
  | .mgmt => s.inSession .mgmt
  | .fn _ => s.ready && !s.haltedAll

/-- A 64-bit register whose low half may be written alone: the doorbell registers (R9). -/
def Reg.split (r : Reg) : Bool := r == .DB_PI || r == .DB_STAT

/-- A 32-bit write of one place. -/
def State.write32 (s : State) (who : Who) (win : Window) (off : Nat) (v : Nat) : State :=
  match regOf win off with
  | some x =>
    let s := s.hostTouch who true
    if x.1.spec.wide && !x.1.split then s else s.writeReg (byMgmt who) x.1 x.2.1 x.2.2 (BitVec.ofNat 64 (v % 2 ^ 32))
  | none => s

/-- A register write (R9, R464, R465, R467). -/
def State.writeAccess (s : State) (who : Who) (win : Window) (off bytes : Nat) (v : Word) : State :=
  if !s.reaches who win || !s.mayWrite who then s
  else if bytes = 4 && off % 4 = 0 then s.write32 who win off (fld v 0 32)
  else if bytes = 8 && off % 8 = 0 then
    match regOf win off with
    | some x =>
      if x.1.spec.wide then (s.hostTouch who true).writeReg (byMgmt who) x.1 x.2.1 x.2.2 v
      else (s.write32 who win off (fld v 0 32)).write32 who win (off + 4) (fld v 32 32)
    | none => s.write32 who win (off + 4) (fld v 32 32)
  else s

end Sys2Proof.Machine
end

