-- ==== Sys2Proof/Machine/Reads.lean ====
section
/-! DEFINITION. What read data and write acknowledgements do as they arrive from the host and from the memory channels, and how
their faults are attributed (R25, R26, R30, R261, R324, R325). -/

namespace Sys2Proof.Machine


/-- The task of a submission whose state a read at an address serves: its image or a remainder (R239, R244). -/
def State.stateTask (s : State) (f : Nat) (a : Word) : Option Nat :=
  (s.tasks.find? (fun e => e.2.f == f && e.2.cls == .cores
    && (e.2.stateAddr == a || e.2.stateAddr + BitVec.ofNat 64 s.slotBytes == a))).map (·.1)

/-- Which of the writes of a teardown will fault is kept until that write is made (R90). -/
def State.armFault (s : State) (q : Nat) (w : WriteFault) : State :=
  if w == .none then s else { s with faulting := s.faulting ++ [(q, w)] }

/-- The task that an engine runs under a TAG (Table 07-2): the one whose context an engine's request carries (R261). -/
def State.launchedTask (s : State) (c : Cls) (p tag : Nat) : Option Nat :=
  match c with
  | .cores => ((nth s.cores p {}).run.filter (fun r => r.tag == tag)).map (·.task)
  | _ => ((Tab.getD s.engs (engNo c p) {}).runs.find? (fun r => r.tag == tag)).map (·.task)

/-- The DISPATCH of a submission whose armed watches are being evaluated (R413); none for a WATCH of TARGET 1. -/
def State.watchedTask (s : State) (f : Nat) : Option Nat :=
  (s.tasks.find? (fun e => e.2.f == f && e.2.phase == .done)).map (·.1)

/-- A read that faults, with the status of Table 04-8 that its context's fault carries (R26, R261); `o` is the read as it was
issued, where Voxbin issued it. A read of no context does nothing here. -/
def State.readFault (s : State) (r : ReadTag) (o : Option RdOut) (status : Nat) : State :=
  match r with
  | .engine c p g => (match s.launchedTask c p g with | some k => s.guiltyTask k status 0 | none => s)
  | .watch f => (match s.watchedTask f with | some k => s.guiltyTask k status 0 | none => s.guilty f status none 0)
  | .entryFetch q =>
    (match Tab.get? s.sqs q with
     | some x => s.startAutotomy { ctx := x.ctx, status := status }
     | none => s)
  | .adminFetch => (match o with | some o => s.admFetchError o | none => s)
  | .buffer f off => s.guilty f status none (match Tab.get? s.flights f with | some x => x.addr + BitVec.ofNat 64 off | none => 0)
  | .taskState f => (match o.bind (fun o => s.stateTask f o.addr) with | some k => s.guiltyTask k status 0 | none => s.guilty f status none 0)
  | .hint f => (match o with | some o => s.hintFault f o.addr o.bytes | none => s)
  | .cmdData f => s.guilty f status none 0
  | .mbox n => s.mboxErr n
  | .segment x _ => (match Tab.get? s.tml.xfers x with | some y => s.guiltyTask y.task status 0 | none => s)
  | .response n x _ => s.respFault n x
  | .tdWrite q w => s.armFault q w
  | _ => s

/-- A read of a structure that belongs to no context fails: a machine check (R261). When the tables are restored at the exit from LL5, a
line that fails counts as an uncorrectable error in every entry that it holds (R262, R275). -/
def State.machineRead (s : State) (es : Option (List TabErr)) : State :=
  match es with
  | none => s.startRegrow { cause := 4 } []
  | some es => if s.gov.rung ≠ 5 || es.isEmpty then s else s.startRegrow { cause := 3, fn := es.findSome? tabErrFn } es

/-- A failure of R261, attributed by the request that the read served, with the status that it gives a context's fault. -/
def State.failedRead (s : State) (r : ReadTag) (o : Option RdOut) (status : Nat) : State :=
  match r with
  | .launchArea => s.machineRead none
  | .graphBuffer => s.machineRead none
  | .brumation es => s.machineRead (some es)
  | _ => s.readFault r o status

/-- The cipher's own failures are counted, the first one is kept, and a SECURITY record is written (R325). -/
def State.cipherFail (s : State) (sub part : Nat) (offset : Word) (level : Nat) : State :=
  let s := s.bump .MCI_STAT 0 0 0 16 1
  let s := if s.rb .MCI_STAT 0 0 19 then s
    else ((s.setF .MCI_STAT 0 0 16 3 part).setB .MCI_STAT 0 0 19 true).setReg .MCI_FAIL_ADDR 0 0 offset
  s.securityRec sub none [offset, mkWord [(0, 3, part), (8, 8, level)], 0]

/-- A refused read (R324): a page fault, or a machine check where it belongs to no context. -/
def State.refusedRead (s : State) (r : ReadTag) (o : Option RdOut) : State :=
  (s.bump .MCI_STAT 0 0 32 16 1).failedRead r o 8

/-- The cipher refuses a read that has been issued (R323, R324). -/
def State.outRefused (s : State) (o : RdOut) : Bool := o.port == .mem && s.refused (s.readIssuer o.tag).part o.addr o.bytes

/-- A read that ends is one that is outstanding through that port, or one that Voxbin does not keep account of; what follows is `g`,
with the read as it was issued. What comes for no such read is no happening. -/
def State.endRead (s : State) (r : ReadTag) (p : Option Port) (g : Option RdOut → State → State) : State :=
  if readTracked r then (match s.readOf r p with | some o => g (some o) s | none => s) else g none s

/-- The whole of a read has ended. -/
def State.endOut (s : State) (o : Option RdOut) : State :=
  match o with
  | some o => s.endBytes o.tag o.bytes
  | none => s

/-- The data of a read goes to what asked for it, through the port at which it comes. -/
def State.readData (s : State) (r : ReadTag) (o : Option RdOut) (p : Option Port) (data : List Word) : State :=
  match r with
  | .entryFetch q => s.entryData (some q) p data
  | .adminFetch => s.entryData none p data
  | .buffer f off => (s.endOut o).blockRead f off data
  | .taskState f => (match o with | some r => (s.endOut o).stateData f r.addr data | none => s)
  | .hint f => (match o with | some r => (s.endOut o).hintReady f r.addr r.bytes data | none => s)
  | .segment x i => (s.endBytes r (8 * data.length)).segData x i data
  | .response n x i => (s.endBytes r (8 * data.length)).respData n x i data
  | .engine .gate p g => (match s.launchedTask .gate p g with | some k => s.gateData k data | none => s)
  | _ => s.endOut o

/-- Data comes for a read, which the cipher may still refuse where it lies inside the aperture. -/
def State.readOk (s : State) (r : ReadTag) (p : Option Port) (data : List Word) : State :=
  s.endRead r p (fun o s => if o.any s.outRefused then (s.endOut o).refusedRead r o else s.readData r o p data)

/-- The cipher refuses a read at a partition offset (R323, R324): only cores read a sealed page. Nothing is refused in the Voxbin
region. -/
def State.linesRefused (s : State) (r : ReadTag) (t o n : Nat) : Bool :=
  let core := match r with | .engine .cores _ _ => true | _ => false
  t ≠ 8 && (!s.live t || s.rf .MCI_PART t 0 16 36 * 4096 < o + n || (!core && s.meetsSeal t o n))


/-- The qwords of a read that starts at `off` in the first of some lines. -/
def cutLines (off n : Nat) (ws : List Word) : List Word := (ws.drop (off % 64 / 8)).take (n / 8)

/-- The engine command that a read or a write of an engine serves. -/
def State.engineTask (s : State) (e : Option (Cls × Nat × Nat)) : Option Task :=
  match e with
  | some e => (s.launchedTask e.1 e.2.1 e.2.2).bind (fun k => Tab.get? s.tasks k)
  | none => none

/-- The engine that a read serves. -/
def readEngine (r : ReadTag) : Option (Cls × Nat × Nat) := match r with | .engine c p g => some (c, p, g) | _ => none

/-- An engine's requests reach the memory of one partition only (R296): that of the command it runs under the TAG, and a core's that of its
owner. -/
def State.engineReaches (s : State) (e : Option (Cls × Nat × Nat)) (t : Nat) : Bool :=
  (s.engineTask e).all (fun k => k.part == t) && e.all (fun e => e.1 ≠ .cores || (nth s.cores e.2.1 {}).owner == some t)

/-- The lines are those that the oldest read of the tag asked for, where Voxbin keeps account of it, in the memory that the issuer
reaches. -/
def State.linesFor (s : State) (r : ReadTag) (o : Option RdOut) (t off n : Nat) : Bool :=
  s.engineReaches (readEngine r) t && (s.readIssuer r).part.all (fun p => p == t)
  && o.all (fun x => s.partOffset x.addr == some off && n ≤ x.bytes)

/-- A data line of a partition passes a channel (Table 13-1, counters 128 to 143), and is counted in the context of the engine command
that it serves (Table 13-2). -/
def State.lineCount (s : State) (write : Bool) (e : Option (Cls × Nat × Nat)) (t line : Nat) : State :=
  if t = 8 then s
  else
    let m := (s.chPlace t (64 * line)).1
    match s.engineTask e with
    | some k => (s.count (128 + 2 * m + b2n write) 64 k.who).ctxCount k.ctx (if write then 4 else 3) 64
    | none => s.count (128 + 2 * m + b2n write) 64 { part := some t }

/-- Cipher metadata passes the channels of a partition with a line that is read: the nodes of its path that were fetched, in their places
(R320), and, as the cipher's cache decides, the line of its MAC (log 147). -/
def State.metaCount (s : State) (t line nodes : Nat) : State :=
  let ch := s.ilv t
  if t = 8 then s
  else
    let m := (s.chPlace t (64 * line)).1
    let (v, s) := s.draw
    let s := s.count (144 + 2 * m) (64 * (v % 2))
    (List.range nodes).foldl (fun s j =>
      s.count (144 + 2 * (if j = 0 then m else nth ch (line / 8 ^ (j + 1) % max 1 ch.length) m)) 64) s

/-- The lines of a read are counted. -/
def State.linesCount (s : State) (r : ReadTag) (t : Nat) : Nat → List MemLine → State
  | _, [] => s
  | line, l :: ls => ((s.lineCount false (readEngine r) t line).metaCount t line l.nodes.length).linesCount r t (line + 1) ls

/-- A read through the memory port ends (R261, R324, R325): it is refused, a check fails, or its data are deciphered. -/
def State.memRead (s : State) (r : ReadTag) (res : MemResult) : State :=
  s.endRead r (some .mem) (fun o s =>
    match res with
    | .errorFlag =>
      if o.any s.outRefused then (s.endOut o).refusedRead r o else (s.endOut o).failedRead r o 9
    | .lines t off n ls =>
      if !s.linesFor r o t off n then s
      else if s.linesRefused r t off n then (s.endOut o).refusedRead r o
      else
        let (bad, ws) := s.openLines t (off / 64) ls
        let s := s.linesCount r t (off / 64) ls
        if bad.isEmpty then s.readData r o (some .mem) (cutLines off n ws)
        else
          let s := bad.foldl (fun s b => s.cipherFail b.1 t (BitVec.ofNat 64 (64 * b.2.1)) b.2.2) (s.endOut o)
          s.failedRead r o 9)

/-- A read of host memory ends in an error completion or in a completion timeout (R25, R26). -/
def State.hostError (s : State) (r : ReadTag) : State :=
  s.endRead r (some .host) (fun o s => (s.endOut o).readFault r o 8)

/-- A read of host memory ends (R26); an engine's is counted as its data come (Tables 13-1 and 13-2). -/
def State.hostRead (s : State) (r : ReadTag) (res : ReadResult) : State :=
  match res with
  | .ok data =>
    let s := match s.engineTask (readEngine r) with
      | some k => (s.count 176 (8 * data.length) k.who).ctxCount k.ctx 5 (8 * data.length)
      | none => s
    s.readOk r (some .host) data
  | .error => s.hostError r

/-- A write to a line of a partition (R317 to R320, R323, R324): refused above the data size, in a partition that is not live, and in
a sealed page but for the weight gate, which is a page fault of the engine's command; else the line is written back and its page is held. A
line that the engine does not reach (R296) is no such write. -/
def State.lineWritten (s : State) (e : Option (Cls × Nat × Nat)) (t line : Nat) (data : List Word) : State :=
  let fn := (s.engineTask e).map (·.fn)
  if t = 8 then (if e.isSome then s else s.writeLine none t line data)
  else if !s.engineReaches e t then s
  else if !s.live t || s.rf .MCI_PART t 0 16 36 * 64 ≤ line
      || (e.map (·.1) ≠ some .gate && s.meetsSeal t (64 * line) 64) then
    (match e with
     | some e => s.refusedRead (.engine e.1 e.2.1 e.2.2) none
     | none => s.refuseCnt)
  else (((s.releaseFirst t (line / 64)).holdPage t (line / 64)).writeLine fn t line data).lineCount true e t line

/-- A write is acknowledged (R30); the last write that cleans the ways of a move lets the move go on (Table 09-5 step 2). -/
def State.writeAck (s : State) (w : WriteOf) : State :=
  match w with
  | .own => s
  | .line c t l d => s.lineWritten c t l d
  | .wayClean => s.wayClean
  | .response x => s.segRespAck x
  | .inbound src x => s.segInAck src x
  | .hostTarget n => s.fnRecsGo n

/-- A _CTL_ operation is acknowledged (R38). The acknowledgement of a squash or a yield is no answer: that is the done which ends
the run. A scrub is one of a core move or removal, or the one before a launch for another partition; a stop and a drain change
nothing that Voxbin holds; a trim's answer is its done (R252). -/
def State.ctlAnswer (s : State) (c : Cls) (p : Nat) (op : CtlOp) : State :=
  match op with
  | .clean => if c == .cores then s.cleanAck p else s
  | .scrub => if c == .cores then (if (nth s.cores p {}).moving then s.coreScrubbed p else s.scrubAck c p) else s.scrubAck c p
  | _ => s

/-- A vendor-defined request of the management session (R345). -/
def State.vendorRequest (s : State) (q : MgmtReq) : State :=
  if !s.inSession .mgmt then s
  else
    match q with
    | .regRead w o n => s.readReg .mgmt w o n none
    | .regWrite w o n v => s.writeAccess .mgmt w o n v
    | .load (.begin k n) => s.loadBegin k n
    | .load (.data o bs) => s.loadData o bs
    | .load (.commit g d) => s.loadCommit g d
    | .load .abort => s.loadAbort

end Sys2Proof.Machine
end

