-- ==== Sys2Proof/Machine/Acts.lean ====
section
/-! DEFINITION. The frames that the meanings of register commands share: who may make the access, what every access does, and what
follows. -/

namespace Sys2Proof.Machine

/-- A happening of the device that goes on in a global stop: it needs a complete start-up and no double-fault halt (R283, R420,
R457). -/
def actDev (s : State) (t : Nat) (f : State → State) : Host.Outcome State Fault Refusal :=
  if s.ready && !s.haltedAll then fin (f (s.at t)) else .next s

/-- A register write that has a row of its own: it is taken if the writer reaches the window and writes are taken from it at all
(R283, R289, R457, R458, R465); a host access is counted and wakes the processor. -/
def regWr (s : State) (t : Nat) (who : Who) (win : Window) (f : State → State) : Host.Outcome State Fault Refusal :=
  actAny s t (fun s => if s.reaches who win && s.mayWrite who then f (s.hostTouch who true) else s)

/-- As `regWr`, in the global window, for a register that the management port alone writes: a host write is ignored (Table
10-11). -/
def mgmtWr (s : State) (t : Nat) (who : Who) (f : State → State) : Host.Outcome State Fault Refusal :=
  regWr s t who .glob (fun s => if byMgmt who then f s else s)

/-- A register read that has a row of its own; the value leaves through the port that asked. -/
def regRd (s : State) (t : Nat) (who : Who) (win : Window) (r : Reg) (f : State → Word × State) : Host.Outcome State Fault Refusal :=
  actAny s t (fun s =>
    if !s.reaches who win then s.emit (.regData who 0)
    else if !s.mayRead who (some r) then s.emit (.regData who 0)
    else
      let x := f (s.hostTouch who false)
      x.2.emit (.regData who x.1))

end Sys2Proof.Machine
end

