-- ==== Sys2Proof/Machine/Scan.lean ====
section
/-! DEFINITION. The scan image of a global stop (R422, R424): its sections as functions of the state, without any key (R313), and the two
ways in which it leaves. -/

namespace Sys2Proof.Machine

/-- The scan image is there to be written or shifted out: a stop is in force, or one has been asked for after the double-fault halt (R420). -/
def State.scanReady (s : State) : Bool := s.rb .OBS_STOP_CFG 0 0 0 && (s.gstopped || (s.haltedAll && s.obs.haltStop))

/-- The IDs of the scan image's sections (Table 13-9). DESIGN CHOICE (log 47): engine e is a core by its physical number, then the other
engines by theirs from 48 on; the sections stand in the order of their IDs, each at the next 64-byte-aligned offset. -/
def State.scanIds (s : State) : List Nat :=
  (List.range 9).map (· + 1)
  ++ s.presentEngines.map (fun e => 16 + (if e.1 == .cores then e.2 else 48 + engNo e.1 e.2))

/-- The qwords of the register section: the global window up to its last register. -/
def scanWindow : Nat := 0x110408 / 8

/-- The register of the global window at an offset, as the management port reads it; 0 where there is none. -/
def State.windowReg (s : State) (o : Nat) : Word × Bool :=
  match regAt false o with
  | some (r, i, j) => (accRead r.spec.fields (s.regVal true r i j), r.spec.wide)
  | none => (0, false)

/-- Eight bytes of the global window: one register of 64 bits or two of 32. -/
def State.windowQword (s : State) (o : Nat) : Word :=
  let lo := s.windowReg o
  if lo.2 then lo.1 else lo.1 ||| ((s.windowReg (o + 4)).1 <<< 32)

/-- What a section is made of (Table 13-9). -/
def State.scanView (s : State) (id : Nat) : State :=
  match id with
  | 3 => { sqs := s.sqs, crs := s.crs, adm := s.adm, admHeld := s.admHeld, scan := s.scan, regs := s.regs }
  | 4 => { ctxs := s.ctxs, cyc := s.cyc, wd := s.wd, regs := s.regs }
  | 5 => { flights := s.flights, tasks := s.tasks, hints := s.hints }
  | 6 => { events := s.events, sems := s.sems, remoteWaits := s.remoteWaits, remoteAcqs := s.remoteAcqs, remoteHolds := s.remoteHolds }
  | 7 => { regs := s.regs, regrow := s.regrow, td := s.td }
  | 8 => { mcs := { seqs := s.mcs.seqs }, due := s.due, lanes := s.lanes, launches := s.launches, mqSlots := s.mqSlots, mqJobs := s.mqJobs }
  | 9 => { gov := s.gov, regs := s.regs }
  | _ => {}

/-- A section of the scan image from the tables and records that it is made of, whose layouts are not in the spec (R422, log entry 47). -/
opaque Config.scanSection : Nat → State → List Word

/-- The length of a section in qwords: those of the counters are 16 KiB. -/
def State.scanSec (s : State) (id : Nat) : Nat :=
  if id = 1 then scanWindow
  else if id = 2 then 2048
  else if id < 16 then (Config.scanSection id (s.scanView id)).length
  else Config.scanLen (s.reg .OBS_STOP_TIME).toNat id

/-- Qword `k` of a section. -/
def State.scanWordOf (s : State) (id k : Nat) : Word :=
  if id = 1 then s.windowQword (8 * k)
  else if id = 2 then (if k < 1024 then s.reg .OBS_CNT k else s.reg .OBS_SHADOW (k - 1024))
  else if id < 16 then nth (Config.scanSection id (s.scanView id)) k 0
  else BitVec.ofNat 64 (Config.scanWord (s.reg .OBS_STOP_TIME).toNat id k)

/-- The sections with the qword at which each starts, and the qwords of the image, from place `at0` on. -/
def State.scanPlaces (s : State) : Nat → List Nat → List (Nat × Nat) × Nat
  | at0, [] => ([], at0)
  | at0, id :: r =>
    let rest := s.scanPlaces (at0 + (s.scanSec id + 7) / 8 * 8) r
    ((id, at0) :: rest.1, rest.2)

/-- The directory of the scan image and its qwords (R422). -/
def State.scanMap (s : State) : List (Nat × Nat) × Nat :=
  let ids := s.scanIds
  s.scanPlaces ((8 + 2 * ids.length + 7) / 8 * 8) ids

/-- The bytes of the scan image. -/
def State.scanBytes (s : State) : Nat := 8 * s.scanMap.2

/-- Qword `i` of the scan image: the header, the directory and the sections of R422, with zero between them. -/
def State.scanQword (s : State) (i : Nat) : Word :=
  let m := s.scanMap
  match i with
  | 0 => mkWord [(0, 32, 0x56585343), (32, 16, 1), (48, 4, s.node), (52, 4, s.rf .OBS_STOP_STAT 0 0 3 4), (56, 8, m.1.length)]
  | 1 => s.reg .OBS_STOP_TIME
  | 2 => BitVec.ofNat 64 (8 * m.2)
  | 3 => 0 | 4 => 0 | 5 => 0 | 6 => 0 | 7 => 0
  | _ =>
    match m.1[(i - 8) / 2]? with
    | some e => if i % 2 = 0 then mkWord [(0, 16, e.1), (16, 16, Config.scanFormat e.1), (32, 32, 8 * s.scanSec e.1)]
                else BitVec.ofNat 64 (8 * e.2)
    | none =>
      match m.1.find? (fun e => e.2 ≤ i && i < e.2 + s.scanSec e.1) with
      | some e => s.scanWordOf e.1 (i - e.2)
      | none => 0

/-- The qwords of IRQ_DB_PEND in the section of the registers. -/
def dbPendQword : Nat := 0xC4200 / 8

/-- The debug port has shifted out qword `i` of the image: of IRQ_DB_PEND it clears what it has read (R393; log 158). -/
def State.scanSeen (s : State) (i : Nat) : State :=
  match s.scanMap.1.find? (fun e => e.1 == 1) with
  | some e =>
    let q := e.2 + dbPendQword
    s.when (q ≤ i && i < q + 8) (fun s => s.setReg .IRQ_DB_PEND (i - q) 0 0)
  | none => s

/-- A Capture-DR of VXB_SCAN: the next 8 bytes of the image, or zero before a stop or without EN. -/
def State.scanNext (s : State) : State :=
  if s.scanReady then
    let i := s.obs.scanPos
    let s1 := (s.emit (.scan (s.scanQword i))).scanSeen i
    { s1 with obs := { s1.obs with scanPos := i + 1 } }
  else s.emit (.scan 0)

/-- A line of the image is written, up to `size` bytes of the image. -/
def State.scanLine (s : State) (base : Word) (size k : Nat) : State :=
  let here := min 64 (size - 64 * k)
  let a := base + BitVec.ofNat 64 (64 * k)
  let s := s.when (8 ≤ here) (fun s => s.writeMem (s.forFn 0) a ((List.range (here / 8)).map (fun i => s.scanQword (8 * k + i))))
  s.when (here % 8 ≠ 0) (fun s =>
    s.emit (.tail (s.access (s.forFn 0) a) (a + BitVec.ofNat 64 (here / 8 * 8))
      ((wordBytes [s.scanQword (8 * k + here / 8)]).take (here % 8))))

/-- Scan-out to memory ends (R422): done, cut to the buffer, or ended by a write that faults, one among its lines. DEDUCED (log 47): so
does one to an address inside the device-local aperture, which is not written. -/
def State.scanDone (s : State) (fault : Bool) : State :=
  if !s.scanReady || !s.rb .OBS_STOP_CFG 0 0 1 || s.rb .OBS_STOP_STAT 0 0 7 || s.rb .OBS_STOP_STAT 0 0 9 then s
  else
    let n := s.scanBytes
    let room := s.rf .OBS_SCAN_SIZE 0 0 0 40
    let (v, s) := (s.setF .OBS_STOP_STAT 0 0 32 32 n).draw
    let base := s.reg .OBS_SCAN_BASE
    let lines := List.range ((min n room + 63) / 64)
    let good := (if fault then lines.take (v % max 1 lines.length) else lines).takeWhile
      (fun k => s.portOf (base + BitVec.ofNat 64 (64 * k)) == .host)
    let s := good.foldl (fun s k => s.scanLine base (min n room) k) s
    if fault || good.length < lines.length then s.setB .OBS_STOP_STAT 0 0 9 true
    else (s.setB .OBS_STOP_STAT 0 0 7 true).setB .OBS_STOP_STAT 0 0 8 (room < n)

/-- VXB_SCAN's Capture-DR. -/
def State.vxbScan (s : State) : State := (s.selectIr 0x21).scanNext

end Sys2Proof.Machine
end

