-- ==== Sys2Proof/Machine/Host.lean ====
section
/-! DEFINITION. The meanings of the commands of chapter 01: registers, host, memory and engine channels, management port, sensors,
resets, discrete inputs and debug port. -/

namespace Sys2Proof.Machine

abbrev Out := Host.Outcome State Fault Refusal

/-- REGISTER_WRITE (R10, R464, R465, R467). -/
def execRegisterWrite (t : Nat) (who : Who) (win : Window) (off bytes : Nat) (v : Word) (s : State) : Out :=
  actAny s t (fun s => s.writeAccess who win off bytes v)

/-- CLOCK_LOST (R21). -/
def execClockLost (t d : Nat) (s : State) : Out := actAny s t (fun s => s.clockLost d)

/-- HOST_LOSS (R27, R29). -/
def execHostLoss (t : Nat) (c : LossCause) (s : State) : Out := actAny s t (fun s => s.hostLost c)

/-- HOST_LINK_RETURN (R28). -/
def execHostLinkReturn (t width speed : Nat) (s : State) : Out := actAny s t (fun s => s.hostReturn width speed)

/-- HOST_READ_COMPLETION (R26). -/
def execHostReadCompletion (t : Nat) (r : ReadTag) (res : ReadResult) (s : State) : Out := act s t (fun s => s.hostRead r res)

/-- COMPLETION_TIMEOUT (R25, R26). -/
def execCompletionTimeout (t : Nat) (r : ReadTag) (s : State) : Out := act s t (fun s => s.hostError r)

/-- MEMORY_WRITE_ACK (R30, R317). -/
def execMemoryWriteAck (t : Nat) (w : WriteOf) (s : State) : Out := act s t (fun s => s.writeAck w)

/-- MEMORY_READ_DATA (R261, R324, R325). -/
def execMemoryReadData (t : Nat) (r : ReadTag) (res : MemResult) (s : State) : Out := act s t (fun s => s.memRead r res)

/-- LAUNCH_ACK (R235, R238). -/
def execLaunchAck (t : Nat) (c : Cls) (p : Nat) (s : State) : Out := act s t (fun s => s.launchAck c p)

/-- CTL_ACK (R38). -/
def execCtlAck (t : Nat) (c : Cls) (p : Nat) (op : CtlOp) (s : State) : Out := act s t (fun s => s.ctlAnswer c p op)

/-- ENGINE_DONE (R237, R260). -/
def execEngineDone (t : Nat) (c : Cls) (p tag status : Nat) (refused noneLeft : Bool) (next engineNs : Nat) (s : State) : Out :=
  act s t (fun s => s.engineDone { cls := c, peng := p, tag := tag, status := status, refused := refused, noneLeft := noneLeft,
                                    next := next, engineNs := engineNs })

/-- I3C_ENTDAA (R34). -/
def execI3cEntdaa (t a : Nat) (s : State) : Out := actAny s t (fun s => s.entdaa a)

/-- I3C_SETDASA (R34). -/
def execI3cSetdasa (t static a : Nat) (s : State) : Out := actAny s t (fun s => s.setdasa static a)

/-- I3C_RSTACT (R35). -/
def execI3cRstact (t : Nat) (a : RstAct) (s : State) : Out := actAny s t (fun s => s.setRstact a)

/-- I3C_TARGET_RESET (R35). -/
def execI3cTargetReset (t : Nat) (s : State) : Out := actAny s t (fun s => s.targetReset)

/-- MGMT_VENDOR_REQUEST (R345). -/
def execMgmtVendorRequest (t : Nat) (q : MgmtReq) (s : State) : Out := actAny s t (fun s => s.vendorRequest q)

/-- SAG_LINE_RISE (R215). -/
def execSagLineRise (t l : Nat) (s : State) : Out := act s t (fun s => s.sagRise l)

/-- STRETCH_RELEASE (R215). -/
def execStretchRelease (t g : Nat) (s : State) : Out := act s t (fun s => s.stretchDrop g)

/-- METER_SAMPLE (R199, R200): meter 48 is the uncore meter. -/
def execMeterSample (t m nj : Nat) (s : State) : Out :=
  act s t (fun s => if m < 48 then s.coreSample m nj else if m = 48 then s.uncoreSample nj else s)

/-- THERMAL_EVALUATION (R217 to R222); it goes on in a global stop (R420). -/
def execThermalEvaluation (t : Nat) (samples : List (Option Int)) (s : State) : Out := actDev s t (fun s => s.thermal samples)

/-- PRICE_UPDATE (R208 to R211). -/
def execPriceUpdate (t : Nat) (s : State) : Out := act s t (fun s => s.priceUpdate)

/-- VF_CHANGE_COMPLETE (R214). -/
def execVfChangeComplete (t c : Nat) (s : State) : Out := act s t (fun s => s.vfDone c)

/-- COLD_RESET (R2, R36, R45, R53, R455, R456). Fuses that belong to no grade are those of no part, and nothing happens. -/
def execColdReset (t : Nat) (f : Fuses) (mem : BitVec 8) (ok : Bool) (modes : List (Nat × Nat)) (host : Bool) (s : State) : Out :=
  .next (if f.graded then s.coldReset t f mem ok modes host else s)

/-- PLINTH_READ_COMPLETE (R453, R455, R458). -/
def execPlinthReadComplete (t : Nat) (b : List Byte) (c : StartChecks) (s : State) : Out := actAny s t (fun s => s.plinthRead b c)

/-- WARM_RESET (R462); WM_RST_N, or the whole-target action of R35. -/
def execWarmReset (t : Nat) (i3c : Bool) (s : State) : Out := actAny s t (fun s => s.warmReset i3c)

/-- HOST_RESET (R45, R304). -/
def execHostReset (t : Nat) (s : State) : Out := actAny s t (fun s => s.hostReset)

/-- DEBUG_PORT_RESET (R44). -/
def execDebugPortReset (t : Nat) (s : State) : Out := actAny s t (fun s => s.debugReset)

/-- DIN_EDGE (R48, R51, R52). -/
def execDinEdge (t n : Nat) (pin : Bool) (s : State) : Out := actAny s t (fun s => s.dinEdge n pin)

/-- DIN_STUCK (R50). -/
def execDinStuck (t n : Nat) (s : State) : Out := act s t (fun s => s.dinStuck n)

/-- DIN_PEND_CLEAR (R50). -/
def execDinPendClear (t : Nat) (who : Who) (n : Nat) (s : State) : Out := regWr s t who .glob (fun s => s.dinPendClear n)

/-- DIN_UNQUENCH (R50). -/
def execDinUnquench (t : Nat) (who : Who) (n : Nat) (s : State) : Out := regWr s t who .glob (fun s => s.dinUnquench n)

/-- EXTEST (R424): the boundary-scan register is the S9's; nothing of Voxbin but the selected instruction changes. -/
def execExtest (t : Nat) (s : State) : Out := actAny s t (fun s => s.selectIr 0x00)

/-- SAMPLE (R424). -/
def execSample (t : Nat) (s : State) : Out := actAny s t (fun s => s.selectIr 0x01)

/-- PRELOAD (R424). -/
def execPreload (t : Nat) (s : State) : Out := actAny s t (fun s => s.selectIr 0x02)

/-- IDCODE (R424). -/
def execIdcode (t : Nat) (s : State) : Out := actAny s t (fun s => s.selectIr 0x03)

/-- A code that selects the bypass register (R424): BYPASS, and every code that the table does not list. -/
def bypassCode (c : Nat) : Nat := if [0x00, 0x01, 0x02, 0x03, 0x20, 0x21].contains (c % 256) then 0xFF else c % 256

/-- BYPASS, or any unlisted code (R424). -/
def execBypass (t code : Nat) (s : State) : Out := actAny s t (fun s => s.selectIr (bypassCode code))

/-- VXB_STOP (R424). -/
def execVxbStop (t : Nat) (s : State) : Out := actAny s t (fun s => s.vxbStop)

/-- VXB_SCAN (R422, R424). -/
def execVxbScan (t : Nat) (s : State) : Out := actAny s t (fun s => s.vxbScan)

/-- CLOCK_RETURN (R21). -/
def execClockReturn (t d : Nat) (s : State) : Out := actAny s t (fun s => s.clockReturn d)

/-- SAG_LINE_FALL (R215). -/
def execSagLineFall (t l : Nat) (s : State) : Out := act s t (fun s => s.sagFall l)

/-- RC_REGISTER_READ (R10, R467). -/
def execRcRegisterRead (t : Nat) (who : Who) (win : Window) (off bytes : Nat) (remote : Option RemoteVal) (s : State) : Out :=
  actAny s t (fun s => s.readReg who win off bytes remote)

/-- HDR_DDR_ENTRY (R34). -/
def execHdrDdrEntry (t : Nat) (s : State) : Out := actAny s t (fun s => s.hdrDdr)

end Sys2Proof.Machine
end

