-- ==== Sys2Proof/Machine/Rings.lean ====
section
/-! DEFINITION. The meanings of the commands of chapter 02: doorbells and indices, the scanner, the admin commands, retirement. -/

namespace Sys2Proof.Machine

/-- A read of a table entry on the way (R275, R288): what follows does not happen when the entry shows an uncorrectable error. -/
def State.reading (s : State) (tab : Nat) (e : TabErr) (f : State → State) : State :=
  if s.regrow.injBad.contains tab then s.readTab tab e else f (s.readTab tab e)

/-- The value of a doorbell write of 4 or 8 bytes (R9). -/
def dbValue (bytes : Nat) (v : Word) : Word := if bytes = 8 then v else BitVec.ofNat 64 (fld v 0 32)

/-- A doorbell write reads the queue table. -/
def State.ringBell (s : State) (fn slot bytes : Nat) (v : Word) : State :=
  s.reading tabQueue (.fn fn) (fun s => s.doorbell fn slot (dbValue bytes v))

/-- A doorbell access; one of any other width than 4 and 8 bytes touches no register and has no side effect (R467). -/
def bellAccess (t fn slot bytes : Nat) (v : Word) (s : State) : Out :=
  if bytes = 4 || bytes = 8 then regWr s t (.fn fn) (.own fn) (fun s => s.ringBell fn slot bytes v) else actAny s t (fun s => s)

/-- SQ_DOORBELL (R68, R72). -/
def execSqDoorbell (t fn slot bytes : Nat) (v : Word) (s : State) : Out := bellAccess t fn slot bytes v s

/-- URGENT_DOORBELL (R72): the write is the same; URGENT, or an SQ that is never polled, makes it urgent. -/
def execUrgentDoorbell (t fn slot bytes : Nat) (v : Word) (s : State) : Out := bellAccess t fn slot bytes v s

/-- The function that owns a queue, F0 for the admin SQ. -/
def State.queueFn (s : State) (q : Option Nat) : Nat :=
  match q with
  | some q => (match Tab.get? s.sqs q with | some x => x.fn | none => 0)
  | none => 0

/-- A visit, which reads the queue table. -/
def State.visitRead (s : State) (q : Option Nat) (urgent : Bool) : State :=
  s.reading tabQueue (.fn (s.queueFn q)) (fun s => s.visit q urgent)

/-- The oldest urgent request is served (R72). -/
def State.urgentVisit (s : State) : State :=
  match s.scan.urgent with
  | [] => s
  | q :: r => ({ s with scan := { s.scan with urgent := r } }).visitRead q true

/-- A short SQ can fetch: its CR is not held and nothing tears it down. One that cannot keeps its place (R76). -/
def State.shortOpen (s : State) (q : Option Nat) : Bool :=
  match q with
  | some q => (Tab.get? s.sqs q).any s.sqOpen
  | none => s.admOpen

/-- The short SQ that comes next (R76): behind urgent requests, once buffers are free. -/
def State.nextShort (s : State) : Option (Option Nat) :=
  if s.scan.urgent.isEmpty && 0 < s.poolFree then s.scan.short.find? s.shortOpen else none

/-- A short SQ is visited again. -/
def State.shortVisit (s : State) : State :=
  match s.nextShort with
  | some q => s.visitRead q false
  | none => s

/-- The most overdue SQ is visited, behind urgent requests and short SQs, and falls due an effective interval later (R71, R72). -/
def State.scheduledVisit (s : State) : State :=
  if !s.scan.urgent.isEmpty || s.nextShort.isSome then s
  else
    match s.overdue with
    | none => s
    | some none => (s.visited none).visitRead none false
    | some (some q) => ((s.visited (some q)).visitRead (some q) false).updSq q (fun x => { x with due := s.ref + s.effNs x })

/-- URGENT_VISIT (R72, R73). -/
def execUrgentVisit (t : Nat) (s : State) : Out := actFront s t (fun s => s.urgentVisit)

/-- SCHEDULED_VISIT (R72, R73). -/
def execScheduledVisit (t : Nat) (s : State) : Out := actFront s t (fun s => s.scheduledVisit)

/-- SHORT_SQ_VISIT (R76). -/
def execShortSqVisit (t : Nat) (s : State) : Out := actFront s t (fun s => s.shortVisit)

/-- ENTRY_FETCH_DATA (R60, R61, R75, R78); the cipher still refuses what R324 refuses. -/
def execEntryFetchData (t : Nat) (sq : Option Nat) (data : List Word) (s : State) : Out :=
  act s t (fun s => s.readOk (match sq with | some q => .entryFetch q | none => .adminFetch) none data)

/-- A freed flight-table entry goes to the waiting SQ that was visited first (R75); it keeps its place while it has more entries
than there is room for. -/
def State.grantFlight (s : State) : State :=
  match s.waiters with
  | [] => s
  | q :: _ => s.acceptLoop q 8

/-- FLIGHT_ENTRY_GRANT (R75). -/
def execFlightEntryGrant (t : Nat) (s : State) : Out := actFront s t (fun s => s.grantFlight)

/-- The window that holds a consumer index. -/
def ciWindow (g : CiTarget) : Window :=
  match g with
  | .cr n _ => .own n
  | .admin n => .own n
  | .traceFn n => .own n
  | .traceRing _ => .glob

/-- A write of a consumer index (R69). -/
def State.writeCi (s : State) (g : CiTarget) (v : Half) : State :=
  match g with
  | .cr n k => s.writeCrCi n k v
  | .admin n => s.writeAdmCi n v
  | .traceFn n => s.writeFnRingCi n v
  | .traceRing r => s.writeRingCi r v

/-- CONSUMER_INDEX_WRITE (R69, R406). -/
def execConsumerIndexWrite (t : Nat) (who : Who) (g : CiTarget) (v : Half) (s : State) : Out :=
  regWr s t who (ciWindow g) (fun s => s.writeCi g v)

/-- ADMIN_DOORBELL (R68, R83, R470). -/
def execAdminDoorbell (t fn : Nat) (v : Half) (s : State) : Out := regWr s t (.fn fn) (.own fn) (fun s => s.adminDoorbell fn v)

/-- ADMIN_RESUME (R92). -/
def execAdminResume (t fn : Nat) (faultAfter : Option Nat) (s : State) : Out :=
  regWr s t (.fn fn) (.own fn) (fun s => s.adminResume fn faultAfter)

/-- ADMIN_NOP (R78, R83). -/
def execAdminNop (t idx : Nat) (w : WriteFault) (s : State) : Out :=
  actFront s t (fun s => s.runAdm idx 0 (fun s e => s.doNop e w))

/-- CREATE_SQ (R54, R66, R78). -/
def execCreateSq (t idx : Nat) (w : WriteFault) (s : State) : Out :=
  actFront s t (fun s => s.runAdm idx 1 (fun s e => s.doCreateSq e w))

/-- DESTROY_SQ (R86). -/
def execDestroySq (t idx : Nat) (s : State) : Out := actFront s t (fun s => s.runAdm idx 2 (fun s e => s.doDestroySq e))

/-- CREATE_CR (R54, R78). -/
def execCreateCr (t idx : Nat) (w : WriteFault) (s : State) : Out :=
  actFront s t (fun s => s.runAdm idx 3 (fun s e => s.doCreateCr e w))

/-- DESTROY_CR (R78, R93). -/
def execDestroyCr (t idx : Nat) (w : WriteFault) (s : State) : Out :=
  actFront s t (fun s => s.runAdm idx 4 (fun s e => s.doDestroyCr e w))

/-- CREATE_CONTEXT (R154). -/
def execCreateContext (t idx : Nat) (w : WriteFault) (s : State) : Out :=
  actFront s t (fun s => s.runAdm idx 5 (fun s e => s.doCreateCtx e w))

/-- DESTROY_CONTEXT (R132, R138, R169). -/
def execDestroyContext (t idx : Nat) (w : WriteFault) (s : State) : Out :=
  actFront s t (fun s => s.runAdm idx 6 (fun s e => s.doDestroyCtx e w))

/-- SET_SHARE (R159). -/
def execSetShare (t idx : Nat) (w : WriteFault) (s : State) : Out :=
  actFront s t (fun s => s.runAdm idx 7 (fun s e => s.doSetShare e w))

/-- UNBIND of a BIND_EVENTS entry (Table 02-8). -/
def AdmEntry.unbinds (e : AdmEntry) : Bool := e.f 1 33 1 = 1

/-- BIND_EVENTS (R133). -/
def execBindEvents (t idx : Nat) (w : WriteFault) (s : State) : Out :=
  actFront s t (fun s => s.runAdm idx 8 (fun s e => if e.unbinds then s else s.doBind e false w))

/-- BIND_EVENTS with UNBIND (R133). -/
def execUnbindEvents (t idx : Nat) (w : WriteFault) (s : State) : Out :=
  actFront s t (fun s => s.runAdm idx 8 (fun s e => if e.unbinds then s.doBind e true w else s))

/-- QUERY (R78). -/
def execQuery (t idx : Nat) (destFaults : Bool) (w : WriteFault) (s : State) : Out :=
  actFront s t (fun s => s.runAdm idx 9 (fun s e => s.doQuery e destFaults w))

/-- SET_CYCLIC from the management port: the outcome stands in CYC_STAT. -/
def State.mgmtCyclic (s : State) (slots : Nat) (image : Option (List Word)) : State :=
  if s.inSession .mgmt then (s.loadCyclic slots image).2 else s

/-- SET_CYCLIC (R168, R169). -/
def execSetCyclic (t : Nat) (src : AdmSrc) (image : Option (List Word)) (w : WriteFault) (s : State) : Out :=
  match src with
  | .queue idx => actFront s t (fun s => s.runAdm idx 10 (fun s e => s.doSetCyclic e image w))
  | .mgmt n => act s t (fun s => s.mgmtCyclic n image)

/-- RESUME_CR (R92). -/
def execResumeCr (t idx : Nat) (faultAfter : Option Nat) (w : WriteFault) (s : State) : Out :=
  actFront s t (fun s => s.runAdm idx 11 (fun s e => s.doResumeCr e faultAfter w))

/-- A submission has nothing left to do: it has reached the end of its buffer and left its sequencer. -/
def Flight.atRest (x : Flight) : Bool :=
  x.off == x.length && x.loops.isEmpty && x.call.isNone && x.wait.isNone && x.seqr.isNone && x.readySince.isNone

/-- A submission retires (R64, R65, R124, R125): a MARKER once it waits for nothing, a STREAM at the end of its buffer, or after an early
end once its engine commands are over, unless its SQ is being destroyed, whose status then outranks (R149). The completion writer stands
still during regrowth (Table 08-6 step 1). -/
def State.retire (s : State) (f : Nat) (w : WriteFault) : State :=
  match Tab.get? s.flights f with
  | none => s
  | some x =>
    if s.regrowing || x.inTeardown || !x.out.isEmpty || !x.pend.isEmpty || x.onCrSpace then s
    else if x.marker then (if x.wait.isNone then s.complete f 0 0 0 0 s.now x.arg w else s)
    else
      match x.ending with
      | some e =>
        if (Tab.get? s.sqs x.sq).any (fun q => q.state == .destroying) && e.status ≠ 0xE then s
        else s.complete f e.status e.off e.layer e.op e.at0 (BitVec.ofNat 64 e.off) w
      | none => if x.atRest then s.complete f 0 0 x.lastLayer x.lastOp s.now (nth x.c 0 0) w else s

/-- SUBMISSION_RETIRE (R62 to R67, R90, R91). -/
def execSubmissionRetire (t f : Nat) (w : WriteFault) (s : State) : Out := act s t (fun s => s.retire f w)

end Sys2Proof.Machine
end

