-- ==== Sys2Proof/Machine/Commands.lean ====
section
/-! DEFINITION. The meanings of the commands of chapter 03: the command at the place of a submission that runs on a stream
sequencer, the ROM routines, and what the stream sequencers do between commands. -/

namespace Sys2Proof.Machine

/-- An event of this node is read in its table; one at another home is not (R275). -/
def State.readingEvent (s : State) (h : Half) (f : State → State) : State :=
  if evNode h = s.node then s.reading tabEvent (.event (evIdx h)) f else f s

/-- A semaphore of this node is read in its table. -/
def State.readingSem (s : State) (node i : Nat) (f : State → State) : State :=
  if node = s.node then s.reading tabSem (.sem i) f else f s

/-- The event handle in word 1 of a RECORD or a WAIT. -/
def cmdEvent (ws : List Word) : Half := (cw ws 1).setWidth 32

/-- NOP (R97). -/
def execNop (t f : Nat) (s : State) : Out :=
  actFront s t (fun s => s.runCmd f 0x00 (fun s x ws => (s.traceSync x (cw ws 0) 0).pass f))

/-- DISPATCH (R103). -/
def execDispatch (t f : Nat) (list : Option (List Word)) (s : State) : Out :=
  actFront s t (fun s => s.runCmd f 0x01 (fun s x ws => s.cmdDispatch f x ws list))

/-- BIN (R104). -/
def execBin (t f : Nat) (s : State) : Out :=
  actFront s t (fun s => s.runCmd f 0x02 (fun s x ws => s.engCmd f x ws (fun _ => true)))

/-- RENDER (R104). -/
def execRender (t f : Nat) (entry : Option Word) (s : State) : Out :=
  actFront s t (fun s => s.runCmd f 0x03 (fun s x ws => s.cmdRender f x ws entry))

/-- COPY (R105). -/
def execCopy (t f : Nat) (s : State) : Out :=
  actFront s t (fun s => s.runCmd f 0x04 (fun s x ws => s.engCmd f x ws (fun _ => true)))

/-- FILL (R105). -/
def execFill (t f : Nat) (s : State) : Out :=
  actFront s t (fun s => s.runCmd f 0x05 (fun s x ws => s.engCmd f x ws (fun _ => true)))

/-- COMPOSE (R106): where some layer carries generated content, READY_EV must be a handle that the submission may name
(R112). DEDUCED (log 13): without generated content the field is not checked. -/
def execCompose (t f : Nat) (s : State) : Out :=
  actFront s t (fun s => s.runCmd f 0x06 (fun s x ws => s.engCmd f x ws (fun r => fld (cw r 1) 8 8 == 0 || s.handleOk x ((cw r 5).setWidth 32))))

/-- LOAD_WEIGHTS (R110). -/
def execLoadWeights (t f : Nat) (s : State) : Out :=
  actFront s t (fun s => s.runCmd f 0x07 (fun s x ws => s.engCmd f x ws (fun r => s.sealedDst x r)))

/-- LINK_PUT (R111). -/
def execLinkPut (t f : Nat) (s : State) : Out :=
  actFront s t (fun s => s.runCmd f 0x08 (fun s x ws => s.engCmd f x ws (fun r => s.linkOk x r)))

/-- LINK_GET (R111). -/
def execLinkGet (t f : Nat) (s : State) : Out :=
  actFront s t (fun s => s.runCmd f 0x09 (fun s x ws => s.engCmd f x ws (fun r => s.linkOk x r)))

/-- RECORD (R113, R128). -/
def execRecord (t f : Nat) (s : State) : Out :=
  actFront s t (fun s => s.runCmd f 0x10 (fun s x ws => s.readingEvent (cmdEvent ws) (fun s => s.cmdRecord f x ws)))

/-- WAIT (R130, R132, R134). -/
def execWait (t f : Nat) (s : State) : Out :=
  actFront s t (fun s => s.runCmd f 0x11 (fun s x ws => s.readingEvent (cmdEvent ws) (fun s => s.cmdWait f x ws)))

/-- SEM_ACQUIRE (R137). -/
def execSemAcquire (t f : Nat) (s : State) : Out :=
  actFront s t (fun s => s.runCmd f 0x12 (fun s x ws =>
    s.readingSem (fld (cw ws 1) 28 4) (fld (cw ws 1) 0 12) (fun s => s.cmdSemAcquire f x ws)))

/-- SEM_RELEASE (R137). -/
def execSemRelease (t f : Nat) (s : State) : Out :=
  actFront s t (fun s => s.runCmd f 0x13 (fun s x ws =>
    s.readingSem (fld (cw ws 1) 28 4) (fld (cw ws 1) 0 12) (fun s => s.cmdSemRelease f x ws)))

/-- FENCE (R102): the submission has parked until its engine commands are complete. -/
def execFence (t f : Nat) (s : State) : Out :=
  actFront s t (fun s => s.runCmd f 0x14 (fun s x ws => (s.traceSync x (cw ws 0) 0).pass f))

/-- SET_SCALAR (R115). -/
def execSetScalar (t f : Nat) (mem : Option Word) (s : State) : Out :=
  actFront s t (fun s => s.runCmd f 0x18 (fun s x ws => s.cmdSetScalar f x ws mem))

/-- ADD_SCALAR (R115). -/
def execAddScalar (t f : Nat) (s : State) : Out :=
  actFront s t (fun s => s.runCmd f 0x19 (fun s x ws => s.cmdAddScalar f x ws))

/-- COMPARE (R115). -/
def execCompare (t f : Nat) (s : State) : Out :=
  actFront s t (fun s => s.runCmd f 0x1A (fun s x ws => s.cmdCompare f x ws))

/-- SKIP_IF (R116). -/
def execSkipIf (t f : Nat) (s : State) : Out :=
  actFront s t (fun s => s.runCmd f 0x1B (fun s x ws => s.cmdSkipIf f x ws))

/-- REPEAT (R118). -/
def execRepeat (t f : Nat) (s : State) : Out :=
  actFront s t (fun s => s.runCmd f 0x1C (fun s x ws => s.cmdRepeat f x ws))

/-- END_REPEAT (R117, R118). -/
def execEndRepeat (t f : Nat) (s : State) : Out :=
  actFront s t (fun s => s.runCmd f 0x1D (fun s x _ => s.cmdEndRepeat f x))

/-- CALL (R119). -/
def execCall (t f : Nat) (s : State) : Out :=
  actFront s t (fun s => s.runCmd f 0x1E (fun s x ws => s.cmdCall f x ws))

/-- SET_AREG (R117). -/
def execSetAreg (t f : Nat) (s : State) : Out :=
  actFront s t (fun s => s.runCmd f 0x1F (fun s x ws => s.cmdSetAreg f x ws))

/-- TIMESTAMP (R121). -/
def execTimestamp (t f : Nat) (fault : Bool) (s : State) : Out :=
  actFront s t (fun s => s.runCmd f 0x20 (fun s x ws => s.cmdTimestamp f x ws fault))

/-- WATCH (R122). -/
def execWatch (t f : Nat) (s : State) : Out :=
  actFront s t (fun s => s.runCmd f 0x21 (fun s x ws => s.cmdWatch f x ws))

/-- MARK (R121). -/
def execMark (t f : Nat) (s : State) : Out :=
  actFront s t (fun s => s.runCmd f 0x22 (fun s x ws => s.cmdMark f x ws))

/-- PRELOAD_HINT (R121, R246). -/
def execPreloadHint (t f : Nat) (s : State) : Out :=
  actFront s t (fun s => s.runCmd f 0x23 (fun s x ws => s.cmdHint f x ws))

/-! ## The ROM routines (R120, Table 03-20) -/

/-- LAYER_CHAIN: 24 words per descriptor. -/
def execLayerChain (t f : Nat) (data : Option (List Word)) (s : State) : Out :=
  actFront s t (fun s => s.romCall f 0 (fun _ c => s.romList f c (24 * (c.p 1).toNat) data (c.p 1).toNat))

/-- ARG0 and ARG1 that TILE_WALK gives a tile: its list entry address and its coordinates. -/
def tileArgs (t : Word × Nat × Nat) : List Word := [romAddr t.1, mkWord [(16, 16, t.2.1), (0, 16, t.2.2)]]

/-- TILE_WALK: it reads the BIN's result block, the lists of that length, and the template; `tiles` names the non-empty tiles that
the lists hold, each by list entry address and coordinates x and y. A part that is none faults. -/
def State.tileWalk (s : State) (f : Nat) (c : Call) (result template : Option (List Word)) (tiles : Option (List (Word × Nat × Nat))) :
    State :=
  let part := (Tab.get? s.flights f).bind (fun x => s.ctxPart x.ctx)
  let s := s.readMem (.cmdData f) (c.p 0) 16
  match s.unlessRefused part (c.p 0) 16 result with
  | none => (s.noteRefused part (c.p 0) 16).guilty f 8 none (c.p 0)
  | some r =>
    let used := (cw r 0).toNat
    let s := s.when (0 < used) (fun s => s.readMem (.cmdData f) (c.p 1) used)
    match s.unlessRefused part (c.p 1) used tiles with
    | none => (s.noteRefused part (c.p 1) used).guilty f 8 none (c.p 1)
    | some ts =>
      let s := s.readMem (.cmdData f) (c.p 2) 176
      match s.unlessRefused part (c.p 2) 176 template with
      | none => (s.noteRefused part (c.p 2) 176).guilty f 8 none (c.p 2)
      | some l =>
        if l.length < 22 then s
        else s.startRom f (l.take 22 ++ ts.flatMap tileArgs) ts.length [(7, BitVec.ofNat 64 ts.length)]

/-- TILE_WALK. -/
def execTileWalk (t f : Nat) (b : TileBlocks) (tiles : Option (List (Word × Nat × Nat))) (s : State) : Out :=
  actFront s t (fun s => s.romCall f 1 (fun _ c => s.tileWalk f c b.result b.template tiles))

/-- COPY_2D: one COPY for each of the P3 rows. -/
def execCopy2d (t f : Nat) (s : State) : Out :=
  actFront s t (fun s => s.romCall f 2 (fun _ c => s.startRom f [] (c.p 3).toNat []))

/-- COPY_3D: COPY_2D for each of the planes. -/
def execCopy3d (t f : Nat) (s : State) : Out :=
  actFront s t (fun s => s.romCall f 3 (fun _ c => s.startRom f [] ((c.p 3).toNat * fld (c.p 7) 0 32) []))

/-- COPY_LIST: entries of three words. -/
def execCopyList (t f : Nat) (data : Option (List Word)) (s : State) : Out :=
  actFront s t (fun s => s.romCall f 4 (fun _ c => s.romList f c (3 * (c.p 1).toNat) data (c.p 1).toNat))

/-- FILL_2D: one FILL for each of the P2 rows. -/
def execFill2d (t f : Nat) (s : State) : Out :=
  actFront s t (fun s => s.romCall f 5 (fun _ c => s.startRom f [] (c.p 2).toNat []))

/-- WAIT_ALL: pairs of a handle and a target. -/
def execWaitAll (t f : Nat) (data : Option (List Word)) (s : State) : Out :=
  actFront s t (fun s => s.romCall f 6 (fun _ c => s.romList f c (2 * (c.p 1).toNat) data (c.p 1).toNat))

/-- RECORD_LIST: pairs of a handle with its mode, and a value. -/
def execRecordList (t f : Nat) (data : Option (List Word)) (s : State) : Out :=
  actFront s t (fun s => s.romCall f 7 (fun _ c => s.romList f c (2 * (c.p 1).toNat) data (c.p 1).toNat))

/-- The first row and the number of rows of a band (Table 03-20, BAND_SPLIT). -/
def bandRows (rows bands i halo : Nat) : Nat × Nat :=
  let start := rows * i / bands - halo
  (start, min rows (rows * (i + 1) / bands + halo) - start)

/-- BAND_SPLIT. -/
def execBandSplit (t f : Nat) (s : State) : Out :=
  actFront s t (fun s => s.romCall f 8 (fun _ c =>
    let b := bandRows (c.p 0).toNat (c.p 1).toNat (c.p 2).toNat (c.p 3).toNat
    s.startRom f [] 0 [(6, BitVec.ofNat 64 b.1), (7, BitVec.ofNat 64 b.2)]))

/-- HALO_PUT: the neighbours that there are. -/
def execHaloPut (t f : Nat) (s : State) : Out :=
  actFront s t (fun s => s.romCall f 9 (fun _ c => s.startRom f [] (b2n (!bitOf (c.p 4) 8) + b2n (!bitOf (c.p 4) 9)) []))

/-- FRAME_INDEX with the value of its event: read here, or brought from a remote home; without an answer it waits (R135). DESIGN CHOICE (log
126): a P0 whose upper half is not zero is malformed. -/
def State.frameIndex (s : State) (f : Nat) (x : Flight) (c : Call) (remote : Option RemoteVal) : State :=
  let h : Half := (c.p 0).setWidth 32
  let put (v : Word) : State := s.startRom f [] 0 [(5, BitVec.ofNat 64 (v.toNat % max 1 (c.p 1).toNat))]
  if fld (c.p 0) 32 32 ≠ 0 || !s.handleOk x h then s.malformed f
  else if evNode h = s.node then put (Tab.getD (s.events.map (fun e => (e.1, e.2.value))) (evIdx h) 0)
  else if !s.nodeLive (evNode h) then s.endEarly f 2
  else
    match remote with
    | some (.value v _) => put v
    | some .unbound => s.malformed f
    | some .lost => s.endEarly f 2
    | none => s

/-- FRAME_INDEX. -/
def execFrameIndex (t f : Nat) (remote : Option RemoteVal) (s : State) : Out :=
  actFront s t (fun s => s.romCall f 10 (fun x c => s.readingEvent ((c.p 0).setWidth 32) (fun s => s.frameIndex f x c remote)))

/-! ## Between commands -/

/-- BUFFER_BLOCK_READ (R123); the cipher still refuses what R324 refuses. -/
def execBufferBlockRead (t f off : Nat) (data : List Word) (s : State) : Out :=
  act s t (fun s => s.readOk (.buffer f off) none data)

/-- SEQUENCER_YIELD (R123). -/
def execSequencerYield (t f : Nat) (s : State) : Out := actFront s t (fun s => s.seqYield f)

/-- WAIT_TIMEOUT_EXPIRY (R114, R152); a soft stop does not hold it back, the walk of a regrowth does (Table 08-6 step 5). -/
def execWaitTimeoutExpiry (t f : Nat) (s : State) : Out := act s t (fun s => if s.regrowing then s else s.waitTimeout f)

/-- WATCH_RESULT (R412 to R417). -/
def execWatchResult (t f : Nat) (task : Option Nat) (data : Option (List Byte)) (s : State) : Out :=
  act s t (fun s => s.watchResult f task data)

end Sys2Proof.Machine
end

