-- ==== Sys2Proof/Machine/Times.lean ====
section
/-! DEFINITION. The meanings of the commands of chapters 04 to 07: events and semaphores from the host, the scheduler's picks, launches,
the cyclic table, and the governor. -/

namespace Sys2Proof.Machine

/-! ## Events and semaphores (chapter 04) -/

/-- The handle in EV_FN_HANDLE of a function. -/
def State.fnHandle (s : State) (n : Nat) : Half := BitVec.ofNat 32 (s.rf .EV_FN_HANDLE n 0 0 32)

/-- EV_FN_RECORD_WRITE (R136). -/
def execEvFnRecordWrite (t fn : Nat) (r : FnRecord) (s : State) : Out :=
  regWr s t (.fn fn) (.own fn) (fun s => s.readingEvent (s.fnHandle fn) (fun s => s.fnRecord fn r.v r.behind))

/-- EV_FN_VALUE_READ (R136). -/
def execEvFnValueRead (t fn : Nat) (remote : Option RemoteVal) (s : State) : Out :=
  regRd s t (.fn fn) (.own fn) .EV_FN_VALUE (fun s => ((s.evFnValue fn remote).1, s.afterRead .EV_FN_VALUE fn 0 remote))

/-- SEM_CFG_WRITE (R137). -/
def execSemCfgWrite (t : Nat) (who : Who) (i : Nat) (v : Word) (s : State) : Out := regWr s t who .glob (fun s => s.semCfgWrite i v)

/-- PROXY_RETRY (R134). -/
def execProxyRetry (t : Nat) (h : Half) (s : State) : Out := act s t (fun s => s.proxyRetry h)

/-! ## Picks and launches (chapters 05 and 07) -/

/-- A pick of a submission, which reads the context table and the flight table. -/
def State.pickSeq (s : State) (n : Nat) : State :=
  if !s.seqFree n then s
  else
    match s.seqChoice with
    | none => s
    | some f =>
      let c := ((Tab.get? s.flights f).map (fun (x : Flight) => x.ctx)).getD 0
      s.reading tabCtx (.ctx ((s.ctxFn c).getD 0) c) (fun s => s.reading tabFlight (.flight f) (fun s => s.seqPick n))

/-- SEQUENCER_PICK (R161, R162). -/
def execSequencerPick (t n : Nat) (s : State) : Out := actFront s t (fun s => s.pickSeq n)

/-- ENGINE_PICK (R161, R162). -/
def execEnginePick (t : Nat) (c : Cls) (p : Nat) (s : State) : Out := actFront s t (fun s => s.engPick c p)

/-- CORES_PICK (R161, R242). -/
def execCoresPick (t p : Nat) (s : State) : Out := actFront s t (fun s => s.corePick p)

/-- GATHER_TIMEOUT (R242). -/
def execGatherTimeout (t k : Nat) (s : State) : Out := actFront s t (fun s => s.gatherEnd k)

/-- LAUNCH (R235, R236). -/
def execLaunch (t : Nat) (s : State) : Out := actFront s t (fun s => s.launchNext)

/-- REMAINDER_STREAM_END (R244). -/
def execRemainderStreamEnd (t c : Nat) (s : State) : Out := act s t (fun s => s.remainderEnd c)

/-- SHADOW_BANK_WRITE_ACK (R241). -/
def execShadowBankWriteAck (t c : Nat) (s : State) : Out := act s t (fun s => s.mqAck c)

/-! ## The cyclic table (chapter 05) -/

/-- PERIOD_START (R169 to R171). -/
def execPeriodStart (t : Nat) (s : State) : Out := act s t (fun s => s.fixedStart)

/-- VSYNC_FREE_RUN (R172). -/
def execVsyncFreeRun (t : Nat) (s : State) : Out := act s t (fun s => s.vsyncFreeRun)

/-- SLOT_PRELOAD (R178, R248). -/
def execSlotPreload (t j : Nat) (s : State) : Out := actFront s t (fun s => s.slotPreload j)

/-- SLOT_CLOCK_RAISE (R214). -/
def execSlotClockRaise (t j : Nat) (s : State) : Out := act s t (fun s => s.slotClockRaise j)

/-- SLOT_START (R179, R181). -/
def execSlotStart (t j : Nat) (s : State) : Out := act s t (fun s => s.slotStart j)

/-- SLOT_DEADLINE (R183, R184). -/
def execSlotDeadline (t i : Nat) (s : State) : Out := act s t (fun s => s.slotDeadline i)

/-- CYC_EN_WRITE (R170). -/
def execCycEnWrite (t : Nat) (who : Who) (en : Bool) (s : State) : Out := regWr s t who .glob (fun s => s.setCycEn en)

/-- INHERITANCE_DETECT (R195). -/
def execInheritanceDetect (t f h : Nat) (s : State) : Out := act s t (fun s => s.inheritDetect f h)

/-! ## The governor (chapter 06) -/

/-- GOV_CAP_MGMT_WRITE (R205, R207). -/
def execGovCapMgmtWrite (t : Nat) (who : Who) (v : Word) (s : State) : Out := mgmtWr s t who (fun s => s.writeCapMgmt v)

/-- GOV_CAP_F0_WRITE (R207). -/
def execGovCapF0Write (t : Nat) (who : Who) (v : Word) (s : State) : Out := regWr s t who .glob (fun s => s.writeCapF0 v)

/-- PRICE_TAB_COMMIT (R209). -/
def execPriceTabCommit (t : Nat) (who : Who) (s : State) : Out := mgmtWr s t who (fun s => s.priceCommit)

/-- PRICE_TAB_RESTORE (R209). -/
def execPriceTabRestore (t : Nat) (who : Who) (s : State) : Out := mgmtWr s t who (fun s => s.priceRestore)

/-- LEARN_CLEAR (R203). -/
def execLearnClear (t : Nat) (who : Who) (s : State) : Out := regWr s t who .glob (fun s => s.learnClear)

/-- TLIMIT_WRITE (R220). -/
def execTlimitWrite (t : Nat) (who : Who) (v : Word) (s : State) : Out :=
  regWr s t who .glob (fun s => s.writeTlimit (byMgmt who) v)

/-- SAG_EN_WRITE (R216). -/
def execSagEnWrite (t : Nat) (who : Who) (v : Word) (s : State) : Out := mgmtWr s t who (fun s => s.writeSag v)

/-- PROFILE_WRITE (R223). -/
def execProfileWrite (t : Nat) (who : Who) (v : Word) (s : State) : Out :=
  regWr s t who .glob (fun s => s.writeProfile (byMgmt who) v)

/-- IDLE_GAP_START (R224, R228). -/
def execIdleGapStart (t : Nat) (s : State) : Out := act s t (fun s => s.idleStart)

/-- RUNG_ENTRY_COMPLETE (R225). -/
def execRungEntryComplete (t : Nat) (s : State) : Out := act s t (fun s => s.rungEntered)

/-- RUNG_EXIT_COMPLETE (R225). -/
def execRungExitComplete (t : Nat) (s : State) : Out := act s t (fun s => s.rungExited)

/-- LADDER_EXIT_SCHEDULED (R229). -/
def execLadderExitScheduled (t : Nat) (s : State) : Out := act s t (fun s => s.ladderExit)

end Sys2Proof.Machine
end

