-- ==== Sys2Proof/Machine/Faults.lean ====
section
/-! DEFINITION. The meanings of the commands of chapters 08 and 09: watchdogs, teardowns, regrowth, error injection, functions and
partition moves. -/

namespace Sys2Proof.Machine

/-- WATCHDOG_EXPIRY (R263 to R265). -/
def execWatchdogExpiry (t c : Nat) (s : State) : Out := act s t (fun s => s.watchdog c)

/-- DRAIN_LIMIT_EXPIRY (R86, R266, R305, R308). -/
def execDrainLimitExpiry (t : Nat) (k : TdKind) (obj n : Nat) (s : State) : Out := act s t (fun s => s.drainExpire k obj n)

/-- TEARDOWN_ENTRY_GRANT (R270). -/
def execTeardownEntryGrant (t : Nat) (s : State) : Out := act s t (fun s => s.grantTd)

/-- REGROWTH_RESUME (R274 to R281, Table 08-6 steps 4 to 8). -/
def execRegrowthResume (t : Nat) (ok : Bool) (s : State) : Out := act s t (fun s => s.regrowResume ok)

/-- ERR_PRIMARY_RELEASE (R286). -/
def execErrPrimaryRelease (t : Nat) (who : Who) (s : State) : Out := regWr s t who .glob (fun s => s.releasePrimary)

/-- INJECT_PARITY (R288). -/
def execInjectParity (t : Nat) (who : Who) (n : Nat) (s : State) : Out :=
  mgmtWr s t who (fun s => if s.mayInject true then s.injectParity n else s)

/-- INJECT_UNCORRECTABLE (R288). -/
def execInjectUncorrectable (t : Nat) (who : Who) (tab : Nat) (s : State) : Out :=
  mgmtWr s t who (fun s => if s.mayInject true then s.injectBad tab else s)

/-- INJECT_CORRECTABLE (R288). -/
def execInjectCorrectable (t : Nat) (who : Who) (tab : Nat) (s : State) : Out :=
  mgmtWr s t who (fun s => if s.mayInject true then s.injectFix tab else s)

/-- VF_COUNT_CHANGE (R289). -/
def execVfCountChange (t k : Nat) (s : State) : Out := actDev s t (fun s => s.setVfCount k)

/-- FN_ASSIGN_WRITE (R291, R304). -/
def execFnAssignWrite (t : Nat) (who : Who) (fn : Nat) (v : Word) (s : State) : Out :=
  regWr s t who .glob (fun s => s.writeFnCfg (byMgmt who) fn v)

/-- A write of 1 to VXB_FN_CFG.RESET that leaves the other fields as they are (R304). -/
def State.fnCfgReset (s : State) (mgmt : Bool) (fn : Nat) : State :=
  if (mgmt || fn ≠ 0) && s.fnPresent fn then s.startFlr fn else s

/-- FN_CFG_RESET (R304): by F0 for a VF, by the management port for any function. -/
def execFnCfgReset (t : Nat) (who : Who) (fn : Nat) (s : State) : Out :=
  regWr s t who .glob (fun s => s.fnCfgReset (byMgmt who) fn)

/-- FN_CTL_FLR (R304). -/
def execFnCtlFlr (t fn : Nat) (s : State) : Out := regWr s t (.fn fn) (.own fn) (fun s => s.startFlr fn)

/-- PCIE_FLR (R304). -/
def execPcieFlr (t fn : Nat) (s : State) : Out := actDev s t (fun s => if s.fnPresent fn then s.startFlr fn else s)

/-- CIPHER_FLUSH_COMPLETE (R266, R305, R308; Tables 01-4, 02-12, 08-3, 09-6 and 09-7). -/
def execCipherFlushComplete (t : Nat) (scope : CipherScope) (obj : Nat) (s : State) : Out := act s t (fun s => s.flushDone scope obj)

/-- CORE_MOVE (R298, R299). -/
def execCoreMove (t : Nat) (who : Who) (m : BitVec 48) (src dst : Nat) (s : State) : Out :=
  mgmtWr s t who (fun s => s.partMove 0 m.toNat src dst)

/-- WAY_MOVE (R298, R300). -/
def execWayMove (t : Nat) (who : Who) (m : BitVec 48) (src dst : Nat) (s : State) : Out :=
  mgmtWr s t who (fun s => s.partMove 1 m.toNat src dst)

/-- CHANNEL_MOVE (R298, R301). -/
def execChannelMove (t : Nat) (who : Who) (m : BitVec 48) (src dst : Nat) (s : State) : Out :=
  mgmtWr s t who (fun s => s.partMove 2 m.toNat src dst)

/-- TENANT_REMOVAL (R298, R308). -/
def execTenantRemoval (t : Nat) (who : Who) (m : BitVec 48) (src : Nat) (s : State) : Out :=
  mgmtWr s t who (fun s => s.tenantRemoval src m.toNat)

end Sys2Proof.Machine
end

