-- ==== Sys2Proof/Machine/Vault.lean ====
section
/-! DEFINITION. The meanings of the commands of chapter 10: keys, page releases, mailboxes, SPDM, and the protection of links. -/

namespace Sys2Proof.Machine

/-- KEYGEN_COMPLETE (R309). -/
def execKeygenComplete (t : Nat) (s : State) : Out := actDev s t (fun s => s.keygenDone)

/-- ENTROPY_HEALTH_FAIL (R310). -/
def execEntropyHealthFail (t : Nat) (s : State) : Out := actDev s t (fun s => s.healthFail)

/-- ENTROPY_RETRY (R310). -/
def execEntropyRetry (t : Nat) (pass : Bool) (s : State) : Out := actDev s t (fun s => s.entropyRetry pass)

/-- PAGE_RELEASE (R318). -/
def execPageRelease (t fn first pages : Nat) (s : State) : Out :=
  regWr s t (.fn fn) (.own fn) (fun s => s.pageRelease fn first pages)

/-- PAGE_RELEASE_COMPLETE (R318). -/
def execPageReleaseComplete (t fn : Nat) (s : State) : Out := act s t (fun s => s.pageReleased fn)

/-- MBOX_GO (R331). -/
def execMboxGo (t fn len : Nat) (s : State) : Out := regWr s t (.fn fn) (.own fn) (fun s => s.mboxGo fn len)

/-- MBOX_RESPONSE (R331). -/
def execMboxResponse (t fn len : Nat) (fault : Bool) (s : State) : Out := act s t (fun s => s.mboxResponse fn len fault)

/-- An SPDM request. From the management controller: during start-up it is answered with Busy (R457), after a failed start only the
requests that need no session are answered (R458). From a function: through its mailbox. -/
def State.spdmThen (s : State) (p : SpdmPeer) (free : Bool) (f : State → State) : State :=
  match p with
  | .mgmt =>
    if s.rb .VXB_START_STAT 0 0 4 then (if free then f s else s)
    else if !s.ready then s.emit (.spdm .mgmt (.error .busy))
    else f s
  | .host _ => if s.alive then f s else s

/-- The same where the request is answered at once. -/
def State.spdm (s : State) (p : SpdmPeer) (free : Bool) (g : State → State × SpdmAns) : State := s.spdmThen p free (fun s => s.answer p g)

/-- GET_VERSION (R330, R344). -/
def execGetVersion (t : Nat) (p : SpdmPeer) (s : State) : Out := actAny s t (fun s => s.spdm p true State.spdmVersion)

/-- GET_CAPABILITIES (R330). -/
def execGetCapabilities (t : Nat) (p : SpdmPeer) (s : State) : Out :=
  actAny s t (fun s => s.spdm p true State.spdmCaps)

/-- NEGOTIATE_ALGORITHMS (R330). -/
def execNegotiateAlgorithms (t : Nat) (p : SpdmPeer) (s : State) : Out :=
  actAny s t (fun s => s.spdm p true State.spdmAlgs)

/-- GET_DIGESTS (R330). -/
def execGetDigests (t : Nat) (p : SpdmPeer) (s : State) : Out := actAny s t (fun s => s.spdm p true State.spdmDigests)

/-- GET_CERTIFICATE (R330). -/
def execGetCertificate (t : Nat) (p : SpdmPeer) (s : State) : Out :=
  actAny s t (fun s => s.spdm p true State.spdmCert)

/-- CHALLENGE (R330, R344). -/
def execChallenge (t : Nat) (p : SpdmPeer) (s : State) : Out := actAny s t (fun s => s.spdm p true (fun s => s.spdmChallenge p))

/-- GET_MEASUREMENTS (R330, Table 10-6). -/
def execGetMeasurements (t : Nat) (p : SpdmPeer) (i : Nat) (s : State) : Out :=
  actAny s t (fun s => s.spdm p true (fun s => s.spdmMeasure p i))

/-- KEY_EXCHANGE (R310, R330, R331, R344). -/
def execKeyExchange (t : Nat) (p : SpdmPeer) (s : State) : Out :=
  actAny s t (fun s => s.spdm p false (fun s => s.spdmKeyExchange p))

/-- FINISH (R330, R333, R344). -/
def execFinish (t : Nat) (p : SpdmPeer) (ok : Bool) (owner : Nat) (s : State) : Out :=
  actAny s t (fun s => s.spdm p false (fun s => s.spdmFinish p ok owner))

/-- The end of a session; that of the management session ends a load that is not yet written (R447). -/
def State.sessionEnd (s : State) (p : SpdmPeer) : State × SpdmAns :=
  let r := s.spdmEnd p
  if p == .mgmt && s.inSession .mgmt then (r.1.loadAbort, r.2) else r

/-- END_SESSION (R331, R447). -/
def execEndSession (t : Nat) (p : SpdmPeer) (s : State) : Out := actAny s t (fun s => s.spdm p false (fun s => s.sessionEnd p))

/-- GET_WRAP_KEY (R332). -/
def execGetWrapKey (t : Nat) (p : SpdmPeer) (s : State) : Out := actAny s t (fun s => s.spdmThen p false (fun s => s.spdmWrap p))

/-- DELIVER_KEY (R332, R333). -/
def execDeliverKey (t : Nat) (p : SpdmPeer) (w : WrapIn) (keep : Bool) (model : Word) (s : State) : Out :=
  actAny s t (fun s => s.spdm p false (fun s => s.spdmDeliver p w keep model))

/-- A KEY_UPDATE in a secured session (R330): the session goes on under new keys. -/
def State.spdmKeyUpdate (s : State) (p : SpdmPeer) : State × SpdmAns :=
  if s.inSession p then (s, .keyUpdateAck) else (s, .error .unexpectedRequest)

/-- SPDM_KEY_UPDATE (R330). -/
def execSpdmKeyUpdate (t : Nat) (p : SpdmPeer) (s : State) : Out := actAny s t (fun s => s.spdm p false (fun s => s.spdmKeyUpdate p))

/-- BLOB_KEY_FREE (R329). -/
def execBlobKeyFree (t fn slot : Nat) (s : State) : Out := regWr s t (.fn fn) (.own fn) (fun s => s.keyFree fn slot)

/-- ZEROISE_SLOT (R313, R329, R343). -/
def execZeroiseSlot (t : Nat) (who : Who) (slot : Nat) (s : State) : Out := mgmtWr s t who (fun s => s.zeroiseOne slot)

/-- ZEROISE_ALL_BLOB (R334). -/
def execZeroiseAllBlob (t : Nat) (who : Who) (s : State) : Out := mgmtWr s t who (fun s => s.zeroiseAll)

/-- LINK_REKEY (R337). -/
def execLinkRekey (t : Nat) (who : Who) (p : Nat) (s : State) : Out := mgmtWr s t who (fun s => s.linkRekey p)

/-- TX_COUNTER_REKEY (R337). -/
def execTxCounterRekey (t p : Nat) (s : State) : Out := actLink s t (fun s => s.counterRekey p)

/-- LINK_HELLO (R335, R337). -/
def execLinkHello (t : Nat) (h : HelloIn) (s : State) : Out := actLink s t (fun s => s.linkHello h.port h.toHello)

/-- LINK_PROOF (R335, R337, R376). -/
def execLinkProof (t p : Nat) (chainOk listed sigOk : Bool) (s : State) : Out :=
  actLink s t (fun s => s.linkProof p chainOk listed sigOk)

/-- KEY_SWITCH (R337). -/
def execKeySwitch (t p : Nat) (s : State) : Out := actLink s t (fun s => s.keySwitch p)

/-- EPOCH_SWITCH_TIMEOUT (R343). -/
def execEpochSwitchTimeout (t f : Nat) (s : State) : Out := actLink s t (fun s => s.epochTimeout f)

/-- AUTH_LOCKOUT_EXPIRY (R344). -/
def execAuthLockoutExpiry (t : Nat) (s : State) : Out := actAny s t (fun s => s.lockoutEnd)

end Sys2Proof.Machine
end

