-- ==== Sys2Proof/Machine/Links.lean ====
section
/-! DEFINITION. The meanings of the commands of chapter 11: the ports and frames of the Tamnel, transfers, control messages, membership
and fabric time. What acts on this node's events, semaphores and transfers waits during a global stop; the links themselves run
on (R420). -/

namespace Sys2Proof.Machine

/-- PORT_LANES_UP (R359). -/
def execPortLanesUp (t p lanes rate : Nat) (s : State) : Out := actLink s t (fun s => s.lanesUp p lanes rate)

/-- TRAIN (R33, R359). -/
def execTrain (t p : Nat) (i : TrainInfo) (s : State) : Out := actLink s t (fun s => s.train p i)

/-- LANES_FALL (R362). -/
def execLanesFall (t p lanes rate : Nat) (s : State) : Out := actLink s t (fun s => s.lanesFall p lanes rate)

/-- LANES_LOST_TIMEOUT (R360). -/
def execLanesLostTimeout (t p : Nat) (s : State) : Out := actLink s t (fun s => s.lanesLost p)

/-- LINK_FRAME_RECEIVE (R336, R338, R352, R353, R357). -/
def execLinkFrameReceive (t p : Nat) (f : FrameIn) (s : State) : Out := actLink s t (fun s => s.frameIn p f)

/-- FRAME_REPLAY_TIMEOUT (R352). -/
def execFrameReplayTimeout (t p : Nat) (s : State) : Out := actLink s t (fun s => s.replayTimeout p)

/-- IDLE_FRAME_TICK (R350): a trailer-only frame of TYPE 2. -/
def execIdleFrameTick (t p : Nat) (s : State) : Out := actLink s t (fun s => s.localFrame p 2)

/-- SEGMENT_RECEIVE (R342, R364, R365). -/
def execSegmentReceive (t src xfer : Nat) (resp : Bool) (seg : Nat) (q : SegSeal) (text : List Word) (s : State) : Out :=
  act s t (fun s => s.segmentIn src xfer resp seg q.ep q.iv q.tag text)

/-- SEGMENT_RESEND_TIMEOUT (R367). -/
def execSegmentResendTimeout (t xfer seg : Nat) (s : State) : Out := act s t (fun s => s.segResend xfer seg)

/-- RECORD_MESSAGE (R128, R135, R369). -/
def execRecordMessage (t src seq : Nat) (h : Half) (mode : Nat) (v : Word) (rec : Option (Nat × Nat)) (part : Option Nat) (s : State) : Out :=
  act s t (fun s => s.readingEvent h (fun s => s.msgRecord src seq h mode v rec part))

/-- WAIT_REG (R134, R135). -/
def execWaitReg (t src seq : Nat) (h : Half) (target : Word) (part : Option Nat) (s : State) : Out :=
  act s t (fun s => s.readingEvent h (fun s => s.msgWaitReg src seq h target part))

/-- RELEASE (R134). -/
def execRelease (t src seq : Nat) (h : Half) (v : Word) (s : State) : Out := act s t (fun s => s.msgRelease src seq h v)

/-- WAIT_DROP (R369). -/
def execWaitDrop (t src seq : Nat) (h : Half) (s : State) : Out := act s t (fun s => s.msgWaitDrop src seq h)

/-- SEM_ACQ (R137, R369). -/
def execSemAcq (t src seq i count ctx : Nat) (part : Option Nat) (s : State) : Out :=
  act s t (fun s => s.reading tabSem (.sem i) (fun s => s.msgSemAcq src seq i count ctx part))

/-- SEM_GRANT (R369). -/
def execSemGrant (t src seq i count : Nat) (s : State) : Out := act s t (fun s => s.msgSemGrant src seq i count)

/-- SEM_REL (R137, R369). -/
def execSemRel (t src seq i count ctx : Nat) (part : Option Nat) (s : State) : Out :=
  act s t (fun s => s.reading tabSem (.sem i) (fun s => s.msgSemRel src seq i count ctx part))

/-- REFUSE (R135, R342, R366). -/
def execRefuse (t src : Nat) (ref : MsgRef) (reason : Nat) (h : Half) (s : State) : Out := act s t (fun s => s.msgRefuse src ref reason h)

/-- ACK (R341, R369). -/
def execAck (t src : Nat) (ref : AckRef) (s : State) : Out := act s t (fun s => s.msgAck src ref)

/-- OPEN (R365, R366). -/
def execOpenTransfer (t src seq xfer : Nat) (get : Bool) (ft : Nat) (remote : Word) (len : Nat) (s : State) : Out :=
  act s t (fun s => s.msgOpen src seq xfer get ft remote len)

/-- REPORT (R365). -/
def execReport (t src seq xfer : Nat) (s : State) : Out := act s t (fun s => s.msgReport src seq xfer)

/-- SQUASH (R368). -/
def execSquash (t src seq xfer : Nat) (issuer : Bool) (s : State) : Out := act s t (fun s => s.msgSquash src seq xfer issuer)

/-- SQUASH_ACK (R368). -/
def execSquashAck (t src : Nat) (x : MsgRef) (s : State) : Out := act s t (fun s => s.msgSquashAck src x)

/-- CREDIT (R364). -/
def execCredit (t src seq count : Nat) (resp : Option Nat) (s : State) : Out := act s t (fun s => s.msgCredit src seq count resp)

/-- HEARTBEAT (R377). -/
def execHeartbeat (t src seq lead digest : Nat) (s : State) : Out := actLink s t (fun s => s.msgHeartbeat src seq lead digest)

/-- LOST (R379, R382). -/
def execLost (t src seq n : Nat) (l : LostPart) (s : State) : Out := actLink s t (fun s => s.msgLost src seq n l.port l.ctx)

/-- LEAD (R356, R377). -/
def execLead (t src seq : Nat) (live : BitVec 16) (up : Word) (deputy : Option Nat) (s : State) : Out :=
  actLink s t (fun s => s.msgLead src seq live up deputy)

/-- JOIN_REQ (R348, R380). -/
def execJoinReq (t src seq : Nat) (fid : Half) (pos : Nat) (s : State) : Out := actLink s t (fun s => s.msgJoinReq src seq fid pos)

/-- JOIN_GRANT (R348). -/
def execJoinGrant (t src seq : Nat) (fid : Half) (n : Nat) (s : State) : Out := actLink s t (fun s => s.msgJoinGrant src seq fid n)

/-- EPOCH (R341, R375). -/
def execEpoch (t src seq start : Nat) (e : EpochMsg) (s : State) : Out := actLink s t (fun s => s.msgEpoch src seq start e)

/-- AT (R374, R405, Table 13-3). -/
def execAtMessage (t src seq time action : Nat) (s : State) : Out := actLink s t (fun s => s.msgAt src seq time action)

/-- LEAVE (R381). -/
def execLeaveMessage (t src seq n : Nat) (s : State) : Out := actLink s t (fun s => s.msgLeave src seq n)

/-- KEY (R341). -/
def execKey (t src seq ft : Nat) (k : KeyMsg) (s : State) : Out := actLink s t (fun s => s.msgKey src seq ft k)

/-- NODE_KEX (R340, R378). -/
def execNodeKex (t src seq : Nat) (m : KexMsg) (ok : Bool) (s : State) : Out := actLink s t (fun s => s.msgNodeKex src seq m ok)

/-- TIME_EXCHANGE_TICK (R371): a frame of TYPE 5. -/
def execTimeExchangeTick (t p : Nat) (s : State) : Out := actLink s t (fun s => s.localFrame p 5)

/-- TIME_FRAME (R371, R373). -/
def execTimeFrame (t p : Nat) (t1 t2 t3 t4 : Int) (s : State) : Out := actLink s t (fun s => s.timeFrame p t1 t2 t3 t4)

/-- HEARTBEAT_TICK (R377). -/
def execHeartbeatTick (t : Nat) (s : State) : Out := actLink s t (fun s => s.heartbeat)

/-- LEAD_LOSS_TIMEOUT (R379). -/
def execLeadLossTimeout (t : Nat) (s : State) : Out := actLink s t (fun s => s.leadTimeout)

/-- SETTLE_WINDOW_END (R379, R380). -/
def execSettleWindowEnd (t : Nat) (s : State) : Out := actLink s t (fun s => s.settleEnd)

/-- EPOCH_TICK (R375). -/
def execEpochTick (t : Nat) (s : State) : Out := actLink s t (fun s => s.epochTick)

/-- EPOCH_EXTRAPOLATE (R375). -/
def execEpochExtrapolate (t : Nat) (s : State) : Out := actLink s t (fun s => s.epochGuess)

/-- AT_TIME_REACHED (R374). -/
def execAtTimeReached (t : Nat) (s : State) : Out := actLink s t (fun s => s.atReached)

/-- EPOCH_START (R375). -/
def execEpochStart (t : Nat) (s : State) : Out := actLink s t (fun s => s.epochStart)

/-- PLANNED_LEAVE (R381). -/
def execPlannedLeave (t : Nat) (who : Who) (s : State) : Out := mgmtWr s t who (fun s => s.plannedLeave)

/-- LEAVE_TRANSFER_LIMIT (R381). -/
def execLeaveTransferLimit (t : Nat) (s : State) : Out := actLink s t (fun s => s.leaveLimit)

/-- REJOIN (R359). -/
def execRejoin (t : Nat) (who : Who) (s : State) : Out := mgmtWr s t who (fun s => s.rejoin)

end Sys2Proof.Machine
end

