-- ==== Sys2Proof/Machine/Signals.lean ====
section
/-! DEFINITION. The meanings of the commands of chapters 12 to 14: interrupts, counters and stops, microcode and loads. -/

namespace Sys2Proof.Machine

/-! ## Interrupts (chapter 12) -/

/-- IRQ_CLAIM (R389). -/
def execIrqClaim (t fn : Nat) (s : State) : Out :=
  regRd s t (.fn fn) (.own fn) .IRQ_CLAIM (fun s => (s.claimVal fn, s.claim fn))

/-- IRQ_EOI (R390). -/
def execIrqEoi (t fn : Nat) (s : State) : Out := regWr s t (.fn fn) (.own fn) (fun s => s.eoi fn)

/-- IRQ_LINE_MASK_WRITE (R390). -/
def execIrqLineMaskWrite (t fn : Nat) (m : Bool) (s : State) : Out := regWr s t (.fn fn) (.own fn) (fun s => s.writeLineMask fn m)

/-- IRQ_MAP_WRITE (R386). -/
def execIrqMapWrite (t : Nat) (who : Who) (fn v : Nat) (w : Word) (s : State) : Out :=
  regWr s t who .glob (fun s => s.writeMap fn v w)

/-- IRQ_UNQUENCH (R396): a W1C of the source's bit. -/
def execIrqUnquench (t : Nat) (who : Who) (src : Nat) (s : State) : Out :=
  regWr s t who .glob (fun s => s.writeQuench (src / 64) (1#64 <<< (src % 64)))

/-- STORM_WINDOW (R396). -/
def execStormWindow (t : Nat) (s : State) : Out := actDev s t (fun s => s.stormWindow)

/-- MSI_X_MASK_WRITE (R390). -/
def execMsiXMaskWrite (t fn : Nat) (m : MsixMask) (s : State) : Out := actDev s t (fun s => s.writeMsix fn m)

/-! ## Observation (chapter 13) -/

/-- FREEZE_GO (R403). -/
def execFreezeGo (t : Nat) (who : Who) (s : State) : Out := regWr s t who .glob (fun s => s.freeze 1)

/-- COUNTER_CLEAR (R398). -/
def execCounterClear (t : Nat) (who : Who) (s : State) : Out := regWr s t who .glob (fun s => s.clearCounters)

/-- FREEZE_UNLOCK (R404). -/
def execFreezeUnlock (t : Nat) (who : Who) (s : State) : Out := regWr s t who .glob (fun s => s.setB .OBS_FREEZE_CTL 0 0 2 false)

/-- FREEZE_ARM (R405). -/
def execFreezeArm (t : Nat) (who : Who) (v : Word) (s : State) : Out := regWr s t who .glob (fun s => s.freezeArm v)

/-- FREEZE_TIME_REACHED (R403, R405). -/
def execFreezeTimeReached (t : Nat) (s : State) : Out := actDev s t (fun s => s.freezeDue)

/-- TRACE_CAP_WINDOW (R409): the allowance is whole again. -/
def execTraceCapWindow (t : Nat) (s : State) : Out := actDev s t (fun s => { s with obs := { s.obs with winUsed := 0 } })

/-- GLOBAL_STOP (R418, R419). -/
def execGlobalStop (t : Nat) (who : Who) (s : State) : Out := mgmtWr s t who (fun s => s.globalStop 1)

/-- SOFT_STOP (R418, R423). -/
def execSoftStop (t : Nat) (who : Who) (s : State) : Out := mgmtWr s t who (fun s => s.softStop 1)

/-- SOFT_STOP_RESUME (R423). -/
def execSoftStopResume (t : Nat) (who : Who) (s : State) : Out := mgmtWr s t who (fun s => s.resume false)

/-- SCAN_OUT_COMPLETE (R422). -/
def execScanOutComplete (t : Nat) (fault : Bool) (s : State) : Out := actAny s t (fun s => s.scanDone fault)

/-- HANG_GRAPH_REQUEST (R426). -/
def execHangGraphRequest (t : Nat) (who : Who) (s : State) : Out := regWr s t who .glob (fun s => s.snapshot [])

/-- HANG_GRAPH_BUILT (R426, R427). -/
def execHangGraphBuilt (t : Nat) (fault : Bool) (s : State) : Out := act s t (fun s => s.graphBuilt fault)

/-- HANG_BUFFER_RELEASE (R427). -/
def execHangBufferRelease (t : Nat) (who : Who) (s : State) : Out :=
  regWr s t who .glob (fun s => s.setB .OBS_HANG_STAT 0 0 0 false)

/-- PCFG_WRITE (R401). -/
def execPcfgWrite (t : Nat) (who : Who) (j : Nat) (v : Word) (s : State) : Out := regWr s t who .glob (fun s => s.writePcfg j v)

/-! ## Microcode (chapter 14) -/

/-- Sequencer `n` runs its next word, if that word is of the kind that the command names. A word that uses the ROM's private
encodings, whose effect the spec does not give, is refused. -/
def microStep (s : State) (t n : Nat) (rom : BitVec 136) (inp : MicroIn) (is : BitVec 128 → Bool) : Out :=
  if !s.takesWork then .next s
  else
    let s := s.at t
    if !s.microRuns n || !is (s.microWord n rom) then fin s
    else if s.microPrivate n rom then .refused .romPrivate
    else fin (s.micro n rom inp)

/-- FLOW of a word (R434). -/
def mwFlow (w : BitVec 128) : Nat := mwf w 20 3

/-- The word makes this handshake (Table 14-6). -/
def mwHop (hop chan : Nat) (w : BitVec 128) : Bool := mwf w 85 3 == hop && mwf w 80 5 == chan

/-- MICROWORD (R432 to R437, R439, R440). -/
def execMicroword (t n : Nat) (rom : BitVec 136) (s : State) : Out := microStep s t n rom .none (fun _ => true)

/-- MICRO_CALL (R434). -/
def execMicroCall (t n : Nat) (rom : BitVec 136) (s : State) : Out := microStep s t n rom .none (fun w => mwFlow w == 1)

/-- MICRO_RET (R434). -/
def execMicroRet (t n : Nat) (rom : BitVec 136) (s : State) : Out := microStep s t n rom .none (fun w => mwFlow w == 2)

/-- MICRO_END (R434). -/
def execMicroEnd (t n : Nat) (rom : BitVec 136) (s : State) : Out := microStep s t n rom .none (fun w => mwFlow w == 3)

/-- MICRO_FAULT (R434). -/
def execMicroFault (t n : Nat) (rom : BitVec 136) (s : State) : Out := microStep s t n rom .none (fun w => mwFlow w == 4)

/-- MICROWORD_LIMIT (R444). -/
def execMicrowordLimit (t n : Nat) (s : State) : Out := actFront s t (fun s => s.microLimit n)

/-- ISSUE (R442, R443). -/
def execIssue (t n : Nat) (rom : BitVec 136) (s : State) : Out := microStep s t n rom .none (mwHop 1 0)

/-- MRD (R437): the data of the read is taken. -/
def execMrd (t n : Nat) (rom : BitVec 136) (mem : Option Word) (s : State) : Out := microStep s t n rom (.mem mem) (mwHop 2 1)

/-- What an event's home answers, if anything has come. -/
def evIn (v : Option RemoteVal) : MicroIn := match v with | some x => .event x | none => .none

/-- EVRD (R437): the value at the event's home is taken. -/
def execEvrd (t n : Nat) (rom : BitVec 136) (v : Option RemoteVal) (s : State) : Out := microStep s t n rom (evIn v) (mwHop 2 2)

/-- TIME_CHANNEL (R437). -/
def execTimeChannel (t n : Nat) (rom : BitVec 136) (s : State) : Out := microStep s t n rom .none (mwHop 2 3)

/-- MARK_CHANNEL (R437). -/
def execMarkChannel (t n : Nat) (rom : BitVec 136) (s : State) : Out := microStep s t n rom .none (mwHop 1 4)

/-- PROBE (R437). -/
def execProbe (t n : Nat) (rom : BitVec 136) (ready : Bool) (s : State) : Out :=
  microStep s t n rom (.ready ready) (fun w => mwf w 85 3 == 3)

/-- A load request is taken in the management session alone (R345). -/
def State.inMgmt (s : State) (f : State → State) : State := if s.inSession .mgmt then f s else s

/-- LOAD_BEGIN (R447, Table 14-11). -/
def execLoadBegin (t kind total : Nat) (s : State) : Out := actAny s t (fun s => s.inMgmt (fun s => s.loadBegin kind total))

/-- LOAD_DATA (R447, Table 14-11). -/
def execLoadData (t off : Nat) (bytes : List Byte) (s : State) : Out := actAny s t (fun s => s.inMgmt (fun s => s.loadData off bytes))

/-- LOAD_COMMIT (R447, R448). -/
def execLoadCommit (t : Nat) (sigOk : Bool) (digest : BitVec 384) (s : State) : Out :=
  actAny s t (fun s => s.inMgmt (fun s => s.loadCommit sigOk digest))

/-- LOAD_PAUSE_REACHED (R448, R449, Table 14-13). -/
def execLoadPauseReached (t : Nat) (s : State) : Out := act s t (fun s => s.loadPause)

/-- LOAD_ABORT (R447). -/
def execLoadAbort (t : Nat) (s : State) : Out := actAny s t (fun s => s.inMgmt (fun s => s.loadAbort))

end Sys2Proof.Machine
end

