-- ==== Sys2Proof/Machine/Dispatch.lean ====
section
/-! DEFINITION. One arm per command of the table: each calls the meaning of its row. -/

namespace Sys2Proof.Machine

/-- The effect of a command on everything but the queue. -/
def exec (i : Instr) (s : State) : Host.Outcome State Fault Refusal :=
  match i with
  | .registerWrite t who win off bytes v => Sys2Proof.Machine.execRegisterWrite t who win off bytes v s
  | .clockLost t d => Sys2Proof.Machine.execClockLost t d s
  | .hostLoss t cause => Sys2Proof.Machine.execHostLoss t cause s
  | .hostLinkReturn t width speed => Sys2Proof.Machine.execHostLinkReturn t width speed s
  | .hostReadCompletion t r res => Sys2Proof.Machine.execHostReadCompletion t r res s
  | .completionTimeout t r => Sys2Proof.Machine.execCompletionTimeout t r s
  | .memoryWriteAck t w => Sys2Proof.Machine.execMemoryWriteAck t w s
  | .memoryReadData t r res => Sys2Proof.Machine.execMemoryReadData t r res s
  | .launchAck t cls peng => Sys2Proof.Machine.execLaunchAck t cls peng s
  | .ctlAck t cls peng op => Sys2Proof.Machine.execCtlAck t cls peng op s
  | .engineDone t cls peng tag status refused noneLeft next engineNs => Sys2Proof.Machine.execEngineDone t cls peng tag status refused noneLeft next engineNs s
  | .i3cEntdaa t addr => Sys2Proof.Machine.execI3cEntdaa t addr s
  | .i3cSetdasa t static addr => Sys2Proof.Machine.execI3cSetdasa t static addr s
  | .i3cRstact t act => Sys2Proof.Machine.execI3cRstact t act s
  | .i3cTargetReset t => Sys2Proof.Machine.execI3cTargetReset t s
  | .mgmtVendorRequest t req => Sys2Proof.Machine.execMgmtVendorRequest t req s
  | .sagLineRise t line => Sys2Proof.Machine.execSagLineRise t line s
  | .stretchRelease t group => Sys2Proof.Machine.execStretchRelease t group s
  | .meterSample t meter nj => Sys2Proof.Machine.execMeterSample t meter nj s
  | .thermalEvaluation t samples => Sys2Proof.Machine.execThermalEvaluation t samples s
  | .priceUpdate t => Sys2Proof.Machine.execPriceUpdate t s
  | .vfChangeComplete t cluster => Sys2Proof.Machine.execVfChangeComplete t cluster s
  | .coldReset t f mem ok modes host => Sys2Proof.Machine.execColdReset t f mem ok modes host s
  | .plinthReadComplete t p c => Sys2Proof.Machine.execPlinthReadComplete t p c s
  | .warmReset t i3c => Sys2Proof.Machine.execWarmReset t i3c s
  | .hostReset t => Sys2Proof.Machine.execHostReset t s
  | .debugPortReset t => Sys2Proof.Machine.execDebugPortReset t s
  | .dinEdge t n pin => Sys2Proof.Machine.execDinEdge t n pin s
  | .dinStuck t n => Sys2Proof.Machine.execDinStuck t n s
  | .dinPendClear t who n => Sys2Proof.Machine.execDinPendClear t who n s
  | .dinUnquench t who n => Sys2Proof.Machine.execDinUnquench t who n s
  | .extest t => Sys2Proof.Machine.execExtest t s
  | .sample t => Sys2Proof.Machine.execSample t s
  | .preload t => Sys2Proof.Machine.execPreload t s
  | .idcode t => Sys2Proof.Machine.execIdcode t s
  | .bypass t code => Sys2Proof.Machine.execBypass t code s
  | .vxbStop t => Sys2Proof.Machine.execVxbStop t s
  | .vxbScan t => Sys2Proof.Machine.execVxbScan t s
  | .sqDoorbell t fn slot bytes v => Sys2Proof.Machine.execSqDoorbell t fn slot bytes v s
  | .urgentDoorbell t fn slot bytes v => Sys2Proof.Machine.execUrgentDoorbell t fn slot bytes v s
  | .urgentVisit t => Sys2Proof.Machine.execUrgentVisit t s
  | .scheduledVisit t => Sys2Proof.Machine.execScheduledVisit t s
  | .shortSqVisit t => Sys2Proof.Machine.execShortSqVisit t s
  | .entryFetchData t sq data => Sys2Proof.Machine.execEntryFetchData t sq data s
  | .flightEntryGrant t => Sys2Proof.Machine.execFlightEntryGrant t s
  | .consumerIndexWrite t who tgt v => Sys2Proof.Machine.execConsumerIndexWrite t who tgt v s
  | .adminDoorbell t fn v => Sys2Proof.Machine.execAdminDoorbell t fn v s
  | .adminResume t fn faultAfter => Sys2Proof.Machine.execAdminResume t fn faultAfter s
  | .adminNop t idx w => Sys2Proof.Machine.execAdminNop t idx w s
  | .createSq t idx w => Sys2Proof.Machine.execCreateSq t idx w s
  | .destroySq t idx => Sys2Proof.Machine.execDestroySq t idx s
  | .createCr t idx w => Sys2Proof.Machine.execCreateCr t idx w s
  | .destroyCr t idx w => Sys2Proof.Machine.execDestroyCr t idx w s
  | .createContext t idx w => Sys2Proof.Machine.execCreateContext t idx w s
  | .destroyContext t idx w => Sys2Proof.Machine.execDestroyContext t idx w s
  | .setShare t idx w => Sys2Proof.Machine.execSetShare t idx w s
  | .bindEvents t idx w => Sys2Proof.Machine.execBindEvents t idx w s
  | .unbindEvents t idx w => Sys2Proof.Machine.execUnbindEvents t idx w s
  | .query t idx destFaults w => Sys2Proof.Machine.execQuery t idx destFaults w s
  | .setCyclic t src image w => Sys2Proof.Machine.execSetCyclic t src image w s
  | .resumeCr t idx faultAfter w => Sys2Proof.Machine.execResumeCr t idx faultAfter w s
  | .submissionRetire t f w => Sys2Proof.Machine.execSubmissionRetire t f w s
  | .nop t f => Sys2Proof.Machine.execNop t f s
  | .dispatch t f outList => Sys2Proof.Machine.execDispatch t f outList s
  | .bin t f => Sys2Proof.Machine.execBin t f s
  | .render t f entry => Sys2Proof.Machine.execRender t f entry s
  | .copy t f => Sys2Proof.Machine.execCopy t f s
  | .fill t f => Sys2Proof.Machine.execFill t f s
  | .compose t f => Sys2Proof.Machine.execCompose t f s
  | .loadWeights t f => Sys2Proof.Machine.execLoadWeights t f s
  | .linkPut t f => Sys2Proof.Machine.execLinkPut t f s
  | .linkGet t f => Sys2Proof.Machine.execLinkGet t f s
  | .record t f => Sys2Proof.Machine.execRecord t f s
  | .wait t f => Sys2Proof.Machine.execWait t f s
  | .semAcquire t f => Sys2Proof.Machine.execSemAcquire t f s
  | .semRelease t f => Sys2Proof.Machine.execSemRelease t f s
  | .fence t f => Sys2Proof.Machine.execFence t f s
  | .setScalar t f mem => Sys2Proof.Machine.execSetScalar t f mem s
  | .addScalar t f => Sys2Proof.Machine.execAddScalar t f s
  | .compare t f => Sys2Proof.Machine.execCompare t f s
  | .skipIf t f => Sys2Proof.Machine.execSkipIf t f s
  | .repeatCmd t f => Sys2Proof.Machine.execRepeat t f s
  | .endRepeat t f => Sys2Proof.Machine.execEndRepeat t f s
  | .call t f => Sys2Proof.Machine.execCall t f s
  | .setAreg t f => Sys2Proof.Machine.execSetAreg t f s
  | .timestamp t f fault => Sys2Proof.Machine.execTimestamp t f fault s
  | .watch t f => Sys2Proof.Machine.execWatch t f s
  | .mark t f => Sys2Proof.Machine.execMark t f s
  | .preloadHint t f => Sys2Proof.Machine.execPreloadHint t f s
  | .layerChain t f data => Sys2Proof.Machine.execLayerChain t f data s
  | .tileWalk t f blocks tiles => Sys2Proof.Machine.execTileWalk t f blocks tiles s
  | .copy2d t f => Sys2Proof.Machine.execCopy2d t f s
  | .copy3d t f => Sys2Proof.Machine.execCopy3d t f s
  | .copyList t f data => Sys2Proof.Machine.execCopyList t f data s
  | .fill2d t f => Sys2Proof.Machine.execFill2d t f s
  | .waitAll t f data => Sys2Proof.Machine.execWaitAll t f data s
  | .recordList t f data => Sys2Proof.Machine.execRecordList t f data s
  | .bandSplit t f => Sys2Proof.Machine.execBandSplit t f s
  | .haloPut t f => Sys2Proof.Machine.execHaloPut t f s
  | .frameIndex t f remote => Sys2Proof.Machine.execFrameIndex t f remote s
  | .bufferBlockRead t f off data => Sys2Proof.Machine.execBufferBlockRead t f off data s
  | .sequencerYield t f => Sys2Proof.Machine.execSequencerYield t f s
  | .waitTimeoutExpiry t f => Sys2Proof.Machine.execWaitTimeoutExpiry t f s
  | .watchResult t f task data => Sys2Proof.Machine.execWatchResult t f task data s
  | .evFnRecordWrite t fn r => Sys2Proof.Machine.execEvFnRecordWrite t fn r s
  | .evFnValueRead t fn remote => Sys2Proof.Machine.execEvFnValueRead t fn remote s
  | .semCfgWrite t who idx v => Sys2Proof.Machine.execSemCfgWrite t who idx v s
  | .proxyRetry t handle => Sys2Proof.Machine.execProxyRetry t handle s
  | .sequencerPick t n => Sys2Proof.Machine.execSequencerPick t n s
  | .enginePick t cls peng => Sys2Proof.Machine.execEnginePick t cls peng s
  | .coresPick t part => Sys2Proof.Machine.execCoresPick t part s
  | .gatherTimeout t task => Sys2Proof.Machine.execGatherTimeout t task s
  | .launch t => Sys2Proof.Machine.execLaunch t s
  | .remainderStreamEnd t cluster => Sys2Proof.Machine.execRemainderStreamEnd t cluster s
  | .periodStart t => Sys2Proof.Machine.execPeriodStart t s
  | .vsyncFreeRun t => Sys2Proof.Machine.execVsyncFreeRun t s
  | .slotPreload t slot => Sys2Proof.Machine.execSlotPreload t slot s
  | .slotClockRaise t slot => Sys2Proof.Machine.execSlotClockRaise t slot s
  | .slotStart t slot => Sys2Proof.Machine.execSlotStart t slot s
  | .slotDeadline t inst => Sys2Proof.Machine.execSlotDeadline t inst s
  | .cycEnWrite t who en => Sys2Proof.Machine.execCycEnWrite t who en s
  | .inheritanceDetect t f holder => Sys2Proof.Machine.execInheritanceDetect t f holder s
  | .govCapMgmtWrite t who v => Sys2Proof.Machine.execGovCapMgmtWrite t who v s
  | .govCapF0Write t who v => Sys2Proof.Machine.execGovCapF0Write t who v s
  | .priceTabCommit t who => Sys2Proof.Machine.execPriceTabCommit t who s
  | .priceTabRestore t who => Sys2Proof.Machine.execPriceTabRestore t who s
  | .learnClear t who => Sys2Proof.Machine.execLearnClear t who s
  | .tlimitWrite t who v => Sys2Proof.Machine.execTlimitWrite t who v s
  | .sagEnWrite t who v => Sys2Proof.Machine.execSagEnWrite t who v s
  | .profileWrite t who v => Sys2Proof.Machine.execProfileWrite t who v s
  | .idleGapStart t => Sys2Proof.Machine.execIdleGapStart t s
  | .rungEntryComplete t => Sys2Proof.Machine.execRungEntryComplete t s
  | .rungExitComplete t => Sys2Proof.Machine.execRungExitComplete t s
  | .ladderExitScheduled t => Sys2Proof.Machine.execLadderExitScheduled t s
  | .watchdogExpiry t ctx => Sys2Proof.Machine.execWatchdogExpiry t ctx s
  | .drainLimitExpiry t kind obj fn => Sys2Proof.Machine.execDrainLimitExpiry t kind obj fn s
  | .teardownEntryGrant t => Sys2Proof.Machine.execTeardownEntryGrant t s
  | .regrowthResume t rereadOk => Sys2Proof.Machine.execRegrowthResume t rereadOk s
  | .errPrimaryRelease t who => Sys2Proof.Machine.execErrPrimaryRelease t who s
  | .injectParity t who seqr => Sys2Proof.Machine.execInjectParity t who seqr s
  | .injectUncorrectable t who tab => Sys2Proof.Machine.execInjectUncorrectable t who tab s
  | .injectCorrectable t who tab => Sys2Proof.Machine.execInjectCorrectable t who tab s
  | .vfCountChange t count => Sys2Proof.Machine.execVfCountChange t count s
  | .fnAssignWrite t who fn v => Sys2Proof.Machine.execFnAssignWrite t who fn v s
  | .fnCfgReset t who fn => Sys2Proof.Machine.execFnCfgReset t who fn s
  | .fnCtlFlr t fn => Sys2Proof.Machine.execFnCtlFlr t fn s
  | .pcieFlr t fn => Sys2Proof.Machine.execPcieFlr t fn s
  | .cipherFlushComplete t scope obj => Sys2Proof.Machine.execCipherFlushComplete t scope obj s
  | .coreMove t who mask src dst => Sys2Proof.Machine.execCoreMove t who mask src dst s
  | .wayMove t who mask src dst => Sys2Proof.Machine.execWayMove t who mask src dst s
  | .channelMove t who mask src dst => Sys2Proof.Machine.execChannelMove t who mask src dst s
  | .tenantRemoval t who mask src => Sys2Proof.Machine.execTenantRemoval t who mask src s
  | .keygenComplete t => Sys2Proof.Machine.execKeygenComplete t s
  | .entropyHealthFail t => Sys2Proof.Machine.execEntropyHealthFail t s
  | .entropyRetry t pass => Sys2Proof.Machine.execEntropyRetry t pass s
  | .pageRelease t fn first pages => Sys2Proof.Machine.execPageRelease t fn first pages s
  | .pageReleaseComplete t fn => Sys2Proof.Machine.execPageReleaseComplete t fn s
  | .mboxGo t fn len => Sys2Proof.Machine.execMboxGo t fn len s
  | .mboxResponse t fn len fault => Sys2Proof.Machine.execMboxResponse t fn len fault s
  | .getVersion t p => Sys2Proof.Machine.execGetVersion t p s
  | .getCapabilities t p => Sys2Proof.Machine.execGetCapabilities t p s
  | .negotiateAlgorithms t p => Sys2Proof.Machine.execNegotiateAlgorithms t p s
  | .getDigests t p => Sys2Proof.Machine.execGetDigests t p s
  | .getCertificate t p => Sys2Proof.Machine.execGetCertificate t p s
  | .challenge t p => Sys2Proof.Machine.execChallenge t p s
  | .getMeasurements t p index => Sys2Proof.Machine.execGetMeasurements t p index s
  | .keyExchange t p => Sys2Proof.Machine.execKeyExchange t p s
  | .finish t p ok owner => Sys2Proof.Machine.execFinish t p ok owner s
  | .endSession t p => Sys2Proof.Machine.execEndSession t p s
  | .getWrapKey t p => Sys2Proof.Machine.execGetWrapKey t p s
  | .deliverKey t p w keep modelId => Sys2Proof.Machine.execDeliverKey t p w keep modelId s
  | .blobKeyFree t fn slot => Sys2Proof.Machine.execBlobKeyFree t fn slot s
  | .zeroiseSlot t who slot => Sys2Proof.Machine.execZeroiseSlot t who slot s
  | .zeroiseAllBlob t who => Sys2Proof.Machine.execZeroiseAllBlob t who s
  | .linkRekey t who port => Sys2Proof.Machine.execLinkRekey t who port s
  | .txCounterRekey t port => Sys2Proof.Machine.execTxCounterRekey t port s
  | .linkHello t h => Sys2Proof.Machine.execLinkHello t h s
  | .linkProof t port chainOk listed sigOk => Sys2Proof.Machine.execLinkProof t port chainOk listed sigOk s
  | .keySwitch t port => Sys2Proof.Machine.execKeySwitch t port s
  | .epochSwitchTimeout t ft => Sys2Proof.Machine.execEpochSwitchTimeout t ft s
  | .authLockoutExpiry t => Sys2Proof.Machine.execAuthLockoutExpiry t s
  | .portLanesUp t port lanes rate => Sys2Proof.Machine.execPortLanesUp t port lanes rate s
  | .train t port info => Sys2Proof.Machine.execTrain t port info s
  | .lanesFall t port lanes rate => Sys2Proof.Machine.execLanesFall t port lanes rate s
  | .lanesLostTimeout t port => Sys2Proof.Machine.execLanesLostTimeout t port s
  | .linkFrameReceive t port f => Sys2Proof.Machine.execLinkFrameReceive t port f s
  | .frameReplayTimeout t port => Sys2Proof.Machine.execFrameReplayTimeout t port s
  | .idleFrameTick t port => Sys2Proof.Machine.execIdleFrameTick t port s
  | .segmentReceive t src xfer resp seg q text => Sys2Proof.Machine.execSegmentReceive t src xfer resp seg q text s
  | .segmentResendTimeout t xfer seg => Sys2Proof.Machine.execSegmentResendTimeout t xfer seg s
  | .recordMessage t src seq handle mode value rec part => Sys2Proof.Machine.execRecordMessage t src seq handle mode value rec part s
  | .waitReg t src seq handle target part => Sys2Proof.Machine.execWaitReg t src seq handle target part s
  | .release t src seq handle value => Sys2Proof.Machine.execRelease t src seq handle value s
  | .waitDrop t src seq handle => Sys2Proof.Machine.execWaitDrop t src seq handle s
  | .semAcq t src seq index count ctx part => Sys2Proof.Machine.execSemAcq t src seq index count ctx part s
  | .semGrant t src seq index count => Sys2Proof.Machine.execSemGrant t src seq index count s
  | .semRel t src seq index count ctx part => Sys2Proof.Machine.execSemRel t src seq index count ctx part s
  | .refuse t src ref reason handle => Sys2Proof.Machine.execRefuse t src ref reason handle s
  | .ack t src ref => Sys2Proof.Machine.execAck t src ref s
  | .openTransfer t src seq xfer get ft remote len => Sys2Proof.Machine.execOpenTransfer t src seq xfer get ft remote len s
  | .report t src seq xfer => Sys2Proof.Machine.execReport t src seq xfer s
  | .squash t src seq xfer issuer => Sys2Proof.Machine.execSquash t src seq xfer issuer s
  | .squashAck t src x => Sys2Proof.Machine.execSquashAck t src x s
  | .credit t src seq count resp => Sys2Proof.Machine.execCredit t src seq count resp s
  | .heartbeat t src seq lead digest => Sys2Proof.Machine.execHeartbeat t src seq lead digest s
  | .lost t src seq node part => Sys2Proof.Machine.execLost t src seq node part s
  | .lead t src seq live up deputy => Sys2Proof.Machine.execLead t src seq live up deputy s
  | .joinReq t src seq fabricId position => Sys2Proof.Machine.execJoinReq t src seq fabricId position s
  | .joinGrant t src seq fabricId node => Sys2Proof.Machine.execJoinGrant t src seq fabricId node s
  | .epoch t src seq start e => Sys2Proof.Machine.execEpoch t src seq start e s
  | .atMessage t src seq time action => Sys2Proof.Machine.execAtMessage t src seq time action s
  | .leaveMessage t src seq node => Sys2Proof.Machine.execLeaveMessage t src seq node s
  | .key t src seq ft k => Sys2Proof.Machine.execKey t src seq ft k s
  | .nodeKex t src seq m ok => Sys2Proof.Machine.execNodeKex t src seq m ok s
  | .timeExchangeTick t port => Sys2Proof.Machine.execTimeExchangeTick t port s
  | .timeFrame t port t1 t2 t3 t4 => Sys2Proof.Machine.execTimeFrame t port t1 t2 t3 t4 s
  | .heartbeatTick t => Sys2Proof.Machine.execHeartbeatTick t s
  | .leadLossTimeout t => Sys2Proof.Machine.execLeadLossTimeout t s
  | .settleWindowEnd t => Sys2Proof.Machine.execSettleWindowEnd t s
  | .epochTick t => Sys2Proof.Machine.execEpochTick t s
  | .epochExtrapolate t => Sys2Proof.Machine.execEpochExtrapolate t s
  | .atTimeReached t => Sys2Proof.Machine.execAtTimeReached t s
  | .plannedLeave t who => Sys2Proof.Machine.execPlannedLeave t who s
  | .rejoin t who => Sys2Proof.Machine.execRejoin t who s
  | .irqClaim t fn => Sys2Proof.Machine.execIrqClaim t fn s
  | .irqEoi t fn => Sys2Proof.Machine.execIrqEoi t fn s
  | .irqLineMaskWrite t fn mask => Sys2Proof.Machine.execIrqLineMaskWrite t fn mask s
  | .irqMapWrite t who fn entry v => Sys2Proof.Machine.execIrqMapWrite t who fn entry v s
  | .irqUnquench t who source => Sys2Proof.Machine.execIrqUnquench t who source s
  | .stormWindow t => Sys2Proof.Machine.execStormWindow t s
  | .freezeGo t who => Sys2Proof.Machine.execFreezeGo t who s
  | .counterClear t who => Sys2Proof.Machine.execCounterClear t who s
  | .freezeUnlock t who => Sys2Proof.Machine.execFreezeUnlock t who s
  | .freezeArm t who v => Sys2Proof.Machine.execFreezeArm t who v s
  | .freezeTimeReached t => Sys2Proof.Machine.execFreezeTimeReached t s
  | .traceCapWindow t => Sys2Proof.Machine.execTraceCapWindow t s
  | .globalStop t who => Sys2Proof.Machine.execGlobalStop t who s
  | .softStop t who => Sys2Proof.Machine.execSoftStop t who s
  | .softStopResume t who => Sys2Proof.Machine.execSoftStopResume t who s
  | .scanOutComplete t fault => Sys2Proof.Machine.execScanOutComplete t fault s
  | .hangGraphRequest t who => Sys2Proof.Machine.execHangGraphRequest t who s
  | .hangGraphBuilt t fault => Sys2Proof.Machine.execHangGraphBuilt t fault s
  | .hangBufferRelease t who => Sys2Proof.Machine.execHangBufferRelease t who s
  | .pcfgWrite t who j v => Sys2Proof.Machine.execPcfgWrite t who j v s
  | .microword t n rom => Sys2Proof.Machine.execMicroword t n rom s
  | .microCall t n rom => Sys2Proof.Machine.execMicroCall t n rom s
  | .microRet t n rom => Sys2Proof.Machine.execMicroRet t n rom s
  | .microEnd t n rom => Sys2Proof.Machine.execMicroEnd t n rom s
  | .microFault t n rom => Sys2Proof.Machine.execMicroFault t n rom s
  | .microwordLimit t n => Sys2Proof.Machine.execMicrowordLimit t n s
  | .issue t n rom => Sys2Proof.Machine.execIssue t n rom s
  | .mrd t n rom mem => Sys2Proof.Machine.execMrd t n rom mem s
  | .evrd t n rom v => Sys2Proof.Machine.execEvrd t n rom v s
  | .timeChannel t n rom => Sys2Proof.Machine.execTimeChannel t n rom s
  | .markChannel t n rom => Sys2Proof.Machine.execMarkChannel t n rom s
  | .probe t n rom ready => Sys2Proof.Machine.execProbe t n rom ready s
  | .loadBegin t kind total => Sys2Proof.Machine.execLoadBegin t kind total s
  | .loadData t off bytes => Sys2Proof.Machine.execLoadData t off bytes s
  | .loadCommit t sigOk digest => Sys2Proof.Machine.execLoadCommit t sigOk digest s
  | .loadPauseReached t => Sys2Proof.Machine.execLoadPauseReached t s
  | .loadAbort t => Sys2Proof.Machine.execLoadAbort t s
  | .clockReturn t d => Sys2Proof.Machine.execClockReturn t d s
  | .sagLineFall t line => Sys2Proof.Machine.execSagLineFall t line s
  | .shadowBankWriteAck t cluster => Sys2Proof.Machine.execShadowBankWriteAck t cluster s
  | .epochStart t => Sys2Proof.Machine.execEpochStart t s
  | .leaveTransferLimit t => Sys2Proof.Machine.execLeaveTransferLimit t s
  | .rcRegisterRead t who win off bytes remote => Sys2Proof.Machine.execRcRegisterRead t who win off bytes remote s
  | .hdrDdrEntry t => Sys2Proof.Machine.execHdrDdrEntry t s
  | .spdmKeyUpdate t p => Sys2Proof.Machine.execSpdmKeyUpdate t p s
  | .msiXMaskWrite t fn mask => Sys2Proof.Machine.execMsiXMaskWrite t fn mask s

end Sys2Proof.Machine
end

