-- ==== Sys2Proof/Safety.lean ====
section
/-! DEFINITION. The terms that the statements use: a command that leaves a state, the states in which a command is taken, and the
frames of the statements. -/

namespace Sys2Proof.Machine

/-- Command `c` in state `s` answers a next state: `u`, and what then follows of itself at once. -/
def Leaves (c : Instr) (s u : State) : Prop := exec c s = .next u.polls

/-- Command `c` in state `s` answers a next state whose own part, before what follows of itself, satisfies `P`. -/
def LeavesSome (c : Instr) (s : State) (P : State → Prop) : Prop := ∃ u, exec c s = .next u.polls ∧ P u

/-- Link-level command `c` in state `s`, which finds the block in state `u`, answers a next state: `v`, the session keys of the
tenants of a node that has left the live map made anew by the lead (R341), and what then follows of itself at once. -/
def LeavesLink (c : Instr) (s u v : State) : Prop := exec c s = .next (v.rekeyLost u.liveMask).polls

/-- As `LeavesLink`, where the command's own part satisfies `P`. -/
def LeavesLinkSome (c : Instr) (s u : State) (P : State → Prop) : Prop := ∃ v, exec c s = .next (v.rekeyLost u.liveMask).polls ∧ P v

/-- The happening changes nothing. -/
def Idle (c : Instr) (s : State) : Prop := exec c s = .next s

/-- Voxbin acts at moment `t` (R283, R420, R457), and `u` is the state in which the command finds it. -/
def Acts (s : State) (t : Nat) (u : State) : Prop := s.alive = true ∧ u = s.at t

/-- The front end takes work at moment `t` (Table 08-6, Table 06-6, R423), and `u` is the state in which the command finds it. -/
def Fronts (s : State) (t : Nat) (u : State) : Prop := s.takesWork = true ∧ u = s.at t ∧ u.frontRuns = true

/-- No table has an injected error waiting for a read (R288). -/
def NoErrorArmed (u : State) : Prop := u.regrow.injBad = [] ∧ u.regrow.injFix = []

/-- The command with opcode `op` in entry `e` of F0's admin SQ starts at moment `t` (R79): it is the next to start and passes the
checks that all admin commands share (R78, R292); `u` is the state in which it finds the block. -/
def Starts (s : State) (t op : Nat) (e : AdmEntry) (u : State) : Prop :=
  Fronts s t u ∧ NoErrorArmed u ∧ u.admNext = some e ∧ e.op = op ∧ u.rb .ADM_STAT 0 0 2 = false
  ∧ (u.fnPart e.acting).isSome = true ∧ e.q0Bad = false

/-- The device runs at moment `t`, be it in a global stop (R420), and `u` is the state in which the command finds it. -/
def Runs (s : State) (t : Nat) (u : State) : Prop := (s.ready && !s.haltedAll) = true ∧ u = s.at t

/-- A write by `who` of a register in window `win` at moment `t` is taken (R10, R283, R289, R345, R457), and `u` is the state in
which its effect finds the block: a host access has been counted and has woken it (R230). -/
def Writes (s : State) (t : Nat) (who : Who) (win : Window) (u : State) : Prop :=
  ((s.at t).reaches who win && (s.at t).mayWrite who) = true ∧ u = (s.at t).hostTouch who true

/-- A read by `who` of register `r` in window `win` at moment `t` is answered, and `u` is the state in which it finds the block. -/
def Reads (s : State) (t : Nat) (who : Who) (win : Window) (r : Reg) (u : State) : Prop :=
  (s.at t).reaches who win = true ∧ (s.at t).mayRead who (some r) = true ∧ u = (s.at t).hostTouch who false

/-- Submission `f` issues its next command, `ws`, with opcode `op`, at moment `t` (R94, R97, R123): it runs on a stream sequencer,
nothing holds the command back, and the walk that it makes has its words; `x` is the submission, and `u` the state in which the
command's effect finds the block, with the command counted. -/
def Issues (s : State) (t f op : Nat) (x : Flight) (ws : List Word) (u : State) : Prop :=
  s.takesWork = true
  ∧ Tab.get? ((s.at t).settle f).flights f = some x
  ∧ x.onSeq = true ∧ ((s.at t).settle f).frontRuns = true ∧ x.count < 4096 ∧ x.cur = some ws ∧ hdrOp (cw ws 0) = op
  ∧ (match x.walk ws with | some (.need _) => false | _ => true) = true
  ∧ u = (((s.at t).settle f).updFlight f (fun x => { x with count := x.count + 1 })).count (256 + x.seqr.getD 0) 1
      { part := (((s.at t).settle f).updFlight f (fun x => { x with count := x.count + 1 })).ctxPart x.ctx, ctx := some x.ctx,
        layer := some (hdrLayer (cw ws 0)) }

/-- Submission `f` stands in a CALL of ROM routine `r` that has not got its data, on a stream sequencer, at moment `t` (R119, R120);
`c` is the call, and `u` the state in which the routine finds the block. -/
def InRoutine (s : State) (t f r : Nat) (x : Flight) (c : Call) (u : State) : Prop :=
  Fronts s t u ∧ Tab.get? u.flights f = some x ∧ x.call = some c ∧ x.onSeq = true ∧ c.routine = r ∧ c.started = false

/-- Sequencer `n` fetches at moment `t` a word `w` of the kind that a command names, with good parity and with public encodings,
within the limit of R444 and in a loaded routine; `u` is the state in which the word finds the block. -/
def Fetches (s : State) (t n : Nat) (rom : BitVec 136) (is : BitVec 128 → Bool) (w : BitVec 128) (u : State) : Prop :=
  s.takesWork = true ∧ u = s.at t ∧ u.microRuns n = true ∧ u.microWord n rom = w ∧ is w = true ∧ u.microPrivate n rom = false
  ∧ parityOk (u.fetched (u.fetchAt (u.seqr n).pc) rom) = true ∧ u.regrow.injParity = []
  ∧ (u.inCustomer n = true → (u.seqr n).count < 4096 ∧ u.rtnLoaded n = true)

/-- The microcode state of sequencer `n` as its next word finds it (R432), with that word counted. -/
def State.worded (s : State) (n : Nat) : Seqr :=
  let q := (s.seqr n).fresh ((s.seqFlight n).map (·.2)) (s.inCustomer n)
  { q with count := q.count + 1 }

/-- The word acts through its FLOW alone: no handshake, its result dropped, the flags kept; and the command buffer is in bounds. -/
def FlowOnly (w : BitVec 128) (q : Seqr) : Prop :=
  mwf w 85 3 = 0 ∧ mwf w 48 6 = 0x3F ∧ mwf w 54 1 = 0 ∧ q.ibuf.length ≤ 255

/-- What a command needs to have any effect at all: that the front end takes work (Table 08-6, Table 06-6, R423), that Voxbin acts (R283, R420,
R457), that the device runs, be it in a global stop (R420), or none of these. -/
inductive Need where
  | front | alive | device | none
  deriving DecidableEq, Repr

/-- The need of a command; that of SET_CYCLIC depends on where it comes from. -/
def need (c : Instr) : Need :=
  match c with
  | .setCyclic _ src _ _ => (match src with | .queue _ => .front | .mgmt _ => .alive)
  | .urgentVisit .. | .scheduledVisit .. | .shortSqVisit .. | .flightEntryGrant .. | .adminNop .. |
    .createSq .. | .destroySq .. | .createCr .. | .destroyCr .. | .createContext .. | .destroyContext .. | .setShare .. |
    .bindEvents .. | .unbindEvents .. | .query .. | .resumeCr .. | .nop .. | .dispatch .. | .bin .. | .render .. | .copy .. |
    .fill .. | .compose .. | .loadWeights .. | .linkPut .. | .linkGet .. | .record .. | .wait .. | .semAcquire .. | .semRelease .. |
    .fence .. | .setScalar .. | .addScalar .. | .compare .. | .skipIf .. | .repeatCmd .. | .endRepeat .. | .call .. | .setAreg .. |
    .timestamp .. | .watch .. | .mark .. | .preloadHint .. | .layerChain .. | .tileWalk .. | .copy2d .. | .copy3d .. |
    .copyList .. | .fill2d .. | .waitAll .. | .recordList .. | .bandSplit .. | .haloPut .. | .frameIndex .. |
    .sequencerYield .. | .sequencerPick .. | .enginePick .. | .coresPick .. | .gatherTimeout .. | .launch .. |
    .slotPreload .. | .microword .. | .microCall .. | .microRet .. | .microEnd .. | .microFault .. |
    .microwordLimit .. | .issue .. | .mrd .. | .evrd .. | .timeChannel .. | .markChannel .. | .probe .. => .front
  | .entryFetchData .. | .bufferBlockRead .. | .remainderStreamEnd .. | .shadowBankWriteAck ..
  | .hostReadCompletion .. | .completionTimeout .. | .memoryWriteAck .. | .memoryReadData .. | .launchAck .. | .ctlAck .. |
    .engineDone .. | .sagLineRise .. | .stretchRelease .. | .meterSample .. | .priceUpdate .. | .vfChangeComplete .. |
    .dinStuck .. | .submissionRetire .. | .waitTimeoutExpiry .. | .watchResult .. | .proxyRetry .. | .periodStart .. |
    .vsyncFreeRun .. | .slotClockRaise .. | .slotStart .. | .slotDeadline .. | .inheritanceDetect .. | .idleGapStart .. |
    .rungEntryComplete .. | .rungExitComplete .. | .ladderExitScheduled .. | .watchdogExpiry .. | .drainLimitExpiry .. |
    .teardownEntryGrant .. | .regrowthResume .. | .cipherFlushComplete .. | .pageReleaseComplete .. | .mboxResponse .. |
    .segmentReceive .. | .segmentResendTimeout .. | .recordMessage .. | .waitReg .. | .release .. | .waitDrop .. | .semAcq .. |
    .semGrant .. | .semRel .. | .refuse .. | .ack .. | .openTransfer .. | .report .. | .squash .. | .squashAck .. | .credit .. |
    .hangGraphBuilt .. | .loadPauseReached .. | .sagLineFall .. => .alive
  | .thermalEvaluation .. | .vfCountChange .. | .pcieFlr .. | .keygenComplete .. | .entropyHealthFail .. |
    .entropyRetry .. | .txCounterRekey .. | .linkHello .. | .linkProof .. | .keySwitch .. | .epochSwitchTimeout .. |
    .portLanesUp .. | .train .. | .lanesFall .. | .lanesLostTimeout .. | .linkFrameReceive .. | .frameReplayTimeout .. |
    .idleFrameTick .. | .heartbeat .. | .lost .. | .lead .. | .joinReq .. | .joinGrant .. | .epoch .. | .atMessage .. |
    .leaveMessage .. | .key .. | .nodeKex .. | .timeExchangeTick .. | .timeFrame .. | .heartbeatTick .. | .leadLossTimeout .. |
    .settleWindowEnd .. | .epochTick .. | .epochExtrapolate .. | .atTimeReached .. | .stormWindow .. | .freezeTimeReached .. |
    .traceCapWindow .. | .epochStart .. | .leaveTransferLimit .. | .msiXMaskWrite .. => .device
  | .registerWrite .. | .clockLost .. | .hostLoss .. | .hostLinkReturn .. | .i3cEntdaa .. | .i3cSetdasa .. | .i3cRstact .. | .i3cTargetReset .. |
    .mgmtVendorRequest .. | .coldReset .. | .plinthReadComplete .. | .warmReset .. | .hostReset .. | .debugPortReset .. |
    .dinEdge .. | .dinPendClear .. | .dinUnquench .. | .extest .. | .sample .. | .preload .. | .idcode .. | .bypass .. |
    .vxbStop .. | .vxbScan .. | .sqDoorbell .. | .urgentDoorbell .. | .consumerIndexWrite .. | .adminDoorbell .. | .adminResume .. |
    .evFnRecordWrite .. | .evFnValueRead .. | .semCfgWrite .. | .cycEnWrite .. | .govCapMgmtWrite .. | .govCapF0Write .. |
    .priceTabCommit .. | .priceTabRestore .. | .learnClear .. | .tlimitWrite .. | .sagEnWrite .. | .profileWrite .. |
    .errPrimaryRelease .. | .injectParity .. | .injectUncorrectable .. | .injectCorrectable .. | .fnAssignWrite .. |
    .fnCfgReset .. | .fnCtlFlr .. | .coreMove .. | .wayMove .. | .channelMove .. | .tenantRemoval .. | .pageRelease .. |
    .mboxGo .. | .getVersion .. | .getCapabilities .. | .negotiateAlgorithms .. | .getDigests .. | .getCertificate .. |
    .challenge .. | .getMeasurements .. | .keyExchange .. | .finish .. | .endSession .. | .getWrapKey .. | .deliverKey .. |
    .blobKeyFree .. | .zeroiseSlot .. | .zeroiseAllBlob .. | .linkRekey .. | .authLockoutExpiry .. | .plannedLeave .. | .rejoin .. |
    .irqClaim .. | .irqEoi .. | .irqLineMaskWrite .. | .irqMapWrite .. | .irqUnquench .. | .freezeGo .. | .counterClear .. |
    .freezeUnlock .. | .freezeArm .. | .globalStop .. | .softStop .. | .softStopResume .. | .scanOutComplete .. |
    .hangGraphRequest .. | .hangBufferRelease .. | .pcfgWrite .. | .loadBegin .. | .loadData .. | .loadCommit .. | .loadAbort .. |
    .clockReturn .. | .rcRegisterRead .. | .hdrDdrEntry .. | .spdmKeyUpdate .. => .none

/-- The state gives what a command needs. -/
def Need.met (n : Need) (s : State) : Bool :=
  match n with
  | .front => s.takesWork
  | .alive => s.alive
  | .device => s.ready && !s.haltedAll
  | .none => true

/-- The moment and the function of an access, if the host makes it. -/
def ofHost (t : Nat) (who : Who) : Option (Nat × Nat) := match who with | .fn n => some (t, n) | .mgmt => none

/-- The moment and the function of a command by which the host writes a register (log entry 5 for the moment): the general write, or
a write that has a row of its own. -/
def hostWrite (c : Instr) : Option (Nat × Nat) :=
  match c with
  | .registerWrite t who _ _ _ _ => ofHost t who
  | .dinPendClear t who _ => ofHost t who
  | .dinUnquench t who _ => ofHost t who
  | .sqDoorbell t n _ _ _ => some (t, n)
  | .urgentDoorbell t n _ _ _ => some (t, n)
  | .consumerIndexWrite t who _ _ => ofHost t who
  | .adminDoorbell t n _ => some (t, n)
  | .adminResume t n _ => some (t, n)
  | .evFnRecordWrite t n _ => some (t, n)
  | .semCfgWrite t who _ _ => ofHost t who
  | .cycEnWrite t who _ => ofHost t who
  | .govCapMgmtWrite t who _ => ofHost t who
  | .govCapF0Write t who _ => ofHost t who
  | .priceTabCommit t who => ofHost t who
  | .priceTabRestore t who => ofHost t who
  | .learnClear t who => ofHost t who
  | .tlimitWrite t who _ => ofHost t who
  | .sagEnWrite t who _ => ofHost t who
  | .profileWrite t who _ => ofHost t who
  | .errPrimaryRelease t who => ofHost t who
  | .injectParity t who _ => ofHost t who
  | .injectUncorrectable t who _ => ofHost t who
  | .injectCorrectable t who _ => ofHost t who
  | .fnAssignWrite t who _ _ => ofHost t who
  | .fnCfgReset t who _ => ofHost t who
  | .fnCtlFlr t n => some (t, n)
  | .coreMove t who _ _ _ => ofHost t who
  | .wayMove t who _ _ _ => ofHost t who
  | .channelMove t who _ _ _ => ofHost t who
  | .tenantRemoval t who _ _ => ofHost t who
  | .pageRelease t n _ _ => some (t, n)
  | .mboxGo t n _ => some (t, n)
  | .blobKeyFree t n _ => some (t, n)
  | .zeroiseSlot t who _ => ofHost t who
  | .zeroiseAllBlob t who => ofHost t who
  | .linkRekey t who _ => ofHost t who
  | .plannedLeave t who => ofHost t who
  | .rejoin t who => ofHost t who
  | .irqEoi t n => some (t, n)
  | .irqLineMaskWrite t n _ => some (t, n)
  | .irqMapWrite t who _ _ _ => ofHost t who
  | .irqUnquench t who _ => ofHost t who
  | .freezeGo t who => ofHost t who
  | .counterClear t who => ofHost t who
  | .freezeUnlock t who => ofHost t who
  | .freezeArm t who _ => ofHost t who
  | .globalStop t who => ofHost t who
  | .softStop t who => ofHost t who
  | .softStopResume t who => ofHost t who
  | .hangGraphRequest t who => ofHost t who
  | .hangBufferRelease t who => ofHost t who
  | .pcfgWrite t who _ _ => ofHost t who
  | _ => none

/-- A command that resets the whole block with new fuses. -/
def isColdReset (c : Instr) : Bool := match c with | .coldReset .. => true | _ => false

/-- The row runs one microword. -/
def runsMicroword (c : Instr) : Bool :=
  match c with
  | .microword .. | .microCall .. | .microRet .. | .microEnd .. | .microFault .. | .issue .. | .mrd .. | .evrd .. |
    .timeChannel .. | .markChannel .. | .probe .. => true
  | _ => false

/-- State `s` comes after state `r`: what had left the ports has left them for good, no free value is used again, the waiting
commands are those of `r` without the ones that have been taken, front first, and the fuses are those of `r` unless one of these
was a cold reset. -/
structure Since (r s : State) : Prop where
  out : r.out <+: s.out
  fresh : r.fresh ≤ s.fresh
  taken : ∃ l, r.pending = l ++ s.pending ∧ (l.all (fun c => !isColdReset c) = true → s.start.fuses = r.start.fuses)

/-- A done record names no launch on its physical engine (R260): where it answers a trim, no trim of that core with its TAG is
outstanding; else its TAG is not that of the core's run, or of any run of another engine. -/
def NamesNoLaunch (u : State) (h : HeldDone) : Prop :=
  (h.cls = .cores ∧ h.status = 4 ∧ u.trims.any (fun x => x.victim == h.peng && x.tag == h.tag) = false)
  ∨ (h.cls = .cores ∧ h.status ≠ 4 ∧ ∀ r, (nth u.cores h.peng {}).run = some r → r.tag ≠ h.tag)
  ∨ (h.cls ≠ .cores ∧ h.task = none ∧ ∀ r ∈ (Tab.getD u.engs (engNo h.cls h.peng) {}).runs, r.tag ≠ h.tag)

/-- The port that asks is one that the window answers (R465). -/
def InReach (s : State) (who : Who) (win : Window) : Prop :=
  match who, win with
  | .mgmt, .glob => s.inSession .mgmt = true
  | .mgmt, .own n => s.inSession .mgmt = true ∧ s.fnPresent n = true
  | .fn m, .glob => m = 0 ∧ s.ready = true ∧ s.haltedAll = false
  | .fn m, .own n => m = n ∧ s.fnPresent n = true ∧ s.ready = true ∧ s.haltedAll = false

end Sys2Proof.Machine
end

