-- ==== Sys2Proof/Certificates/Slice0/Obligations.lean ====
section
/-! DEFINITION. The statements for the provers: the commands chapter by chapter, then single rules and the machine as a whole. In a clause
about a
command, `u` is the state in which its effect finds the block (`Sys2Proof.Machine.Acts` and its like), and `Leaves c s v` says that
`c` in `s` answers a next state: `v` and what follows of itself (`State.polls`, log entry 9). -/

open Sys2Proof Sys2Proof.Machine

/-! ## The boundary (chapter 01) -/

/-- R21: CLOCK_LOST on a domain whose loss touches nothing else of Voxbin: the domain's live bit falls and its sticky bit rises. The
loss of a host domain is the loss of the host, before READY too, that of a port's takes the port down, and that of domain 17 ends the
lock of fabric time and is counted. CLOCK_RETURN sets the live bit again, and trains the port of a port's domain; domain 17's loss does not
come back. A
domain that Voxbin itself has stopped loses nothing. -/
def Obligations.ClockEdgesMoveDomainBits : Prop :=
  (∀ s t d, d = 3 ∨ (8 ≤ d ∧ d ≤ 16) ∨ d = 18 → (s.at t).clockStopped d = false →
    (s.at t).rb .VXB_DOMAIN_STAT 0 0 (d - 1) = true →
    Leaves (.clockLost t d) s
      (((s.at t).setB .VXB_DOMAIN_STAT 0 0 (d - 1) false).setB .VXB_DOMAIN_STAT 0 0 (31 + d) true))
  ∧ (∀ s t, (s.at t).rb .VXB_DOMAIN_STAT 0 0 16 = true → (s.at t).ready = true → (s.at t).rb .TML_TIME_STAT 0 0 0 = true →
    LeavesSome (.clockLost t 17) s (fun u =>
      u.rb .VXB_DOMAIN_STAT 0 0 16 = false ∧ u.rb .VXB_DOMAIN_STAT 0 0 48 = true ∧ u.rb .TML_TIME_STAT 0 0 0 = false
      ∧ u.rf .TML_TIME_STAT 0 0 24 16 = satAdd 65535 ((s.at t).rf .TML_TIME_STAT 0 0 24 16) 1 ∧ u.refAlive = false))
  ∧ (∀ s t d u, d = 1 ∨ d = 2 → (s.at t).clockStopped d = false → (s.at t).rb .VXB_DOMAIN_STAT 0 0 (d - 1) = true →
    u = ((s.at t).setB .VXB_DOMAIN_STAT 0 0 (d - 1) false).setB .VXB_DOMAIN_STAT 0 0 (31 + d) true →
    Leaves (.clockLost t d) s (u.hostGone 3))
  ∧ (∀ s t d u, 4 ≤ d → d ≤ 7 → (s.at t).rb .VXB_DOMAIN_STAT 0 0 (d - 1) = true → (s.at t).ready = true →
    u = ((s.at t).setB .VXB_DOMAIN_STAT 0 0 (d - 1) false).setB .VXB_DOMAIN_STAT 0 0 (31 + d) true →
    Leaves (.clockLost t d) s (u.portDown (d - 4) 11))
  ∧ (∀ s t d, (s.at t).clockStopped d = true → Leaves (.clockLost t d) s (s.at t))
  ∧ (∀ s t d, d < 4 ∨ 8 ≤ d → 1 ≤ d → d ≤ 18 → d ≠ 17 → (s.at t).rb .VXB_DOMAIN_STAT 0 0 (d - 1) = false →
    (s.at t).hasDomain d = true →
    Leaves (.clockReturn t d) s ((s.at t).setB .VXB_DOMAIN_STAT 0 0 (d - 1) true))
  ∧ (∀ s t d, 4 ≤ d → d ≤ 7 → (s.at t).rb .VXB_DOMAIN_STAT 0 0 (d - 1) = false → (s.at t).hasDomain d = true →
    (s.at t).ready = true →
    Leaves (.clockReturn t d) s (((s.at t).setB .VXB_DOMAIN_STAT 0 0 (d - 1) true).trainPort (d - 4)))
  ∧ (∀ s t, Leaves (.clockReturn t 17) s (s.at t))

/-- The host's coming and going: HOST_LOSS (R27, R29) of a link that is up takes the link down, records the cause and starts the
host-loss sequence, which during a regrowth waits for its end, and before READY for READY (log entry 161); one of a link that is down
is none. HOST_LINK_RETURN (R28) raises
LINK_UP with the trained width and speed, or all lanes of the integration port; HOST_RESET (R45) records its cause, resets the
functions of a block that is ready and takes the PCIe link down. -/
def Obligations.HostLinkFallsAndReturns : Prop :=
  (∀ s t u, u = s.at t → u.rb .VXB_HOST_LINK 0 0 8 = true →
    Leaves (.hostLoss t .linkDown) s (u.hostGone 1) ∧ Leaves (.hostLoss t .presentFell) s (u.hostGone 2))
  ∧ (∀ s t, Leaves (.hostLoss t .clockLost) s ((s.at t).hostGone 3))
  ∧ (∀ (u : State) c, (u.ready && !u.haltedAll) = true →
    u.hostGone c = (u.hostDown.setB .VXB_RESET_CAUSE 0 0 4 true).startHostLoss c)
  ∧ (∀ s t u, u = s.at t → u.rb .VXB_HOST_LINK 0 0 8 = true → u.ready = false → u.start.lossDue = none →
    LeavesSome (.hostLoss t .linkDown) s (fun v =>
      v.rb .VXB_HOST_LINK 0 0 8 = false ∧ v.rb .VXB_HOST_LINK 0 0 10 = true ∧ v.rb .VXB_HOST_LINK 0 0 11 = true
      ∧ v.rb .VXB_RESET_CAUSE 0 0 4 = true ∧ v.start.lossDue = some 1 ∧ v.td = u.td ∧ v.out = u.out))
  ∧ (∀ s t u, Runs s t u → u.rb .VXB_HOST_LINK 0 0 8 = true → u.regrowing = true →
    LeavesSome (.hostLoss t .linkDown) s (fun v =>
      v.rb .VXB_HOST_LINK 0 0 8 = false ∧ v.rb .VXB_HOST_LINK 0 0 10 = true ∧ v.rb .VXB_HOST_LINK 0 0 11 = true
      ∧ v.rb .VXB_RESET_CAUSE 0 0 4 = true ∧ v.regrow.hostLoss = some 1 ∧ v.td = u.td))
  ∧ (∀ s t u, u = s.at t → u.rb .VXB_HOST_LINK 0 0 8 = false →
    Leaves (.hostLoss t .linkDown) s u ∧ Leaves (.hostLoss t .presentFell) s u)
  ∧ (∀ s t w sp, (s.at t).rb .VXB_HOST_LINK 0 0 8 = false → (s.at t).soc = true →
    Leaves (.hostLinkReturn t w sp) s (((s.at t).setB .VXB_HOST_LINK 0 0 8 true).setF .VXB_HOST_LINK 0 0 0 8 0xFF))
  ∧ (∀ s t w sp, (s.at t).rb .VXB_HOST_LINK 0 0 8 = false → (s.at t).soc = false →
    LeavesSome (.hostLinkReturn t w sp) s (fun v => v.rb .VXB_HOST_LINK 0 0 8 = true
      ∧ v.rf .VXB_HOST_LINK 0 0 0 4 = w % 16 ∧ v.rf .VXB_HOST_LINK 0 0 4 4 = sp % 16 ∧ v.sqs = s.sqs ∧ v.td = s.td))
  ∧ (∀ s t, (s.at t).ready = false → (s.at t).soc = false →
    Leaves (.hostReset t) s (((s.at t).setB .VXB_RESET_CAUSE 0 0 2 true).hostDown))
  ∧ (∀ s t u, (s.at t).ready = true → (s.at t).haltedAll = false →
    u = ((s.at t).setB .VXB_RESET_CAUSE 0 0 2 true).startFlr 0 →
    Leaves (.hostReset t) s (if u.soc then u else u.hostDown))

/-- The management port's I3C target (R34, R35): ENTDAA and SETDASA give a target without one a dynamic address; RSTACT sets the
action, and the reset pattern performs it; HDR-DDR entry is reported. -/
def Obligations.I3cTargetTakesItsAddress : Prop :=
  (∀ s t a, (s.at t).rb .VXB_MGMT_STAT 0 0 7 = false → a < 128 →
    LeavesSome (.i3cEntdaa t a) s (fun v => v.rf .VXB_MGMT_STAT 0 0 0 7 = a ∧ v.rb .VXB_MGMT_STAT 0 0 7 = true
      ∧ v.start = s.start ∧ v.sec = s.sec ∧ v.out = (s.at t).out))
  ∧ (∀ s t a, (s.at t).rb .VXB_MGMT_STAT 0 0 7 = true → Leaves (.i3cEntdaa t a) s (s.at t))
  ∧ (∀ s t p a, s.start.plinth = some p → p.i3cStatic ≠ 0 → (s.at t).rb .VXB_MGMT_STAT 0 0 7 = false → a < 128 →
    LeavesSome (.i3cSetdasa t p.i3cStatic a) s (fun v => v.rf .VXB_MGMT_STAT 0 0 0 7 = a ∧ v.rb .VXB_MGMT_STAT 0 0 7 = true))
  ∧ (∀ s t a, Leaves (.i3cRstact t a) s { s.at t with start := { (s.at t).start with rstact := a } })
  ∧ (∀ s t, s.start.rstact = .noReset → Leaves (.i3cTargetReset t) s (s.at t))
  ∧ (∀ s t, s.start.rstact = .peripheral → s.mcs.load = none →
    LeavesSome (.i3cTargetReset t) s (fun v => v.rf .VXB_MGMT_STAT 0 0 0 9 = 0 ∧ v.rb .VXB_MGMT_STAT 0 0 9 = true))
  ∧ (∀ s t, s.start.rstact = .wholeTarget → (s.at t).wholeOk = true → Leaves (.i3cTargetReset t) s ((s.at t).warmReset true))
  ∧ (∀ s t, s.start.rstact = .wholeTarget → (s.at t).wholeOk = false → s.mcs.load = none →
    LeavesSome (.i3cTargetReset t) s (fun v => v.rf .VXB_MGMT_STAT 0 0 0 9 = 0 ∧ v.rb .VXB_MGMT_STAT 0 0 9 = true))
  ∧ (∀ s t, LeavesSome (.hdrDdrEntry t) s (fun v => v.rb .VXB_MGMT_STAT 0 0 8 = true ∧ v.start = s.start ∧ v.sec = s.sec))

/-- R36, R45, R455, R456: a cold reset forgets the block and takes the fuses and the flash mode; phase 2 reads the image. What has left
the ports, the waiting commands and the free values that are used up are not the block's to forget. The flash mode is one that no
mode of the SFDP tables exceeds in rate, and without the tables single-bit reads at 25 MHz. Fuses of no grade reset nothing (R2). -/
def Obligations.ColdResetForgets : Prop :=
  (∀ s t f mem ok l host, f.graded = true → ∃ u, exec (.coldReset t f mem ok l host) s = .next u
    ∧ u.rf .VXB_START_STAT 0 0 0 3 = 2 ∧ u.ready = false ∧ u.rb .VXB_RESET_CAUSE 0 0 0 = true
    ∧ u.rb .VXB_HOST_LINK 0 0 9 = f.soc ∧ u.rb .VXB_HOST_LINK 0 0 8 = (f.soc && host)
    ∧ u.reg .VXB_FLASH_MODE = mkWord [(0, 3, (pickFlash (if ok then l else [])).1), (4, 8, (pickFlash (if ok then l else [])).2),
      (12, 1, b2n ok)]
    ∧ u.sqs = [] ∧ u.crs = [] ∧ u.flights = [] ∧ u.tasks = [] ∧ u.events = [] ∧ u.sems = [] ∧ u.ctxs = [] ∧ u.td = []
    ∧ u.sec = {} ∧ u.tml = {} ∧ u.cyc = {} ∧ u.gov = {} ∧ u.mcs = {} ∧ u.start.plinth = none ∧ u.start.mem = mem
    ∧ u.pending = s.pending ∧ s.out <+: u.out)
  ∧ (∀ (l : List (Nat × Nat)) e, e ∈ l →
    (flashMode e.1).2 * min e.2 (flashMode e.1).1 ≤ (flashMode (pickFlash l).1).2 * (pickFlash l).2)
  ∧ pickFlash [] = (0, 25)
  ∧ (∀ s t f mem ok l host, f.graded = false → Idle (.coldReset t f mem ok l host) s)

/-- The plinth's checks and the warm reset (R453, R455, R458, R462): a plinth read outside phase 2, or of another length than a sound
header gives, is no happening; one that fails a check fails the start with its SUB and DETAIL and is remembered as failed; one that
passes is configured and becomes ready; a warm reset begins again with the retained plinth, or, where the start failed, fails
again. -/
def Obligations.StartUpChecksThePlinth : Prop :=
  (∀ s t b c, (s.at t).rf .VXB_START_STAT 0 0 0 3 ≠ 2 → Leaves (.plinthReadComplete t b c) s (s.at t))
  ∧ (∀ s t b c, plinthHeader b = none → b.length ≠ plinthLen b → Leaves (.plinthReadComplete t b c) s (s.at t))
  ∧ (∀ s t b c f sub d, (s.at t).rf .VXB_START_STAT 0 0 0 3 = 2 → s.start.fuses = some f →
    (plinthHeader b = none → b.length = plinthLen b) → plinthFault f s.start.mem b c = some (sub, d) → sub < 256 →
    LeavesSome (.plinthReadComplete t b c) s (fun v =>
      v.rf .VXB_START_STAT 0 0 0 3 = 7 ∧ v.rb .VXB_START_STAT 0 0 4 = true ∧ v.rf .VXB_START_STAT 0 0 8 8 = sub
      ∧ v.start.failed = some (sub, d)))
  ∧ (∀ s t b c f, (s.at t).rf .VXB_START_STAT 0 0 0 3 = 2 → s.start.fuses = some f → b.length = plinthLen b →
    plinthFault f s.start.mem b c = none →
    (let u := s.at t
     let p := plinthOf b c
     ({ u with start := { u.start with plinth := some p } }).mcsFault b c = false →
     (cyclicTable (plinthWords b 10)).any (fun i => (u.configure f p).cycFault i.1 i.2) = false →
     Leaves (.plinthReadComplete t b c) s ((u.configure f p).becomeReady p ((u.ref - u.start.resetAt) / 1000))))
  ∧ (∀ s t, s.start.fuses = none → LeavesSome (.warmReset t false) s (fun v =>
      v.rb .VXB_RESET_CAUSE 0 0 1 = true ∧ v.haltedAll = false ∧ v.regrowing = false ∧ v.td = [] ∧ v.sqs = [] ∧ v.events = []))
  ∧ (∀ s t f sub d, s.start.fuses = some f → s.start.failed = some (sub, d) → sub < 256 →
    LeavesSome (.warmReset t false) s (fun v => v.rf .VXB_START_STAT 0 0 0 3 = 7 ∧ v.rb .VXB_START_STAT 0 0 4 = true
      ∧ v.start.failed = some (sub, d)))

/-- Reads of host memory on their way (R25, R26): a read that errors, or whose completion times out, faults what asked for it with
status 8: a submission, the context of an SQ whose entries were fetched, the launched command of an engine; the entries of F0's admin
SQ that the read covered have failed, and ADM_STAT says so. Data goes to its asker. What comes for no outstanding read is nothing. -/
def Obligations.HostReadsEndInDataOrFault : Prop :=
  (∀ s t u f, Acts s t u →
    Leaves (.hostReadCompletion t (.cmdData f) .error) s (u.guilty f 8 none 0)
    ∧ Leaves (.completionTimeout t (.cmdData f)) s (u.guilty f 8 none 0))
  ∧ (∀ s t u o, Acts s t u → u.readOf .adminFetch (some .host) = some o →
    LeavesSome (.hostReadCompletion t .adminFetch .error) s (fun v => v.rb .ADM_STAT 0 0 5 = true
      ∧ v.reads = (u.endBytes .adminFetch o.bytes).reads ∧ v.out = u.out ∧ v.sqs = u.sqs)
    ∧ LeavesSome (.completionTimeout t .adminFetch) s (fun v => v.rb .ADM_STAT 0 0 5 = true
      ∧ v.reads = (u.endBytes .adminFetch o.bytes).reads ∧ v.out = u.out ∧ v.sqs = u.sqs))
  ∧ (∀ s t u q x o, Acts s t u → u.readOf (.entryFetch q) (some .host) = some o → Tab.get? u.sqs q = some x →
    Leaves (.hostReadCompletion t (.entryFetch q) .error) s
      ((u.endBytes (.entryFetch q) o.bytes).startAutotomy { ctx := x.ctx, status := 8 })
    ∧ Leaves (.completionTimeout t (.entryFetch q)) s
      ((u.endBytes (.entryFetch q) o.bytes).startAutotomy { ctx := x.ctx, status := 8 }))
  ∧ (∀ s t u c p g k, Acts s t u → u.launchedTask c p g = some k →
    Leaves (.hostReadCompletion t (.engine c p g) .error) s (u.guiltyTask k 8 0)
    ∧ Leaves (.completionTimeout t (.engine c p g)) s (u.guiltyTask k 8 0))
  ∧ (∀ s t u f off o data, Acts s t u → u.readOf (.buffer f off) (some .host) = some o →
    Leaves (.hostReadCompletion t (.buffer f off) (.ok data)) s ((u.endBytes (.buffer f off) o.bytes).blockRead f off data))
  ∧ (∀ s t u r res, Acts s t u → readTracked r = true → u.readOf r (some .host) = none →
    Leaves (.hostReadCompletion t r res) s u ∧ Leaves (.completionTimeout t r) s u)

/-- Reads and writes of memory (R30, R261, R317 to R325): data with the error flag faults the context of the launched command with
status 9, a refused read is counted and faults it with status 8; lines that pass the cipher's checks go to their asker, deciphered;
one that fails a check is counted, recorded and faults with status 9. A line that is written is held, its counters and its MACs are
renewed; one that the cipher refuses is counted, and is a page fault where it is an engine's; the Voxbin region refuses nothing. An
engine reaches no partition but its command's (R296): what comes from another is no happening. -/
def Obligations.MemoryLinesAreChecked : Prop :=
  (∀ s t u c p g k, Acts s t u → u.launchedTask c p g = some k →
    Leaves (.memoryReadData t (.engine c p g) .errorFlag) s (u.guiltyTask k 9 0))
  ∧ (∀ s t u c p g k part off n ls, Acts s t u → u.launchedTask c p g = some k →
    u.linesFor (.engine c p g) none part off n = true → u.linesRefused (.engine c p g) part off n = true →
    Leaves (.memoryReadData t (.engine c p g) (.lines part off n ls)) s ((u.bump .MCI_STAT 0 0 32 16 1).guiltyTask k 8 0))
  ∧ (∀ s t u c p g part off n ls, Acts s t u → u.linesFor (.engine c p g) none part off n = false →
    Leaves (.memoryReadData t (.engine c p g) (.lines part off n ls)) s u)
  ∧ (∀ s t u c p g part off n ls ws, Acts s t u → c ≠ .gate → u.linesFor (.engine c p g) none part off n = true →
    u.linesRefused (.engine c p g) part off n = false →
    u.openLines part (off / 64) ls = ([], ws) →
    Leaves (.memoryReadData t (.engine c p g) (.lines part off n ls)) s (u.linesCount (.engine c p g) part (off / 64) ls))
  ∧ (∀ s t u r x part off n ls ws, Acts s t u → readTracked r = true → u.readOf r (some .mem) = some x →
    u.linesFor r (some x) part off n = true → u.linesRefused r part off n = false → u.openLines part (off / 64) ls = ([], ws) →
    Leaves (.memoryReadData t r (.lines part off n ls)) s
      ((u.linesCount r part (off / 64) ls).readData r (some x) (some .mem) (cutLines off n ws)))
  ∧ (∀ s t u r x part off n ls ws e, Acts s t u → readTracked r = true → u.readOf r (some .mem) = some x →
    u.linesFor r (some x) part off n = true → u.linesRefused r part off n = false → u.openLines part (off / 64) ls = ([e], ws) →
    Leaves (.memoryReadData t r (.lines part off n ls)) s
      ((((u.linesCount r part (off / 64) ls).endBytes x.tag x.bytes).cipherFail e.1 part (BitVec.ofNat 64 (64 * e.2.1))
        e.2.2).failedRead r (some x) 9))
  ∧ (∀ s t u, Acts s t u → Leaves (.memoryWriteAck t .own) s u)
  ∧ (∀ s t u e part line d, Acts s t u → part ≠ 8 → u.engineReaches e part = true → u.live part = true →
    line < u.rf .MCI_PART part 0 16 36 * 64 → u.meetsSeal part (64 * line) 64 = false →
    Leaves (.memoryWriteAck t (.line e part line d)) s
      ((((u.releaseFirst part (line / 64)).holdPage part (line / 64)).writeLine ((u.engineTask e).map (·.fn)) part line d).lineCount
        true e part line))
  ∧ (∀ s t u e part line d, Acts s t u → part ≠ 8 → u.engineReaches e part = false → Leaves (.memoryWriteAck t (.line e part line d)) s u)
  ∧ (∀ s t u part line d, Acts s t u → part ≠ 8 → u.rf .MCI_PART part 0 16 36 * 64 ≤ line →
    Leaves (.memoryWriteAck t (.line none part line d)) s (u.bump .MCI_STAT 0 0 32 16 1))
  ∧ (∀ s t u c p g k part line d, Acts s t u → part ≠ 8 → u.engineReaches (some (c, p, g)) part = true →
    u.launchedTask c p g = some k → u.rf .MCI_PART part 0 16 36 * 64 ≤ line →
    Leaves (.memoryWriteAck t (.line (some (c, p, g)) part line d)) s ((u.bump .MCI_STAT 0 0 32 16 1).guiltyTask k 8 0))
  ∧ (∀ s t u line d, Acts s t u → Leaves (.memoryWriteAck t (.line none 8 line d)) s (u.writeLine none 8 line d))
  ∧ (∀ s t u e line d, Acts s t u → Leaves (.memoryWriteAck t (.line (some e) 8 line d)) s u)

/-- The engines' channels (R38, R39, R235, R237, R260): a launch acknowledgement frees its lane; the acknowledgement of a stop, a
drain, a squash, a yield or a trim changes nothing by itself, that of a scrub before a launch lets the launch go; a done is held
while regrowth rebuilds, applied to the run whose TAG it names, and otherwise logged as unknown. -/
def Obligations.EngineAnswersAreApplied : Prop :=
  (∀ s t u c p, Acts s t u → Leaves (.launchAck t c p) s
    { u with lanes := u.lanes.filter (fun e => !(e.2.cls == c && e.2.peng == p)) })
  ∧ (∀ s t u c p op, Acts s t u → op ≠ .clean → op ≠ .scrub → Leaves (.ctlAck t c p op) s u)
  ∧ (∀ s t u c p, Acts s t u → c ≠ .cores → (Tab.getD u.engs (engNo c p) {}).ctl = some .scrub →
    LeavesSome (.ctlAck t c p .scrub) s (fun v => v.engs = Tab.upd u.engs (engNo c p) (fun y => { y with ctl := none, lastPart := none })
      ∧ v.due = u.due.map (fun d => if d.cls == c && d.peng == p then { d with stalled := false } else d)))
  ∧ (∀ s t u c p tag st rf nl nx ns, Acts s t u → (c = .comp → st = 0 → u.compHas tag = false) → u.regrowing = true →
    u.regrow.dones.length < 1024 →
    Leaves (.engineDone t c p tag st rf nl nx ns) s
      { u with regrow := { u.regrow with dones := u.regrow.dones ++ [⟨c, p, tag, st, rf, nl, nx, ns, none, u.now⟩] } })
  ∧ (∀ s t u p tag rf nl nx ns, Acts s t u → u.compHas tag = true →
    Leaves (.engineDone t .comp p tag 0 rf nl nx ns) s
      (u.updEng (engNo .comp 0) (fun e => { e with owed := e.owed.eraseP (fun o => o.2 == tag) })))
  ∧ (∀ s t u c p tag st rf nl nx ns r, Acts s t u → (c = .comp → st = 0 → u.compHas tag = false) → u.regrowing = false → c ≠ .cores →
    (Tab.getD u.engs (engNo c p) {}).runs.filter (fun r => r.tag == tag) = [r] →
    Leaves (.engineDone t c p tag st rf nl nx ns) s (u.engDone (engNo c p) r ⟨c, p, tag, st, rf, nl, nx, ns, none, 0⟩))
  ∧ (∀ s t u c p tag st rf nl nx ns r, Acts s t u → (c = .comp → st = 0 → u.compHas tag = false) → u.regrowing = false → c ≠ .cores →
    st ≠ 2 → st ≠ 3 → (Tab.getD u.engs (engNo c p) {}).runs.find? (fun r => r.tag == tag) = some r →
    Leaves (.engineDone t c p tag st rf nl nx ns) s (u.engDone (engNo c p) r ⟨c, p, tag, st, rf, nl, nx, ns, none, 0⟩))
  ∧ (∀ s t u p tag st rf nl nx ns r, Acts s t u → u.regrowing = false → st ≠ 4 → (nth u.cores p {}).run = some r → r.tag = tag →
    Leaves (.engineDone t .cores p tag st rf nl nx ns) s (u.coreDone p r ⟨.cores, p, tag, st, rf, nl, nx, ns, none, 0⟩))
  ∧ (∀ s t u p tag rf nl nx ns, Acts s t u → u.regrowing = false → u.trims.any (fun x => x.victim == p && x.tag == tag) = true →
    Leaves (.engineDone t .cores p tag 4 rf nl nx ns) s (u.trimAck p rf nx))
  ∧ (∀ s t u c p tag st rf nl nx ns, Acts s t u → (c = .comp → st = 0 → u.compHas tag = false) → u.regrowing = false → c ≠ .cores →
    (Tab.getD u.engs (engNo c p) {}).runs.find? (fun r => r.tag == tag) = none →
    Leaves (.engineDone t c p tag st rf nl nx ns) s (u.logErr { cls := 0x0A, sub := 0xFF }))

/-- The sag lines (R215): a rising line of an armed sag unit shows in GOV_SAG_STAT and raises the stretch of each group it covers
that was low, as one episode; a falling line shows too, and begins a group's 200 ns where it was the group's last; the stretch
goes low 200 ns later and no sooner. -/
def Obligations.SagLinesMoveTheStretch : Prop :=
  (∀ s t u l, Acts s t u → l < 16 → u.gov.rung < 2 → u.rb .GOV_SAG_CFG 0 0 5 = true → u.critical = false →
    (∃ g ∈ sagGroups l, u.gov.sagUp.getLsbD g = false) →
    LeavesSome (.sagLineRise t l) s (fun v => v.rb .GOV_SAG_STAT 0 0 l = true
      ∧ v.rf .GOV_SAG_STAT 0 0 16 32 = satAdd (2 ^ 32 - 1) (u.rf .GOV_SAG_STAT 0 0 16 32) 1
      ∧ v.out = u.out ++ ((sagGroups l).filter (fun g => !u.gov.sagUp.getLsbD g)).map (fun g => Emit.stretch g true)
      ∧ ∀ g ∈ sagGroups l, v.gov.sagUp.getLsbD g = true))
  ∧ (∀ s t u l, Acts s t u → l < 16 → u.gov.rung < 2 → u.rb .GOV_SAG_CFG 0 0 5 = false →
    Leaves (.sagLineRise t l) s (u.setB .GOV_SAG_STAT 0 0 l true))
  ∧ (∀ s t u l, Acts s t u → 2 ≤ u.gov.rung → Leaves (.sagLineRise t l) s u)
  ∧ (∀ s t u l, Acts s t u → l < 16 → u.rb .GOV_SAG_STAT 0 0 l = true →
    LeavesSome (.sagLineFall t l) s (fun v => v.rb .GOV_SAG_STAT 0 0 l = false ∧ v.out = u.out ∧ v.gov.sagUp = u.gov.sagUp
      ∧ ∀ g ∈ sagGroups l, u.gov.sagUp.getLsbD g = true → (u.setB .GOV_SAG_STAT 0 0 l false).sagHigh g = false →
        Tab.get? v.gov.fallAt g = some u.ref))
  ∧ (∀ s t u g a, Acts s t u → Tab.get? u.gov.fallAt g = some a → a + 200 ≤ u.ref → u.critical = false →
    LeavesSome (.stretchRelease t g) s (fun v => v.gov.sagUp = u.gov.sagUp &&& ~~~(1#8 <<< g)
      ∧ Tab.get? v.gov.fallAt g = none ∧ v.out = u.out ++ [.stretch g false]))
  ∧ (∀ s t u g a, Acts s t u → Tab.get? u.gov.fallAt g = some a → u.ref < a + 200 → Leaves (.stretchRelease t g) s u)

/-- The meters, the sensors and the governor's beat (R199 to R201, R208 to R214, R217, R218): a sample closes its meter's period
and counts in the total and the open bucket; an evaluation takes every sensor's sample; a price update closes the bucket, and at
LL4 and LL5 does nothing else; a completed change of point shows in GOV_VF. -/
def Obligations.SamplesDriveTheGovernor : Prop :=
  (∀ s t u m nj, Acts s t u → m < 48 → (nth u.cores m {}).run = none →
    LeavesSome (.meterSample t m nj) s (fun v => v.gov.totalNj = u.gov.totalNj + nj ∧ v.gov.bktTot = u.gov.bktTot + nj
      ∧ v.gov.unattrNj = u.gov.unattrNj + ((nj : Int) - (Tab.getD u.gov.meters m {}).attr)
      ∧ Tab.get? v.gov.meters m = some { last := u.ref, nj := nj, per := u.ref - (Tab.getD u.gov.meters m {}).last, attr := 0 }
      ∧ v.regs = u.regs ∧ v.tasks = u.tasks ∧ v.out = u.out))
  ∧ (∀ s t u nj, Acts s t u → u.tasks = [] →
    LeavesSome (.meterSample t 48 nj) s (fun v => v.gov.totalNj = u.gov.totalNj + nj ∧ v.gov.bktTot = u.gov.bktTot + nj
      ∧ v.gov.ivlUn = u.gov.ivlUn + nj ∧ v.regs = u.regs ∧ v.out = u.out))
  ∧ (∀ s t u l, Runs s t u → u.gov.rung < 4 → Leaves (.thermalEvaluation t l) s (u.evaluate l))
  ∧ (∀ s t u l, Runs s t u → 4 ≤ u.gov.rung → Leaves (.thermalEvaluation t l) s u)
  ∧ (∀ (u : State) n x, n < 64 → freshSample (some x) = true →
    (u.sensor n (some x)).rf .GOV_TEMP (n / 4) 0 (16 * (n % 4)) 16 = to16 x ∧ (u.sensor n (some x)).rb .GOV_STALE 0 0 n = false)
  ∧ (∀ s t u, Acts s t u → 4 ≤ u.gov.rung →
    LeavesSome (.priceUpdate t) s (fun v => v.gov.buckets = ((0, 0) :: u.gov.buckets).take 10000
      ∧ v.gov.bktTot = 0 ∧ v.gov.bktRt = 0 ∧ v.reg .GOV_PRICE = u.reg .GOV_PRICE))
  ∧ (∀ s t u, Acts s t u → u.gov.rung < 4 →
    Leaves (.priceUpdate t) s
      ((u.closeBucket.setF .GOV_STAT 0 0 6 2 (u.rf .GOV_PROFILE 0 0 0 2)).takeTab.predict20.assess).stepPrice)
  ∧ (∀ s t u c p, Acts s t u → c < 4 → Tab.get? u.gov.vfReq c = some p → p < 16 →
    LeavesSome (.vfChangeComplete t c) s (fun v => v.rf .GOV_VF 0 0 (4 * c) 4 = p
      ∧ v.gov = { u.gov with vfReq := Tab.erase u.gov.vfReq c } ∧ v.out = u.out))

/-- The discrete inputs (R48, R49, R50, R52): an active edge that the filter lets through is accepted, and one that comes too soon or
at a quenched input is counted in CLOSE; an assertion that lasts quenches an armed input, with an error record and source 6; a W1C of
PEND arms the measurement, but where it meets an accepted edge; a write of UNQUENCH opens an input whose level is not asserted. -/
def Obligations.DiscreteInputsAcceptAndQuench : Prop :=
  (∀ s t n pin, 9 ≤ n → Leaves (.dinEdge t n pin) s (s.at t))
  ∧ (∀ s t n pin, n = 0 ∨ (5 ≤ n ∧ n < 9) → (s.at t).alive = true →
    (pin != (s.at t).rb .VXB_DIN_CFG n 0 32) = true → (s.at t).rb .VXB_DIN_STAT n 0 2 = false →
    (s.at t).rb .VXB_DIN_CFG n 0 36 = true → (s.at t).rb .VXB_DIN_STAT n 0 1 = false →
    ((s.at t).din n).last = none →
    Leaves (.dinEdge t n pin) s
      ((((s.at t).setB .VXB_DIN_STAT n 0 2 true).updDin n (fun d => { d with since := (s.at t).ref })).dinAccept n))
  ∧ (∀ s t n pin u, 1 ≤ n → n ≤ 4 → (s.at t).alive = true →
    (pin != (s.at t).rb .VXB_DIN_CFG n 0 32) = true → (s.at t).rb .VXB_DIN_STAT n 0 2 = false →
    (s.at t).rb .VXB_DIN_CFG n 0 36 = true → (s.at t).rb .VXB_DIN_STAT n 0 1 = false →
    ((s.at t).din n).last = none →
    u = ((s.at t).setB .VXB_DIN_STAT n 0 2 true).updDin n (fun d => { d with since := (s.at t).ref }) →
    Leaves (.dinEdge t n pin) s ((u.setB .GOV_ALARM_CFG 0 0 1 u.alarmIn).dinAccept n))
  ∧ (∀ s t n pin, 5 ≤ n → n < 9 → (s.at t).alive = true →
    (pin != (s.at t).rb .VXB_DIN_CFG n 0 32) = true → (s.at t).rb .VXB_DIN_STAT n 0 2 = false →
    (s.at t).rb .VXB_DIN_CFG n 0 36 = true → (s.at t).rb .VXB_DIN_STAT n 0 1 = true →
    LeavesSome (.dinEdge t n pin) s (fun v => v.rb .VXB_DIN_STAT n 0 0 = (s.at t).rb .VXB_DIN_STAT n 0 0
      ∧ v.rf .VXB_DIN_STAT n 0 16 8 = satAdd 255 ((s.at t).rf .VXB_DIN_STAT n 0 16 8) 1 ∧ v.out = s.out))
  ∧ (∀ s t n pin a, 5 ≤ n → n < 9 → (s.at t).alive = true →
    (pin != (s.at t).rb .VXB_DIN_CFG n 0 32) = true → (s.at t).rb .VXB_DIN_STAT n 0 2 = false →
    (s.at t).rb .VXB_DIN_CFG n 0 36 = true → (s.at t).rb .VXB_DIN_STAT n 0 1 = false →
    ((s.at t).din n).last = some a → (s.at t).ref < a + (s.at t).rf .VXB_DIN_CFG n 0 0 16 * 1000 →
    LeavesSome (.dinEdge t n pin) s (fun v => v.rb .VXB_DIN_STAT n 0 0 = (s.at t).rb .VXB_DIN_STAT n 0 0
      ∧ v.rf .VXB_DIN_STAT n 0 16 8 = satAdd 255 ((s.at t).rf .VXB_DIN_STAT n 0 16 8) 1 ∧ v.out = s.out))
  ∧ (∀ s t u n, Acts s t u → n < 9 → u.rb .VXB_DIN_CFG n 0 36 = true → u.rf .VXB_DIN_CFG n 0 16 16 ≠ 0 → (u.din n).armed = true →
    u.rb .VXB_DIN_STAT n 0 2 = true → (u.din n).since + u.rf .VXB_DIN_CFG n 0 16 16 * 1000 ≤ u.ref →
    u.rb .VXB_DIN_STAT n 0 1 = false →
    Leaves (.dinStuck t n) s (((u.setB .VXB_DIN_STAT n 0 1 true).logErr { cls := 0x06, sub := n, obj := some n }).raise 6))
  ∧ (∀ s t who u n, Writes s t who .glob u → n < 9 → u.rb .VXB_DIN_STAT n 0 0 = true → (u.din n).last ≠ some u.ref →
    LeavesSome (.dinPendClear t who n) s (fun v => v.rb .VXB_DIN_STAT n 0 0 = false
      ∧ v.din n = { u.din n with armed := true, since := u.ref } ∧ v.out = u.out))
  ∧ (∀ s t who u n, Writes s t who .glob u → (u.din n).last = some u.ref → Leaves (.dinPendClear t who n) s u)
  ∧ (∀ s t who u n, Writes s t who .glob u → n < 9 → u.rb .VXB_DIN_STAT n 0 2 = false →
    Leaves (.dinUnquench t who n) s (u.setB .VXB_DIN_STAT n 0 1 false))
  ∧ (∀ s t who u n, Writes s t who .glob u → n < 9 → u.rb .VXB_DIN_STAT n 0 2 = true → Leaves (.dinUnquench t who n) s u)

/-- The debug port (R424): each code selects its instruction; a code the table does not list selects the bypass register; VXB_STOP
triggers a global stop; each VXB_SCAN shifts the next qword of the scan image, or zero where no stop is in force; DB_TRST_N selects
IDCODE and rewinds the scan. The scan clears what it has read of IRQ_DB_PEND and no other register (R393; log entry 158). -/
def Obligations.DebugPortSelectsAndShifts : Prop :=
  (∀ s t, Leaves (.extest t) s { s.at t with obs := { s.obs with ir := 0x00 } })
  ∧ (∀ s t, Leaves (.sample t) s { s.at t with obs := { s.obs with ir := 0x01 } })
  ∧ (∀ s t, Leaves (.preload t) s { s.at t with obs := { s.obs with ir := 0x02 } })
  ∧ (∀ s t, Leaves (.idcode t) s { s.at t with obs := { s.obs with ir := 0x03 } })
  ∧ (∀ s t c, c < 256 → Leaves (.bypass t c) s
      { s.at t with obs := { s.obs with ir := if c < 4 ∨ c = 0x20 ∨ c = 0x21 then 0xFF else c } })
  ∧ (∀ s t, Leaves (.vxbStop t) s (({ s.at t with obs := { s.obs with ir := 0x20 } }).globalStop 2))
  ∧ (∀ s t, (s.at t).rb .OBS_STOP_CFG 0 0 0 = false → Leaves (.vxbStop t) s { s.at t with obs := { s.obs with ir := 0x20 } })
  ∧ (∀ s t, (s.at t).scanReady = true → LeavesSome (.vxbScan t) s (fun v =>
      v.obs = { s.obs with ir := 0x21, scanPos := s.obs.scanPos + 1 }
        ∧ v.out = (s.at t).out ++ [.scan (({ s.at t with obs := { s.obs with ir := 0x21 } }).scanQword s.obs.scanPos)]
      ∧ (∀ k, (∀ i, i < 8 → k ≠ Reg.IRQ_DB_PEND.key i 0) → Tab.get? v.regs k = Tab.get? (s.at t).regs k)))
  ∧ (∀ s t, (s.at t).scanReady = false → LeavesSome (.vxbScan t) s (fun v =>
      v.obs = { s.obs with ir := 0x21 } ∧ v.out = s.out ++ [.scan 0]))
  ∧ (∀ s t, Leaves (.debugPortReset t) s { s.at t with obs := { s.obs with ir := 3, scanPos := 0 } })

/-- Register accesses (R9, R10, R345, R464, R465, R467): an 8-byte write or read of a 64-bit register at its place acts on the
register; a write that is not taken and a read that is not answered leave the registers alone, and the read gives zero; a vendor
request outside the management session does nothing, and inside it makes the same access. -/
def Obligations.RegisterAccessesReachTheirRegister : Prop :=
  (∀ s t who win u off v x, Writes s t who win u → off % 8 = 0 → regOf win off = some x → x.1.spec.wide = true →
    Leaves (.registerWrite t who win off 8 v) s (u.writeReg (byMgmt who) x.1 x.2.1 x.2.2 v))
  ∧ (∀ s t who win u off v x, Writes s t who win u → off % 4 = 0 → regOf win off = some x → x.1.spec.wide = false →
    Leaves (.registerWrite t who win off 4 v) s
      (u.writeReg (byMgmt who) x.1 x.2.1 x.2.2 (BitVec.ofNat 64 (fld v 0 32))))
  ∧ (∀ s t who win off n v, ((s.at t).reaches who win && (s.at t).mayWrite who) = false →
    Leaves (.registerWrite t who win off n v) s (s.at t))
  ∧ (∀ s t who win u off x, Reads s t who win x.1 u → off % 8 = 0 → regOf win off = some x → x.1.spec.wide = true →
    x.1 ≠ .EV_FN_VALUE →
    Leaves (.rcRegisterRead t who win off 8 none) s ((u.afterRead x.1 x.2.1 x.2.2 none).emit
      (.regData who (u.readWord (byMgmt who) x.1 x.2.1 x.2.2))))
  ∧ (∀ s t who win off n rv, (s.at t).reaches who win = false →
    Leaves (.rcRegisterRead t who win off n rv) s ((s.at t).emit (.regData who 0)))
  ∧ (∀ s t q, (s.at t).inSession .mgmt = false → Leaves (.mgmtVendorRequest t q) s (s.at t))
  ∧ (∀ s t win off n v, (s.at t).inSession .mgmt = true →
    Leaves (.mgmtVendorRequest t (.regWrite win off n v)) s ((s.at t).writeAccess .mgmt win off n v))
  ∧ (∀ s t win off n, (s.at t).inSession .mgmt = true →
    Leaves (.mgmtVendorRequest t (.regRead win off n)) s ((s.at t).readReg .mgmt win off n none))
  ∧ (∀ s t k n off b g d, (s.at t).inSession .mgmt = true →
    Leaves (.mgmtVendorRequest t (.load (.begin k n))) s ((s.at t).loadBegin k n)
    ∧ Leaves (.mgmtVendorRequest t (.load (.data off b))) s ((s.at t).loadData off b)
    ∧ Leaves (.mgmtVendorRequest t (.load (.commit g d))) s ((s.at t).loadCommit g d)
    ∧ Leaves (.mgmtVendorRequest t (.load .abort)) s (s.at t).loadAbort)

/-! ## Queues (chapter 02) -/

/-- R68, R72, R467: a doorbell write of 4 or 8 bytes in range stores the producer index and wakes the block, and with URGENT, or on an
SQ that is never polled, requests a visit behind the requests already waiting; one out of range leaves the index and sets BAD_PI; a
doorbell of a slot that holds no SQ does nothing, and a write of another width touches nothing. The two rows are one write. -/
def Obligations.DoorbellsPublishEntries : Prop :=
  (∀ s t fn slot n v u q x, Writes s t (.fn fn) (.own fn) u → n = 4 ∨ n = 8 → NoErrorArmed u → u.sqAt fn slot = some (q, x) →
    u.fnInTd fn = false → u.rb .ADM_STAT fn 0 2 = false → (x.state = .active ∨ x.state = .held) →
    piOk x.ci x.pi ((dbValue n v).setWidth 32) x.log2 = true →
    (let w := (u.updSq q (fun x => { x with pi := (dbValue n v).setWidth 32 })).wake
     let urgent := bitOf (dbValue n v) 63 || x.poll == 255
     Leaves (.sqDoorbell t fn slot n v) s (if urgent then w.urgent (some q) else w)
     ∧ Leaves (.urgentDoorbell t fn slot n v) s (if urgent then w.urgent (some q) else w)))
  ∧ (∀ s t fn slot n v u q x, Writes s t (.fn fn) (.own fn) u → n = 4 ∨ n = 8 → NoErrorArmed u → u.sqAt fn slot = some (q, x) →
    u.fnInTd fn = false → u.rb .ADM_STAT fn 0 2 = false → (x.state = .active ∨ x.state = .held) →
    piOk x.ci x.pi ((dbValue n v).setWidth 32) x.log2 = false →
    Leaves (.sqDoorbell t fn slot n v) s ((u.updSq q (fun x => { x with badPi := true })).wake)
    ∧ Leaves (.urgentDoorbell t fn slot n v) s ((u.updSq q (fun x => { x with badPi := true })).wake))
  ∧ (∀ s t fn slot n v u, Writes s t (.fn fn) (.own fn) u → n = 4 ∨ n = 8 → NoErrorArmed u → u.sqAt fn slot = none →
    Leaves (.sqDoorbell t fn slot n v) s u ∧ Leaves (.urgentDoorbell t fn slot n v) s u)
  ∧ (∀ s t fn slot n v, n ≠ 4 → n ≠ 8 →
    Leaves (.sqDoorbell t fn slot n v) s (s.at t) ∧ Leaves (.urgentDoorbell t fn slot n v) s (s.at t))

/-- Consumer indices and the admin queue's registers (R68, R69, R83, R92): a consumer index in range is stored, one out of range
sets the CR's BAD_CI or ADM_STAT's, and on a trace ring changes nothing; an admin doorbell of F0 makes failed reads due again and
requests a visit, one of a VF sets its pending bit and raises source 10, and one out of range sets BAD_PI; a resume of a held admin
CR with nothing kept clears HELD. -/
def Obligations.IndexWritesAreChecked : Prop :=
  (∀ s t who n k u c x v, Writes s t who (.own n) u → u.crAt n k = some (c, x) → (x.state = .active ∨ x.state = .held) →
    ciOk x.pi x.ci v = true → Leaves (.consumerIndexWrite t who (.cr n k) v) s (u.updCr c (fun c => { c with ci := v })))
  ∧ (∀ s t who n k u c x v, Writes s t who (.own n) u → u.crAt n k = some (c, x) → (x.state = .active ∨ x.state = .held) →
    ciOk x.pi x.ci v = false → Leaves (.consumerIndexWrite t who (.cr n k) v) s (u.updCr c (fun c => { c with badCi := true })))
  ∧ (∀ s t who n u v, Writes s t who (.own n) u →
    ciOk (BitVec.ofNat 32 (u.rf .ADM_CR_PI n 0 0 32)) (BitVec.ofNat 32 (u.rf .ADM_CR_CI n 0 0 32)) v = true →
    LeavesSome (.consumerIndexWrite t who (.admin n) v) s (fun w => w.rf .ADM_CR_CI n 0 0 32 = v.toNat ∧ w.crs = u.crs ∧ w.out = u.out))
  ∧ (∀ s t who n u v, Writes s t who (.own n) u →
    ciOk (BitVec.ofNat 32 (u.rf .ADM_CR_PI n 0 0 32)) (BitVec.ofNat 32 (u.rf .ADM_CR_CI n 0 0 32)) v = false →
    Leaves (.consumerIndexWrite t who (.admin n) v) s (u.setB .ADM_STAT n 0 4 true))
  ∧ (∀ s t who r u v, Writes s t who .glob u →
    ciOk (BitVec.ofNat 32 (u.rf .TRC_RING_PI r 0 0 32)) (BitVec.ofNat 32 (u.rf .TRC_RING_CI r 0 0 32)) v = true →
    LeavesSome (.consumerIndexWrite t who (.traceRing r) v) s (fun w => w.rf .TRC_RING_CI r 0 0 32 = v.toNat ∧ w.out = u.out))
  ∧ (∀ s t who r u v, Writes s t who .glob u →
    ciOk (BitVec.ofNat 32 (u.rf .TRC_RING_PI r 0 0 32)) (BitVec.ofNat 32 (u.rf .TRC_RING_CI r 0 0 32)) v = false →
    Leaves (.consumerIndexWrite t who (.traceRing r) v) s u)
  ∧ (∀ s t who n r u v, Writes s t who (.own n) u → u.fnPart n = some r →
    ciOk (BitVec.ofNat 32 (u.rf .TRC_RING_PI r 0 0 32)) (BitVec.ofNat 32 (u.rf .TRC_RING_CI r 0 0 32)) v = true →
    LeavesSome (.consumerIndexWrite t who (.traceFn n) v) s (fun w => w.rf .TRC_RING_CI r 0 0 32 = v.toNat ∧ w.out = u.out))
  ∧ (∀ s t u v, Writes s t (.fn 0) (.own 0) u → u.rb .ADM_STAT 0 0 0 = true → u.rb .ADM_STAT 0 0 2 = false → u.fnInTd 0 = false →
    piOk (u.admCi 0) (BitVec.ofNat 32 (u.rf .ADM_SQ_PI 0 0 0 32)) v (admLog2 (u.rf .ADM_CFG 0 0 0 4)) = true →
    Leaves (.adminDoorbell t 0 v) s ((u.setF .ADM_SQ_PI 0 0 0 32 v.toNat).wake.admReread.urgent none))
  ∧ (∀ s t n u v, Writes s t (.fn n) (.own n) u → u.rb .ADM_STAT n 0 0 = true → u.rb .ADM_STAT n 0 2 = false → u.fnInTd n = false →
    piOk (u.admCi n) (BitVec.ofNat 32 (u.rf .ADM_SQ_PI n 0 0 32)) v (admLog2 (u.rf .ADM_CFG n 0 0 4)) = false →
    Leaves (.adminDoorbell t n v) s (u.setB .ADM_STAT n 0 3 true))
  ∧ (∀ s t n u v, 0 < n → Writes s t (.fn n) (.own n) u → u.rb .ADM_STAT n 0 0 = true → u.rb .ADM_STAT n 0 2 = false →
    u.fnInTd n = false →
    piOk (u.admCi n) (BitVec.ofNat 32 (u.rf .ADM_SQ_PI n 0 0 32)) v (admLog2 (u.rf .ADM_CFG n 0 0 4)) = true →
    Leaves (.adminDoorbell t n v) s (((u.setF .ADM_SQ_PI n 0 0 32 v.toNat).setB .ADM_VF_PEND 0 0 n true).raise 10))
  ∧ (∀ s t n f u, Writes s t (.fn n) (.own n) u → u.rb .ADM_STAT n 0 1 = true → u.rb .ADM_STAT n 0 2 = false →
    Tab.get? u.admHeld n = none →
    LeavesSome (.adminResume t n f) s (fun w => w.rb .ADM_STAT n 0 1 = false ∧ w.out = u.out ∧ w.crs = u.crs))

/-- The scanner (R72 to R76): an urgent request is served before a short SQ, and both before the most overdue SQ, which falls due
one effective interval later; a visit fetches what is published, wanted, buffered and reserved for, and takes its place in the order of
acceptance; a visit of a short SQ is the same visit, and a short SQ that cannot fetch is passed over. -/
def Obligations.ScannerVisitsInOrder : Prop :=
  (∀ s t u q r, Fronts s t u → NoErrorArmed u → u.scan.urgent = q :: r →
    Leaves (.urgentVisit t) s (({ u with scan := { u.scan with urgent := r } }).visit q true))
  ∧ (∀ s t u, Fronts s t u → u.scan.urgent = [] → Leaves (.urgentVisit t) s u)
  ∧ (∀ s t u q r, Fronts s t u → NoErrorArmed u → u.scan.urgent = [] → 0 < u.poolFree → u.scan.short = q :: r → u.shortOpen q = true →
    Leaves (.shortSqVisit t) s (u.visit q false) ∧ Leaves (.scheduledVisit t) s u)
  ∧ (∀ s t u, Fronts s t u → u.scan.urgent = [] → (u.scan.short.any u.shortOpen = false ∨ u.poolFree = 0) →
    Leaves (.shortSqVisit t) s u)
  ∧ (∀ s t u q, Fronts s t u → NoErrorArmed u → u.scan.urgent = [] → u.scan.short.any u.shortOpen = false → u.overdue = some q →
    Leaves (.scheduledVisit t) s (match q with
      | some q => ((u.visited (some q)).visit (some q) false).updSq q (fun x => { x with due := u.ref + u.effNs x })
      | none => (u.visited none).visit none false))
  ∧ (∀ (u : State) q x c n a, Tab.get? u.sqs q = some x → u.sqOpen x = true → Tab.get? u.crs x.cr = some c → u.gov.rung < 3 →
    n = min (x.pi - x.fetched).toNat (min (min (x.depth - x.buffered) u.poolFree) c.free) → 0 < n →
    x.fetched.toNat % ringSize x.log2 + n ≤ ringSize x.log2 →
    a = x.base + BitVec.ofNat 64 (64 * (x.fetched.toNat % ringSize x.log2)) → u.closed (u.portOf a) = false →
    (u.visitSq q).out = u.out ++ [.read (u.access (u.readIssuer (.entryFetch q)) a) (.entryFetch q) a (64 * n)]
    ∧ Tab.get? (u.visitSq q).sqs q = some { x with fetched := x.fetched + BitVec.ofNat 32 n }
    ∧ Tab.get? (u.visitSq q).crs x.cr = some { c with reserved := c.reserved + n }
    ∧ (u.visitSq q).reads = u.reads ++ [{ tag := .entryFetch q, port := u.portOf a, addr := a, bytes := 64 * n }]
    ∧ (u.visitSq q).scan.visits = u.scan.visits ++ [(q, n)])

/-- R60, R75, R324: the entries that a fetch brings are appended to those that have arrived and accepted in index order, each into the
lowest free flight-table entry, of the SQs in the order of their visits; a malformed entry is not accepted and starts regrowth; with no
entry free, or behind an SQ visited before it, the rest waits, and a freed entry goes to the waiting SQ that was visited first. Data
that the cipher refuses is a page fault, and data of no outstanding fetch is nothing. -/
def Obligations.EntriesAreAcceptedInOrder : Prop :=
  (∀ s t u q o es data, Acts s t u → u.frontRuns = true → u.readOf (.entryFetch q) none = some o → u.outRefused o = false →
    es = (cutEntries 8 data).take (u.readBytes (.entryFetch q) none / 64) →
    Leaves (.entryFetchData t (some q) data) s
      (((u.endBytes (.entryFetch q) (64 * es.length)).updSq q (fun y => { y with arrived := y.arrived ++ es })).acceptLoop q 8))
  ∧ (∀ s t u q o data, Acts s t u → u.readOf (.entryFetch q) none = some o → u.outRefused o = true →
    Leaves (.entryFetchData t (some q) data) s ((u.endBytes (.entryFetch q) o.bytes).refusedRead (.entryFetch q) (some o)))
  ∧ (∀ s t u q data, Acts s t u → u.readOf (.entryFetch q) none = none → Leaves (.entryFetchData t (some q) data) s u)
  ∧ (∀ (u : State) q x e r f, Tab.get? u.sqs q = some x → x.arrived = e :: r → sqEntryBad x e = false →
    (∀ p, u.waiters.head? = some p → p = q) → u.freeFlight = some f →
    (u.acceptNext q).1 = true
    ∧ Tab.get? (u.acceptNext q).2.sqs q = some { x with ci := x.ci + 1, accepted := x.accepted + 1, arrived := r }
    ∧ ∃ y, Tab.get? (u.acceptNext q).2.flights f = some y ∧ y.sq = q ∧ y.seq = x.accepted + 1 ∧ y.ctx = x.ctx
      ∧ y.addr = nth e 1 0 ∧ y.length = fld (nth e 2 0) 0 25 ∧ y.arg = nth e 3 0 ∧ y.marker = (fld (nth e 0 0) 0 8 == 2))
  ∧ (∀ (u : State) q x e r, Tab.get? u.sqs q = some x → x.arrived = e :: r → sqEntryBad x e = true →
    u.acceptNext q = (false, u.badSqEntry q x e))
  ∧ (∀ (u : State) q x e r, Tab.get? u.sqs q = some x → x.arrived = e :: r → sqEntryBad x e = false →
    (u.freeFlight = none ∨ ∃ p, u.waiters.head? = some p ∧ p ≠ q) → u.acceptNext q = (false, u))
  ∧ (∀ s t u q r, Fronts s t u → u.waiters = q :: r → Leaves (.flightEntryGrant t) s (u.acceptLoop q 8))
  ∧ (∀ s t u, Fronts s t u → u.waiters = [] → Leaves (.flightEntryGrant t) s u)

/-- The admin commands that make no object (R78, R83, R92, R159, R168): a NOP completes; SET_SHARE sets the share of a context of
the acting function; a QUERY writes its block to DEST and completes; SET_CYCLIC takes the table its image spells and completes with
the code of the check; RESUME_CR of a CR that is not held completes with code 5. Each entry leaves the progress records and its
completion is written (`State.admDone`). -/
def Obligations.AdminCommandsComplete : Prop :=
  (∀ s t u e w, Starts s t 0 e u → Leaves (.adminNop t e.idx w) s (u.admDone e 0 0 0 0 (some (e.f 1 0 8)) w))
  ∧ (∀ s t u e w, Starts s t 7 e u → e.f 1 16 16 ≠ 0 → u.ctxOf e.acting (e.f 1 0 10) = true → u.ctxInTd (e.f 1 0 10) = false →
    Leaves (.setShare t e.idx w) s ((u.updCtx (e.f 1 0 10) (fun x => { x with share := e.f 1 16 16 })).admDone e 0 0 0 0 none w))
  ∧ (∀ s t u e w b, Starts s t 9 e u → e.f 1 0 8 ≤ 3 → (e.f 1 0 8 = 3 → e.f 1 16 12 = 0) → (e.qw 2).toNat % 64 = 0 →
    u.queryBlock e.acting (e.f 1 0 8) (e.f 1 16 12) = some b → u.refused (u.fnPart e.acting) (e.qw 2) 64 = false →
    Leaves (.query t e.idx false w) s ((u.writeMem (u.forFn e.acting) (e.qw 2) b).admDone e 0 0 0 0 none w))
  ∧ (∀ s t u e img w, Starts s t 10 e u → e.oboEn = false →
    Leaves (.setCyclic t (.queue e.idx) img w) s
      ((u.loadCyclic (e.f 2 0 9) img).2.admDone e 0 (u.loadCyclic (e.f 2 0 9) img).1 0 0 none w))
  ∧ (∀ s t u n img, Acts s t u → u.inSession .mgmt = true → Leaves (.setCyclic t (.mgmt n) img .none) s (u.loadCyclic n img).2)
  ∧ (∀ s t u e fa w c, Starts s t 11 e u → Tab.get? u.crs (e.f 1 0 10) = some c → c.fn = e.acting → c.state ≠ .held →
    Leaves (.resumeCr t e.idx fa w) s (u.admDone e 0 5 0 0 none w))
  ∧ (∀ s t u e w c, Starts s t 11 e u → Tab.get? u.crs (e.f 1 0 10) = some c → c.fn = e.acting → c.state = .held →
    u.crOf e.acting (e.f 1 0 10) = true → (u.sqs.filter (fun q => q.2.cr == e.f 1 0 10)) = [] →
    Leaves (.resumeCr t e.idx none w) s
      ((u.updCr (e.f 1 0 10) (fun r => { r with state := .active })).admDone e 0 0 0 0 none w))

/-- The admin commands that make and destroy objects (R54, R66, R78, R86, R93, R132, R133, R138, R154): the object stands under the
lowest free ID with the fields of its entry, and the completion gives the ID; a destroyed object is gone; a DESTROY_SQ starts its
sequence and completes at its end; a range of events is bound to the acting function's partition with the initial value, or
unbound. -/
def Obligations.AdminObjectsComeAndGo : Prop :=
  (∀ s t u e q, Starts s t 1 e u →
    (let log2 := e.f 2 0 5
     let poll := e.f 2 8 8
     4 ≤ log2 → log2 ≤ 16 → u.ringOk (e.qw 1) (64 * 2 ^ log2) = true → ¬ (225 ≤ poll ∧ poll ≤ 254) → (e.qw 3).toNat % 8 = 0 →
     u.ctxOf e.acting (e.f 2 32 10) = true → u.crOf e.acting (e.f 2 42 10) = true → u.crBusy (e.f 2 42 10) = false →
     u.ctxInTd (e.f 2 32 10) = false → u.dbTaken e.acting (e.f 2 21 11) = false → u.sqUsed e.acting < u.sqMax e.acting →
     u.freeSq = some q →
     (let x : Sq := { fn := e.acting, ctx := e.f 2 32 10, cr := e.f 2 42 10, base := e.qw 1, log2 := log2, poll := poll,
                      depth := e.f 2 16 3 + 1, irq := bitOf (e.qw 2) 19, dbSlot := e.f 2 21 11, seqAddr := e.qw 3,
                      drainUs := if e.f 4 0 16 = 0 then 200 else e.f 4 0 16, due := u.ref }
      let v := { u with sqs := Tab.set u.sqs q x }
      v.seqRefused q = false → Leaves (.createSq t e.idx .none) s ((v.seqWord q).admDone e 0 0 q 0 none .none))))
  ∧ (∀ s t u e x, Starts s t 2 e u → u.sqOf e.acting (e.f 1 0 12) = true → Tab.get? u.sqs (e.f 1 0 12) = some x →
    x.state ≠ .destroying → x.state ≠ .halted → u.td.any (fun d => d.kind == .destroySq && d.obj == e.f 1 0 12) = false →
    Leaves (.destroySq t e.idx) s
      (({ u with adm := { u.adm with prog := u.adm.prog.map (fun (y : AdmEntry) => if y.idx == e.idx then { y with started := true } else y) } }).startDestroy
        (e.f 1 0 12) x e.idx))
  ∧ (∀ s t u e r, Starts s t 3 e u →
    (let log2 := e.f 2 0 5
     4 ≤ log2 → log2 ≤ 16 → u.ringOk (e.qw 1) (32 * 2 ^ log2) = true → e.qw 3 = 0 → u.dbTaken e.acting (e.f 2 11 11) = false →
     u.crUsed e.acting < u.crMax e.acting → u.freeCr = some r →
     (let c : Cr := { fn := e.acting, base := e.qw 1, log2 := log2, irqSrc := e.f 2 5 6, dbSlot := e.f 2 11 11, piShadow := 0 }
      Leaves (.createCr t e.idx .none) s (({ u with crs := Tab.set u.crs r c }).admDone e 0 0 r 0 none .none))))
  ∧ (∀ s t u e w x, Starts s t 4 e u → u.crOf e.acting (e.f 1 0 10) = true → Tab.get? u.crs (e.f 1 0 10) = some x →
    x.state ≠ .destroying → x.state ≠ .halted → u.bound (e.f 1 0 10) = 0 →
    Leaves (.destroyCr t e.idx w) s (({ u with crs := Tab.erase u.crs (e.f 1 0 10) }).admDone e 0 0 0 0 none w))
  ∧ (∀ s t u e w c p, Starts s t 5 e u → e.f 1 0 16 ≠ 0 → bitOf (e.qw 1) 16 = false → u.ctxUsed e.acting < u.ctxMax e.acting →
    u.freeCtxId = some c → u.fnPart e.acting = some p →
    (let x : Ctx := { fn := e.acting, part := p, share := e.f 1 0 16, det := false, noSteal := bitOf (e.qw 1) 17,
                      noRotate := bitOf (e.qw 1) 18, background := bitOf (e.qw 1) 19,
                      wdMs := if e.f 1 32 16 = 0 then 100 else e.f 1 32 16, vc := u.vcMinOf (bitOf (e.qw 1) 19) }
     Leaves (.createContext t e.idx w) s
       (({ u with ctxs := Tab.set u.ctxs c x, wd := Tab.set u.wd c 0 }).admDone e 0 0 c 0 none w)))
  ∧ (∀ s t u e w, Starts s t 6 e u → u.ctxOf e.acting (e.f 1 0 10) = true → u.ctxInTd (e.f 1 0 10) = false →
    u.sqs.any (fun x => x.2.ctx == e.f 1 0 10) = false → u.cyc.pending = none →
    Leaves (.destroyContext t e.idx w) s (((u.ctxsGone [e.f 1 0 10]).freeCtx (e.f 1 0 10)).admDone e 0 0 0 0 none w))
  ∧ (∀ s t u e w p, Starts s t 8 e u → e.unbinds = false → 1 ≤ e.f 1 16 17 → e.f 1 0 16 + e.f 1 16 17 ≤ 65536 →
    u.fnPart e.acting = some p →
    u.events.any (fun v => e.f 1 0 16 ≤ v.1 && v.1 < e.f 1 0 16 + e.f 1 16 17 && some v.2.part != some p) = false →
    Leaves (.bindEvents t e.idx w) s
      ((((List.range (e.f 1 16 17)).map (· + e.f 1 0 16)).foldl (fun s i => s.bindEvent p (e.qw 2) i) u).admDone e 0 0 0 0 none w))
  ∧ (∀ s t u e w p, Starts s t 8 e u → e.unbinds = true → 1 ≤ e.f 1 16 17 → e.f 1 0 16 + e.f 1 16 17 ≤ 65536 →
    u.fnPart e.acting = some p →
    u.events.any (fun v => e.f 1 0 16 ≤ v.1 && v.1 < e.f 1 0 16 + e.f 1 16 17 && some v.2.part != some p) = false →
    Leaves (.unbindEvents t e.idx w) s
      ((((u.events.filter (fun v => e.f 1 0 16 ≤ v.1 && v.1 < e.f 1 0 16 + e.f 1 16 17)).map (·.1)).foldl State.unbindEvent u).admDone
        e 0 0 0 0 none w))

/-- R64, R65, R91: a MARKER with nothing to wait for, a STREAM at the end of its buffer and one that has ended early complete with
their status and result; while the CR is held, the completion is kept for it, up to 16 of them; a completion that is written leaves
in the order entry, PI_SHADOW, sequence word, interrupt. -/
def Obligations.SubmissionsRetireInOrder : Prop :=
  (∀ s t u f x w, Acts s t u → u.regrowing = false → Tab.get? u.flights f = some x → x.inTeardown = false → x.out = [] → x.pend = [] →
    x.wait = none → x.marker = true → Leaves (.submissionRetire t f w) s (u.complete f 0 0 0 0 u.now x.arg w))
  ∧ (∀ s t u f x w, Acts s t u → u.regrowing = false → Tab.get? u.flights f = some x → x.inTeardown = false → x.out = [] → x.pend = [] →
    x.wait = none → x.marker = false → x.ending = none → x.atRest = true →
    Leaves (.submissionRetire t f w) s (u.complete f 0 0 x.lastLayer x.lastOp u.now (nth x.c 0 0) w))
  ∧ (∀ s t u f x w e q, Acts s t u → u.regrowing = false → Tab.get? u.flights f = some x → x.inTeardown = false → x.out = [] →
    x.pend = [] → x.wait = none → x.marker = false → x.ending = some e → Tab.get? u.sqs x.sq = some q → q.state ≠ .destroying →
    Leaves (.submissionRetire t f w) s (u.complete f e.status e.off e.layer e.op e.at0 (BitVec.ofNat 64 e.off) w))
  ∧ (∀ (u : State) f x q st off la op a r w, Tab.get? u.flights f = some x → Tab.get? u.sqs x.sq = some q →
    u.crHeld x.sq = true → q.held.length < 16 →
    (let p : Cpl := { sq := x.sq, seq := x.seq, entry := cplEntry x.tag x.sq st a la op r, irqDue := q.irq || x.irqForce }
     u.complete f st off la op a r w = (u.keepHeld x.sq p).dropFlight f))
  ∧ (∀ (u : State) p c r, Tab.get? u.crs c = some r → p.stage = 0 → u.refused (u.fnPart r.fn) r.slot 32 = false → r.piShadow = 0 →
    (let v := (u.writeMem (u.forSq p.sq) r.slot p.entry).updCr c (fun r => { r with pi := r.pi + 1, reserved := r.reserved - 1 })
     u.writeEntry c p .none = (2, v.count 267 1 (v.forSq p.sq).who)))
  ∧ (∀ (u : State) p x, Tab.get? u.sqs p.sq = some x → (Tab.get? u.crs x.cr).isSome = true → p.stage = 2 → p.irqDue = false →
    x.retired = [] → p.seq = x.retiredSeq + 1 → u.seqRefused p.sq = false → u.closed (u.portOf x.seqAddr) = false → u.gov.rung < 3 →
    (u.writeCpl p .none).out = u.out ++ [.write (u.access (u.forSq p.sq) x.seqAddr) x.seqAddr [BitVec.ofNat 64 p.seq]]
    ∧ Tab.get? (u.writeCpl p .none).sqs p.sq = some { x with retiredSeq := p.seq })

/-! ## The command stream (chapter 03) -/

/-- R97, R102, R115, R121: a NOP and a FENCE that has nothing left to wait for pass; SET_SCALAR, ADD_SCALAR and COMPARE write one
counter or one comparator and nothing else of the submission, and SET_SCALAR of modes 2 and 3 reads or writes its qword of memory,
a page fault where that is refused; MARK leaves a trace record. The submission then stands at its next command. -/
def Obligations.ScalarCommandsWriteTheirRegister : Prop :=
  (∀ s t f x ws u, Issues s t f 0x00 x ws u → Leaves (.nop t f) s (((u.traceSync x (cw ws 0) 0).pass f).settle f))
  ∧ (∀ s t f x ws u, Issues s t f 0x14 x ws u → Leaves (.fence t f) s (((u.traceSync x (cw ws 0) 0).pass f).settle f))
  ∧ (∀ s t f x ws u m, Issues s t f 0x18 x ws u → fld (cw ws 1) 4 2 = 0 →
    Leaves (.setScalar t f m) s (((u.updFlight f (fun x => x.setC (fld (cw ws 1) 0 3) (cw ws 2))).pass f).settle f))
  ∧ (∀ s t f x ws u m, Issues s t f 0x18 x ws u → fld (cw ws 1) 4 2 = 1 →
    Leaves (.setScalar t f m) s
      (((u.updFlight f (fun y => y.setC (fld (cw ws 1) 0 3) (nth x.c (fld (cw ws 1) 8 3) 0))).pass f).settle f))
  ∧ (∀ s t f x ws u v a, Issues s t f 0x18 x ws u → fld (cw ws 1) 4 2 = 2 → x.addrOf (cw ws 2) 8 = some a →
    u.refused (u.ctxPart x.ctx) a 8 = false →
    Leaves (.setScalar t f (some v)) s
      ((((u.readMem (.cmdData f) a 8).updFlight f (fun y => y.setC (fld (cw ws 1) 0 3) v)).pass f).settle f))
  ∧ (∀ s t f x ws u v a, Issues s t f 0x18 x ws u → fld (cw ws 1) 4 2 = 3 → x.addrOf (cw ws 2) 8 = some a →
    u.refused (u.ctxPart x.ctx) a 8 = false →
    Leaves (.setScalar t f (some v)) s (((u.writeMem (u.forCtx x.ctx) a [nth x.c (fld (cw ws 1) 8 3) 0]).pass f).settle f))
  ∧ (∀ s t f x ws u m a, Issues s t f 0x18 x ws u → fld (cw ws 1) 4 2 = 3 → x.addrOf (cw ws 2) 8 = some a →
    u.refused (u.ctxPart x.ctx) a 8 = true ∨ m = none →
    Leaves (.setScalar t f m) s (((u.noteRefused (u.ctxPart x.ctx) a 8).guilty f 8 none a).settle f))
  ∧ (∀ s t f x ws u, Issues s t f 0x19 x ws u →
    Leaves (.addScalar t f) s
      (((u.updFlight f (fun y => y.setC (fld (cw ws 1) 0 3) (nth y.c (fld (cw ws 1) 0 3) 0
        + if bitOf (cw ws 1) 4 then nth x.c (fld (cw ws 1) 8 3) 0 else cw ws 2))).pass f).settle f))
  ∧ (∀ s t f x ws u, Issues s t f 0x1A x ws u →
    Leaves (.compare t f) s
      (((u.updFlight f (fun y => { y with k := modAt y.k (fld (cw ws 1) 0 2) (fun _ => compareOp (fld (cw ws 1) 8 4)
        (nth x.c (fld (cw ws 1) 4 3) 0) (if bitOf (cw ws 1) 12 then nth x.c (fld (cw ws 1) 16 3) 0 else cw ws 2)) })).pass f).settle f))
  ∧ (∀ s t f x ws u, Issues s t f 0x22 x ws u →
    Leaves (.mark t f) s (((u.traceCmd 6 (u.cmdTag x (cw ws 0)) (cw ws 1)).pass f).settle f))

/-- R116 to R119: SKIP_IF goes on behind the commands it skips where its comparator says so, and else at the next; REPEAT opens a
loop with its trips, or passes its body with none, and is a guilty fault where four loops are open; END_REPEAT steps the address
registers of its level and goes back to the body, or leaves the loop on its last trip; SET_AREG replaces one address register; a
CALL of a ROM routine whose arguments resolve, or of an installed customer routine that has its arguments, enters it. -/
def Obligations.LoopsSkipsAndCallsMoveThePlace : Prop :=
  (∀ s t f x ws u o, Issues s t f 0x1B x ws u → (nth x.k (fld (cw ws 1) 0 2) false != bitOf (cw ws 1) 2) = true →
    x.walk ws = some (.done o) →
    Leaves (.skipIf t f) s (((u.pass f).updFlight f (fun y => { y with off := o })).settle f))
  ∧ (∀ s t f x ws u, Issues s t f 0x1B x ws u → (nth x.k (fld (cw ws 1) 0 2) false != bitOf (cw ws 1) 2) = false →
    Leaves (.skipIf t f) s ((u.pass f).settle f))
  ∧ (∀ s t f x ws u, Issues s t f 0x1C x ws u → x.loops.length < 4 → 0 < x.trips (cw ws 1) → x.trips (cw ws 1) ≤ 0xFFFFFFFF →
    Leaves (.repeatCmd t f) s (((u.pass f).updFlight f
      (fun y => { y with loops := y.loops ++ [{ trips := x.trips (cw ws 1), body := y.off }] })).settle f))
  ∧ (∀ s t f x ws u o, Issues s t f 0x1C x ws u → x.loops.length < 4 → x.trips (cw ws 1) = 0 → x.walk ws = some (.done o) →
    Leaves (.repeatCmd t f) s (((u.pass f).updFlight f (fun y => { y with off := o })).settle f))
  ∧ (∀ s t f x ws u, Issues s t f 0x1C x ws u → x.loops.length = 4 → Leaves (.repeatCmd t f) s ((u.guilty f 5 none 0).settle f))
  ∧ (∀ s t f x ws u l, Issues s t f 0x1D x ws u → x.loops.getLast? = some l → l.trips = 1 →
    Leaves (.endRepeat t f) s ((((u.updFlight f (fun y => { y with areg := stepAregs y.areg y.loops.length })).pass f).updFlight f
      (fun y => { y with loops := y.loops.dropLast })).settle f))
  ∧ (∀ s t f x ws u l, Issues s t f 0x1D x ws u → x.loops.getLast? = some l → l.trips ≠ 1 →
    Leaves (.endRepeat t f) s ((((u.updFlight f (fun y => { y with areg := stepAregs y.areg y.loops.length })).pass f).updFlight f
      (fun y => { y with off := l.body, loops := y.loops.dropLast ++ [{ l with trips := l.trips - 1 }] })).settle f))
  ∧ (∀ s t f x ws u a, Issues s t f 0x1F x ws u → x.addrOf (cw ws 1) 1 = some a →
    (let r : AReg := { base := a, stride := (BitVec.ofNat 32 (fld (cw ws 2) 0 32)).toInt, mask := fld (cw ws 2) 32 4 }
     Leaves (.setAreg t f) s (((u.updFlight f (fun y => { y with areg := modAt y.areg (fld (cw ws 2) 40 4) (fun _ => r) })).pass f).settle f)))
  ∧ (∀ s t f x ws u a, Issues s t f 0x1E x ws u → (cw ws 1).toNat < 64 → x.romResolve (cw ws 1).toNat (ws.drop 2) = some a →
    (let c : Call := { routine := (cw ws 1).toNat, hdr := cw ws 0, args := a, started := false }
     Leaves (.call t f) s (((u.traceSync x (cw ws 0) (cw ws 1).toNat).updFlight f (fun y => { y with call := some c })).settle f)))
  ∧ (∀ s t f x ws u, Issues s t f 0x1E x ws u → (cw ws 1).toNat < 64 → x.romResolve (cw ws 1).toNat (ws.drop 2) = none →
    Leaves (.call t f) s ((u.guilty f 0xB none 0).settle f))
  ∧ (∀ s t f x ws u n, Issues s t f 0x1E x ws u → 64 ≤ (cw ws 1).toNat → x.seqr = some n →
    u.rb .MCS_RTN (cw ws 1).toNat 0 28 = true → u.rf .MCS_RTN (cw ws 1).toNat 0 24 4 ≤ (ws.drop 2).length →
    (let c : Call := { routine := (cw ws 1).toNat, hdr := cw ws 0, args := ws.drop 2, started := true }
     Leaves (.call t f) s ((((u.traceSync x (cw ws 0) (cw ws 1).toNat).updFlight f (fun y => { y with call := some c })).enterRtn n x.c
       (cw ws 1).toNat (List.replicate 16 0) false).settle f)))

/-- R112 to R114, R128, R130, R134, R137, R152: on this node, RECORD passes and gives the event its new value, WAIT passes where the
value has reached the target and else joins the waiters and parks, SEM_ACQUIRE takes its count where nobody queues and it is there
and else queues, SEM_RELEASE gives its count back; on another node each sends its message and parks until the answer, and ends the
submission early where that node is not in the live map; a timeout that has elapsed ends the submission early with status 7 (log entry
119); a handle
that the submission may not name is malformed. -/
def Obligations.EventsAndSemaphoresSynchronise : Prop :=
  (∀ s t f x ws u, Issues s t f 0x10 x ws u → NoErrorArmed u →
    (let h : Half := BitVec.ofNat 32 (fld (cw ws 1) 0 32)
     let v := if bitOf (cw ws 1) 34 then nth x.c (fld (cw ws 1) 35 3) 0 else cw ws 2
     u.handleOk x h = true → evNode h = u.node →
     Leaves (.record t f) s ((((u.traceSync x (cw ws 0) (v.toNat % 2 ^ 32)).pass f).recordLocal (evIdx h) (fld (cw ws 1) 32 2) v
       (some (x.ctx, u.node)) (some (hdrLayer (cw ws 0)))).settle f)))
  ∧ (∀ s t f x ws u, Issues s t f 0x10 x ws u → NoErrorArmed u → u.handleOk x (BitVec.ofNat 32 (fld (cw ws 1) 0 32)) = false →
    Leaves (.record t f) s ((u.guilty f 0xB none 0).settle f))
  ∧ (∀ s t f x ws u e, Issues s t f 0x11 x ws u → NoErrorArmed u →
    (let h : Half := BitVec.ofNat 32 (fld (cw ws 1) 0 32)
     let target := if bitOf (cw ws 1) 57 then nth x.c (fld (cw ws 1) 58 3) 0 else cw ws 2
     u.handleOk x h = true → evNode h = u.node → Tab.get? u.events (evIdx h) = some e →
     (target.toNat ≤ e.value.toNat →
       Leaves (.wait t f) s ((((u.progress x.ctx).traceSync x (cw ws 0) (target.toNat % 2 ^ 32)).pass f).settle f))
     ∧ (e.value.toNat < target.toNat → e.abandoned = true → Leaves (.wait t f) s ((u.endEarly f 2).settle f))
     ∧ (e.value.toNat < target.toNat → e.abandoned = false →
       Leaves (.wait t f) s (((u.updEvent (evIdx h) (fun e => { e with waiters := e.waiters ++ [(f, target)] })).park f (.event h target)
         (u.deadline (fld (cw ws 1) 32 25))).settle f))))
  ∧ (∀ s t f x ws u, Issues s t f 0x12 x ws u → NoErrorArmed u → fld (cw ws 1) 12 16 = 0 → fld (cw ws 1) 28 4 = u.node →
    (let i := fld (cw ws 1) 0 12
     let k := fld (cw ws 1) 32 32
     u.semCheck i (u.ctxPart x.ctx) = none → (u.semOf i).queue = [] → k ≤ (u.semOf i).value →
     (let v := (u.setSem i ({ u.semOf i with value := (u.semOf i).value - k }.hold x.ctx u.node k)).count 302 1
        { part := some (u.semOf i).part, ctx := some x.ctx, layer := some (hdrLayer (cw ws 0)) }
      Leaves (.semAcquire t f) s ((((v.progress x.ctx).traceSync x (cw ws 0) k).pass f).settle f))))
  ∧ (∀ s t f x ws u, Issues s t f 0x12 x ws u → NoErrorArmed u → fld (cw ws 1) 12 16 = 0 → fld (cw ws 1) 28 4 = u.node →
    (let i := fld (cw ws 1) 0 12
     let k := fld (cw ws 1) 32 32
     u.semCheck i (u.ctxPart x.ctx) = none → (u.semOf i).value < k →
     Leaves (.semAcquire t f) s (((u.park f (.sem u.node i k) (u.deadline (fld (cw ws 2) 0 25))).semAcquire i
       { node := u.node, f := f, ctx := x.ctx, count := k }).settle f)))
  ∧ (∀ s t f x ws u, Issues s t f 0x13 x ws u → NoErrorArmed u → fld (cw ws 1) 12 16 = 0 → fld (cw ws 1) 28 4 = u.node →
    u.semCheck (fld (cw ws 1) 0 12) (u.ctxPart x.ctx) = none →
    Leaves (.semRelease t f) s ((((u.traceSync x (cw ws 0) (fld (cw ws 1) 32 32)).pass f).semRelease (fld (cw ws 1) 0 12) x.ctx u.node
      (fld (cw ws 1) 32 32)).settle f))
  ∧ (∀ s t f x ws u, Issues s t f 0x10 x ws u →
    (let h : Half := BitVec.ofNat 32 (fld (cw ws 1) 0 32)
     let v := if bitOf (cw ws 1) 34 then nth x.c (fld (cw ws 1) 35 3) 0 else cw ws 2
     u.handleOk x h = true → evNode h ≠ u.node →
     (u.nodeLive (evNode h) = true → Leaves (.record t f) s
       (((u.send (evNode h) (.record h (fld (cw ws 1) 32 2) v (some (x.ctx, u.node))) (some f)).park f (.event h 0) none).settle f))
     ∧ (u.nodeLive (evNode h) = false → Leaves (.record t f) s ((u.endEarly f 0xD).settle f))))
  ∧ (∀ s t f x ws u, Issues s t f 0x11 x ws u →
    (let h : Half := BitVec.ofNat 32 (fld (cw ws 1) 0 32)
     let target := if bitOf (cw ws 1) 57 then nth x.c (fld (cw ws 1) 58 3) 0 else cw ws 2
     u.handleOk x h = true → evNode h ≠ u.node →
     (u.nodeLive (evNode h) = true → Leaves (.wait t f) s
       (((u.remoteWait h target f).park f (.event h target) (u.deadline (fld (cw ws 1) 32 25))).settle f))
     ∧ (u.nodeLive (evNode h) = false → Leaves (.wait t f) s ((u.endEarly f 2).settle f))))
  ∧ (∀ s t f x ws u n, Issues s t f 0x13 x ws u → fld (cw ws 1) 12 16 = 0 → n = fld (cw ws 1) 28 4 → n ≠ u.node →
    (u.nodeLive n = true → Leaves (.semRelease t f) s (((u.send n (.semRel (fld (cw ws 1) 0 12) (fld (cw ws 1) 32 32) x.ctx)
      (some f)).park f (.sem n (fld (cw ws 1) 0 12) 0) none).settle f))
    ∧ (u.nodeLive n = false → Leaves (.semRelease t f) s ((u.endEarly f 0xD).settle f)))
  ∧ (∀ s t f x ws u n, Issues s t f 0x12 x ws u → fld (cw ws 1) 12 16 = 0 → n = fld (cw ws 1) 28 4 → n ≠ u.node →
    (u.nodeLive n = true →
      (let i := fld (cw ws 1) 0 12
       let k := fld (cw ws 1) 32 32
       Leaves (.semAcquire t f) s (((({ u with remoteAcqs := u.remoteAcqs ++ [RemoteAcq.mk n i k x.ctx (some f)] }).send n
         (.semAcq i k x.ctx) (some f)).park f (.sem n i k) (u.deadline (fld (cw ws 2) 0 25))).settle f)))
    ∧ (u.nodeLive n = false → Leaves (.semAcquire t f) s ((u.endEarly f 2).settle f)))
  ∧ (∀ s t u f x w d, Acts s t u → u.regrowing = false → Tab.get? u.flights f = some x → x.wait = some w → w.deadline = some d →
    d < u.ref → x.inTeardown = false → x.ending = none →
    Leaves (.waitTimeoutExpiry t f) s ((u.wake.count 303 1 (u.wake.flightWho f)).endEarly f 7))
  ∧ (∀ s t u f x w d, Acts s t u → u.regrowing = false → Tab.get? u.flights f = some x → x.wait = some w → w.deadline = some d →
    u.ref ≤ d → Leaves (.waitTimeoutExpiry t f) s u)

/-- R96, R100, R103 to R106, R110, R111: an engine command whose addresses resolve, and which meets its own conditions, is handed
over to the scheduler; where they do not, it is malformed; with its engine absent it is a guilty fault of status 6. A command handed
over to a present engine becomes one more task, and its submission parks with it. -/
def Obligations.EngineCommandsAreHandedOver : Prop :=
  (∀ s t f x ws u r, Issues s t f 0x02 x ws u → x.resolve ws = some r →
    Leaves (.bin t f) s ((u.handOver f x .tiler r [] 0).settle f))
  ∧ (∀ s t f x ws u r, Issues s t f 0x04 x ws u → x.resolve ws = some r →
    Leaves (.copy t f) s ((u.handOver f x .dma r [] 0).settle f))
  ∧ (∀ s t f x ws u r, Issues s t f 0x05 x ws u → x.resolve ws = some r →
    Leaves (.fill t f) s ((u.handOver f x .dma r [] 0).settle f))
  ∧ (∀ s t f x ws u l e i, i ∈ [(0x01, Instr.dispatch t f l), (0x02, .bin t f), (0x03, .render t f e), (0x04, .copy t f), (0x05, .fill t f),
      (0x06, .compose t f), (0x07, .loadWeights t f), (0x08, .linkPut t f), (0x09, .linkGet t f)] →
    Issues s t f i.1 x ws u → x.resolve ws = none → Leaves i.2 s ((u.guilty f 0xB none 0).settle f))
  ∧ (∀ s t f x ws u r, Issues s t f 0x06 x ws u → x.resolve ws = some r →
    fld (cw r 1) 8 8 = 0 ∨ u.handleOk x ((cw r 5).setWidth 32) = true →
    Leaves (.compose t f) s ((u.handOver f x .comp r [] 0).settle f))
  ∧ (∀ s t f x ws u r, Issues s t f 0x07 x ws u → x.resolve ws = some r → u.sealedDst x r = true →
    Leaves (.loadWeights t f) s ((u.handOver f x .gate r [] 0).settle f))
  ∧ (∀ s t f x ws u r, Issues s t f 0x07 x ws u → x.resolve ws = some r → u.sealedDst x r = false →
    Leaves (.loadWeights t f) s ((u.guilty f 0xB none 0).settle f))
  ∧ (∀ s t f x ws u r, Issues s t f 0x08 x ws u → x.resolve ws = some r → u.linkOk x r = true →
    Leaves (.linkPut t f) s ((u.handOver f x .link r [] 0).settle f))
  ∧ (∀ s t f x ws u r, Issues s t f 0x09 x ws u → x.resolve ws = some r → u.linkOk x r = true →
    Leaves (.linkGet t f) s ((u.handOver f x .link r [] 0).settle f))
  ∧ (∀ s t f x ws u r l, Issues s t f 0x01 x ws u → x.resolve ws = some r → cw ws 9 = 0 →
    Leaves (.dispatch t f l) s ((u.handOver f x .cores r [] (cw r 1)).settle f))
  ∧ (∀ s t f x ws u r l n, Issues s t f 0x01 x ws u → x.resolve ws = some r → n = (cw ws 9).toNat → n ≠ 0 →
    u.refused (u.ctxPart x.ctx) (cw r 8) (16 * n) = false → (∀ i < n, (cw l (2 * i)).toNat % 64 = 0) →
    Leaves (.dispatch t f (some l)) s (((u.readMem (.cmdData f) (cw r 8) (16 * n)).handOver f x .cores r l (cw r 1)).settle f))
  ∧ (∀ s t f x ws u r n, Issues s t f 0x01 x ws u → x.resolve ws = some r → n = (cw ws 9).toNat → n ≠ 0 →
    (let v := u.readMem (.cmdData f) (cw r 8) (16 * n)
     Leaves (.dispatch t f none) s (((v.noteRefused (v.ctxPart x.ctx) (cw r 8) (16 * n)).guilty f 8 none (cw r 8)).settle f)))
  ∧ (∀ s t f x ws u r e, Issues s t f 0x03 x ws u → x.resolve ws = some r → u.refused (u.ctxPart x.ctx) (cw r 2) 8 = false →
    e.toNat % 256 = 0 →
    Leaves (.render t f (some e)) s (((u.readMem (.cmdData f) (cw r 2) 8).handOver f x .cores r [] e).settle f))
  ∧ (∀ s t f x ws u r, Issues s t f 0x03 x ws u → x.resolve ws = some r →
    (let v := u.readMem (.cmdData f) (cw r 2) 8
     Leaves (.render t f none) s (((v.noteRefused (v.ctxPart x.ctx) (cw r 2) 8).guilty f 8 none (cw r 2)).settle f)))
  ∧ (∀ (u : State) f x c r l e, u.engAbsent c ((u.ctxPart x.ctx).getD 0) (fld (cw r 0) 32 4) = true →
    u.handOver f x c r l e = u.guilty f 6 none 0)
  ∧ (∀ (u : State) f x c r l e, u.engAbsent c ((u.ctxPart x.ctx).getD 0) (fld (cw r 0) 32 4) = false →
    (u.handOver f x c r l e).nextTask = u.nextTask + 1
    ∧ (Tab.get? (u.handOver f x c r l e).tasks u.nextTask).map (fun (y : Task) => (y.f, y.ctx, y.cls, y.opcode, y.words, y.phase))
        = some (f, x.ctx, c, hdrOp (cw r 0), r, TaskPhase.ready))

/-- R121 to R123, R246, R412, R413: TIMESTAMP gives fabric time to memory, a counter or both; WATCH arms on the next DISPATCH or begins
to read its range, and a fifth armed one is malformed; PRELOAD_HINT takes the lowest free maquette slot, and one that cannot is
dropped and counted; a block of the buffer is kept and the submission goes on; after 4,096 commands a submission gives its sequencer
up; a watch's result is written once its range is read, and completes a DISPATCH that had no other. -/
def Obligations.ObservationCommandsReport : Prop :=
  (∀ s t f x ws u flt, Issues s t f 0x20 x ws u → cw ws 1 = 0 → bitOf (cw ws 2) 3 = true →
    Leaves (.timestamp t f flt) s
      (((u.updFlight f (fun y => y.setC (fld (cw ws 2) 0 3) (BitVec.ofNat 64 u.now))).pass f).settle f))
  ∧ (∀ s t f x ws u a, Issues s t f 0x20 x ws u → cw ws 1 ≠ 0 → bitOf (cw ws 2) 3 = false → x.addrOf (cw ws 1) 8 = some a →
    u.refused (u.ctxPart x.ctx) a 8 = false →
    Leaves (.timestamp t f false) s (((u.writeMem (u.forCtx x.ctx) a [BitVec.ofNat 64 u.now]).pass f).settle f)
    ∧ Leaves (.timestamp t f true) s ((u.guilty f 8 none a).settle f))
  ∧ (∀ s t f x ws u a flt, Issues s t f 0x20 x ws u → cw ws 1 ≠ 0 → x.addrOf (cw ws 1) 8 = some a →
    u.refused (u.ctxPart x.ctx) a 8 = true →
    Leaves (.timestamp t f flt) s ((u.refuseCnt.guilty f 8 none a).settle f))
  ∧ (∀ s t f x ws u a, Issues s t f 0x20 x ws u → cw ws 1 ≠ 0 → bitOf (cw ws 2) 3 = true → x.addrOf (cw ws 1) 8 = some a →
    u.refused (u.ctxPart x.ctx) a 8 = false →
    Leaves (.timestamp t f false) s
      ((((u.writeMem (u.forCtx x.ctx) a [BitVec.ofNat 64 u.now]).updFlight f (fun y => y.setC (fld (cw ws 2) 0 3) (BitVec.ofNat 64 u.now))).pass f).settle f))
  ∧ (∀ s t f x ws u r, Issues s t f 0x21 x ws u → fld (cw ws 1) 0 2 = 0 → x.addrOf (cw ws 4) 64 = some r → x.watches.length < 4 →
    (let w : Watch := { target := 0, kind := fld (cw ws 1) 2 2, elem := fld (cw ws 1) 4 4, range := fld (cw ws 1) 8 5, addr := 0,
                        len := fld (cw ws 3) 0 40, result := r, layer := hdrLayer (cw ws 0), op := hdrOper (cw ws 0) }
     Leaves (.watch t f) s (((u.pass f).updFlight f (fun y => { y with watches := y.watches ++ [w] })).settle f)))
  ∧ (∀ s t f x ws u, Issues s t f 0x21 x ws u → fld (cw ws 1) 0 2 = 0 → 4 ≤ x.watches.length →
    Leaves (.watch t f) s ((u.guilty f 0xB none 0).settle f))
  ∧ (∀ s t f x ws u r a, Issues s t f 0x21 x ws u → fld (cw ws 1) 0 2 = 1 → x.addrOf (cw ws 4) 64 = some r → x.addrOf (cw ws 2) 1 = some a →
    (let w : Watch := { target := 1, kind := fld (cw ws 1) 2 2, elem := fld (cw ws 1) 4 4, range := fld (cw ws 1) 8 5, addr := a,
                        len := fld (cw ws 3) 0 40, result := r, layer := hdrLayer (cw ws 0), op := hdrOper (cw ws 0) }
     Leaves (.watch t f) s ((((u.readMem (.watch f) a w.len).updFlight f (fun y => { y with watching := some w })).park f .window
       none).settle f)))
  ∧ (∀ s t f x ws u a, Issues s t f 0x23 x ws u → x.addrOf (cw ws 1) 64 = some a →
    u.rb .SCH_MQ_CFG 0 0 18 = false ∨ u.slotBytes < (cw ws 2).toNat
      ∨ (∀ k < 64, (Tab.get? u.mqSlots k).isSome = true ∨ (Tab.get? u.hints k).isSome = true) →
    Leaves (.preloadHint t f) s (((u.bump .SCH_MQ_CNT 0 0 48 16 1).pass f).settle f))
  ∧ (∀ s t f x ws u a k, Issues s t f 0x23 x ws u → x.addrOf (cw ws 1) 64 = some a → u.rb .SCH_MQ_CFG 0 0 18 = true →
    (cw ws 2).toNat ≤ u.slotBytes → k < 64 → Tab.get? u.mqSlots k = none → Tab.get? u.hints k = none →
    (∀ j < k, (Tab.get? u.mqSlots j).isSome = true ∨ (Tab.get? u.hints j).isSome = true) →
    (let h : Hint := { f := f, addr := a, len := (cw ws 2).toNat, at0 := u.ref }
     Leaves (.preloadHint t f) s
       (((({ u with hints := Tab.set u.hints k h }).readMem (.hint f) a (cw ws 2).toNat).pass f).settle f)))
  ∧ (∀ s t u f off o data, Acts s t u → u.readOf (.buffer f off) none = some o → u.outRefused o = false →
    Leaves (.bufferBlockRead t f off data) s ((u.endBytes (.buffer f off) o.bytes).blockRead f off data))
  ∧ (∀ s t u f off data, Acts s t u → u.readOf (.buffer f off) none = none → Leaves (.bufferBlockRead t f off data) s u)
  ∧ (∀ s t u f x, Fronts s t u → Tab.get? u.flights f = some x → x.onSeq = true → 4096 ≤ x.count →
    Leaves (.sequencerYield t f) s (u.updFlight f (fun y => { y with seqr := none, readySince := some u.ref, count := 0 })))
  ∧ (∀ s t u f x, Fronts s t u → Tab.get? u.flights f = some x → x.count < 4096 → Leaves (.sequencerYield t f) s u)
  ∧ (∀ s t u f x w l, Acts s t u → Tab.get? u.flights f = some x → x.watching = some w → x.inTeardown = false → x.ending = none →
    u.refused (u.ctxPart x.ctx) w.result 128 = false → u.refused (u.ctxPart x.ctx) w.addr w.len = false → l.length = w.len →
    Leaves (.watchResult t f none (some l)) s
      (((u.watchWrite w x.ctx l).updFlight f (fun y => { y.advance with watching := none })).unpark f))
  ∧ (∀ s t u f k y w l, Acts s t u → Tab.get? u.tasks k = some y → y.phase = .done → y.watches = [w] →
    u.refused (u.ctxPart y.ctx) w.result 128 = false → u.refused (u.ctxPart y.ctx) w.addr w.len = false → l.length = w.len →
    Leaves (.watchResult t f (some k) (some l)) s
      (((u.watchWrite w y.ctx l).updTask k (fun y => { y with watches := [] })).commandComplete k))

/-- R119, R120, R135, Table 03-20: the ROM routines start to issue as many commands as their arguments say, once they have the data
that they read; a read that faults is a page fault, a list that has not come whole is waited for; BAND_SPLIT and FRAME_INDEX leave
their results in their counters, FRAME_INDEX of a remote event once its home has answered. -/
def Obligations.RomRoutinesStart : Prop :=
  (∀ s t f x c u l i, i ∈ [((0 : Nat), (24 : Nat), Instr.layerChain t f (some l)), (4, 3, .copyList t f (some l)), (6, 2, .waitAll t f (some l)),
      (7, 2, .recordList t f (some l))] →
    InRoutine s t f i.1 x c u → u.refused (u.ctxPart x.ctx) (c.p 0) (8 * (i.2.1 * (c.p 1).toNat)) = false →
    (i.2.1 * (c.p 1).toNat ≤ l.length → Leaves i.2.2 s
      ((u.readMem (.cmdData f) (c.p 0) (8 * (i.2.1 * (c.p 1).toNat))).startRom f (l.take (i.2.1 * (c.p 1).toNat)) (c.p 1).toNat []))
    ∧ (l.length < i.2.1 * (c.p 1).toNat → Leaves i.2.2 s (u.readMem (.cmdData f) (c.p 0) (8 * (i.2.1 * (c.p 1).toNat)))))
  ∧ (∀ s t f x c u i, i ∈ [((0 : Nat), (24 : Nat), Instr.layerChain t f none), (4, 3, .copyList t f none), (6, 2, .waitAll t f none),
      (7, 2, .recordList t f none)] →
    InRoutine s t f i.1 x c u →
    (let v := u.readMem (.cmdData f) (c.p 0) (8 * (i.2.1 * (c.p 1).toNat))
     Leaves i.2.2 s ((v.noteRefused (u.ctxPart x.ctx) (c.p 0) (8 * (i.2.1 * (c.p 1).toNat))).guilty f 8 none (c.p 0))))
  ∧ (∀ s t f x c u r l ts, InRoutine s t f 1 x c u → 22 ≤ l.length →
    u.refused (u.ctxPart x.ctx) (c.p 0) 16 = false → u.refused (u.ctxPart x.ctx) (c.p 1) (cw r 0).toNat = false →
    u.refused (u.ctxPart x.ctx) (c.p 2) 176 = false →
    Leaves (.tileWalk t f ⟨some r, some l⟩ (some ts)) s
      (((((u.readMem (.cmdData f) (c.p 0) 16).when (0 < (cw r 0).toNat) (fun w => w.readMem (.cmdData f) (c.p 1) (cw r 0).toNat)).readMem
        (.cmdData f) (c.p 2) 176).startRom f (l.take 22 ++ ts.flatMap tileArgs) ts.length [(7, BitVec.ofNat 64 ts.length)])))
  ∧ (∀ s t f x c u l ts, InRoutine s t f 1 x c u →
    (let v := u.readMem (.cmdData f) (c.p 0) 16
     Leaves (.tileWalk t f ⟨none, l⟩ ts) s ((v.noteRefused (u.ctxPart x.ctx) (c.p 0) 16).guilty f 8 none (c.p 0))))
  ∧ (∀ s t f x c u, InRoutine s t f 2 x c u → Leaves (.copy2d t f) s (u.startRom f [] (c.p 3).toNat []))
  ∧ (∀ s t f x c u, InRoutine s t f 3 x c u → Leaves (.copy3d t f) s (u.startRom f [] ((c.p 3).toNat * fld (c.p 7) 0 32) []))
  ∧ (∀ s t f x c u, InRoutine s t f 5 x c u → Leaves (.fill2d t f) s (u.startRom f [] (c.p 2).toNat []))
  ∧ (∀ s t f x c u rows bands i halo, InRoutine s t f 8 x c u → c.p 0 = BitVec.ofNat 64 rows → c.p 1 = BitVec.ofNat 64 bands →
    c.p 2 = BitVec.ofNat 64 i → c.p 3 = BitVec.ofNat 64 halo → rows < 2 ^ 64 → bands < 2 ^ 64 → i < 2 ^ 64 → halo < 2 ^ 64 →
    (let first := rows * i / bands - halo
     Leaves (.bandSplit t f) s (u.startRom f [] 0
       [(6, BitVec.ofNat 64 first), (7, BitVec.ofNat 64 (min rows (rows * (i + 1) / bands + halo) - first))])))
  ∧ (∀ s t f x c u, InRoutine s t f 9 x c u →
    Leaves (.haloPut t f) s (u.startRom f [] ((if bitOf (c.p 4) 8 then 0 else 1) + (if bitOf (c.p 4) 9 then 0 else 1)) []))
  ∧ (∀ s t f x c u rv e, InRoutine s t f 10 x c u → NoErrorArmed u → fld (c.p 0) 32 32 = 0 →
    u.handleOk x ((c.p 0).setWidth 32) = true → evNode ((c.p 0).setWidth 32) = u.node →
    Tab.get? u.events (evIdx ((c.p 0).setWidth 32)) = some e → (c.p 1).toNat ≠ 0 →
    Leaves (.frameIndex t f rv) s (u.startRom f [] 0 [(5, BitVec.ofNat 64 (e.value.toNat % (c.p 1).toNat))]))
  ∧ (∀ s t f x c u v b, InRoutine s t f 10 x c u → fld (c.p 0) 32 32 = 0 → u.handleOk x ((c.p 0).setWidth 32) = true →
    evNode ((c.p 0).setWidth 32) ≠ u.node → u.nodeLive (evNode ((c.p 0).setWidth 32)) = true → (c.p 1).toNat ≠ 0 →
    Leaves (.frameIndex t f (some (.value v b))) s (u.startRom f [] 0 [(5, BitVec.ofNat 64 (v.toNat % (c.p 1).toNat))])
    ∧ Leaves (.frameIndex t f (some .lost)) s (u.endEarly f 2) ∧ Leaves (.frameIndex t f (some .unbound)) s (u.guilty f 0xB none 0)
    ∧ Leaves (.frameIndex t f none) s u)

/-! ## Events, semaphores, picks and launches (chapters 04, 05, 07) -/

/-- R134, R136, R137: a function's record on a bound event of its partition takes effect, and one through a bad handle sets ERR;
the read of EV_FN_VALUE returns the event's value and latches ABANDONED; a write of EV_SEM_CFG sets value, partition and binding of
a semaphore that nobody queues for; a refused registration is repeated once its microsecond is over. -/
def Obligations.HostReachesEventsAndSemaphores : Prop :=
  (∀ s t n v u, Writes s t (.fn n) (.own n) u → NoErrorArmed u → u.fnInTd n = false → evWellFormed (u.fnHandle n) = true →
    (u.fnPart n).isSome = true → evNode (u.fnHandle n) = u.node → u.evCheck (u.fnHandle n) (u.fnPart n) = none →
    Tab.getD u.fnRecs n [] = [] →
    Leaves (.evFnRecordWrite t n ⟨v, false⟩) s (u.recordLocal (evIdx (u.fnHandle n)) (u.rf .EV_FN_CTL n 0 0 2) v none))
  ∧ (∀ s t n v u, Writes s t (.fn n) (.own n) u → NoErrorArmed u → u.fnInTd n = false → evWellFormed (u.fnHandle n) = false →
    Tab.getD u.fnRecs n [] = [] → Leaves (.evFnRecordWrite t n ⟨v, false⟩) s (u.setB .EV_FN_CTL n 0 3 true))
  ∧ (∀ s t n v u, Writes s t (.fn n) (.own n) u → u.fnInTd n = false → evWellFormed (u.fnHandle n) = true → (u.fnPart n).isSome = true →
    evNode (u.fnHandle n) ≠ u.node → Tab.getD u.fnRecs n [] = [] →
    (u.nodeLive (evNode (u.fnHandle n)) = true → Leaves (.evFnRecordWrite t n ⟨v, false⟩) s
      (u.send (evNode (u.fnHandle n)) (.record (u.fnHandle n) (u.rf .EV_FN_CTL n 0 0 2) v none) none (some n)))
    ∧ (u.nodeLive (evNode (u.fnHandle n)) = false → Leaves (.evFnRecordWrite t n ⟨v, false⟩) s (u.setB .EV_FN_CTL n 0 3 true)))
  ∧ (∀ s t n v u, Writes s t (.fn n) (.own n) u → NoErrorArmed u → u.fnInTd n = false →
    Leaves (.evFnRecordWrite t n ⟨v, true⟩) s
      { u with fnRecs := Tab.set u.fnRecs n (Tab.getD u.fnRecs n [] ++ [(u.fnHandle n, u.rf .EV_FN_CTL n 0 0 2, v)]) })
  ∧ (∀ s t n u e, Reads s t (.fn n) (.own n) .EV_FN_VALUE u → evWellFormed (u.fnHandle n) = true → evNode (u.fnHandle n) = u.node →
    Tab.get? u.events (evIdx (u.fnHandle n)) = some e → u.fnPart n = some e.part →
    LeavesSome (.evFnValueRead t n none) s (fun w => w.out = u.out ++ [.regData (.fn n) e.value]
      ∧ w.rb .EV_FN_CTL n 0 2 = e.abandoned ∧ w.events = u.events))
  ∧ (∀ s t who i v u, Writes s t who .glob u → (u.semOf i).queue = [] → (u.semOf i).bound = false →
    LeavesSome (.semCfgWrite t who i v) s (fun w => (w.semOf i).value = fld v 0 32 ∧ (w.semOf i).part = fld v 32 3
      ∧ (w.semOf i).bound = bitOf v 35 ∧ (w.semOf i).holders = (u.semOf i).holders ∧ w.out = u.out ∧ w.events = u.events))
  ∧ (∀ s t who i v u, Writes s t who .glob u → (u.semOf i).queue ≠ [] → (u.semOf i).bound = true →
    LeavesSome (.semCfgWrite t who i v) s (fun w => (w.semOf i).value = (u.semOf i).value ∧ (w.semOf i).part = (u.semOf i).part
      ∧ (w.semOf i).bound = true ∧ (w.semOf i).queue = (u.semOf i).queue
      ∧ ((fld v 0 32 ≠ (u.semOf i).value ∨ bitOf v 35 = false) → (w.semOf i).refused = true) ∧ w.out = u.out))
  ∧ (∀ s t u h, Acts s t u → u.remoteWaits.any (fun w => w.handle == h && w.retryAt.any (fun m => m ≤ u.ref)) = true →
    Leaves (.proxyRetry t h) s
      (({ u with remoteWaits := u.remoteWaits.map (fun (w : RemoteWait) =>
          if w.handle == h then { w with retryAt := none } else w) }).reRegister h))
  ∧ (∀ s t u h, Acts s t u → u.remoteWaits = [] → Leaves (.proxyRetry t h) s u)

/-- R161, R162, R235, R241, R242, R244: a free sequencer takes the scheduler's choice; a free engine's pick preloads its task and
makes its launch due; a cores pick takes a maquette slot, reads the image and gathers; the gathering ends with the banks it holds;
a lane takes the next due launch; the end of a remainder stream and the acknowledgement of the shadow-bank writes let the cluster's
channel go on. -/
def Obligations.SchedulerPicksAndLaunches : Prop :=
  (∀ s t u n f x, Fronts s t u → NoErrorArmed u → u.seqFree n = true → u.seqChoice = some f → Tab.get? u.flights f = some x →
    Leaves (.sequencerPick t n) s
      ((((u.updFlight f (fun x => { x with seqr := some n, readySince := none, count := 0 })).count 276 1
        { part := (u.updFlight f (fun x => { x with seqr := some n, readySince := none, count := 0 })).ctxPart x.ctx,
          ctx := some x.ctx }).resumeRtn n f).settle f))
  ∧ (∀ s t u n, Fronts s t u → u.seqFree n = false → Leaves (.sequencerPick t n) s u)
  ∧ (∀ s t u c p k y, Fronts s t u → c ≠ .cores → c ≠ .link → u.engFree c p = true →
    (Tab.getD u.engs (engNo c p) {}).reservedFor = none → (Tab.getD u.engs (engNo c p) {}).lastPart = none →
    u.pickOf (u.engCands c p) (fun _ => false) = some (k, y) →
    LeavesSome (.enginePick t c p) s (fun v => v.tasks = Tab.upd u.tasks k (fun t => { t with phase := .preloaded })
      ∧ v.due = u.due ++ [{ cls := c, peng := p, task := k, at0 := u.ref, stalled := false }]
      ∧ v.out = u.out ∧ v.engs = u.engs))
  ∧ (∀ s t u p k y sl, Fronts s t u → u.gathering p = false → u.atRun = true →
    u.pickOf (u.coreCands p) (fun t => !(u.slotInsts t).isEmpty) = some (k, y) → Tab.get? u.tasks k = some y →
    u.hints = [] → u.freeSlot = some sl → u.closed (u.portOf y.stateAddr) = false →
    ∃ v : State, v.mqSlots = Tab.set u.mqSlots sl { task := k, image := none }
      ∧ v.out = u.out ++ [.read (u.access (u.readIssuer (.taskState y.f)) y.stateAddr) (.taskState y.f) y.stateAddr
          (min y.stateLen u.slotBytes)]
      ∧ (Tab.get? v.tasks k).map (fun (y : Task) => (y.phase, y.slot, y.pickedAt)) = some (.gathering, some sl, u.ref)
      ∧ Leaves (.coresPick t p) s ((v.gatherTake k).gatherEnd k))
  ∧ (∀ s t u p k y sl h m, Fronts s t u → u.gathering p = false → u.atRun = true →
    u.pickOf (u.coreCands p) (fun t => !(u.slotInsts t).isEmpty) = some (k, y) → Tab.get? u.tasks k = some y →
    u.hints = [(sl, h)] → h.f = y.f → h.addr = y.stateAddr → h.len = y.stateLen → h.image = some m →
    ∃ v : State, v.mqSlots = Tab.set u.mqSlots sl { task := k, image := some (y.image m) } ∧ v.hints = [] ∧ v.out = u.out
      ∧ (Tab.get? v.tasks k).map (fun (y : Task) => (y.phase, y.slot, y.pickedAt)) = some (.gathering, some sl, u.ref)
      ∧ Leaves (.coresPick t p) s ((v.gatherTake k).gatherEnd k))
  ∧ (∀ s t u k y, Fronts s t u → Tab.get? u.tasks k = some y → y.phase = .gathering → u.detTask y = false → y.held ≠ [] →
    y.pickedAt + u.gatherNs ≤ u.ref → Leaves (.gatherTimeout t k) s (u.setFinal k))
  ∧ (∀ s t u k y, Fronts s t u → Tab.get? u.tasks k = some y → u.ref < y.pickedAt + u.gatherNs → Leaves (.gatherTimeout t k) s u)
  ∧ (∀ s t u n d y, Fronts s t u → u.freeLane = some n → u.nextDue = some d → d.cls ≠ .cores → Tab.get? u.tasks d.task = some y →
    (let v := ({ u with due := u.due.filter (fun e => !(e.cls == d.cls && e.peng == d.peng)), lanes := Tab.set u.lanes n d,
                        launches := (u.launches + 1) % 2 ^ 32 }).count (268 + n) 1 y.who
     Leaves (.launch t) s (v.launchEng d)))
  ∧ (∀ s t u n d y, Fronts s t u → u.freeLane = some n → u.nextDue = some d → d.cls = .cores → Tab.get? u.tasks d.task = some y →
    (let v := ({ u with due := u.due.filter (fun e => !(e.cls == d.cls && e.peng == d.peng)), lanes := Tab.set u.lanes n d,
                        launches := (u.launches + 1) % 2 ^ 32 }).count (268 + n) 1 y.who
     Leaves (.launch t) s (v.launchCore d)))
  ∧ (∀ s t u, Fronts s t u → u.due = [] → Leaves (.launch t) s u)
  ∧ (∀ s t u c j, Acts s t u →
    u.mqJobs.find? (fun j => j.cluster == c && j.active && j.kind == .remainder && (j.sent || j.dead)) = some j → j.dead = false →
    (let free (d : Due) : Due := if d.cls == .cores && d.task == j.task && d.peng / 12 == c then { d with stalled := false } else d
     let v := { u with mqJobs := u.mqJobs.erase j, due := u.due.map free }
     Leaves (.remainderStreamEnd t c) s ((v.updTask j.task (fun t => { t with remainder := t.remainder ++ [c] })).mqKick)))
  ∧ (∀ s t u c, Acts s t u → u.mqJobs = [] → Leaves (.remainderStreamEnd t c) s u ∧ Leaves (.shadowBankWriteAck t c) s u)
  ∧ (∀ s t u c j, Acts s t u → u.mqJobs.find? (fun j => j.cluster == c && j.active && j.kind != .remainder) = some j →
    (j.kind ≠ .header ∨ j.dead = true → Leaves (.shadowBankWriteAck t c) s (({ u with mqJobs := u.mqJobs.erase j }).mqKick))
    ∧ (j.kind = .header → j.dead = false → Leaves (.shadowBankWriteAck t c) s
      ((j.cores.foldl State.coreDue (({ u with mqJobs := u.mqJobs.erase j }).updTask j.task
        (fun t => { t with acked := t.acked ++ j.cores }))).mqKick)))

/-! ## The cyclic table (chapter 05) -/

/-- R169 to R172, R178, R179, R181, R183, R195, R214: a period begins at its moment and not before; free-running begins where no
edge came in the tolerance; an instance takes its cores 20 µs and its clocks 30 µs before the predicted start; it starts at its
offset, behind the deadlines that come no later, and its deadline falls its length later; while the front end is halted starts wait;
EN is kept for the next period start; inheritance is taken by every live instance whose submission waits for a named holder with
work. -/
def Obligations.CyclicTableKeepsItsTimes : Prop :=
  (∀ s t u b k, Acts s t u → u.fixedDue = some (b, k) → b ≤ u.now → Leaves (.periodStart t) s (u.periodBegin b k))
  ∧ (∀ s t u b k, Acts s t u → u.fixedDue = some (b, k) → u.now < b → Leaves (.periodStart t) s u)
  ∧ (∀ s t u tb, Acts s t u → u.cyc.table = some tb → tb.anchor = 1 → u.rb .CYC_STAT 0 0 2 = false →
    u.cycP0 + tb.period + cycTol tb ≤ u.now →
    (let v := (u.setB .CYC_STAT 0 0 2 true).raise 12
     let w := (List.range 256).foldl State.pastSlot (v.periodBegin (u.cycP0 + tb.period) v.pendNext)
     Leaves (.vsyncFreeRun t) s (if w.cycHeld then w else w.doDeferred)))
  ∧ (∀ s t u tb, Acts s t u → u.cyc.table = some tb → u.now < u.cycP0 + tb.period + cycTol tb → Leaves (.vsyncFreeRun t) s u)
  ∧ (∀ s t u j n, Fronts s t u → u.nextOf j = some n → n.start ≤ u.now + 20000 → u.instOf j n.period = none →
    (let r := u.newInst j n.def0 n.margin n.period n.start
     Leaves (.slotPreload t j) s (r.2.clearWhere r.1 (fun t => (r.2.slotInsts t).isEmpty))))
  ∧ (∀ s t u j n, Fronts s t u → u.nextOf j = some n → u.now + 20000 < n.start → Leaves (.slotPreload t j) s u)
  ∧ (∀ s t u j n, Acts s t u → u.nextOf j = some n → n.start ≤ u.now + 30000 → u.atRun = true →
    u.gov.prep.contains (j, n.period) = false →
    Leaves (.slotClockRaise t j) s
      (u.setGov (fun g => { g with prep := (g.prep.filter (fun x => x.1 ≠ j)) ++ [(j, n.period)] })))
  ∧ (∀ s t u j d v, Acts s t u → u.slots[j]? = some d → u.cyc.running = true → u.cyc.begun.contains j = false →
    u.cycP0 + d.offset ≤ u.now →
    v = ((u.cyc.insts.filter (fun e => e.2.start + e.2.def0.length ≤ u.cycP0 + d.offset)).map (·.1)).foldl State.slotDeadline u →
    (u.cycHeld = false → Leaves (.slotStart t j) s ((v.takeSlot j d).2.instStart (v.takeSlot j d).1))
    ∧ (u.cycHeld = true → Leaves (.slotStart t j) s ((v.takeSlot j d).2.deferAct (u.cycP0 + d.offset) false (v.takeSlot j d).1)))
  ∧ (∀ s t u j d, Acts s t u → u.slots[j]? = some d → u.now < u.cycP0 + d.offset → Leaves (.slotStart t j) s u)
  ∧ (∀ s t u i x, Acts s t u → Tab.get? u.cyc.insts i = some x → x.started = true → x.deadlinePassed = false →
    x.start + x.def0.length ≤ u.now → u.cycHeld = false → Leaves (.slotDeadline t i) s (u.instDeadline i))
  ∧ (∀ s t u i x, Acts s t u → Tab.get? u.cyc.insts i = some x → u.now < x.start + x.def0.length → Leaves (.slotDeadline t i) s u)
  ∧ (∀ s t who u en, Writes s t who .glob u → LeavesSome (.cycEnWrite t who en) s (fun v => v.rb .CYC_CFG 0 0 0 = en
      ∧ v.cyc = u.cyc ∧ v.out = u.out))
  ∧ (∀ s t u f h y, Acts s t u → Tab.get? u.flights f = some y →
    Leaves (.inheritanceDetect t f h) s
      ((u.cyc.insts.filter (fun e => e.2.live && e.2.def0.ctx == y.ctx)).foldl (fun s e => s.inheritInto f h y e) u))
  ∧ (∀ (u : State) f h y e es, es = (u.edgesOf e.2 false f y).filter (fun g => g.holder == h) → es ≠ [] →
    u.inheritInto f h y e = (u.addEdges e.1 es).clearBanks e.1)
  ∧ (∀ (u : State) x a f y n i h, y.onSem = some (n, i) → h ∈ u.holdersHere y.ctx n i → u.needsOf x a h = true →
    ({ holder := h, home := n, index := i, f := f } : Edge) ∈ u.edgesOf x a f y)

/-! ## The governor (chapter 06) -/

/-- R203, R205, R207, R209, R216, R220, R223: a management cap is taken field by field, zero leaving a field; F0's cap is refused,
with its bit set, where the running or pending table would not fit; COMMIT gives a shadow table that is in order to the next update
and refuses another; RESTORE gives the plinth's; CLEAR forgets the correction factors; the temperature limit is taken from 0 to the
ceiling and raised by management alone; the sag unit is disarmed only while stops are enabled; the profile is taken until it is
locked. A host write of the registers that management alone writes changes nothing but the access. -/
def Obligations.GovernorSettingsAreTaken : Prop :=
  (∀ s t u v, Writes s t .mgmt .glob u →
    LeavesSome (.govCapMgmtWrite t .mgmt v) s (fun w =>
      w.rf .GOV_CAP_MGMT 0 0 0 16 = (if fld v 0 16 = 0 then u.rf .GOV_CAP_MGMT 0 0 0 16 else fld v 0 16)
      ∧ w.rf .GOV_CAP_MGMT 0 0 16 16 = (if fld v 16 16 = 0 then u.rf .GOV_CAP_MGMT 0 0 16 16 else fld v 16 16)
      ∧ w.rf .GOV_CAP_MGMT 0 0 32 7 = fld v 32 7 ∧ w.gov = u.gov ∧ w.out = u.out))
  ∧ (∀ s t who u v, Writes s t who .glob u →
    (∀ tb, (u.cyc.running = true ∧ u.cyc.table = some tb) ∨ u.cyc.pending = some tb →
      tableFits tb (u.capsWith v).1 (u.capsWith v).2 u.rtMaxPct = true) →
    LeavesSome (.govCapF0Write t who v) s (fun w => w.rf .GOV_CAP_F0 0 0 0 32 = fld v 0 32 ∧ w.out = u.out))
  ∧ (∀ s t who u v tb, Writes s t who .glob u → (u.cyc.running = true ∧ u.cyc.table = some tb) ∨ u.cyc.pending = some tb →
    tableFits tb (u.capsWith v).1 (u.capsWith v).2 u.rtMaxPct = false →
    LeavesSome (.govCapF0Write t who v) s (fun w => w.rb .GOV_CAP_F0 0 0 32 = true
      ∧ w.rf .GOV_CAP_F0 0 0 0 32 = u.rf .GOV_CAP_F0 0 0 0 32))
  ∧ (∀ s t u, Writes s t .mgmt .glob u → priceTabOk u.gov.shadow = true →
    Leaves (.priceTabCommit t .mgmt) s (u.setGov (fun g => { g with tabNext := some (u.gov.shadow, true) })))
  ∧ (∀ s t u, Writes s t .mgmt .glob u → priceTabOk u.gov.shadow = false →
    Leaves (.priceTabCommit t .mgmt) s (u.setB .GOV_PRICE_TAB_CTL 0 0 1 true))
  ∧ (∀ s t u, Writes s t .mgmt .glob u →
    Leaves (.priceTabRestore t .mgmt) s (u.setGov (fun g => { g with tabNext := some (u.gov.plinthTab, false) })))
  ∧ (∀ s t who u, Writes s t who .glob u → Leaves (.learnClear t who) s (u.setGov (fun g => { g with corr := [] })))
  ∧ (∀ s t who u v, Writes s t who .glob u → 0 ≤ sx16 (fld v 0 16) → sx16 (fld v 0 16) ≤ u.gov.limitMax →
    (byMgmt who = true ∨ sx16 (fld v 0 16) ≤ u.tlimit) →
    LeavesSome (.tlimitWrite t who v) s (fun w => w.rf .GOV_TLIMIT 0 0 0 16 = fld v 0 16 ∧ w.rf .GOV_TLIMIT 0 0 16 16 = fld v 16 16
      ∧ w.out = u.out))
  ∧ (∀ s t who u v, Writes s t who .glob u →
    (byMgmt who = false ∧ u.tlimit < sx16 (fld v 0 16)) ∨ sx16 (fld v 0 16) < 0 ∨ u.gov.limitMax < sx16 (fld v 0 16) →
    LeavesSome (.tlimitWrite t who v) s (fun w => w.rf .GOV_TLIMIT 0 0 0 16 = u.rf .GOV_TLIMIT 0 0 0 16
      ∧ w.rf .GOV_TLIMIT 0 0 16 16 = fld v 16 16))
  ∧ (∀ s t u v, Writes s t .mgmt .glob u →
    LeavesSome (.sagEnWrite t .mgmt v) s (fun w => w.rf .GOV_SAG_CFG 0 0 0 5 = fld v 0 5
      ∧ w.rb .GOV_SAG_CFG 0 0 5 = (bitOf v 5 || (u.rb .GOV_SAG_CFG 0 0 5 && !u.rb .OBS_STOP_CFG 0 0 0))))
  ∧ (∀ s t who u v, Writes s t who .glob u → u.rb .GOV_PROFILE 0 0 2 = false →
    LeavesSome (.profileWrite t who v) s (fun w => w.rf .GOV_PROFILE 0 0 0 2 = fld v 0 2
      ∧ w.rb .GOV_PROFILE 0 0 2 = (byMgmt who && bitOf v 2)))
  ∧ (∀ s t who u v, Writes s t who .glob u → u.rb .GOV_PROFILE 0 0 2 = true → Leaves (.profileWrite t who v) s u)
  ∧ (∀ s t n u v, Writes s t (.fn n) .glob u → Leaves (.govCapMgmtWrite t (.fn n) v) s u ∧ Leaves (.priceTabCommit t (.fn n)) s u
    ∧ Leaves (.priceTabRestore t (.fn n)) s u ∧ Leaves (.sagEnWrite t (.fn n) v) s u)

/-- R225, R226, R228, R229, R232: an idle gap begins at LL0 and chooses a rung, none while the block regrows; an entry that completes
is recorded, counts and is the rung in force, from LL3 on the hints are lost, and LL5 spills the tables; an exit that completes is LL0,
from LL5 with the tables restored, and is recorded; ahead of a cyclic start the exit begins, and not sooner. -/
def Obligations.LadderRungsComeAndGo : Prop :=
  (∀ s t u, Acts s t u → u.idleNow = true → u.gov.gapAt = none → u.gov.rung = 0 → u.gov.exiting = false → u.gov.entering = none →
    LeavesSome (.idleGapStart t) s (fun v => v.gov.gapAt = some u.ref ∧ v.gov.rung = 0 ∧ v.gov.entering ≠ some 0
      ∧ (u.regrowing = true → v.gov.entering = none) ∧ v.out = u.out ∧ v.tasks = u.tasks))
  ∧ (∀ s t u, Acts s t u → u.gov.gapAt.isSome = true → Leaves (.idleGapStart t) s u)
  ∧ (∀ s t u k v, Acts s t u → u.gov.entering = some k → u.regrowing = false → v = u.rungRec k false false → v.gov.entering = some k →
    LeavesSome (.rungEntryComplete t) s (fun w => w.gov.rung = k ∧ w.gov.entering = none
      ∧ w.rf .GOV_RUNG_ENT k 0 0 32 = (v.rf .GOV_RUNG_ENT k 0 0 32 + 1) % 2 ^ 32 ∧ (k < 3 → w.hints = v.hints ∧ w.tasks = v.tasks)
      ∧ (3 ≤ k → w.hints = []) ∧ (k = 5 → Emit.tables true (Config.regionAddr v.start.brumArea) ∈ w.out)))
  ∧ (∀ s t u k, Acts s t u → u.gov.entering = some k → u.regrowing = true → Leaves (.rungEntryComplete t) s u)
  ∧ (∀ s t u v, Acts s t u → u.gov.exiting = true → v = { u with gov := { u.gov with exiting := false, rung := 0 } } →
    Leaves (.rungExitComplete t) s ((if u.gov.rung = 5 then v.emit (.tables false (Config.regionAddr u.start.brumArea)) else v).rungRec
      u.gov.leaving.1 true u.gov.leaving.2))
  ∧ (∀ s t u, Acts s t u → u.gov.exiting = false → Leaves (.rungExitComplete t) s u)
  ∧ (∀ s t u k, Acts s t u → u.gov.entering = some k ∨ (u.gov.entering = none ∧ u.gov.rung = k) → 0 < k → u.gov.exiting = false →
    (u.nextStart ≤ u.now + 20000 + (rungTimes k).2 → Leaves (.ladderExitScheduled t) s u.wake)
    ∧ (u.now + 20000 + (rungTimes k).2 < u.nextStart → Leaves (.ladderExitScheduled t) s u))

/-! ## Faults, functions and partitions (chapters 08 and 09) -/

/-- R263, R265, R266, R270, R281, R286, R288: a watchdog that has run out without progress takes its context's snapshot and starts
its autotomy with status WATCHDOG, and one that has not does nothing; a drain limit that expires squashes what a sequence still has
in its engines, and not sooner; the next sequence that waits takes a free teardown entry; a regrowth resumes with its tables rebuilt, and
begins again where a ROM word fails its parity a second time; writing PRIMARY_VALID releases the primary record; an injection is armed
while stops are enabled, by management alone. -/
def Obligations.FaultsAreContained : Prop :=
  (∀ s t u c x, Acts s t u → Tab.get? u.ctxs c = some x → x.wdMs ≠ 0 → x.wdMs * 1000000 ≤ Tab.getD u.wd c 0 →
    u.ctxActive c = true →
    (u.regrowing = false → u.wdHolds c = false →
      Leaves (.watchdogExpiry t c) s ((u.wake.snapshot [c]).startAutotomy (u.watchdogGuilt c)))
    ∧ (u.regrowing = false → u.wdHolds c = true → Leaves (.watchdogExpiry t c) s u)
    ∧ (u.regrowing = true → LeavesSome (.watchdogExpiry t c) s (fun v => c ∈ v.regrow.watchdogs ∧ v.td = u.td ∧ v.out = u.out)))
  ∧ (∀ s t u c x, Acts s t u → Tab.get? u.ctxs c = some x → Tab.getD u.wd c 0 < x.wdMs * 1000000 →
    Leaves (.watchdogExpiry t c) s u)
  ∧ (∀ s t u k c d, Acts s t u → k = .autotomy ∨ k = .destroySq → u.tdOf k c = some d → d.has = true → d.merged = false →
    (d.entered + d.limitNs ≤ u.ref → d.cut = [] →
      Leaves (.drainLimitExpiry t k c 64) s ((u.updTd k c (fun d => { d with cut := d.cut ++ [64] })).squashScope d none))
    ∧ (u.ref < d.entered + d.limitNs → Leaves (.drainLimitExpiry t k c 64) s u))
  ∧ (∀ s t u k o n d, Acts s t u → k = .flr ∨ k = .hostLoss ∨ k = .halted ∨ (k = .removal ∧ d.step ≠ 3) → u.tdOf k o = some d →
    d.has = true → d.merged = false →
    u.tdFn d n = true →
    (d.entered + u.limitOf d n ≤ u.ref → d.cut.contains n = false →
      Leaves (.drainLimitExpiry t k o n) s ((u.updTd k o (fun d => { d with cut := d.cut ++ [n] })).squashScope d (some n)))
    ∧ (u.ref < d.entered + u.limitOf d n → Leaves (.drainLimitExpiry t k o n) s u))
  ∧ (∀ s t u a n d, Acts s t u → u.tdOf .removal a = some d → d.has = true → d.merged = false → d.step = 3 →
    d.mark + 1000000 ≤ u.ref →
    LeavesSome (.drainLimitExpiry t .removal a n) s (fun v => ∀ y ∈ v.tml.inb, y.part = a → y.squashing = true))
  ∧ (∀ s t u, Acts s t u → Leaves (.teardownEntryGrant t) s u.grantTd)
  ∧ (∀ (u : State) j d, u.tdSlot = some j → u.td.find? (fun d => !d.has && !d.merged) = some d →
    u.grantTd = u.updTd d.kind d.obj (fun d => { d with has := true, slot := j, entered := u.ref, step := 2 }))
  ∧ (∀ s t u ok, Acts s t u → u.regrowing = true → u.regrow.reread.all (fun r => ok && !u.mcs.bad.contains r.2) = true →
    (let v := ({ u with regrow := { u.regrow with reread := none } }).rebuildQueues
     let w := (v.regrow.errs.foldl State.resolveErr v).noteLate.applyHeld
     Leaves (.regrowthResume t ok) s ((w.regrow.offenders.foldl (fun s o => s.markHalted o.1) w).resumeFront)))
  ∧ (∀ s t u n a, Acts s t u → u.regrowing = true → u.regrow.reread = some (n, a) → 0x8000 ≤ a →
    (let v := { u with regrow := { u.regrow with reread := none } }
     Leaves (.regrowthResume t false) s (if 0xF000 ≤ a then v.disablePatch a else v.unloadRtn a).rebuildRest))
  ∧ (∀ s t u n a, Acts s t u → u.regrowing = true → u.regrow.reread = some (n, a) → a < 0x8000 →
    Leaves (.regrowthResume t false) s (u.startRegrow { cause := 2, seqr := n, addr := a } []))
  ∧ (∀ s t u ok, Acts s t u → u.regrowing = false → Leaves (.regrowthResume t ok) s u)
  ∧ (∀ s t who u, Writes s t who .glob u → Leaves (.errPrimaryRelease t who) s (u.setB .ERR_STAT 0 0 0 false))
  ∧ (∀ s t u n, Writes s t .mgmt .glob u → u.rb .OBS_STOP_CFG 0 0 0 = true → n ≤ 8 →
    u.regrow.injParity.contains n = false →
    Leaves (.injectParity t .mgmt n) s { u with regrow := { u.regrow with injParity := u.regrow.injParity ++ [n] } })
  ∧ (∀ s t u n, Writes s t .mgmt .glob u → u.rb .OBS_STOP_CFG 0 0 0 = true → n ≤ 5 →
    (u.regrow.injBad.contains n = false →
      Leaves (.injectUncorrectable t .mgmt n) s { u with regrow := { u.regrow with injBad := u.regrow.injBad ++ [n] } })
    ∧ (u.regrow.injFix.contains n = false →
      Leaves (.injectCorrectable t .mgmt n) s { u with regrow := { u.regrow with injFix := u.regrow.injFix ++ [n] } }))
  ∧ (∀ s t u n, Writes s t .mgmt .glob u → u.rb .OBS_STOP_CFG 0 0 0 = false →
    Leaves (.injectParity t .mgmt n) s u ∧ Leaves (.injectUncorrectable t .mgmt n) s u ∧ Leaves (.injectCorrectable t .mgmt n) s u)
  ∧ (∀ s t m u n, Writes s t (.fn m) .glob u →
    Leaves (.injectParity t (.fn m) n) s u ∧ Leaves (.injectUncorrectable t (.fn m) n) s u ∧ Leaves (.injectCorrectable t (.fn m) n) s u)

/-- R289, R291, R304: fewer VFs reset those that go; a write of VXB_FN_CFG assigns a function that owns nothing to a live partition
and is REFUSED while it owns a queue, without a change of its assignment; a reset by VXB_FN_CFG, FN_CTL or PCIe starts the
function-level reset, which F0 cannot ask for F0. -/
def Obligations.FunctionsAreAssignedAndReset : Prop :=
  (∀ s t u k, Runs s t u → k ≤ 63 →
    Leaves (.vfCountChange t k) s
      (((List.range 64).filter (fun n => k < n && n ≤ u.rf .VXB_VF_EN 0 0 0 6)).foldl State.startFlr (u.setF .VXB_VF_EN 0 0 0 6 k)))
  ∧ (∀ s t who u n v, Writes s t who .glob u → (byMgmt who || decide (n ≠ 0)) = true → u.fnEmpty n = true → u.resetting n = false →
    (bitOf v 3 = false ∨ u.live (fld v 0 3) = true) → bitOf v 4 = false → bitOf v 6 = false →
    LeavesSome (.fnAssignWrite t who n v) s (fun w => w.rf .VXB_FN_CFG n 0 0 4 = fld v 0 4
      ∧ w.rf .VXB_FN_CFG n 0 16 16 = fld v 16 16 ∧ w.sqs = u.sqs ∧ w.td = u.td ∧ w.out = u.out))
  ∧ (∀ s t who u n v, Writes s t who .glob u → u.fnEmpty n = false → bitOf v 4 = false →
    fld v 0 4 ≠ u.rf .VXB_FN_CFG n 0 0 4 → Leaves (.fnAssignWrite t who n v) s (u.setB .VXB_FN_CFG n 0 4 true))
  ∧ (∀ s t who u n v, Writes s t who .glob u → (byMgmt who || decide (n ≠ 0)) = true → bitOf v 4 = false → bitOf v 6 = true →
    fld v 0 4 = u.rf .VXB_FN_CFG n 0 0 4 →
    Leaves (.fnAssignWrite t who n v) s
      (((u.setF .VXB_FN_CFG n 0 0 4 (fld v 0 4)).setF .VXB_FN_CFG n 0 16 16 (fld v 16 16)).startFlr n))
  ∧ (∀ s t who u n, Writes s t who .glob u → (byMgmt who || decide (n ≠ 0)) = true → u.fnPresent n = true →
    Leaves (.fnCfgReset t who n) s (u.startFlr n))
  ∧ (∀ s t m u, Writes s t (.fn m) .glob u → Leaves (.fnCfgReset t (.fn m) 0) s u)
  ∧ (∀ s t n u, Writes s t (.fn n) (.own n) u → Leaves (.fnCtlFlr t n) s (u.startFlr n))
  ∧ (∀ s t n u, Runs s t u → u.fnPresent n = true → Leaves (.pcieFlr t n) s (u.startFlr n))
  ∧ (∀ s t n u, Runs s t u → u.fnPresent n = false → Leaves (.pcieFlr t n) s u)

/-- R298 to R301, R305, R308: a request that fails a check leaves its result in VXB_PART_REQ_STAT and moves nothing; a core move sets
MOVING of its two ends and of its cores; a channel move of empty channels is carried out and raises source 13; a way move stops and
cleans its ways first, and has them scrubbed; a removal begins with REMOVING and BUSY, or waits for the request that is being carried out,
unless it takes an end of it;
the cipher's report of a flush goes on with the sequence that asked for it. -/
def Obligations.PartitionsGainAndLoseParts : Prop :=
  (∀ s t u m a b c, Writes s t .mgmt .glob u → u.reqFault 0 m.toNat a b = some c → c ≠ 1 → u.preq = none → u.removals = [] →
    u.td.any (fun d => d.kind == .removal) = false →
    Leaves (.coreMove t .mgmt m a b) s (u.setReg .VXB_PART_REQ_STAT 0 0 (mkWord [(4, 4, c)])))
  ∧ (∀ s t u m a b, Writes s t .mgmt .glob u → u.reqBusy = true →
    Leaves (.coreMove t .mgmt m a b) s (u.setF .VXB_PART_REQ_STAT 0 0 4 4 1)
    ∧ Leaves (.wayMove t .mgmt m a b) s (u.setF .VXB_PART_REQ_STAT 0 0 4 4 1)
    ∧ Leaves (.channelMove t .mgmt m a b) s (u.setF .VXB_PART_REQ_STAT 0 0 4 4 1))
  ∧ (∀ s t u m a b, Writes s t .mgmt .glob u → u.reqFault 0 m.toNat a b = none →
    LeavesSome (.coreMove t .mgmt m a b) s (fun v =>
      v.preq = some { kind := 0, src := (partEnd a).getD none, dst := (partEnd b).getD none, mask := m }
      ∧ (a < 8 → v.rb .VXB_PART_RES a 0 25 = true) ∧ (b < 8 → v.rb .VXB_PART_RES b 0 25 = true)
      ∧ v.rf .VXB_PART_REQ_STAT 0 0 16 48 = m.toNat ∧ v.rb .VXB_PART_REQ_STAT 0 0 0 = true))
  ∧ (∀ s t u m a b, Writes s t .mgmt .glob u → a < 8 → b < 8 → u.reqFault 0 m.toNat a b = none →
    (∀ p, p < 48 → (nth u.cores p {}).bank = none) → u.due = [] →
    LeavesSome (.coreMove t .mgmt m a b) s (fun v => v.preq = some { kind := 0, src := some a, dst := some b, mask := m }
      ∧ v.rb .VXB_PART_RES a 0 25 = true ∧ v.rb .VXB_PART_RES b 0 25 = true ∧ v.rf .VXB_PART_REQ_STAT 0 0 16 48 = m.toNat
      ∧ v.rb .VXB_PART_REQ_STAT 0 0 0 = true ∧ v.out = u.out ∧ v.tasks = u.tasks))
  ∧ (∀ s t u m a b, Writes s t .mgmt .glob u → a < 8 → u.reqFault 1 m.toNat a b = none →
    LeavesSome (.wayMove t .mgmt m a b) s (fun v =>
      u.out ++ [.ways "stop" (some a) (BitVec.ofNat 48 m.toNat), .ways "clean" (some a) (BitVec.ofNat 48 m.toNat)] <+: v.out
      ∧ (u.sec.dirty = [] → v.out = u.out ++ [.ways "stop" (some a) (BitVec.ofNat 48 m.toNat),
          .ways "clean" (some a) (BitVec.ofNat 48 m.toNat)])
      ∧ v.preq.isSome = true ∧ v.rf .VXB_PART_RES a 0 0 16 = u.rf .VXB_PART_RES a 0 0 16))
  ∧ (∀ s t u r, Acts s t u → u.preq = some r → r.kind = 1 → r.src.isSome = true → r.scrub = false →
    Leaves (.memoryWriteAck t .wayClean) s (({ u with preq := some { r with scrub := true } }).emit (.ways "scrub" r.src r.mask)))
  ∧ (∀ s t u r n, Acts s t u → u.td = [] → u.preq = some r → r.kind = 1 → r.scrub = true → r.keyWait = false → r.src.getD 8 = n →
    Leaves (.cipherFlushComplete t .ways n) s (u.finishMove r))
  ∧ (∀ s t u m a b, Writes s t .mgmt .glob u → u.reqFault 2 m.toNat a b = none →
    (let r : PartReq := { kind := 2, src := (partEnd a).getD none, dst := (partEnd b).getD none, mask := BitVec.ofNat 48 m.toNat }
     Leaves (.channelMove t .mgmt m a b) s
       (((({ u with preq := some r }).setReg .VXB_PART_REQ_STAT 0 0 (mkWord [(0, 1, 1), (16, 48, m.toNat)])).setMoving r true).finishMove r)))
  ∧ (∀ s t u m a, Writes s t .mgmt .glob u → a < 8 → u.removing a = false → u.removals.contains a = false → u.preq = none →
    (u.td.any (fun d => d.kind == .removal) = false → Leaves (.tenantRemoval t .mgmt m a) s (u.startRemoval a))
    ∧ (u.td.any (fun d => d.kind == .removal) = true → Leaves (.tenantRemoval t .mgmt m a) s { u with removals := u.removals ++ [a] }))
  ∧ (∀ s t u m a r, Writes s t .mgmt .glob u → a < 8 → u.removing a = false → u.removals.contains a = false → u.preq = some r →
    (r.src ≠ some a → r.dst ≠ some a → Leaves (.tenantRemoval t .mgmt m a) s { u with removals := u.removals ++ [a] })
    ∧ (r.src = some a ∨ r.dst = some a → Leaves (.tenantRemoval t .mgmt m a) s (u.startRemoval a)))
  ∧ (∀ s t u m a, Writes s t .mgmt .glob u → a < 8 → u.removing a = true ∨ u.removals.contains a = true →
    Leaves (.tenantRemoval t .mgmt m a) s (u.setF .VXB_PART_REQ_STAT 0 0 4 4 1))
  ∧ (∀ s t u n, Acts s t u → Leaves (.cipherFlushComplete t .ctx n) s (u.cipherAck .autotomy n)
    ∧ Leaves (.cipherFlushComplete t .sq n) s (u.cipherAck .destroySq n))
  ∧ (∀ s t u n d, Acts s t u → u.td.find? (fun d => d.kind == .removal && d.flushing.contains n && d.step == 2) = none →
    u.td.find? (fun d => (d.kind == .flr && d.obj == n || d.kind == .hostLoss) && d.step == 4) = some d →
    (d.kind = .flr → Leaves (.cipherFlushComplete t .fn n) s ((u.cipherAck .halted n).finishFlr d))
    ∧ (d.kind = .hostLoss → Leaves (.cipherFlushComplete t .fn n) s ((u.cipherAck .halted n).finishHostLoss d)))
  ∧ (∀ s t u a d, Acts s t u → u.tdOf .removal a = some d → d.step = 4 → Leaves (.cipherFlushComplete t .tenant a) s (u.removalFree a))
  ∧ (∀ s t n u m a b, Writes s t (.fn n) .glob u → Leaves (.coreMove t (.fn n) m a b) s u ∧ Leaves (.wayMove t (.fn n) m a b) s u
    ∧ Leaves (.channelMove t (.fn n) m a b) s u ∧ Leaves (.tenantRemoval t (.fn n) m a) s u)

/-! ## The security controller (chapter 10) -/

/-- R309, R310, R313, R318, R329, R334, R337, R341, R343: a key that is made fills its slot and counts, and a tenant's is installed and
goes from the lead to its other members, wrapped under their node keys; a wrap key that waited goes to its mailbox; a failed health test
stops key making,
with a SECURITY record, until one of three repeats of the start-up tests passes; a page release is BUSY until it is carried out, and
refused where it leaves the data or meets a sealed range, and a page that is written again while it lasts stays held; a blob key freed or
zeroised leaves an empty slot, one in use by the gate
once that use is over; a zeroised fabric session key is gone and no longer agreed. -/
def Obligations.KeysAreMadeAndZeroised : Prop :=
  (∀ s t u k r, Runs s t u → k < 8 → u.sec.keyReqs = .part k :: r → u.esFailed = false → u.preq = none →
    LeavesSome (.keygenComplete t) s (fun v => v.reg .SEC_SLOT k = mkWord [(0, 2, 1), (2, 3, k)] ∧ v.sec.keyReqs = r
      ∧ v.rf .SEC_STAT 0 0 32 32 = satAdd (2 ^ 32 - 1) (u.rf .SEC_STAT 0 0 32 32) 1 ∧ v.out = u.out))
  ∧ (∀ s t u, Runs s t u → u.esFailed = true → u.sec.keyReqs ≠ [] → Leaves (.keygenComplete t) s u)
  ∧ (∀ s t u, Runs s t u → u.esFailed = false →
    Leaves (.entropyHealthFail t) s
      ((((u.setB .SEC_STAT 0 0 1 true).setB .SEC_STAT 0 0 0 false).setF .SEC_STAT 0 0 2 2 0).securityRec 7 none []))
  ∧ (∀ s t u, Runs s t u → u.esFailed = true → u.rf .SEC_STAT 0 0 2 2 < 3 →
    Leaves (.entropyRetry t true) s ((((u.setF .SEC_STAT 0 0 2 2 (u.rf .SEC_STAT 0 0 2 2 + 1)).setB .SEC_STAT 0 0 1 false).setB
      .SEC_STAT 0 0 0 true).resumeKex)
    ∧ LeavesSome (.entropyRetry t false) s (fun v => v.esFailed = true ∧ v.rf .SEC_STAT 0 0 2 2 = u.rf .SEC_STAT 0 0 2 2 + 1))
  ∧ (∀ s t u ok, Runs s t u → u.esFailed = true → u.rf .SEC_STAT 0 0 2 2 = 3 → Leaves (.entropyRetry t ok) s u)
  ∧ (∀ s t u f r, Runs s t u → u.sec.keyReqs = .tenant f :: r → u.esFailed = false → u.rb .TML_STAT 0 0 5 = true →
    Leaves (.keygenComplete t) s ((u.setSec (fun c => { c with keyReqs := r })).tenantKey f))
  ∧ (∀ (u : State) f e, e = ((Tab.get? u.sec.nextEpoch f).getD (u.rf .SEC_FT f 0 32 16) + 1) % 65536 →
    (let k := u.genKey
     let v := (k.2.installFt f e (BitVec.ofNat 256 k.1)).setSec (fun c => { c with keyDue := c.keyDue.filter (fun d => d.1 ≠ f) ++ [(f, e)] })
     let out (n : Nat) (x : State) : State := match Tab.get? x.tml.nodeKeys n with
       | some w => x.send n (.key f { epoch := e, members := BitVec.ofNat 16 (x.rf .SEC_FT f 0 0 16),
                                      wrapped := Config.keyWrap w (BitVec.ofNat 256 k.1) })
       | none => x
     u.tenantKey f = ((v.tenantMembers f).filter (fun n => n ≠ v.node)).foldl (fun x n => out n x) v))
  ∧ (∀ (u : State) f e key, u.rb .SEC_FT f 0 19 = true →
    Tab.get? (u.installFt f e key).sec.keys (8 + u.rf .SEC_FT f 0 16 3) = some key
    ∧ Tab.get? (u.installFt f e key).sec.nextEpoch f = some e
    ∧ (u.slotType (8 + u.rf .SEC_FT f 0 16 3) = 2 → u.rb .SEC_FT f 0 20 = true → Tab.get? u.sec.nextEpoch f = none →
      Tab.get? (u.installFt f e key).sec.oldKeys f = some (none, u.keyOf (8 + u.rf .SEC_FT f 0 16 3))))
  ∧ (∀ s t u n r, Runs s t u → u.sec.keyReqs = .wrap n :: r → u.esFailed = false → u.sec.mbox.contains n = true →
    u.inSession (.host n) = true →
    LeavesSome (.keygenComplete t) s (fun v => v.sec.keyReqs = r ∧ v.out = u.out
      ∧ Tab.get? v.sec.mboxAns n = some (.wrapKey (Config.p384Point (BitVec.ofNat 384 u.genKey.1)), true)))
  ∧ (∀ s t n a k m u p, Writes s t (.fn n) (.own n) u → Tab.get? u.sec.releases n = none → u.fnPart n = some p →
    m = (if k = 0 then 1 else k) → m ≤ 65536 → a + m ≤ u.rf .MCI_PART p 0 16 36 →
    (∀ r, r < 4 → bitOf (u.reg .MCI_SEAL p r) 36 = true → a + m ≤ fld (u.reg .MCI_SEAL p r) 0 36
      ∨ fld (u.reg .MCI_SEAL p r) 0 36 + fld (u.reg .MCI_SEAL p r) 40 24 ≤ a) →
    Leaves (.pageRelease t n a k) s
      (((u.setSec (fun c => { c with releases := Tab.set c.releases n (a, m, []) })).setB .MCI_FN_REL_STAT n 0 0 true).emit
        (.cipher "invalidate pages" p)))
  ∧ (∀ s t n a k m u p, Writes s t (.fn n) (.own n) u → Tab.get? u.sec.releases n = none → u.fnPart n = some p →
    m = (if k = 0 then 1 else k) → 65536 < m ∨ u.rf .MCI_PART p 0 16 36 < a + m →
    Leaves (.pageRelease t n a k) s (u.setB .MCI_FN_REL_STAT n 0 2 true))
  ∧ (∀ s t n a k u, Writes s t (.fn n) (.own n) u → (Tab.get? u.sec.releases n).isSome = true → Leaves (.pageRelease t n a k) s u)
  ∧ (∀ s t n u a k but p, Acts s t u → n < 64 → Tab.get? u.sec.releases n = some (a, k, but) → u.fnPart n = some p → u.rf .MCI_PART p 0 8 8 = 0 →
    LeavesSome (.pageReleaseComplete t n) s (fun v => v.rb .MCI_FN_REL_STAT n 0 0 = false ∧ v.rb .MCI_FN_REL_STAT n 0 1 = true
      ∧ Tab.get? v.sec.releases n = none ∧ v.heldPages p = (u.heldPages p).filter (fun x => x < a || a + k ≤ x || but.contains x)))
  ∧ (∀ s t n k u, Writes s t (.fn n) (.own n) u → (u.fnKeys n).contains k = true → u.slotType k = 3 →
    (u.slotInUse k = false → Leaves (.blobKeyFree t n k) s (u.zeroSlot k))
    ∧ (u.slotInUse k = true → u.sec.revoke.contains k = false →
      Leaves (.blobKeyFree t n k) s { u with sec := { u.sec with revoke := u.sec.revoke ++ [k] } }))
  ∧ (∀ s t n k u, Writes s t (.fn n) (.own n) u → (u.fnKeys n).contains k = false → Leaves (.blobKeyFree t n k) s u)
  ∧ (∀ s t k u, Writes s t .mgmt .glob u → 16 ≤ k → k ≤ 62 → u.slotType k = 3 → u.slotInUse k = false →
    Leaves (.zeroiseSlot t .mgmt k) s (u.zeroSlot k))
  ∧ (∀ s t k u, Writes s t .mgmt .glob u → 16 ≤ k → k ≤ 62 → u.slotType k = 3 → u.slotInUse k = true → u.sec.revoke.contains k = false →
    Leaves (.zeroiseSlot t .mgmt k) s { u with sec := { u.sec with revoke := u.sec.revoke ++ [k] } })
  ∧ (∀ s t k u, Writes s t .mgmt .glob u → 8 ≤ k → k ≤ 15 → u.slotType k = 2 → u.ftInUse (u.rf .SEC_SLOT k 0 8 4) = false →
    LeavesSome (.zeroiseSlot t .mgmt k) s (fun v => v.reg .SEC_SLOT k = 0 ∧ v.rb .SEC_FT (u.rf .SEC_SLOT k 0 8 4) 0 20 = false
      ∧ Tab.get? v.sec.keys k = none ∧ v.out = u.out))
  ∧ (∀ s t k u, Writes s t .mgmt .glob u → k < 8 ∨ 62 < k → Leaves (.zeroiseSlot t .mgmt k) s u)
  ∧ (∀ s t u, Writes s t .mgmt .glob u → Leaves (.zeroiseAllBlob t .mgmt) s u.zeroiseAll)
  ∧ (∀ s t n k u, Writes s t (.fn n) .glob u → Leaves (.zeroiseSlot t (.fn n) k) s u ∧ Leaves (.zeroiseAllBlob t (.fn n)) s u)

/-- R330 to R333, R344: GO reads the request buffer of a mailbox, or sets ERR for a length out of range; the response is written and
raises the function's event; the requests that need no session are answered with what they ask for; a session is opened by
KEY_EXCHANGE, established by FINISH and ended by END_SESSION; a wrapped key is delivered into a free blob slot; the eighth failed
authentication of management locks it out for 10 s. -/
def Obligations.SpdmRequestsAreAnswered : Prop :=
  (∀ s t n l u, Writes s t (.fn n) (.own n) u → u.sec.mbox.contains n = false → 0 < l → l ≤ 4096 →
    (let v := (u.setF .SEC_FN_MBOX_CTL n 0 0 13 l).setSec (fun c => { c with mbox := c.mbox ++ [n] })
     Leaves (.mboxGo t n l) s (v.readMem (.mbox n) (v.reg .SEC_FN_MBOX_REQ n) l)))
  ∧ (∀ s t n l u, Writes s t (.fn n) (.own n) u → u.sec.mbox.contains n = true → Leaves (.mboxGo t n l) s u)
  ∧ (∀ s t n l u, Writes s t (.fn n) (.own n) u → u.sec.mbox.contains n = false → l = 0 ∨ 4096 < l →
    LeavesSome (.mboxGo t n l) s (fun v => v.rb .SEC_FN_MBOX_CTL n 0 15 = true ∧ v.out = u.out ∧ v.sec = u.sec))
  ∧ (∀ s t n l a u, Acts s t u → Tab.get? u.sec.mboxAns n = some a →
    (u.refused (u.fnPart n) (u.reg .SEC_FN_MBOX_RSP n) l = false →
      (let v := ((u.dropReads (fun r => r.tag == .mbox n)).setSec (fun c =>
         { c with mbox := c.mbox.filter (fun m => m ≠ n), mboxAns := Tab.erase c.mboxAns n })).spdmWords a.2 l
       let w := (v.2.writeMem (v.2.forFn n) (u.reg .SEC_FN_MBOX_RSP n) v.1).emit (.spdm (.host n) a.1)
       Leaves (.mboxResponse t n l false) s (((w.setF .SEC_FN_MBOX_CTL n 0 16 13 l).setB .SEC_FN_MBOX_CTL n 0 14 true).fnEvent n 3))
      ∧ Leaves (.mboxResponse t n l true) s (u.mboxErr n))
    ∧ (∀ f, u.refused (u.fnPart n) (u.reg .SEC_FN_MBOX_RSP n) l = true → Leaves (.mboxResponse t n l f) s (u.refuseCnt.mboxErr n)))
  ∧ (∀ (u : State) b l, 0 < l → fld (nth (u.spdmWords b l).1 0 0) 0 8 = (if b then 6 else 5))
  ∧ (∀ s t u, u = s.at t → u.ready = true → u.rb .VXB_START_STAT 0 0 4 = false →
    Leaves (.getVersion t .mgmt) s (u.emit (.spdm .mgmt (.version 1 2)))
    ∧ Leaves (.getCapabilities t .mgmt) s (u.emit (.spdm .mgmt
        (.capabilities [.cert, .chal, .measSigned, .encrypt, .mac, .keyEx, .mutAuth, .keyUpd] 15)))
    ∧ Leaves (.negotiateAlgorithms t .mgmt) s (u.emit (.spdm .mgmt
        (.algorithms [.ecdsaP384, .sha384, .secp384r1, .aes256Gcm, .spdmKeySchedule])))
    ∧ Leaves (.getDigests t .mgmt) s (u.emit (.spdm .mgmt (.digests 0 u.chainDigest)))
    ∧ Leaves (.getCertificate t .mgmt) s (u.emit (.spdm .mgmt (.certificate 0 u.chain)))
    ∧ Leaves (.challenge t .mgmt) s (u.sign.2.emit (.spdm .mgmt (.challengeAuth u.chainDigest (u.summary .mgmt) u.sign.1)))
    ∧ (∀ i l, l = (u.measurements .mgmt).filter (fun e => e.1 < 0x10 || u.inSession .mgmt) →
      (i ≠ 0 → i ≠ 0xFF → l.filter (fun e => e.1 = i) ≠ [] →
        Leaves (.getMeasurements t .mgmt i) s (u.sign.2.emit (.spdm .mgmt (.measurements (l.filter (fun e => e.1 = i)) u.sign.1))))
      ∧ (i ≠ 0 → i ≠ 0xFF → l.filter (fun e => e.1 = i) = [] →
        Leaves (.getMeasurements t .mgmt i) s (u.emit (.spdm .mgmt (.error .invalidRequest))))
      ∧ (l ≠ [] → Leaves (.getMeasurements t .mgmt 0xFF) s (u.sign.2.emit (.spdm .mgmt (.measurements l u.sign.1))))
      ∧ Leaves (.getMeasurements t .mgmt 0) s (u.emit (.spdm .mgmt (.measurementCount l.length)))))
  ∧ (∀ (u : State) c, u.measurement (.host c) 0x10 = none ∧ u.measurement .mgmt 4 = none)
  ∧ (∀ s t n u i, u = s.at t → u.alive = true → u.sec.mbox.contains n = true → Tab.get? u.sec.mboxAns n = none →
    u.sec.keyReqs.contains (.wrap n) = false →
    i ∈ [(Instr.getVersion t (.host n), u, SpdmAns.version 1 2),
      (.getCapabilities t (.host n), u, .capabilities [.cert, .chal, .measSigned, .encrypt, .mac, .keyEx, .mutAuth, .keyUpd] 15),
      (.negotiateAlgorithms t (.host n), u, .algorithms [.ecdsaP384, .sha384, .secp384r1, .aes256Gcm, .spdmKeySchedule]),
      (.getDigests t (.host n), u, .digests 0 u.chainDigest), (.getCertificate t (.host n), u, .certificate 0 u.chain),
      (.challenge t (.host n), u.sign.2, .challengeAuth u.chainDigest (u.summary (.host n)) u.sign.1)] →
    Leaves i.1 s (i.2.1.setSec (fun c => { c with mboxAns := Tab.set c.mboxAns n (i.2.2, (u.session (.host n)).isSome) })))
  ∧ (∀ s t n u i l, u = s.at t → u.alive = true → u.sec.mbox.contains n = true → Tab.get? u.sec.mboxAns n = none →
    u.sec.keyReqs.contains (.wrap n) = false → i ≠ 0 → i ≠ 0xFF → i < 0x10 →
    l = (u.measurements (.host n)).filter (fun e => e.1 = i) → l ≠ [] →
    Leaves (.getMeasurements t (.host n) i) s (u.sign.2.setSec (fun c =>
      { c with mboxAns := Tab.set c.mboxAns n (.measurements l u.sign.1, (u.session (.host n)).isSome) })))
  ∧ (∀ s t u, u = s.at t → u.ready = true → u.rb .VXB_START_STAT 0 0 4 = false → u.sec.lockUntil = none → u.esFailed = false →
    u.session .mgmt = none →
    (let k := u.genKey
     let g := k.2.sign
     Leaves (.keyExchange t .mgmt) s ((g.2.setSec (fun c => { c with sessions := c.sessions ++ [{ peer := .mgmt }] })).emit
       (.spdm .mgmt (.keyExchange (Config.p384Point (BitVec.ofNat 384 k.1)) (u.summary .mgmt) g.1)))))
  ∧ (∀ s t n u, u = s.at t → u.alive = true → u.sec.mbox.contains n = true → Tab.get? u.sec.mboxAns n = none → u.esFailed = false →
    u.sec.keyReqs.contains (.wrap n) = false → u.session (.host n) = none →
    (let k := u.genKey
     let g := k.2.sign
     let a : SpdmAns := .keyExchange (Config.p384Point (BitVec.ofNat 384 k.1)) (u.summary (.host n)) g.1
     (u.sec.sessions.filter (fun x => x.peer ≠ .mgmt)).length < 8 →
      Leaves (.keyExchange t (.host n)) s (g.2.setSec (fun c =>
        { c with sessions := c.sessions ++ [{ peer := .host n }], mboxAns := Tab.set c.mboxAns n (a, false) })))
    ∧ (8 ≤ (u.sec.sessions.filter (fun x => x.peer ≠ .mgmt)).length →
      Leaves (.keyExchange t (.host n)) s (u.setSec (fun c => { c with mboxAns := Tab.set c.mboxAns n (.error .busy, false) }))))
  ∧ (∀ s t u a, u = s.at t → u.ready = true → u.rb .VXB_START_STAT 0 0 4 = false → u.sec.lockUntil = some a →
    Leaves (.keyExchange t .mgmt) s (u.emit (.spdm .mgmt (.error .refused))))
  ∧ (∀ s t u x o, u = s.at t → u.ready = true → u.rb .VXB_START_STAT 0 0 4 = false → u.session .mgmt = some x → x.finished = false →
    o < u.owners → LeavesSome (.finish t .mgmt true o) s (fun v => v.inSession .mgmt = true ∧ v.rf .SEC_MGMT 0 0 1 2 = o % 4 ∧ v.sec.fails = 0
      ∧ v.out = u.out ++ [.spdm .mgmt .finish]))
  ∧ (∀ s t u x b o, u = s.at t → u.ready = true → u.rb .VXB_START_STAT 0 0 4 = false → u.session .mgmt = some x → x.finished = false →
    b = false ∨ u.owners ≤ o → u.sec.fails = 7 →
    LeavesSome (.finish t .mgmt b o) s (fun v => v.session .mgmt = none ∧ v.sec.lockUntil = some (u.ref + 10000000000)))
  ∧ (∀ s t u x b o, u = s.at t → u.ready = true → u.rb .VXB_START_STAT 0 0 4 = false → u.session .mgmt = some x → x.finished = false →
    b = false ∨ u.owners ≤ o → u.sec.fails < 7 →
    LeavesSome (.finish t .mgmt b o) s (fun v => v.session .mgmt = none ∧ v.sec.lockUntil = u.sec.lockUntil
      ∧ v.sec.fails = u.sec.fails + 1))
  ∧ (∀ s t n u x o, u = s.at t → u.alive = true → u.sec.mbox.contains n = true → Tab.get? u.sec.mboxAns n = none →
    u.sec.keyReqs.contains (.wrap n) = false → u.session (.host n) = some x → x.finished = false →
    LeavesSome (.finish t (.host n) true o) s (fun v => v.inSession (.host n) = true
      ∧ v.sec.mboxAns = Tab.set u.sec.mboxAns n (.finish, true) ∧ v.regs = u.regs ∧ v.out = u.out))
  ∧ (∀ s t u, u = s.at t → u.ready = true → u.rb .VXB_START_STAT 0 0 4 = false → u.inSession .mgmt = true → u.mcs.load = none →
    LeavesSome (.endSession t .mgmt) s (fun v => v.session .mgmt = none ∧ v.out = u.out ++ [.spdm .mgmt .endSessionAck]))
  ∧ (∀ s t u, u = s.at t → u.ready = true → u.rb .VXB_START_STAT 0 0 4 = false → u.inSession .mgmt = true →
    Leaves (.spdmKeyUpdate t .mgmt) s (u.emit (.spdm .mgmt .keyUpdateAck)))
  ∧ (∀ s t n u, u = s.at t → u.alive = true → u.sec.mbox.contains n = true → Tab.get? u.sec.mboxAns n = none →
    u.sec.keyReqs.contains (.wrap n) = false → u.inSession (.host n) = true →
    (u.esFailed = false →
      (let k : BitVec 384 := BitVec.ofNat 384 u.genKey.1
       LeavesSome (.getWrapKey t (.host n)) s (fun v => v.sec.mboxAns = Tab.set u.sec.mboxAns n (.wrapKey (Config.p384Point k), true)
         ∧ (v.session (.host n)).any (fun x => x.wrapKey = some k) = true ∧ v.out = u.out)))
    ∧ (u.esFailed = true →
      Leaves (.getWrapKey t (.host n)) s (u.setSec (fun c => { c with keyReqs := c.keyReqs ++ [.wrap n] }))))
  ∧ (∀ s t n u x priv p w keep model, u = s.at t → u.alive = true → u.sec.mbox.contains n = true →
    Tab.get? u.sec.mboxAns n = none → u.sec.keyReqs.contains (.wrap n) = false →
    u.session (.host n) = some x → x.finished = true → x.wrapKey = some priv → u.fnPart n = some p → u.live p = true →
    LeavesSome (.deliverKey t (.host n) w keep model) s (fun v => v.out = u.out
      ∧ (v.session (.host n)).any (fun y => y.wrapKey.isNone) = true
      ∧ match openWrap w priv model, u.freeBlobSlot with
        | some key, some k => v.sec.mboxAns = Tab.set u.sec.mboxAns n (.delivered 0 k, true)
          ∧ v.reg .SEC_SLOT k = mkWord [(0, 2, 3), (2, 3, p), (5, 1, b2n keep), (32, 32, fld model 0 32)]
          ∧ Tab.get? v.sec.keys k = some key ∧ Tab.get? v.sec.modelIds k = some model
        | some _, none => v.sec.mboxAns = Tab.set u.sec.mboxAns n (.delivered 1 0, true) ∧ v.regs = u.regs ∧ v.sec.keys = u.sec.keys
        | none, _ => v.sec.mboxAns = Tab.set u.sec.mboxAns n (.delivered 2 0, true) ∧ v.regs = u.regs ∧ v.sec.keys = u.sec.keys))
  ∧ (∀ s t n u x w keep model, u = s.at t → u.alive = true → u.sec.mbox.contains n = true → Tab.get? u.sec.mboxAns n = none →
    u.sec.keyReqs.contains (.wrap n) = false → u.session (.host n) = some x → x.finished = true →
    (x.wrapKey = none →
      LeavesSome (.deliverKey t (.host n) w keep model) s (fun v => v.sec.mboxAns = Tab.set u.sec.mboxAns n (.delivered 3 0, true)
        ∧ v.regs = u.regs ∧ v.sec.keys = u.sec.keys ∧ v.out = u.out))
    ∧ (∀ priv, x.wrapKey = some priv → (u.fnPart n).all (fun p => !u.live p) = true →
      LeavesSome (.deliverKey t (.host n) w keep model) s (fun v => v.sec.mboxAns = Tab.set u.sec.mboxAns n (.delivered 4 0, true)
        ∧ v.regs = u.regs ∧ v.sec.keys = u.sec.keys ∧ v.out = u.out)))
  ∧ (∀ s t a, (s.at t).sec.lockUntil = some a → a ≤ (s.at t).ref →
    Leaves (.authLockoutExpiry t) s ((s.at t).setSec (fun c => { c with lockUntil := none, fails := 0 })))
  ∧ (∀ s t a, (s.at t).sec.lockUntil = some a → (s.at t).ref < a → Leaves (.authLockoutExpiry t) s (s.at t))

/-- R310, R335, R337, R343: a protected link's rekey starts on request, or at 2^47 frames, with a LINK_HELLO, and at the peer's
LINK_HELLO; a LINK_HELLO is answered with this end's own, where it has not gone yet, and with a proof, once the noise source works; a
proof that fails takes the port down with a SECURITY record, and one that holds derives the keys from both HELLOs, and switches to them
or brings the link up; the KEY_SWITCH frame ends the rekey; the old epoch's transfers have 100 µs. -/
def Obligations.LinksProveAndRekey : Prop :=
  (∀ s t p u, Writes s t .mgmt .glob u → u.rf .SEC_LINK p 0 0 2 = 2 → u.rb .SEC_LINK p 0 3 = false →
    Leaves (.linkRekey t .mgmt p) s ((u.beginRekey p).sayHello p))
  ∧ (∀ s t p u, Writes s t .mgmt .glob u → u.rb .SEC_LINK p 0 3 = true ∨ u.rf .SEC_LINK p 0 0 2 ≠ 2 → Leaves (.linkRekey t .mgmt p) s u)
  ∧ (∀ s t p n u, Writes s t (.fn n) .glob u → Leaves (.linkRekey t (.fn n) p) s u)
  ∧ (∀ s t p u, Runs s t u → 2 ^ 47 ≤ (u.tport p).tx → u.rf .SEC_LINK p 0 0 2 = 2 → u.rb .SEC_LINK p 0 3 = false →
    LeavesLink (.txCounterRekey t p) s u ((u.beginRekey p).sayHello p))
  ∧ (∀ s t p u, Runs s t u → (u.tport p).tx < 2 ^ 47 → LeavesLink (.txCounterRekey t p) s u u)
  ∧ (∀ s t h u, Runs s t u → (u.tport h.port).theirs = none →
    (u.portState h.port = 2 ∨ (u.portState h.port = 3 ∧ (u.tport h.port).rekey = true) →
      LeavesLink (.linkHello t h) s u
        (((u.updPort h.port (fun x => { x with theirs := some h.toHello })).sayHello h.port).sayProof h.port))
    ∧ (u.portState h.port = 3 → (u.tport h.port).rekey = false →
      LeavesLink (.linkHello t h) s u
        ((((u.beginRekey h.port).updPort h.port (fun x => { x with theirs := some h.toHello })).sayHello h.port).sayProof h.port)))
  ∧ (∀ s t h u, Runs s t u → (u.tport h.port).theirs.isSome = true ∨ (u.portState h.port ≠ 2 ∧ u.portState h.port ≠ 3) →
    LeavesLink (.linkHello t h) s u u)
  ∧ (∀ s t h u, Runs s t u → u.esFailed = true → u.portState h.port = 2 → (u.tport h.port).theirs = none → (u.tport h.port).mine = none →
    LeavesLink (.linkHello t h) s u (u.updPort h.port (fun x => { x with theirs := some h.toHello })))
  ∧ (∀ s t p u c l g, Runs s t u → (u.tport p).mine.isSome = true → (u.tport p).theirs.isSome = true →
    c = false ∨ g = false ∨ (l = false ∧ u.start.peersListed = true) →
    ((u.tport p).rekey = false → LeavesLink (.linkProof t p c l g) s u ((u.portSecurity 5 p).portDown p 4))
    ∧ ((u.tport p).rekey = true → LeavesLink (.linkProof t p c l g) s u ((u.portDown p 14).portSecurity 5 p)))
  ∧ (∀ s t p u l e h, Runs s t u → (u.tport p).mine = some e → (u.tport p).theirs = some h → l = true ∨ u.start.peersListed = false →
    (let k := e.linkKeys h
     ((u.tport p).rekey = false →
       (let v := (u.setF .SEC_LINK p 0 0 2 2).updPort p (fun _ =>
          { rxAt := u.ref, peerLead := (u.tport p).peerLead, txKey := some k.1, rxKey := some k.2 })
        LeavesLink (.linkProof t p true l true) s u ((v.portUp p).linkUpJoin p)))
     ∧ ((u.tport p).rekey = true →
       (let v := u.someFlits.2.updPort p (fun x =>
          { x with newKey := some k.1, oldKey := x.rxKey, rxKey := some k.2, mine := none, theirs := none })
        LeavesLink (.linkProof t p true l true) s u (v.txFrame p { typ := 4, text := u.someFlits.1 })))))
  ∧ (∀ s t p u c l g, Runs s t u → (u.tport p).mine = none ∨ (u.tport p).theirs = none → LeavesLink (.linkProof t p c l g) s u u)
  ∧ (∀ s t p u, Runs s t u → (u.tport p).oldKey.isSome = true →
    LeavesLink (.keySwitch t p) s u
      (((u.updPort p (fun x => { x with rx := 0, rekey := false, oldKey := none, rxAt := u.ref })).setB
        .SEC_LINK p 0 3 false).bump .SEC_LINK p 0 32 16 1))
  ∧ (∀ s t p u, Runs s t u → (u.tport p).oldKey = none → LeavesLink (.keySwitch t p) s u u)
  ∧ (∀ s t f u a k, Runs s t u → Tab.get? u.sec.oldKeys f = some (some a, k) → a ≤ u.ref → u.rb .SEC_FT f 0 20 = true → u.tml.xfers = [] →
    u.tml.inb = [] →
    LeavesLink (.epochSwitchTimeout t f) s u (u.setSec (fun c => { c with oldKeys := Tab.erase c.oldKeys f })))
  ∧ (∀ s t f u a k, Runs s t u → Tab.get? u.sec.oldKeys f = some (some a, k) → a ≤ u.ref →
    LeavesLinkSome (.epochSwitchTimeout t f) s u (fun v => ∀ y ∈ v.tml.inb, y.ft = f →
      y.epoch = u.rf .SEC_FT f 0 32 16 ∧ u.rb .SEC_FT f 0 20 = true))
  ∧ (∀ s t f u a k, Runs s t u → Tab.get? u.sec.oldKeys f = some (a, k) → (∀ b, a = some b → u.ref < b) →
    LeavesLink (.epochSwitchTimeout t f) s u u)

/-! ## The Tamnel (chapter 11) -/

/-- R350, R352, R357, R359, R360, R362, R371: the lanes that come up are noted and a TRAIN frame leaves, which says what
R359 and R361 list; none is reason 1 of Table 11-5; a TRAIN frame that does not fit takes the port down, one of a fabric with a lower
lead dissolves this island, and one that fits begins the handshake; lanes that all fall, or 2 µs
without a frame, are reason 10; some that fall re-train in place, with source 14 where the port becomes degraded, and what is
unacknowledged is sent again; a frame out of order is
counted and asked for again, and one in order whose tag holds takes its counter; a frame unacknowledged for 5 µs is sent again; idle and
time frames
leave ports that are up; REJOIN trains every port. -/
def Obligations.PortsTrainAndCarryFrames : Prop :=
  (∀ s t p l r u, Runs s t u → u.portState p = 1 → u.rf .TML_PORT p 0 3 4 = 0 → 0 < l → l ≤ 8 →
    LeavesLink (.portLanesUp t p l r) s u (((u.setF .TML_PORT p 0 3 4 l).setF .TML_PORT p 0 7 2 r).sayTrain p))
  ∧ (∀ (u : State) p, ∃ g : Frame, (u.sayTrain p).out = u.out ++ [.frame p g] ∧ g.typ = 6 ∧ g.body = .train (u.trainInfo p)
    ∧ (u.trainInfo p).fabricId.toNat = u.rf .TML_CFG 0 0 32 32 ∧ (u.trainInfo p).port = p ∧ (u.trainInfo p).features = 15
    ∧ (u.trainInfo p).protection = true ∧ 8 ≤ (u.trainInfo p).credits ∧ (u.trainInfo p).credits ≤ 64)
  ∧ (∀ s t p r u, Runs s t u → u.portState p = 1 → u.rf .TML_PORT p 0 3 4 = 0 → LeavesLink (.portLanesUp t p 0 r) s u (u.portDown p 1))
  ∧ (∀ s t p i u, Runs s t u → u.portState p ≠ 1 ∨ u.rf .TML_PORT p 0 3 4 = 0 → LeavesLink (.train t p i) s u u)
  ∧ (∀ s t p i u, Runs s t u → u.portState p = 1 → u.rf .TML_PORT p 0 3 4 ≠ 0 →
    (i.lanes = 0 → LeavesLink (.train t p i) s u (u.portDown p 1))
    ∧ (i.lanes ≠ 0 → 3 ≤ max i.rate (u.rf .TML_PORT p 0 7 2) → LeavesLink (.train t p i) s u (u.portDown p 2))
    ∧ (i.lanes ≠ 0 → max i.rate (u.rf .TML_PORT p 0 7 2) < 3 → i.protection = false → LeavesLink (.train t p i) s u (u.portDown p 3))
    ∧ (i.lanes ≠ 0 → max i.rate (u.rf .TML_PORT p 0 7 2) < 3 → i.protection = true →
      i.fabricId.toNat ≠ u.rf .TML_CFG 0 0 32 32 → LeavesLink (.train t p i) s u (u.portDown p 6)))
  ∧ (∀ s t p i u, Runs s t u → u.portState p = 1 → u.rf .TML_PORT p 0 3 4 ≠ 0 → i.lanes ≠ 0 →
    max i.rate (u.rf .TML_PORT p 0 7 2) < 3 → i.protection = true → i.fabricId.toNat = u.rf .TML_CFG 0 0 32 32 →
    i.topo = u.rf .TML_CFG 0 0 0 2 → i.xdim = u.rf .TML_CFG 0 0 2 4 → i.ydim = u.rf .TML_CFG 0 0 6 4 →
    (i.port ≠ wantedPeerPort p → LeavesLink (.train t p i) s u (u.portDown p 5))
    ∧ (i.port = wantedPeerPort p → i.features.toNat % 16 ≠ 15 → LeavesLink (.train t p i) s u (u.portDown p 8))
    ∧ (i.port = wantedPeerPort p → i.features.toNat % 16 = 15 → u.member = true → i.hasLead = true → i.leadNode < u.leadNode →
      LeavesLink (.train t p i) s u u.dissolve)
    ∧ (i.port = wantedPeerPort p → i.features.toNat % 16 = 15 → u.member = false ∨ i.hasLead = false ∨ u.leadNode ≤ i.leadNode → p < 4 →
      LeavesLinkSome (.train t p i) s u (fun v => v.portState p = 2 ∧ v.rf .SEC_LINK p 0 0 2 = 1
        ∧ v.rf .TML_PORT p 0 3 4 = min (u.rf .TML_PORT p 0 3 4) i.lanes ∧ v.rf .TML_PORT p 0 21 7 = min 64 (max 8 i.credits)
        ∧ (u.esFailed = true → v.out = u.out)
        ∧ (u.esFailed = false → ∃ g e k, v.out = u.out ++ [.frame p g] ∧ g.typ = 1 ∧ g.body = .kex (.hello e k u.chain)))))
  ∧ (∀ s t p l r u, Runs s t u → u.portState p = 3 → l = 0 ∨ (3 ≤ r ∧ l ≤ 8) → LeavesLink (.lanesFall t p l r) s u (u.portDown p 10))
  ∧ (∀ s t p l r u, Runs s t u → u.portState p = 3 → 0 < l → l ≤ 8 → r < 3 →
    (let deg := decide (l < 8) || decide (r ≠ 0)
     let v := (((u.setF .TML_PORT p 0 3 4 l).setF .TML_PORT p 0 7 2 r).setB .TML_PORT p 0 9 deg).bump .TML_PORT_CNT p 0 16 16 1
     LeavesLink (.lanesFall t p l r) s u ((if deg && !u.rb .TML_PORT p 0 9 then v.raise 14 else v).resend p 0)))
  ∧ (∀ s t p u, Runs s t u → u.portState p = 3 → (u.tport p).rxAt + 2000 ≤ u.ref →
    LeavesLink (.lanesLostTimeout t p) s u (u.portDown p 10))
  ∧ (∀ s t p u, Runs s t u → u.ref < (u.tport p).rxAt + 2000 → LeavesLink (.lanesLostTimeout t p) s u u)
  ∧ (∀ s t p f u, Runs s t u → u.portState p ≠ 3 → LeavesLink (.linkFrameReceive t p f) s u u)
  ∧ (∀ s t p f u, Runs s t u → u.portState p = 3 → u.frameTagOk p f = true → f.ctr = (u.tport p).rx →
    LeavesLinkSome (.linkFrameReceive t p f) s u (fun v => (v.tport p).rx = (u.tport p).rx + 1 ∧ (v.tport p).rxAt = u.ref
      ∧ u.out <+: v.out ∧ ((u.tport p).queue = [] → f.nak = false → f.cls = 0 → v.out = u.out)))
  ∧ (∀ s t p f u, Runs s t u → u.portState p = 3 → u.frameTagOk p f = true → f.ctr ≠ (u.tport p).rx → Tab.get? u.sec.tagFails p = none → p < 4 →
    LeavesLinkSome (.linkFrameReceive t p f) s u (fun v => (v.tport p).rx = (u.tport p).rx
      ∧ v.rf .SEC_LINK p 0 16 16 = satAdd 65535 (u.rf .SEC_LINK p 0 16 16) 1
      ∧ ((u.tport p).queue = [] → (u.tport p).replay.length < 64 → (u.tport p).tx < 2 ^ 48 - 2 ^ 16 →
        ∃ g : Frame, v.out = u.out ++ [.frame p g] ∧ g.typ = 2 ∧ g.nak = true ∧ g.ctr = (u.tport p).tx)))
  ∧ (∀ s t p u e r, Runs s t u → (u.tport p).replay = e :: r → u.portState p = 3 →
    (e.at0 + 5000 ≤ u.ref → LeavesLink (.frameReplayTimeout t p) s u (u.resend p 0))
    ∧ (u.ref < e.at0 + 5000 → LeavesLink (.frameReplayTimeout t p) s u u))
  ∧ (∀ s t p u, Runs s t u → (u.tport p).replay = [] → LeavesLink (.frameReplayTimeout t p) s u u)
  ∧ (∀ s t p u, Runs s t u → u.portState p = 3 → LeavesLink (.idleFrameTick t p) s u (u.txFrame p { typ := 2 })
    ∧ LeavesLink (.timeExchangeTick t p) s u (u.someFlits.2.txFrame p { typ := 5, text := u.someFlits.1 }))
  ∧ (∀ s t p u, Runs s t u → u.portState p ≠ 3 → LeavesLink (.idleFrameTick t p) s u u ∧ LeavesLink (.timeExchangeTick t p) s u u)
  ∧ (∀ s t u, Writes s t .mgmt .glob u → Leaves (.rejoin t .mgmt) s ((List.range 4).foldl State.trainPort u))
  ∧ (∀ s t n u, Writes s t (.fn n) .glob u → Leaves (.rejoin t (.fn n)) s u ∧ Leaves (.plannedLeave t (.fn n)) s u)

/-- R342, R364 to R368: an OPEN is refused by its checks, or kept and acknowledged; a segment in order that its tenant's key opens is
written at its place, one that has come already is written again without a credit, and one that the key does not open ends the
transfer; the destination of a GET reads what its credits allow; a response segment is written and its credit goes back; a REPORT completes
the transfer; a segment that nothing has covered
for 50 µs is sent again; SQUASH and SQUASH_ACK end a transfer on both sides; a CREDIT counts up to 64. -/
def Obligations.TransfersMoveSegments : Prop :=
  (∀ s t a q x g ft r l u, Acts s t u → u.tml.inb.any (fun y => y.src == a && y.xfer == x) = true →
    Leaves (.openTransfer t a q x g ft r l) s (u.acks a q))
  ∧ (∀ s t a q x g ft r l u c, Acts s t u → u.tml.inb.any (fun y => y.src == a && y.xfer == x) = false → u.openFault ft r l = some c →
    Leaves (.openTransfer t a q x g ft r l) s (u.send a (.refuse q c (BitVec.ofNat 32 x))))
  ∧ (∀ s t a q x g ft r l u, Acts s t u → u.tml.inb.any (fun y => y.src == a && y.xfer == x) = false → u.openFault ft r l = none →
    (let y : InXfer := { src := a, xfer := x, get := g, part := u.rf .SEC_FT ft 0 16 3, ft := ft,
                         epoch := u.rf .SEC_FT ft 0 32 16, segs := (l + 4095) / 4096, remote := r, len := l }
     Leaves (.openTransfer t a q x g ft r l) s (((u.setTml (fun m => { m with inb := m.inb ++ [y] })).acks a q).sendResp a x 65)))
  ∧ (∀ s t a x n ep iv g d w u y, Acts s t u → u.inOf a x = some y → y.src = a → y.xfer = x → y.get = false → y.squashing = false →
    n ≤ y.got →
    (n = y.got → u.segOpen a x n y.ft ep iv g d = some w → Leaves (.segmentReceive t a x false n ⟨ep, iv, g⟩ d) s
      (((u.granted a false).writeMem { part := some y.part } (y.remote + BitVec.ofNat 64 (4096 * n)) w).updIn a x
        (fun z => { z with got := z.got + 1 })))
    ∧ (n < y.got → u.segOpen a x n y.ft ep iv g d = some w →
      Leaves (.segmentReceive t a x false n ⟨ep, iv, g⟩ d) s
        (u.writeMem { part := some y.part } (y.remote + BitVec.ofNat 64 (4096 * n)) w))
    ∧ (n = y.got → u.segOpen a x n y.ft ep iv g d = none → Leaves (.segmentReceive t a x false n ⟨ep, iv, g⟩ d) s
      (((((u.granted a false).tenantSecurity a y.part).closeIn a x).send a (.refuse 0 6 (BitVec.ofNat 32 x))).creditBack a)))
  ∧ (∀ s t a x n ep iv g d u y, Acts s t u → u.inOf a x = some y → y.got < n → Leaves (.segmentReceive t a x false n ⟨ep, iv, g⟩ d) s u)
  ∧ (∀ s t a x n ep iv g d u, Acts s t u → u.inOf a x = none →
    Leaves (.segmentReceive t a x false n ⟨ep, iv, g⟩ d) s ((u.granted a false).creditBack a))
  ∧ (∀ s t a x n ep iv g d w u y k, Acts s t u → Tab.get? u.tml.xfers x = some y → y.get = true → y.dest = a → y.squashing = false →
    n = y.covered → y.paused = false → Tab.get? u.tasks y.task = some k → u.segOpen a x n y.ft ep iv g d = some w →
    (let p := k.linkLocal + BitVec.ofNat 64 (4096 * n)
     let v := (((u.writeMem (u.forCtx k.ctx) p w).payload y 7 (8 * w.length)).updXfer x (fun y => { y with covered := y.covered + 1, owed := 0 })).send a
       (.credit 1 (some x))
     Leaves (.segmentReceive t a x true n ⟨ep, iv, g⟩ d) s (if v.portOf p == .host then v.segRespAck x else v)))
  ∧ (∀ s t a x n ep iv g d u, Acts s t u → Tab.get? u.tml.xfers x = none → Leaves (.segmentReceive t a x true n ⟨ep, iv, g⟩ d) s u)
  ∧ (∀ s t a q x u y, Acts s t u → Tab.get? u.tml.xfers x = some y → y.dest = a → y.get = false →
    Leaves (.report t a q x) s ((u.acks a q).xferComplete x))
  ∧ (∀ s t a q x u, Acts s t u → Tab.get? u.tml.xfers x = none → Leaves (.report t a q x) s (u.acks a q))
  ∧ (∀ s t x n u y, Acts s t u → Tab.get? u.tml.xfers x = some y → y.get = false → y.squashing = false → y.paused = false →
    y.covered ≤ n → n < y.out →
    (nth y.sentAt n 0 + 50000 ≤ u.ref → Leaves (.segmentResendTimeout t x n) s
      (((u.updXfer x (fun y => { y with sentAt := modAt y.sentAt n (fun _ => u.ref) })).bump .TML_XFER 0 0 32 16 1).putSeg x y n))
    ∧ (u.ref < nth y.sentAt n 0 + 50000 → Leaves (.segmentResendTimeout t x n) s u))
  ∧ (∀ s t x n u, Acts s t u → Tab.get? u.tml.xfers x = none → Leaves (.segmentResendTimeout t x n) s u)
  ∧ (∀ s t a q x u, Acts s t u → Leaves (.squash t a q x true) s (((u.acks a q).closeIn a x).send a (.squashAck x)))
  ∧ (∀ s t a q x u y, Acts s t u → Tab.get? u.tml.xfers x = some y → y.dest = a →
    Leaves (.squash t a q x false) s (((u.acks a q).send a (.squashAck x)).xferEnd x 0xE))
  ∧ (∀ s t a q x u y, Acts s t u → Tab.get? u.tml.xfers x = some y → y.dest = a → y.squashing = true →
    Leaves (.squashAck t a ⟨q, x⟩) s ((u.acks a q).xferDone x 3))
  ∧ (∀ s t a q x u, Acts s t u → Tab.get? u.tml.xfers x = none →
    u.tml.inb.any (fun y => y.src == a && y.xfer == x && y.squashing) = true →
    Leaves (.squashAck t a ⟨q, x⟩) s ((u.acks a q).closeIn a x))
  ∧ (∀ (u : State) a x n y, u.inOf a x = some y → y.get = true → y.squashing = false → y.got < y.segs → 0 < y.credits →
    u.sendResp a x (n + 1) = ((u.updIn a x (fun z => { z with got := z.got + 1, credits := z.credits - 1 })).readMem
      (.response a x y.got) (y.remote + BitVec.ofNat 64 (4096 * y.got)) (segBytes y.len y.got)).sendResp a x n)
  ∧ (∀ s t a q n u, Acts s t u → a < 16 → u.tml.xfers = [] →
    LeavesSome (.credit t a q n none) s (fun v => v.heldCr a = min 64 (u.heldCr a + n) ∧ v.tml.xfers = []
      ∧ Emit.msg a (Tab.getD u.tml.seqs a 0) (.ack { seq := q }) ∈ v.out))
  ∧ (∀ s t a q n x u, Acts s t u →
    Leaves (.credit t a q n (some x)) s (((u.acks a q).setTml (fun m => { m with inb := m.inb.map (fun z =>
      if z.src == a && z.xfer == x then { z with credits := min 64 (z.credits + n) } else z) })).sendResp a x 65))

/-- R132, R134, R135, R137, R366, R369: at the home of an event or a semaphore a message that fails the check is refused with its
reason; else a RECORD records, a WAIT_REG is released at once or kept as a proxy, a WAIT_DROP drops it, a SEM_ACQ acquires and a
SEM_REL releases, each with its acknowledgement; at the waiting node a RELEASE meets the waits it covers and a SEM_GRANT the oldest
acquisition, or goes back where nobody waits; an ACK lets the submission of its operation go on, with its SYNC record, and one of a grant
given back changes nothing more; a REFUSE,
which is acknowledged, with reason 2 is repeated a
microsecond later, and one with another reason ends what asked. -/
def Obligations.RemoteHandlesAreServed : Prop :=
  (∀ s t a q h m w r p u c, Acts s t u → NoErrorArmed u → u.evCheck h p = some c →
    Leaves (.recordMessage t a q h m w r p) s (u.send a (.refuse q c h))
    ∧ Leaves (.waitReg t a q h w p) s (u.send a (.refuse q c h)))
  ∧ (∀ s t a q h m w r p u, Acts s t u → NoErrorArmed u → u.evCheck h p = none →
    Leaves (.recordMessage t a q h m w r p) s ((u.recordLocal (evIdx h) m w r).acks a q))
  ∧ (∀ s t a q h w p u e, Acts s t u → NoErrorArmed u → u.evCheck h p = none → Tab.get? u.events (evIdx h) = some e →
    (w.toNat ≤ e.value.toNat → Leaves (.waitReg t a q h w p) s ((u.acks a q).send a (.release h e.value)))
    ∧ (e.value.toNat < w.toNat → e.abandoned = true → Leaves (.waitReg t a q h w p) s (u.send a (.refuse q 3 h)))
    ∧ (e.value.toNat < w.toNat → e.abandoned = false → e.proxies.any (fun z => z.1 == a) = true →
      Leaves (.waitReg t a q h w p) s ((u.updEvent (evIdx h) (fun e => { e with proxies := e.proxies.map (fun z =>
        if z.1 == a && w.toNat < z.2.toNat then (z.1, w) else z) })).acks a q))
    ∧ (e.value.toNat < w.toNat → e.abandoned = false → e.proxies.any (fun z => z.1 == a) = false → u.proxyUsed < 16384 →
      Leaves (.waitReg t a q h w p) s
        ((u.updEvent (evIdx h) (fun e => { e with proxies := e.proxies ++ [(a, w)] })).acks a q))
    ∧ (e.value.toNat < w.toNat → e.abandoned = false → e.proxies.any (fun z => z.1 == a) = false → 16384 ≤ u.proxyUsed →
      Leaves (.waitReg t a q h w p) s ((u.bump .EV_PROXY_FULL 0 0 0 32 1).send a (.refuse q 2 h))))
  ∧ (∀ s t a q h w u, Acts s t u →
    (let met (x : RemoteWait) : Bool := x.handle == h && decide (x.target.toNat ≤ w.toNat)
     Leaves (.release t a q h w) s ((((u.remoteWaits.filter met).foldl (fun (v : State) x => v.waitMet x.f (x.target.toNat % 2 ^ 32))
       { u with remoteWaits := u.remoteWaits.filter (fun x => !met x) }).reRegister h).acks a q)))
  ∧ (∀ s t a q h u, Acts s t u →
    Leaves (.waitDrop t a q h) s
      ((u.updEvent (evIdx h) (fun e => { e with proxies := e.proxies.filter (fun w => w.1 ≠ a) })).acks a q))
  ∧ (∀ s t a q i k c p u r, Acts s t u → NoErrorArmed u → u.semCheck i p = some r →
    Leaves (.semAcq t a q i k c p) s (u.send a (.refuse q r (BitVec.ofNat 32 i)))
    ∧ Leaves (.semRel t a q i k c p) s (u.send a (.refuse q r (BitVec.ofNat 32 i))))
  ∧ (∀ s t a q i k c p u, Acts s t u → NoErrorArmed u → u.semCheck i p = none →
    Leaves (.semAcq t a q i k c p) s ((u.semAcquire i { node := a, f := 0, ctx := c, count := k }).acks a q)
    ∧ Leaves (.semRel t a q i k c p) s ((u.semRelease i c a k).acks a q))
  ∧ (∀ s t a q i k u v c, Acts s t u → v = u.acks a q →
    v.remoteAcqs.find? (fun x => x.home == a && x.index == i && x.count == k) = some c →
    (∀ f, c.f = some f → Leaves (.semGrant t a q i k) s
      ((({ v with remoteAcqs := v.remoteAcqs.erase c }).holdRemote a i c.ctx k).waitMet f k))
    ∧ (c.f = none → Leaves (.semGrant t a q i k) s (({ v with remoteAcqs := v.remoteAcqs.erase c }).send a (.semRel i k c.ctx) none none
        none true)))
  ∧ (∀ s t a q i k u, Acts s t u → (u.acks a q).remoteAcqs.find? (fun x => x.home == a && x.index == i && x.count == k) = none →
    Leaves (.semGrant t a q i k) s (u.acks a q))
  ∧ (∀ s t a q r h u v, Acts s t u → u.remoteOps = [] → v = u.acks a q →
    Leaves (.refuse t a ⟨q, r⟩ 2 h) s { v with remoteWaits := v.remoteWaits.map (fun (w : RemoteWait) =>
      if w.handle == h then { w with retryAt := some (v.ref + 1000) } else w) }
    ∧ (h.getLsbD 16 = false → Leaves (.refuse t a ⟨q, r⟩ 3 h) s (v.failWaits h))
    ∧ (h.getLsbD 16 = true → Leaves (.refuse t a ⟨q, r⟩ 3 h) s (v.failSem a (evIdx h)))
    ∧ Leaves (.refuse t a ⟨q, r⟩ 4 h) s (v.xferEnd h.toNat 0xE)
    ∧ Leaves (.refuse t a ⟨q, r⟩ 6 h) s (v.xferEnd h.toNat 0xD)
    ∧ (∀ y, Tab.get? v.tml.xfers h.toNat = some y →
      Leaves (.refuse t a ⟨q, r⟩ 5 h) s ((v.guiltyTask y.task 8 0).xferDone h.toNat 3)))
  ∧ (∀ s t a q r c h u o g m w b, Acts s t u → u.remoteOps = [o] → o.dest = a → o.seq = r → o.msg = .record g m w b → c < 2 →
    Leaves (.refuse t a ⟨q, r⟩ c h) s (({ u.acks a q with remoteOps := [] }).refusedOp o))
  ∧ (∀ s t a q u o f x h m w r, Acts s t u → u.remoteOps = [o] → o.dest = a → o.seq = q → o.cmd = none → o.f = some f →
    o.msg = .record h m w r → Tab.get? u.flights f = some x →
    Leaves (.ack t a ⟨q, false⟩) s
      (((({ u with remoteOps := [] }).traceSync x x.curHdr (w.toNat % 2 ^ 32)).updFlight f
        (fun x => if x.ending.isSome || x.inTeardown then x else x.advance)).unpark f))
  ∧ (∀ s t a q u o h m w r, Acts s t u → u.remoteOps = [o] → o.dest = a → o.seq = q → o.cmd.isSome = true ∨ o.f = none →
    o.msg = .record h m w r → Leaves (.ack t a ⟨q, false⟩) s { u with remoteOps := [] })
  ∧ (∀ s t a q u o f x i n c, Acts s t u → u.remoteOps = [o] → o.dest = a → o.seq = q → o.cmd = none → o.f = some f → o.back = false →
    o.msg = .semRel i n c →
    (let v := ((({ u with remoteOps := [] }).unholdRemote a i c n).dropEdges (fun e => e.holder == c && e.home == a && e.index == i))
     Tab.get? v.flights f = some x →
     Leaves (.ack t a ⟨q, false⟩) s
       (((v.traceSync x x.curHdr n).updFlight f (fun x => if x.ending.isSome || x.inTeardown then x else x.advance)).unpark f)))
  ∧ (∀ s t a q u o i n c, Acts s t u → u.remoteOps = [o] → o.dest = a → o.seq = q → o.back = true → o.msg = .semRel i n c →
    Leaves (.ack t a ⟨q, false⟩) s { u with remoteOps := [] })
  ∧ (∀ s t a r u, Acts s t u → u.remoteOps = [] ∨ r.flood = true → Leaves (.ack t a r) s u)

/-- R131, R138, R340, R341, R348, R370, R377 to R382: the lead's heartbeat moves the moment from which its loss counts; a loss, a leave
and a LEAD act once, are forwarded once and acknowledged to their origin, a leave that names this node dissolves its island here, and a
LEAD that names this node makes it a member; the lead grants a position that is not
live; a grant names the joining node; a member installs a session key that its node key unwraps; HELLO and PROOF make a node key; the
lead beats every 5 µs; 20 µs without one lose it; the settle window ends in time; a planned leave ends what waits and has 1 ms. -/
def Obligations.MembersKeepTheirLead : Prop :=
  (∀ s t a q n d u, Runs s t u → u.tml.seen.contains (a, q) = true →
    LeavesLink (.heartbeat t a q n d) s u u ∧ (∀ p c, LeavesLink (.lost t a q n ⟨p, c⟩) s u u) ∧ LeavesLink (.leaveMessage t a q n) s u u
    ∧ (∀ l up dep, LeavesLink (.lead t a q l up dep) s u u))
  ∧ (∀ s t a q n d u v, Runs s t u → u.tml.seen.contains (a, q) = false → u.member = true → n = u.leadNode →
    v = (u.flooded a q (.heartbeat n d)).2 → LeavesLink (.heartbeat t a q n d) s u (v.setTml (fun m => { m with hbAt := v.ref })))
  ∧ (∀ s t a q n d u, Runs s t u → u.tml.seen.contains (a, q) = false → u.member = false ∨ n ≠ u.leadNode →
    LeavesLink (.heartbeat t a q n d) s u (u.flooded a q (.heartbeat n d)).2)
  ∧ (∀ s t a q n p u, Runs s t u → u.tml.seen.contains (a, q) = false →
    LeavesLink (.lost t a q n ⟨p, none⟩) s u ((u.flooded a q (.lost n p none)).2.noteLoss n p))
  ∧ (∀ s t a q n p c u, Runs s t u → u.tml.seen.contains (a, q) = false → n ≠ u.node →
    LeavesLink (.lost t a q n ⟨p, some c⟩) s u ((u.flooded a q (.lost n p (some c))).2.homeCtxGone c n))
  ∧ (∀ s t a q n u, Runs s t u → u.tml.seen.contains (a, q) = false →
    (let v := (u.flooded a q (.leave n)).2
     (n = v.node → a ≠ n → v.member = true → LeavesLink (.leaveMessage t a q n) s u v.dissolveHere)
     ∧ (n ≠ v.node ∨ a = n ∨ v.member = false → LeavesLink (.leaveMessage t a q n) s u (v.noteLoss n none))))
  ∧ (∀ s t a q l up dep u, Runs s t u → u.tml.seen.contains (a, q) = false → l.getLsbD u.posn = false →
    LeavesLink (.lead t a q l up dep) s u (u.flooded a q (.lead l up dep)).2)
  ∧ (∀ s t a q l up dep u, Runs s t u → u.tml.seen.contains (a, q) = false → l.getLsbD u.posn = true → a < 16 → a ≠ u.posn →
    u.member = true ∨ u.tml.granted = true →
    LeavesLinkSome (.lead t a q l up dep) s u (fun v => v.member = true ∧ v.leadNode = a ∧ v.isLead = false))
  ∧ (∀ s t a q i n u, Runs s t u → u.isLead = true → n < 16 → i.toNat = u.rf .TML_CFG 0 0 32 32 → u.nodeUp n = false →
    LeavesLink (.joinReq t a q i n) s u
      (((u.acks a q).setTml (fun m => { m with joining := m.joining ++ [n] })).send n (.joinGrant i n)))
  ∧ (∀ s t a q i n u, Runs s t u → u.isLead = true → n < 16 → i.toNat = u.rf .TML_CFG 0 0 32 32 → u.nodeUp n = true →
    LeavesLink (.joinReq t a q i n) s u ((u.send a (.refuse q 7 0)).leadRec 4 n))
  ∧ (∀ s t a q i n u, Runs s t u → u.isLead = false → LeavesLink (.joinReq t a q i n) s u u)
  ∧ (∀ s t a q i n u, Runs s t u → u.member = false → u.tml.granted = false → i.toNat = u.rf .TML_CFG 0 0 32 32 →
    LeavesLink (.joinGrant t a q i n) s u
      (((u.setF .TML_STAT 0 0 6 4 a).setTml (fun m => { m with pos := n, granted := true, stepped := false, goodEx := 0 })).acks a q))
  ∧ (∀ s t a q f m u, Runs s t u → LeavesLink (.key t a q f m) s u
    (match (Tab.get? u.tml.nodeKeys a).bind (fun n => Config.keyUnwrap n m.wrapped) with
      | some key => ((u.setF .SEC_FT f 0 0 16 m.members.toNat).installFt f m.epoch key).acks a q
      | none => u))
  ∧ (∀ s t a q r k c ok u, Runs s t u → u.esFailed = false → a ≠ u.posn →
    LeavesLinkSome (.nodeKex t a q (.hello r k c) ok) s u (fun v =>
      Tab.get? v.tml.kexTheirs a = some { rand := r, pub := k } ∧ (Tab.get? v.tml.kexMine a).isSome = true))
  ∧ (∀ s t a q r k c ok u, Runs s t u → u.esFailed = true → a ≠ u.posn → Tab.get? u.tml.kexMine a = none →
    LeavesLinkSome (.nodeKex t a q (.hello r k c) ok) s u (fun v => a ∈ v.tml.kexWait ∧ Tab.get? v.tml.kexMine a = none))
  ∧ (∀ s t a q g u e h, Runs s t u → Tab.get? u.tml.kexMine a = some e → Tab.get? u.tml.kexTheirs a = some h →
    (u.isLead = false → LeavesLinkSome (.nodeKex t a q (.proof g) true) s u (fun v =>
      Tab.get? v.tml.nodeKeys a = some (e.nodeKey h) ∧ Tab.get? v.tml.kexMine a = none))
    ∧ LeavesLinkSome (.nodeKex t a q (.proof g) false) s u (fun v =>
      v.tml.nodeKeys = u.tml.nodeKeys ∧ Tab.get? v.tml.kexMine a = none))
  ∧ (∀ s t a q g ok u, Runs s t u → Tab.get? u.tml.kexMine a = none → LeavesLink (.nodeKex t a q (.proof g) ok) s u (u.acks a q))
  ∧ (∀ s t u, Runs s t u → u.isLead = true → u.tml.hbAt + 5000 ≤ u.ref →
    LeavesLink (.heartbeatTick t) s u ((u.draw.2.setTml (fun m => { m with hbAt := u.ref })).broadcast (.heartbeat u.node u.draw.1)))
  ∧ (∀ s t u, Runs s t u → u.isLead = false ∨ u.ref < u.tml.hbAt + 5000 → LeavesLink (.heartbeatTick t) s u u)
  ∧ (∀ s t u, Runs s t u → u.member = true → u.isLead = false → u.tml.oldLead = none → u.tml.hbAt + 20000 ≤ u.ref →
    LeavesLink (.leadLossTimeout t) s u ((u.leadLost.broadcast (.lost u.leadNode none none)).dropNode u.leadNode))
  ∧ (∀ s t u, Runs s t u → u.ref < u.tml.hbAt + 20000 → LeavesLink (.leadLossTimeout t) s u u)
  ∧ (∀ s t u a, Runs s t u → u.tml.settle = some a → a ≤ u.ref → u.member = true → u.tml.oldLead = none →
    (∀ n, n < 16 → u.nodeUp n = true → u.reachable n = true) →
    (u.isLead = false → LeavesLink (.settleWindowEnd t) s u (u.setTml (fun m => { m with settle := none, oldLead := none })).treeUpdate)
    ∧ (u.isLead = true →
      LeavesLink (.settleWindowEnd t) s u (u.setTml (fun m => { m with settle := none, oldLead := none })).treeUpdate.sendLead))
  ∧ (∀ s t u a, Runs s t u → u.tml.settle = some a → u.ref < a → LeavesLink (.settleWindowEnd t) s u u)
  ∧ (∀ s t u, Writes s t .mgmt .glob u → u.member = true → u.tml.leaveAt = none →
    Leaves (.plannedLeave t .mgmt) s
      (((u.tasks.filter (fun e => e.2.cls == .link && e.2.phase == .ready)).map (·.1)).foldl
        (fun v k => (v.dropDue (fun d => d.task == k)).endUnlaunched k 0xD)
        (u.setTml (fun m => { m with leaveAt := some (u.ref + 1000000) }))))
  ∧ (∀ s t u a, Runs s t u → u.tml.leaveAt = some a → a ≤ u.ref → u.tml.inb = [] → u.tml.xfers = [] →
    LeavesLink (.leaveTransferLimit t) s u u.finishLeave)
  ∧ (∀ s t u a, Runs s t u → u.tml.leaveAt = some a → u.ref < a → LeavesLink (.leaveTransferLimit t) s u u)

/-- R371, R373 to R375, R405: an announced epoch is taken from the lead alone, and starts once, at its time; it may announce a
tenant's new key, which is then the one in use; the lead announces the next, a period after the last accepted edge where it follows
vsync; a member extrapolates by the last period; an AT of time zero acts at once, one whose time has passed at once and late, one of a
time to come is armed and acts when it comes; a time frame of a port that is not the parent's changes nothing, a member slews by the
offset that one of its parent gives, a joining node steps once, and 16 exchanges in a row within 4 ns lock the time. -/
def Obligations.FabricTimeIsKept : Prop :=
  (∀ s t a q b p u, Runs s t u → u.tml.seen.contains (a, q) = false → u.member = true → a = u.leadNode →
    (let v := ((u.flooded a q (.epoch b p)).2.epochStart.setReg .TML_EPOCH 0 0 (BitVec.ofNat 64 b)).setTml
       (fun m => { m with epochPeriod := p.period })
     (p.key = none → LeavesLink (.epoch t a q b p) s u v)
     ∧ (∀ k, p.key = some k → LeavesLink (.epoch t a q b p) s u (v.announced k.1 k.2))))
  ∧ (∀ (u : State) f e, Tab.get? u.sec.nextEpoch f = some e → u.rb .SEC_FT f 0 19 = true → e < 2 ^ 16 →
    (u.announced f e).rf .SEC_FT f 0 32 16 = e ∧ (u.announced f e).rb .SEC_FT f 0 20 = true
    ∧ Tab.get? (u.announced f e).sec.nextEpoch f = none
    ∧ (∀ o, Tab.get? u.sec.oldKeys f = some o → Tab.get? (u.announced f e).sec.oldKeys f = some (some (u.ref + 100000), o.2)))
  ∧ (∀ s t a q b p u, Runs s t u → u.tml.seen.contains (a, q) = true → LeavesLink (.epoch t a q b p) s u u)
  ∧ (∀ s t a q b p u, Runs s t u → a ≠ u.leadNode → u.tml.seen.contains (a, q) = false →
    LeavesLink (.epoch t a q b p) s u (u.flooded a q (.epoch b p)).2)
  ∧ (∀ s t a q k u, Runs s t u → u.tml.seen.contains (a, q) = false → 1 ≤ k → k ≤ 4 →
    LeavesLink (.atMessage t a q 0 k) s u ((u.flooded a q (.atMsg 0 k)).2.atAct k))
  ∧ (∀ s t a q b k u, Runs s t u → u.tml.seen.contains (a, q) = false → 1 ≤ k → k ≤ 4 → 0 < b → b ≤ u.now →
    LeavesLink (.atMessage t a q b k) s u (((u.flooded a q (.atMsg b k)).2.bump .TML_TIME_STAT 0 0 40 16 1).atAct k))
  ∧ (∀ s t a q b k u, Runs s t u → u.tml.seen.contains (a, q) = false → 1 ≤ k → k ≤ 4 → u.now < b →
    LeavesLink (.atMessage t a q b k) s u
      ((u.flooded a q (.atMsg b k)).2.setTml (fun m => { m with atActs := m.atActs ++ [(b, k)] })))
  ∧ (∀ s t a q b k u, Runs s t u → u.tml.seen.contains (a, q) = true → LeavesLink (.atMessage t a q b k) s u u)
  ∧ (∀ s t a u, Runs s t u → u.tml.atActs.find? (fun a => a.1 ≤ u.now) = some a →
    LeavesLink (.atTimeReached t) s u ((u.setTml (fun m => { m with atActs := m.atActs.erase a })).atAct a.2))
  ∧ (∀ s t u, Runs s t u → u.tml.atActs.find? (fun a => a.1 ≤ u.now) = none → LeavesLink (.atTimeReached t) s u u)
  ∧ (∀ s t u, Runs s t u → u.reg .TML_EPOCH ≠ BitVec.allOnes 64 → (u.reg .TML_EPOCH).toNat ≤ u.now →
    u.tml.epochDone ≠ some (u.reg .TML_EPOCH).toNat →
    LeavesLink (.epochStart t) s u
      ((u.setTml (fun m => { m with epochDone := some (u.reg .TML_EPOCH).toNat })).epochEdge (u.reg .TML_EPOCH).toNat))
  ∧ (∀ s t u, Runs s t u → u.now < (u.reg .TML_EPOCH).toNat → LeavesLink (.epochStart t) s u u)
  ∧ (∀ s t u, Runs s t u → u.isLead = true → u.epochsOn = true → u.rb .TML_EPOCH_CFG 0 0 40 = false →
    (u.reg .TML_EPOCH ≠ BitVec.allOnes 64 → (u.reg .TML_EPOCH).toNat ≤ u.now →
      LeavesLinkSome (.epochTick t) s u (fun v =>
        v.reg .TML_EPOCH = BitVec.ofNat 64 ((u.reg .TML_EPOCH).toNat + u.rf .TML_EPOCH_CFG 0 0 0 40)
        ∧ v.tml.epochPeriod = u.rf .TML_EPOCH_CFG 0 0 0 40))
    ∧ (u.reg .TML_EPOCH = BitVec.allOnes 64 →
      LeavesLinkSome (.epochTick t) s u (fun v => v.reg .TML_EPOCH = BitVec.ofNat 64 (u.now + u.rf .TML_EPOCH_CFG 0 0 0 40)
        ∧ v.tml.epochPeriod = u.rf .TML_EPOCH_CFG 0 0 0 40)))
  ∧ (∀ s t u e, Runs s t u → u.isLead = true → u.epochsOn = true → u.rb .TML_EPOCH_CFG 0 0 40 = true →
    (u.reg .TML_EPOCH = BitVec.allOnes 64 → LeavesLink (.epochTick t) s u u)
    ∧ (u.reg .TML_EPOCH ≠ BitVec.allOnes 64 → (u.reg .TML_EPOCH).toNat ≤ u.now → u.tml.vsyncAt = some e →
      (u.reg .TML_EPOCH).toNat < e + u.rf .TML_EPOCH_CFG 0 0 0 40 →
      LeavesLinkSome (.epochTick t) s u (fun v => v.reg .TML_EPOCH = BitVec.ofNat 64 (e + u.rf .TML_EPOCH_CFG 0 0 0 40)
        ∧ v.tml.epochPeriod = u.rf .TML_EPOCH_CFG 0 0 0 40)))
  ∧ (∀ s t u, Runs s t u → u.isLead = false ∨ u.epochsOn = false → LeavesLink (.epochTick t) s u u)
  ∧ (∀ s t u, Runs s t u → u.member = true → u.isLead = false → u.reg .TML_EPOCH ≠ BitVec.allOnes 64 →
    (u.reg .TML_EPOCH).toNat ≤ u.now → u.tml.epochPeriod ≠ 0 →
    LeavesLink (.epochExtrapolate t) s u
      (u.epochStart.setReg .TML_EPOCH 0 0 (BitVec.ofNat 64 ((u.reg .TML_EPOCH).toNat + u.tml.epochPeriod))))
  ∧ (∀ s t p a b c d u, Runs s t u → u.portState p ≠ 3 ∨ (u.member = true ∧ u.rf .TML_TIME_STAT 0 0 2 2 ≠ p) →
    LeavesLink (.timeFrame t p a b c d) s u u)
  ∧ (∀ s t p a u, Runs s t u → u.portState p = 3 → u.member = true → u.isLead = false → u.rf .TML_TIME_STAT 0 0 2 2 = p →
    u.rf .TML_TIME_CAL 0 0 (8 * p) 8 = 0 → u.rb .TML_TIME_STAT 0 0 0 = false → u.tml.goodEx = 15 → p < 4 →
    LeavesLinkSome (.timeFrame t p a a a a) s u (fun v => v.rb .TML_TIME_STAT 0 0 0 = true ∧ v.tml.goodEx = 16 ∧ v.now = u.now))
  ∧ (∀ s t p t1 t2 t3 t4 u, Runs s t u → u.portState p = 3 → u.member = true → u.isLead = false → u.rf .TML_TIME_STAT 0 0 2 2 = p →
    LeavesLinkSome (.timeFrame t p t1 t2 t3 t4) s u (fun v => v.now = u.now ∧ v.tml.slew = Config.offsetRound
      (16 * ((t2 - t1) - (t4 - t3)) - 2 * (BitVec.ofNat 8 (u.rf .TML_TIME_CAL 0 0 (8 * p) 8)).toInt)))
  ∧ (∀ s t p t1 t2 t3 t4 u, Runs s t u → u.portState p = 3 → u.member = false → u.tml.granted = true → u.tml.stepped = false →
    LeavesLinkSome (.timeFrame t p t1 t2 t3 t4) s u (fun v => v.tml.stepped = true ∧ v.tml.goodEx = 0 ∧ v.now =
      ((u.now : Int) + Config.offsetRound
        (16 * ((t2 - t1) - (t4 - t3)) - 2 * (BitVec.ofNat 8 (u.rf .TML_TIME_CAL 0 0 (8 * p) 8)).toInt)).toNat))

/-! ## Interrupts, observation, microcode (chapters 12 to 14) -/

/-- R386, R389, R390, R396: a read of IRQ_CLAIM takes the lowest claimable source, or answers 0xFFFF; EOI and the line mask move the
line; the map refuses a device source outside F0's view; an unquenched source counts anew; a window's end forgets its counts; a
message that MSI-X held back leaves as the last of its two masks clears, unless the line has fallen before. -/
def Obligations.InterruptsAreClaimedAndMasked : Prop :=
  (∀ s t n u i, Reads s t (.fn n) (.own n) .IRQ_CLAIM u → u.claimNow n = some i →
    Leaves (.irqClaim t n) s ((((u.clearPend i).setB .IRQ_STAT n 0 1 true).updLine n).emit (.regData (.fn n) (BitVec.ofNat 64 i))))
  ∧ (∀ s t n u, Reads s t (.fn n) (.own n) .IRQ_CLAIM u → u.claimNow n = none →
    Leaves (.irqClaim t n) s (u.emit (.regData (.fn n) 0xFFFF)))
  ∧ (∀ s t n u, Writes s t (.fn n) (.own n) u → u.rb .IRQ_STAT n 0 1 = true →
    Leaves (.irqEoi t n) s ((u.setB .IRQ_STAT n 0 1 false).updLine n))
  ∧ (∀ s t n u, Writes s t (.fn n) (.own n) u → u.rb .IRQ_STAT n 0 1 = false → Leaves (.irqEoi t n) s u)
  ∧ (∀ s t n m u, Writes s t (.fn n) (.own n) u → Leaves (.irqLineMaskWrite t n m) s ((u.setB .IRQ_LINE_MASK n 0 0 m).updLine n))
  ∧ (∀ s t who n v w u, Writes s t who .glob u → n ≠ 0 → fld w 0 9 < 64 → bitOf w 9 = true →
    Leaves (.irqMapWrite t who n v w) s (u.setB .IRQ_GSTAT 0 0 0 true))
  ∧ (∀ s t who n v w u x, Writes s t who .glob u → bitOf w 9 = false → u.mapped n v = none →
    x = mkWord [(0, 9, fld w 0 9), (9, 1, 0)] →
    (u.reg .IRQ_MAP n v = x → Leaves (.irqMapWrite t who n v w) s (((u.setReg .IRQ_MAP n v x).updQuenched n).updLine n))
    ∧ (u.reg .IRQ_MAP n v ≠ x → Leaves (.irqMapWrite t who n v w) s ((({ u with irq := { u.irq with
        mapAt := u.ref, mapWas := u.mapJust ++ [(n, v, u.reg .IRQ_MAP n v)] } }.setReg .IRQ_MAP n v x).updQuenched n).updLine n)))
  ∧ (∀ s t who i u, Writes s t who .glob u → (∀ k, u.quenched k = false) → Leaves (.irqUnquench t who i) s u)
  ∧ (∀ s t who i u, Writes s t who .glob u → i < 512 → u.quenched i = true → u.viewOf i = none → u.justRaised i = false →
    LeavesSome (.irqUnquench t who i) s (fun v => v.quenched i = false ∧ Tab.get? v.irq.storm i = none ∧ v.out = u.out))
  ∧ (∀ s t u, Runs s t u → Leaves (.stormWindow t) s { u with irq := { u.irq with storm := [] } })
  ∧ (∀ s t n m u, Runs s t u → n < 64 → m.masked = false → u.irq.msixPend.getLsbD n = true →
    (m.fnMask = true → u.irq.msixMask.getLsbD n = false) → (m.fnMask = false → u.irq.msixFnMask.getLsbD n = false) →
    LeavesSome (.msiXMaskWrite t n m) s (fun v => v.out = (if u.mayMessage n then u.out ++ [.irq n] else u.out)
      ∧ v.irq.msixPend.getLsbD n = false ∧ v.msixMasked n = false ∧ v.regs = u.regs))
  ∧ (∀ s t n m u, Runs s t u → n < 64 → m.masked = false → u.irq.msixPend.getLsbD n = true →
    (m.fnMask = true → u.irq.msixMask.getLsbD n = true) → (m.fnMask = false → u.irq.msixFnMask.getLsbD n = true) →
    LeavesSome (.msiXMaskWrite t n m) s (fun v => v.out = u.out ∧ v.irq.msixPend = u.irq.msixPend ∧ v.regs = u.regs))
  ∧ (∀ s t n m u, Runs s t u → n < 64 → m.masked = true →
    LeavesSome (.msiXMaskWrite t n m) s (fun v => v.out = u.out ∧ v.msixMasked n = true ∧ v.irq.msixPend = u.irq.msixPend
      ∧ (if m.fnMask then v.irq.msixFnMask else v.irq.msixMask).getLsbD n = true
      ∧ (if m.fnMask then v.irq.msixMask = u.irq.msixMask else v.irq.msixFnMask = u.irq.msixFnMask) ∧ v.regs = u.regs))
  ∧ (∀ (u : State) n, n < 64 → u.rb .IRQ_STAT n 0 0 = true → u.lineLevel n = false → u.irq.msixPend.getLsbD n = true →
    (u.updLine n).irq.msixPend.getLsbD n = false ∧ (u.updLine n).out = u.out)

/-- R398, R401, R403 to R405, R409, R426, R427: a freeze on request is taken; while one is locked those of one moment are missed and
counted once, or add their cause to one of the same moment; the record of a freeze comes once its moment is over; CLEAR
zeroes the counters; an armed time freezes when it comes; the trace allowance is whole again with each window; a hang graph is
snapshotted, copied when it is built, and its buffer released; a configured counter starts at zero. -/
def Obligations.CountersFreezeAndGraphsAreBuilt : Prop :=
  (∀ s t who u, Writes s t who .glob u → Leaves (.freezeGo t who) s (u.freeze 1))
  ∧ (∀ s t who u w, Writes s t who .glob u → w = u.freezePoll →
    (w.obs.frozenAt = some w.ref →
      Leaves (.freezeGo t who) s (w.setF .OBS_FREEZE_STAT 0 0 16 4 (w.rf .OBS_FREEZE_STAT 0 0 16 4 ||| 1)))
    ∧ (w.obs.frozenAt ≠ some w.ref → w.rb .OBS_FREEZE_CTL 0 0 2 = true → w.obs.missedAt ≠ some w.ref →
      Leaves (.freezeGo t who) s
        (({ w with obs := { w.obs with missedAt := some w.ref } }).bump .OBS_FREEZE_STAT 0 0 32 16 1))
    ∧ (w.obs.frozenAt ≠ some w.ref → w.rb .OBS_FREEZE_CTL 0 0 2 = true → w.obs.missedAt = some w.ref →
      Leaves (.freezeGo t who) s w))
  ∧ (∀ (u : State) n, u.obs.freezeRec = some n → u.obs.frozenAt ≠ some u.ref →
    u.freezePoll = ({ u with obs := { u.obs with freezeRec := none } }).traceDevAt n 0x14 (u.rf .OBS_FREEZE_STAT 0 0 0 20))
  ∧ (∀ (u : State), (u.obs.freezeRec = none ∨ u.obs.frozenAt = some u.ref) → u.freezePoll = u)
  ∧ (∀ s t who u, Writes s t who .glob u →
    LeavesSome (.counterClear t who) s (fun v => (∀ i, i < 0x400 → v.reg .OBS_CNT i = resetWord .OBS_CNT i 0) ∧ v.out = u.out
      ∧ v.tasks = u.tasks))
  ∧ (∀ s t who u, Writes s t who .glob u → Leaves (.freezeUnlock t who) s (u.setB .OBS_FREEZE_CTL 0 0 2 false))
  ∧ (∀ s t who v u, Writes s t who .glob u → v ≠ BitVec.allOnes 64 → u.rb .OBS_FREEZE_CTL 0 0 4 = false → u.now < v.toNat →
    Leaves (.freezeArm t who v) s ((u.setReg .OBS_FREEZE_AT 0 0 v).setB .OBS_FREEZE_STAT 0 0 20 true))
  ∧ (∀ s t u, Runs s t u → u.rb .OBS_FREEZE_STAT 0 0 20 = true → (u.reg .OBS_FREEZE_AT).toNat ≤ u.now →
    Leaves (.freezeTimeReached t) s ((u.setB .OBS_FREEZE_STAT 0 0 20 false).freeze 2))
  ∧ (∀ s t u, Runs s t u → u.rb .OBS_FREEZE_STAT 0 0 20 = false → Leaves (.freezeTimeReached t) s u)
  ∧ (∀ s t u, Runs s t u → Leaves (.traceCapWindow t) s { u with obs := { u.obs with winUsed := 0 } })
  ∧ (∀ s t who u, Writes s t who .glob u → u.rb .OBS_HANG_STAT 0 0 1 = false → u.rb .OBS_HANG_STAT 0 0 0 = false →
    LeavesSome (.hangGraphRequest t who) s (fun v => v.rb .OBS_HANG_STAT 0 0 1 = true ∧ v.obs.graph.isSome = true ∧ v.out = u.out))
  ∧ (∀ s t who u, Writes s t who .glob u → u.rb .OBS_HANG_STAT 0 0 0 = true →
    Leaves (.hangGraphRequest t who) s (u.bump .OBS_HANG_STAT 0 0 16 16 1))
  ∧ (∀ s t u, Acts s t u → u.obs.graph = none → ∀ b, Leaves (.hangGraphBuilt t b) s u)
  ∧ (∀ s t u g, Acts s t u → u.obs.graph = some g →
    LeavesSome (.hangGraphBuilt t true) s (fun v => v.rb .OBS_HANG_STAT 0 0 3 = true ∧ v.rb .OBS_HANG_STAT 0 0 1 = false
      ∧ v.obs.graph = none ∧ v.out = u.out)
    ∧ (let w := (({ u with obs := { u.obs with graph := none } }).setB .OBS_HANG_STAT 0 0 1 false).setB .OBS_HANG_STAT 0 0 2
          (bitOf (nth g.1 0 0) 52)
       Leaves (.hangGraphBuilt t false) s
         ((((w.writeMem (w.forFn 0) (w.reg .OBS_HANG_DEST) g.1).setF .OBS_HANG_STAT 0 0 32 16 g.2).setB .OBS_HANG_STAT 0 0 0 true).raise 8)))
  ∧ (∀ s t who u, Writes s t who .glob u → Leaves (.hangBufferRelease t who) s (u.setB .OBS_HANG_STAT 0 0 0 false))
  ∧ (∀ s t who j v u, Writes s t who .glob u → j < 512 →
    LeavesSome (.pcfgWrite t who j v) s (fun w => w.reg .OBS_PCFG j = v &&& 0x0000FFFF01FFFFFF ∧ w.reg .OBS_CNT (512 + j) = 0
      ∧ w.out = u.out))

/-- R418, R419, R422, R423: a global stop shows its cause and time, stops every engine that is present and raises source 20; a soft
stop halts the front end; a global stop after the double-fault halt opens the scan image and does nothing else; neither is taken
without EN; a soft stop that a global stop has overtaken does not resume; scan-out
writes the image to the buffer and shows its size, or shows the fault. -/
def Obligations.StopsAreTakenAndScannedOut : Prop :=
  (∀ s t u, Writes s t .mgmt .glob u → u.rb .OBS_STOP_CFG 0 0 0 = true → u.gstopped = false → u.haltedAll = false →
    u.mcs.load = none → u.rb .OBS_STOP_CFG 0 0 2 = false →
    (let v := (((u.emits (u.presentEngines.map (fun e => Emit.ctl e.1 e.2 .stop 0))).setB .OBS_STOP_STAT 0 0 0 true).setF
        .OBS_STOP_STAT 0 0 3 4 1).setReg .OBS_STOP_TIME 0 0 (BitVec.ofNat 64 u.now)
     Leaves (.globalStop t .mgmt) s ((v.raise 20).when (v.raise 20).gstopped (fun s => s.traceDev 0x15 0))))
  ∧ (∀ s t u, Writes s t .mgmt .glob u → u.rb .OBS_STOP_CFG 0 0 0 = false →
    Leaves (.globalStop t .mgmt) s u ∧ Leaves (.softStop t .mgmt) s u)
  ∧ (∀ s t u, Writes s t .mgmt .glob u → u.rb .OBS_STOP_CFG 0 0 0 = true → u.gstopped = false → u.haltedAll = true →
    Leaves (.globalStop t .mgmt) s { u with obs := { u.obs with haltStop := true } }
    ∧ ({ u with obs := { u.obs with haltStop := true } } : State).scanReady = true)
  ∧ (∀ s t u, Writes s t .mgmt .glob u → u.gstopped = true → Leaves (.globalStop t .mgmt) s u
    ∧ Leaves (.softStop t .mgmt) s u ∧ Leaves (.softStopResume t .mgmt) s u)
  ∧ (∀ s t u, Writes s t .mgmt .glob u → Leaves (.softStop t .mgmt) s (u.softStop 1))
  ∧ (∀ s t u, Writes s t .mgmt .glob u → u.sstopped = true → u.gstopped = false → u.rb .OBS_STOP_CFG 0 0 2 = false →
    (let v := ((u.setB .OBS_STOP_STAT 0 0 1 false).setB .OBS_STOP_STAT 0 0 2 false).traceDev 0x15 3
     Leaves (.softStopResume t .mgmt) s (if v.regrowing then v else v.acceptAll.doDeferred)))
  ∧ (∀ s t u, Writes s t .mgmt .glob u → u.sstopped = false → Leaves (.softStopResume t .mgmt) s u)
  ∧ (∀ s t n u, Writes s t (.fn n) .glob u → Leaves (.globalStop t (.fn n)) s u ∧ Leaves (.softStop t (.fn n)) s u
    ∧ Leaves (.softStopResume t (.fn n)) s u)
  ∧ (∀ s t u, u = s.at t → u.scanReady = true → u.rb .OBS_STOP_CFG 0 0 1 = true → u.rb .OBS_STOP_STAT 0 0 7 = false →
    u.rb .OBS_STOP_STAT 0 0 9 = false →
    LeavesSome (.scanOutComplete t true) s (fun v => v.rb .OBS_STOP_STAT 0 0 9 = true ∧ v.rb .OBS_STOP_STAT 0 0 7 = false
      ∧ v.rf .OBS_STOP_STAT 0 0 32 32 = u.scanBytes % 2 ^ 32 ∧ v.gstopped = u.gstopped)
    ∧ ((∀ k, 64 * k < u.scanBytes → 64 * k < u.rf .OBS_SCAN_SIZE 0 0 0 40 →
        u.portOf (u.reg .OBS_SCAN_BASE + BitVec.ofNat 64 (64 * k)) = .host) →
      LeavesSome (.scanOutComplete t false) s (fun v => v.rb .OBS_STOP_STAT 0 0 9 = false ∧ v.rb .OBS_STOP_STAT 0 0 7 = true
        ∧ v.rb .OBS_STOP_STAT 0 0 8 = decide (u.rf .OBS_SCAN_SIZE 0 0 0 40 < u.scanBytes)
        ∧ v.rf .OBS_STOP_STAT 0 0 32 32 = u.scanBytes % 2 ^ 32)))
  ∧ (∀ s t b, (s.at t).scanReady = false → Leaves (.scanOutComplete t b) s (s.at t))

/-- R432 to R437, R440, R444: a word acts on what it reads; a word of bad parity regrows with cause 2; a word that acts through its
FLOW alone branches, calls, returns, ends or faults; the handshakes of a word have the effect of Table 14-6; a customer routine that
has used its 4,096 words is a guilty fault; nothing happens where the sequencer does not fetch, or fetches another kind of word. -/
def Obligations.MicrowordsAct : Prop :=
  (∀ s t n rom w u, Fetches s t n rom (fun _ => true) w u →
    Leaves (.microword t n rom) s (u.microAct n (u.fetchAt (u.seqr n).pc) (u.seqFlight n) w .none))
  ∧ (∀ s t n rom u, s.takesWork = true → u = s.at t → u.microRuns n = true →
    parityOk (u.fetched (u.fetchAt (u.seqr n).pc) rom) = false → u.regrow.injParity = [] →
    Leaves (.microword t n rom) s (u.startRegrow { cause := 2, seqr := n, addr := u.fetchAt (u.seqr n).pc } []))
  ∧ (∀ s t n rom w u, Fetches s t n rom (fun _ => true) w u → FlowOnly w (u.seqr n) → mwFlow w = 0 →
    (let q := u.worded n
     Leaves (.microword t n rom) s (u.setSeqr n { q with pc := branchTo (mwf w 0 16) (branchBits q
       (match u.seqFlight n with | some e => e.2.k | none => []) (mwf w 16 4)) })))
  ∧ (∀ s t n rom w u, Fetches s t n rom (fun w => mwFlow w == 1) w u → FlowOnly w (u.seqr n) → (u.seqr n).stack.length < 8 →
    mwf w 16 4 = 0 →
    (let q := u.worded n
     Leaves (.microCall t n rom) s (u.setSeqr n { q with pc := mwf w 0 16, stack := q.stack ++ [mwf w 64 16] })))
  ∧ (∀ s t n rom w u r, Fetches s t n rom (fun w => mwFlow w == 2) w u → FlowOnly w (u.seqr n) → (u.seqr n).stack.getLast? = some r →
    (let q := u.worded n
     Leaves (.microRet t n rom) s (u.setSeqr n { q with pc := r, stack := q.stack.dropLast })))
  ∧ (∀ s t n rom w u, Fetches s t n rom (fun w => mwFlow w == 3) w u → FlowOnly w (u.seqr n) → u.inCustomer n = false →
    Leaves (.microEnd t n rom) s (u.setSeqr n { pc := (u.seqr n).back }))
  ∧ (∀ s t n rom w u f x c, Fetches s t n rom (fun w => mwFlow w == 3) w u → FlowOnly w (u.seqr n) → u.inCustomer n = true →
    u.seqFlight n = some (f, x) → x.call = some c →
    Leaves (.microEnd t n rom) s (((u.setSeqr n { pc := (u.seqr n).back }).updFlight f (fun y => match y.call with
      | some c => { y with c := (u.worded n).c, lastLayer := hdrLayer c.hdr, lastOp := hdrOper c.hdr }.leaveCall
      | none => y)).settle f))
  ∧ (∀ s t n rom w u f, Fetches s t n rom (fun w => mwFlow w == 4) w u → FlowOnly w (u.seqr n) → u.seqFlight n = some f →
    Leaves (.microFault t n rom) s ((u.setSeqr n { pc := (u.seqr n).back }).guilty f.1 5 none 0))
  ∧ (∀ s t n u f, Fronts s t u → u.inCustomer n = true → 4096 ≤ (u.seqr n).count → u.seqFlight n = some f →
    Leaves (.microwordLimit t n) s (u.guilty f.1 5 none 0))
  ∧ (∀ s t n u, Fronts s t u → (u.seqr n).count < 4096 → Leaves (.microwordLimit t n) s u)
  ∧ (∀ s t n rom w u, Fetches s t n rom (mwHop 1 0) w u →
    Leaves (.issue t n rom) s (u.microAct n (u.fetchAt (u.seqr n).pc) (u.seqFlight n) w .none))
  ∧ (∀ s t n rom w u m, Fetches s t n rom (mwHop 2 1) w u →
    Leaves (.mrd t n rom m) s (u.microAct n (u.fetchAt (u.seqr n).pc) (u.seqFlight n) w (.mem m)))
  ∧ (∀ s t n rom w u m, Fetches s t n rom (mwHop 2 2) w u →
    Leaves (.evrd t n rom m) s (u.microAct n (u.fetchAt (u.seqr n).pc) (u.seqFlight n) w (evIn m)))
  ∧ (∀ s t n rom w u, Fetches s t n rom (mwHop 2 3) w u →
    Leaves (.timeChannel t n rom) s (u.microAct n (u.fetchAt (u.seqr n).pc) (u.seqFlight n) w .none))
  ∧ (∀ s t n rom w u, Fetches s t n rom (mwHop 1 4) w u →
    Leaves (.markChannel t n rom) s (u.microAct n (u.fetchAt (u.seqr n).pc) (u.seqFlight n) w .none))
  ∧ (∀ s t n rom w u r, Fetches s t n rom (fun w => mwf w 85 3 == 3) w u → mwf w 48 6 = 0x3F → mwf w 54 1 = 0 → mwFlow w = 0 →
    mwf w 16 4 = 5 → (u.seqr n).ibuf.length ≤ 255 →
    (let q : Seqr := { u.worded n with rdy := r }
     Leaves (.probe t n rom r) s (u.setSeqr n { q with pc := branchTo (mwf w 0 16) [r] })))
  ∧ (∀ s t n rom, s.takesWork = true → (s.at t).microRuns n = false →
    Leaves (.microword t n rom) s (s.at t) ∧ Leaves (.microCall t n rom) s (s.at t) ∧ Leaves (.issue t n rom) s (s.at t))

/-- R447 to R449: in the management session a load begins, takes its blocks and is committed, which asks for the pause, or applies it
at once under a soft stop; where it is refused, its result shows, and outside the session it does nothing; the load is applied at the
pause; an abort, or the end of the session, ends it with result 11. -/
def Obligations.LoadsBeginAndEnd : Prop :=
  (∀ s t k n u, u = s.at t → u.inSession .mgmt = true → u.loadHalted = false → u.mcs.load = none → k < 2 → u.lacks 2 = false →
    160 ≤ n → n ≤ 69632 →
    LeavesSome (.loadBegin t k n) s (fun v => v.mcs.load = some { kind := k, total := n } ∧ v.rb .MCS_LOAD_STAT 0 0 0 = true
      ∧ v.rf .MCS_LOAD_STAT 0 0 1 3 = 1 ∧ v.rb .MCS_LOAD_STAT 0 0 4 = (k == 1) ∧ v.out = s.out ++ [.loadAns 0 0]))
  ∧ (∀ s t k n u l, u = s.at t → u.inSession .mgmt = true → u.loadHalted = false → u.mcs.load = some l →
    Leaves (.loadBegin t k n) s (u.loadRefused 1))
  ∧ (∀ s t k n u, u = s.at t → u.inSession .mgmt = false → Leaves (.loadBegin t k n) s u
    ∧ (∀ o b, Leaves (.loadData t o b) s u) ∧ (∀ g d, Leaves (.loadCommit t g d) s u) ∧ Leaves (.loadAbort t) s u)
  ∧ (∀ s t o b u l, u = s.at t → u.inSession .mgmt = true → u.loadHalted = false → u.mcs.load = some l → l.ready = none →
    l.total < o + b.length → Leaves (.loadData t o b) s (u.endLoad 3 o))
  ∧ (∀ s t o (x : Byte) u l, u = s.at t → u.inSession .mgmt = true → u.loadHalted = false → u.mcs.load = some l → l.ready = none →
    o < l.total →
    LeavesSome (.loadData t o [x]) s (fun v => v.mcs.load = some { l with staged := Tab.set l.staged o x } ∧ v.regs = u.regs
      ∧ v.out = s.out ++ [.loadAns 0 0]))
  ∧ (∀ s t g d u l, u = s.at t → u.inSession .mgmt = true → u.loadHalted = false → u.mcs.load = some l → l.ready = none →
    l.staged.length ≠ l.total → Leaves (.loadCommit t g d) s (u.wake.endLoad 3 l.staged.length))
  ∧ (∀ s t g d u l i, u = (s.at t).wake → (s.at t).inSession .mgmt = true → u.loadHalted = false → u.mcs.load = some l →
    l.ready = none → l.staged.length = l.total → i = mcsImage l.bytes g d → u.imageFault l.kind i l.total = none →
    (u.sstopped = false → u.regrowing = false →
      LeavesSome (.loadCommit t g d) s (fun v => v.mcs.load = some { l with ready := some i }
        ∧ v.rf .MCS_LOAD_STAT 0 0 1 3 = 3 ∧ v.out = u.out))
    ∧ (u.sstopped = true → u.regrowing = false → Leaves (.loadCommit t g d) s (u.applyLoad l i)))
  ∧ (∀ s t u l i, Acts s t u → u.mcs.load = some l → l.ready = some i → u.rf .MCS_LOAD_STAT 0 0 1 3 = 3 → u.pauseOk = true →
    u.gov.rung = 0 → Leaves (.loadPauseReached t) s (u.applyLoad l i))
  ∧ (∀ s t u, Acts s t u → u.mcs.load = none → Leaves (.loadPauseReached t) s u)
  ∧ (∀ s t u l, u = s.at t → u.inSession .mgmt = true → u.mcs.load = some l → Leaves (.loadAbort t) s (u.endLoad 11 0))
  ∧ (∀ s t u, u = s.at t → u.inSession .mgmt = true → u.mcs.load = none → Leaves (.loadAbort t) s u)

/-! ## Single rules -/

/-- R317, R319, R320: a line of eight qwords that the cipher writes back leaves as AES-256 counter-mode ciphertext with its MAC; its
version and the counters of its path are one higher; read with the ciphertext and the MAC that left, it gives those eight qwords and
no failure. An unwritten line reads as zeros without any check; a MAC that is not the line's fails; and a write that would take a
counter of the path past 2^56 − 1 is discarded, and the line fails every later read. The nodes of the path are dirty then, and what
the metadata cache writes back of them are nodes of that partition, each with its eight counters and its MAC. -/
def Obligations.LinesReadAsWritten : Prop :=
  (∀ (u : State) fn t line d v, d.length = 8 → u.sec.sat.contains (t, line) = false →
    (u.treePath t line).any (fun p => 2 ^ 56 - 1 ≤ u.ctr t p.1 p.2) = false → v = u.writeLine fn t line d →
    ∃ text mac rest, v.out = u.out ++
        .line t (cipherSlot t) (u.chPlace t (64 * line)).1 (u.chPlace t (64 * line)).2 text mac :: rest
      ∧ v.openLine t line ⟨text, mac, []⟩ = ([], d)
      ∧ (∀ e ∈ rest, ∃ l i, e = .node t (cipherSlot t) (u.nodeChannel t l i) l i (v.treeNode t l i))
      ∧ (∀ m ∈ u.sec.dirty, m.part ≠ t → m ∈ v.sec.dirty)
      ∧ (∀ r i j, r.key i j < 0xE8000 ∨ 0xEA000 ≤ r.key i j → v.reg r i j = u.reg r i j)
      ∧ ∀ p ∈ u.treePath t line, v.ctr t p.1 p.2 = u.ctr t p.1 p.2 + 1)
  ∧ (∀ (u : State) t line text mac, u.sec.sat.contains (t, line) = false → u.ctr t 0 line = 0 →
    u.openLine t line ⟨text, mac, []⟩ = ([], List.replicate 8 0))
  ∧ (∀ (u : State) t line text mac, t < 8 → u.sec.sat.contains (t, line) = false → u.ctr t 0 line ≠ 0 →
    mac ≠ lineMac (u.keyOf t) (u.ctr t 0 line) line t (text.map BitVec.toNat) 64 →
    (u.openLine t line ⟨text, mac, []⟩).1 = [(1, line, 0)])
  ∧ (∀ (u : State) fn t line d l, u.sec.sat.contains (t, line) = false →
    (u.treePath t line).any (fun p => 2 ^ 56 - 1 ≤ u.ctr t p.1 p.2) = true →
    (u.writeLine fn t line d).out = u.out ∧ (u.writeLine fn t line d).sec.ctrs = u.sec.ctrs
    ∧ (u.writeLine fn t line d).openLine t line l = ([(3, line, 0)], List.replicate 8 0))

/-- R326 to R329: a header of a weight blob that is whole and passes the checks of step 2 starts the command's chunks; one that does
not ends it, as does a chunk whose tag fails, which is counted, and nothing is written. A chunk whose tag verifies under the blob key,
with the IV of NONCE_BASE and its number and with MODEL_ID, PLAIN_LEN and its number as associated data, is written to its place at
DST as plaintext, and the next one follows. -/
def Obligations.WeightsAreVerified : Prop :=
  (∀ (u : State) k t, Tab.get? u.tasks k = some t → t.gate.failed = false → t.gate.hdr = none → 256 ≤ t.gate.got.length →
    u.gateKey t = true →
    (hdrTagOk (u.keyOf t.keySlot) (t.gate.got.take 256) = true → u.hdrOk t (t.gate.got.take 256) = true →
      u.gateStep k = u.updGate k (fun g => { g with hdr := some (blobFields (t.gate.got.take 256)), got := g.got.drop 256 }))
    ∧ (hdrTagOk (u.keyOf t.keySlot) (t.gate.got.take 256) = true → u.hdrOk t (t.gate.got.take 256) = false →
      u.gateStep k = u.updGate k (fun g => { g with failed := true, got := [] }))
    ∧ (hdrTagOk (u.keyOf t.keySlot) (t.gate.got.take 256) = false →
      u.gateStep k = u.tagFail.updGate k (fun g => { g with failed := true, got := [] })))
  ∧ (∀ (u : State) k t h n key iv (plain : List Nat) (tag : List Byte) rest, Tab.get? u.tasks k = some t → t.gate.failed = false →
    t.gate.hdr = some h → t.gate.chunk < h.chunks → n = h.chunkLen t.gate.chunk → key = u.keyOf t.keySlot →
    iv = gateIv h.nonce t.gate.chunk → plain.length = n → (∀ b ∈ plain, b < 256) → tag.length = 16 →
    t.gate.got = (gcmText key iv plain).map (BitVec.ofNat 8) ++ tag ++ rest → u.sec.revoke.contains t.keySlot = false →
    (beNat (byteNats tag) = gcmTag key iv (byteNats (chunkAad h t.gate.chunk)) (gcmText key iv plain) →
      ∃ v : State, u.gateStep k = v ∧ v.out = u.out ++ [.plain (BitVec.ofNat 64 (t.w 3) + BitVec.ofNat 64 (chunkBytes * t.gate.chunk))
        (plain.map (BitVec.ofNat 8))] ∧ v.regs = u.regs
        ∧ (Tab.get? v.tasks k).any (fun x => x.gate.chunk == t.gate.chunk + 1 && !x.gate.failed) = true)
    ∧ (beNat (byteNats tag) ≠ gcmTag key iv (byteNats (chunkAad h t.gate.chunk)) (gcmText key iv plain) →
      u.gateStep k = (u.updGate k (fun g => { g with failed := true, got := [] })).tagFail))
  ∧ (∀ (h : BlobHdr), h.chunks = (h.plain + 65535) / 65536)

/-- R124: a submission that has reached the end of its buffer with no loop open, and all of whose engine commands are over, completes
with OK and with C0 as its RESULT; while an engine command of it runs or waits, it does not. -/
def Obligations.EndOfBufferCompletesOk : Prop :=
  (∀ s t u f x w, Acts s t u → u.regrowing = false → Tab.get? u.flights f = some x → x.inTeardown = false → x.marker = false →
    x.ending = none → x.out = [] → x.pend = [] → x.off = x.length → x.loops = [] → x.call = none → x.wait = none → x.seqr = none →
    x.readySince = none →
    Leaves (.submissionRetire t f w) s (u.complete f 0 0 x.lastLayer x.lastOp u.now (nth x.c 0 0) w))
  ∧ (∀ s t u f x w, Acts s t u → Tab.get? u.flights f = some x → (x.out ≠ [] ∨ x.pend ≠ []) →
    Leaves (.submissionRetire t f w) s u)

/-- R260: a done whose TAG names no launch on its physical engine is discarded: it leaves an error-log record of class
ENGINE_STATUS, and the flight table and the teardowns as they were. -/
def Obligations.UnknownDoneIsDiscarded : Prop :=
  (∀ (u : State) h, NamesNoLaunch u h → (u.applyDone h).flights = u.flights ∧ (u.applyDone h).td = u.td
    ∧ (u.applyDone h).tasks = u.tasks ∧ u.applyDone h = u.logErr { cls := 0x0A, sub := 0xFF })
  ∧ (∀ s t u c p tag st rf nl nx ns, Acts s t u → u.regrowing = false → NamesNoLaunch u ⟨c, p, tag, st, rf, nl, nx, ns, none, 0⟩ →
    (c = .comp → st = 0 → u.compHas tag = false) →
    LeavesSome (.engineDone t c p tag st rf nl nx ns) s (fun v => v.flights = u.flights ∧ v.td = u.td
      ∧ v = u.logErr { cls := 0x0A, sub := 0xFF }))

/-- R444: a customer routine that has run 4,096 microwords without an ISSUE or an END faults its submission; one that has not goes
on. -/
def Obligations.RunawayRoutineFaults : Prop :=
  (∀ s t n u f, Fronts s t u → u.inCustomer n = true → (u.seqr n).count = 4096 → u.seqFlight n = some f →
    Leaves (.microwordLimit t n) s (u.guilty f.1 5 none 0))
  ∧ (∀ s t n u, Fronts s t u → u.inCustomer n = true → (u.seqr n).count < 4096 → Leaves (.microwordLimit t n) s u)

/-- R465: F0 and the management port, through its session, reach the global window, each function reaches its own window, and the
management port reaches every window; an access from elsewhere touches nothing and reads zero. Within reach, a 64-bit access acts on
the 64-bit register at its place and, by R9, a 32-bit write of a half of one that does not permit split access is ignored,
but for the trace that every host access leaves (R230, Table 13-1). -/
def Obligations.WindowsAreReachedByTheirOwners : Prop :=
  (∀ s t m win off n v rv, (match win with | .glob => m ≠ 0 | .own k => m ≠ k) →
    Leaves (.registerWrite t (.fn m) win off n v) s (s.at t)
    ∧ Leaves (.rcRegisterRead t (.fn m) win off n rv) s ((s.at t).emit (.regData (.fn m) 0)))
  ∧ (∀ s t win off n v, (s.at t).inSession .mgmt = false → Leaves (.registerWrite t .mgmt win off n v) s (s.at t))
  ∧ (∀ s t who win off v x, InReach (s.at t) who win → off % 8 = 0 → regOf win off = some x → x.1.spec.wide = true →
    Leaves (.registerWrite t who win off 8 v) s (((s.at t).hostTouch who true).writeReg (byMgmt who) x.1 x.2.1 x.2.2 v))
  ∧ (∀ s t who win off v x, InReach (s.at t) who win → off % 4 = 0 → regOf win off = some x → x.1.spec.wide = true →
    x.1.split = false →
    Leaves (.registerWrite t who win off 4 v) s ((s.at t).hostTouch who true))

/-! ## The machine as a whole -/

/-- A step takes the command at the front of the queue and runs it on the rest of the queue; with an empty queue the block idles
(log entry 1). -/
def Obligations.StepTakesFront : Prop :=
  (∀ s c r, s.pending = c :: r → step s = exec c { s with pending := r }) ∧ (∀ s, s.pending = [] → step s = .next s)

/-- Right after reset (R44, R45, R455): nothing waits, nothing has left the ports, start-up is at its beginning, the cold reset is
the one recorded cause, nothing is halted, every register holds its reset value (log entry 4 for those that the fuses and the plinth
fill in), and the state comes after itself. -/
def Obligations.ResetLeavesTheBlockCold : Prop :=
  State.reset.pending = [] ∧ State.reset.out = [] ∧ State.reset.now = 0 ∧ State.reset.ready = false
  ∧ State.reset.rf .VXB_START_STAT 0 0 0 3 = 0 ∧ State.reset.haltedAll = false ∧ State.reset.alive = false
  ∧ State.reset.reg .VXB_RESET_CAUSE = 1 ∧ State.reset.sqs = [] ∧ State.reset.crs = [] ∧ State.reset.flights = []
  ∧ State.reset.events = [] ∧ State.reset.ctxs = [] ∧ State.reset.td = [] ∧ State.reset.start.plinth = none
  ∧ (∀ r i j, State.reset.reg r i j = resetWord r i j)
  ∧ Since State.reset State.reset

/-- Every command runs: it answers a next state, but for a microword in an encoding that the spec calls ROM-only (R435, log entry
109), which is refused. No command faults. -/
def Obligations.CommandsAlwaysRun : Prop :=
  ∀ c s, (∃ t, exec c s = .next t) ∨ (runsMicroword c = true ∧ exec c s = .refused .romPrivate)

/-- R283, R419, R420, R423, R457, Table 08-6: a command whose need the state does not meet changes nothing (log entry 6): during
start-up and in the double-fault halt all but the boundary stands still, in a global stop all but the boundary, the links, the
sensors, the interrupts and the security controller, and during regrowth or a soft stop also the front end. -/
def Obligations.UnmetNeedsLeaveTheState : Prop :=
  (∀ c s, (need c).met s = false → Idle c s)
  ∧ (∀ c s, need c ≠ .none → s.ready = false → Idle c s)
  ∧ (∀ c s, need c ≠ .none → s.haltedAll = true → Idle c s)
  ∧ (∀ c s, need c = .alive → s.gstopped = true → Idle c s)
  ∧ (∀ c s, need c = .front → (s.gstopped = true ∨ s.sstopped = true ∨ s.regrowing = true) → Idle c s)

/-- R283: in the double-fault halt the host target ignores every write, and answers reads of the VXB_ and ERR_ registers of the global
window and gives zero for every other read. -/
def Obligations.HaltShutsTheHostOut : Prop :=
  (∀ c s t n, hostWrite c = some (t, n) → (s.at t).haltedAll = true → exec c s = .next (s.at t))
  ∧ (∀ s t m win off x rv, (s.at t).haltedAll = true → off % 8 = 0 → regOf win off = some x → x.1.spec.wide = true →
    x.1.vxbErr = false → exec (.rcRegisterRead t (.fn m) win off 8 rv) s = .next ((s.at t).emit (.regData (.fn m) 0)))
  ∧ (∀ s t off x, (s.at t).haltedAll = true → off % 8 = 0 → regOf .glob off = some x → x.1.spec.wide = true → x.1.vxbErr = true →
    exec (.rcRegisterRead t (.fn 0) .glob off 8 none) s = .next (((s.at t).afterRead x.1 x.2.1 x.2.2 none).emit
      (.regData (.fn 0) ((s.at t).readWord false x.1 x.2.1 x.2.2))))
  ∧ (∀ s t n, (s.at t).haltedAll = true → exec (.irqClaim t n) s = .next ((s.at t).emit (.regData (.fn n) 0)))

/-- The rule that every step keeps: whatever state `r` it is measured from, a state that comes after `r` steps to one that comes after
`r`. What has left the ports stays so, no free value is used twice, commands are taken in order and none is made, and the fuses are
burned once, at the cold reset that brings them. -/
def Obligations.StepsComeAfter : Prop :=
  ∀ r s t, Since r s → step s = .next t → Since r t

/-- R336, R342, R350, R351: what leaves sealed can be opened. A frame that leaves under a key has a tag that holds under that key at
the other end, and gives back its bodies there; only its bodies and its tag have changed. A segment that leaves under a session key
gives back its payload under that key, and its tag is the one that the other end computes. -/
def Obligations.SealedFramesOpen : Prop :=
  (∀ (k : LinkKey) (f : FrameIn), k.tag (k.sealed f) = (k.sealed f).tag ∧ k.text (k.sealed f) = f.text
    ∧ k.sealed f = { f with text := (k.sealed f).text, tag := (k.sealed f).tag })
  ∧ (∀ (k : BitVec 256) (src : Nat) (d : SegDesc) (p : List (BitVec 512)),
    bytesFlits (gcmText k (segIv src d.iv) (segSeal k src d (flitBytes p)).1) = p
    ∧ (segSeal k src d (flitBytes p)).2.toNat =
      gcmTag k (segIv src d.iv) (segAad d.xfer d.seg d.ft d.ep (64 * p.length)) (segSeal k src d (flitBytes p)).1)
end

