-- ==== Sys2Proof/Laws/Acts.lean ====
section
/-! SUPPORT. What the shared frames of the meanings do, once for each: `act`, `actFront`, `actDev`, `actAny`, `actLink`, `regWr`,
`mgmtWr`, `regRd`, and `polls` on a block that stands still. -/

namespace Sys2Proof.Machine

variable {s u : State} {t : Nat} {who : Who} {win : Window}

/-- Nothing but the record of a freeze follows of itself while the block stands still. -/
theorem polls_of_not_alive (h : s.freezePoll.alive = false) : s.polls = s.freezePoll := by
  simp [State.polls, h]

theorem act_acts (f : State → State) (h : Acts s t u) : act s t f = .next (f u).polls := by
  obtain ⟨ha, rfl⟩ := h
  simp [act, fin, ha]

theorem act_idle (f : State → State) (h : s.alive = false) : act s t f = .next s := by
  simp [act, h]

theorem actFront_fronts (f : State → State) (h : Fronts s t u) : actFront s t f = .next (f u).polls := by
  obtain ⟨ha, rfl, -⟩ := h
  simp [actFront, fin, ha]

theorem actFront_idle (f : State → State) (h : s.takesWork = false) : actFront s t f = .next s := by
  simp [actFront, h]

theorem actDev_runs (f : State → State) (h : Runs s t u) : actDev s t f = .next (f u).polls := by
  obtain ⟨ha, rfl⟩ := h
  simp only [actDev, fin, ha, if_true]

theorem actLink_runs (f : State → State) (h : Runs s t u) : actLink s t f = .next ((f u).rekeyLost u.liveMask).polls := by
  obtain ⟨ha, rfl⟩ := h
  simp only [actLink, fin, ha, if_true]

theorem actAny_next (s : State) (t : Nat) (f : State → State) : actAny s t f = .next (f (s.at t)).polls := by
  simp only [actAny, fin]

theorem regWr_writes (f : State → State) (h : Writes s t who win u) : regWr s t who win f = .next (f u).polls := by
  obtain ⟨ha, rfl⟩ := h
  simp only [regWr, actAny_next, ha, if_true]

/-- A write that is not taken only lets time pass. -/
theorem regWr_ignored (f : State → State) (h : ((s.at t).reaches who win && (s.at t).mayWrite who) = false) :
    regWr s t who win f = .next (s.at t).polls := by
  simp only [regWr, actAny_next, h, Bool.false_eq_true, if_false]

theorem mgmtWr_writes (f : State → State) (h : Writes s t .mgmt .glob u) : mgmtWr s t .mgmt f = .next (f u).polls := by
  simp only [mgmtWr, regWr_writes _ h, byMgmt, if_true]

theorem mgmtWr_host {n : Nat} (f : State → State) (h : Writes s t (.fn n) .glob u) : mgmtWr s t (.fn n) f = .next u.polls := by
  simp only [mgmtWr, regWr_writes _ h, byMgmt, Bool.false_eq_true, if_false]

theorem regRd_reads {r : Reg} (f : State → Word × State) (h : Reads s t who win r u) :
    regRd s t who win r f = .next ((f u).2.emit (.regData who (f u).1)).polls := by
  obtain ⟨hr, hm, rfl⟩ := h
  simp [regRd, actAny_next, hr, hm]

end Sys2Proof.Machine
end

