-- ==== Sys2Proof/Laws/KeptOps.lean ====
section
/-! SUPPORT. What every operation of the machine keeps, part 1: the shared operations, the scheduler's clock, lanes and the rings. -/

namespace Sys2Proof.Machine

set_option linter.unusedTactic false
set_option linter.unreachableTactic false
set_option linter.unusedSimpArgs false

/-- State `s` follows `r`: its queue and its fuses are those of `r`, all that had left the ports has left them, and no free value is
used again. -/
structure Kept (r s : State) : Prop where
  pending : s.pending = r.pending
  fuses : s.start.fuses = r.start.fuses
  out : r.out <+: s.out
  fresh : r.fresh ≤ s.fresh

theorem Kept.refl (s : State) : Kept s s := ⟨rfl, rfl, List.prefix_rfl, Nat.le_refl _⟩

theorem Kept.trans {r s t : State} (a : Kept r s) (b : Kept s t) : Kept r t :=
  ⟨b.pending.trans a.pending, b.fuses.trans a.fuses, a.out.trans b.out, Nat.le_trans a.fresh b.fresh⟩

theorem foldl_kept {α : Type} {r : State} {f : State → α → State} {l : List α} {s : State} (h : Kept r s) (hf : ∀ u x, Kept r u → Kept r (f u x)) :
    Kept r (l.foldl f s) := by
  induction l generalizing s with
  | nil => exact h
  | cons x l ih => exact ih (hf s x h)

theorem Kept.ite {r s t : State} {c : Prop} [Decidable c] (a : Kept r s) (b : Kept r t) : Kept r (if c then s else t) := by
  split
  · exact a
  · exact b

theorem Kept.upd_iff {r t : State} {now : Nat} {ref : Nat} {regs : Tab Word} {irq : Irq} {reads : List RdOut} {faulting : List (Nat × WriteFault)}
    {sqs : Tab Sq} {crs : Tab Cr} {adm : Adm} {admHeld : Tab (List (List Word))} {scan : Scan} {flights : Tab Flight} {tasks : Tab Task} {nextTask
    : Nat} {hints : Tab Hint} {mqSlots : Tab MqSlot} {mqJobs : List MqJob} {due : List Due} {lanes : Tab Due} {launches : Nat} {cores : List Core}
    {engs : Tab Eng} {trims : List Trim} {events : Tab Event} {sems : Tab Sem} {remoteWaits : List RemoteWait} {remoteOps : List RemoteOp}
    {remoteAcqs : List RemoteAcq} {remoteHolds : List RemoteHold} {fnRecs : Tab (List (Half × Nat × Word))} {ctxs : Tab Ctx} {cyc : Cyc} {wd : Tab
    Nat} {td : List Td} {preq : Option PartReq} {removals : List Nat} {dins : Tab Din} {regrow : Regrow} {gov : Gov} {sec : Sec} {tml : Tml} {obs
    : Obs} {mcs : Mcs} : Kept r ⟨t.pending, now, ref, regs, irq, t.out, reads, faulting, t.fresh, sqs, crs, adm, admHeld, scan, flights, tasks,
    nextTask, hints, mqSlots, mqJobs, due, lanes, launches, cores, engs, trims, events, sems, remoteWaits, remoteOps, remoteAcqs, remoteHolds,
    fnRecs, ctxs, cyc, wd, td, preq, removals, dins, regrow, gov, sec, tml, obs, mcs, t.start⟩ ↔ Kept r t :=
  ⟨fun h => ⟨h.pending, h.fuses, h.out, h.fresh⟩, fun h => ⟨h.pending, h.fuses, h.out, h.fresh⟩⟩

theorem Kept.updFresh {r t : State} (h : Kept r t) {now : Nat} {ref : Nat} {regs : Tab Word} {irq : Irq} {reads : List RdOut} {faulting : List
    (Nat × WriteFault)} {sqs : Tab Sq} {crs : Tab Cr} {adm : Adm} {admHeld : Tab (List (List Word))} {scan : Scan} {flights : Tab Flight} {tasks :
    Tab Task} {nextTask : Nat} {hints : Tab Hint} {mqSlots : Tab MqSlot} {mqJobs : List MqJob} {due : List Due} {lanes : Tab Due} {launches : Nat}
    {cores : List Core} {engs : Tab Eng} {trims : List Trim} {events : Tab Event} {sems : Tab Sem} {remoteWaits : List RemoteWait} {remoteOps :
    List RemoteOp} {remoteAcqs : List RemoteAcq} {remoteHolds : List RemoteHold} {fnRecs : Tab (List (Half × Nat × Word))} {ctxs : Tab Ctx} {cyc :
    Cyc} {wd : Tab Nat} {td : List Td} {preq : Option PartReq} {removals : List Nat} {dins : Tab Din} {regrow : Regrow} {gov : Gov} {sec : Sec}
    {tml : Tml} {obs : Obs} {mcs : Mcs} {k : Nat} : Kept r ⟨t.pending, now, ref, regs, irq, t.out, reads, faulting, t.fresh + k, sqs, crs, adm,
    admHeld, scan, flights, tasks, nextTask, hints, mqSlots, mqJobs, due, lanes, launches, cores, engs, trims, events, sems, remoteWaits,
    remoteOps, remoteAcqs, remoteHolds, fnRecs, ctxs, cyc, wd, td, preq, removals, dins, regrow, gov, sec, tml, obs, mcs, t.start⟩ :=
  ⟨h.pending, h.fuses, h.out, Nat.le_add_right_of_le h.fresh⟩

theorem Kept.updOut {r t : State} (h : Kept r t) {now : Nat} {ref : Nat} {regs : Tab Word} {irq : Irq} {reads : List RdOut} {faulting : List (Nat
    × WriteFault)} {sqs : Tab Sq} {crs : Tab Cr} {adm : Adm} {admHeld : Tab (List (List Word))} {scan : Scan} {flights : Tab Flight} {tasks : Tab
    Task} {nextTask : Nat} {hints : Tab Hint} {mqSlots : Tab MqSlot} {mqJobs : List MqJob} {due : List Due} {lanes : Tab Due} {launches : Nat}
    {cores : List Core} {engs : Tab Eng} {trims : List Trim} {events : Tab Event} {sems : Tab Sem} {remoteWaits : List RemoteWait} {remoteOps :
    List RemoteOp} {remoteAcqs : List RemoteAcq} {remoteHolds : List RemoteHold} {fnRecs : Tab (List (Half × Nat × Word))} {ctxs : Tab Ctx} {cyc :
    Cyc} {wd : Tab Nat} {td : List Td} {preq : Option PartReq} {removals : List Nat} {dins : Tab Din} {regrow : Regrow} {gov : Gov} {sec : Sec}
    {tml : Tml} {obs : Obs} {mcs : Mcs} {l : List Emit} : Kept r ⟨t.pending, now, ref, regs, irq, t.out ++ l, reads, faulting, t.fresh, sqs, crs,
    adm, admHeld, scan, flights, tasks, nextTask, hints, mqSlots, mqJobs, due, lanes, launches, cores, engs, trims, events, sems, remoteWaits,
    remoteOps, remoteAcqs, remoteHolds, fnRecs, ctxs, cyc, wd, td, preq, removals, dins, regrow, gov, sec, tml, obs, mcs, t.start⟩ :=
  ⟨h.pending, h.fuses, h.out.trans (List.prefix_append _ _), h.fresh⟩

theorem Kept.updStart_iff {r t : State} {now : Nat} {ref : Nat} {regs : Tab Word} {irq : Irq} {reads : List RdOut} {faulting : List (Nat ×
    WriteFault)} {sqs : Tab Sq} {crs : Tab Cr} {adm : Adm} {admHeld : Tab (List (List Word))} {scan : Scan} {flights : Tab Flight} {tasks : Tab
    Task} {nextTask : Nat} {hints : Tab Hint} {mqSlots : Tab MqSlot} {mqJobs : List MqJob} {due : List Due} {lanes : Tab Due} {launches : Nat}
    {cores : List Core} {engs : Tab Eng} {trims : List Trim} {events : Tab Event} {sems : Tab Sem} {remoteWaits : List RemoteWait} {remoteOps :
    List RemoteOp} {remoteAcqs : List RemoteAcq} {remoteHolds : List RemoteHold} {fnRecs : Tab (List (Half × Nat × Word))} {ctxs : Tab Ctx} {cyc :
    Cyc} {wd : Tab Nat} {td : List Td} {preq : Option PartReq} {removals : List Nat} {dins : Tab Din} {regrow : Regrow} {gov : Gov} {sec : Sec}
    {tml : Tml} {obs : Obs} {mcs : Mcs} {mem : BitVec 8} {log2c : Nat} {apBase : Word} {launchArea : Nat} {graphArea : Nat} {brumArea : Nat}
    {peersListed : Bool} {plinth : Option Plinth} {rstact : RstAct} {resetAt : Nat} {failed : Option (Nat × Word)} {refLost : Bool} {lossDue : Option Nat} : Kept r
    ⟨t.pending, now, ref, regs, irq, t.out, reads, faulting, t.fresh, sqs, crs, adm, admHeld, scan, flights, tasks, nextTask, hints, mqSlots,
    mqJobs, due, lanes, launches, cores, engs, trims, events, sems, remoteWaits, remoteOps, remoteAcqs, remoteHolds, fnRecs, ctxs, cyc, wd, td,
    preq, removals, dins, regrow, gov, sec, tml, obs, mcs, ⟨mem, log2c, apBase, launchArea, graphArea, brumArea, peersListed, plinth,
    t.start.fuses, rstact, resetAt, failed, refLost, lossDue⟩⟩ ↔ Kept r t :=
  ⟨fun h => ⟨h.pending, h.fuses, h.out, h.fresh⟩, fun h => ⟨h.pending, h.fuses, h.out, h.fresh⟩⟩

theorem Kept.of_snd {α : Type} {r s : State} {p : α × State} {a : α} (e : p = (a, s)) (h : Kept r p.2) : Kept r s := by
  rw [e] at h
  exact h

theorem Kept.of_fst {α : Type} {r s : State} {p : State × α} {a : α} (e : p = (s, a)) (h : Kept r p.1) : Kept r s := by
  rw [e] at h
  exact h

theorem Kept.of_trd {α β : Type} {r s : State} {p : α × β × State} {a : α} {b : β} (e : p = (a, b, s)) (h : Kept r p.2.2) : Kept r s := by
  rw [e] at h
  exact h

theorem State.emit_kept {r s : State} (h : Kept r s) (a : Emit) : Kept r (State.emit s a) := by
  exact h.updOut

theorem State.emits_kept {r s : State} (h : Kept r s) (a : List Emit) : Kept r (State.emits s a) := by
  exact h.updOut

theorem State.draw_kept {r s : State} (h : Kept r s) : Kept r (State.draw s).2 := by
  exact h.updFresh

theorem State.setReg_kept {r s : State} (h : Kept r s) (a : Reg) (b : Nat) (c : Nat) (d : Word) : Kept r (State.setReg s a b c d) := by
  exact Kept.upd_iff.2 h

theorem State.setF_kept {r s : State} (h : Kept r s) (a : Reg) (b : Nat) (c : Nat) (d : Nat) (e : Nat) (g : Nat) : Kept r (State.setF s a b c d e g)
  := by
  simp only [State.setF]
  repeat'
    first
    | with_reducible assumption | with_reducible apply State.setReg_kept | with_reducible apply foldl_kept
    | simp only [Kept.upd_iff, Kept.updStart_iff] | intro _ _ _ | intro _ _ | split | (fail_if_no_progress dsimp only)

theorem State.setB_kept {r s : State} (h : Kept r s) (a : Reg) (b : Nat) (c : Nat) (d : Nat) (e : Bool) : Kept r (State.setB s a b c d e) := by
  simp only [State.setB]
  repeat'
    first
    | with_reducible assumption | with_reducible apply State.setF_kept | with_reducible apply foldl_kept
    | simp only [Kept.upd_iff, Kept.updStart_iff] | intro _ _ _ | intro _ _ | split | (fail_if_no_progress dsimp only)

theorem State.bump_kept {r s : State} (h : Kept r s) (a : Reg) (b : Nat) (c : Nat) (d : Nat) (e : Nat) (g : Nat) : Kept r (State.bump s a b c d e g)
  := by
  simp only [State.bump]
  repeat'
    first
    | with_reducible assumption | with_reducible apply State.setF_kept | with_reducible apply foldl_kept
    | simp only [Kept.upd_iff, Kept.updStart_iff] | intro _ _ _ | intro _ _ | split | (fail_if_no_progress dsimp only)

theorem State.setArrBit_kept {r s : State} (h : Kept r s) (a : Reg) (b : Nat) (c : Bool) : Kept r (State.setArrBit s a b c) := by
  simp only [State.setArrBit]
  repeat'
    first
    | with_reducible assumption | with_reducible apply State.setB_kept | with_reducible apply foldl_kept
    | simp only [Kept.upd_iff, Kept.updStart_iff] | intro _ _ _ | intro _ _ | split | (fail_if_no_progress dsimp only)

theorem State.when_kept {r s : State} (h : Kept r s) (a : Bool) (b : State → State) (hb : ∀ x0, Kept r x0 → Kept r (b x0)) : Kept r (State.when s a
  b) := by
  simp only [State.when]
  repeat'
    first
    | with_reducible assumption | with_reducible apply hb | with_reducible refine Kept.of_snd (by with_reducible assumption) ?_
    | with_reducible refine Kept.of_fst (by with_reducible assumption) ?_ | with_reducible refine Kept.of_trd (by with_reducible assumption) ?_
    | with_reducible apply foldl_kept | simp only [Kept.upd_iff, Kept.updStart_iff] | intro _ _ _ | intro _ _ | split
    | (fail_if_no_progress dsimp only)

theorem State.cntAdd1_kept {r s : State} (h : Kept r s) (a : Nat) (b : Nat) : Kept r (State.cntAdd1 s a b) := by
  simp only [State.cntAdd1]
  repeat'
    first
    | with_reducible assumption | with_reducible apply State.setReg_kept | with_reducible apply foldl_kept
    | simp only [Kept.upd_iff, Kept.updStart_iff] | intro _ _ _ | intro _ _ | split | (fail_if_no_progress dsimp only)

theorem State.count_kept {r s : State} (h : Kept r s) (a : Nat) (b : Nat) (c : Who3) : Kept r (State.count s a b c) := by
  simp only [State.count]
  repeat'
    first
    | with_reducible assumption | with_reducible apply State.cntAdd1_kept | with_reducible apply foldl_kept
    | simp only [Kept.upd_iff, Kept.updStart_iff] | intro _ _ _ | intro _ _ | split | (fail_if_no_progress dsimp only)

theorem State.ctxCount_kept {r s : State} (h : Kept r s) (a : Nat) (b : Nat) (c : Nat) : Kept r (State.ctxCount s a b c) := by
  simp only [State.ctxCount]
  repeat'
    first
    | with_reducible assumption | with_reducible apply foldl_kept | simp only [Kept.upd_iff, Kept.updStart_iff] | intro _ _ _ | intro _ _ | split
    | (fail_if_no_progress dsimp only)

theorem State.cacheTraffic_kept {r s : State} (h : Kept r s) (a : Task) : Kept r (State.cacheTraffic s a) := by
  simp only [State.cacheTraffic]
  repeat'
    first
    | with_reducible assumption | with_reducible apply State.count_kept | with_reducible apply State.ctxCount_kept
    | with_reducible apply Kept.updFresh | with_reducible refine Kept.of_snd (by with_reducible assumption) ?_
    | with_reducible refine Kept.of_fst (by with_reducible assumption) ?_ | with_reducible refine Kept.of_trd (by with_reducible assumption) ?_
    | with_reducible apply foldl_kept | simp only [Kept.upd_iff, Kept.updStart_iff] | intro _ _ _ | intro _ _ | split
    | (fail_if_no_progress dsimp only)

theorem State.tileTraffic_kept {r s : State} (h : Kept r s) (a : Nat) (b : Task) : Kept r (State.tileTraffic s a b) := by
  simp only [State.tileTraffic]
  repeat'
    first
    | with_reducible assumption | with_reducible apply State.count_kept | with_reducible apply State.ctxCount_kept
    | with_reducible apply Kept.updFresh | with_reducible refine Kept.of_snd (by with_reducible assumption) ?_
    | with_reducible refine Kept.of_fst (by with_reducible assumption) ?_ | with_reducible refine Kept.of_trd (by with_reducible assumption) ?_
    | with_reducible apply foldl_kept | simp only [Kept.upd_iff, Kept.updStart_iff] | intro _ _ _ | intro _ _ | split
    | (fail_if_no_progress dsimp only)

theorem State.coreTime_kept {r s : State} (h : Kept r s) (a : Nat) : Kept r (State.coreTime s a) := by
  simp only [State.coreTime]
  repeat'
    first
    | with_reducible assumption | with_reducible apply State.count_kept | with_reducible apply State.tileTraffic_kept
    | with_reducible apply State.cacheTraffic_kept | with_reducible refine Kept.of_snd (by with_reducible assumption) ?_
    | with_reducible refine Kept.of_fst (by with_reducible assumption) ?_ | with_reducible refine Kept.of_trd (by with_reducible assumption) ?_
    | with_reducible apply foldl_kept | simp only [Kept.upd_iff, Kept.updStart_iff] | intro _ _ _ | intro _ _ | split
    | (fail_if_no_progress dsimp only)

theorem State.endGap_kept {r s : State} (h : Kept r s) : Kept r (State.endGap s) := by
  simp only [State.endGap]
  repeat'
    first
    | with_reducible assumption | with_reducible apply State.setF_kept | with_reducible apply foldl_kept
    | simp only [Kept.upd_iff, Kept.updStart_iff] | intro _ _ _ | intro _ _ | split | (fail_if_no_progress dsimp only)

theorem State.wake_kept {r s : State} (h : Kept r s) : Kept r (State.wake s) := by
  simp only [State.wake]
  repeat'
    first
    | with_reducible assumption | with_reducible apply State.endGap_kept | with_reducible apply State.setF_kept
    | with_reducible apply State.emit_kept | with_reducible refine Kept.of_snd (by with_reducible assumption) ?_
    | with_reducible refine Kept.of_fst (by with_reducible assumption) ?_ | with_reducible refine Kept.of_trd (by with_reducible assumption) ?_
    | with_reducible apply foldl_kept | simp only [Kept.upd_iff, Kept.updStart_iff] | intro _ _ _ | intro _ _ | split
    | (fail_if_no_progress dsimp only)

theorem State.memWake_kept {r s : State} (h : Kept r s) : Kept r (State.memWake s) := by
  simp only [State.memWake]
  repeat'
    first
    | with_reducible assumption | with_reducible apply State.wake_kept | with_reducible apply State.when_kept | with_reducible apply foldl_kept
    | simp only [Kept.upd_iff, Kept.updStart_iff] | intro _ _ _ | intro _ _ | split | (fail_if_no_progress dsimp only)

theorem State.writeMem_kept {r s : State} (h : Kept r s) (a : Issuer) (b : Word) (c : List Word) : Kept r (State.writeMem s a b c) := by
  simp only [State.writeMem]
  repeat'
    first
    | with_reducible assumption | with_reducible apply State.memWake_kept | with_reducible apply State.emit_kept
    | with_reducible apply State.when_kept | with_reducible apply State.count_kept
    | with_reducible refine Kept.of_snd (by with_reducible assumption) ?_ | with_reducible refine Kept.of_fst (by with_reducible assumption) ?_
    | with_reducible refine Kept.of_trd (by with_reducible assumption) ?_ | with_reducible apply foldl_kept
    | simp only [Kept.upd_iff, Kept.updStart_iff] | intro _ _ _ | intro _ _ | split | (fail_if_no_progress dsimp only)

theorem State.readMem_kept {r s : State} (h : Kept r s) (a : ReadTag) (b : Word) (c : Nat) : Kept r (State.readMem s a b c) := by
  simp only [State.readMem]
  repeat'
    first
    | with_reducible assumption | with_reducible apply State.memWake_kept | with_reducible apply State.emit_kept
    | with_reducible apply State.when_kept | with_reducible apply State.count_kept
    | with_reducible refine Kept.of_snd (by with_reducible assumption) ?_ | with_reducible refine Kept.of_fst (by with_reducible assumption) ?_
    | with_reducible refine Kept.of_trd (by with_reducible assumption) ?_ | with_reducible apply foldl_kept
    | simp only [Kept.upd_iff, Kept.updStart_iff] | intro _ _ _ | intro _ _ | split | (fail_if_no_progress dsimp only)

theorem State.endBytes_kept {r s : State} (h : Kept r s) (a : ReadTag) (b : Nat) : Kept r (State.endBytes s a b) := by
  exact Kept.upd_iff.2 h

theorem State.dropReads_kept {r s : State} (h : Kept r s) (a : RdOut → Bool) : Kept r (State.dropReads s a) := by
  exact Kept.upd_iff.2 h

theorem State.setMsixPend_kept {r s : State} (h : Kept r s) (a : Nat) (b : Bool) : Kept r (State.setMsixPend s a b) := by
  simp only [State.setMsixPend]
  repeat'
    first
    | with_reducible assumption | with_reducible refine Kept.of_snd (by with_reducible assumption) ?_
    | with_reducible refine Kept.of_fst (by with_reducible assumption) ?_ | with_reducible refine Kept.of_trd (by with_reducible assumption) ?_
    | with_reducible apply foldl_kept | simp only [Kept.upd_iff, Kept.updStart_iff] | intro _ _ _ | intro _ _ | split
    | (fail_if_no_progress dsimp only)

theorem State.updLine_kept {r s : State} (h : Kept r s) (a : Nat) : Kept r (State.updLine s a) := by
  simp only [State.updLine]
  repeat'
    first
    | with_reducible assumption | with_reducible apply State.setB_kept | with_reducible apply State.setMsixPend_kept
    | with_reducible apply State.emit_kept | with_reducible apply State.when_kept
    | with_reducible refine Kept.of_snd (by with_reducible assumption) ?_ | with_reducible refine Kept.of_fst (by with_reducible assumption) ?_
    | with_reducible refine Kept.of_trd (by with_reducible assumption) ?_ | with_reducible apply foldl_kept
    | simp only [Kept.upd_iff, Kept.updStart_iff] | intro _ _ _ | intro _ _ | split | (fail_if_no_progress dsimp only)

theorem State.ibiAfter_kept {r s : State} (h : Kept r s) (a : Bool) : Kept r (State.ibiAfter s a) := by
  simp only [State.ibiAfter]
  repeat'
    first
    | with_reducible assumption | with_reducible apply State.emit_kept | with_reducible refine Kept.of_snd (by with_reducible assumption) ?_
    | with_reducible refine Kept.of_fst (by with_reducible assumption) ?_ | with_reducible refine Kept.of_trd (by with_reducible assumption) ?_
    | with_reducible apply foldl_kept | simp only [Kept.upd_iff, Kept.updStart_iff] | intro _ _ _ | intro _ _ | split
    | (fail_if_no_progress dsimp only)

theorem State.raiseCopies_kept {r s : State} (h : Kept r s) (a : Nat) : Kept r (State.raiseCopies s a).2 := by
  simp only [State.raiseCopies]
  repeat'
    first
    | with_reducible assumption | with_reducible apply State.when_kept | with_reducible apply State.setArrBit_kept
    | with_reducible apply State.ibiAfter_kept | with_reducible apply State.updLine_kept | with_reducible apply Kept.updFresh
    | with_reducible refine Kept.of_snd (by with_reducible assumption) ?_ | with_reducible refine Kept.of_fst (by with_reducible assumption) ?_
    | with_reducible refine Kept.of_trd (by with_reducible assumption) ?_ | with_reducible apply foldl_kept
    | simp only [Kept.upd_iff, Kept.updStart_iff] | intro _ _ _ | intro _ _ | split | (fail_if_no_progress dsimp only)

theorem State.raisePlain_kept {r s : State} (h : Kept r s) (a : Nat) : Kept r (State.raisePlain s a) := by
  simp only [State.raisePlain]
  repeat'
    first
    | with_reducible assumption | with_reducible apply State.raiseCopies_kept | with_reducible apply State.wake_kept
    | with_reducible apply State.when_kept | with_reducible refine Kept.of_snd (by with_reducible assumption) ?_
    | with_reducible refine Kept.of_fst (by with_reducible assumption) ?_ | with_reducible refine Kept.of_trd (by with_reducible assumption) ?_
    | with_reducible apply foldl_kept | simp only [Kept.upd_iff, Kept.updStart_iff] | intro _ _ _ | intro _ _ | split
    | (fail_if_no_progress dsimp only)

theorem State.noteRaise_kept {r s : State} (h : Kept r s) (a : Nat) : Kept r (State.noteRaise s a) := by
  simp only [State.noteRaise]
  repeat'
    first
    | with_reducible assumption | with_reducible apply foldl_kept | simp only [Kept.upd_iff, Kept.updStart_iff] | intro _ _ _ | intro _ _ | split
    | (fail_if_no_progress dsimp only)

theorem State.raise_kept {r s : State} (h : Kept r s) (a : Nat) : Kept r (State.raise s a) := by
  simp only [State.raise]
  repeat'
    first
    | with_reducible assumption | with_reducible apply State.wake_kept | with_reducible apply State.noteRaise_kept
    | with_reducible apply State.raisePlain_kept | with_reducible apply State.when_kept | with_reducible apply State.raiseCopies_kept
    | with_reducible apply State.setArrBit_kept | with_reducible apply State.setB_kept | with_reducible apply State.updLine_kept
    | with_reducible apply Kept.updFresh | with_reducible refine Kept.of_snd (by with_reducible assumption) ?_
    | with_reducible refine Kept.of_fst (by with_reducible assumption) ?_ | with_reducible refine Kept.of_trd (by with_reducible assumption) ?_
    | with_reducible apply foldl_kept | simp only [Kept.upd_iff, Kept.updStart_iff] | intro _ _ _ | intro _ _ | split
    | (fail_if_no_progress dsimp only)

theorem State.raiseFn_kept {r s : State} (h : Kept r s) (a : Nat) : Kept r (State.raiseFn s a) := by
  simp only [State.raiseFn]
  repeat'
    first
    | with_reducible assumption | with_reducible apply State.setB_kept | with_reducible apply State.raise_kept
    | with_reducible refine Kept.of_snd (by with_reducible assumption) ?_ | with_reducible refine Kept.of_fst (by with_reducible assumption) ?_
    | with_reducible refine Kept.of_trd (by with_reducible assumption) ?_ | with_reducible apply foldl_kept
    | simp only [Kept.upd_iff, Kept.updStart_iff] | intro _ _ _ | intro _ _ | split | (fail_if_no_progress dsimp only)

theorem State.raiseEntry_kept {r s : State} (h : Kept r s) (a : Nat) (b : Nat) : Kept r (State.raiseEntry s a b) := by
  simp only [State.raiseEntry]
  repeat'
    first
    | with_reducible assumption | with_reducible apply State.raiseFn_kept | with_reducible apply State.raise_kept
    | with_reducible apply State.bump_kept | with_reducible refine Kept.of_snd (by with_reducible assumption) ?_
    | with_reducible refine Kept.of_fst (by with_reducible assumption) ?_ | with_reducible refine Kept.of_trd (by with_reducible assumption) ?_
    | with_reducible apply foldl_kept | simp only [Kept.upd_iff, Kept.updStart_iff] | intro _ _ _ | intro _ _ | split
    | (fail_if_no_progress dsimp only)

theorem State.fnEvent_kept {r s : State} (h : Kept r s) (a : Nat) (b : Nat) : Kept r (State.fnEvent s a b) := by
  simp only [State.fnEvent]
  repeat'
    first
    | with_reducible assumption | with_reducible apply State.setB_kept | with_reducible apply State.raiseFn_kept
    | with_reducible refine Kept.of_snd (by with_reducible assumption) ?_ | with_reducible refine Kept.of_fst (by with_reducible assumption) ?_
    | with_reducible refine Kept.of_trd (by with_reducible assumption) ?_ | with_reducible apply foldl_kept
    | simp only [Kept.upd_iff, Kept.updStart_iff] | intro _ _ _ | intro _ _ | split | (fail_if_no_progress dsimp only)

theorem State.copyShadows_kept {r s : State} (h : Kept r s) : Kept r (State.copyShadows s) := by
  exact Kept.upd_iff.2 h

theorem State.ringPut_kept {r s : State} (h : Kept r s) (a : Nat) (b : List Word) : Kept r (State.ringPut s a b) := by
  simp only [State.ringPut]
  repeat'
    first
    | with_reducible assumption | with_reducible apply State.writeMem_kept | with_reducible apply State.setF_kept
    | with_reducible apply State.when_kept | with_reducible apply State.raise_kept
    | with_reducible refine Kept.of_snd (by with_reducible assumption) ?_ | with_reducible refine Kept.of_fst (by with_reducible assumption) ?_
    | with_reducible refine Kept.of_trd (by with_reducible assumption) ?_ | with_reducible apply foldl_kept
    | simp only [Kept.upd_iff, Kept.updStart_iff] | intro _ _ _ | intro _ _ | split | (fail_if_no_progress dsimp only)

theorem State.ringWrite_kept {r s : State} (h : Kept r s) (a : Nat) (b : List Word) : Kept r (State.ringWrite s a b) := by
  simp only [State.ringWrite]
  repeat'
    first
    | with_reducible assumption | with_reducible apply State.setReg_kept | with_reducible apply State.ringPut_kept
    | with_reducible apply State.raise_kept | with_reducible apply State.bump_kept
    | with_reducible refine Kept.of_snd (by with_reducible assumption) ?_ | with_reducible refine Kept.of_fst (by with_reducible assumption) ?_
    | with_reducible refine Kept.of_trd (by with_reducible assumption) ?_ | with_reducible apply foldl_kept
    | simp only [Kept.upd_iff, Kept.updStart_iff] | intro _ _ _ | intro _ _ | split | (fail_if_no_progress dsimp only)

theorem State.freezeCore_kept {r s : State} (h : Kept r s) (a : Nat) : Kept r (State.freezeCore s a) := by
  simp only [State.freezeCore]
  repeat'
    first
    | with_reducible assumption | with_reducible apply State.setF_kept | with_reducible apply State.bump_kept
    | with_reducible apply State.draw_kept | with_reducible apply State.copyShadows_kept | with_reducible apply State.setReg_kept
    | with_reducible apply State.when_kept | with_reducible apply State.setB_kept | with_reducible apply State.raise_kept
    | with_reducible refine Kept.of_snd (by with_reducible assumption) ?_ | with_reducible refine Kept.of_fst (by with_reducible assumption) ?_
    | with_reducible refine Kept.of_trd (by with_reducible assumption) ?_ | with_reducible apply foldl_kept
    | simp only [Kept.upd_iff, Kept.updStart_iff] | intro _ _ _ | intro _ _ | split | (fail_if_no_progress dsimp only)

theorem State.reroute_kept {r s : State} (h : Kept r s) : Kept r (State.reroute s) := by
  simp only [State.reroute]
  repeat'
    first
    | with_reducible assumption | with_reducible apply State.setReg_kept | with_reducible refine Kept.of_snd (by with_reducible assumption) ?_
    | with_reducible refine Kept.of_fst (by with_reducible assumption) ?_ | with_reducible refine Kept.of_trd (by with_reducible assumption) ?_
    | with_reducible apply foldl_kept | simp only [Kept.upd_iff, Kept.updStart_iff] | intro _ _ _ | intro _ _ | split
    | (fail_if_no_progress dsimp only)

theorem State.updPort_kept {r s : State} (h : Kept r s) (a : Nat) (b : TPort → TPort) : Kept r (State.updPort s a b) := by
  exact Kept.upd_iff.2 h

theorem State.oweCredit_kept {r s : State} (h : Kept r s) (a : Nat) (b : Nat) (c : Nat) : Kept r (State.oweCredit s a b c) := by
  simp only [State.oweCredit]
  repeat'
    first
    | with_reducible assumption | with_reducible apply State.updPort_kept | with_reducible refine Kept.of_snd (by with_reducible assumption) ?_
    | with_reducible refine Kept.of_fst (by with_reducible assumption) ?_ | with_reducible refine Kept.of_trd (by with_reducible assumption) ?_
    | with_reducible apply foldl_kept | simp only [Kept.upd_iff, Kept.updStart_iff] | intro _ _ _ | intro _ _ | split
    | (fail_if_no_progress dsimp only)

theorem State.freeFrame_kept {r s : State} (h : Kept r s) (a : Frame) : Kept r (State.freeFrame s a) := by
  simp only [State.freeFrame]
  repeat'
    first
    | with_reducible assumption | with_reducible apply State.oweCredit_kept | with_reducible refine Kept.of_snd (by with_reducible assumption) ?_
    | with_reducible refine Kept.of_fst (by with_reducible assumption) ?_ | with_reducible refine Kept.of_trd (by with_reducible assumption) ?_
    | with_reducible apply foldl_kept | simp only [Kept.upd_iff, Kept.updStart_iff] | intro _ _ _ | intro _ _ | split
    | (fail_if_no_progress dsimp only)

theorem State.segWired_kept {r s : State} (h : Kept r s) (a : Frame) : Kept r (State.segWired s a) := by
  simp only [State.segWired]
  repeat'
    first
    | with_reducible assumption | with_reducible refine Kept.of_snd (by with_reducible assumption) ?_
    | with_reducible refine Kept.of_fst (by with_reducible assumption) ?_ | with_reducible refine Kept.of_trd (by with_reducible assumption) ?_
    | with_reducible apply foldl_kept | simp only [Kept.upd_iff, Kept.updStart_iff] | intro _ _ _ | intro _ _ | split
    | (fail_if_no_progress dsimp only)

theorem State.txNow_kept {r s : State} (h : Kept r s) (a : Nat) (b : Frame) : Kept r (State.txNow s a b) := by
  simp only [State.txNow]
  repeat'
    first
    | with_reducible assumption | with_reducible apply State.updPort_kept | with_reducible apply State.freeFrame_kept
    | with_reducible apply State.segWired_kept | with_reducible apply State.when_kept | with_reducible apply State.setF_kept
    | with_reducible apply State.emit_kept | with_reducible apply State.count_kept
    | with_reducible refine Kept.of_snd (by with_reducible assumption) ?_ | with_reducible refine Kept.of_fst (by with_reducible assumption) ?_
    | with_reducible refine Kept.of_trd (by with_reducible assumption) ?_ | with_reducible apply foldl_kept
    | simp only [Kept.upd_iff, Kept.updStart_iff] | intro _ _ _ | intro _ _ | split | (fail_if_no_progress dsimp only)

theorem State.pump_kept {r s : State} (h : Kept r s) (a : Nat) (b : Nat) : Kept r (State.pump s a b) := by
  induction b generalizing s a with
  | zero => exact h
  | succ n ih =>
    simp only [State.pump]
    repeat'
      first
      | with_reducible assumption | with_reducible apply ih | with_reducible apply State.txNow_kept
      | with_reducible refine Kept.of_snd (by with_reducible assumption) ?_ | with_reducible refine Kept.of_fst (by with_reducible assumption) ?_
      | with_reducible refine Kept.of_trd (by with_reducible assumption) ?_ | with_reducible apply foldl_kept
      | simp only [Kept.upd_iff, Kept.updStart_iff] | intro _ _ _ | intro _ _ | split | (fail_if_no_progress dsimp only)

theorem State.pumpAll_kept {r s : State} (h : Kept r s) (a : Nat) : Kept r (State.pumpAll s a) := by
  simp only [State.pumpAll]
  repeat'
    first
    | with_reducible assumption | with_reducible apply State.pump_kept | with_reducible apply foldl_kept
    | simp only [Kept.upd_iff, Kept.updStart_iff] | intro _ _ _ | intro _ _ | split | (fail_if_no_progress dsimp only)

theorem State.txFrame_kept {r s : State} (h : Kept r s) (a : Nat) (b : Frame) : Kept r (State.txFrame s a b) := by
  simp only [State.txFrame]
  repeat'
    first
    | with_reducible assumption | with_reducible apply State.pumpAll_kept | with_reducible apply State.updPort_kept
    | with_reducible apply foldl_kept | simp only [Kept.upd_iff, Kept.updStart_iff] | intro _ _ _ | intro _ _ | split
    | (fail_if_no_progress dsimp only)

theorem State.wire_kept {r s : State} (h : Kept r s) (a : Nat) (b : Frame) : Kept r (State.wire s a b) := by
  simp only [State.wire]
  repeat'
    first
    | with_reducible assumption | with_reducible apply State.txFrame_kept | with_reducible apply foldl_kept
    | simp only [Kept.upd_iff, Kept.updStart_iff] | intro _ _ _ | intro _ _ | split | (fail_if_no_progress dsimp only)

theorem State.sendNow_kept {r s : State} (h : Kept r s) (a : Nat) (b : Nat) (c : Msg) : Kept r (State.sendNow s a b c) := by
  simp only [State.sendNow]
  repeat'
    first
    | with_reducible assumption | with_reducible apply State.wire_kept | with_reducible apply State.emit_kept | with_reducible apply foldl_kept
    | simp only [Kept.upd_iff, Kept.updStart_iff] | intro _ _ _ | intro _ _ | split | (fail_if_no_progress dsimp only)

theorem State.send_kept {r s : State} (h : Kept r s) (a : Nat) (b : Msg) (c : Option Nat) (d : Option Nat) (e : Option CmdRef) (g : Bool) : Kept
    r (State.send s a b c d e g) := by
  simp only [State.send]
  repeat'
    first
    | with_reducible assumption | with_reducible apply State.sendNow_kept | with_reducible refine Kept.of_snd (by with_reducible assumption) ?_
    | with_reducible refine Kept.of_fst (by with_reducible assumption) ?_ | with_reducible refine Kept.of_trd (by with_reducible assumption) ?_
    | with_reducible apply foldl_kept | simp only [Kept.upd_iff, Kept.updStart_iff] | intro _ _ _ | intro _ _ | split
    | (fail_if_no_progress dsimp only)

theorem State.outboxOf_kept {r s : State} (h : Kept r s) (a : Nat) : Kept r (State.outboxOf s a) := by
  simp only [State.outboxOf]
  repeat'
    first
    | with_reducible assumption | with_reducible apply State.sendNow_kept | with_reducible apply foldl_kept
    | simp only [Kept.upd_iff, Kept.updStart_iff] | intro _ _ _ | intro _ _ | split | (fail_if_no_progress dsimp only)

theorem State.outboxPoll_kept {r s : State} (h : Kept r s) : Kept r (State.outboxPoll s) := by
  simp only [State.outboxPoll]
  repeat'
    first
    | with_reducible assumption | with_reducible apply State.outboxOf_kept | with_reducible apply foldl_kept
    | simp only [Kept.upd_iff, Kept.updStart_iff] | intro _ _ _ | intro _ _ | split | (fail_if_no_progress dsimp only)

theorem State.flood_kept {r s : State} (h : Kept r s) (a : Nat) (b : Nat) (c : Msg) : Kept r (State.flood s a b c) := by
  simp only [State.flood]
  repeat'
    first
    | with_reducible assumption | with_reducible apply State.txFrame_kept | with_reducible apply State.emit_kept
    | with_reducible apply foldl_kept | simp only [Kept.upd_iff, Kept.updStart_iff] | intro _ _ _ | intro _ _ | split
    | (fail_if_no_progress dsimp only)

theorem State.sees_kept {r s : State} (h : Kept r s) (a : Nat) (b : Nat) : Kept r (State.sees s a b) := by
  simp only [State.sees]
  repeat'
    first
    | with_reducible assumption | with_reducible refine Kept.of_snd (by with_reducible assumption) ?_
    | with_reducible refine Kept.of_fst (by with_reducible assumption) ?_ | with_reducible refine Kept.of_trd (by with_reducible assumption) ?_
    | with_reducible apply foldl_kept | simp only [Kept.upd_iff, Kept.updStart_iff] | intro _ _ _ | intro _ _ | split
    | (fail_if_no_progress dsimp only)

theorem State.broadcast_kept {r s : State} (h : Kept r s) (a : Msg) : Kept r (State.broadcast s a) := by
  simp only [State.broadcast]
  repeat'
    first
    | with_reducible assumption | with_reducible apply State.sees_kept | with_reducible apply State.flood_kept
    | with_reducible refine Kept.of_snd (by with_reducible assumption) ?_ | with_reducible refine Kept.of_fst (by with_reducible assumption) ?_
    | with_reducible refine Kept.of_trd (by with_reducible assumption) ?_ | with_reducible apply foldl_kept
    | simp only [Kept.upd_iff, Kept.updStart_iff] | intro _ _ _ | intro _ _ | split | (fail_if_no_progress dsimp only)

theorem State.nextIv_kept {r s : State} (h : Kept r s) (a : Nat) : Kept r (State.nextIv s a).2 := by
  exact Kept.upd_iff.2 h

theorem State.drawFlits_kept {r s : State} (h : Kept r s) (n : Nat) : Kept r (State.drawFlits s n).2 :=
  ⟨h.pending, h.fuses, h.out, Nat.le_trans h.fresh (Nat.le_add_right _ _)⟩

theorem State.sendSeg_kept {r s : State} (h : Kept r s) (a : Nat) (b : Nat) (c : SegDesc) (d : List Word) : Kept r (State.sendSeg s a b c d) :=
    by
  simp only [State.sendSeg]
  repeat'
    first
    | with_reducible assumption | with_reducible apply State.wire_kept | with_reducible apply State.emit_kept
    | with_reducible refine Kept.of_snd (by with_reducible assumption) ?_ | with_reducible refine Kept.of_fst (by with_reducible assumption) ?_
    | with_reducible refine Kept.of_trd (by with_reducible assumption) ?_ | with_reducible apply foldl_kept
    | simp only [Kept.upd_iff, Kept.updStart_iff] | intro _ _ _ | intro _ _ | split | (fail_if_no_progress dsimp only)

theorem State.someFlits_kept {r s : State} (h : Kept r s) : Kept r (State.someFlits s).2 := by
  simp only [State.someFlits]
  repeat'
    first
    | with_reducible assumption | with_reducible apply State.drawFlits_kept | with_reducible apply State.draw_kept | with_reducible refine Kept.of_snd (by with_reducible assumption) ?_
    | with_reducible refine Kept.of_fst (by with_reducible assumption) ?_ | with_reducible refine Kept.of_trd (by with_reducible assumption) ?_
    | with_reducible apply foldl_kept | simp only [Kept.upd_iff, Kept.updStart_iff] | intro _ _ _ | intro _ _ | split
    | (fail_if_no_progress dsimp only)

theorem State.endLoad_kept {r s : State} (h : Kept r s) (a : Nat) (b : Nat) : Kept r (State.endLoad s a b) := by
  simp only [State.endLoad]
  repeat'
    first
    | with_reducible assumption | with_reducible apply State.setB_kept | with_reducible apply State.setF_kept
    | with_reducible apply State.emit_kept | with_reducible apply foldl_kept | simp only [Kept.upd_iff, Kept.updStart_iff] | intro _ _ _
    | intro _ _ | split | (fail_if_no_progress dsimp only)

theorem State.globalStopCore_kept {r s : State} (h : Kept r s) (a : Nat) : Kept r (State.globalStopCore s a) := by
  simp only [State.globalStopCore]
  repeat'
    first
    | with_reducible assumption | with_reducible apply State.emits_kept | with_reducible apply State.when_kept
    | with_reducible apply State.endLoad_kept | with_reducible apply State.setB_kept | with_reducible apply State.setF_kept
    | with_reducible apply State.setReg_kept | with_reducible apply State.broadcast_kept | with_reducible apply State.raise_kept
    | with_reducible refine Kept.of_snd (by with_reducible assumption) ?_ | with_reducible refine Kept.of_fst (by with_reducible assumption) ?_
    | with_reducible refine Kept.of_trd (by with_reducible assumption) ?_ | with_reducible apply foldl_kept
    | simp only [Kept.upd_iff, Kept.updStart_iff] | intro _ _ _ | intro _ _ | split | (fail_if_no_progress dsimp only)

theorem State.softStopCore_kept {r s : State} (h : Kept r s) (a : Nat) : Kept r (State.softStopCore s a) := by
  simp only [State.softStopCore]
  repeat'
    first
    | with_reducible assumption | with_reducible apply State.broadcast_kept | with_reducible apply State.raise_kept
    | with_reducible apply State.when_kept | with_reducible apply State.setB_kept | with_reducible apply State.setF_kept
    | with_reducible apply State.setReg_kept | with_reducible apply foldl_kept | simp only [Kept.upd_iff, Kept.updStart_iff] | intro _ _ _
    | intro _ _ | split | (fail_if_no_progress dsimp only)

theorem State.devRecordAt_kept {r s : State} (h : Kept r s) (a : Nat) (b : Nat) (c : Nat) : Kept r (State.devRecordAt s a b c) := by
  simp only [State.devRecordAt]
  repeat'
    first
    | with_reducible assumption | with_reducible apply State.ringWrite_kept | with_reducible refine Kept.of_snd (by with_reducible assumption) ?_
    | with_reducible refine Kept.of_fst (by with_reducible assumption) ?_ | with_reducible refine Kept.of_trd (by with_reducible assumption) ?_
    | with_reducible apply foldl_kept | simp only [Kept.upd_iff, Kept.updStart_iff] | intro _ _ _ | intro _ _ | split
    | (fail_if_no_progress dsimp only)

theorem State.devRecord_kept {r s : State} (h : Kept r s) (a : Nat) (b : Nat) : Kept r (State.devRecord s a b) := by
  simp only [State.devRecord]
  repeat'
    first
    | with_reducible assumption | with_reducible apply State.devRecordAt_kept
    | with_reducible refine Kept.of_snd (by with_reducible assumption) ?_ | with_reducible refine Kept.of_fst (by with_reducible assumption) ?_
    | with_reducible refine Kept.of_trd (by with_reducible assumption) ?_ | with_reducible apply foldl_kept
    | simp only [Kept.upd_iff, Kept.updStart_iff] | intro _ _ _ | intro _ _ | split | (fail_if_no_progress dsimp only)

theorem State.freezeRecord_kept {r s : State} (h : Kept r s) : Kept r (State.freezeRecord s) := by
  simp only [State.freezeRecord]
  repeat'
    first
    | with_reducible assumption | with_reducible apply State.devRecordAt_kept
    | with_reducible refine Kept.of_snd (by with_reducible assumption) ?_ | with_reducible refine Kept.of_fst (by with_reducible assumption) ?_
    | with_reducible refine Kept.of_trd (by with_reducible assumption) ?_ | with_reducible apply foldl_kept
    | simp only [Kept.upd_iff, Kept.updStart_iff] | intro _ _ _ | intro _ _ | split | (fail_if_no_progress dsimp only)

theorem State.triggerAct_kept {r s : State} (h : Kept r s) : Kept r (State.triggerAct s) := by
  simp only [State.triggerAct]
  repeat'
    first
    | with_reducible assumption | with_reducible apply State.setB_kept | with_reducible apply State.softStopCore_kept
    | with_reducible apply State.when_kept | with_reducible apply State.broadcast_kept | with_reducible apply State.devRecord_kept
    | with_reducible apply State.globalStopCore_kept | with_reducible apply State.freezeRecord_kept | with_reducible apply State.freezeCore_kept
    | with_reducible refine Kept.of_snd (by with_reducible assumption) ?_ | with_reducible refine Kept.of_fst (by with_reducible assumption) ?_
    | with_reducible refine Kept.of_trd (by with_reducible assumption) ?_ | with_reducible apply foldl_kept
    | simp only [Kept.upd_iff, Kept.updStart_iff] | intro _ _ _ | intro _ _ | split | (fail_if_no_progress dsimp only)

theorem State.trigger_kept {r s : State} (h : Kept r s) (a : Nat) (b : Nat) (c : Nat) : Kept r (State.trigger s a b c) := by
  simp only [State.trigger]
  repeat'
    first
    | with_reducible assumption | with_reducible apply State.triggerAct_kept | with_reducible apply foldl_kept
    | simp only [Kept.upd_iff, Kept.updStart_iff] | intro _ _ _ | intro _ _ | split | (fail_if_no_progress dsimp only)

theorem State.lossTrigger_kept {r s : State} (h : Kept r s) (a : Nat) : Kept r (State.lossTrigger s a) := by
  simp only [State.lossTrigger]
  repeat'
    first
    | with_reducible assumption | with_reducible apply State.when_kept | with_reducible apply State.trigger_kept
    | with_reducible refine Kept.of_snd (by with_reducible assumption) ?_ | with_reducible refine Kept.of_fst (by with_reducible assumption) ?_
    | with_reducible refine Kept.of_trd (by with_reducible assumption) ?_ | with_reducible apply foldl_kept
    | simp only [Kept.upd_iff, Kept.updStart_iff] | intro _ _ _ | intro _ _ | split | (fail_if_no_progress dsimp only)

theorem State.traceDevAt_kept {r s : State} (h : Kept r s) (a : Nat) (b : Nat) (c : Nat) : Kept r (State.traceDevAt s a b c) := by
  simp only [State.traceDevAt]
  repeat'
    first
    | with_reducible assumption | with_reducible apply State.trigger_kept | with_reducible apply State.lossTrigger_kept
    | with_reducible apply State.devRecordAt_kept | with_reducible refine Kept.of_snd (by with_reducible assumption) ?_
    | with_reducible refine Kept.of_fst (by with_reducible assumption) ?_ | with_reducible refine Kept.of_trd (by with_reducible assumption) ?_
    | with_reducible apply foldl_kept | simp only [Kept.upd_iff, Kept.updStart_iff] | intro _ _ _ | intro _ _ | split
    | (fail_if_no_progress dsimp only)

theorem State.traceDev_kept {r s : State} (h : Kept r s) (a : Nat) (b : Nat) : Kept r (State.traceDev s a b) := by
  simp only [State.traceDev]
  repeat'
    first
    | with_reducible assumption | with_reducible apply State.traceDevAt_kept
    | with_reducible refine Kept.of_snd (by with_reducible assumption) ?_ | with_reducible refine Kept.of_fst (by with_reducible assumption) ?_
    | with_reducible refine Kept.of_trd (by with_reducible assumption) ?_ | with_reducible apply foldl_kept
    | simp only [Kept.upd_iff, Kept.updStart_iff] | intro _ _ _ | intro _ _ | split | (fail_if_no_progress dsimp only)

theorem State.traceCmd_kept {r s : State} (h : Kept r s) (a : Nat) (b : CmdTag) (c : Word) : Kept r (State.traceCmd s a b c) := by
  simp only [State.traceCmd]
  repeat'
    first
    | with_reducible assumption | with_reducible apply State.trigger_kept | with_reducible apply State.lossTrigger_kept
    | with_reducible apply State.ringWrite_kept | with_reducible apply State.when_kept
    | with_reducible refine Kept.of_snd (by with_reducible assumption) ?_ | with_reducible refine Kept.of_fst (by with_reducible assumption) ?_
    | with_reducible refine Kept.of_trd (by with_reducible assumption) ?_ | with_reducible apply foldl_kept
    | simp only [Kept.upd_iff, Kept.updStart_iff] | intro _ _ _ | intro _ _ | split | (fail_if_no_progress dsimp only)

theorem State.freezePoll_kept {r s : State} (h : Kept r s) : Kept r (State.freezePoll s) := by
  simp only [State.freezePoll]
  repeat'
    first
    | with_reducible assumption | with_reducible apply State.traceDevAt_kept
    | with_reducible refine Kept.of_snd (by with_reducible assumption) ?_ | with_reducible refine Kept.of_fst (by with_reducible assumption) ?_
    | with_reducible refine Kept.of_trd (by with_reducible assumption) ?_ | with_reducible apply foldl_kept
    | simp only [Kept.upd_iff, Kept.updStart_iff] | intro _ _ _ | intro _ _ | split | (fail_if_no_progress dsimp only)

theorem State.freeze_kept {r s : State} (h : Kept r s) (a : Nat) : Kept r (State.freeze s a) := by
  simp only [State.freeze]
  repeat'
    first
    | with_reducible assumption | with_reducible apply State.freezePoll_kept | with_reducible apply State.freezeCore_kept
    | with_reducible refine Kept.of_snd (by with_reducible assumption) ?_ | with_reducible refine Kept.of_fst (by with_reducible assumption) ?_
    | with_reducible refine Kept.of_trd (by with_reducible assumption) ?_ | with_reducible apply foldl_kept
    | simp only [Kept.upd_iff, Kept.updStart_iff] | intro _ _ _ | intro _ _ | split | (fail_if_no_progress dsimp only)

theorem State.rungRec_kept {r s : State} (h : Kept r s) (a : Nat) (b : Bool) (c : Bool) : Kept r (State.rungRec s a b c) := by
  simp only [State.rungRec]
  repeat'
    first
    | with_reducible assumption | with_reducible apply State.traceDev_kept | with_reducible apply foldl_kept
    | simp only [Kept.upd_iff, Kept.updStart_iff] | intro _ _ _ | intro _ _ | split | (fail_if_no_progress dsimp only)

theorem State.rungExited_kept {r s : State} (h : Kept r s) : Kept r (State.rungExited s) := by
  simp only [State.rungExited]
  repeat'
    first
    | with_reducible assumption | with_reducible apply State.rungRec_kept | with_reducible apply State.emit_kept
    | with_reducible apply foldl_kept | simp only [Kept.upd_iff, Kept.updStart_iff] | intro _ _ _ | intro _ _ | split
    | (fail_if_no_progress dsimp only)

theorem State.hostWake_kept {r s : State} (h : Kept r s) : Kept r (State.hostWake s) := by
  simp only [State.hostWake]
  repeat'
    first
    | with_reducible assumption | with_reducible apply State.rungExited_kept | with_reducible apply State.wake_kept
    | with_reducible apply foldl_kept | simp only [Kept.upd_iff, Kept.updStart_iff] | intro _ _ _ | intro _ _ | split
    | (fail_if_no_progress dsimp only)

theorem State.globalStop_kept {r s : State} (h : Kept r s) (a : Nat) : Kept r (State.globalStop s a) := by
  simp only [State.globalStop]
  repeat'
    first
    | with_reducible assumption | with_reducible apply State.traceDev_kept | with_reducible apply State.globalStopCore_kept
    | with_reducible apply State.when_kept | with_reducible apply foldl_kept | simp only [Kept.upd_iff, Kept.updStart_iff] | intro _ _ _
    | intro _ _ | split | (fail_if_no_progress dsimp only)

theorem State.softStop_kept {r s : State} (h : Kept r s) (a : Nat) : Kept r (State.softStop s a) := by
  simp only [State.softStop]
  repeat'
    first
    | with_reducible assumption | with_reducible apply State.traceDev_kept | with_reducible apply State.softStopCore_kept
    | with_reducible apply State.when_kept | with_reducible apply foldl_kept | simp only [Kept.upd_iff, Kept.updStart_iff] | intro _ _ _
    | intro _ _ | split | (fail_if_no_progress dsimp only)

theorem State.errCount_kept {r s : State} (h : Kept r s) (a : Nat) : Kept r (State.errCount s a) := by
  simp only [State.errCount]
  repeat'
    first
    | with_reducible assumption | with_reducible apply State.bump_kept | with_reducible apply foldl_kept
    | simp only [Kept.upd_iff, Kept.updStart_iff] | intro _ _ _ | intro _ _ | split | (fail_if_no_progress dsimp only)

theorem State.logErr_kept {r s : State} (h : Kept r s) (a : ErrRec) : Kept r (State.logErr s a) := by
  simp only [State.logErr]
  repeat'
    first
    | with_reducible assumption | with_reducible apply State.errCount_kept | with_reducible apply State.traceDev_kept
    | with_reducible apply State.raise_kept | with_reducible apply State.when_kept | with_reducible apply State.setB_kept
    | with_reducible apply State.setF_kept | with_reducible apply State.setReg_kept | with_reducible apply foldl_kept
    | simp only [Kept.upd_iff, Kept.updStart_iff] | intro _ _ _ | intro _ _ | split | (fail_if_no_progress dsimp only)

theorem State.updCtx_kept {r s : State} (h : Kept r s) (a : Nat) (b : Ctx → Ctx) : Kept r (State.updCtx s a b) := by
  exact Kept.upd_iff.2 h

theorem State.updFlight_kept {r s : State} (h : Kept r s) (a : Nat) (b : Flight → Flight) : Kept r (State.updFlight s a b) := by
  exact Kept.upd_iff.2 h

theorem State.updTask_kept {r s : State} (h : Kept r s) (a : Nat) (b : Task → Task) : Kept r (State.updTask s a b) := by
  exact Kept.upd_iff.2 h

theorem State.updSq_kept {r s : State} (h : Kept r s) (a : Nat) (b : Sq → Sq) : Kept r (State.updSq s a b) := by
  exact Kept.upd_iff.2 h

theorem State.updCr_kept {r s : State} (h : Kept r s) (a : Nat) (b : Cr → Cr) : Kept r (State.updCr s a b) := by
  exact Kept.upd_iff.2 h

theorem State.updCore_kept {r s : State} (h : Kept r s) (a : Nat) (b : Core → Core) : Kept r (State.updCore s a b) := by
  exact Kept.upd_iff.2 h

theorem State.updEng_kept {r s : State} (h : Kept r s) (a : Nat) (b : Eng → Eng) : Kept r (State.updEng s a b) := by
  exact Kept.upd_iff.2 h

theorem State.clampVc_kept {r s : State} (h : Kept r s) (a : Nat) : Kept r (State.clampVc s a) := by
  simp only [State.clampVc]
  repeat'
    first
    | with_reducible assumption | with_reducible apply State.updCtx_kept | with_reducible apply foldl_kept
    | simp only [Kept.upd_iff, Kept.updStart_iff] | intro _ _ _ | intro _ _ | split | (fail_if_no_progress dsimp only)

theorem State.activate_kept {r s : State} (h : Kept r s) (a : Nat) : Kept r (State.activate s a) := by
  simp only [State.activate]
  repeat'
    first
    | with_reducible assumption | with_reducible apply State.clampVc_kept | with_reducible apply State.updCtx_kept
    | with_reducible apply foldl_kept | simp only [Kept.upd_iff, Kept.updStart_iff] | intro _ _ _ | intro _ _ | split
    | (fail_if_no_progress dsimp only)

theorem State.progress_kept {r s : State} (h : Kept r s) (a : Nat) : Kept r (State.progress s a) := by
  exact Kept.upd_iff.2 h

theorem State.addVc_kept {r s : State} (h : Kept r s) (a : Nat) (b : Nat) : Kept r (State.addVc s a b) := by
  simp only [State.addVc]
  repeat'
    first
    | with_reducible assumption | with_reducible apply State.clampVc_kept | with_reducible apply State.updCtx_kept
    | with_reducible apply foldl_kept | simp only [Kept.upd_iff, Kept.updStart_iff] | intro _ _ _ | intro _ _ | split
    | (fail_if_no_progress dsimp only)

theorem State.serveSources_kept {r s : State} (h : Kept r s) : Kept r (State.serveSources s) := by
  simp only [State.serveSources]
  repeat'
    first
    | with_reducible assumption | with_reducible apply State.draw_kept | with_reducible apply State.setReg_kept
    | with_reducible refine Kept.of_snd (by with_reducible assumption) ?_ | with_reducible refine Kept.of_fst (by with_reducible assumption) ?_
    | with_reducible refine Kept.of_trd (by with_reducible assumption) ?_ | with_reducible apply foldl_kept
    | simp only [Kept.upd_iff, Kept.updStart_iff] | intro _ _ _ | intro _ _ | split | (fail_if_no_progress dsimp only)

theorem State.at_kept {r s : State} (h : Kept r s) (a : Nat) : Kept r (State.at s a) := by
  simp only [State.at]
  repeat'
    first
    | with_reducible assumption | with_reducible apply State.serveSources_kept | with_reducible apply State.setReg_kept
    | with_reducible apply State.coreTime_kept | with_reducible apply State.when_kept
    | with_reducible refine Kept.of_snd (by with_reducible assumption) ?_ | with_reducible refine Kept.of_fst (by with_reducible assumption) ?_
    | with_reducible refine Kept.of_trd (by with_reducible assumption) ?_ | with_reducible apply foldl_kept
    | simp only [Kept.upd_iff, Kept.updStart_iff] | intro _ _ _ | intro _ _ | split | (fail_if_no_progress dsimp only)

theorem State.freeSlots_kept {r s : State} (h : Kept r s) (a : Nat) : Kept r (State.freeSlots s a) := by
  exact Kept.upd_iff.2 h

theorem State.dropDue_kept {r s : State} (h : Kept r s) (a : Due → Bool) : Kept r (State.dropDue s a) := by
  simp only [State.dropDue]
  repeat'
    first
    | with_reducible assumption | with_reducible apply State.updTask_kept | with_reducible apply foldl_kept
    | simp only [Kept.upd_iff, Kept.updStart_iff] | intro _ _ _ | intro _ _ | split | (fail_if_no_progress dsimp only)

theorem State.dropJobs_kept {r s : State} (h : Kept r s) (a : Nat → Bool) : Kept r (State.dropJobs s a) := by
  exact Kept.upd_iff.2 h

theorem State.emptyBanks_kept {r s : State} (h : Kept r s) (a : Nat) : Kept r (State.emptyBanks s a) := by
  exact Kept.upd_iff.2 h

theorem State.discard_kept {r s : State} (h : Kept r s) (a : Nat) : Kept r (State.discard s a) := by
  simp only [State.discard]
  repeat'
    first
    | with_reducible assumption | with_reducible apply State.emptyBanks_kept | with_reducible apply State.dropJobs_kept
    | with_reducible apply State.dropDue_kept | with_reducible apply State.freeSlots_kept | with_reducible apply State.updTask_kept
    | with_reducible apply State.count_kept | with_reducible apply State.bump_kept | with_reducible apply foldl_kept
    | simp only [Kept.upd_iff, Kept.updStart_iff] | intro _ _ _ | intro _ _ | split | (fail_if_no_progress dsimp only)

theorem State.dropHints_kept {r s : State} (h : Kept r s) (a : Hint → Bool) : Kept r (State.dropHints s a) := by
  exact Kept.upd_iff.2 h

theorem State.resetFront_kept {r s : State} (h : Kept r s) : Kept r (State.resetFront s) := by
  simp only [State.resetFront]
  repeat'
    first
    | with_reducible assumption | with_reducible apply State.discard_kept | with_reducible apply State.dropDue_kept
    | with_reducible apply State.dropJobs_kept | with_reducible refine Kept.of_snd (by with_reducible assumption) ?_
    | with_reducible refine Kept.of_fst (by with_reducible assumption) ?_ | with_reducible refine Kept.of_trd (by with_reducible assumption) ?_
    | with_reducible apply foldl_kept | simp only [Kept.upd_iff, Kept.updStart_iff] | intro _ _ _ | intro _ _ | split
    | (fail_if_no_progress dsimp only)

theorem State.zeroiseKeys_kept {r s : State} (h : Kept r s) : Kept r (State.zeroiseKeys s) := by
  simp only [State.zeroiseKeys]
  repeat'
    first
    | with_reducible assumption | with_reducible apply State.setReg_kept | with_reducible apply State.setF_kept
    | with_reducible refine Kept.of_snd (by with_reducible assumption) ?_ | with_reducible refine Kept.of_fst (by with_reducible assumption) ?_
    | with_reducible refine Kept.of_trd (by with_reducible assumption) ?_ | with_reducible apply foldl_kept
    | simp only [Kept.upd_iff, Kept.updStart_iff] | intro _ _ _ | intro _ _ | split | (fail_if_no_progress dsimp only)

theorem State.portOff_kept {r s : State} (h : Kept r s) (a : Nat) : Kept r (State.portOff s a) := by
  simp only [State.portOff]
  repeat'
    first
    | with_reducible assumption | with_reducible apply State.setF_kept | with_reducible apply State.setB_kept
    | with_reducible refine Kept.of_snd (by with_reducible assumption) ?_ | with_reducible refine Kept.of_fst (by with_reducible assumption) ?_
    | with_reducible refine Kept.of_trd (by with_reducible assumption) ?_ | with_reducible apply foldl_kept
    | simp only [Kept.upd_iff, Kept.updStart_iff] | intro _ _ _ | intro _ _ | split | (fail_if_no_progress dsimp only)

theorem State.doubleFault_kept {r s : State} (h : Kept r s) (a : Nat) : Kept r (State.doubleFault s a) := by
  simp only [State.doubleFault]
  repeat'
    first
    | with_reducible assumption | with_reducible apply State.portOff_kept | with_reducible apply State.emits_kept
    | with_reducible apply State.zeroiseKeys_kept | with_reducible apply State.setB_kept | with_reducible apply State.logErr_kept
    | with_reducible apply State.when_kept | with_reducible apply State.raise_kept | with_reducible apply State.emit_kept
    | with_reducible refine Kept.of_snd (by with_reducible assumption) ?_ | with_reducible refine Kept.of_fst (by with_reducible assumption) ?_
    | with_reducible refine Kept.of_trd (by with_reducible assumption) ?_ | with_reducible apply foldl_kept
    | simp only [Kept.upd_iff, Kept.updStart_iff] | intro _ _ _ | intro _ _ | split | (fail_if_no_progress dsimp only)

theorem State.capture_kept {r s : State} (h : Kept r s) (a : RegrowInfo) (b : Bool) : Kept r (State.capture s a b) := by
  simp only [State.capture]
  repeat'
    first
    | with_reducible assumption | with_reducible apply State.setReg_kept | with_reducible refine Kept.of_snd (by with_reducible assumption) ?_
    | with_reducible refine Kept.of_fst (by with_reducible assumption) ?_ | with_reducible refine Kept.of_trd (by with_reducible assumption) ?_
    | with_reducible apply foldl_kept | simp only [Kept.upd_iff, Kept.updStart_iff] | intro _ _ _ | intro _ _ | split
    | (fail_if_no_progress dsimp only)

theorem State.cutLoad_kept {r s : State} (h : Kept r s) : Kept r (State.cutLoad s) := by
  simp only [State.cutLoad]
  repeat'
    first
    | with_reducible assumption | with_reducible apply State.endLoad_kept | with_reducible apply State.when_kept
    | with_reducible apply foldl_kept | simp only [Kept.upd_iff, Kept.updStart_iff] | intro _ _ _ | intro _ _ | split
    | (fail_if_no_progress dsimp only)

theorem State.startRegrow_kept {r s : State} (h : Kept r s) (a : RegrowInfo) (b : List TabErr) : Kept r (State.startRegrow s a b) := by
  simp only [State.startRegrow]
  repeat'
    first
    | with_reducible assumption | with_reducible apply State.wake_kept | with_reducible apply State.setF_kept
    | with_reducible apply State.doubleFault_kept | with_reducible apply State.setB_kept | with_reducible apply State.bump_kept
    | with_reducible apply State.capture_kept | with_reducible apply State.logErr_kept | with_reducible apply State.when_kept
    | with_reducible apply State.cutLoad_kept | with_reducible apply State.resetFront_kept | with_reducible apply State.dropReads_kept
    | with_reducible refine Kept.of_snd (by with_reducible assumption) ?_ | with_reducible refine Kept.of_fst (by with_reducible assumption) ?_
    | with_reducible refine Kept.of_trd (by with_reducible assumption) ?_ | with_reducible apply foldl_kept
    | simp only [Kept.upd_iff, Kept.updStart_iff] | intro _ _ _ | intro _ _ | split | (fail_if_no_progress dsimp only)

theorem State.refuseCnt_kept {r s : State} (h : Kept r s) : Kept r (State.refuseCnt s) := by
  simp only [State.refuseCnt]
  repeat'
    first
    | with_reducible assumption | with_reducible apply State.bump_kept | with_reducible apply foldl_kept
    | simp only [Kept.upd_iff, Kept.updStart_iff] | intro _ _ _ | intro _ _ | split | (fail_if_no_progress dsimp only)

theorem State.writePi_kept {r s : State} (h : Kept r s) (a : Nat) (b : Sq) (c : Half) : Kept r (State.writePi s a b c).2 := by
  simp only [State.writePi]
  repeat'
    first
    | with_reducible assumption | with_reducible apply State.updSq_kept | with_reducible refine Kept.of_snd (by with_reducible assumption) ?_
    | with_reducible refine Kept.of_fst (by with_reducible assumption) ?_ | with_reducible refine Kept.of_trd (by with_reducible assumption) ?_
    | with_reducible apply foldl_kept | simp only [Kept.upd_iff, Kept.updStart_iff] | intro _ _ _ | intro _ _ | split
    | (fail_if_no_progress dsimp only)

theorem State.urgent_kept {r s : State} (h : Kept r s) (a : Option Nat) : Kept r (State.urgent s a) := by
  exact Kept.upd_iff.2 h

theorem State.doorbell_kept {r s : State} (h : Kept r s) (a : Nat) (b : Nat) (c : Word) : Kept r (State.doorbell s a b c) := by
  simp only [State.doorbell]
  repeat'
    first
    | with_reducible assumption | with_reducible apply State.urgent_kept | with_reducible apply State.writePi_kept
    | with_reducible apply State.wake_kept | with_reducible refine Kept.of_snd (by with_reducible assumption) ?_
    | with_reducible refine Kept.of_fst (by with_reducible assumption) ?_ | with_reducible refine Kept.of_trd (by with_reducible assumption) ?_
    | with_reducible apply foldl_kept | simp only [Kept.upd_iff, Kept.updStart_iff] | intro _ _ _ | intro _ _ | split
    | (fail_if_no_progress dsimp only)

theorem State.fetch_kept {r s : State} (h : Kept r s) (a : ReadTag) (b : Word) (c : Nat) (d : Half) (e : Nat) : Kept r (State.fetch s a b c d e) :=
  by
  simp only [State.fetch]
  repeat'
    first
    | with_reducible assumption | with_reducible apply State.readMem_kept | with_reducible apply foldl_kept
    | simp only [Kept.upd_iff, Kept.updStart_iff] | intro _ _ _ | intro _ _ | split | (fail_if_no_progress dsimp only)

theorem State.markShort_kept {r s : State} (h : Kept r s) (a : Option Nat) (b : Bool) : Kept r (State.markShort s a b) := by
  exact Kept.upd_iff.2 h

theorem State.noteVisit_kept {r s : State} (h : Kept r s) (a : Nat) (b : Nat) : Kept r (State.noteVisit s a b) := by
  exact Kept.upd_iff.2 h

theorem State.visitSq_kept {r s : State} (h : Kept r s) (a : Nat) : Kept r (State.visitSq s a) := by
  simp only [State.visitSq]
  repeat'
    first
    | with_reducible assumption | with_reducible apply State.noteVisit_kept | with_reducible apply State.markShort_kept
    | with_reducible apply State.fetch_kept | with_reducible apply State.updCr_kept | with_reducible apply State.updSq_kept
    | with_reducible apply foldl_kept | simp only [Kept.upd_iff, Kept.updStart_iff] | intro _ _ _ | intro _ _ | split
    | (fail_if_no_progress dsimp only)

theorem State.admFetch_kept {r s : State} (h : Kept r s) (a : Half) (b : Nat) : Kept r (State.admFetch s a b) := by
  simp only [State.admFetch]
  repeat'
    first
    | with_reducible assumption | with_reducible apply State.fetch_kept | with_reducible apply foldl_kept
    | simp only [Kept.upd_iff, Kept.updStart_iff] | intro _ _ _ | intro _ _ | split | (fail_if_no_progress dsimp only)

theorem State.admAgain_kept {r s : State} (h : Kept r s) (a : Nat) : Kept r (State.admAgain s a) := by
  induction a generalizing s with
  | zero => exact h
  | succ n ih =>
    simp only [State.admAgain]
    repeat'
      first
      | with_reducible assumption | with_reducible apply ih | with_reducible apply State.admFetch_kept
      | with_reducible refine Kept.of_snd (by with_reducible assumption) ?_ | with_reducible refine Kept.of_fst (by with_reducible assumption) ?_
      | with_reducible refine Kept.of_trd (by with_reducible assumption) ?_ | with_reducible apply foldl_kept
      | simp only [Kept.upd_iff, Kept.updStart_iff] | intro _ _ _ | intro _ _ | split | (fail_if_no_progress dsimp only)

theorem State.visitAdm_kept {r s : State} (h : Kept r s) : Kept r (State.visitAdm s) := by
  simp only [State.visitAdm]
  repeat'
    first
    | with_reducible assumption | with_reducible apply State.admAgain_kept | with_reducible apply State.admFetch_kept
    | with_reducible apply State.markShort_kept | with_reducible apply foldl_kept | simp only [Kept.upd_iff, Kept.updStart_iff] | intro _ _ _
    | intro _ _ | split | (fail_if_no_progress dsimp only)

theorem State.visit_kept {r s : State} (h : Kept r s) (a : Option Nat) (b : Bool) : Kept r (State.visit s a b) := by
  simp only [State.visit]
  repeat'
    first
    | with_reducible assumption | with_reducible apply State.count_kept | with_reducible apply State.when_kept
    | with_reducible apply State.visitSq_kept | with_reducible apply State.visitAdm_kept
    | with_reducible refine Kept.of_snd (by with_reducible assumption) ?_ | with_reducible refine Kept.of_fst (by with_reducible assumption) ?_
    | with_reducible refine Kept.of_trd (by with_reducible assumption) ?_ | with_reducible apply foldl_kept
    | simp only [Kept.upd_iff, Kept.updStart_iff] | intro _ _ _ | intro _ _ | split | (fail_if_no_progress dsimp only)

theorem State.acceptInto_kept {r s : State} (h : Kept r s) (a : Nat) (b : Sq) (c : List Word) (d : Nat) : Kept r (State.acceptInto s a b c d) :=
    by
  simp only [State.acceptInto]
  repeat'
    first
    | with_reducible assumption | with_reducible apply State.updSq_kept | with_reducible apply State.count_kept
    | with_reducible apply State.activate_kept | with_reducible refine Kept.of_snd (by with_reducible assumption) ?_
    | with_reducible refine Kept.of_fst (by with_reducible assumption) ?_ | with_reducible refine Kept.of_trd (by with_reducible assumption) ?_
    | with_reducible apply foldl_kept | simp only [Kept.upd_iff, Kept.updStart_iff] | intro _ _ _ | intro _ _ | split
    | (fail_if_no_progress dsimp only)

theorem State.badSqEntry_kept {r s : State} (h : Kept r s) (a : Nat) (b : Sq) (c : List Word) : Kept r (State.badSqEntry s a b c) := by
  simp only [State.badSqEntry]
  repeat'
    first
    | with_reducible assumption | with_reducible apply State.startRegrow_kept | with_reducible apply foldl_kept
    | simp only [Kept.upd_iff, Kept.updStart_iff] | intro _ _ _ | intro _ _ | split | (fail_if_no_progress dsimp only)

theorem State.acceptNext_kept {r s : State} (h : Kept r s) (a : Nat) : Kept r (State.acceptNext s a).2 := by
  simp only [State.acceptNext]
  repeat'
    first
    | with_reducible assumption | with_reducible apply State.badSqEntry_kept | with_reducible apply State.acceptInto_kept
    | with_reducible refine Kept.of_snd (by with_reducible assumption) ?_ | with_reducible refine Kept.of_fst (by with_reducible assumption) ?_
    | with_reducible refine Kept.of_trd (by with_reducible assumption) ?_ | with_reducible apply foldl_kept
    | simp only [Kept.upd_iff, Kept.updStart_iff] | intro _ _ _ | intro _ _ | split | (fail_if_no_progress dsimp only)

theorem State.acceptLoop_kept {r s : State} (h : Kept r s) (a : Nat) (b : Nat) : Kept r (State.acceptLoop s a b) := by
  induction b generalizing s with
  | zero => exact h
  | succ n ih =>
    simp only [State.acceptLoop]
    repeat'
      first
      | with_reducible assumption | with_reducible apply ih | with_reducible apply State.acceptNext_kept
      | with_reducible refine Kept.of_snd (by with_reducible assumption) ?_ | with_reducible refine Kept.of_fst (by with_reducible assumption) ?_
      | with_reducible refine Kept.of_trd (by with_reducible assumption) ?_ | with_reducible apply foldl_kept
      | simp only [Kept.upd_iff, Kept.updStart_iff] | intro _ _ _ | intro _ _ | split | (fail_if_no_progress dsimp only)

theorem State.acceptAdm_kept {r s : State} (h : Kept r s) (a : Nat) : Kept r (State.acceptAdm s a) := by
  induction a generalizing s with
  | zero => exact h
  | succ n ih =>
    simp only [State.acceptAdm]
    repeat'
      first
      | with_reducible assumption | with_reducible apply ih | with_reducible apply State.startRegrow_kept | with_reducible apply State.count_kept
      | with_reducible apply State.setF_kept | with_reducible refine Kept.of_snd (by with_reducible assumption) ?_
      | with_reducible refine Kept.of_fst (by with_reducible assumption) ?_ | with_reducible refine Kept.of_trd (by with_reducible assumption) ?_
      | with_reducible apply foldl_kept | simp only [Kept.upd_iff, Kept.updStart_iff] | intro _ _ _ | intro _ _ | split
      | (fail_if_no_progress dsimp only)

theorem State.admData_kept {r s : State} (h : Kept r s) (a : Option Port) (b : List (List Word)) : Kept r (State.admData s a b) := by
  induction b generalizing s with
  | nil => exact h
  | cons y l ih =>
    simp only [State.admData]
    repeat'
      first
      | with_reducible assumption | with_reducible apply ih | with_reducible apply State.endBytes_kept
      | with_reducible refine Kept.of_snd (by with_reducible assumption) ?_ | with_reducible refine Kept.of_fst (by with_reducible assumption) ?_
      | with_reducible refine Kept.of_trd (by with_reducible assumption) ?_ | with_reducible apply foldl_kept
      | simp only [Kept.upd_iff, Kept.updStart_iff] | intro _ _ _ | intro _ _ | split | (fail_if_no_progress dsimp only)

theorem State.acceptAll_kept {r s : State} (h : Kept r s) : Kept r (State.acceptAll s) := by
  simp only [State.acceptAll]
  repeat'
    first
    | with_reducible assumption | with_reducible apply State.acceptAdm_kept | with_reducible apply State.acceptLoop_kept
    | with_reducible apply foldl_kept | simp only [Kept.upd_iff, Kept.updStart_iff] | intro _ _ _ | intro _ _ | split
    | (fail_if_no_progress dsimp only)

theorem State.entryData_kept {r s : State} (h : Kept r s) (a : Option Nat) (b : Option Port) (c : List Word) : Kept r (State.entryData s a b c) :=
  by
  simp only [State.entryData]
  repeat'
    first
    | with_reducible assumption | with_reducible apply State.admData_kept | with_reducible apply State.acceptAdm_kept
    | with_reducible apply State.acceptLoop_kept | with_reducible apply State.updSq_kept | with_reducible apply State.endBytes_kept
    | with_reducible apply State.when_kept | with_reducible apply foldl_kept | simp only [Kept.upd_iff, Kept.updStart_iff] | intro _ _ _
    | intro _ _ | split | (fail_if_no_progress dsimp only)

theorem State.admFetchError_kept {r s : State} (h : Kept r s) (a : RdOut) : Kept r (State.admFetchError s a) := by
  simp only [State.admFetchError]
  repeat'
    first
    | with_reducible assumption | with_reducible apply State.setB_kept | with_reducible apply foldl_kept
    | simp only [Kept.upd_iff, Kept.updStart_iff] | intro _ _ _ | intro _ _ | split | (fail_if_no_progress dsimp only)

theorem State.admReread_kept {r s : State} (h : Kept r s) : Kept r (State.admReread s) := by
  exact Kept.upd_iff.2 h

theorem State.admDiscard_kept {r s : State} (h : Kept r s) : Kept r (State.admDiscard s) := by
  simp only [State.admDiscard]
  repeat'
    first
    | with_reducible assumption | with_reducible apply State.dropReads_kept | with_reducible apply foldl_kept
    | simp only [Kept.upd_iff, Kept.updStart_iff] | intro _ _ _ | intro _ _ | split | (fail_if_no_progress dsimp only)

theorem State.discardFetched_kept {r s : State} (h : Kept r s) (a : Nat) : Kept r (State.discardFetched s a) := by
  simp only [State.discardFetched]
  repeat'
    first
    | with_reducible assumption | with_reducible apply State.updCr_kept | with_reducible apply State.updSq_kept
    | with_reducible apply State.dropReads_kept | with_reducible apply foldl_kept | simp only [Kept.upd_iff, Kept.updStart_iff] | intro _ _ _
    | intro _ _ | split | (fail_if_no_progress dsimp only)

theorem State.noteRefused_kept {r s : State} (h : Kept r s) (a : Option Nat) (b : Word) (c : Nat) : Kept r (State.noteRefused s a b c) := by
  simp only [State.noteRefused]
  repeat'
    first
    | with_reducible assumption | with_reducible apply State.refuseCnt_kept | with_reducible apply State.when_kept
    | with_reducible refine Kept.of_snd (by with_reducible assumption) ?_ | with_reducible refine Kept.of_fst (by with_reducible assumption) ?_
    | with_reducible refine Kept.of_trd (by with_reducible assumption) ?_ | with_reducible apply foldl_kept
    | simp only [Kept.upd_iff, Kept.updStart_iff] | intro _ _ _ | intro _ _ | split | (fail_if_no_progress dsimp only)

theorem State.holdCr_kept {r s : State} (h : Kept r s) (a : Nat) (b : Nat) (c : Word) : Kept r (State.holdCr s a b c) := by
  simp only [State.holdCr]
  repeat'
    first
    | with_reducible assumption | with_reducible apply State.updCr_kept | with_reducible apply State.noteRefused_kept
    | with_reducible apply State.logErr_kept | with_reducible apply State.fnEvent_kept
    | with_reducible refine Kept.of_snd (by with_reducible assumption) ?_ | with_reducible refine Kept.of_fst (by with_reducible assumption) ?_
    | with_reducible refine Kept.of_trd (by with_reducible assumption) ?_ | with_reducible apply foldl_kept
    | simp only [Kept.upd_iff, Kept.updStart_iff] | intro _ _ _ | intro _ _ | split | (fail_if_no_progress dsimp only)

theorem State.retireSeq_kept {r s : State} (h : Kept r s) (a : Nat) (b : Nat) : Kept r (State.retireSeq s a b).2 := by
  simp only [State.retireSeq]
  repeat'
    first
    | with_reducible assumption | with_reducible apply State.updSq_kept | with_reducible refine Kept.of_snd (by with_reducible assumption) ?_
    | with_reducible refine Kept.of_fst (by with_reducible assumption) ?_ | with_reducible refine Kept.of_trd (by with_reducible assumption) ?_
    | with_reducible apply foldl_kept | simp only [Kept.upd_iff, Kept.updStart_iff] | intro _ _ _ | intro _ _ | split
    | (fail_if_no_progress dsimp only)

theorem State.seqWord_kept {r s : State} (h : Kept r s) (a : Nat) : Kept r (State.seqWord s a) := by
  simp only [State.seqWord]
  repeat'
    first
    | with_reducible assumption | with_reducible apply State.writeMem_kept | with_reducible refine Kept.of_snd (by with_reducible assumption) ?_
    | with_reducible refine Kept.of_fst (by with_reducible assumption) ?_ | with_reducible refine Kept.of_trd (by with_reducible assumption) ?_
    | with_reducible apply foldl_kept | simp only [Kept.upd_iff, Kept.updStart_iff] | intro _ _ _ | intro _ _ | split
    | (fail_if_no_progress dsimp only)

theorem State.writeEntry_kept {r s : State} (h : Kept r s) (a : Nat) (b : Cpl) (c : WriteFault) : Kept r (State.writeEntry s a b c).2 := by
  simp only [State.writeEntry]
  repeat'
    first
    | with_reducible assumption | with_reducible apply State.holdCr_kept | with_reducible apply State.writeMem_kept
    | with_reducible apply State.updCr_kept | with_reducible apply State.count_kept
    | with_reducible refine Kept.of_snd (by with_reducible assumption) ?_ | with_reducible refine Kept.of_fst (by with_reducible assumption) ?_
    | with_reducible refine Kept.of_trd (by with_reducible assumption) ?_ | with_reducible apply foldl_kept
    | simp only [Kept.upd_iff, Kept.updStart_iff] | intro _ _ _ | intro _ _ | split | (fail_if_no_progress dsimp only)

theorem State.keepHeld_kept {r s : State} (h : Kept r s) (a : Nat) (b : Cpl) : Kept r (State.keepHeld s a b) := by
  simp only [State.keepHeld]
  repeat'
    first
    | with_reducible assumption | with_reducible apply State.updSq_kept | with_reducible apply foldl_kept
    | simp only [Kept.upd_iff, Kept.updStart_iff] | intro _ _ _ | intro _ _ | split | (fail_if_no_progress dsimp only)

theorem State.writeCpl_kept {r s : State} (h : Kept r s) (a : Cpl) (b : WriteFault) : Kept r (State.writeCpl s a b) := by
  simp only [State.writeCpl]
  repeat'
    first
    | with_reducible assumption | with_reducible apply State.writeEntry_kept | with_reducible apply State.keepHeld_kept
    | with_reducible apply State.retireSeq_kept | with_reducible apply State.holdCr_kept | with_reducible apply State.when_kept
    | with_reducible apply State.seqWord_kept | with_reducible apply State.raiseEntry_kept
    | with_reducible refine Kept.of_snd (by with_reducible assumption) ?_ | with_reducible refine Kept.of_fst (by with_reducible assumption) ?_
    | with_reducible refine Kept.of_trd (by with_reducible assumption) ?_ | with_reducible apply foldl_kept
    | simp only [Kept.upd_iff, Kept.updStart_iff] | intro _ _ _ | intro _ _ | split | (fail_if_no_progress dsimp only)

theorem State.releaseEarlier_kept {r s : State} (h : Kept r s) (a : Nat) : Kept r (State.releaseEarlier s a) := by
  exact Kept.upd_iff.2 h

theorem State.freeEntry_kept {r s : State} (h : Kept r s) (a : Nat) : Kept r (State.freeEntry s a) := by
  simp only [State.freeEntry]
  repeat'
    first
    | with_reducible assumption | with_reducible apply State.dropReads_kept | with_reducible apply foldl_kept
    | simp only [Kept.upd_iff, Kept.updStart_iff] | intro _ _ _ | intro _ _ | split | (fail_if_no_progress dsimp only)

theorem State.dropFlight_kept {r s : State} (h : Kept r s) (a : Nat) : Kept r (State.dropFlight s a) := by
  simp only [State.dropFlight]
  repeat'
    first
    | with_reducible assumption | with_reducible apply State.freeEntry_kept | with_reducible apply State.releaseEarlier_kept
    | with_reducible apply State.dropHints_kept | with_reducible apply State.progress_kept | with_reducible apply foldl_kept
    | simp only [Kept.upd_iff, Kept.updStart_iff] | intro _ _ _ | intro _ _ | split | (fail_if_no_progress dsimp only)

theorem State.complete_kept {r s : State} (h : Kept r s) (a : Nat) (b : Nat) (c : Nat) (d : Nat) (e : Nat) (g : Nat) (i : Word) (j : WriteFault) :
  Kept r (State.complete s a b c d e g i j) := by
  simp only [State.complete]
  repeat'
    first
    | with_reducible assumption | with_reducible apply State.dropFlight_kept | with_reducible apply State.writeCpl_kept
    | with_reducible apply State.keepHeld_kept | with_reducible apply State.updFlight_kept | with_reducible apply foldl_kept
    | simp only [Kept.upd_iff, Kept.updStart_iff] | intro _ _ _ | intro _ _ | split | (fail_if_no_progress dsimp only)

theorem State.holdAdm_kept {r s : State} (h : Kept r s) (a : Nat) : Kept r (State.holdAdm s a) := by
  simp only [State.holdAdm]
  repeat'
    first
    | with_reducible assumption | with_reducible apply State.setB_kept | with_reducible apply State.noteRefused_kept
    | with_reducible apply State.logErr_kept | with_reducible apply State.fnEvent_kept
    | with_reducible refine Kept.of_snd (by with_reducible assumption) ?_ | with_reducible refine Kept.of_fst (by with_reducible assumption) ?_
    | with_reducible refine Kept.of_trd (by with_reducible assumption) ?_ | with_reducible apply foldl_kept
    | simp only [Kept.upd_iff, Kept.updStart_iff] | intro _ _ _ | intro _ _ | split | (fail_if_no_progress dsimp only)

theorem State.putAdm_kept {r s : State} (h : Kept r s) (a : Nat) (b : List Word) : Kept r (State.putAdm s a b) := by
  simp only [State.putAdm]
  repeat'
    first
    | with_reducible assumption | with_reducible apply State.writeMem_kept | with_reducible apply State.count_kept
    | with_reducible apply State.setF_kept | with_reducible apply State.raiseEntry_kept
    | with_reducible refine Kept.of_snd (by with_reducible assumption) ?_ | with_reducible refine Kept.of_fst (by with_reducible assumption) ?_
    | with_reducible refine Kept.of_trd (by with_reducible assumption) ?_ | with_reducible apply foldl_kept
    | simp only [Kept.upd_iff, Kept.updStart_iff] | intro _ _ _ | intro _ _ | split | (fail_if_no_progress dsimp only)

theorem State.keepAdm_kept {r s : State} (h : Kept r s) (a : Nat) (b : List Word) : Kept r (State.keepAdm s a b) := by
  exact Kept.upd_iff.2 h

theorem State.putAdm0_kept {r s : State} (h : Kept r s) (a : List Word) (b : WriteFault) : Kept r (State.putAdm0 s a b) := by
  simp only [State.putAdm0]
  repeat'
    first
    | with_reducible assumption | with_reducible apply State.keepAdm_kept | with_reducible apply State.putAdm_kept
    | with_reducible apply State.holdAdm_kept | with_reducible apply foldl_kept | simp only [Kept.upd_iff, Kept.updStart_iff] | intro _ _ _
    | intro _ _ | split | (fail_if_no_progress dsimp only)

theorem State.admDone_kept {r s : State} (h : Kept r s) (a : AdmEntry) (b : Nat) (c : Nat) (d : Nat) (e : Nat) (g : Option Nat) (i : WriteFault) :
  Kept r (State.admDone s a b c d e g i) := by
  simp only [State.admDone]
  repeat'
    first
    | with_reducible assumption | with_reducible apply State.putAdm0_kept | with_reducible apply State.keepAdm_kept
    | with_reducible apply State.putAdm_kept | with_reducible apply State.holdAdm_kept | with_reducible apply foldl_kept
    | simp only [Kept.upd_iff, Kept.updStart_iff] | intro _ _ _ | intro _ _ | split | (fail_if_no_progress dsimp only)

theorem State.genKey_kept {r s : State} (h : Kept r s) : Kept r (State.genKey s).2 := by
  simp only [State.genKey]
  repeat'
    first
    | with_reducible assumption | with_reducible apply State.bump_kept | with_reducible apply State.draw_kept
    | with_reducible refine Kept.of_snd (by with_reducible assumption) ?_ | with_reducible refine Kept.of_fst (by with_reducible assumption) ?_
    | with_reducible refine Kept.of_trd (by with_reducible assumption) ?_ | with_reducible apply foldl_kept
    | simp only [Kept.upd_iff, Kept.updStart_iff] | intro _ _ _ | intro _ _ | split | (fail_if_no_progress dsimp only)

theorem State.putKey_kept {r s : State} (h : Kept r s) (a : Nat) (b : BitVec 256) : Kept r (State.putKey s a b) := by
  simp only [State.putKey]
  repeat'
    first
    | with_reducible assumption | with_reducible refine Kept.of_snd (by with_reducible assumption) ?_
    | with_reducible refine Kept.of_fst (by with_reducible assumption) ?_ | with_reducible refine Kept.of_trd (by with_reducible assumption) ?_
    | with_reducible apply foldl_kept | simp only [Kept.upd_iff, Kept.updStart_iff] | intro _ _ _ | intro _ _ | split
    | (fail_if_no_progress dsimp only)

theorem State.writeBack_kept {r s : State} (h : Kept r s) (a : MetaLine → Bool) : Kept r (State.writeBack s a) := by
  simp only [State.writeBack]
  repeat'
    first
    | with_reducible assumption | with_reducible apply State.emit_kept | with_reducible apply State.when_kept
    | with_reducible apply State.count_kept | with_reducible refine Kept.of_snd (by with_reducible assumption) ?_
    | with_reducible refine Kept.of_fst (by with_reducible assumption) ?_ | with_reducible refine Kept.of_trd (by with_reducible assumption) ?_
    | with_reducible apply foldl_kept | simp only [Kept.upd_iff, Kept.updStart_iff] | intro _ _ _ | intro _ _ | split
    | (fail_if_no_progress dsimp only)

theorem State.dirtyNode_kept {r s : State} (h : Kept r s) (a : Option Nat) (b : Nat) (c : Nat) (d : Nat) : Kept r (State.dirtyNode s a b c d) :=
    by
  simp only [State.dirtyNode]
  repeat'
    first
    | with_reducible assumption | with_reducible apply State.draw_kept | with_reducible refine Kept.of_snd (by with_reducible assumption) ?_
    | with_reducible refine Kept.of_fst (by with_reducible assumption) ?_ | with_reducible refine Kept.of_trd (by with_reducible assumption) ?_
    | with_reducible apply foldl_kept | simp only [Kept.upd_iff, Kept.updStart_iff] | intro _ _ _ | intro _ _ | split
    | (fail_if_no_progress dsimp only)

theorem State.dirtyPath_kept {r s : State} (h : Kept r s) (a : Option Nat) (b : Nat) (c : Nat) : Kept r (State.dirtyPath s a b c) := by
  simp only [State.dirtyPath]
  repeat'
    first
    | with_reducible assumption | with_reducible apply State.dirtyNode_kept | with_reducible apply State.draw_kept
    | with_reducible apply State.writeBack_kept | with_reducible refine Kept.of_snd (by with_reducible assumption) ?_
    | with_reducible refine Kept.of_fst (by with_reducible assumption) ?_ | with_reducible refine Kept.of_trd (by with_reducible assumption) ?_
    | with_reducible apply foldl_kept | simp only [Kept.upd_iff, Kept.updStart_iff] | intro _ _ _ | intro _ _ | split
    | (fail_if_no_progress dsimp only)

theorem State.traceAnswer_kept {r s : State} (h : Kept r s) (a : Nat) : Kept r (State.traceAnswer s a) := by
  simp only [State.traceAnswer]
  repeat'
    first
    | with_reducible assumption | with_reducible apply State.traceCmd_kept | with_reducible refine Kept.of_snd (by with_reducible assumption) ?_
    | with_reducible refine Kept.of_fst (by with_reducible assumption) ?_ | with_reducible refine Kept.of_trd (by with_reducible assumption) ?_
    | with_reducible apply foldl_kept | simp only [Kept.upd_iff, Kept.updStart_iff] | intro _ _ _ | intro _ _ | split
    | (fail_if_no_progress dsimp only)

theorem State.scrubWays_kept {r s : State} (h : Kept r s) (a : PartReq) : Kept r (State.scrubWays s a) := by
  simp only [State.scrubWays]
  repeat'
    first
    | with_reducible assumption | with_reducible apply State.emit_kept | with_reducible refine Kept.of_snd (by with_reducible assumption) ?_
    | with_reducible refine Kept.of_fst (by with_reducible assumption) ?_ | with_reducible refine Kept.of_trd (by with_reducible assumption) ?_
    | with_reducible apply foldl_kept | simp only [Kept.upd_iff, Kept.updStart_iff] | intro _ _ _ | intro _ _ | split
    | (fail_if_no_progress dsimp only)

theorem State.grainPoll_kept {r s : State} (h : Kept r s) : Kept r (State.grainPoll s) := by
  simp only [State.grainPoll]
  repeat'
    first
    | with_reducible assumption | with_reducible apply State.discard_kept | with_reducible apply State.dropDue_kept
    | with_reducible refine Kept.of_snd (by with_reducible assumption) ?_ | with_reducible refine Kept.of_fst (by with_reducible assumption) ?_
    | with_reducible refine Kept.of_trd (by with_reducible assumption) ?_ | with_reducible apply foldl_kept
    | simp only [Kept.upd_iff, Kept.updStart_iff] | intro _ _ _ | intro _ _ | split | (fail_if_no_progress dsimp only)

theorem State.watchRefused_kept {r s : State} (h : Kept r s) (a : Nat) (b : Watch) : Kept r (State.watchRefused s a b) := by
  simp only [State.watchRefused]
  repeat'
    first
    | with_reducible assumption | with_reducible apply State.noteRefused_kept
    | with_reducible refine Kept.of_snd (by with_reducible assumption) ?_ | with_reducible refine Kept.of_fst (by with_reducible assumption) ?_
    | with_reducible refine Kept.of_trd (by with_reducible assumption) ?_ | with_reducible apply foldl_kept
    | simp only [Kept.upd_iff, Kept.updStart_iff] | intro _ _ _ | intro _ _ | split | (fail_if_no_progress dsimp only)

theorem State.newEph_kept {r s : State} (h : Kept r s) : Kept r (State.newEph s).2 := by
  simp only [State.newEph]
  repeat'
    first
    | with_reducible assumption | with_reducible apply State.genKey_kept | with_reducible apply State.draw_kept
    | with_reducible refine Kept.of_snd (by with_reducible assumption) ?_ | with_reducible refine Kept.of_fst (by with_reducible assumption) ?_
    | with_reducible refine Kept.of_trd (by with_reducible assumption) ?_ | with_reducible apply foldl_kept
    | simp only [Kept.upd_iff, Kept.updStart_iff] | intro _ _ _ | intro _ _ | split | (fail_if_no_progress dsimp only)

theorem State.proof_kept {r s : State} (h : Kept r s) (a : Eph) (b : Hello) : Kept r (State.proof s a b).2 := by
  simp only [State.proof]
  repeat'
    first
    | with_reducible assumption | with_reducible apply State.draw_kept | with_reducible refine Kept.of_snd (by with_reducible assumption) ?_
    | with_reducible refine Kept.of_fst (by with_reducible assumption) ?_ | with_reducible refine Kept.of_trd (by with_reducible assumption) ?_
    | with_reducible apply foldl_kept | simp only [Kept.upd_iff, Kept.updStart_iff] | intro _ _ _ | intro _ _ | split
    | (fail_if_no_progress dsimp only)

theorem State.nodeProof_kept {r s : State} (h : Kept r s) (a : Nat) : Kept r (State.nodeProof s a) := by
  simp only [State.nodeProof]
  repeat'
    first
    | with_reducible assumption | with_reducible apply State.proof_kept | with_reducible apply State.send_kept
    | with_reducible refine Kept.of_snd (by with_reducible assumption) ?_ | with_reducible refine Kept.of_fst (by with_reducible assumption) ?_
    | with_reducible refine Kept.of_trd (by with_reducible assumption) ?_ | with_reducible apply foldl_kept
    | simp only [Kept.upd_iff, Kept.updStart_iff] | intro _ _ _ | intro _ _ | split | (fail_if_no_progress dsimp only)

theorem State.linkKex_kept {r s : State} (h : Kept r s) (a : Nat) (b : KexMsg) : Kept r (State.linkKex s a b) := by
  simp only [State.linkKex]
  repeat'
    first
    | with_reducible assumption | with_reducible apply State.someFlits_kept | with_reducible apply State.txFrame_kept
    | with_reducible apply State.emit_kept | with_reducible refine Kept.of_snd (by with_reducible assumption) ?_
    | with_reducible refine Kept.of_fst (by with_reducible assumption) ?_ | with_reducible refine Kept.of_trd (by with_reducible assumption) ?_
    | with_reducible apply foldl_kept | simp only [Kept.upd_iff, Kept.updStart_iff] | intro _ _ _ | intro _ _ | split
    | (fail_if_no_progress dsimp only)

theorem State.sayProof_kept {r s : State} (h : Kept r s) (a : Nat) : Kept r (State.sayProof s a) := by
  simp only [State.sayProof]
  repeat'
    first
    | with_reducible assumption | with_reducible apply State.proof_kept | with_reducible apply State.linkKex_kept
    | with_reducible refine Kept.of_snd (by with_reducible assumption) ?_ | with_reducible refine Kept.of_fst (by with_reducible assumption) ?_
    | with_reducible refine Kept.of_trd (by with_reducible assumption) ?_ | with_reducible apply foldl_kept
    | simp only [Kept.upd_iff, Kept.updStart_iff] | intro _ _ _ | intro _ _ | split | (fail_if_no_progress dsimp only)

theorem State.sayHello_kept {r s : State} (h : Kept r s) (a : Nat) : Kept r (State.sayHello s a) := by
  simp only [State.sayHello]
  repeat'
    first
    | with_reducible assumption | with_reducible apply State.newEph_kept | with_reducible apply State.updPort_kept
    | with_reducible apply State.linkKex_kept | with_reducible refine Kept.of_snd (by with_reducible assumption) ?_
    | with_reducible refine Kept.of_fst (by with_reducible assumption) ?_ | with_reducible refine Kept.of_trd (by with_reducible assumption) ?_
    | with_reducible apply foldl_kept | simp only [Kept.upd_iff, Kept.updStart_iff] | intro _ _ _ | intro _ _ | split
    | (fail_if_no_progress dsimp only)

theorem State.spdmWords_kept {r s : State} (h : Kept r s) (a : Bool) (b : Nat) : Kept r (State.spdmWords s a b).2 := by
  simp only [State.spdmWords]
  repeat'
    first
    | with_reducible assumption | with_reducible apply Kept.updFresh | with_reducible refine Kept.of_snd (by with_reducible assumption) ?_
    | with_reducible refine Kept.of_fst (by with_reducible assumption) ?_ | with_reducible refine Kept.of_trd (by with_reducible assumption) ?_
    | with_reducible apply foldl_kept | simp only [Kept.upd_iff, Kept.updStart_iff] | intro _ _ _ | intro _ _ | split
    | (fail_if_no_progress dsimp only)

theorem State.sign_kept {r s : State} (h : Kept r s) : Kept r (State.sign s).2 := by
  simp only [State.sign]
  repeat'
    first
    | with_reducible assumption | with_reducible apply State.draw_kept | with_reducible refine Kept.of_snd (by with_reducible assumption) ?_
    | with_reducible refine Kept.of_fst (by with_reducible assumption) ?_ | with_reducible refine Kept.of_trd (by with_reducible assumption) ?_
    | with_reducible apply foldl_kept | simp only [Kept.upd_iff, Kept.updStart_iff] | intro _ _ _ | intro _ _ | split
    | (fail_if_no_progress dsimp only)

theorem State.scanLine_kept {r s : State} (h : Kept r s) (a : Word) (b : Nat) (c : Nat) : Kept r (State.scanLine s a b c) := by
  simp only [State.scanLine]
  repeat'
    first
    | with_reducible assumption | with_reducible apply State.when_kept | with_reducible apply State.writeMem_kept
    | with_reducible apply State.emit_kept | with_reducible refine Kept.of_snd (by with_reducible assumption) ?_
    | with_reducible refine Kept.of_fst (by with_reducible assumption) ?_ | with_reducible refine Kept.of_trd (by with_reducible assumption) ?_
    | with_reducible apply foldl_kept | simp only [Kept.upd_iff, Kept.updStart_iff] | intro _ _ _ | intro _ _ | split
    | (fail_if_no_progress dsimp only)

theorem State.sayTrain_kept {r s : State} (h : Kept r s) (a : Nat) : Kept r (State.sayTrain s a) := by
  simp only [State.sayTrain]
  repeat'
    first
    | with_reducible assumption | with_reducible apply State.someFlits_kept | with_reducible apply State.emit_kept
    | with_reducible refine Kept.of_snd (by with_reducible assumption) ?_ | with_reducible refine Kept.of_fst (by with_reducible assumption) ?_
    | with_reducible refine Kept.of_trd (by with_reducible assumption) ?_ | with_reducible apply foldl_kept
    | simp only [Kept.upd_iff, Kept.updStart_iff] | intro _ _ _ | intro _ _ | split | (fail_if_no_progress dsimp only)

theorem State.beginRekey_kept {r s : State} (h : Kept r s) (a : Nat) : Kept r (State.beginRekey s a) := by
  simp only [State.beginRekey]
  repeat'
    first
    | with_reducible assumption | with_reducible apply State.setB_kept | with_reducible apply State.updPort_kept
    | with_reducible refine Kept.of_snd (by with_reducible assumption) ?_ | with_reducible refine Kept.of_fst (by with_reducible assumption) ?_
    | with_reducible refine Kept.of_trd (by with_reducible assumption) ?_ | with_reducible apply foldl_kept
    | simp only [Kept.upd_iff, Kept.updStart_iff] | intro _ _ _ | intro _ _ | split | (fail_if_no_progress dsimp only)

theorem State.setMsixMask_kept {r s : State} (h : Kept r s) (a : Nat) (b : MsixMask) : Kept r (State.setMsixMask s a b) := by
  simp only [State.setMsixMask]
  repeat'
    first
    | with_reducible assumption | with_reducible refine Kept.of_snd (by with_reducible assumption) ?_
    | with_reducible refine Kept.of_fst (by with_reducible assumption) ?_ | with_reducible refine Kept.of_trd (by with_reducible assumption) ?_
    | with_reducible apply foldl_kept | simp only [Kept.upd_iff, Kept.updStart_iff] | intro _ _ _ | intro _ _ | split
    | (fail_if_no_progress dsimp only)

theorem State.visited_kept {r s : State} (h : Kept r s) (a : Option Nat) : Kept r (State.visited s a) := by
  simp only [State.visited]
  repeat'
    first
    | with_reducible assumption | with_reducible refine Kept.of_snd (by with_reducible assumption) ?_
    | with_reducible refine Kept.of_fst (by with_reducible assumption) ?_ | with_reducible refine Kept.of_trd (by with_reducible assumption) ?_
    | with_reducible apply foldl_kept | simp only [Kept.upd_iff, Kept.updStart_iff] | intro _ _ _ | intro _ _ | split
    | (fail_if_no_progress dsimp only)

theorem State.spdmThen_kept {r s : State} (h : Kept r s) (a : SpdmPeer) (b : Bool) (c : State → State) (hc : ∀ x0, Kept r x0 → Kept r (c x0)) :
    Kept r (State.spdmThen s a b c) := by
  simp only [State.spdmThen]
  repeat'
    first
    | with_reducible assumption | with_reducible apply State.emit_kept | with_reducible apply hc
    | with_reducible refine Kept.of_snd (by with_reducible assumption) ?_ | with_reducible refine Kept.of_fst (by with_reducible assumption) ?_
    | with_reducible refine Kept.of_trd (by with_reducible assumption) ?_ | with_reducible apply foldl_kept
    | simp only [Kept.upd_iff, Kept.updStart_iff] | intro _ _ _ | intro _ _ | split | (fail_if_no_progress dsimp only)

theorem State.spdmVersion_kept {r s : State} (h : Kept r s) : Kept r (State.spdmVersion s).1 := by
  simp only [State.spdmVersion]
  repeat'
    first
    | with_reducible assumption | with_reducible refine Kept.of_snd (by with_reducible assumption) ?_
    | with_reducible refine Kept.of_fst (by with_reducible assumption) ?_ | with_reducible refine Kept.of_trd (by with_reducible assumption) ?_
    | with_reducible apply foldl_kept | simp only [Kept.upd_iff, Kept.updStart_iff] | intro _ _ _ | intro _ _ | split
    | (fail_if_no_progress dsimp only)

theorem State.spdmCaps_kept {r s : State} (h : Kept r s) : Kept r (State.spdmCaps s).1 := by
  simp only [State.spdmCaps]
  repeat'
    first
    | with_reducible assumption | with_reducible refine Kept.of_snd (by with_reducible assumption) ?_
    | with_reducible refine Kept.of_fst (by with_reducible assumption) ?_ | with_reducible refine Kept.of_trd (by with_reducible assumption) ?_
    | with_reducible apply foldl_kept | simp only [Kept.upd_iff, Kept.updStart_iff] | intro _ _ _ | intro _ _ | split
    | (fail_if_no_progress dsimp only)

theorem State.spdmAlgs_kept {r s : State} (h : Kept r s) : Kept r (State.spdmAlgs s).1 := by
  simp only [State.spdmAlgs]
  repeat'
    first
    | with_reducible assumption | with_reducible refine Kept.of_snd (by with_reducible assumption) ?_
    | with_reducible refine Kept.of_fst (by with_reducible assumption) ?_ | with_reducible refine Kept.of_trd (by with_reducible assumption) ?_
    | with_reducible apply foldl_kept | simp only [Kept.upd_iff, Kept.updStart_iff] | intro _ _ _ | intro _ _ | split
    | (fail_if_no_progress dsimp only)

theorem State.spdmDigests_kept {r s : State} (h : Kept r s) : Kept r (State.spdmDigests s).1 := by
  simp only [State.spdmDigests]
  repeat'
    first
    | with_reducible assumption | with_reducible refine Kept.of_snd (by with_reducible assumption) ?_
    | with_reducible refine Kept.of_fst (by with_reducible assumption) ?_ | with_reducible refine Kept.of_trd (by with_reducible assumption) ?_
    | with_reducible apply foldl_kept | simp only [Kept.upd_iff, Kept.updStart_iff] | intro _ _ _ | intro _ _ | split
    | (fail_if_no_progress dsimp only)

theorem State.spdmCert_kept {r s : State} (h : Kept r s) : Kept r (State.spdmCert s).1 := by
  simp only [State.spdmCert]
  repeat'
    first
    | with_reducible assumption | with_reducible refine Kept.of_snd (by with_reducible assumption) ?_
    | with_reducible refine Kept.of_fst (by with_reducible assumption) ?_ | with_reducible refine Kept.of_trd (by with_reducible assumption) ?_
    | with_reducible apply foldl_kept | simp only [Kept.upd_iff, Kept.updStart_iff] | intro _ _ _ | intro _ _ | split
    | (fail_if_no_progress dsimp only)

theorem State.spdmChallenge_kept {r s : State} (h : Kept r s) (a : SpdmPeer) : Kept r (State.spdmChallenge s a).1 := by
  simp only [State.spdmChallenge]
  repeat'
    first
    | with_reducible assumption | with_reducible apply State.sign_kept | with_reducible refine Kept.of_snd (by with_reducible assumption) ?_
    | with_reducible refine Kept.of_fst (by with_reducible assumption) ?_ | with_reducible refine Kept.of_trd (by with_reducible assumption) ?_
    | with_reducible apply foldl_kept | simp only [Kept.upd_iff, Kept.updStart_iff] | intro _ _ _ | intro _ _ | split
    | (fail_if_no_progress dsimp only)

theorem State.spdmMeasure_kept {r s : State} (h : Kept r s) (a : SpdmPeer) (b : Nat) : Kept r (State.spdmMeasure s a b).1 := by
  simp only [State.spdmMeasure]
  repeat'
    first
    | with_reducible assumption | with_reducible apply State.sign_kept | with_reducible refine Kept.of_snd (by with_reducible assumption) ?_
    | with_reducible refine Kept.of_fst (by with_reducible assumption) ?_ | with_reducible refine Kept.of_trd (by with_reducible assumption) ?_
    | with_reducible apply foldl_kept | simp only [Kept.upd_iff, Kept.updStart_iff] | intro _ _ _ | intro _ _ | split
    | (fail_if_no_progress dsimp only)

theorem State.scanSeen_kept {r s : State} (h : Kept r s) (a : Nat) : Kept r (State.scanSeen s a) := by
  simp only [State.scanSeen]
  repeat'
    first
    | with_reducible assumption | with_reducible apply State.when_kept | with_reducible apply State.setReg_kept
    | with_reducible refine Kept.of_snd (by with_reducible assumption) ?_ | with_reducible refine Kept.of_fst (by with_reducible assumption) ?_
    | with_reducible refine Kept.of_trd (by with_reducible assumption) ?_ | with_reducible apply foldl_kept
    | simp only [Kept.upd_iff, Kept.updStart_iff] | intro _ _ _ | intro _ _ | split | (fail_if_no_progress dsimp only)

end Sys2Proof.Machine
end

