-- ==== Sys2Proof/Laws/KeptWork.lean ====
section
/-! SUPPORT. What every operation of the machine keeps, part 2: events, tasks, keys, the cipher, teardowns, links, the cyclic table and picks. -/

namespace Sys2Proof.Machine

set_option linter.unusedTactic false
set_option linter.unreachableTactic false
set_option linter.unusedSimpArgs false

theorem State.traceSync_kept {r s : State} (h : Kept r s) (a : Flight) (b : Word) (c : Nat) : Kept r (State.traceSync s a b c) := by
  simp only [State.traceSync]
  repeat'
    first
    | with_reducible assumption | with_reducible apply State.traceCmd_kept | with_reducible apply State.when_kept
    | with_reducible apply foldl_kept | simp only [Kept.upd_iff, Kept.updStart_iff] | intro _ _ _ | intro _ _ | split
    | (fail_if_no_progress dsimp only)

theorem State.park_kept {r s : State} (h : Kept r s) (a : Nat) (b : WaitKind) (c : Option Nat) : Kept r (State.park s a b c) := by
  simp only [State.park]
  repeat'
    first
    | with_reducible assumption | with_reducible apply State.updFlight_kept | with_reducible apply foldl_kept
    | simp only [Kept.upd_iff, Kept.updStart_iff] | intro _ _ _ | intro _ _ | split | (fail_if_no_progress dsimp only)

theorem State.unpark_kept {r s : State} (h : Kept r s) (a : Nat) : Kept r (State.unpark s a) := by
  simp only [State.unpark]
  repeat'
    first
    | with_reducible assumption | with_reducible apply State.updFlight_kept | with_reducible apply foldl_kept
    | simp only [Kept.upd_iff, Kept.updStart_iff] | intro _ _ _ | intro _ _ | split | (fail_if_no_progress dsimp only)

theorem State.waitMet_kept {r s : State} (h : Kept r s) (a : Nat) (b : Nat) : Kept r (State.waitMet s a b) := by
  simp only [State.waitMet]
  repeat'
    first
    | with_reducible assumption | with_reducible apply State.unpark_kept | with_reducible apply State.traceSync_kept
    | with_reducible apply State.progress_kept | with_reducible apply State.updFlight_kept | with_reducible apply foldl_kept
    | simp only [Kept.upd_iff, Kept.updStart_iff] | intro _ _ _ | intro _ _ | split | (fail_if_no_progress dsimp only)

theorem State.updEvent_kept {r s : State} (h : Kept r s) (a : Nat) (b : Event → Event) : Kept r (State.updEvent s a b) := by
  exact Kept.upd_iff.2 h

theorem State.recordLocal_kept {r s : State} (h : Kept r s) (a : Nat) (b : Nat) (c : Word) (d : Option (Nat × Nat)) (e : Option Nat) : Kept r
    (State.recordLocal s a b c d e) := by
  simp only [State.recordLocal]
  repeat'
    first
    | with_reducible assumption | with_reducible apply State.updEvent_kept | with_reducible apply State.count_kept
    | with_reducible apply State.waitMet_kept | with_reducible apply State.send_kept
    | with_reducible refine Kept.of_snd (by with_reducible assumption) ?_ | with_reducible refine Kept.of_fst (by with_reducible assumption) ?_
    | with_reducible refine Kept.of_trd (by with_reducible assumption) ?_ | with_reducible apply foldl_kept
    | simp only [Kept.upd_iff, Kept.updStart_iff] | intro _ _ _ | intro _ _ | split | (fail_if_no_progress dsimp only)

theorem State.setSem_kept {r s : State} (h : Kept r s) (a : Nat) (b : Sem) : Kept r (State.setSem s a b) := by
  exact Kept.upd_iff.2 h

theorem State.semGrant_kept {r s : State} (h : Kept r s) (a : Nat) (b : Nat) : Kept r (State.semGrant s a b) := by
  induction b generalizing s a with
  | zero => exact h
  | succ n ih =>
    simp only [State.semGrant]
    repeat'
      first
      | with_reducible assumption | with_reducible apply ih | with_reducible apply State.count_kept | with_reducible apply State.setSem_kept
      | with_reducible apply State.waitMet_kept | with_reducible apply State.send_kept
      | with_reducible refine Kept.of_snd (by with_reducible assumption) ?_ | with_reducible refine Kept.of_fst (by with_reducible assumption) ?_
      | with_reducible refine Kept.of_trd (by with_reducible assumption) ?_ | with_reducible apply foldl_kept
      | simp only [Kept.upd_iff, Kept.updStart_iff] | intro _ _ _ | intro _ _ | split | (fail_if_no_progress dsimp only)

theorem State.semAcquire_kept {r s : State} (h : Kept r s) (a : Nat) (b : Acq) : Kept r (State.semAcquire s a b) := by
  simp only [State.semAcquire]
  repeat'
    first
    | with_reducible assumption | with_reducible apply State.semGrant_kept | with_reducible apply State.setSem_kept
    | with_reducible apply foldl_kept | simp only [Kept.upd_iff, Kept.updStart_iff] | intro _ _ _ | intro _ _ | split
    | (fail_if_no_progress dsimp only)

theorem State.dropEdges_kept {r s : State} (h : Kept r s) (a : Edge → Bool) : Kept r (State.dropEdges s a) := by
  exact Kept.upd_iff.2 h

theorem State.semRelease_kept {r s : State} (h : Kept r s) (a : Nat) (b : Nat) (c : Nat) (d : Nat) : Kept r (State.semRelease s a b c d) := by
  simp only [State.semRelease]
  repeat'
    first
    | with_reducible assumption | with_reducible apply State.dropEdges_kept | with_reducible apply State.semGrant_kept
    | with_reducible apply State.setSem_kept | with_reducible apply State.when_kept | with_reducible apply foldl_kept
    | simp only [Kept.upd_iff, Kept.updStart_iff] | intro _ _ _ | intro _ _ | split | (fail_if_no_progress dsimp only)

theorem State.regrant_kept {r s : State} (h : Kept r s) : Kept r (State.regrant s) := by
  simp only [State.regrant]
  repeat'
    first
    | with_reducible assumption | with_reducible apply State.semGrant_kept | with_reducible apply foldl_kept
    | simp only [Kept.upd_iff, Kept.updStart_iff] | intro _ _ _ | intro _ _ | split | (fail_if_no_progress dsimp only)

theorem State.dropAcqs_kept {r s : State} (h : Kept r s) (a : Acq → Bool) : Kept r (State.dropAcqs s a) := by
  simp only [State.dropAcqs]
  repeat'
    first
    | with_reducible assumption | with_reducible apply State.regrant_kept | with_reducible apply foldl_kept
    | simp only [Kept.upd_iff, Kept.updStart_iff] | intro _ _ _ | intro _ _ | split | (fail_if_no_progress dsimp only)

theorem State.unlist_kept {r s : State} (h : Kept r s) (a : Nat) : Kept r (State.unlist s a) := by
  simp only [State.unlist]
  repeat'
    first
    | with_reducible assumption | with_reducible apply State.dropAcqs_kept | with_reducible apply State.send_kept
    | with_reducible apply foldl_kept | simp only [Kept.upd_iff, Kept.updStart_iff] | intro _ _ _ | intro _ _ | split
    | (fail_if_no_progress dsimp only)

theorem State.endEarly_kept {r s : State} (h : Kept r s) (a : Nat) (b : Nat) : Kept r (State.endEarly s a b) := by
  simp only [State.endEarly]
  repeat'
    first
    | with_reducible assumption | with_reducible apply State.unlist_kept | with_reducible apply State.updFlight_kept
    | with_reducible apply foldl_kept | simp only [Kept.upd_iff, Kept.updStart_iff] | intro _ _ _ | intro _ _ | split
    | (fail_if_no_progress dsimp only)

theorem State.endEarlyAt_kept {r s : State} (h : Kept r s) (a : Nat) (b : Nat) (c : Nat) (d : Nat) (e : Nat) : Kept r (State.endEarlyAt s a b c d e)
  := by
  simp only [State.endEarlyAt]
  repeat'
    first
    | with_reducible assumption | with_reducible apply State.unlist_kept | with_reducible apply State.updFlight_kept
    | with_reducible apply foldl_kept | simp only [Kept.upd_iff, Kept.updStart_iff] | intro _ _ _ | intro _ _ | split
    | (fail_if_no_progress dsimp only)

theorem State.abandon_kept {r s : State} (h : Kept r s) (a : Nat) : Kept r (State.abandon s a) := by
  simp only [State.abandon]
  repeat'
    first
    | with_reducible assumption | with_reducible apply State.endEarly_kept | with_reducible apply State.updEvent_kept
    | with_reducible apply State.send_kept | with_reducible apply foldl_kept | simp only [Kept.upd_iff, Kept.updStart_iff] | intro _ _ _
    | intro _ _ | split | (fail_if_no_progress dsimp only)

theorem State.abandonBy_kept {r s : State} (h : Kept r s) (a : Nat × Nat → Bool) : Kept r (State.abandonBy s a) := by
  simp only [State.abandonBy]
  repeat'
    first
    | with_reducible assumption | with_reducible apply State.abandon_kept | with_reducible apply foldl_kept
    | simp only [Kept.upd_iff, Kept.updStart_iff] | intro _ _ _ | intro _ _ | split | (fail_if_no_progress dsimp only)

theorem State.leakSems_kept {r s : State} (h : Kept r s) (a : Nat × Nat → Bool) : Kept r (State.leakSems s a) := by
  exact Kept.upd_iff.2 h

theorem State.homeCtxGone_kept {r s : State} (h : Kept r s) (a : Nat) (b : Nat) : Kept r (State.homeCtxGone s a b) := by
  simp only [State.homeCtxGone]
  repeat'
    first
    | with_reducible assumption | with_reducible apply State.leakSems_kept | with_reducible apply State.abandonBy_kept
    | with_reducible apply State.dropAcqs_kept | with_reducible apply foldl_kept | simp only [Kept.upd_iff, Kept.updStart_iff] | intro _ _ _
    | intro _ _ | split | (fail_if_no_progress dsimp only)

theorem State.ctxsGone_kept {r s : State} (h : Kept r s) (a : List Nat) : Kept r (State.ctxsGone s a) := by
  simp only [State.ctxsGone]
  repeat'
    first
    | with_reducible assumption | with_reducible apply State.homeCtxGone_kept | with_reducible apply State.dropEdges_kept
    | with_reducible apply State.broadcast_kept | with_reducible refine Kept.of_snd (by with_reducible assumption) ?_
    | with_reducible refine Kept.of_fst (by with_reducible assumption) ?_ | with_reducible refine Kept.of_trd (by with_reducible assumption) ?_
    | with_reducible apply foldl_kept | simp only [Kept.upd_iff, Kept.updStart_iff] | intro _ _ _ | intro _ _ | split
    | (fail_if_no_progress dsimp only)

theorem State.bindEvent_kept {r s : State} (h : Kept r s) (a : Nat) (b : Word) (c : Nat) : Kept r (State.bindEvent s a b c) := by
  simp only [State.bindEvent]
  repeat'
    first
    | with_reducible assumption | with_reducible apply State.abandon_kept | with_reducible apply foldl_kept
    | simp only [Kept.upd_iff, Kept.updStart_iff] | intro _ _ _ | intro _ _ | split | (fail_if_no_progress dsimp only)

theorem State.unbindEvent_kept {r s : State} (h : Kept r s) (a : Nat) : Kept r (State.unbindEvent s a) := by
  simp only [State.unbindEvent]
  repeat'
    first
    | with_reducible assumption | with_reducible apply State.abandon_kept | with_reducible apply foldl_kept
    | simp only [Kept.upd_iff, Kept.updStart_iff] | intro _ _ _ | intro _ _ | split | (fail_if_no_progress dsimp only)

theorem State.remoteWait_kept {r s : State} (h : Kept r s) (a : Half) (b : Word) (c : Nat) : Kept r (State.remoteWait s a b c) := by
  simp only [State.remoteWait]
  repeat'
    first
    | with_reducible assumption | with_reducible apply State.send_kept | with_reducible apply foldl_kept
    | simp only [Kept.upd_iff, Kept.updStart_iff] | intro _ _ _ | intro _ _ | split | (fail_if_no_progress dsimp only)

theorem State.learn_kept {r s : State} (h : Kept r s) (a : Task) : Kept r (State.learn s a) := by
  simp only [State.learn]
  repeat'
    first
    | with_reducible assumption | with_reducible apply foldl_kept | simp only [Kept.upd_iff, Kept.updStart_iff] | intro _ _ _ | intro _ _ | split
    | (fail_if_no_progress dsimp only)

theorem State.rtGive_kept {r s : State} (h : Kept r s) (a : Nat) (b : Nat) : Kept r (State.rtGive s a b) := by
  simp only [State.rtGive]
  repeat'
    first
    | with_reducible assumption | with_reducible apply foldl_kept | simp only [Kept.upd_iff, Kept.updStart_iff] | intro _ _ _ | intro _ _ | split
    | (fail_if_no_progress dsimp only)

theorem State.giveNj_kept {r s : State} (h : Kept r s) (a : Nat) (b : Nat) (c : Nat) (d : Bool) (e : Nat) : Kept r (State.giveNj s a b c d e) :=
    by
  simp only [State.giveNj]
  repeat'
    first
    | with_reducible assumption | with_reducible apply State.rtGive_kept | with_reducible apply State.updTask_kept
    | with_reducible refine Kept.of_snd (by with_reducible assumption) ?_ | with_reducible refine Kept.of_fst (by with_reducible assumption) ?_
    | with_reducible refine Kept.of_trd (by with_reducible assumption) ?_ | with_reducible apply foldl_kept
    | simp only [Kept.upd_iff, Kept.updStart_iff] | intro _ _ _ | intro _ _ | split | (fail_if_no_progress dsimp only)

theorem State.coreEnd_kept {r s : State} (h : Kept r s) (a : Nat) (b : Nat) (c : Nat) : Kept r (State.coreEnd s a b c) := by
  simp only [State.coreEnd]
  repeat'
    first
    | with_reducible assumption | with_reducible apply State.giveNj_kept | with_reducible refine Kept.of_snd (by with_reducible assumption) ?_
    | with_reducible refine Kept.of_fst (by with_reducible assumption) ?_ | with_reducible refine Kept.of_trd (by with_reducible assumption) ?_
    | with_reducible apply foldl_kept | simp only [Kept.upd_iff, Kept.updStart_iff] | intro _ _ _ | intro _ _ | split
    | (fail_if_no_progress dsimp only)

theorem State.uncoreEnd_kept {r s : State} (h : Kept r s) (a : Nat) : Kept r (State.uncoreEnd s a) := by
  simp only [State.uncoreEnd]
  repeat'
    first
    | with_reducible assumption | with_reducible apply State.giveNj_kept | with_reducible apply foldl_kept
    | simp only [Kept.upd_iff, Kept.updStart_iff] | intro _ _ _ | intro _ _ | split | (fail_if_no_progress dsimp only)

theorem State.coreSample_kept {r s : State} (h : Kept r s) (a : Nat) (b : Nat) : Kept r (State.coreSample s a b) := by
  simp only [State.coreSample]
  repeat'
    first
    | with_reducible assumption | with_reducible apply State.giveNj_kept | with_reducible refine Kept.of_snd (by with_reducible assumption) ?_
    | with_reducible refine Kept.of_fst (by with_reducible assumption) ?_ | with_reducible refine Kept.of_trd (by with_reducible assumption) ?_
    | with_reducible apply foldl_kept | simp only [Kept.upd_iff, Kept.updStart_iff] | intro _ _ _ | intro _ _ | split
    | (fail_if_no_progress dsimp only)

theorem State.uncoreSample_kept {r s : State} (h : Kept r s) (a : Nat) : Kept r (State.uncoreSample s a) := by
  simp only [State.uncoreSample]
  repeat'
    first
    | with_reducible assumption | with_reducible apply State.giveNj_kept | with_reducible apply foldl_kept
    | simp only [Kept.upd_iff, Kept.updStart_iff] | intro _ _ _ | intro _ _ | split | (fail_if_no_progress dsimp only)

theorem State.updInst_kept {r s : State} (h : Kept r s) (a : Nat) (b : Inst → Inst) : Kept r (State.updInst s a b) := by
  exact Kept.upd_iff.2 h

theorem State.account_kept {r s : State} (h : Kept r s) (a : Nat) (b : Cls) (c : Nat) (d : Nat) : Kept r (State.account s a b c d) := by
  simp only [State.account]
  repeat'
    first
    | with_reducible assumption | with_reducible apply State.updCtx_kept | with_reducible apply foldl_kept
    | simp only [Kept.upd_iff, Kept.updStart_iff] | intro _ _ _ | intro _ _ | split | (fail_if_no_progress dsimp only)

theorem State.beginHeir_kept {r s : State} (h : Kept r s) (a : Nat) (b : Nat) : Kept r (State.beginHeir s a b) := by
  simp only [State.beginHeir]
  repeat'
    first
    | with_reducible assumption | with_reducible apply State.updTask_kept | with_reducible refine Kept.of_snd (by with_reducible assumption) ?_
    | with_reducible refine Kept.of_fst (by with_reducible assumption) ?_ | with_reducible refine Kept.of_trd (by with_reducible assumption) ?_
    | with_reducible apply foldl_kept | simp only [Kept.upd_iff, Kept.updStart_iff] | intro _ _ _ | intro _ _ | split
    | (fail_if_no_progress dsimp only)

theorem State.segmentEnd_kept {r s : State} (h : Kept r s) (a : Nat) (b : SegEnd) : Kept r (State.segmentEnd s a b) := by
  simp only [State.segmentEnd]
  repeat'
    first
    | with_reducible assumption | with_reducible apply State.account_kept | with_reducible apply State.updCtx_kept
    | with_reducible apply State.addVc_kept | with_reducible apply State.progress_kept | with_reducible apply State.when_kept
    | with_reducible apply State.count_kept | with_reducible apply State.updTask_kept
    | with_reducible refine Kept.of_snd (by with_reducible assumption) ?_ | with_reducible refine Kept.of_fst (by with_reducible assumption) ?_
    | with_reducible refine Kept.of_trd (by with_reducible assumption) ?_ | with_reducible apply foldl_kept
    | simp only [Kept.upd_iff, Kept.updStart_iff] | intro _ _ _ | intro _ _ | split | (fail_if_no_progress dsimp only)

theorem State.windowCheck_kept {r s : State} (h : Kept r s) (a : Nat) : Kept r (State.windowCheck s a) := by
  simp only [State.windowCheck]
  repeat'
    first
    | with_reducible assumption | with_reducible apply State.unpark_kept | with_reducible apply foldl_kept
    | simp only [Kept.upd_iff, Kept.updStart_iff] | intro _ _ _ | intro _ _ | split | (fail_if_no_progress dsimp only)

theorem State.dropTask_kept {r s : State} (h : Kept r s) (a : Nat) : Kept r (State.dropTask s a) := by
  simp only [State.dropTask]
  repeat'
    first
    | with_reducible assumption | with_reducible apply State.windowCheck_kept | with_reducible apply State.emptyBanks_kept
    | with_reducible apply State.dropJobs_kept | with_reducible apply State.freeSlots_kept | with_reducible apply State.updFlight_kept
    | with_reducible apply foldl_kept | simp only [Kept.upd_iff, Kept.updStart_iff] | intro _ _ _ | intro _ _ | split
    | (fail_if_no_progress dsimp only)

theorem State.traceComplete_kept {r s : State} (h : Kept r s) (a : Task) (b : Nat) : Kept r (State.traceComplete s a b) := by
  simp only [State.traceComplete]
  repeat'
    first
    | with_reducible assumption | with_reducible apply State.traceCmd_kept | with_reducible apply State.when_kept
    | with_reducible apply foldl_kept | simp only [Kept.upd_iff, Kept.updStart_iff] | intro _ _ _ | intro _ _ | split
    | (fail_if_no_progress dsimp only)

theorem State.commandComplete_kept {r s : State} (h : Kept r s) (a : Nat) : Kept r (State.commandComplete s a) := by
  simp only [State.commandComplete]
  repeat'
    first
    | with_reducible assumption | with_reducible apply State.traceComplete_kept | with_reducible apply State.dropTask_kept
    | with_reducible apply State.segmentEnd_kept | with_reducible apply State.learn_kept | with_reducible apply State.endEarlyAt_kept
    | with_reducible apply State.count_kept | with_reducible apply foldl_kept | simp only [Kept.upd_iff, Kept.updStart_iff] | intro _ _ _
    | intro _ _ | split | (fail_if_no_progress dsimp only)

theorem State.taskGone_kept {r s : State} (h : Kept r s) (a : Nat) (b : Nat) : Kept r (State.taskGone s a b) := by
  simp only [State.taskGone]
  repeat'
    first
    | with_reducible assumption | with_reducible apply State.traceComplete_kept | with_reducible apply State.dropTask_kept
    | with_reducible apply State.segmentEnd_kept | with_reducible apply State.endEarlyAt_kept | with_reducible apply foldl_kept
    | simp only [Kept.upd_iff, Kept.updStart_iff] | intro _ _ _ | intro _ _ | split | (fail_if_no_progress dsimp only)

theorem State.afterClean_kept {r s : State} (h : Kept r s) (a : Nat) : Kept r (State.afterClean s a) := by
  simp only [State.afterClean]
  repeat'
    first
    | with_reducible assumption | with_reducible apply State.commandComplete_kept | with_reducible apply State.updTask_kept
    | with_reducible apply State.readMem_kept | with_reducible apply foldl_kept | simp only [Kept.upd_iff, Kept.updStart_iff] | intro _ _ _
    | intro _ _ | split | (fail_if_no_progress dsimp only)

theorem State.startClean_kept {r s : State} (h : Kept r s) (a : Nat) : Kept r (State.startClean s a) := by
  simp only [State.startClean]
  repeat'
    first
    | with_reducible assumption | with_reducible apply State.afterClean_kept | with_reducible apply State.taskGone_kept
    | with_reducible apply State.updTask_kept | with_reducible apply State.emits_kept | with_reducible apply foldl_kept
    | simp only [Kept.upd_iff, Kept.updStart_iff] | intro _ _ _ | intro _ _ | split | (fail_if_no_progress dsimp only)

theorem State.updRank_kept {r s : State} (h : Kept r s) (a : Nat) (b : Nat) (c : Rank → Rank) : Kept r (State.updRank s a b c) := by
  simp only [State.updRank]
  repeat'
    first
    | with_reducible assumption | with_reducible apply State.updTask_kept | with_reducible apply foldl_kept
    | simp only [Kept.upd_iff, Kept.updStart_iff] | intro _ _ _ | intro _ _ | split | (fail_if_no_progress dsimp only)

theorem State.coreDue_kept {r s : State} (h : Kept r s) (a : Nat) : Kept r (State.coreDue s a) := by
  simp only [State.coreDue]
  repeat'
    first
    | with_reducible assumption | with_reducible refine Kept.of_snd (by with_reducible assumption) ?_
    | with_reducible refine Kept.of_fst (by with_reducible assumption) ?_ | with_reducible refine Kept.of_trd (by with_reducible assumption) ?_
    | with_reducible apply foldl_kept | simp only [Kept.upd_iff, Kept.updStart_iff] | intro _ _ _ | intro _ _ | split
    | (fail_if_no_progress dsimp only)

theorem State.coreStop_kept {r s : State} (h : Kept r s) (a : Nat) : Kept r (State.coreStop s a) := by
  simp only [State.coreStop]
  repeat'
    first
    | with_reducible assumption | with_reducible apply State.updCore_kept | with_reducible apply foldl_kept
    | simp only [Kept.upd_iff, Kept.updStart_iff] | intro _ _ _ | intro _ _ | split | (fail_if_no_progress dsimp only)

theorem State.ranksCheck_kept {r s : State} (h : Kept r s) (a : Nat) : Kept r (State.ranksCheck s a) := by
  simp only [State.ranksCheck]
  repeat'
    first
    | with_reducible assumption | with_reducible apply State.startClean_kept | with_reducible apply State.taskGone_kept
    | with_reducible apply State.segmentEnd_kept | with_reducible apply State.uncoreEnd_kept | with_reducible apply State.freeSlots_kept
    | with_reducible apply State.updTask_kept | with_reducible apply foldl_kept | simp only [Kept.upd_iff, Kept.updStart_iff] | intro _ _ _
    | intro _ _ | split | (fail_if_no_progress dsimp only)

theorem State.releaseRank_kept {r s : State} (h : Kept r s) (a : Nat) (b : Nat) : Kept r (State.releaseRank s a b) := by
  simp only [State.releaseRank]
  repeat'
    first
    | with_reducible assumption | with_reducible apply State.ranksCheck_kept | with_reducible apply State.coreStop_kept
    | with_reducible apply State.coreDue_kept | with_reducible apply State.updRank_kept | with_reducible apply foldl_kept
    | simp only [Kept.upd_iff, Kept.updStart_iff] | intro _ _ _ | intro _ _ | split | (fail_if_no_progress dsimp only)

theorem State.continueOn_kept {r s : State} (h : Kept r s) (a : Nat) (b : Nat) (c : List Range) : Kept r (State.continueOn s a b c) := by
  simp only [State.continueOn]
  repeat'
    first
    | with_reducible assumption | with_reducible apply State.updRank_kept | with_reducible refine Kept.of_snd (by with_reducible assumption) ?_
    | with_reducible refine Kept.of_fst (by with_reducible assumption) ?_ | with_reducible refine Kept.of_trd (by with_reducible assumption) ?_
    | with_reducible apply foldl_kept | simp only [Kept.upd_iff, Kept.updStart_iff] | intro _ _ _ | intro _ _ | split
    | (fail_if_no_progress dsimp only)

theorem State.returnRank_kept {r s : State} (h : Kept r s) (a : Nat) (b : Nat) : Kept r (State.returnRank s a b) := by
  simp only [State.returnRank]
  repeat'
    first
    | with_reducible assumption | with_reducible apply State.releaseRank_kept | with_reducible apply State.updTask_kept
    | with_reducible apply foldl_kept | simp only [Kept.upd_iff, Kept.updStart_iff] | intro _ _ _ | intro _ _ | split
    | (fail_if_no_progress dsimp only)

theorem State.cancelConts_kept {r s : State} (h : Kept r s) (a : Nat) : Kept r (State.cancelConts s a) := by
  simp only [State.cancelConts]
  repeat'
    first
    | with_reducible assumption | with_reducible apply State.returnRank_kept | with_reducible apply State.dropDue_kept
    | with_reducible apply foldl_kept | simp only [Kept.upd_iff, Kept.updStart_iff] | intro _ _ _ | intro _ _ | split
    | (fail_if_no_progress dsimp only)

theorem State.tryTrim_kept {r s : State} (h : Kept r s) (a : Nat) (b : Nat) (c : List Nat) : Kept r (State.tryTrim s a b c) := by
  simp only [State.tryTrim]
  repeat'
    first
    | with_reducible assumption | with_reducible apply State.releaseRank_kept | with_reducible apply State.emit_kept
    | with_reducible apply foldl_kept | simp only [Kept.upd_iff, Kept.updStart_iff] | intro _ _ _ | intro _ _ | split
    | (fail_if_no_progress dsimp only)

theorem State.steal_kept {r s : State} (h : Kept r s) (a : Task) (b : Nat) (c : Nat) : Kept r (State.steal s a b c) := by
  simp only [State.steal]
  repeat'
    first
    | with_reducible assumption | with_reducible apply State.tryTrim_kept | with_reducible apply State.continueOn_kept
    | with_reducible apply State.updRank_kept | with_reducible apply State.updTask_kept | with_reducible apply State.count_kept
    | with_reducible apply State.bump_kept | with_reducible apply foldl_kept | simp only [Kept.upd_iff, Kept.updStart_iff] | intro _ _ _
    | intro _ _ | split | (fail_if_no_progress dsimp only)

theorem State.exhausted_kept {r s : State} (h : Kept r s) (a : Nat) (b : Nat) (c : Bool) : Kept r (State.exhausted s a b c) := by
  simp only [State.exhausted]
  repeat'
    first
    | with_reducible assumption | with_reducible apply State.steal_kept | with_reducible apply State.returnRank_kept
    | with_reducible apply State.continueOn_kept | with_reducible apply State.releaseRank_kept | with_reducible apply State.updRank_kept
    | with_reducible apply foldl_kept | simp only [Kept.upd_iff, Kept.updStart_iff] | intro _ _ _ | intro _ _ | split
    | (fail_if_no_progress dsimp only)

theorem State.trimAck_kept {r s : State} (h : Kept r s) (a : Nat) (b : Bool) (c : Nat) : Kept r (State.trimAck s a b c) := by
  simp only [State.trimAck]
  repeat'
    first
    | with_reducible assumption | with_reducible apply State.bump_kept | with_reducible apply State.count_kept
    | with_reducible apply State.releaseRank_kept | with_reducible apply State.tryTrim_kept | with_reducible apply State.updRank_kept
    | with_reducible apply State.updTask_kept | with_reducible apply State.progress_kept | with_reducible apply State.continueOn_kept
    | with_reducible refine Kept.of_snd (by with_reducible assumption) ?_ | with_reducible refine Kept.of_fst (by with_reducible assumption) ?_
    | with_reducible refine Kept.of_trd (by with_reducible assumption) ?_ | with_reducible apply foldl_kept
    | simp only [Kept.upd_iff, Kept.updStart_iff] | intro _ _ _ | intro _ _ | split | (fail_if_no_progress dsimp only)

theorem State.missedTrim_kept {r s : State} (h : Kept r s) (a : Nat) : Kept r (State.missedTrim s a) := by
  simp only [State.missedTrim]
  repeat'
    first
    | with_reducible assumption | with_reducible apply State.trimAck_kept | with_reducible apply foldl_kept
    | simp only [Kept.upd_iff, Kept.updStart_iff] | intro _ _ _ | intro _ _ | split | (fail_if_no_progress dsimp only)

theorem State.yieldTask_kept {r s : State} (h : Kept r s) (a : Nat) : Kept r (State.yieldTask s a) := by
  simp only [State.yieldTask]
  repeat'
    first
    | with_reducible assumption | with_reducible apply State.updTask_kept | with_reducible apply State.discard_kept
    | with_reducible apply State.emits_kept | with_reducible apply State.cancelConts_kept | with_reducible apply State.ranksCheck_kept
    | with_reducible refine Kept.of_snd (by with_reducible assumption) ?_ | with_reducible refine Kept.of_fst (by with_reducible assumption) ?_
    | with_reducible refine Kept.of_trd (by with_reducible assumption) ?_ | with_reducible apply foldl_kept
    | simp only [Kept.upd_iff, Kept.updStart_iff] | intro _ _ _ | intro _ _ | split | (fail_if_no_progress dsimp only)

theorem State.squashTask_kept {r s : State} (h : Kept r s) (a : Nat) : Kept r (State.squashTask s a) := by
  simp only [State.squashTask]
  repeat'
    first
    | with_reducible assumption | with_reducible apply State.cancelConts_kept | with_reducible apply State.ranksCheck_kept
    | with_reducible apply State.taskGone_kept | with_reducible apply State.discard_kept | with_reducible apply State.updTask_kept
    | with_reducible apply State.emits_kept | with_reducible apply foldl_kept | simp only [Kept.upd_iff, Kept.updStart_iff] | intro _ _ _
    | intro _ _ | split | (fail_if_no_progress dsimp only)

theorem State.zeroSlot_kept {r s : State} (h : Kept r s) (a : Nat) : Kept r (State.zeroSlot s a) := by
  simp only [State.zeroSlot]
  repeat'
    first
    | with_reducible assumption | with_reducible apply State.setReg_kept | with_reducible apply foldl_kept
    | simp only [Kept.upd_iff, Kept.updStart_iff] | intro _ _ _ | intro _ _ | split | (fail_if_no_progress dsimp only)

theorem State.newKey_kept {r s : State} (h : Kept r s) (a : Nat) : Kept r (State.newKey s a) := by
  simp only [State.newKey]
  repeat'
    first
    | with_reducible assumption | with_reducible apply State.genKey_kept | with_reducible apply State.putKey_kept
    | with_reducible refine Kept.of_snd (by with_reducible assumption) ?_ | with_reducible refine Kept.of_fst (by with_reducible assumption) ?_
    | with_reducible refine Kept.of_trd (by with_reducible assumption) ?_ | with_reducible apply foldl_kept
    | simp only [Kept.upd_iff, Kept.updStart_iff] | intro _ _ _ | intro _ _ | split | (fail_if_no_progress dsimp only)

theorem State.freeBlob_kept {r s : State} (h : Kept r s) (a : Nat) : Kept r (State.freeBlob s a) := by
  simp only [State.freeBlob]
  repeat'
    first
    | with_reducible assumption | with_reducible apply State.zeroSlot_kept | with_reducible apply foldl_kept
    | simp only [Kept.upd_iff, Kept.updStart_iff] | intro _ _ _ | intro _ _ | split | (fail_if_no_progress dsimp only)

theorem State.securityRec_kept {r s : State} (h : Kept r s) (a : Nat) (b : Option Nat) (c : List Word) : Kept r (State.securityRec s a b c) := by
  simp only [State.securityRec]
  repeat'
    first
    | with_reducible assumption | with_reducible apply State.logErr_kept | with_reducible apply State.raise_kept
    | with_reducible apply foldl_kept | simp only [Kept.upd_iff, Kept.updStart_iff] | intro _ _ _ | intro _ _ | split
    | (fail_if_no_progress dsimp only)

theorem State.revokeBlobs_kept {r s : State} (h : Kept r s) (a : Nat → Bool) : Kept r (State.revokeBlobs s a) := by
  simp only [State.revokeBlobs]
  repeat'
    first
    | with_reducible assumption | with_reducible apply State.securityRec_kept | with_reducible apply State.freeBlob_kept
    | with_reducible apply foldl_kept | simp only [Kept.upd_iff, Kept.updStart_iff] | intro _ _ _ | intro _ _ | split
    | (fail_if_no_progress dsimp only)

theorem State.loadAbort_kept {r s : State} (h : Kept r s) : Kept r (State.loadAbort s) := by
  simp only [State.loadAbort]
  repeat'
    first
    | with_reducible assumption | with_reducible apply State.endLoad_kept | with_reducible apply foldl_kept
    | simp only [Kept.upd_iff, Kept.updStart_iff] | intro _ _ _ | intro _ _ | split | (fail_if_no_progress dsimp only)

theorem State.layoutChanged_kept {r s : State} (h : Kept r s) (a : Nat) (b : Bool) : Kept r (State.layoutChanged s a b) := by
  simp only [State.layoutChanged]
  repeat'
    first
    | with_reducible assumption | with_reducible apply State.loadAbort_kept | with_reducible apply State.revokeBlobs_kept
    | with_reducible apply State.when_kept | with_reducible refine Kept.of_snd (by with_reducible assumption) ?_
    | with_reducible refine Kept.of_fst (by with_reducible assumption) ?_ | with_reducible refine Kept.of_trd (by with_reducible assumption) ?_
    | with_reducible apply foldl_kept | simp only [Kept.upd_iff, Kept.updStart_iff] | intro _ _ _ | intro _ _ | split
    | (fail_if_no_progress dsimp only)

theorem State.imageChanged_kept {r s : State} (h : Kept r s) : Kept r (State.imageChanged s) := by
  simp only [State.imageChanged]
  repeat'
    first
    | with_reducible assumption | with_reducible apply State.revokeBlobs_kept | with_reducible apply foldl_kept
    | simp only [Kept.upd_iff, Kept.updStart_iff] | intro _ _ _ | intro _ _ | split | (fail_if_no_progress dsimp only)

theorem State.setIlv_kept {r s : State} (h : Kept r s) (a : Nat) (b : Nat) (c : Nat) : Kept r (State.setIlv s a b c) := by
  simp only [State.setIlv]
  repeat'
    first
    | with_reducible assumption | with_reducible apply State.setReg_kept | with_reducible apply foldl_kept
    | simp only [Kept.upd_iff, Kept.updStart_iff] | intro _ _ _ | intro _ _ | split | (fail_if_no_progress dsimp only)

theorem State.joinIlv_kept {r s : State} (h : Kept r s) (a : Nat) : Kept r (State.joinIlv s a) := by
  simp only [State.joinIlv]
  repeat'
    first
    | with_reducible assumption | with_reducible apply State.setIlv_kept | with_reducible apply State.layoutChanged_kept
    | with_reducible apply foldl_kept | simp only [Kept.upd_iff, Kept.updStart_iff] | intro _ _ _ | intro _ _ | split
    | (fail_if_no_progress dsimp only)

theorem State.renumber_kept {r s : State} (h : Kept r s) (a : Nat) (b : Nat) : Kept r (State.renumber s a b) := by
  exact Kept.upd_iff.2 h

theorem State.setNode_kept {r s : State} (h : Kept r s) (a : Nat) : Kept r (State.setNode s a) := by
  simp only [State.setNode]
  repeat'
    first
    | with_reducible assumption | with_reducible apply State.renumber_kept | with_reducible apply State.layoutChanged_kept
    | with_reducible apply State.setF_kept | with_reducible apply foldl_kept | simp only [Kept.upd_iff, Kept.updStart_iff] | intro _ _ _
    | intro _ _ | split | (fail_if_no_progress dsimp only)

theorem State.holdPage_kept {r s : State} (h : Kept r s) (a : Nat) (b : Nat) : Kept r (State.holdPage s a b) := by
  simp only [State.holdPage]
  repeat'
    first
    | with_reducible assumption | with_reducible apply foldl_kept | simp only [Kept.upd_iff, Kept.updStart_iff] | intro _ _ _ | intro _ _ | split
    | (fail_if_no_progress dsimp only)

theorem State.setCtr_kept {r s : State} (h : Kept r s) (a : Nat) (b : Nat) (c : Nat) (d : Nat) : Kept r (State.setCtr s a b c d) := by
  exact Kept.upd_iff.2 h

theorem State.writeLine_kept {r s : State} (h : Kept r s) (a : Option Nat) (b : Nat) (c : Nat) (d : List Word) : Kept r (State.writeLine s a b c
    d) := by
  simp only [State.writeLine]
  repeat'
    first
    | with_reducible assumption | with_reducible apply State.setCtr_kept | with_reducible apply State.emit_kept
    | with_reducible apply State.dirtyPath_kept | with_reducible refine Kept.of_snd (by with_reducible assumption) ?_
    | with_reducible refine Kept.of_fst (by with_reducible assumption) ?_ | with_reducible refine Kept.of_trd (by with_reducible assumption) ?_
    | with_reducible apply foldl_kept | simp only [Kept.upd_iff, Kept.updStart_iff] | intro _ _ _ | intro _ _ | split
    | (fail_if_no_progress dsimp only)

theorem State.pruneUp_kept {r s : State} (h : Kept r s) (a : Nat) (b : Nat) (c : Nat) : Kept r (State.pruneUp s a b c) := by
  induction b generalizing s a c with
  | zero => exact h
  | succ n ih =>
    simp only [State.pruneUp]
    repeat'
      first
      | with_reducible assumption | with_reducible apply ih | with_reducible refine Kept.of_snd (by with_reducible assumption) ?_
      | with_reducible refine Kept.of_fst (by with_reducible assumption) ?_ | with_reducible refine Kept.of_trd (by with_reducible assumption) ?_
      | with_reducible apply foldl_kept | simp only [Kept.upd_iff, Kept.updStart_iff] | intro _ _ _ | intro _ _ | split
      | (fail_if_no_progress dsimp only)

theorem State.clearPages_kept {r s : State} (h : Kept r s) (a : Nat) (b : Nat) (c : Nat) (d : List Nat) : Kept r (State.clearPages s a b c d) :=
    by
  simp only [State.clearPages]
  repeat'
    first
    | with_reducible assumption | with_reducible apply State.pruneUp_kept | with_reducible refine Kept.of_snd (by with_reducible assumption) ?_
    | with_reducible refine Kept.of_fst (by with_reducible assumption) ?_ | with_reducible refine Kept.of_trd (by with_reducible assumption) ?_
    | with_reducible apply foldl_kept | simp only [Kept.upd_iff, Kept.updStart_iff] | intro _ _ _ | intro _ _ | split
    | (fail_if_no_progress dsimp only)

theorem State.clearPart_kept {r s : State} (h : Kept r s) (a : Nat) : Kept r (State.clearPart s a) := by
  simp only [State.clearPart]
  repeat'
    first
    | with_reducible assumption | with_reducible refine Kept.of_snd (by with_reducible assumption) ?_
    | with_reducible refine Kept.of_fst (by with_reducible assumption) ?_ | with_reducible refine Kept.of_trd (by with_reducible assumption) ?_
    | with_reducible apply foldl_kept | simp only [Kept.upd_iff, Kept.updStart_iff] | intro _ _ _ | intro _ _ | split
    | (fail_if_no_progress dsimp only)

theorem State.updGate_kept {r s : State} (h : Kept r s) (a : Nat) (b : Gate → Gate) : Kept r (State.updGate s a b) := by
  simp only [State.updGate]
  repeat'
    first
    | with_reducible assumption | with_reducible apply State.updTask_kept | with_reducible apply foldl_kept
    | simp only [Kept.upd_iff, Kept.updStart_iff] | intro _ _ _ | intro _ _ | split | (fail_if_no_progress dsimp only)

theorem State.tagFail_kept {r s : State} (h : Kept r s) : Kept r (State.tagFail s) := by
  simp only [State.tagFail]
  repeat'
    first
    | with_reducible assumption | with_reducible apply State.bump_kept | with_reducible apply foldl_kept
    | simp only [Kept.upd_iff, Kept.updStart_iff] | intro _ _ _ | intro _ _ | split | (fail_if_no_progress dsimp only)

theorem State.gateHeader_kept {r s : State} (h : Kept r s) (a : Nat) (b : Task) : Kept r (State.gateHeader s a b) := by
  simp only [State.gateHeader]
  repeat'
    first
    | with_reducible assumption | with_reducible apply State.tagFail_kept | with_reducible apply State.updGate_kept
    | with_reducible apply State.when_kept | with_reducible apply foldl_kept | simp only [Kept.upd_iff, Kept.updStart_iff] | intro _ _ _
    | intro _ _ | split | (fail_if_no_progress dsimp only)

theorem State.gateChunk_kept {r s : State} (h : Kept r s) (a : Nat) (b : Task) (c : BlobHdr) : Kept r (State.gateChunk s a b c) := by
  simp only [State.gateChunk]
  repeat'
    first
    | with_reducible assumption | with_reducible apply State.tagFail_kept | with_reducible apply State.updGate_kept
    | with_reducible apply State.zeroSlot_kept | with_reducible apply State.emit_kept | with_reducible apply foldl_kept
    | simp only [Kept.upd_iff, Kept.updStart_iff] | intro _ _ _ | intro _ _ | split | (fail_if_no_progress dsimp only)

theorem State.gateStep_kept {r s : State} (h : Kept r s) (a : Nat) : Kept r (State.gateStep s a) := by
  simp only [State.gateStep]
  repeat'
    first
    | with_reducible assumption | with_reducible apply State.gateChunk_kept | with_reducible apply State.gateHeader_kept
    | with_reducible apply foldl_kept | simp only [Kept.upd_iff, Kept.updStart_iff] | intro _ _ _ | intro _ _ | split
    | (fail_if_no_progress dsimp only)

theorem State.gateSteps_kept {r s : State} (h : Kept r s) (a : Nat) (b : Nat) : Kept r (State.gateSteps s a b) := by
  induction b generalizing s with
  | zero => exact h
  | succ n ih =>
    simp only [State.gateSteps]
    repeat'
      first
      | with_reducible assumption | with_reducible apply ih | with_reducible apply State.gateStep_kept
      | with_reducible refine Kept.of_snd (by with_reducible assumption) ?_ | with_reducible refine Kept.of_fst (by with_reducible assumption) ?_
      | with_reducible refine Kept.of_trd (by with_reducible assumption) ?_ | with_reducible apply foldl_kept
      | simp only [Kept.upd_iff, Kept.updStart_iff] | intro _ _ _ | intro _ _ | split | (fail_if_no_progress dsimp only)

theorem State.gateData_kept {r s : State} (h : Kept r s) (a : Nat) (b : List Word) : Kept r (State.gateData s a b) := by
  simp only [State.gateData]
  repeat'
    first
    | with_reducible assumption | with_reducible apply State.gateSteps_kept | with_reducible apply State.updGate_kept
    | with_reducible apply foldl_kept | simp only [Kept.upd_iff, Kept.updStart_iff] | intro _ _ _ | intro _ _ | split
    | (fail_if_no_progress dsimp only)

theorem State.gateStart_kept {r s : State} (h : Kept r s) (a : Nat) (b : Task) : Kept r (State.gateStart s a b) := by
  simp only [State.gateStart]
  repeat'
    first
    | with_reducible assumption | with_reducible apply State.updGate_kept | with_reducible apply foldl_kept
    | simp only [Kept.upd_iff, Kept.updStart_iff] | intro _ _ _ | intro _ _ | split | (fail_if_no_progress dsimp only)

theorem State.updTd_kept {r s : State} (h : Kept r s) (a : TdKind) (b : Nat) (c : Td → Td) : Kept r (State.updTd s a b c) := by
  exact Kept.upd_iff.2 h

theorem State.endTd_kept {r s : State} (h : Kept r s) (a : TdKind) (b : Nat) : Kept r (State.endTd s a b) := by
  exact Kept.upd_iff.2 h

theorem State.takeTd_kept {r s : State} (h : Kept r s) (a : Td) : Kept r (State.takeTd s a) := by
  simp only [State.takeTd]
  repeat'
    first
    | with_reducible assumption | with_reducible apply State.errCount_kept | with_reducible refine Kept.of_snd (by with_reducible assumption) ?_
    | with_reducible refine Kept.of_fst (by with_reducible assumption) ?_ | with_reducible refine Kept.of_trd (by with_reducible assumption) ?_
    | with_reducible apply foldl_kept | simp only [Kept.upd_iff, Kept.updStart_iff] | intro _ _ _ | intro _ _ | split
    | (fail_if_no_progress dsimp only)

theorem State.grantTd_kept {r s : State} (h : Kept r s) : Kept r (State.grantTd s) := by
  simp only [State.grantTd]
  repeat'
    first
    | with_reducible assumption | with_reducible apply State.updTd_kept | with_reducible refine Kept.of_snd (by with_reducible assumption) ?_
    | with_reducible refine Kept.of_fst (by with_reducible assumption) ?_ | with_reducible refine Kept.of_trd (by with_reducible assumption) ?_
    | with_reducible apply foldl_kept | simp only [Kept.upd_iff, Kept.updStart_iff] | intro _ _ _ | intro _ _ | split
    | (fail_if_no_progress dsimp only)

theorem State.haltTask_kept {r s : State} (h : Kept r s) (a : Bool) (b : Nat) : Kept r (State.haltTask s a b) := by
  simp only [State.haltTask]
  repeat'
    first
    | with_reducible assumption | with_reducible apply State.cancelConts_kept | with_reducible apply State.ranksCheck_kept
    | with_reducible apply State.taskGone_kept | with_reducible apply State.discard_kept | with_reducible apply State.dropDue_kept
    | with_reducible apply foldl_kept | simp only [Kept.upd_iff, Kept.updStart_iff] | intro _ _ _ | intro _ _ | split
    | (fail_if_no_progress dsimp only)

theorem State.endInherit_kept {r s : State} (h : Kept r s) (a : Nat → Bool) : Kept r (State.endInherit s a) := by
  simp only [State.endInherit]
  repeat'
    first
    | with_reducible assumption | with_reducible apply State.dropEdges_kept | with_reducible apply foldl_kept
    | simp only [Kept.upd_iff, Kept.updStart_iff] | intro _ _ _ | intro _ _ | split | (fail_if_no_progress dsimp only)

theorem State.holdFlight_kept {r s : State} (h : Kept r s) (a : Nat) : Kept r (State.holdFlight s a) := by
  simp only [State.holdFlight]
  repeat'
    first
    | with_reducible assumption | with_reducible apply State.unlist_kept | with_reducible apply State.dropHints_kept
    | with_reducible apply State.updFlight_kept | with_reducible apply foldl_kept | simp only [Kept.upd_iff, Kept.updStart_iff] | intro _ _ _
    | intro _ _ | split | (fail_if_no_progress dsimp only)

theorem State.removeFlight_kept {r s : State} (h : Kept r s) (a : Nat) : Kept r (State.removeFlight s a) := by
  simp only [State.removeFlight]
  repeat'
    first
    | with_reducible assumption | with_reducible apply State.traceComplete_kept | with_reducible apply State.dropTask_kept
    | with_reducible apply State.unlist_kept | with_reducible apply State.freeEntry_kept | with_reducible apply State.dropHints_kept
    | with_reducible apply foldl_kept | simp only [Kept.upd_iff, Kept.updStart_iff] | intro _ _ _ | intro _ _ | split
    | (fail_if_no_progress dsimp only)

theorem State.tdStep1_kept {r s : State} (h : Kept r s) (a : Td) : Kept r (State.tdStep1 s a) := by
  simp only [State.tdStep1]
  repeat'
    first
    | with_reducible assumption | with_reducible apply State.removeFlight_kept | with_reducible apply State.holdFlight_kept
    | with_reducible apply State.endInherit_kept | with_reducible apply State.haltTask_kept | with_reducible apply State.discardFetched_kept
    | with_reducible apply State.admDiscard_kept | with_reducible apply foldl_kept | simp only [Kept.upd_iff, Kept.updStart_iff] | intro _ _ _
    | intro _ _ | split | (fail_if_no_progress dsimp only)

theorem State.mergeDestroys_kept {r s : State} (h : Kept r s) (a : Nat) : Kept r (State.mergeDestroys s a) := by
  exact Kept.upd_iff.2 h

theorem State.startAutotomy_kept {r s : State} (h : Kept r s) (a : Guilt) : Kept r (State.startAutotomy s a) := by
  simp only [State.startAutotomy]
  repeat'
    first
    | with_reducible assumption | with_reducible apply State.errCount_kept | with_reducible apply State.mergeDestroys_kept
    | with_reducible apply State.tdStep1_kept | with_reducible apply State.takeTd_kept
    | with_reducible refine Kept.of_snd (by with_reducible assumption) ?_ | with_reducible refine Kept.of_fst (by with_reducible assumption) ?_
    | with_reducible refine Kept.of_trd (by with_reducible assumption) ?_ | with_reducible apply foldl_kept
    | simp only [Kept.upd_iff, Kept.updStart_iff] | intro _ _ _ | intro _ _ | split | (fail_if_no_progress dsimp only)

theorem State.guilty_kept {r s : State} (h : Kept r s) (a : Nat) (b : Nat) (c : Option Nat) (d : Word) : Kept r (State.guilty s a b c d) := by
  simp only [State.guilty]
  repeat'
    first
    | with_reducible assumption | with_reducible apply State.startAutotomy_kept | with_reducible apply foldl_kept
    | simp only [Kept.upd_iff, Kept.updStart_iff] | intro _ _ _ | intro _ _ | split | (fail_if_no_progress dsimp only)

theorem State.guiltyTask_kept {r s : State} (h : Kept r s) (a : Nat) (b : Nat) (c : Word) : Kept r (State.guiltyTask s a b c) := by
  simp only [State.guiltyTask]
  repeat'
    first
    | with_reducible assumption | with_reducible apply State.startAutotomy_kept | with_reducible apply foldl_kept
    | simp only [Kept.upd_iff, Kept.updStart_iff] | intro _ _ _ | intro _ _ | split | (fail_if_no_progress dsimp only)

theorem State.startWide_kept {r s : State} (h : Kept r s) (a : Td) : Kept r (State.startWide s a) := by
  simp only [State.startWide]
  repeat'
    first
    | with_reducible assumption | with_reducible apply State.tdStep1_kept | with_reducible apply State.takeTd_kept
    | with_reducible refine Kept.of_snd (by with_reducible assumption) ?_ | with_reducible refine Kept.of_fst (by with_reducible assumption) ?_
    | with_reducible refine Kept.of_trd (by with_reducible assumption) ?_ | with_reducible apply foldl_kept
    | simp only [Kept.upd_iff, Kept.updStart_iff] | intro _ _ _ | intro _ _ | split | (fail_if_no_progress dsimp only)

theorem State.startFlr_kept {r s : State} (h : Kept r s) (a : Nat) : Kept r (State.startFlr s a) := by
  simp only [State.startFlr]
  repeat'
    first
    | with_reducible assumption | with_reducible apply State.startWide_kept | with_reducible apply State.setF_kept
    | with_reducible apply foldl_kept | simp only [Kept.upd_iff, Kept.updStart_iff] | intro _ _ _ | intro _ _ | split
    | (fail_if_no_progress dsimp only)

theorem State.setSec_kept {r s : State} (h : Kept r s) (a : Sec → Sec) : Kept r (State.setSec s a) := by
  exact Kept.upd_iff.2 h

theorem State.mboxErr_kept {r s : State} (h : Kept r s) (a : Nat) : Kept r (State.mboxErr s a) := by
  simp only [State.mboxErr]
  repeat'
    first
    | with_reducible assumption | with_reducible apply State.setSec_kept | with_reducible apply State.setB_kept | with_reducible apply foldl_kept
    | simp only [Kept.upd_iff, Kept.updStart_iff] | intro _ _ _ | intro _ _ | split | (fail_if_no_progress dsimp only)

theorem State.failMbox_kept {r s : State} (h : Kept r s) (a : RdOut) : Kept r (State.failMbox s a) := by
  simp only [State.failMbox]
  repeat'
    first
    | with_reducible assumption | with_reducible apply State.mboxErr_kept | with_reducible refine Kept.of_snd (by with_reducible assumption) ?_
    | with_reducible refine Kept.of_fst (by with_reducible assumption) ?_ | with_reducible refine Kept.of_trd (by with_reducible assumption) ?_
    | with_reducible apply foldl_kept | simp only [Kept.upd_iff, Kept.updStart_iff] | intro _ _ _ | intro _ _ | split
    | (fail_if_no_progress dsimp only)

theorem State.startHostLoss_kept {r s : State} (h : Kept r s) (a : Nat) : Kept r (State.startHostLoss s a) := by
  simp only [State.startHostLoss]
  repeat'
    first
    | with_reducible assumption | with_reducible apply State.failMbox_kept | with_reducible apply State.setB_kept
    | with_reducible apply State.dropReads_kept | with_reducible apply State.startWide_kept
    | with_reducible refine Kept.of_snd (by with_reducible assumption) ?_ | with_reducible refine Kept.of_fst (by with_reducible assumption) ?_
    | with_reducible refine Kept.of_trd (by with_reducible assumption) ?_ | with_reducible apply foldl_kept
    | simp only [Kept.upd_iff, Kept.updStart_iff] | intro _ _ _ | intro _ _ | split | (fail_if_no_progress dsimp only)

theorem State.startHalted_kept {r s : State} (h : Kept r s) (a : Nat) (b : Nat) : Kept r (State.startHalted s a b) := by
  simp only [State.startHalted]
  repeat'
    first
    | with_reducible assumption | with_reducible apply State.startWide_kept | with_reducible apply foldl_kept
    | simp only [Kept.upd_iff, Kept.updStart_iff] | intro _ _ _ | intro _ _ | split | (fail_if_no_progress dsimp only)

theorem State.startDestroy_kept {r s : State} (h : Kept r s) (a : Nat) (b : Sq) (c : Nat) : Kept r (State.startDestroy s a b c) := by
  simp only [State.startDestroy]
  repeat'
    first
    | with_reducible assumption | with_reducible apply State.tdStep1_kept | with_reducible apply State.takeTd_kept
    | with_reducible apply State.updSq_kept | with_reducible apply foldl_kept | simp only [Kept.upd_iff, Kept.updStart_iff] | intro _ _ _
    | intro _ _ | split | (fail_if_no_progress dsimp only)

theorem State.squashScope_kept {r s : State} (h : Kept r s) (a : Td) (b : Option Nat) : Kept r (State.squashScope s a b) := by
  simp only [State.squashScope]
  repeat'
    first
    | with_reducible assumption | with_reducible apply State.squashTask_kept | with_reducible apply foldl_kept
    | simp only [Kept.upd_iff, Kept.updStart_iff] | intro _ _ _ | intro _ _ | split | (fail_if_no_progress dsimp only)

theorem State.dropTasksOf_kept {r s : State} (h : Kept r s) (a : Nat) (b : Nat) : Kept r (State.dropTasksOf s a b) := by
  simp only [State.dropTasksOf]
  repeat'
    first
    | with_reducible assumption | with_reducible apply State.taskGone_kept | with_reducible apply foldl_kept
    | simp only [Kept.upd_iff, Kept.updStart_iff] | intro _ _ _ | intro _ _ | split | (fail_if_no_progress dsimp only)

theorem State.takeFault_kept {r s : State} (h : Kept r s) (a : Nat) (b : List WriteFault) : Kept r (State.takeFault s a b).2 := by
  simp only [State.takeFault]
  repeat'
    first
    | with_reducible assumption | with_reducible refine Kept.of_snd (by with_reducible assumption) ?_
    | with_reducible refine Kept.of_fst (by with_reducible assumption) ?_ | with_reducible refine Kept.of_trd (by with_reducible assumption) ?_
    | with_reducible apply foldl_kept | simp only [Kept.upd_iff, Kept.updStart_iff] | intro _ _ _ | intro _ _ | split
    | (fail_if_no_progress dsimp only)

theorem State.abortOne_kept {r s : State} (h : Kept r s) (a : Nat) (b : EndRec) : Kept r (State.abortOne s a b).2 := by
  simp only [State.abortOne]
  repeat'
    first
    | with_reducible assumption | with_reducible apply State.updFlight_kept | with_reducible apply State.dropTasksOf_kept
    | with_reducible apply State.complete_kept | with_reducible apply State.dropFlight_kept | with_reducible apply State.takeFault_kept
    | with_reducible apply State.writeEntry_kept | with_reducible apply State.keepHeld_kept | with_reducible apply State.retireSeq_kept
    | with_reducible refine Kept.of_snd (by with_reducible assumption) ?_ | with_reducible refine Kept.of_fst (by with_reducible assumption) ?_
    | with_reducible refine Kept.of_trd (by with_reducible assumption) ?_ | with_reducible apply foldl_kept
    | simp only [Kept.upd_iff, Kept.updStart_iff] | intro _ _ _ | intro _ _ | split | (fail_if_no_progress dsimp only)

theorem State.abortAll_kept {r s : State} (h : Kept r s) (a : Nat → Flight → EndRec) (b : List (Nat × Flight)) : Kept r (State.abortAll s a b).2
    := by
  induction b generalizing s a with
  | nil => exact h
  | cons y l ih =>
    simp only [State.abortAll]
    repeat'
      first
      | with_reducible assumption | with_reducible apply ih | with_reducible apply State.abortOne_kept
      | with_reducible refine Kept.of_snd (by with_reducible assumption) ?_ | with_reducible refine Kept.of_fst (by with_reducible assumption) ?_
      | with_reducible refine Kept.of_trd (by with_reducible assumption) ?_ | with_reducible apply foldl_kept
      | simp only [Kept.upd_iff, Kept.updStart_iff] | intro _ _ _ | intro _ _ | split | (fail_if_no_progress dsimp only)

theorem State.abortSq_kept {r s : State} (h : Kept r s) (a : Nat) (b : Nat → Flight → EndRec) : Kept r (State.abortSq s a b) := by
  simp only [State.abortSq]
  repeat'
    first
    | with_reducible assumption | with_reducible apply State.abortAll_kept | with_reducible apply State.takeFault_kept
    | with_reducible apply State.holdCr_kept | with_reducible apply State.seqWord_kept | with_reducible apply State.when_kept
    | with_reducible apply State.raiseEntry_kept | with_reducible refine Kept.of_snd (by with_reducible assumption) ?_
    | with_reducible refine Kept.of_fst (by with_reducible assumption) ?_ | with_reducible refine Kept.of_trd (by with_reducible assumption) ?_
    | with_reducible apply foldl_kept | simp only [Kept.upd_iff, Kept.updStart_iff] | intro _ _ _ | intro _ _ | split
    | (fail_if_no_progress dsimp only)

theorem State.finishAutotomy_kept {r s : State} (h : Kept r s) (a : Td) : Kept r (State.finishAutotomy s a) := by
  simp only [State.finishAutotomy]
  repeat'
    first
    | with_reducible assumption | with_reducible apply State.abortSq_kept | with_reducible apply State.ctxsGone_kept
    | with_reducible apply State.updSq_kept | with_reducible apply State.endTd_kept | with_reducible apply State.logErr_kept
    | with_reducible apply State.fnEvent_kept | with_reducible refine Kept.of_snd (by with_reducible assumption) ?_
    | with_reducible refine Kept.of_fst (by with_reducible assumption) ?_ | with_reducible refine Kept.of_trd (by with_reducible assumption) ?_
    | with_reducible apply foldl_kept | simp only [Kept.upd_iff, Kept.updStart_iff] | intro _ _ _ | intro _ _ | split
    | (fail_if_no_progress dsimp only)

theorem State.finishDestroy_kept {r s : State} (h : Kept r s) (a : Td) : Kept r (State.finishDestroy s a) := by
  simp only [State.finishDestroy]
  repeat'
    first
    | with_reducible assumption | with_reducible apply State.endTd_kept | with_reducible apply State.dropTasksOf_kept
    | with_reducible apply State.dropFlight_kept | with_reducible apply State.updCr_kept | with_reducible apply State.abortSq_kept
    | with_reducible apply State.when_kept | with_reducible apply State.urgent_kept | with_reducible apply State.takeFault_kept
    | with_reducible apply State.admDone_kept | with_reducible refine Kept.of_snd (by with_reducible assumption) ?_
    | with_reducible refine Kept.of_fst (by with_reducible assumption) ?_ | with_reducible refine Kept.of_trd (by with_reducible assumption) ?_
    | with_reducible apply foldl_kept | simp only [Kept.upd_iff, Kept.updStart_iff] | intro _ _ _ | intro _ _ | split
    | (fail_if_no_progress dsimp only)

theorem State.freeCtx_kept {r s : State} (h : Kept r s) (a : Nat) : Kept r (State.freeCtx s a) := by
  simp only [State.freeCtx]
  repeat'
    first
    | with_reducible assumption | with_reducible apply State.raise_kept | with_reducible apply foldl_kept
    | simp only [Kept.upd_iff, Kept.updStart_iff] | intro _ _ _ | intro _ _ | split | (fail_if_no_progress dsimp only)

theorem State.resetView_kept {r s : State} (h : Kept r s) (a : Nat) : Kept r (State.resetView s a) := by
  simp only [State.resetView]
  repeat'
    first
    | with_reducible assumption | with_reducible apply State.setArrBit_kept | with_reducible apply foldl_kept
    | simp only [Kept.upd_iff, Kept.updStart_iff] | intro _ _ _ | intro _ _ | split | (fail_if_no_progress dsimp only)

theorem State.freeFn_kept {r s : State} (h : Kept r s) (a : Nat) : Kept r (State.freeFn s a) := by
  simp only [State.freeFn]
  repeat'
    first
    | with_reducible assumption | with_reducible apply State.removeFlight_kept | with_reducible apply State.freeCtx_kept
    | with_reducible apply State.ctxsGone_kept | with_reducible apply State.resetView_kept | with_reducible apply State.setMsixPend_kept
    | with_reducible apply State.setF_kept | with_reducible apply State.setB_kept | with_reducible apply State.urgent_kept
    | with_reducible refine Kept.of_snd (by with_reducible assumption) ?_ | with_reducible refine Kept.of_fst (by with_reducible assumption) ?_
    | with_reducible refine Kept.of_trd (by with_reducible assumption) ?_ | with_reducible apply foldl_kept
    | simp only [Kept.upd_iff, Kept.updStart_iff] | intro _ _ _ | intro _ _ | split | (fail_if_no_progress dsimp only)

theorem State.finishFlr_kept {r s : State} (h : Kept r s) (a : Td) : Kept r (State.finishFlr s a) := by
  simp only [State.finishFlr]
  repeat'
    first
    | with_reducible assumption | with_reducible apply State.freeFn_kept | with_reducible apply State.endTd_kept
    | with_reducible apply State.raise_kept | with_reducible apply State.emit_kept | with_reducible apply foldl_kept
    | simp only [Kept.upd_iff, Kept.updStart_iff] | intro _ _ _ | intro _ _ | split | (fail_if_no_progress dsimp only)

theorem State.finishHostLoss_kept {r s : State} (h : Kept r s) (a : Td) : Kept r (State.finishHostLoss s a) := by
  simp only [State.finishHostLoss]
  repeat'
    first
    | with_reducible assumption | with_reducible apply State.freeFn_kept | with_reducible apply State.endTd_kept
    | with_reducible apply State.logErr_kept | with_reducible apply State.raise_kept | with_reducible apply State.setB_kept
    | with_reducible apply foldl_kept | simp only [Kept.upd_iff, Kept.updStart_iff] | intro _ _ _ | intro _ _ | split
    | (fail_if_no_progress dsimp only)

theorem State.finishHalted_kept {r s : State} (h : Kept r s) (a : Td) : Kept r (State.finishHalted s a) := by
  simp only [State.finishHalted]
  repeat'
    first
    | with_reducible assumption | with_reducible apply State.removeFlight_kept | with_reducible apply State.endTd_kept
    | with_reducible apply State.ctxsGone_kept | with_reducible apply State.logErr_kept | with_reducible apply State.fnEvent_kept
    | with_reducible apply foldl_kept | simp only [Kept.upd_iff, Kept.updStart_iff] | intro _ _ _ | intro _ _ | split
    | (fail_if_no_progress dsimp only)

theorem State.unknownDone_kept {r s : State} (h : Kept r s) : Kept r (State.unknownDone s) := by
  simp only [State.unknownDone]
  repeat'
    first
    | with_reducible assumption | with_reducible apply State.logErr_kept | with_reducible apply foldl_kept
    | simp only [Kept.upd_iff, Kept.updStart_iff] | intro _ _ _ | intro _ _ | split | (fail_if_no_progress dsimp only)

theorem State.closeRun_kept {r s : State} (h : Kept r s) (a : Nat) (b : Nat) (c : Run) (d : Nat) (e : Nat) (g : Bool) : Kept r (State.closeRun s
    a b c d e g) := by
  simp only [State.closeRun]
  repeat'
    first
    | with_reducible assumption | with_reducible apply State.coreEnd_kept | with_reducible apply State.updTask_kept
    | with_reducible refine Kept.of_snd (by with_reducible assumption) ?_ | with_reducible refine Kept.of_fst (by with_reducible assumption) ?_
    | with_reducible refine Kept.of_trd (by with_reducible assumption) ?_ | with_reducible apply foldl_kept
    | simp only [Kept.upd_iff, Kept.updStart_iff] | intro _ _ _ | intro _ _ | split | (fail_if_no_progress dsimp only)

theorem State.engineFault_kept {r s : State} (h : Kept r s) (a : Nat) (b : Nat) : Kept r (State.engineFault s a b) := by
  simp only [State.engineFault]
  repeat'
    first
    | with_reducible assumption | with_reducible apply State.when_kept | with_reducible apply State.logErr_kept
    | with_reducible apply State.guiltyTask_kept | with_reducible refine Kept.of_snd (by with_reducible assumption) ?_
    | with_reducible refine Kept.of_fst (by with_reducible assumption) ?_ | with_reducible refine Kept.of_trd (by with_reducible assumption) ?_
    | with_reducible apply foldl_kept | simp only [Kept.upd_iff, Kept.updStart_iff] | intro _ _ _ | intro _ _ | split
    | (fail_if_no_progress dsimp only)

theorem State.coreDone_kept {r s : State} (h : Kept r s) (a : Nat) (b : Run) (c : HeldDone) : Kept r (State.coreDone s a b c) := by
  simp only [State.coreDone]
  repeat'
    first
    | with_reducible assumption | with_reducible apply State.unknownDone_kept | with_reducible apply State.closeRun_kept
    | with_reducible apply State.count_kept | with_reducible apply State.updRank_kept | with_reducible apply State.traceAnswer_kept
    | with_reducible apply State.exhausted_kept | with_reducible apply State.missedTrim_kept | with_reducible apply State.returnRank_kept
    | with_reducible apply State.releaseRank_kept | with_reducible apply State.engineFault_kept
    | with_reducible refine Kept.of_snd (by with_reducible assumption) ?_ | with_reducible refine Kept.of_fst (by with_reducible assumption) ?_
    | with_reducible refine Kept.of_trd (by with_reducible assumption) ?_ | with_reducible apply foldl_kept
    | simp only [Kept.upd_iff, Kept.updStart_iff] | intro _ _ _ | intro _ _ | split | (fail_if_no_progress dsimp only)

theorem State.endRun_kept {r s : State} (h : Kept r s) (a : Nat) (b : Nat) : Kept r (State.endRun s a b) := by
  simp only [State.endRun]
  repeat'
    first
    | with_reducible assumption | with_reducible apply State.updEng_kept | with_reducible apply foldl_kept
    | simp only [Kept.upd_iff, Kept.updStart_iff] | intro _ _ _ | intro _ _ | split | (fail_if_no_progress dsimp only)

theorem State.noteYield_kept {r s : State} (h : Kept r s) (a : Nat) : Kept r (State.noteYield s a) := by
  simp only [State.noteYield]
  repeat'
    first
    | with_reducible assumption | with_reducible apply State.draw_kept | with_reducible apply State.updTask_kept
    | with_reducible refine Kept.of_snd (by with_reducible assumption) ?_ | with_reducible refine Kept.of_fst (by with_reducible assumption) ?_
    | with_reducible refine Kept.of_trd (by with_reducible assumption) ?_ | with_reducible apply foldl_kept
    | simp only [Kept.upd_iff, Kept.updStart_iff] | intro _ _ _ | intro _ _ | split | (fail_if_no_progress dsimp only)

theorem State.engDone_kept {r s : State} (h : Kept r s) (a : Nat) (b : Run) (c : HeldDone) : Kept r (State.engDone s a b c) := by
  simp only [State.engDone]
  repeat'
    first
    | with_reducible assumption | with_reducible apply State.unknownDone_kept | with_reducible apply State.endRun_kept
    | with_reducible apply State.updTask_kept | with_reducible apply State.uncoreEnd_kept | with_reducible apply State.when_kept
    | with_reducible apply State.noteYield_kept | with_reducible apply State.traceAnswer_kept | with_reducible apply State.zeroSlot_kept
    | with_reducible apply State.taskGone_kept | with_reducible apply State.commandComplete_kept | with_reducible apply State.segmentEnd_kept
    | with_reducible apply State.engineFault_kept | with_reducible refine Kept.of_snd (by with_reducible assumption) ?_
    | with_reducible refine Kept.of_fst (by with_reducible assumption) ?_ | with_reducible refine Kept.of_trd (by with_reducible assumption) ?_
    | with_reducible apply foldl_kept | simp only [Kept.upd_iff, Kept.updStart_iff] | intro _ _ _ | intro _ _ | split
    | (fail_if_no_progress dsimp only)

theorem State.applyDone_kept {r s : State} (h : Kept r s) (a : HeldDone) : Kept r (State.applyDone s a) := by
  simp only [State.applyDone]
  repeat'
    first
    | with_reducible assumption | with_reducible apply State.trimAck_kept | with_reducible apply State.unknownDone_kept
    | with_reducible apply State.coreDone_kept | with_reducible apply State.engDone_kept
    | with_reducible refine Kept.of_snd (by with_reducible assumption) ?_ | with_reducible refine Kept.of_fst (by with_reducible assumption) ?_
    | with_reducible refine Kept.of_trd (by with_reducible assumption) ?_ | with_reducible apply foldl_kept
    | simp only [Kept.upd_iff, Kept.updStart_iff] | intro _ _ _ | intro _ _ | split | (fail_if_no_progress dsimp only)

theorem State.doneArrives_kept {r s : State} (h : Kept r s) (a : HeldDone) : Kept r (State.doneArrives s a) := by
  simp only [State.doneArrives]
  repeat'
    first
    | with_reducible assumption | with_reducible apply State.applyDone_kept | with_reducible refine Kept.of_snd (by with_reducible assumption) ?_
    | with_reducible refine Kept.of_fst (by with_reducible assumption) ?_ | with_reducible refine Kept.of_trd (by with_reducible assumption) ?_
    | with_reducible apply foldl_kept | simp only [Kept.upd_iff, Kept.updStart_iff] | intro _ _ _ | intro _ _ | split
    | (fail_if_no_progress dsimp only)

theorem State.cleanAck_kept {r s : State} (h : Kept r s) (a : Nat) : Kept r (State.cleanAck s a) := by
  simp only [State.cleanAck]
  repeat'
    first
    | with_reducible assumption | with_reducible apply State.afterClean_kept | with_reducible apply State.updTask_kept
    | with_reducible apply foldl_kept | simp only [Kept.upd_iff, Kept.updStart_iff] | intro _ _ _ | intro _ _ | split
    | (fail_if_no_progress dsimp only)

theorem State.linkRec_kept {r s : State} (h : Kept r s) (a : Nat) (b : Nat) : Kept r (State.linkRec s a b) := by
  simp only [State.linkRec]
  repeat'
    first
    | with_reducible assumption | with_reducible apply State.logErr_kept | with_reducible apply foldl_kept
    | simp only [Kept.upd_iff, Kept.updStart_iff] | intro _ _ _ | intro _ _ | split | (fail_if_no_progress dsimp only)

theorem State.leadRec_kept {r s : State} (h : Kept r s) (a : Nat) (b : Nat) : Kept r (State.leadRec s a b) := by
  simp only [State.leadRec]
  repeat'
    first
    | with_reducible assumption | with_reducible apply State.logErr_kept | with_reducible apply State.raise_kept
    | with_reducible apply foldl_kept | simp only [Kept.upd_iff, Kept.updStart_iff] | intro _ _ _ | intro _ _ | split
    | (fail_if_no_progress dsimp only)

theorem State.updXfer_kept {r s : State} (h : Kept r s) (a : Nat) (b : Xfer → Xfer) : Kept r (State.updXfer s a b) := by
  exact Kept.upd_iff.2 h

theorem State.payload_kept {r s : State} (h : Kept r s) (a : Xfer) (b : Nat) (c : Nat) : Kept r (State.payload s a b c) := by
  simp only [State.payload]
  repeat'
    first
    | with_reducible assumption | with_reducible apply State.ctxCount_kept | with_reducible apply foldl_kept
    | simp only [Kept.upd_iff, Kept.updStart_iff] | intro _ _ _ | intro _ _ | split | (fail_if_no_progress dsimp only)

theorem State.putSeg_kept {r s : State} (h : Kept r s) (a : Nat) (b : Xfer) (c : Nat) : Kept r (State.putSeg s a b c) := by
  simp only [State.putSeg]
  repeat'
    first
    | with_reducible assumption | with_reducible apply State.sendSeg_kept | with_reducible apply State.payload_kept
    | with_reducible refine Kept.of_snd (by with_reducible assumption) ?_ | with_reducible refine Kept.of_fst (by with_reducible assumption) ?_
    | with_reducible refine Kept.of_trd (by with_reducible assumption) ?_ | with_reducible apply foldl_kept
    | simp only [Kept.upd_iff, Kept.updStart_iff] | intro _ _ _ | intro _ _ | split | (fail_if_no_progress dsimp only)

theorem State.dropSegs_kept {r s : State} (h : Kept r s) (a : Nat) : Kept r (State.dropSegs s a) := by
  simp only [State.dropSegs]
  repeat'
    first
    | with_reducible assumption | with_reducible apply State.dropReads_kept | with_reducible refine Kept.of_snd (by with_reducible assumption) ?_
    | with_reducible refine Kept.of_fst (by with_reducible assumption) ?_ | with_reducible refine Kept.of_trd (by with_reducible assumption) ?_
    | with_reducible apply foldl_kept | simp only [Kept.upd_iff, Kept.updStart_iff] | intro _ _ _ | intro _ _ | split
    | (fail_if_no_progress dsimp only)

theorem State.sendSegs_kept {r s : State} (h : Kept r s) (a : Nat) (b : Nat) : Kept r (State.sendSegs s a b) := by
  induction b generalizing s a with
  | zero => exact h
  | succ n ih =>
    simp only [State.sendSegs]
    repeat'
      first
      | with_reducible assumption | with_reducible apply ih | with_reducible apply State.setF_kept | with_reducible apply State.nextIv_kept
      | with_reducible apply State.updXfer_kept | with_reducible apply State.readMem_kept
      | with_reducible refine Kept.of_snd (by with_reducible assumption) ?_ | with_reducible refine Kept.of_fst (by with_reducible assumption) ?_
      | with_reducible refine Kept.of_trd (by with_reducible assumption) ?_ | with_reducible apply foldl_kept
      | simp only [Kept.upd_iff, Kept.updStart_iff] | intro _ _ _ | intro _ _ | split | (fail_if_no_progress dsimp only)

theorem State.xferRaise_kept {r s : State} (h : Kept r s) (a : Xfer) (b : Nat) : Kept r (State.xferRaise s a b) := by
  simp only [State.xferRaise]
  repeat'
    first
    | with_reducible assumption | with_reducible apply State.doneArrives_kept
    | with_reducible refine Kept.of_snd (by with_reducible assumption) ?_ | with_reducible refine Kept.of_fst (by with_reducible assumption) ?_
    | with_reducible refine Kept.of_trd (by with_reducible assumption) ?_ | with_reducible apply foldl_kept
    | simp only [Kept.upd_iff, Kept.updStart_iff] | intro _ _ _ | intro _ _ | split | (fail_if_no_progress dsimp only)

theorem State.xferDone_kept {r s : State} (h : Kept r s) (a : Nat) (b : Nat) : Kept r (State.xferDone s a b) := by
  simp only [State.xferDone]
  repeat'
    first
    | with_reducible assumption | with_reducible apply State.xferRaise_kept | with_reducible apply State.dropSegs_kept
    | with_reducible apply foldl_kept | simp only [Kept.upd_iff, Kept.updStart_iff] | intro _ _ _ | intro _ _ | split
    | (fail_if_no_progress dsimp only)

theorem State.endUnlaunched_kept {r s : State} (h : Kept r s) (a : Nat) (b : Nat) : Kept r (State.endUnlaunched s a b) := by
  simp only [State.endUnlaunched]
  repeat'
    first
    | with_reducible assumption | with_reducible apply State.taskGone_kept | with_reducible apply State.endEarlyAt_kept
    | with_reducible apply foldl_kept | simp only [Kept.upd_iff, Kept.updStart_iff] | intro _ _ _ | intro _ _ | split
    | (fail_if_no_progress dsimp only)

theorem State.xferEnd_kept {r s : State} (h : Kept r s) (a : Nat) (b : Nat) : Kept r (State.xferEnd s a b) := by
  simp only [State.xferEnd]
  repeat'
    first
    | with_reducible assumption | with_reducible apply State.endUnlaunched_kept | with_reducible apply State.xferDone_kept
    | with_reducible apply State.updTask_kept | with_reducible apply foldl_kept | simp only [Kept.upd_iff, Kept.updStart_iff] | intro _ _ _
    | intro _ _ | split | (fail_if_no_progress dsimp only)

theorem State.xferSquash_kept {r s : State} (h : Kept r s) (a : Nat) (b : Nat) : Kept r (State.xferSquash s a b) := by
  simp only [State.xferSquash]
  repeat'
    first
    | with_reducible assumption | with_reducible apply State.xferEnd_kept | with_reducible apply State.send_kept
    | with_reducible apply State.bump_kept | with_reducible apply foldl_kept | simp only [Kept.upd_iff, Kept.updStart_iff] | intro _ _ _
    | intro _ _ | split | (fail_if_no_progress dsimp only)

theorem State.closeIn_kept {r s : State} (h : Kept r s) (a : Nat) (b : Nat) : Kept r (State.closeIn s a b) := by
  simp only [State.closeIn]
  repeat'
    first
    | with_reducible assumption | with_reducible apply State.dropReads_kept | with_reducible refine Kept.of_snd (by with_reducible assumption) ?_
    | with_reducible refine Kept.of_fst (by with_reducible assumption) ?_ | with_reducible refine Kept.of_trd (by with_reducible assumption) ?_
    | with_reducible apply foldl_kept | simp only [Kept.upd_iff, Kept.updStart_iff] | intro _ _ _ | intro _ _ | split
    | (fail_if_no_progress dsimp only)

theorem State.linkSquash_kept {r s : State} (h : Kept r s) (a : Nat) : Kept r (State.linkSquash s a) := by
  simp only [State.linkSquash]
  repeat'
    first
    | with_reducible assumption | with_reducible apply State.xferDone_kept | with_reducible apply State.dropSegs_kept
    | with_reducible apply State.updXfer_kept | with_reducible apply State.send_kept | with_reducible apply State.bump_kept
    | with_reducible apply foldl_kept | simp only [Kept.upd_iff, Kept.updStart_iff] | intro _ _ _ | intro _ _ | split
    | (fail_if_no_progress dsimp only)

theorem State.linkSquashes_kept {r s : State} (h : Kept r s) : Kept r (State.linkSquashes s) := by
  simp only [State.linkSquashes]
  repeat'
    first
    | with_reducible assumption | with_reducible apply State.linkSquash_kept | with_reducible apply foldl_kept
    | simp only [Kept.upd_iff, Kept.updStart_iff] | intro _ _ _ | intro _ _ | split | (fail_if_no_progress dsimp only)

theorem State.pauseXfer_kept {r s : State} (h : Kept r s) (a : Nat) : Kept r (State.pauseXfer s a) := by
  simp only [State.pauseXfer]
  repeat'
    first
    | with_reducible assumption | with_reducible apply State.dropSegs_kept | with_reducible apply State.setF_kept
    | with_reducible apply State.updXfer_kept | with_reducible apply State.sendSegs_kept
    | with_reducible refine Kept.of_snd (by with_reducible assumption) ?_ | with_reducible refine Kept.of_fst (by with_reducible assumption) ?_
    | with_reducible refine Kept.of_trd (by with_reducible assumption) ?_ | with_reducible apply foldl_kept
    | simp only [Kept.upd_iff, Kept.updStart_iff] | intro _ _ _ | intro _ _ | split | (fail_if_no_progress dsimp only)

theorem State.linkYields_kept {r s : State} (h : Kept r s) : Kept r (State.linkYields s) := by
  simp only [State.linkYields]
  repeat'
    first
    | with_reducible assumption | with_reducible apply State.updTask_kept | with_reducible apply State.pauseXfer_kept
    | with_reducible apply State.xferRaise_kept | with_reducible refine Kept.of_snd (by with_reducible assumption) ?_
    | with_reducible refine Kept.of_fst (by with_reducible assumption) ?_ | with_reducible refine Kept.of_trd (by with_reducible assumption) ?_
    | with_reducible apply foldl_kept | simp only [Kept.upd_iff, Kept.updStart_iff] | intro _ _ _ | intro _ _ | split
    | (fail_if_no_progress dsimp only)

theorem State.evEnRecord_kept {r s : State} (h : Kept r s) (a : Nat) : Kept r (State.evEnRecord s a) := by
  simp only [State.evEnRecord]
  repeat'
    first
    | with_reducible assumption | with_reducible apply State.guiltyTask_kept | with_reducible apply State.recordLocal_kept
    | with_reducible apply State.send_kept | with_reducible apply State.endEarlyAt_kept
    | with_reducible refine Kept.of_snd (by with_reducible assumption) ?_ | with_reducible refine Kept.of_fst (by with_reducible assumption) ?_
    | with_reducible refine Kept.of_trd (by with_reducible assumption) ?_ | with_reducible apply foldl_kept
    | simp only [Kept.upd_iff, Kept.updStart_iff] | intro _ _ _ | intro _ _ | split | (fail_if_no_progress dsimp only)

theorem State.failRemote_kept {r s : State} (h : Kept r s) (a : Half → Bool) : Kept r (State.failRemote s a) := by
  simp only [State.failRemote]
  repeat'
    first
    | with_reducible assumption | with_reducible apply State.endEarly_kept | with_reducible apply foldl_kept
    | simp only [Kept.upd_iff, Kept.updStart_iff] | intro _ _ _ | intro _ _ | split | (fail_if_no_progress dsimp only)

theorem State.xferComplete_kept {r s : State} (h : Kept r s) (a : Nat) : Kept r (State.xferComplete s a) := by
  simp only [State.xferComplete]
  repeat'
    first
    | with_reducible assumption | with_reducible apply State.evEnRecord_kept | with_reducible apply State.xferDone_kept
    | with_reducible apply foldl_kept | simp only [Kept.upd_iff, Kept.updStart_iff] | intro _ _ _ | intro _ _ | split
    | (fail_if_no_progress dsimp only)

theorem State.flushSegs_kept {r s : State} (h : Kept r s) (a : Nat) (b : Nat) : Kept r (State.flushSegs s a b) := by
  induction b generalizing s a with
  | zero => exact h
  | succ n ih =>
    simp only [State.flushSegs]
    repeat'
      first
      | with_reducible assumption | with_reducible apply ih | with_reducible apply State.updXfer_kept | with_reducible apply State.putSeg_kept
      | with_reducible refine Kept.of_snd (by with_reducible assumption) ?_ | with_reducible refine Kept.of_fst (by with_reducible assumption) ?_
      | with_reducible refine Kept.of_trd (by with_reducible assumption) ?_ | with_reducible apply foldl_kept
      | simp only [Kept.upd_iff, Kept.updStart_iff] | intro _ _ _ | intro _ _ | split | (fail_if_no_progress dsimp only)

theorem State.linkResume_kept {r s : State} (h : Kept r s) (a : Nat) (b : Nat) : Kept r (State.linkResume s a b) := by
  simp only [State.linkResume]
  repeat'
    first
    | with_reducible assumption | with_reducible apply State.updXfer_kept | with_reducible apply State.when_kept
    | with_reducible apply State.send_kept | with_reducible apply State.xferComplete_kept | with_reducible apply State.flushSegs_kept
    | with_reducible apply State.sendSegs_kept | with_reducible refine Kept.of_snd (by with_reducible assumption) ?_
    | with_reducible refine Kept.of_fst (by with_reducible assumption) ?_ | with_reducible refine Kept.of_trd (by with_reducible assumption) ?_
    | with_reducible apply foldl_kept | simp only [Kept.upd_iff, Kept.updStart_iff] | intro _ _ _ | intro _ _ | split
    | (fail_if_no_progress dsimp only)

theorem State.linkOpen_kept {r s : State} (h : Kept r s) (a : Nat) (b : Nat) (c : Nat) (d : Task) : Kept r (State.linkOpen s a b c d) := by
  simp only [State.linkOpen]
  repeat'
    first
    | with_reducible assumption | with_reducible apply State.sendSegs_kept | with_reducible apply State.updTask_kept
    | with_reducible apply State.send_kept | with_reducible apply foldl_kept | simp only [Kept.upd_iff, Kept.updStart_iff] | intro _ _ _
    | intro _ _ | split | (fail_if_no_progress dsimp only)

theorem State.linkStart_kept {r s : State} (h : Kept r s) (a : Nat) (b : Nat) : Kept r (State.linkStart s a b) := by
  simp only [State.linkStart]
  repeat'
    first
    | with_reducible assumption | with_reducible apply State.linkOpen_kept | with_reducible apply State.linkResume_kept
    | with_reducible apply State.endUnlaunched_kept | with_reducible apply State.endRun_kept | with_reducible apply foldl_kept
    | simp only [Kept.upd_iff, Kept.updStart_iff] | intro _ _ _ | intro _ _ | split | (fail_if_no_progress dsimp only)

theorem State.dropOps_kept {r s : State} (h : Kept r s) (a : Nat) : Kept r (State.dropOps s a) := by
  simp only [State.dropOps]
  repeat'
    first
    | with_reducible assumption | with_reducible apply State.endEarlyAt_kept | with_reducible apply State.endEarly_kept
    | with_reducible apply State.setB_kept | with_reducible apply foldl_kept | simp only [Kept.upd_iff, Kept.updStart_iff] | intro _ _ _
    | intro _ _ | split | (fail_if_no_progress dsimp only)

theorem State.nodeLost_kept {r s : State} (h : Kept r s) (a : Nat) : Kept r (State.nodeLost s a) := by
  simp only [State.nodeLost]
  repeat'
    first
    | with_reducible assumption | with_reducible apply State.dropOps_kept | with_reducible apply State.failRemote_kept
    | with_reducible apply State.endEarly_kept | with_reducible apply State.dropAcqs_kept | with_reducible apply State.xferEnd_kept
    | with_reducible refine Kept.of_snd (by with_reducible assumption) ?_ | with_reducible refine Kept.of_fst (by with_reducible assumption) ?_
    | with_reducible refine Kept.of_trd (by with_reducible assumption) ?_ | with_reducible apply foldl_kept
    | simp only [Kept.upd_iff, Kept.updStart_iff] | intro _ _ _ | intro _ _ | split | (fail_if_no_progress dsimp only)

theorem State.reRouteDue_kept {r s : State} (h : Kept r s) : Kept r (State.reRouteDue s) := by
  simp only [State.reRouteDue]
  repeat'
    first
    | with_reducible assumption | with_reducible apply State.dropDue_kept | with_reducible apply foldl_kept
    | simp only [Kept.upd_iff, Kept.updStart_iff] | intro _ _ _ | intro _ _ | split | (fail_if_no_progress dsimp only)

theorem State.setTml_kept {r s : State} (h : Kept r s) (a : Tml → Tml) : Kept r (State.setTml s a) := by
  exact Kept.upd_iff.2 h

theorem State.moveXfer_kept {r s : State} (h : Kept r s) (a : Nat) (b : Nat) : Kept r (State.moveXfer s a b) := by
  simp only [State.moveXfer]
  repeat'
    first
    | with_reducible assumption | with_reducible apply State.endRun_kept | with_reducible apply State.updEng_kept
    | with_reducible apply State.updXfer_kept | with_reducible refine Kept.of_snd (by with_reducible assumption) ?_
    | with_reducible refine Kept.of_fst (by with_reducible assumption) ?_ | with_reducible refine Kept.of_trd (by with_reducible assumption) ?_
    | with_reducible apply foldl_kept | simp only [Kept.upd_iff, Kept.updStart_iff] | intro _ _ _ | intro _ _ | split
    | (fail_if_no_progress dsimp only)

theorem State.resendSegs_kept {r s : State} (h : Kept r s) (a : Nat) : Kept r (State.resendSegs s a) := by
  simp only [State.resendSegs]
  repeat'
    first
    | with_reducible assumption | with_reducible apply State.dropSegs_kept | with_reducible apply State.bump_kept
    | with_reducible apply State.updXfer_kept | with_reducible apply State.putSeg_kept
    | with_reducible refine Kept.of_snd (by with_reducible assumption) ?_ | with_reducible refine Kept.of_fst (by with_reducible assumption) ?_
    | with_reducible refine Kept.of_trd (by with_reducible assumption) ?_ | with_reducible apply foldl_kept
    | simp only [Kept.upd_iff, Kept.updStart_iff] | intro _ _ _ | intro _ _ | split | (fail_if_no_progress dsimp only)

theorem State.reRouteXfers_kept {r s : State} (h : Kept r s) : Kept r (State.reRouteXfers s) := by
  simp only [State.reRouteXfers]
  repeat'
    first
    | with_reducible assumption | with_reducible apply State.reRouteDue_kept | with_reducible apply State.xferEnd_kept
    | with_reducible apply State.bump_kept | with_reducible apply State.updXfer_kept | with_reducible apply State.moveXfer_kept
    | with_reducible apply State.resendSegs_kept | with_reducible apply State.setTml_kept
    | with_reducible refine Kept.of_snd (by with_reducible assumption) ?_ | with_reducible refine Kept.of_fst (by with_reducible assumption) ?_
    | with_reducible refine Kept.of_trd (by with_reducible assumption) ?_ | with_reducible apply foldl_kept
    | simp only [Kept.upd_iff, Kept.updStart_iff] | intro _ _ _ | intro _ _ | split | (fail_if_no_progress dsimp only)

theorem State.mapSettle_kept {r s : State} (h : Kept r s) : Kept r (State.mapSettle s) := by
  simp only [State.mapSettle]
  repeat'
    first
    | with_reducible assumption | with_reducible apply State.reRouteXfers_kept | with_reducible apply State.nodeLost_kept
    | with_reducible apply State.reroute_kept | with_reducible apply State.setB_kept | with_reducible apply foldl_kept
    | simp only [Kept.upd_iff, Kept.updStart_iff] | intro _ _ _ | intro _ _ | split | (fail_if_no_progress dsimp only)

theorem State.linkDown_kept {r s : State} (h : Kept r s) (a : Nat) (b : Nat) : Kept r (State.linkDown s a b) := by
  simp only [State.linkDown]
  repeat'
    first
    | with_reducible assumption | with_reducible apply State.setB_kept | with_reducible apply foldl_kept
    | simp only [Kept.upd_iff, Kept.updStart_iff] | intro _ _ _ | intro _ _ | split | (fail_if_no_progress dsimp only)

theorem State.openSettle_kept {r s : State} (h : Kept r s) : Kept r (State.openSettle s) := by
  simp only [State.openSettle]
  repeat'
    first
    | with_reducible assumption | with_reducible apply foldl_kept | simp only [Kept.upd_iff, Kept.updStart_iff] | intro _ _ _ | intro _ _ | split
    | (fail_if_no_progress dsimp only)

theorem State.leadLost_kept {r s : State} (h : Kept r s) : Kept r (State.leadLost s) := by
  simp only [State.leadLost]
  repeat'
    first
    | with_reducible assumption | with_reducible apply State.openSettle_kept | with_reducible apply foldl_kept
    | simp only [Kept.upd_iff, Kept.updStart_iff] | intro _ _ _ | intro _ _ | split | (fail_if_no_progress dsimp only)

theorem State.leadCheck_kept {r s : State} (h : Kept r s) : Kept r (State.leadCheck s) := by
  simp only [State.leadCheck]
  repeat'
    first
    | with_reducible assumption | with_reducible apply State.leadLost_kept | with_reducible apply foldl_kept
    | simp only [Kept.upd_iff, Kept.updStart_iff] | intro _ _ _ | intro _ _ | split | (fail_if_no_progress dsimp only)

theorem State.trainPort_kept {r s : State} (h : Kept r s) (a : Nat) : Kept r (State.trainPort s a) := by
  simp only [State.trainPort]
  repeat'
    first
    | with_reducible assumption | with_reducible apply State.setF_kept | with_reducible refine Kept.of_snd (by with_reducible assumption) ?_
    | with_reducible refine Kept.of_fst (by with_reducible assumption) ?_ | with_reducible refine Kept.of_trd (by with_reducible assumption) ?_
    | with_reducible apply foldl_kept | simp only [Kept.upd_iff, Kept.updStart_iff] | intro _ _ _ | intro _ _ | split
    | (fail_if_no_progress dsimp only)

theorem State.reWire_kept {r s : State} (h : Kept r s) (a : Frame) : Kept r (State.reWire s a) := by
  simp only [State.reWire]
  repeat'
    first
    | with_reducible assumption | with_reducible apply State.txFrame_kept | with_reducible apply State.freeFrame_kept
    | with_reducible refine Kept.of_snd (by with_reducible assumption) ?_ | with_reducible refine Kept.of_fst (by with_reducible assumption) ?_
    | with_reducible refine Kept.of_trd (by with_reducible assumption) ?_ | with_reducible apply foldl_kept
    | simp only [Kept.upd_iff, Kept.updStart_iff] | intro _ _ _ | intro _ _ | split | (fail_if_no_progress dsimp only)

theorem State.portDown_kept {r s : State} (h : Kept r s) (a : Nat) (b : Nat) : Kept r (State.portDown s a b) := by
  simp only [State.portDown]
  repeat'
    first
    | with_reducible assumption | with_reducible apply State.reWire_kept | with_reducible apply State.freeFrame_kept
    | with_reducible apply State.portOff_kept | with_reducible apply State.setF_kept | with_reducible apply State.bump_kept
    | with_reducible apply State.setB_kept | with_reducible apply State.linkRec_kept | with_reducible apply State.raise_kept
    | with_reducible apply State.linkDown_kept | with_reducible apply State.broadcast_kept | with_reducible apply State.mapSettle_kept
    | with_reducible apply State.openSettle_kept | with_reducible apply State.leadCheck_kept | with_reducible apply State.trainPort_kept
    | with_reducible refine Kept.of_snd (by with_reducible assumption) ?_ | with_reducible refine Kept.of_fst (by with_reducible assumption) ?_
    | with_reducible refine Kept.of_trd (by with_reducible assumption) ?_ | with_reducible apply foldl_kept
    | simp only [Kept.upd_iff, Kept.updStart_iff] | intro _ _ _ | intro _ _ | split | (fail_if_no_progress dsimp only)

theorem State.rekeyTenant_kept {r s : State} (h : Kept r s) (a : Nat) : Kept r (State.rekeyTenant s a) := by
  simp only [State.rekeyTenant]
  repeat'
    first
    | with_reducible assumption | with_reducible apply foldl_kept | simp only [Kept.upd_iff, Kept.updStart_iff] | intro _ _ _ | intro _ _ | split
    | (fail_if_no_progress dsimp only)

theorem State.rekeyFor_kept {r s : State} (h : Kept r s) (a : Nat) : Kept r (State.rekeyFor s a) := by
  simp only [State.rekeyFor]
  repeat'
    first
    | with_reducible assumption | with_reducible apply State.rekeyTenant_kept | with_reducible apply foldl_kept
    | simp only [Kept.upd_iff, Kept.updStart_iff] | intro _ _ _ | intro _ _ | split | (fail_if_no_progress dsimp only)

theorem State.sendLead_kept {r s : State} (h : Kept r s) : Kept r (State.sendLead s) := by
  simp only [State.sendLead]
  repeat'
    first
    | with_reducible assumption | with_reducible apply State.broadcast_kept | with_reducible apply State.setB_kept
    | with_reducible apply State.setF_kept | with_reducible apply foldl_kept | simp only [Kept.upd_iff, Kept.updStart_iff] | intro _ _ _
    | intro _ _ | split | (fail_if_no_progress dsimp only)

theorem State.leaveFabric_kept {r s : State} (h : Kept r s) (a : Nat) : Kept r (State.leaveFabric s a) := by
  simp only [State.leaveFabric]
  repeat'
    first
    | with_reducible assumption | with_reducible apply State.nodeLost_kept | with_reducible apply State.setB_kept
    | with_reducible apply State.portDown_kept | with_reducible apply State.setF_kept | with_reducible apply State.setReg_kept
    | with_reducible apply State.reroute_kept | with_reducible apply State.setNode_kept
    | with_reducible refine Kept.of_snd (by with_reducible assumption) ?_ | with_reducible refine Kept.of_fst (by with_reducible assumption) ?_
    | with_reducible refine Kept.of_trd (by with_reducible assumption) ?_ | with_reducible apply foldl_kept
    | simp only [Kept.upd_iff, Kept.updStart_iff] | intro _ _ _ | intro _ _ | split | (fail_if_no_progress dsimp only)

theorem State.flooded_kept {r s : State} (h : Kept r s) (a : Nat) (b : Nat) (c : Msg) : Kept r (State.flooded s a b c).2 := by
  simp only [State.flooded]
  repeat'
    first
    | with_reducible assumption | with_reducible apply State.sees_kept | with_reducible apply State.flood_kept
    | with_reducible apply State.send_kept | with_reducible refine Kept.of_snd (by with_reducible assumption) ?_
    | with_reducible refine Kept.of_fst (by with_reducible assumption) ?_ | with_reducible refine Kept.of_trd (by with_reducible assumption) ?_
    | with_reducible apply foldl_kept | simp only [Kept.upd_iff, Kept.updStart_iff] | intro _ _ _ | intro _ _ | split
    | (fail_if_no_progress dsimp only)

theorem State.portUp_kept {r s : State} (h : Kept r s) (a : Nat) : Kept r (State.portUp s a) := by
  simp only [State.portUp]
  repeat'
    first
    | with_reducible assumption | with_reducible apply State.updPort_kept | with_reducible apply State.reroute_kept
    | with_reducible apply State.raise_kept | with_reducible apply State.setB_kept | with_reducible apply State.setF_kept
    | with_reducible apply foldl_kept | simp only [Kept.upd_iff, Kept.updStart_iff] | intro _ _ _ | intro _ _ | split
    | (fail_if_no_progress dsimp only)

theorem State.finishLeave_kept {r s : State} (h : Kept r s) : Kept r (State.finishLeave s) := by
  simp only [State.finishLeave]
  repeat'
    first
    | with_reducible assumption | with_reducible apply State.leaveFabric_kept | with_reducible apply State.broadcast_kept
    | with_reducible apply foldl_kept | simp only [Kept.upd_iff, Kept.updStart_iff] | intro _ _ _ | intro _ _ | split
    | (fail_if_no_progress dsimp only)

theorem State.leavePoll_kept {r s : State} (h : Kept r s) : Kept r (State.leavePoll s) := by
  simp only [State.leavePoll]
  repeat'
    first
    | with_reducible assumption | with_reducible apply State.finishLeave_kept | with_reducible apply foldl_kept
    | simp only [Kept.upd_iff, Kept.updStart_iff] | intro _ _ _ | intro _ _ | split | (fail_if_no_progress dsimp only)

theorem State.setCyc_kept {r s : State} (h : Kept r s) (a : Cyc → Cyc) : Kept r (State.setCyc s a) := by
  exact Kept.upd_iff.2 h

theorem State.acceptTable_kept {r s : State} (h : Kept r s) (a : CycTable) : Kept r (State.acceptTable s a) := by
  simp only [State.acceptTable]
  repeat'
    first
    | with_reducible assumption | with_reducible apply State.setCyc_kept | with_reducible apply foldl_kept
    | simp only [Kept.upd_iff, Kept.updStart_iff] | intro _ _ _ | intro _ _ | split | (fail_if_no_progress dsimp only)

theorem State.rejectTable_kept {r s : State} (h : Kept r s) (a : Nat) (b : Nat) : Kept r (State.rejectTable s a b) := by
  simp only [State.rejectTable]
  repeat'
    first
    | with_reducible assumption | with_reducible apply State.setB_kept | with_reducible apply State.setF_kept | with_reducible apply foldl_kept
    | simp only [Kept.upd_iff, Kept.updStart_iff] | intro _ _ _ | intro _ _ | split | (fail_if_no_progress dsimp only)

theorem State.relCores_kept {r s : State} (h : Kept r s) (a : Nat) : Kept r (State.relCores s a) := by
  simp only [State.relCores]
  repeat'
    first
    | with_reducible assumption | with_reducible apply State.updInst_kept | with_reducible apply foldl_kept
    | simp only [Kept.upd_iff, Kept.updStart_iff] | intro _ _ _ | intro _ _ | split | (fail_if_no_progress dsimp only)

theorem State.dropInst_kept {r s : State} (h : Kept r s) (a : Nat) : Kept r (State.dropInst s a) := by
  simp only [State.dropInst]
  repeat'
    first
    | with_reducible assumption | with_reducible apply State.relCores_kept | with_reducible apply State.setCyc_kept
    | with_reducible apply foldl_kept | simp only [Kept.upd_iff, Kept.updStart_iff] | intro _ _ _ | intro _ _ | split
    | (fail_if_no_progress dsimp only)

theorem State.discardAll_kept {r s : State} (h : Kept r s) (a : Task → Bool) : Kept r (State.discardAll s a) := by
  simp only [State.discardAll]
  repeat'
    first
    | with_reducible assumption | with_reducible apply State.discard_kept | with_reducible apply foldl_kept
    | simp only [Kept.upd_iff, Kept.updStart_iff] | intro _ _ _ | intro _ _ | split | (fail_if_no_progress dsimp only)

theorem State.reclass_kept {r s : State} (h : Kept r s) : Kept r (State.reclass s) := by
  simp only [State.reclass]
  repeat'
    first
    | with_reducible assumption | with_reducible apply State.discardAll_kept | with_reducible apply foldl_kept
    | simp only [Kept.upd_iff, Kept.updStart_iff] | intro _ _ _ | intro _ _ | split | (fail_if_no_progress dsimp only)

theorem State.dropUnstarted_kept {r s : State} (h : Kept r s) (a : Bool) : Kept r (State.dropUnstarted s a) := by
  simp only [State.dropUnstarted]
  repeat'
    first
    | with_reducible assumption | with_reducible apply State.discardAll_kept | with_reducible apply State.dropInst_kept
    | with_reducible apply foldl_kept | simp only [Kept.upd_iff, Kept.updStart_iff] | intro _ _ _ | intro _ _ | split
    | (fail_if_no_progress dsimp only)

theorem State.periodBegin_kept {r s : State} (h : Kept r s) (a : Nat) (b : Bool) : Kept r (State.periodBegin s a b) := by
  simp only [State.periodBegin]
  repeat'
    first
    | with_reducible assumption | with_reducible apply State.dropUnstarted_kept | with_reducible apply State.reclass_kept
    | with_reducible apply State.setCyc_kept | with_reducible apply State.wake_kept | with_reducible apply State.when_kept
    | with_reducible apply State.setB_kept | with_reducible apply State.setReg_kept | with_reducible apply foldl_kept
    | simp only [Kept.upd_iff, Kept.updStart_iff] | intro _ _ _ | intro _ _ | split | (fail_if_no_progress dsimp only)

theorem State.vsyncEdge_kept {r s : State} (h : Kept r s) : Kept r (State.vsyncEdge s) := by
  simp only [State.vsyncEdge]
  repeat'
    first
    | with_reducible assumption | with_reducible apply State.periodBegin_kept | with_reducible apply State.setB_kept
    | with_reducible apply foldl_kept | simp only [Kept.upd_iff, Kept.updStart_iff] | intro _ _ _ | intro _ _ | split
    | (fail_if_no_progress dsimp only)

theorem State.epochEdge_kept {r s : State} (h : Kept r s) (a : Nat) : Kept r (State.epochEdge s a) := by
  simp only [State.epochEdge]
  repeat'
    first
    | with_reducible assumption | with_reducible apply State.periodBegin_kept | with_reducible apply foldl_kept
    | simp only [Kept.upd_iff, Kept.updStart_iff] | intro _ _ _ | intro _ _ | split | (fail_if_no_progress dsimp only)

theorem State.setCycEn_kept {r s : State} (h : Kept r s) (a : Bool) : Kept r (State.setCycEn s a) := by
  simp only [State.setCycEn]
  repeat'
    first
    | with_reducible assumption | with_reducible apply State.setB_kept | with_reducible apply foldl_kept
    | simp only [Kept.upd_iff, Kept.updStart_iff] | intro _ _ _ | intro _ _ | split | (fail_if_no_progress dsimp only)

theorem State.newInst_kept {r s : State} (h : Kept r s) (a : Nat) (b : Slot) (c : Nat) (d : Nat) (e : Nat) : Kept r (State.newInst s a b c d e).2 :=
  by
  simp only [State.newInst]
  repeat'
    first
    | with_reducible assumption | with_reducible apply State.setCyc_kept | with_reducible apply State.updCore_kept
    | with_reducible refine Kept.of_snd (by with_reducible assumption) ?_ | with_reducible refine Kept.of_fst (by with_reducible assumption) ?_
    | with_reducible refine Kept.of_trd (by with_reducible assumption) ?_ | with_reducible apply foldl_kept
    | simp only [Kept.upd_iff, Kept.updStart_iff] | intro _ _ _ | intro _ _ | split | (fail_if_no_progress dsimp only)

theorem State.clearWhere_kept {r s : State} (h : Kept r s) (a : Nat) (b : Task → Bool) : Kept r (State.clearWhere s a b) := by
  simp only [State.clearWhere]
  repeat'
    first
    | with_reducible assumption | with_reducible apply State.discard_kept | with_reducible apply foldl_kept
    | simp only [Kept.upd_iff, Kept.updStart_iff] | intro _ _ _ | intro _ _ | split | (fail_if_no_progress dsimp only)

theorem State.clearBanks_kept {r s : State} (h : Kept r s) (a : Nat) : Kept r (State.clearBanks s a) := by
  simp only [State.clearBanks]
  repeat'
    first
    | with_reducible assumption | with_reducible apply State.clearWhere_kept | with_reducible apply foldl_kept
    | simp only [Kept.upd_iff, Kept.updStart_iff] | intro _ _ _ | intro _ _ | split | (fail_if_no_progress dsimp only)

theorem State.slotPreload_kept {r s : State} (h : Kept r s) (a : Nat) : Kept r (State.slotPreload s a) := by
  simp only [State.slotPreload]
  repeat'
    first
    | with_reducible assumption | with_reducible apply State.clearWhere_kept | with_reducible apply State.newInst_kept
    | with_reducible refine Kept.of_snd (by with_reducible assumption) ?_ | with_reducible refine Kept.of_fst (by with_reducible assumption) ?_
    | with_reducible refine Kept.of_trd (by with_reducible assumption) ?_ | with_reducible apply foldl_kept
    | simp only [Kept.upd_iff, Kept.updStart_iff] | intro _ _ _ | intro _ _ | split | (fail_if_no_progress dsimp only)

theorem State.addEdges_kept {r s : State} (h : Kept r s) (a : Nat) (b : List Edge) : Kept r (State.addEdges s a b) := by
  simp only [State.addEdges]
  repeat'
    first
    | with_reducible assumption | with_reducible apply State.beginHeir_kept | with_reducible apply State.updInst_kept
    | with_reducible apply foldl_kept | simp only [Kept.upd_iff, Kept.updStart_iff] | intro _ _ _ | intro _ _ | split
    | (fail_if_no_progress dsimp only)

theorem State.inheritAtStart_kept {r s : State} (h : Kept r s) (a : Nat) : Kept r (State.inheritAtStart s a) := by
  simp only [State.inheritAtStart]
  repeat'
    first
    | with_reducible assumption | with_reducible apply State.addEdges_kept | with_reducible refine Kept.of_snd (by with_reducible assumption) ?_
    | with_reducible refine Kept.of_fst (by with_reducible assumption) ?_ | with_reducible refine Kept.of_trd (by with_reducible assumption) ?_
    | with_reducible apply foldl_kept | simp only [Kept.upd_iff, Kept.updStart_iff] | intro _ _ _ | intro _ _ | split
    | (fail_if_no_progress dsimp only)

theorem State.withdrawComp_kept {r s : State} (h : Kept r s) (a : Nat) (b : Inst) : Kept r (State.withdrawComp s a b) := by
  simp only [State.withdrawComp]
  repeat'
    first
    | with_reducible assumption | with_reducible apply State.updTask_kept | with_reducible apply State.emit_kept
    | with_reducible apply foldl_kept | simp only [Kept.upd_iff, Kept.updStart_iff] | intro _ _ _ | intro _ _ | split
    | (fail_if_no_progress dsimp only)

theorem State.cutDrains_kept {r s : State} (h : Kept r s) (a : Inst) : Kept r (State.cutDrains s a) := by
  simp only [State.cutDrains]
  repeat'
    first
    | with_reducible assumption | with_reducible apply State.squashScope_kept
    | with_reducible refine Kept.of_snd (by with_reducible assumption) ?_ | with_reducible refine Kept.of_fst (by with_reducible assumption) ?_
    | with_reducible refine Kept.of_trd (by with_reducible assumption) ?_ | with_reducible apply foldl_kept
    | simp only [Kept.upd_iff, Kept.updStart_iff] | intro _ _ _ | intro _ _ | split | (fail_if_no_progress dsimp only)

theorem State.updCnt_kept {r s : State} (h : Kept r s) (a : Nat) (b : SlotCnt → SlotCnt) : Kept r (State.updCnt s a b) := by
  simp only [State.updCnt]
  repeat'
    first
    | with_reducible assumption | with_reducible apply State.setCyc_kept | with_reducible apply foldl_kept
    | simp only [Kept.upd_iff, Kept.updStart_iff] | intro _ _ _ | intro _ _ | split | (fail_if_no_progress dsimp only)

theorem State.consider_kept {r s : State} (h : Kept r s) (a : Nat) (b : Nat) : Kept r (State.consider s a b) := by
  simp only [State.consider]
  repeat'
    first
    | with_reducible assumption | with_reducible apply State.updCnt_kept | with_reducible apply State.coreDue_kept
    | with_reducible apply State.updInst_kept | with_reducible apply State.discard_kept | with_reducible apply State.updTask_kept
    | with_reducible apply State.raise_kept | with_reducible apply State.when_kept | with_reducible apply foldl_kept
    | simp only [Kept.upd_iff, Kept.updStart_iff] | intro _ _ _ | intro _ _ | split | (fail_if_no_progress dsimp only)

theorem State.considerNew_kept {r s : State} (h : Kept r s) (a : Nat) : Kept r (State.considerNew s a) := by
  simp only [State.considerNew]
  repeat'
    first
    | with_reducible assumption | with_reducible apply State.consider_kept | with_reducible apply foldl_kept
    | simp only [Kept.upd_iff, Kept.updStart_iff] | intro _ _ _ | intro _ _ | split | (fail_if_no_progress dsimp only)

theorem State.slotRec_kept {r s : State} (h : Kept r s) (a : Inst) (b : Bool) : Kept r (State.slotRec s a b) := by
  simp only [State.slotRec]
  repeat'
    first
    | with_reducible assumption | with_reducible apply State.traceDev_kept | with_reducible apply foldl_kept
    | simp only [Kept.upd_iff, Kept.updStart_iff] | intro _ _ _ | intro _ _ | split | (fail_if_no_progress dsimp only)

theorem State.instStart_kept {r s : State} (h : Kept r s) (a : Nat) : Kept r (State.instStart s a) := by
  simp only [State.instStart]
  repeat'
    first
    | with_reducible assumption | with_reducible apply State.slotRec_kept | with_reducible apply State.consider_kept
    | with_reducible apply State.cutDrains_kept | with_reducible apply State.withdrawComp_kept | with_reducible apply State.inheritAtStart_kept
    | with_reducible apply State.clearBanks_kept | with_reducible apply State.setCyc_kept | with_reducible apply State.yieldTask_kept
    | with_reducible apply State.updInst_kept | with_reducible apply State.dropDue_kept | with_reducible apply State.updEng_kept
    | with_reducible apply State.updCore_kept | with_reducible apply State.when_kept | with_reducible apply State.bump_kept
    | with_reducible apply foldl_kept | simp only [Kept.upd_iff, Kept.updStart_iff] | intro _ _ _ | intro _ _ | split
    | (fail_if_no_progress dsimp only)

theorem State.dlRecord_kept {r s : State} (h : Kept r s) (a : Nat) : Kept r (State.dlRecord s a) := by
  simp only [State.dlRecord]
  repeat'
    first
    | with_reducible assumption | with_reducible apply State.updInst_kept | with_reducible apply State.recordLocal_kept
    | with_reducible apply foldl_kept | simp only [Kept.upd_iff, Kept.updStart_iff] | intro _ _ _ | intro _ _ | split
    | (fail_if_no_progress dsimp only)

theorem State.instDeadline_kept {r s : State} (h : Kept r s) (a : Nat) : Kept r (State.instDeadline s a) := by
  simp only [State.instDeadline]
  repeat'
    first
    | with_reducible assumption | with_reducible apply State.updInst_kept | with_reducible apply State.discard_kept
    | with_reducible apply State.updTask_kept | with_reducible apply State.endEarlyAt_kept | with_reducible apply State.taskGone_kept
    | with_reducible apply State.squashTask_kept | with_reducible apply State.yieldTask_kept | with_reducible apply State.relCores_kept
    | with_reducible apply State.updCnt_kept | with_reducible apply State.slotRec_kept | with_reducible apply State.dlRecord_kept
    | with_reducible refine Kept.of_snd (by with_reducible assumption) ?_ | with_reducible refine Kept.of_fst (by with_reducible assumption) ?_
    | with_reducible refine Kept.of_trd (by with_reducible assumption) ?_ | with_reducible apply foldl_kept
    | simp only [Kept.upd_iff, Kept.updStart_iff] | intro _ _ _ | intro _ _ | split | (fail_if_no_progress dsimp only)

theorem State.instDone_kept {r s : State} (h : Kept r s) (a : Nat) : Kept r (State.instDone s a) := by
  simp only [State.instDone]
  repeat'
    first
    | with_reducible assumption | with_reducible apply State.when_kept | with_reducible apply State.dlRecord_kept
    | with_reducible apply State.relCores_kept | with_reducible apply State.updCnt_kept | with_reducible apply State.dropInst_kept
    | with_reducible refine Kept.of_snd (by with_reducible assumption) ?_ | with_reducible refine Kept.of_fst (by with_reducible assumption) ?_
    | with_reducible refine Kept.of_trd (by with_reducible assumption) ?_ | with_reducible apply foldl_kept
    | simp only [Kept.upd_iff, Kept.updStart_iff] | intro _ _ _ | intro _ _ | split | (fail_if_no_progress dsimp only)

theorem State.edgePoll_kept {r s : State} (h : Kept r s) : Kept r (State.edgePoll s) := by
  simp only [State.edgePoll]
  repeat'
    first
    | with_reducible assumption | with_reducible apply State.dropEdges_kept | with_reducible apply foldl_kept
    | simp only [Kept.upd_iff, Kept.updStart_iff] | intro _ _ _ | intro _ _ | split | (fail_if_no_progress dsimp only)

theorem State.cycPoll_kept {r s : State} (h : Kept r s) : Kept r (State.cycPoll s) := by
  simp only [State.cycPoll]
  repeat'
    first
    | with_reducible assumption | with_reducible apply State.edgePoll_kept | with_reducible apply State.instDone_kept
    | with_reducible apply State.yieldTask_kept | with_reducible apply foldl_kept | simp only [Kept.upd_iff, Kept.updStart_iff] | intro _ _ _
    | intro _ _ | split | (fail_if_no_progress dsimp only)

theorem State.doDeferred_kept {r s : State} (h : Kept r s) : Kept r (State.doDeferred s) := by
  simp only [State.doDeferred]
  repeat'
    first
    | with_reducible assumption | with_reducible apply State.instDeadline_kept | with_reducible apply State.instStart_kept
    | with_reducible apply State.setCyc_kept | with_reducible apply foldl_kept | simp only [Kept.upd_iff, Kept.updStart_iff] | intro _ _ _
    | intro _ _ | split | (fail_if_no_progress dsimp only)

theorem State.takeSlot_kept {r s : State} (h : Kept r s) (a : Nat) (b : Slot) : Kept r (State.takeSlot s a b).2 := by
  simp only [State.takeSlot]
  repeat'
    first
    | with_reducible assumption | with_reducible apply State.newInst_kept | with_reducible apply State.setCyc_kept
    | with_reducible refine Kept.of_snd (by with_reducible assumption) ?_ | with_reducible refine Kept.of_fst (by with_reducible assumption) ?_
    | with_reducible refine Kept.of_trd (by with_reducible assumption) ?_ | with_reducible apply foldl_kept
    | simp only [Kept.upd_iff, Kept.updStart_iff] | intro _ _ _ | intro _ _ | split | (fail_if_no_progress dsimp only)

theorem State.deferAct_kept {r s : State} (h : Kept r s) (a : Nat) (b : Bool) (c : Nat) : Kept r (State.deferAct s a b c) := by
  simp only [State.deferAct]
  repeat'
    first
    | with_reducible assumption | with_reducible apply State.setCyc_kept | with_reducible apply foldl_kept
    | simp only [Kept.upd_iff, Kept.updStart_iff] | intro _ _ _ | intro _ _ | split | (fail_if_no_progress dsimp only)

theorem State.slotDeadline_kept {r s : State} (h : Kept r s) (a : Nat) : Kept r (State.slotDeadline s a) := by
  simp only [State.slotDeadline]
  repeat'
    first
    | with_reducible assumption | with_reducible apply State.deferAct_kept | with_reducible apply State.instDeadline_kept
    | with_reducible apply foldl_kept | simp only [Kept.upd_iff, Kept.updStart_iff] | intro _ _ _ | intro _ _ | split
    | (fail_if_no_progress dsimp only)

theorem State.slotStart_kept {r s : State} (h : Kept r s) (a : Nat) : Kept r (State.slotStart s a) := by
  simp only [State.slotStart]
  repeat'
    first
    | with_reducible assumption | with_reducible apply State.slotDeadline_kept | with_reducible apply State.deferAct_kept
    | with_reducible apply State.takeSlot_kept | with_reducible apply State.instStart_kept
    | with_reducible refine Kept.of_snd (by with_reducible assumption) ?_ | with_reducible refine Kept.of_fst (by with_reducible assumption) ?_
    | with_reducible refine Kept.of_trd (by with_reducible assumption) ?_ | with_reducible apply foldl_kept
    | simp only [Kept.upd_iff, Kept.updStart_iff] | intro _ _ _ | intro _ _ | split | (fail_if_no_progress dsimp only)

theorem State.pastSlot_kept {r s : State} (h : Kept r s) (a : Nat) : Kept r (State.pastSlot s a) := by
  simp only [State.pastSlot]
  repeat'
    first
    | with_reducible assumption | with_reducible apply State.deferAct_kept | with_reducible apply State.takeSlot_kept
    | with_reducible apply State.when_kept | with_reducible refine Kept.of_snd (by with_reducible assumption) ?_
    | with_reducible refine Kept.of_fst (by with_reducible assumption) ?_ | with_reducible refine Kept.of_trd (by with_reducible assumption) ?_
    | with_reducible apply foldl_kept | simp only [Kept.upd_iff, Kept.updStart_iff] | intro _ _ _ | intro _ _ | split
    | (fail_if_no_progress dsimp only)

theorem State.vsyncFreeRun_kept {r s : State} (h : Kept r s) : Kept r (State.vsyncFreeRun s) := by
  simp only [State.vsyncFreeRun]
  repeat'
    first
    | with_reducible assumption | with_reducible apply State.pastSlot_kept | with_reducible apply State.doDeferred_kept
    | with_reducible apply State.periodBegin_kept | with_reducible apply State.raise_kept | with_reducible apply State.setB_kept
    | with_reducible apply foldl_kept | simp only [Kept.upd_iff, Kept.updStart_iff] | intro _ _ _ | intro _ _ | split
    | (fail_if_no_progress dsimp only)

theorem State.fixedStart_kept {r s : State} (h : Kept r s) : Kept r (State.fixedStart s) := by
  simp only [State.fixedStart]
  repeat'
    first
    | with_reducible assumption | with_reducible apply State.periodBegin_kept | with_reducible apply foldl_kept
    | simp only [Kept.upd_iff, Kept.updStart_iff] | intro _ _ _ | intro _ _ | split | (fail_if_no_progress dsimp only)

theorem State.inheritInto_kept {r s : State} (h : Kept r s) (a : Nat) (b : Nat) (c : Flight) (d : Nat × Inst) : Kept r (State.inheritInto s a b c
    d) := by
  simp only [State.inheritInto]
  repeat'
    first
    | with_reducible assumption | with_reducible apply State.addEdges_kept | with_reducible apply State.clearBanks_kept
    | with_reducible refine Kept.of_snd (by with_reducible assumption) ?_ | with_reducible refine Kept.of_fst (by with_reducible assumption) ?_
    | with_reducible refine Kept.of_trd (by with_reducible assumption) ?_ | with_reducible apply foldl_kept
    | simp only [Kept.upd_iff, Kept.updStart_iff] | intro _ _ _ | intro _ _ | split | (fail_if_no_progress dsimp only)

theorem State.inheritDetect_kept {r s : State} (h : Kept r s) (a : Nat) (b : Nat) : Kept r (State.inheritDetect s a b) := by
  simp only [State.inheritDetect]
  repeat'
    first
    | with_reducible assumption | with_reducible apply State.inheritInto_kept
    | with_reducible refine Kept.of_snd (by with_reducible assumption) ?_ | with_reducible refine Kept.of_fst (by with_reducible assumption) ?_
    | with_reducible refine Kept.of_trd (by with_reducible assumption) ?_ | with_reducible apply foldl_kept
    | simp only [Kept.upd_iff, Kept.updStart_iff] | intro _ _ _ | intro _ _ | split | (fail_if_no_progress dsimp only)

theorem State.mqSend_kept {r s : State} (h : Kept r s) (a : MqJob) (b : Bool) (c : Nat) (d : List Word) : Kept r (State.mqSend s a b c d) := by
  simp only [State.mqSend]
  repeat'
    first
    | with_reducible assumption | with_reducible apply State.emits_kept | with_reducible apply foldl_kept
    | simp only [Kept.upd_iff, Kept.updStart_iff] | intro _ _ _ | intro _ _ | split | (fail_if_no_progress dsimp only)

theorem State.mqStart_kept {r s : State} (h : Kept r s) (a : MqJob) : Kept r (State.mqStart s a) := by
  simp only [State.mqStart]
  repeat'
    first
    | with_reducible assumption | with_reducible apply State.mqSend_kept | with_reducible apply State.readMem_kept
    | with_reducible apply foldl_kept | simp only [Kept.upd_iff, Kept.updStart_iff] | intro _ _ _ | intro _ _ | split
    | (fail_if_no_progress dsimp only)

theorem State.mqKick_kept {r s : State} (h : Kept r s) : Kept r (State.mqKick s) := by
  simp only [State.mqKick]
  repeat'
    first
    | with_reducible assumption | with_reducible apply State.mqStart_kept | with_reducible apply foldl_kept
    | simp only [Kept.upd_iff, Kept.updStart_iff] | intro _ _ _ | intro _ _ | split | (fail_if_no_progress dsimp only)

theorem State.mqAdd_kept {r s : State} (h : Kept r s) (a : Nat) (b : MqKind) (c : List Nat) : Kept r (State.mqAdd s a b c) := by
  simp only [State.mqAdd]
  repeat'
    first
    | with_reducible assumption | with_reducible apply State.mqKick_kept | with_reducible apply foldl_kept
    | simp only [Kept.upd_iff, Kept.updStart_iff] | intro _ _ _ | intro _ _ | split | (fail_if_no_progress dsimp only)

theorem State.setFinal_kept {r s : State} (h : Kept r s) (a : Nat) : Kept r (State.setFinal s a) := by
  simp only [State.setFinal]
  repeat'
    first
    | with_reducible assumption | with_reducible apply State.mqAdd_kept | with_reducible apply State.updCore_kept
    | with_reducible apply State.updTask_kept | with_reducible apply foldl_kept | simp only [Kept.upd_iff, Kept.updStart_iff] | intro _ _ _
    | intro _ _ | split | (fail_if_no_progress dsimp only)

theorem State.gatherTake_kept {r s : State} (h : Kept r s) (a : Nat) : Kept r (State.gatherTake s a) := by
  simp only [State.gatherTake]
  repeat'
    first
    | with_reducible assumption | with_reducible apply State.setFinal_kept | with_reducible apply State.mqAdd_kept
    | with_reducible apply State.updCore_kept | with_reducible apply State.updTask_kept | with_reducible apply foldl_kept
    | simp only [Kept.upd_iff, Kept.updStart_iff] | intro _ _ _ | intro _ _ | split | (fail_if_no_progress dsimp only)

theorem State.gatherEnd_kept {r s : State} (h : Kept r s) (a : Nat) : Kept r (State.gatherEnd s a) := by
  simp only [State.gatherEnd]
  repeat'
    first
    | with_reducible assumption | with_reducible apply State.setFinal_kept | with_reducible apply foldl_kept
    | simp only [Kept.upd_iff, Kept.updStart_iff] | intro _ _ _ | intro _ _ | split | (fail_if_no_progress dsimp only)

theorem State.corePick_kept {r s : State} (h : Kept r s) (a : Nat) : Kept r (State.corePick s a) := by
  simp only [State.corePick]
  repeat'
    first
    | with_reducible assumption | with_reducible apply State.count_kept | with_reducible apply State.bump_kept
    | with_reducible apply State.readMem_kept | with_reducible apply State.updTask_kept | with_reducible apply State.gatherTake_kept
    | with_reducible apply State.gatherEnd_kept | with_reducible refine Kept.of_snd (by with_reducible assumption) ?_
    | with_reducible refine Kept.of_fst (by with_reducible assumption) ?_ | with_reducible refine Kept.of_trd (by with_reducible assumption) ?_
    | with_reducible apply foldl_kept | simp only [Kept.upd_iff, Kept.updStart_iff] | intro _ _ _ | intro _ _ | split
    | (fail_if_no_progress dsimp only)

theorem State.stateData_kept {r s : State} (h : Kept r s) (a : Nat) (b : Word) (c : List Word) : Kept r (State.stateData s a b c) := by
  simp only [State.stateData]
  repeat'
    first
    | with_reducible assumption | with_reducible apply State.mqKick_kept | with_reducible apply State.mqSend_kept
    | with_reducible apply foldl_kept | simp only [Kept.upd_iff, Kept.updStart_iff] | intro _ _ _ | intro _ _ | split
    | (fail_if_no_progress dsimp only)

theorem State.mqAck_kept {r s : State} (h : Kept r s) (a : Nat) : Kept r (State.mqAck s a) := by
  simp only [State.mqAck]
  repeat'
    first
    | with_reducible assumption | with_reducible apply State.mqKick_kept | with_reducible apply State.coreDue_kept
    | with_reducible apply State.updTask_kept | with_reducible apply foldl_kept | simp only [Kept.upd_iff, Kept.updStart_iff] | intro _ _ _
    | intro _ _ | split | (fail_if_no_progress dsimp only)

theorem State.remainderEnd_kept {r s : State} (h : Kept r s) (a : Nat) : Kept r (State.remainderEnd s a) := by
  simp only [State.remainderEnd]
  repeat'
    first
    | with_reducible assumption | with_reducible apply State.mqKick_kept | with_reducible apply State.updTask_kept
    | with_reducible apply foldl_kept | simp only [Kept.upd_iff, Kept.updStart_iff] | intro _ _ _ | intro _ _ | split
    | (fail_if_no_progress dsimp only)

theorem State.splitPoll_kept {r s : State} (h : Kept r s) : Kept r (State.splitPoll s) := by
  simp only [State.splitPoll]
  repeat'
    first
    | with_reducible assumption | with_reducible apply State.mqAdd_kept | with_reducible apply State.count_kept
    | with_reducible apply State.bump_kept | with_reducible apply foldl_kept | simp only [Kept.upd_iff, Kept.updStart_iff] | intro _ _ _
    | intro _ _ | split | (fail_if_no_progress dsimp only)

theorem State.engPick_kept {r s : State} (h : Kept r s) (a : Cls) (b : Nat) : Kept r (State.engPick s a b) := by
  simp only [State.engPick]
  repeat'
    first
    | with_reducible assumption | with_reducible apply State.count_kept | with_reducible apply State.updTask_kept
    | with_reducible apply State.updEng_kept | with_reducible apply State.emit_kept
    | with_reducible refine Kept.of_snd (by with_reducible assumption) ?_ | with_reducible refine Kept.of_fst (by with_reducible assumption) ?_
    | with_reducible refine Kept.of_trd (by with_reducible assumption) ?_ | with_reducible apply foldl_kept
    | simp only [Kept.upd_iff, Kept.updStart_iff] | intro _ _ _ | intro _ _ | split | (fail_if_no_progress dsimp only)

theorem State.scrubAck_kept {r s : State} (h : Kept r s) (a : Cls) (b : Nat) : Kept r (State.scrubAck s a b) := by
  simp only [State.scrubAck]
  repeat'
    first
    | with_reducible assumption | with_reducible apply State.updEng_kept | with_reducible apply foldl_kept
    | simp only [Kept.upd_iff, Kept.updStart_iff] | intro _ _ _ | intro _ _ | split | (fail_if_no_progress dsimp only)

theorem State.segmentStart_kept {r s : State} (h : Kept r s) (a : Nat) (b : Nat) : Kept r (State.segmentStart s a b) := by
  simp only [State.segmentStart]
  repeat'
    first
    | with_reducible assumption | with_reducible apply State.beginHeir_kept | with_reducible apply State.updTask_kept
    | with_reducible apply State.updFlight_kept | with_reducible apply State.updCtx_kept | with_reducible apply State.traceCmd_kept
    | with_reducible apply State.when_kept | with_reducible apply foldl_kept | simp only [Kept.upd_iff, Kept.updStart_iff] | intro _ _ _
    | intro _ _ | split | (fail_if_no_progress dsimp only)

theorem State.launchCore_kept {r s : State} (h : Kept r s) (a : Due) : Kept r (State.launchCore s a) := by
  simp only [State.launchCore]
  repeat'
    first
    | with_reducible assumption | with_reducible apply State.segmentStart_kept | with_reducible apply State.updRank_kept
    | with_reducible apply State.windowCheck_kept | with_reducible apply State.freeSlots_kept | with_reducible apply State.updCore_kept
    | with_reducible apply State.emit_kept | with_reducible apply foldl_kept | simp only [Kept.upd_iff, Kept.updStart_iff] | intro _ _ _
    | intro _ _ | split | (fail_if_no_progress dsimp only)

theorem State.launchEng_kept {r s : State} (h : Kept r s) (a : Due) : Kept r (State.launchEng s a) := by
  simp only [State.launchEng]
  repeat'
    first
    | with_reducible assumption | with_reducible apply State.segmentStart_kept | with_reducible apply State.draw_kept
    | with_reducible apply State.memWake_kept | with_reducible apply State.emit_kept | with_reducible apply State.updEng_kept
    | with_reducible apply State.windowCheck_kept | with_reducible apply State.linkStart_kept | with_reducible apply State.gateStart_kept
    | with_reducible refine Kept.of_snd (by with_reducible assumption) ?_ | with_reducible refine Kept.of_fst (by with_reducible assumption) ?_
    | with_reducible refine Kept.of_trd (by with_reducible assumption) ?_ | with_reducible apply foldl_kept
    | simp only [Kept.upd_iff, Kept.updStart_iff] | intro _ _ _ | intro _ _ | split | (fail_if_no_progress dsimp only)

theorem State.launchNext_kept {r s : State} (h : Kept r s) : Kept r (State.launchNext s) := by
  simp only [State.launchNext]
  repeat'
    first
    | with_reducible assumption | with_reducible apply State.launchEng_kept | with_reducible apply State.launchCore_kept
    | with_reducible apply State.count_kept | with_reducible apply foldl_kept | simp only [Kept.upd_iff, Kept.updStart_iff] | intro _ _ _
    | intro _ _ | split | (fail_if_no_progress dsimp only)

theorem State.launchAck_kept {r s : State} (h : Kept r s) (a : Cls) (b : Nat) : Kept r (State.launchAck s a b) := by
  exact Kept.upd_iff.2 h

theorem State.bgYield_kept {r s : State} (h : Kept r s) (a : List (Nat × Task)) : Kept r (State.bgYield s a) := by
  simp only [State.bgYield]
  repeat'
    first
    | with_reducible assumption | with_reducible apply State.yieldTask_kept | with_reducible refine Kept.of_snd (by with_reducible assumption) ?_
    | with_reducible refine Kept.of_fst (by with_reducible assumption) ?_ | with_reducible refine Kept.of_trd (by with_reducible assumption) ?_
    | with_reducible apply foldl_kept | simp only [Kept.upd_iff, Kept.updStart_iff] | intro _ _ _ | intro _ _ | split
    | (fail_if_no_progress dsimp only)

theorem State.bgPoll_kept {r s : State} (h : Kept r s) : Kept r (State.bgPoll s) := by
  simp only [State.bgPoll]
  repeat'
    first
    | with_reducible assumption | with_reducible apply State.bgYield_kept | with_reducible apply foldl_kept
    | simp only [Kept.upd_iff, Kept.updStart_iff] | intro _ _ _ | intro _ _ | split | (fail_if_no_progress dsimp only)

theorem State.waitPoll_kept {r s : State} (h : Kept r s) : Kept r (State.waitPoll s) := by
  exact Kept.upd_iff.2 h

theorem State.rankPoll_kept {r s : State} (h : Kept r s) : Kept r (State.rankPoll s) := by
  simp only [State.rankPoll]
  repeat'
    first
    | with_reducible assumption | with_reducible apply State.returnRank_kept | with_reducible apply State.continueOn_kept
    | with_reducible apply State.ranksCheck_kept | with_reducible refine Kept.of_snd (by with_reducible assumption) ?_
    | with_reducible refine Kept.of_fst (by with_reducible assumption) ?_ | with_reducible refine Kept.of_trd (by with_reducible assumption) ?_
    | with_reducible apply foldl_kept | simp only [Kept.upd_iff, Kept.updStart_iff] | intro _ _ _ | intro _ _ | split
    | (fail_if_no_progress dsimp only)

theorem State.gatherPoll_kept {r s : State} (h : Kept r s) : Kept r (State.gatherPoll s) := by
  simp only [State.gatherPoll]
  repeat'
    first
    | with_reducible assumption | with_reducible apply State.gatherTake_kept | with_reducible apply foldl_kept
    | simp only [Kept.upd_iff, Kept.updStart_iff] | intro _ _ _ | intro _ _ | split | (fail_if_no_progress dsimp only)

theorem State.removalDrop_kept {r s : State} (h : Kept r s) (a : Nat) : Kept r (State.removalDrop s a) := by
  simp only [State.removalDrop]
  repeat'
    first
    | with_reducible assumption | with_reducible apply State.setCyc_kept | with_reducible apply State.clearPart_kept
    | with_reducible apply State.setB_kept | with_reducible apply State.fnEvent_kept | with_reducible apply State.setReg_kept
    | with_reducible apply State.layoutChanged_kept | with_reducible refine Kept.of_snd (by with_reducible assumption) ?_
    | with_reducible refine Kept.of_fst (by with_reducible assumption) ?_ | with_reducible refine Kept.of_trd (by with_reducible assumption) ?_
    | with_reducible apply foldl_kept | simp only [Kept.upd_iff, Kept.updStart_iff] | intro _ _ _ | intro _ _ | split
    | (fail_if_no_progress dsimp only)

theorem State.freePages_kept {r s : State} (h : Kept r s) (a : Nat) (b : Nat) (c : Nat) (d : List Nat) : Kept r (State.freePages s a b c d) := by
  simp only [State.freePages]
  repeat'
    first
    | with_reducible assumption | with_reducible apply State.clearPages_kept
    | with_reducible refine Kept.of_snd (by with_reducible assumption) ?_ | with_reducible refine Kept.of_fst (by with_reducible assumption) ?_
    | with_reducible refine Kept.of_trd (by with_reducible assumption) ?_ | with_reducible apply foldl_kept
    | simp only [Kept.upd_iff, Kept.updStart_iff] | intro _ _ _ | intro _ _ | split | (fail_if_no_progress dsimp only)

theorem State.dissolveHere_kept {r s : State} (h : Kept r s) : Kept r (State.dissolveHere s) := by
  simp only [State.dissolveHere]
  repeat'
    first
    | with_reducible assumption | with_reducible apply State.leaveFabric_kept | with_reducible apply State.leadRec_kept
    | with_reducible refine Kept.of_snd (by with_reducible assumption) ?_ | with_reducible refine Kept.of_fst (by with_reducible assumption) ?_
    | with_reducible refine Kept.of_trd (by with_reducible assumption) ?_ | with_reducible apply foldl_kept
    | simp only [Kept.upd_iff, Kept.updStart_iff] | intro _ _ _ | intro _ _ | split | (fail_if_no_progress dsimp only)

theorem State.portSecurity_kept {r s : State} (h : Kept r s) (a : Nat) (b : Nat) : Kept r (State.portSecurity s a b) := by
  simp only [State.portSecurity]
  repeat'
    first
    | with_reducible assumption | with_reducible apply State.securityRec_kept
    | with_reducible refine Kept.of_snd (by with_reducible assumption) ?_ | with_reducible refine Kept.of_fst (by with_reducible assumption) ?_
    | with_reducible refine Kept.of_trd (by with_reducible assumption) ?_ | with_reducible apply foldl_kept
    | simp only [Kept.upd_iff, Kept.updStart_iff] | intro _ _ _ | intro _ _ | split | (fail_if_no_progress dsimp only)

theorem State.tenantSecurity_kept {r s : State} (h : Kept r s) (a : Nat) (b : Nat) : Kept r (State.tenantSecurity s a b) := by
  simp only [State.tenantSecurity]
  repeat'
    first
    | with_reducible assumption | with_reducible apply State.securityRec_kept
    | with_reducible refine Kept.of_snd (by with_reducible assumption) ?_ | with_reducible refine Kept.of_fst (by with_reducible assumption) ?_
    | with_reducible refine Kept.of_trd (by with_reducible assumption) ?_ | with_reducible apply foldl_kept
    | simp only [Kept.upd_iff, Kept.updStart_iff] | intro _ _ _ | intro _ _ | split | (fail_if_no_progress dsimp only)

theorem State.failWaits_kept {r s : State} (h : Kept r s) (a : Half) : Kept r (State.failWaits s a) := by
  simp only [State.failWaits]
  repeat'
    first
    | with_reducible assumption | with_reducible apply State.endEarly_kept | with_reducible refine Kept.of_snd (by with_reducible assumption) ?_
    | with_reducible refine Kept.of_fst (by with_reducible assumption) ?_ | with_reducible refine Kept.of_trd (by with_reducible assumption) ?_
    | with_reducible apply foldl_kept | simp only [Kept.upd_iff, Kept.updStart_iff] | intro _ _ _ | intro _ _ | split
    | (fail_if_no_progress dsimp only)

theorem State.remoteDone_kept {r s : State} (h : Kept r s) (a : Nat) (b : Nat) : Kept r (State.remoteDone s a b) := by
  simp only [State.remoteDone]
  repeat'
    first
    | with_reducible assumption | with_reducible apply State.traceSync_kept | with_reducible apply State.updFlight_kept
    | with_reducible apply State.unpark_kept | with_reducible refine Kept.of_snd (by with_reducible assumption) ?_
    | with_reducible refine Kept.of_fst (by with_reducible assumption) ?_ | with_reducible refine Kept.of_trd (by with_reducible assumption) ?_
    | with_reducible apply foldl_kept | simp only [Kept.upd_iff, Kept.updStart_iff] | intro _ _ _ | intro _ _ | split
    | (fail_if_no_progress dsimp only)

theorem State.applyHeld_kept {r s : State} (h : Kept r s) : Kept r (State.applyHeld s) := by
  simp only [State.applyHeld]
  repeat'
    first
    | with_reducible assumption | with_reducible apply State.applyDone_kept | with_reducible refine Kept.of_snd (by with_reducible assumption) ?_
    | with_reducible refine Kept.of_fst (by with_reducible assumption) ?_ | with_reducible refine Kept.of_trd (by with_reducible assumption) ?_
    | with_reducible apply foldl_kept | simp only [Kept.upd_iff, Kept.updStart_iff] | intro _ _ _ | intro _ _ | split
    | (fail_if_no_progress dsimp only)

theorem State.noteLate_kept {r s : State} (h : Kept r s) : Kept r (State.noteLate s) := by
  simp only [State.noteLate]
  repeat'
    first
    | with_reducible assumption | with_reducible apply State.updInst_kept | with_reducible refine Kept.of_snd (by with_reducible assumption) ?_
    | with_reducible refine Kept.of_fst (by with_reducible assumption) ?_ | with_reducible refine Kept.of_trd (by with_reducible assumption) ?_
    | with_reducible apply foldl_kept | simp only [Kept.upd_iff, Kept.updStart_iff] | intro _ _ _ | intro _ _ | split
    | (fail_if_no_progress dsimp only)

theorem State.segData_kept {r s : State} (h : Kept r s) (a : Nat) (b : Nat) (c : List Word) : Kept r (State.segData s a b c) := by
  simp only [State.segData]
  repeat'
    first
    | with_reducible assumption | with_reducible apply State.updXfer_kept | with_reducible apply State.flushSegs_kept
    | with_reducible refine Kept.of_snd (by with_reducible assumption) ?_ | with_reducible refine Kept.of_fst (by with_reducible assumption) ?_
    | with_reducible refine Kept.of_trd (by with_reducible assumption) ?_ | with_reducible apply foldl_kept
    | simp only [Kept.upd_iff, Kept.updStart_iff] | intro _ _ _ | intro _ _ | split | (fail_if_no_progress dsimp only)

theorem State.releaseFirst_kept {r s : State} (h : Kept r s) (a : Nat) (b : Nat) : Kept r (State.releaseFirst s a b) := by
  simp only [State.releaseFirst]
  repeat'
    first
    | with_reducible assumption | with_reducible apply State.freePages_kept | with_reducible refine Kept.of_snd (by with_reducible assumption) ?_
    | with_reducible refine Kept.of_fst (by with_reducible assumption) ?_ | with_reducible refine Kept.of_trd (by with_reducible assumption) ?_
    | with_reducible apply foldl_kept | simp only [Kept.upd_iff, Kept.updStart_iff] | intro _ _ _ | intro _ _ | split
    | (fail_if_no_progress dsimp only)

end Sys2Proof.Machine
end

