-- ==== Sys2Proof/Laws/KeptParts.lean ====
section
/-! SUPPORT. What every operation of the machine keeps, part 3: streams, the governor, partitions, watches, security and observation. -/

namespace Sys2Proof.Machine

set_option linter.unusedTactic false
set_option linter.unreachableTactic false
set_option linter.unusedSimpArgs false

theorem State.askBlock_kept {r s : State} (h : Kept r s) (a : Nat) (b : Nat) : Kept r (State.askBlock s a b) := by
  simp only [State.askBlock]
  repeat'
    first
    | with_reducible assumption | with_reducible apply State.readMem_kept | with_reducible apply foldl_kept
    | simp only [Kept.upd_iff, Kept.updStart_iff] | intro _ _ _ | intro _ _ | split | (fail_if_no_progress dsimp only)

theorem State.invalidWatch_kept {r s : State} (h : Kept r s) (a : Nat) (b : Watch) : Kept r (State.invalidWatch a s b) := by
  simp only [State.invalidWatch]
  repeat'
    first
    | with_reducible assumption | with_reducible apply State.noteRefused_kept | with_reducible apply State.guilty_kept
    | with_reducible apply State.writeMem_kept | with_reducible apply State.bump_kept
    | with_reducible refine Kept.of_snd (by with_reducible assumption) ?_ | with_reducible refine Kept.of_fst (by with_reducible assumption) ?_
    | with_reducible refine Kept.of_trd (by with_reducible assumption) ?_ | with_reducible apply foldl_kept
    | simp only [Kept.upd_iff, Kept.updStart_iff] | intro _ _ _ | intro _ _ | split | (fail_if_no_progress dsimp only)

theorem State.atEnd_kept {r s : State} (h : Kept r s) (a : Nat) (b : Flight) : Kept r (State.atEnd s a b) := by
  simp only [State.atEnd]
  repeat'
    first
    | with_reducible assumption | with_reducible apply State.invalidWatch_kept | with_reducible apply State.guilty_kept
    | with_reducible apply State.park_kept | with_reducible apply State.updFlight_kept
    | with_reducible refine Kept.of_snd (by with_reducible assumption) ?_ | with_reducible refine Kept.of_fst (by with_reducible assumption) ?_
    | with_reducible refine Kept.of_trd (by with_reducible assumption) ?_ | with_reducible apply foldl_kept
    | simp only [Kept.upd_iff, Kept.updStart_iff] | intro _ _ _ | intro _ _ | split | (fail_if_no_progress dsimp only)

theorem State.settleCmd_kept {r s : State} (h : Kept r s) (a : Nat) (b : Flight) (c : List Word) : Kept r (State.settleCmd s a b c) := by
  simp only [State.settleCmd]
  repeat'
    first
    | with_reducible assumption | with_reducible apply State.askBlock_kept | with_reducible apply State.guilty_kept
    | with_reducible apply State.park_kept | with_reducible apply foldl_kept | simp only [Kept.upd_iff, Kept.updStart_iff] | intro _ _ _
    | intro _ _ | split | (fail_if_no_progress dsimp only)

theorem State.settle_kept {r s : State} (h : Kept r s) (a : Nat) : Kept r (State.settle s a) := by
  simp only [State.settle]
  repeat'
    first
    | with_reducible assumption | with_reducible apply State.settleCmd_kept | with_reducible apply State.atEnd_kept
    | with_reducible apply State.askBlock_kept | with_reducible apply State.guilty_kept | with_reducible apply foldl_kept
    | simp only [Kept.upd_iff, Kept.updStart_iff] | intro _ _ _ | intro _ _ | split | (fail_if_no_progress dsimp only)

theorem State.blockRead_kept {r s : State} (h : Kept r s) (a : Nat) (b : Nat) (c : List Word) : Kept r (State.blockRead s a b c) := by
  simp only [State.blockRead]
  repeat'
    first
    | with_reducible assumption | with_reducible apply State.settle_kept | with_reducible apply State.updFlight_kept
    | with_reducible apply foldl_kept | simp only [Kept.upd_iff, Kept.updStart_iff] | intro _ _ _ | intro _ _ | split
    | (fail_if_no_progress dsimp only)

theorem State.runCmd_kept {r s : State} (h : Kept r s) (a : Nat) (b : Nat) (c : State → Flight → List Word → State) (hc : ∀ x0 x1 x2, Kept r x0 →
  Kept r (c x0 x1 x2)) : Kept r (State.runCmd s a b c) := by
  simp only [State.runCmd]
  repeat'
    first
    | with_reducible assumption | with_reducible apply hc | with_reducible apply State.settle_kept | with_reducible apply State.updFlight_kept
    | with_reducible apply State.count_kept | with_reducible refine Kept.of_snd (by with_reducible assumption) ?_
    | with_reducible refine Kept.of_fst (by with_reducible assumption) ?_ | with_reducible refine Kept.of_trd (by with_reducible assumption) ?_
    | with_reducible apply foldl_kept | simp only [Kept.upd_iff, Kept.updStart_iff] | intro _ _ _ | intro _ _ | split
    | (fail_if_no_progress dsimp only)

theorem State.pass_kept {r s : State} (h : Kept r s) (a : Nat) : Kept r (State.pass s a) := by
  simp only [State.pass]
  repeat'
    first
    | with_reducible assumption | with_reducible apply State.updFlight_kept | with_reducible apply foldl_kept
    | simp only [Kept.upd_iff, Kept.updStart_iff] | intro _ _ _ | intro _ _ | split | (fail_if_no_progress dsimp only)

theorem State.malformed_kept {r s : State} (h : Kept r s) (a : Nat) : Kept r (State.malformed s a) := by
  simp only [State.malformed]
  repeat'
    first
    | with_reducible assumption | with_reducible apply State.guilty_kept | with_reducible apply foldl_kept
    | simp only [Kept.upd_iff, Kept.updStart_iff] | intro _ _ _ | intro _ _ | split | (fail_if_no_progress dsimp only)

theorem State.handOver_kept {r s : State} (h : Kept r s) (a : Nat) (b : Flight) (c : Cls) (d : List Word) (e : List Word) (g : Word) : Kept r
    (State.handOver s a b c d e g) := by
  simp only [State.handOver]
  repeat'
    first
    | with_reducible assumption | with_reducible apply State.invalidWatch_kept | with_reducible apply State.guilty_kept
    | with_reducible apply State.updFlight_kept | with_reducible apply State.park_kept | with_reducible apply State.wake_kept
    | with_reducible apply State.considerNew_kept | with_reducible refine Kept.of_snd (by with_reducible assumption) ?_
    | with_reducible refine Kept.of_fst (by with_reducible assumption) ?_ | with_reducible refine Kept.of_trd (by with_reducible assumption) ?_
    | with_reducible apply foldl_kept | simp only [Kept.upd_iff, Kept.updStart_iff] | intro _ _ _ | intro _ _ | split
    | (fail_if_no_progress dsimp only)

theorem State.engCmd_kept {r s : State} (h : Kept r s) (a : Nat) (b : Flight) (c : List Word) (d : List Word → Bool) : Kept r (State.engCmd s a b c
  d) := by
  simp only [State.engCmd]
  repeat'
    first
    | with_reducible assumption | with_reducible apply State.handOver_kept | with_reducible apply State.malformed_kept
    | with_reducible apply foldl_kept | simp only [Kept.upd_iff, Kept.updStart_iff] | intro _ _ _ | intro _ _ | split
    | (fail_if_no_progress dsimp only)

theorem State.cmdDispatch_kept {r s : State} (h : Kept r s) (a : Nat) (b : Flight) (c : List Word) (d : Option (List Word)) : Kept r
    (State.cmdDispatch s a b c d) := by
  simp only [State.cmdDispatch]
  repeat'
    first
    | with_reducible assumption | with_reducible apply State.malformed_kept | with_reducible apply State.handOver_kept
    | with_reducible apply State.readMem_kept | with_reducible apply State.noteRefused_kept | with_reducible apply State.guilty_kept
    | with_reducible refine Kept.of_snd (by with_reducible assumption) ?_ | with_reducible refine Kept.of_fst (by with_reducible assumption) ?_
    | with_reducible refine Kept.of_trd (by with_reducible assumption) ?_ | with_reducible apply foldl_kept
    | simp only [Kept.upd_iff, Kept.updStart_iff] | intro _ _ _ | intro _ _ | split | (fail_if_no_progress dsimp only)

theorem State.cmdRender_kept {r s : State} (h : Kept r s) (a : Nat) (b : Flight) (c : List Word) (d : Option Word) : Kept r (State.cmdRender s a
    b c d) := by
  simp only [State.cmdRender]
  repeat'
    first
    | with_reducible assumption | with_reducible apply State.malformed_kept | with_reducible apply State.readMem_kept
    | with_reducible apply State.noteRefused_kept | with_reducible apply State.guilty_kept | with_reducible apply State.handOver_kept
    | with_reducible refine Kept.of_snd (by with_reducible assumption) ?_ | with_reducible refine Kept.of_fst (by with_reducible assumption) ?_
    | with_reducible refine Kept.of_trd (by with_reducible assumption) ?_ | with_reducible apply foldl_kept
    | simp only [Kept.upd_iff, Kept.updStart_iff] | intro _ _ _ | intro _ _ | split | (fail_if_no_progress dsimp only)

theorem State.cmdRecord_kept {r s : State} (h : Kept r s) (a : Nat) (b : Flight) (c : List Word) : Kept r (State.cmdRecord s a b c) := by
  simp only [State.cmdRecord]
  repeat'
    first
    | with_reducible assumption | with_reducible apply State.malformed_kept | with_reducible apply State.traceSync_kept
    | with_reducible apply State.pass_kept | with_reducible apply State.recordLocal_kept | with_reducible apply State.endEarly_kept
    | with_reducible apply State.send_kept | with_reducible apply State.park_kept
    | with_reducible refine Kept.of_snd (by with_reducible assumption) ?_ | with_reducible refine Kept.of_fst (by with_reducible assumption) ?_
    | with_reducible refine Kept.of_trd (by with_reducible assumption) ?_ | with_reducible apply foldl_kept
    | simp only [Kept.upd_iff, Kept.updStart_iff] | intro _ _ _ | intro _ _ | split | (fail_if_no_progress dsimp only)

theorem State.cmdWait_kept {r s : State} (h : Kept r s) (a : Nat) (b : Flight) (c : List Word) : Kept r (State.cmdWait s a b c) := by
  simp only [State.cmdWait]
  repeat'
    first
    | with_reducible assumption | with_reducible apply State.malformed_kept | with_reducible apply State.pass_kept
    | with_reducible apply State.remoteWait_kept | with_reducible apply State.endEarly_kept | with_reducible apply State.updEvent_kept
    | with_reducible apply State.park_kept | with_reducible apply State.traceSync_kept | with_reducible apply State.progress_kept
    | with_reducible apply foldl_kept | simp only [Kept.upd_iff, Kept.updStart_iff] | intro _ _ _ | intro _ _ | split
    | (fail_if_no_progress dsimp only)

theorem State.cmdSemAcquire_kept {r s : State} (h : Kept r s) (a : Nat) (b : Flight) (c : List Word) : Kept r (State.cmdSemAcquire s a b c) := by
  simp only [State.cmdSemAcquire]
  repeat'
    first
    | with_reducible assumption | with_reducible apply State.malformed_kept | with_reducible apply State.setSem_kept
    | with_reducible apply State.count_kept | with_reducible apply State.progress_kept | with_reducible apply State.traceSync_kept
    | with_reducible apply State.pass_kept | with_reducible apply State.park_kept | with_reducible apply State.semAcquire_kept
    | with_reducible apply State.endEarly_kept | with_reducible apply State.send_kept
    | with_reducible refine Kept.of_snd (by with_reducible assumption) ?_ | with_reducible refine Kept.of_fst (by with_reducible assumption) ?_
    | with_reducible refine Kept.of_trd (by with_reducible assumption) ?_ | with_reducible apply foldl_kept
    | simp only [Kept.upd_iff, Kept.updStart_iff] | intro _ _ _ | intro _ _ | split | (fail_if_no_progress dsimp only)

theorem State.cmdSemRelease_kept {r s : State} (h : Kept r s) (a : Nat) (b : Flight) (c : List Word) : Kept r (State.cmdSemRelease s a b c) := by
  simp only [State.cmdSemRelease]
  repeat'
    first
    | with_reducible assumption | with_reducible apply State.malformed_kept | with_reducible apply State.pass_kept
    | with_reducible apply State.endEarly_kept | with_reducible apply State.semRelease_kept | with_reducible apply State.park_kept
    | with_reducible apply State.traceSync_kept | with_reducible apply State.send_kept | with_reducible apply foldl_kept
    | simp only [Kept.upd_iff, Kept.updStart_iff] | intro _ _ _ | intro _ _ | split | (fail_if_no_progress dsimp only)

theorem State.cmdSetScalar_kept {r s : State} (h : Kept r s) (a : Nat) (b : Flight) (c : List Word) (d : Option Word) : Kept r
    (State.cmdSetScalar s a b c d) := by
  simp only [State.cmdSetScalar]
  repeat'
    first
    | with_reducible assumption | with_reducible apply State.updFlight_kept | with_reducible apply State.pass_kept
    | with_reducible apply State.malformed_kept | with_reducible apply State.when_kept | with_reducible apply State.readMem_kept
    | with_reducible apply State.noteRefused_kept | with_reducible apply State.guilty_kept | with_reducible apply State.writeMem_kept
    | with_reducible refine Kept.of_snd (by with_reducible assumption) ?_ | with_reducible refine Kept.of_fst (by with_reducible assumption) ?_
    | with_reducible refine Kept.of_trd (by with_reducible assumption) ?_ | with_reducible apply foldl_kept
    | simp only [Kept.upd_iff, Kept.updStart_iff] | intro _ _ _ | intro _ _ | split | (fail_if_no_progress dsimp only)

theorem State.cmdAddScalar_kept {r s : State} (h : Kept r s) (a : Nat) (b : Flight) (c : List Word) : Kept r (State.cmdAddScalar s a b c) := by
  simp only [State.cmdAddScalar]
  repeat'
    first
    | with_reducible assumption | with_reducible apply State.pass_kept | with_reducible apply State.updFlight_kept
    | with_reducible apply foldl_kept | simp only [Kept.upd_iff, Kept.updStart_iff] | intro _ _ _ | intro _ _ | split
    | (fail_if_no_progress dsimp only)

theorem State.cmdCompare_kept {r s : State} (h : Kept r s) (a : Nat) (b : Flight) (c : List Word) : Kept r (State.cmdCompare s a b c) := by
  simp only [State.cmdCompare]
  repeat'
    first
    | with_reducible assumption | with_reducible apply State.pass_kept | with_reducible apply State.updFlight_kept
    | with_reducible apply foldl_kept | simp only [Kept.upd_iff, Kept.updStart_iff] | intro _ _ _ | intro _ _ | split
    | (fail_if_no_progress dsimp only)

theorem State.cmdSkipIf_kept {r s : State} (h : Kept r s) (a : Nat) (b : Flight) (c : List Word) : Kept r (State.cmdSkipIf s a b c) := by
  simp only [State.cmdSkipIf]
  repeat'
    first
    | with_reducible assumption | with_reducible apply State.pass_kept | with_reducible apply State.updFlight_kept
    | with_reducible apply foldl_kept | simp only [Kept.upd_iff, Kept.updStart_iff] | intro _ _ _ | intro _ _ | split
    | (fail_if_no_progress dsimp only)

theorem State.cmdRepeat_kept {r s : State} (h : Kept r s) (a : Nat) (b : Flight) (c : List Word) : Kept r (State.cmdRepeat s a b c) := by
  simp only [State.cmdRepeat]
  repeat'
    first
    | with_reducible assumption | with_reducible apply State.pass_kept | with_reducible apply State.guilty_kept
    | with_reducible apply State.updFlight_kept | with_reducible apply foldl_kept | simp only [Kept.upd_iff, Kept.updStart_iff] | intro _ _ _
    | intro _ _ | split | (fail_if_no_progress dsimp only)

theorem State.cmdEndRepeat_kept {r s : State} (h : Kept r s) (a : Nat) (b : Flight) : Kept r (State.cmdEndRepeat s a b) := by
  simp only [State.cmdEndRepeat]
  repeat'
    first
    | with_reducible assumption | with_reducible apply State.pass_kept | with_reducible apply State.guilty_kept
    | with_reducible apply State.updFlight_kept | with_reducible apply foldl_kept | simp only [Kept.upd_iff, Kept.updStart_iff] | intro _ _ _
    | intro _ _ | split | (fail_if_no_progress dsimp only)

theorem State.cmdSetAreg_kept {r s : State} (h : Kept r s) (a : Nat) (b : Flight) (c : List Word) : Kept r (State.cmdSetAreg s a b c) := by
  simp only [State.cmdSetAreg]
  repeat'
    first
    | with_reducible assumption | with_reducible apply State.malformed_kept | with_reducible apply State.pass_kept
    | with_reducible apply State.updFlight_kept | with_reducible apply foldl_kept | simp only [Kept.upd_iff, Kept.updStart_iff] | intro _ _ _
    | intro _ _ | split | (fail_if_no_progress dsimp only)

theorem State.cmdTimestamp_kept {r s : State} (h : Kept r s) (a : Nat) (b : Flight) (c : List Word) (d : Bool) : Kept r (State.cmdTimestamp s a b
    c d) := by
  simp only [State.cmdTimestamp]
  repeat'
    first
    | with_reducible assumption | with_reducible apply State.updFlight_kept | with_reducible apply State.pass_kept
    | with_reducible apply State.malformed_kept | with_reducible apply State.noteRefused_kept | with_reducible apply State.guilty_kept
    | with_reducible apply State.writeMem_kept | with_reducible refine Kept.of_snd (by with_reducible assumption) ?_
    | with_reducible refine Kept.of_fst (by with_reducible assumption) ?_ | with_reducible refine Kept.of_trd (by with_reducible assumption) ?_
    | with_reducible apply foldl_kept | simp only [Kept.upd_iff, Kept.updStart_iff] | intro _ _ _ | intro _ _ | split
    | (fail_if_no_progress dsimp only)

theorem State.cmdWatch_kept {r s : State} (h : Kept r s) (a : Nat) (b : Flight) (c : List Word) : Kept r (State.cmdWatch s a b c) := by
  simp only [State.cmdWatch]
  repeat'
    first
    | with_reducible assumption | with_reducible apply State.malformed_kept | with_reducible apply State.pass_kept
    | with_reducible apply State.park_kept | with_reducible apply State.updFlight_kept | with_reducible apply State.readMem_kept
    | with_reducible apply foldl_kept | simp only [Kept.upd_iff, Kept.updStart_iff] | intro _ _ _ | intro _ _ | split
    | (fail_if_no_progress dsimp only)

theorem State.cmdMark_kept {r s : State} (h : Kept r s) (a : Nat) (b : Flight) (c : List Word) : Kept r (State.cmdMark s a b c) := by
  simp only [State.cmdMark]
  repeat'
    first
    | with_reducible assumption | with_reducible apply State.pass_kept | with_reducible apply State.traceCmd_kept
    | with_reducible apply foldl_kept | simp only [Kept.upd_iff, Kept.updStart_iff] | intro _ _ _ | intro _ _ | split
    | (fail_if_no_progress dsimp only)

theorem State.cmdHint_kept {r s : State} (h : Kept r s) (a : Nat) (b : Flight) (c : List Word) : Kept r (State.cmdHint s a b c) := by
  simp only [State.cmdHint]
  repeat'
    first
    | with_reducible assumption | with_reducible apply State.malformed_kept | with_reducible apply State.pass_kept
    | with_reducible apply State.readMem_kept | with_reducible apply State.bump_kept | with_reducible apply foldl_kept
    | simp only [Kept.upd_iff, Kept.updStart_iff] | intro _ _ _ | intro _ _ | split | (fail_if_no_progress dsimp only)

theorem State.hintReady_kept {r s : State} (h : Kept r s) (a : Nat) (b : Word) (c : Nat) (d : List Word) : Kept r (State.hintReady s a b c d) := by
  simp only [State.hintReady]
  repeat'
    first
    | with_reducible assumption | with_reducible apply foldl_kept | simp only [Kept.upd_iff, Kept.updStart_iff] | intro _ _ _ | intro _ _ | split
    | (fail_if_no_progress dsimp only)

theorem State.hintFault_kept {r s : State} (h : Kept r s) (a : Nat) (b : Word) (c : Nat) : Kept r (State.hintFault s a b c) := by
  simp only [State.hintFault]
  repeat'
    first
    | with_reducible assumption | with_reducible apply State.bump_kept | with_reducible apply foldl_kept
    | simp only [Kept.upd_iff, Kept.updStart_iff] | intro _ _ _ | intro _ _ | split | (fail_if_no_progress dsimp only)

theorem State.enterRtn_kept {r s : State} (h : Kept r s) (a : Nat) (b : List Word) (c : Nat) (d : List Word) (e : Bool) : Kept r (State.enterRtn s a
  b c d e) := by
  exact Kept.upd_iff.2 h

theorem State.cmdCall_kept {r s : State} (h : Kept r s) (a : Nat) (b : Flight) (c : List Word) : Kept r (State.cmdCall s a b c) := by
  simp only [State.cmdCall]
  repeat'
    first
    | with_reducible assumption | with_reducible apply State.enterRtn_kept | with_reducible apply State.malformed_kept
    | with_reducible apply State.traceSync_kept | with_reducible apply State.updFlight_kept | with_reducible apply foldl_kept
    | simp only [Kept.upd_iff, Kept.updStart_iff] | intro _ _ _ | intro _ _ | split | (fail_if_no_progress dsimp only)

theorem State.romCall_kept {r s : State} (h : Kept r s) (a : Nat) (b : Nat) (c : Flight → Call → State) (hc : ∀ x0 x1, Kept r (c x0 x1)) : Kept r
  (State.romCall s a b c) := by
  simp only [State.romCall]
  repeat'
    first
    | with_reducible assumption | with_reducible apply hc | with_reducible refine Kept.of_snd (by with_reducible assumption) ?_
    | with_reducible refine Kept.of_fst (by with_reducible assumption) ?_ | with_reducible refine Kept.of_trd (by with_reducible assumption) ?_
    | with_reducible apply foldl_kept | simp only [Kept.upd_iff, Kept.updStart_iff] | intro _ _ _ | intro _ _ | split
    | (fail_if_no_progress dsimp only)

theorem State.startRom_kept {r s : State} (h : Kept r s) (a : Nat) (b : List Word) (c : Nat) (d : List (Nat × Word)) : Kept r (State.startRom s a b
  c d) := by
  simp only [State.startRom]
  repeat'
    first
    | with_reducible assumption | with_reducible apply State.settle_kept | with_reducible apply State.updFlight_kept
    | with_reducible apply foldl_kept | simp only [Kept.upd_iff, Kept.updStart_iff] | intro _ _ _ | intro _ _ | split
    | (fail_if_no_progress dsimp only)

theorem State.romList_kept {r s : State} (h : Kept r s) (a : Nat) (b : Call) (c : Nat) (d : Option (List Word)) (e : Nat) : Kept r (State.romList
    s a b c d e) := by
  simp only [State.romList]
  repeat'
    first
    | with_reducible assumption | with_reducible apply State.readMem_kept | with_reducible apply State.noteRefused_kept
    | with_reducible apply State.guilty_kept | with_reducible apply State.startRom_kept
    | with_reducible refine Kept.of_snd (by with_reducible assumption) ?_ | with_reducible refine Kept.of_fst (by with_reducible assumption) ?_
    | with_reducible refine Kept.of_trd (by with_reducible assumption) ?_ | with_reducible apply foldl_kept
    | simp only [Kept.upd_iff, Kept.updStart_iff] | intro _ _ _ | intro _ _ | split | (fail_if_no_progress dsimp only)

theorem State.seqYield_kept {r s : State} (h : Kept r s) (a : Nat) : Kept r (State.seqYield s a) := by
  simp only [State.seqYield]
  repeat'
    first
    | with_reducible assumption | with_reducible apply State.updFlight_kept | with_reducible apply foldl_kept
    | simp only [Kept.upd_iff, Kept.updStart_iff] | intro _ _ _ | intro _ _ | split | (fail_if_no_progress dsimp only)

theorem State.waitTimeout_kept {r s : State} (h : Kept r s) (a : Nat) : Kept r (State.waitTimeout s a) := by
  simp only [State.waitTimeout]
  repeat'
    first
    | with_reducible assumption | with_reducible apply State.wake_kept | with_reducible apply State.count_kept
    | with_reducible apply State.endEarly_kept | with_reducible refine Kept.of_snd (by with_reducible assumption) ?_
    | with_reducible refine Kept.of_fst (by with_reducible assumption) ?_ | with_reducible refine Kept.of_trd (by with_reducible assumption) ?_
    | with_reducible apply foldl_kept | simp only [Kept.upd_iff, Kept.updStart_iff] | intro _ _ _ | intro _ _ | split
    | (fail_if_no_progress dsimp only)

theorem State.setGov_kept {r s : State} (h : Kept r s) (a : Gov → Gov) : Kept r (State.setGov s a) := by
  exact Kept.upd_iff.2 h

theorem State.closeBucket_kept {r s : State} (h : Kept r s) : Kept r (State.closeBucket s) := by
  simp only [State.closeBucket]
  repeat'
    first
    | with_reducible assumption | with_reducible apply State.setGov_kept | with_reducible apply State.setReg_kept
    | with_reducible apply foldl_kept | simp only [Kept.upd_iff, Kept.updStart_iff] | intro _ _ _ | intro _ _ | split
    | (fail_if_no_progress dsimp only)

theorem State.writeCapMgmt_kept {r s : State} (h : Kept r s) (a : Word) : Kept r (State.writeCapMgmt s a) := by
  simp only [State.writeCapMgmt]
  repeat'
    first
    | with_reducible assumption | with_reducible apply State.setReg_kept | with_reducible apply foldl_kept
    | simp only [Kept.upd_iff, Kept.updStart_iff] | intro _ _ _ | intro _ _ | split | (fail_if_no_progress dsimp only)

theorem State.writeCapF0_kept {r s : State} (h : Kept r s) (a : Word) : Kept r (State.writeCapF0 s a) := by
  unfold State.writeCapF0
  have h1 : Kept r (s.when (bitOf a 32) (fun s => s.setB .GOV_CAP_F0 0 0 32 false)) :=
    State.when_kept h _ _ (fun _ h => State.setB_kept h _ _ _ _ _)
  exact Kept.ite (State.setF_kept h1 _ _ _ _ _ _) (State.setB_kept h1 _ _ _ _ _)

theorem State.assess_kept {r s : State} (h : Kept r s) : Kept r (State.assess s) := by
  simp only [State.assess]
  repeat'
    first
    | with_reducible assumption | with_reducible apply State.logErr_kept | with_reducible apply State.raise_kept
    | with_reducible apply State.setB_kept | with_reducible apply State.setReg_kept | with_reducible apply foldl_kept
    | simp only [Kept.upd_iff, Kept.updStart_iff] | intro _ _ _ | intro _ _ | split | (fail_if_no_progress dsimp only)

theorem State.stepPrice_kept {r s : State} (h : Kept r s) : Kept r (State.stepPrice s) := by
  simp only [State.stepPrice]
  repeat'
    first
    | with_reducible assumption | with_reducible apply State.traceDev_kept | with_reducible apply State.when_kept
    | with_reducible apply State.setF_kept | with_reducible apply State.setReg_kept | with_reducible apply foldl_kept
    | simp only [Kept.upd_iff, Kept.updStart_iff] | intro _ _ _ | intro _ _ | split | (fail_if_no_progress dsimp only)

theorem State.priceCommit_kept {r s : State} (h : Kept r s) : Kept r (State.priceCommit s) := by
  simp only [State.priceCommit]
  repeat'
    first
    | with_reducible assumption | with_reducible apply State.setGov_kept | with_reducible apply State.setB_kept | with_reducible apply foldl_kept
    | simp only [Kept.upd_iff, Kept.updStart_iff] | intro _ _ _ | intro _ _ | split | (fail_if_no_progress dsimp only)

theorem State.priceRestore_kept {r s : State} (h : Kept r s) : Kept r (State.priceRestore s) := by
  simp only [State.priceRestore]
  repeat'
    first
    | with_reducible assumption | with_reducible apply State.setGov_kept | with_reducible apply foldl_kept
    | simp only [Kept.upd_iff, Kept.updStart_iff] | intro _ _ _ | intro _ _ | split | (fail_if_no_progress dsimp only)

theorem State.takeTab_kept {r s : State} (h : Kept r s) : Kept r (State.takeTab s) := by
  simp only [State.takeTab]
  repeat'
    first
    | with_reducible assumption | with_reducible apply State.setGov_kept | with_reducible apply State.setB_kept | with_reducible apply foldl_kept
    | simp only [Kept.upd_iff, Kept.updStart_iff] | intro _ _ _ | intro _ _ | split | (fail_if_no_progress dsimp only)

theorem State.vfPoll_kept {r s : State} (h : Kept r s) : Kept r (State.vfPoll s) := by
  simp only [State.vfPoll]
  repeat'
    first
    | with_reducible assumption | with_reducible apply State.setGov_kept | with_reducible apply State.emit_kept | with_reducible apply foldl_kept
    | simp only [Kept.upd_iff, Kept.updStart_iff] | intro _ _ _ | intro _ _ | split | (fail_if_no_progress dsimp only)

theorem State.vfDone_kept {r s : State} (h : Kept r s) (a : Nat) : Kept r (State.vfDone s a) := by
  simp only [State.vfDone]
  repeat'
    first
    | with_reducible assumption | with_reducible apply State.setGov_kept | with_reducible apply State.setF_kept | with_reducible apply foldl_kept
    | simp only [Kept.upd_iff, Kept.updStart_iff] | intro _ _ _ | intro _ _ | split | (fail_if_no_progress dsimp only)

theorem State.slotClockRaise_kept {r s : State} (h : Kept r s) (a : Nat) : Kept r (State.slotClockRaise s a) := by
  simp only [State.slotClockRaise]
  repeat'
    first
    | with_reducible assumption | with_reducible apply State.setGov_kept | with_reducible apply foldl_kept
    | simp only [Kept.upd_iff, Kept.updStart_iff] | intro _ _ _ | intro _ _ | split | (fail_if_no_progress dsimp only)

theorem State.sagPoll_kept {r s : State} (h : Kept r s) : Kept r (State.sagPoll s) := by
  simp only [State.sagPoll]
  repeat'
    first
    | with_reducible assumption | with_reducible apply State.setGov_kept | with_reducible apply State.emits_kept
    | with_reducible apply foldl_kept | simp only [Kept.upd_iff, Kept.updStart_iff] | intro _ _ _ | intro _ _ | split
    | (fail_if_no_progress dsimp only)

theorem State.sagRise_kept {r s : State} (h : Kept r s) (a : Nat) : Kept r (State.sagRise s a) := by
  simp only [State.sagRise]
  repeat'
    first
    | with_reducible assumption | with_reducible apply State.setGov_kept | with_reducible apply State.count_kept
    | with_reducible apply State.bump_kept | with_reducible apply State.setB_kept | with_reducible apply State.emits_kept
    | with_reducible apply foldl_kept | simp only [Kept.upd_iff, Kept.updStart_iff] | intro _ _ _ | intro _ _ | split
    | (fail_if_no_progress dsimp only)

theorem State.sagFall_kept {r s : State} (h : Kept r s) (a : Nat) : Kept r (State.sagFall s a) := by
  simp only [State.sagFall]
  repeat'
    first
    | with_reducible assumption | with_reducible apply State.setGov_kept | with_reducible apply State.setB_kept | with_reducible apply foldl_kept
    | simp only [Kept.upd_iff, Kept.updStart_iff] | intro _ _ _ | intro _ _ | split | (fail_if_no_progress dsimp only)

theorem State.stretchDrop_kept {r s : State} (h : Kept r s) (a : Nat) : Kept r (State.stretchDrop s a) := by
  simp only [State.stretchDrop]
  repeat'
    first
    | with_reducible assumption | with_reducible apply State.setGov_kept | with_reducible apply State.emit_kept | with_reducible apply foldl_kept
    | simp only [Kept.upd_iff, Kept.updStart_iff] | intro _ _ _ | intro _ _ | split | (fail_if_no_progress dsimp only)

theorem State.setCritical_kept {r s : State} (h : Kept r s) (a : Bool) : Kept r (State.setCritical s a) := by
  simp only [State.setCritical]
  repeat'
    first
    | with_reducible assumption | with_reducible apply State.when_kept | with_reducible apply State.bump_kept
    | with_reducible apply State.setB_kept | with_reducible apply State.emits_kept | with_reducible apply foldl_kept
    | simp only [Kept.upd_iff, Kept.updStart_iff] | intro _ _ _ | intro _ _ | split | (fail_if_no_progress dsimp only)

theorem State.sensor_kept {r s : State} (h : Kept r s) (a : Nat) (b : Option Int) : Kept r (State.sensor s a b) := by
  simp only [State.sensor]
  repeat'
    first
    | with_reducible assumption | with_reducible apply State.setGov_kept | with_reducible apply State.logErr_kept
    | with_reducible apply State.raise_kept | with_reducible apply State.when_kept | with_reducible apply State.setB_kept
    | with_reducible apply State.setF_kept | with_reducible apply foldl_kept | simp only [Kept.upd_iff, Kept.updStart_iff] | intro _ _ _
    | intro _ _ | split | (fail_if_no_progress dsimp only)

theorem State.clampStep_kept {r s : State} (h : Kept r s) (a : Int) : Kept r (State.clampStep s a) := by
  simp only [State.clampStep]
  repeat'
    first
    | with_reducible assumption | with_reducible apply State.setGov_kept | with_reducible apply State.setB_kept
    | with_reducible apply State.setF_kept | with_reducible apply foldl_kept | simp only [Kept.upd_iff, Kept.updStart_iff] | intro _ _ _
    | intro _ _ | split | (fail_if_no_progress dsimp only)

theorem State.startEmergency_kept {r s : State} (h : Kept r s) : Kept r (State.startEmergency s) := by
  simp only [State.startEmergency]
  repeat'
    first
    | with_reducible assumption | with_reducible apply State.setGov_kept | with_reducible apply State.logErr_kept
    | with_reducible apply State.raise_kept | with_reducible apply State.bump_kept | with_reducible apply State.setB_kept
    | with_reducible apply State.setF_kept | with_reducible apply foldl_kept | simp only [Kept.upd_iff, Kept.updStart_iff] | intro _ _ _
    | intro _ _ | split | (fail_if_no_progress dsimp only)

theorem State.startCritical_kept {r s : State} (h : Kept r s) : Kept r (State.startCritical s) := by
  simp only [State.startCritical]
  repeat'
    first
    | with_reducible assumption | with_reducible apply State.setCritical_kept | with_reducible apply State.logErr_kept
    | with_reducible apply foldl_kept | simp only [Kept.upd_iff, Kept.updStart_iff] | intro _ _ _ | intro _ _ | split
    | (fail_if_no_progress dsimp only)

theorem State.emergencyStep_kept {r s : State} (h : Kept r s) (a : Int) (b : List (Option Int)) : Kept r (State.emergencyStep s a b) := by
  simp only [State.emergencyStep]
  repeat'
    first
    | with_reducible assumption | with_reducible apply State.startCritical_kept | with_reducible apply State.startEmergency_kept
    | with_reducible apply State.setCritical_kept | with_reducible apply State.setGov_kept | with_reducible apply State.when_kept
    | with_reducible apply State.setB_kept | with_reducible apply State.setF_kept | with_reducible apply foldl_kept
    | simp only [Kept.upd_iff, Kept.updStart_iff] | intro _ _ _ | intro _ _ | split | (fail_if_no_progress dsimp only)

theorem State.evaluate_kept {r s : State} (h : Kept r s) (a : List (Option Int)) : Kept r (State.evaluate s a) := by
  simp only [State.evaluate]
  repeat'
    first
    | with_reducible assumption | with_reducible apply State.emergencyStep_kept | with_reducible apply State.clampStep_kept
    | with_reducible apply State.sensor_kept | with_reducible apply State.setGov_kept | with_reducible apply State.setB_kept
    | with_reducible apply State.setF_kept | with_reducible refine Kept.of_snd (by with_reducible assumption) ?_
    | with_reducible refine Kept.of_fst (by with_reducible assumption) ?_ | with_reducible refine Kept.of_trd (by with_reducible assumption) ?_
    | with_reducible apply foldl_kept | simp only [Kept.upd_iff, Kept.updStart_iff] | with_reducible apply Kept.updFresh
    | with_reducible apply Kept.updOut | intro _ _ _ | intro _ _ | split | (fail_if_no_progress dsimp only)

theorem State.thermal_kept {r s : State} (h : Kept r s) (a : List (Option Int)) : Kept r (State.thermal s a) := by
  simp only [State.thermal]
  repeat'
    first
    | with_reducible assumption | with_reducible apply State.evaluate_kept | with_reducible apply foldl_kept
    | simp only [Kept.upd_iff, Kept.updStart_iff] | intro _ _ _ | intro _ _ | split | (fail_if_no_progress dsimp only)

theorem State.predict20_kept {r s : State} (h : Kept r s) : Kept r (State.predict20 s) := by
  simp only [State.predict20]
  repeat'
    first
    | with_reducible assumption | with_reducible apply State.setF_kept | with_reducible apply foldl_kept
    | simp only [Kept.upd_iff, Kept.updStart_iff] | intro _ _ _ | intro _ _ | split | (fail_if_no_progress dsimp only)

theorem State.priceUpdate_kept {r s : State} (h : Kept r s) : Kept r (State.priceUpdate s) := by
  simp only [State.priceUpdate]
  repeat'
    first
    | with_reducible assumption | with_reducible apply State.predict20_kept | with_reducible apply State.takeTab_kept
    | with_reducible apply State.stepPrice_kept | with_reducible apply State.assess_kept | with_reducible apply State.closeBucket_kept
    | with_reducible apply State.setF_kept | with_reducible apply foldl_kept | simp only [Kept.upd_iff, Kept.updStart_iff] | intro _ _ _
    | intro _ _ | split | (fail_if_no_progress dsimp only)

theorem State.writeTlimit_kept {r s : State} (h : Kept r s) (a : Bool) (b : Word) : Kept r (State.writeTlimit s a b) := by
  simp only [State.writeTlimit]
  repeat'
    first
    | with_reducible assumption | with_reducible apply State.setF_kept | with_reducible apply foldl_kept
    | simp only [Kept.upd_iff, Kept.updStart_iff] | intro _ _ _ | intro _ _ | split | (fail_if_no_progress dsimp only)

theorem State.writeSag_kept {r s : State} (h : Kept r s) (a : Word) : Kept r (State.writeSag s a) := by
  simp only [State.writeSag]
  repeat'
    first
    | with_reducible assumption | with_reducible apply State.setB_kept | with_reducible apply State.setF_kept | with_reducible apply foldl_kept
    | simp only [Kept.upd_iff, Kept.updStart_iff] | intro _ _ _ | intro _ _ | split | (fail_if_no_progress dsimp only)

theorem State.writeProfile_kept {r s : State} (h : Kept r s) (a : Bool) (b : Word) : Kept r (State.writeProfile s a b) := by
  simp only [State.writeProfile]
  repeat'
    first
    | with_reducible assumption | with_reducible apply State.setB_kept | with_reducible apply State.setF_kept | with_reducible apply foldl_kept
    | simp only [Kept.upd_iff, Kept.updStart_iff] | intro _ _ _ | intro _ _ | split | (fail_if_no_progress dsimp only)

theorem State.learnClear_kept {r s : State} (h : Kept r s) : Kept r (State.learnClear s) := by
  simp only [State.learnClear]
  repeat'
    first
    | with_reducible assumption | with_reducible apply State.setGov_kept | with_reducible apply foldl_kept
    | simp only [Kept.upd_iff, Kept.updStart_iff] | intro _ _ _ | intro _ _ | split | (fail_if_no_progress dsimp only)

theorem State.idleStart_kept {r s : State} (h : Kept r s) : Kept r (State.idleStart s) := by
  simp only [State.idleStart]
  repeat'
    first
    | with_reducible assumption | with_reducible apply State.setF_kept | with_reducible refine Kept.of_snd (by with_reducible assumption) ?_
    | with_reducible refine Kept.of_fst (by with_reducible assumption) ?_ | with_reducible refine Kept.of_trd (by with_reducible assumption) ?_
    | with_reducible apply foldl_kept | simp only [Kept.upd_iff, Kept.updStart_iff] | with_reducible apply Kept.updFresh
    | with_reducible apply Kept.updOut | intro _ _ _ | intro _ _ | split | (fail_if_no_progress dsimp only)

theorem State.rungEntered_kept {r s : State} (h : Kept r s) : Kept r (State.rungEntered s) := by
  simp only [State.rungEntered]
  repeat'
    first
    | with_reducible assumption | with_reducible apply State.setGov_kept | with_reducible apply State.dropHints_kept
    | with_reducible apply State.discard_kept | with_reducible apply State.rungRec_kept | with_reducible apply State.when_kept
    | with_reducible apply State.setF_kept | with_reducible apply State.emit_kept | with_reducible apply foldl_kept
    | simp only [Kept.upd_iff, Kept.updStart_iff] | intro _ _ _ | intro _ _ | split | (fail_if_no_progress dsimp only)

theorem State.ladderExit_kept {r s : State} (h : Kept r s) : Kept r (State.ladderExit s) := by
  simp only [State.ladderExit]
  repeat'
    first
    | with_reducible assumption | with_reducible apply State.wake_kept | with_reducible apply foldl_kept
    | simp only [Kept.upd_iff, Kept.updStart_iff] | intro _ _ _ | intro _ _ | split | (fail_if_no_progress dsimp only)

theorem State.setVfCount_kept {r s : State} (h : Kept r s) (a : Nat) : Kept r (State.setVfCount s a) := by
  simp only [State.setVfCount]
  repeat'
    first
    | with_reducible assumption | with_reducible apply State.startFlr_kept | with_reducible apply State.setF_kept
    | with_reducible apply foldl_kept | simp only [Kept.upd_iff, Kept.updStart_iff] | intro _ _ _ | intro _ _ | split
    | (fail_if_no_progress dsimp only)

theorem State.writeFnCfg_kept {r s : State} (h : Kept r s) (a : Bool) (b : Nat) (c : Word) : Kept r (State.writeFnCfg s a b c) := by
  simp only [State.writeFnCfg]
  repeat'
    first
    | with_reducible assumption | with_reducible apply State.startFlr_kept | with_reducible apply State.when_kept
    | with_reducible apply State.setB_kept | with_reducible apply State.setF_kept | with_reducible apply foldl_kept
    | simp only [Kept.upd_iff, Kept.updStart_iff] | intro _ _ _ | intro _ _ | split | (fail_if_no_progress dsimp only)

theorem State.setMoving_kept {r s : State} (h : Kept r s) (a : PartReq) (b : Bool) : Kept r (State.setMoving s a b) := by
  simp only [State.setMoving]
  repeat'
    first
    | with_reducible assumption | with_reducible apply State.setB_kept | with_reducible apply foldl_kept
    | simp only [Kept.upd_iff, Kept.updStart_iff] | intro _ _ _ | intro _ _ | split | (fail_if_no_progress dsimp only)

theorem State.endReq_kept {r s : State} (h : Kept r s) (a : PartReq) (b : Nat) : Kept r (State.endReq s a b) := by
  simp only [State.endReq]
  repeat'
    first
    | with_reducible assumption | with_reducible apply State.setMoving_kept | with_reducible apply State.raise_kept
    | with_reducible apply State.setReg_kept | with_reducible apply foldl_kept | simp only [Kept.upd_iff, Kept.updStart_iff] | intro _ _ _
    | intro _ _ | split | (fail_if_no_progress dsimp only)

theorem State.layoutOf_kept {r s : State} (h : Kept r s) (a : Option Nat) (b : Bool) : Kept r (State.layoutOf s a b) := by
  simp only [State.layoutOf]
  repeat'
    first
    | with_reducible assumption | with_reducible apply State.layoutChanged_kept | with_reducible apply foldl_kept
    | simp only [Kept.upd_iff, Kept.updStart_iff] | intro _ _ _ | intro _ _ | split | (fail_if_no_progress dsimp only)

theorem State.own_kept {r s : State} (h : Kept r s) (a : Nat) (b : Option Nat) (c : Nat) (d : Bool) : Kept r (State.own s a b c d) := by
  simp only [State.own]
  repeat'
    first
    | with_reducible assumption | with_reducible apply State.joinIlv_kept | with_reducible apply State.setIlv_kept
    | with_reducible apply State.setF_kept | with_reducible apply foldl_kept | simp only [Kept.upd_iff, Kept.updStart_iff] | intro _ _ _
    | intro _ _ | split | (fail_if_no_progress dsimp only)

theorem State.finishMove_kept {r s : State} (h : Kept r s) (a : PartReq) : Kept r (State.finishMove s a) := by
  simp only [State.finishMove]
  repeat'
    first
    | with_reducible assumption | with_reducible apply State.own_kept | with_reducible apply State.layoutOf_kept
    | with_reducible apply State.endReq_kept | with_reducible apply State.when_kept | with_reducible apply State.setB_kept
    | with_reducible apply foldl_kept | simp only [Kept.upd_iff, Kept.updStart_iff] | intro _ _ _ | intro _ _ | split
    | (fail_if_no_progress dsimp only)

theorem State.partMove_kept {r s : State} (h : Kept r s) (a : Nat) (b : Nat) (c : Nat) (d : Nat) : Kept r (State.partMove s a b c d) := by
  simp only [State.partMove]
  repeat'
    first
    | with_reducible assumption | with_reducible apply State.setF_kept | with_reducible apply State.setReg_kept
    | with_reducible apply State.setMoving_kept | with_reducible apply State.updTask_kept | with_reducible apply State.updCore_kept
    | with_reducible apply State.discard_kept | with_reducible apply State.dropDue_kept | with_reducible apply State.returnRank_kept
    | with_reducible apply State.emit_kept | with_reducible apply State.writeBack_kept | with_reducible apply State.scrubWays_kept
    | with_reducible apply State.finishMove_kept | with_reducible refine Kept.of_snd (by with_reducible assumption) ?_
    | with_reducible refine Kept.of_fst (by with_reducible assumption) ?_ | with_reducible refine Kept.of_trd (by with_reducible assumption) ?_
    | with_reducible apply foldl_kept | simp only [Kept.upd_iff, Kept.updStart_iff] | intro _ _ _ | intro _ _ | split
    | (fail_if_no_progress dsimp only)

theorem State.wayClean_kept {r s : State} (h : Kept r s) : Kept r (State.wayClean s) := by
  simp only [State.wayClean]
  repeat'
    first
    | with_reducible assumption | with_reducible apply State.scrubWays_kept | with_reducible refine Kept.of_snd (by with_reducible assumption) ?_
    | with_reducible refine Kept.of_fst (by with_reducible assumption) ?_ | with_reducible refine Kept.of_trd (by with_reducible assumption) ?_
    | with_reducible apply foldl_kept | simp only [Kept.upd_iff, Kept.updStart_iff] | intro _ _ _ | intro _ _ | split
    | (fail_if_no_progress dsimp only)

theorem State.noCoresLeft_kept {r s : State} (h : Kept r s) (a : Nat) : Kept r (State.noCoresLeft s a) := by
  simp only [State.noCoresLeft]
  repeat'
    first
    | with_reducible assumption | with_reducible apply State.taskGone_kept | with_reducible apply State.endEarlyAt_kept
    | with_reducible apply State.endEarly_kept | with_reducible apply State.discard_kept | with_reducible apply foldl_kept
    | simp only [Kept.upd_iff, Kept.updStart_iff] | intro _ _ _ | intro _ _ | split | (fail_if_no_progress dsimp only)

theorem State.movePoll_kept {r s : State} (h : Kept r s) : Kept r (State.movePoll s) := by
  simp only [State.movePoll]
  repeat'
    first
    | with_reducible assumption | with_reducible apply State.updCore_kept | with_reducible apply State.emit_kept
    | with_reducible apply foldl_kept | simp only [Kept.upd_iff, Kept.updStart_iff] | intro _ _ _ | intro _ _ | split
    | (fail_if_no_progress dsimp only)

theorem State.coreMoved_kept {r s : State} (h : Kept r s) (a : PartReq) (b : Nat) : Kept r (State.coreMoved s a b) := by
  simp only [State.coreMoved]
  repeat'
    first
    | with_reducible assumption | with_reducible apply State.noCoresLeft_kept | with_reducible apply State.own_kept
    | with_reducible apply State.layoutOf_kept | with_reducible apply State.endReq_kept | with_reducible apply State.updCore_kept
    | with_reducible apply State.when_kept | with_reducible apply State.setB_kept | with_reducible apply foldl_kept
    | simp only [Kept.upd_iff, Kept.updStart_iff] | intro _ _ _ | intro _ _ | split | (fail_if_no_progress dsimp only)

theorem State.startRemoval_kept {r s : State} (h : Kept r s) (a : Nat) : Kept r (State.startRemoval s a) := by
  simp only [State.startRemoval]
  repeat'
    first
    | with_reducible assumption | with_reducible apply State.setMoving_kept | with_reducible apply State.startWide_kept
    | with_reducible apply State.setB_kept | with_reducible apply State.setReg_kept | with_reducible apply foldl_kept
    | simp only [Kept.upd_iff, Kept.updStart_iff] | intro _ _ _ | intro _ _ | split | (fail_if_no_progress dsimp only)

theorem State.tenantRemoval_kept {r s : State} (h : Kept r s) (a : Nat) (b : Nat) : Kept r (State.tenantRemoval s a b) := by
  simp only [State.tenantRemoval]
  repeat'
    first
    | with_reducible assumption | with_reducible apply State.setF_kept | with_reducible apply State.setReg_kept
    | with_reducible apply State.startRemoval_kept | with_reducible refine Kept.of_snd (by with_reducible assumption) ?_
    | with_reducible refine Kept.of_fst (by with_reducible assumption) ?_ | with_reducible refine Kept.of_trd (by with_reducible assumption) ?_
    | with_reducible apply foldl_kept | simp only [Kept.upd_iff, Kept.updStart_iff] | intro _ _ _ | intro _ _ | split
    | (fail_if_no_progress dsimp only)

theorem State.removalStep_kept {r s : State} (h : Kept r s) (a : Td) : Kept r (State.removalStep s a) := by
  simp only [State.removalStep]
  repeat'
    first
    | with_reducible assumption | with_reducible apply State.emits_kept | with_reducible apply State.writeBack_kept
    | with_reducible apply State.updTd_kept | with_reducible apply State.emit_kept
    | with_reducible refine Kept.of_snd (by with_reducible assumption) ?_ | with_reducible refine Kept.of_fst (by with_reducible assumption) ?_
    | with_reducible refine Kept.of_trd (by with_reducible assumption) ?_ | with_reducible apply foldl_kept
    | simp only [Kept.upd_iff, Kept.updStart_iff] | intro _ _ _ | intro _ _ | split | (fail_if_no_progress dsimp only)

theorem State.removalKeys_kept {r s : State} (h : Kept r s) (a : Nat) : Kept r (State.removalKeys s a) := by
  simp only [State.removalKeys]
  repeat'
    first
    | with_reducible assumption | with_reducible apply State.revokeBlobs_kept | with_reducible apply State.setB_kept
    | with_reducible apply State.when_kept | with_reducible apply State.rekeyTenant_kept | with_reducible apply State.zeroSlot_kept
    | with_reducible refine Kept.of_snd (by with_reducible assumption) ?_ | with_reducible refine Kept.of_fst (by with_reducible assumption) ?_
    | with_reducible refine Kept.of_trd (by with_reducible assumption) ?_ | with_reducible apply foldl_kept
    | simp only [Kept.upd_iff, Kept.updStart_iff] | intro _ _ _ | intro _ _ | split | (fail_if_no_progress dsimp only)

theorem State.removalFree_kept {r s : State} (h : Kept r s) (a : Nat) : Kept r (State.removalFree s a) := by
  simp only [State.removalFree]
  repeat'
    first
    | with_reducible assumption | with_reducible apply State.unbindEvent_kept | with_reducible apply State.removalKeys_kept
    | with_reducible apply State.setB_kept | with_reducible apply State.setSem_kept | with_reducible apply State.endEarly_kept
    | with_reducible apply State.send_kept | with_reducible apply State.updCore_kept | with_reducible apply State.emit_kept
    | with_reducible apply State.when_kept | with_reducible apply State.updTd_kept
    | with_reducible refine Kept.of_snd (by with_reducible assumption) ?_ | with_reducible refine Kept.of_fst (by with_reducible assumption) ?_
    | with_reducible refine Kept.of_trd (by with_reducible assumption) ?_ | with_reducible apply foldl_kept
    | simp only [Kept.upd_iff, Kept.updStart_iff] | intro _ _ _ | intro _ _ | split | (fail_if_no_progress dsimp only)

theorem State.removalEnd_kept {r s : State} (h : Kept r s) (a : Nat) : Kept r (State.removalEnd s a) := by
  simp only [State.removalEnd]
  repeat'
    first
    | with_reducible assumption | with_reducible apply State.removalDrop_kept | with_reducible apply State.endTd_kept
    | with_reducible apply State.setReg_kept | with_reducible apply State.raise_kept
    | with_reducible refine Kept.of_snd (by with_reducible assumption) ?_ | with_reducible refine Kept.of_fst (by with_reducible assumption) ?_
    | with_reducible refine Kept.of_trd (by with_reducible assumption) ?_ | with_reducible apply foldl_kept
    | simp only [Kept.upd_iff, Kept.updStart_iff] | intro _ _ _ | intro _ _ | split | (fail_if_no_progress dsimp only)

theorem State.coreScrubbed_kept {r s : State} (h : Kept r s) (a : Nat) : Kept r (State.coreScrubbed s a) := by
  simp only [State.coreScrubbed]
  repeat'
    first
    | with_reducible assumption | with_reducible apply State.coreMoved_kept | with_reducible apply State.updTd_kept
    | with_reducible apply State.updCore_kept | with_reducible apply foldl_kept | simp only [Kept.upd_iff, Kept.updStart_iff] | intro _ _ _
    | intro _ _ | split | (fail_if_no_progress dsimp only)

theorem State.askCipher_kept {r s : State} (h : Kept r s) (a : TdKind) (b : Nat) (c : String) : Kept r (State.askCipher s a b c) := by
  simp only [State.askCipher]
  repeat'
    first
    | with_reducible assumption | with_reducible apply State.updTd_kept | with_reducible apply State.emit_kept | with_reducible apply foldl_kept
    | simp only [Kept.upd_iff, Kept.updStart_iff] | intro _ _ _ | intro _ _ | split | (fail_if_no_progress dsimp only)

theorem State.cipherAck_kept {r s : State} (h : Kept r s) (a : TdKind) (b : Nat) : Kept r (State.cipherAck s a b) := by
  simp only [State.cipherAck]
  repeat'
    first
    | with_reducible assumption | with_reducible apply State.updTd_kept | with_reducible apply foldl_kept
    | simp only [Kept.upd_iff, Kept.updStart_iff] | intro _ _ _ | intro _ _ | split | (fail_if_no_progress dsimp only)

theorem State.tdOne_kept {r s : State} (h : Kept r s) (a : TdKind) (b : Nat) : Kept r (State.tdOne s a b) := by
  simp only [State.tdOne]
  repeat'
    first
    | with_reducible assumption | with_reducible apply State.finishDestroy_kept | with_reducible apply State.updTd_kept
    | with_reducible apply State.squashScope_kept | with_reducible apply State.askCipher_kept | with_reducible apply State.when_kept
    | with_reducible apply State.finishAutotomy_kept | with_reducible apply State.finishHalted_kept | with_reducible apply State.removalStep_kept
    | with_reducible apply State.removalEnd_kept | with_reducible apply State.emit_kept | with_reducible apply State.writeBack_kept
    | with_reducible refine Kept.of_snd (by with_reducible assumption) ?_ | with_reducible refine Kept.of_fst (by with_reducible assumption) ?_
    | with_reducible refine Kept.of_trd (by with_reducible assumption) ?_ | with_reducible apply foldl_kept
    | simp only [Kept.upd_iff, Kept.updStart_iff] | intro _ _ _ | intro _ _ | split | (fail_if_no_progress dsimp only)

theorem State.tdPoll_kept {r s : State} (h : Kept r s) : Kept r (State.tdPoll s) := by
  simp only [State.tdPoll]
  repeat'
    first
    | with_reducible assumption | with_reducible apply State.tdOne_kept | with_reducible apply State.startRemoval_kept
    | with_reducible apply foldl_kept | simp only [Kept.upd_iff, Kept.updStart_iff] | intro _ _ _ | intro _ _ | split
    | (fail_if_no_progress dsimp only)

theorem State.waysScrubbed_kept {r s : State} (h : Kept r s) (a : Nat) : Kept r (State.waysScrubbed s a) := by
  simp only [State.waysScrubbed]
  repeat'
    first
    | with_reducible assumption | with_reducible apply State.updTd_kept | with_reducible apply State.finishMove_kept
    | with_reducible refine Kept.of_snd (by with_reducible assumption) ?_ | with_reducible refine Kept.of_fst (by with_reducible assumption) ?_
    | with_reducible refine Kept.of_trd (by with_reducible assumption) ?_ | with_reducible apply foldl_kept
    | simp only [Kept.upd_iff, Kept.updStart_iff] | intro _ _ _ | intro _ _ | split | (fail_if_no_progress dsimp only)

theorem State.flushDone_kept {r s : State} (h : Kept r s) (a : CipherScope) (b : Nat) : Kept r (State.flushDone s a b) := by
  simp only [State.flushDone]
  repeat'
    first
    | with_reducible assumption | with_reducible apply State.cipherAck_kept | with_reducible apply State.waysScrubbed_kept
    | with_reducible apply State.removalFree_kept | with_reducible apply State.freeFn_kept | with_reducible apply State.when_kept
    | with_reducible apply State.raise_kept | with_reducible apply State.emit_kept | with_reducible apply State.updTd_kept
    | with_reducible apply State.finishHostLoss_kept | with_reducible apply State.finishFlr_kept
    | with_reducible refine Kept.of_snd (by with_reducible assumption) ?_ | with_reducible refine Kept.of_fst (by with_reducible assumption) ?_
    | with_reducible refine Kept.of_trd (by with_reducible assumption) ?_ | with_reducible apply foldl_kept
    | simp only [Kept.upd_iff, Kept.updStart_iff] | intro _ _ _ | intro _ _ | split | (fail_if_no_progress dsimp only)

theorem State.drainExpire_kept {r s : State} (h : Kept r s) (a : TdKind) (b : Nat) (c : Nat) : Kept r (State.drainExpire s a b c) := by
  simp only [State.drainExpire]
  repeat'
    first
    | with_reducible assumption | with_reducible apply State.squashScope_kept | with_reducible apply State.updTd_kept
    | with_reducible apply State.send_kept | with_reducible apply foldl_kept | simp only [Kept.upd_iff, Kept.updStart_iff] | intro _ _ _
    | intro _ _ | split | (fail_if_no_progress dsimp only)

theorem State.announced_kept {r s : State} (h : Kept r s) (a : Nat) (b : Nat) : Kept r (State.announced s a b) := by
  simp only [State.announced]
  repeat'
    first
    | with_reducible assumption | with_reducible apply State.setSec_kept | with_reducible apply State.when_kept
    | with_reducible apply State.setB_kept | with_reducible apply State.setF_kept
    | with_reducible refine Kept.of_snd (by with_reducible assumption) ?_ | with_reducible refine Kept.of_fst (by with_reducible assumption) ?_
    | with_reducible refine Kept.of_trd (by with_reducible assumption) ?_ | with_reducible apply foldl_kept
    | simp only [Kept.upd_iff, Kept.updStart_iff] | intro _ _ _ | intro _ _ | split | (fail_if_no_progress dsimp only)

theorem State.keyPoll_kept {r s : State} (h : Kept r s) : Kept r (State.keyPoll s) := by
  simp only [State.keyPoll]
  repeat'
    first
    | with_reducible assumption | with_reducible apply State.setSec_kept | with_reducible apply State.announced_kept
    | with_reducible apply State.broadcast_kept | with_reducible refine Kept.of_snd (by with_reducible assumption) ?_
    | with_reducible refine Kept.of_fst (by with_reducible assumption) ?_ | with_reducible refine Kept.of_trd (by with_reducible assumption) ?_
    | with_reducible apply foldl_kept | simp only [Kept.upd_iff, Kept.updStart_iff] | intro _ _ _ | intro _ _ | split
    | (fail_if_no_progress dsimp only)

theorem State.polls_kept {r s : State} (h : Kept r s) : Kept r (State.polls s) := by
  simp only [State.polls]
  repeat'
    first
    | with_reducible assumption | with_reducible apply State.freezePoll_kept | with_reducible apply State.cycPoll_kept
    | with_reducible apply State.rankPoll_kept | with_reducible apply State.grainPoll_kept | with_reducible apply State.gatherPoll_kept
    | with_reducible apply State.splitPoll_kept | with_reducible apply State.mqKick_kept | with_reducible apply State.bgPoll_kept
    | with_reducible apply State.linkYields_kept | with_reducible apply State.linkSquashes_kept | with_reducible apply State.reRouteXfers_kept
    | with_reducible apply State.leavePoll_kept | with_reducible apply State.tdPoll_kept | with_reducible apply State.movePoll_kept
    | with_reducible apply State.vfPoll_kept | with_reducible apply State.sagPoll_kept | with_reducible apply State.waitPoll_kept
    | with_reducible apply State.outboxPoll_kept | with_reducible apply State.keyPoll_kept | with_reducible apply State.when_kept
    | with_reducible apply State.setB_kept | with_reducible refine Kept.of_snd (by with_reducible assumption) ?_
    | with_reducible refine Kept.of_fst (by with_reducible assumption) ?_ | with_reducible refine Kept.of_trd (by with_reducible assumption) ?_
    | with_reducible apply foldl_kept | simp only [Kept.upd_iff, Kept.updStart_iff] | intro _ _ _ | intro _ _ | split
    | (fail_if_no_progress dsimp only)

theorem State.watchWrite_kept {r s : State} (h : Kept r s) (a : Watch) (b : Nat) (c : List Byte) : Kept r (State.watchWrite s a b c) := by
  simp only [State.watchWrite]
  with_reducible apply State.bump_kept
  with_reducible apply State.writeMem_kept
  exact ⟨h.pending, h.fuses, h.out, by have := h.fresh; simp only; omega⟩

theorem State.watchResult_kept {r s : State} (h : Kept r s) (a : Nat) (b : Option Nat) (c : Option (List Byte)) : Kept r (State.watchResult s a b
    c) := by
  simp only [State.watchResult]
  repeat'
    first
    | with_reducible assumption | with_reducible apply State.updFlight_kept | with_reducible apply State.watchRefused_kept
    | with_reducible apply State.guilty_kept | with_reducible apply State.watchWrite_kept | with_reducible apply State.unpark_kept
    | with_reducible apply State.guiltyTask_kept | with_reducible apply State.updTask_kept | with_reducible apply State.commandComplete_kept
    | with_reducible refine Kept.of_snd (by with_reducible assumption) ?_ | with_reducible refine Kept.of_fst (by with_reducible assumption) ?_
    | with_reducible refine Kept.of_trd (by with_reducible assumption) ?_ | with_reducible apply foldl_kept
    | simp only [Kept.upd_iff, Kept.updStart_iff] | intro _ _ _ | intro _ _ | split | (fail_if_no_progress dsimp only)

theorem State.installFt_kept {r s : State} (h : Kept r s) (a : Nat) (b : Nat) (c : BitVec 256) : Kept r (State.installFt s a b c) := by
  simp only [State.installFt]
  repeat'
    first
    | with_reducible assumption | with_reducible apply State.when_kept | with_reducible apply State.setSec_kept
    | with_reducible apply State.setReg_kept | with_reducible apply State.putKey_kept
    | with_reducible refine Kept.of_snd (by with_reducible assumption) ?_ | with_reducible refine Kept.of_fst (by with_reducible assumption) ?_
    | with_reducible refine Kept.of_trd (by with_reducible assumption) ?_ | with_reducible apply foldl_kept
    | simp only [Kept.upd_iff, Kept.updStart_iff] | intro _ _ _ | intro _ _ | split | (fail_if_no_progress dsimp only)

theorem State.tenantKey_kept {r s : State} (h : Kept r s) (a : Nat) : Kept r (State.tenantKey s a) := by
  simp only [State.tenantKey]
  repeat'
    first
    | with_reducible assumption | with_reducible apply State.genKey_kept | with_reducible apply State.installFt_kept
    | with_reducible apply State.setSec_kept | with_reducible apply State.send_kept
    | with_reducible refine Kept.of_snd (by with_reducible assumption) ?_ | with_reducible refine Kept.of_fst (by with_reducible assumption) ?_
    | with_reducible refine Kept.of_trd (by with_reducible assumption) ?_ | with_reducible apply foldl_kept
    | simp only [Kept.upd_iff, Kept.updStart_iff] | intro _ _ _ | intro _ _ | split | (fail_if_no_progress dsimp only)

theorem State.newWrap_kept {r s : State} (h : Kept r s) (a : SpdmPeer) : Kept r (State.newWrap s a).1 := by
  simp only [State.newWrap]
  repeat'
    first
    | with_reducible assumption | with_reducible apply State.genKey_kept | with_reducible apply State.setSec_kept
    | with_reducible refine Kept.of_snd (by with_reducible assumption) ?_ | with_reducible refine Kept.of_fst (by with_reducible assumption) ?_
    | with_reducible refine Kept.of_trd (by with_reducible assumption) ?_ | with_reducible apply foldl_kept
    | simp only [Kept.upd_iff, Kept.updStart_iff] | intro _ _ _ | intro _ _ | split | (fail_if_no_progress dsimp only)

theorem State.keygenDone_kept {r s : State} (h : Kept r s) : Kept r (State.keygenDone s) := by
  simp only [State.keygenDone]
  repeat'
    first
    | with_reducible assumption | with_reducible apply State.setSec_kept | with_reducible apply State.setReg_kept
    | with_reducible apply State.newKey_kept | with_reducible apply State.finishMove_kept | with_reducible apply State.tenantKey_kept
    | with_reducible apply State.newWrap_kept | with_reducible refine Kept.of_snd (by with_reducible assumption) ?_
    | with_reducible refine Kept.of_fst (by with_reducible assumption) ?_ | with_reducible refine Kept.of_trd (by with_reducible assumption) ?_
    | with_reducible apply foldl_kept | simp only [Kept.upd_iff, Kept.updStart_iff] | intro _ _ _ | intro _ _ | split
    | (fail_if_no_progress dsimp only)

theorem State.healthFail_kept {r s : State} (h : Kept r s) : Kept r (State.healthFail s) := by
  simp only [State.healthFail]
  repeat'
    first
    | with_reducible assumption | with_reducible apply State.securityRec_kept | with_reducible apply State.setB_kept
    | with_reducible apply State.setF_kept | with_reducible apply foldl_kept | simp only [Kept.upd_iff, Kept.updStart_iff] | intro _ _ _
    | intro _ _ | split | (fail_if_no_progress dsimp only)

theorem State.startKex_kept {r s : State} (h : Kept r s) (a : Nat) : Kept r (State.startKex s a) := by
  simp only [State.startKex]
  repeat'
    first
    | with_reducible assumption | with_reducible apply State.setTml_kept | with_reducible apply State.newEph_kept
    | with_reducible apply State.send_kept | with_reducible refine Kept.of_snd (by with_reducible assumption) ?_
    | with_reducible refine Kept.of_fst (by with_reducible assumption) ?_ | with_reducible refine Kept.of_trd (by with_reducible assumption) ?_
    | with_reducible apply foldl_kept | simp only [Kept.upd_iff, Kept.updStart_iff] | intro _ _ _ | intro _ _ | split
    | (fail_if_no_progress dsimp only)

theorem State.nodeHello_kept {r s : State} (h : Kept r s) (a : Nat) : Kept r (State.nodeHello s a) := by
  simp only [State.nodeHello]
  repeat'
    first
    | with_reducible assumption | with_reducible apply State.nodeProof_kept | with_reducible apply State.startKex_kept
    | with_reducible apply State.setTml_kept | with_reducible refine Kept.of_snd (by with_reducible assumption) ?_
    | with_reducible refine Kept.of_fst (by with_reducible assumption) ?_ | with_reducible refine Kept.of_trd (by with_reducible assumption) ?_
    | with_reducible apply foldl_kept | simp only [Kept.upd_iff, Kept.updStart_iff] | intro _ _ _ | intro _ _ | split
    | (fail_if_no_progress dsimp only)

theorem State.resumeKex_kept {r s : State} (h : Kept r s) : Kept r (State.resumeKex s) := by
  simp only [State.resumeKex]
  repeat'
    first
    | with_reducible assumption | with_reducible apply State.nodeHello_kept | with_reducible apply State.sayHello_kept
    | with_reducible apply State.sayProof_kept | with_reducible apply State.setTml_kept
    | with_reducible refine Kept.of_snd (by with_reducible assumption) ?_ | with_reducible refine Kept.of_fst (by with_reducible assumption) ?_
    | with_reducible refine Kept.of_trd (by with_reducible assumption) ?_ | with_reducible apply foldl_kept
    | simp only [Kept.upd_iff, Kept.updStart_iff] | intro _ _ _ | intro _ _ | split | (fail_if_no_progress dsimp only)

theorem State.entropyRetry_kept {r s : State} (h : Kept r s) (a : Bool) : Kept r (State.entropyRetry s a) := by
  simp only [State.entropyRetry]
  repeat'
    first
    | with_reducible assumption | with_reducible apply State.setF_kept | with_reducible apply State.setB_kept
    | with_reducible apply State.resumeKex_kept | with_reducible refine Kept.of_snd (by with_reducible assumption) ?_
    | with_reducible refine Kept.of_fst (by with_reducible assumption) ?_ | with_reducible refine Kept.of_trd (by with_reducible assumption) ?_
    | with_reducible apply foldl_kept | simp only [Kept.upd_iff, Kept.updStart_iff] | intro _ _ _ | intro _ _ | split
    | (fail_if_no_progress dsimp only)

theorem State.pageRelease_kept {r s : State} (h : Kept r s) (a : Nat) (b : Nat) (c : Nat) : Kept r (State.pageRelease s a b c) := by
  simp only [State.pageRelease]
  repeat'
    first
    | with_reducible assumption | with_reducible apply State.setB_kept | with_reducible apply State.setSec_kept
    | with_reducible apply State.emit_kept | with_reducible refine Kept.of_snd (by with_reducible assumption) ?_
    | with_reducible refine Kept.of_fst (by with_reducible assumption) ?_ | with_reducible refine Kept.of_trd (by with_reducible assumption) ?_
    | with_reducible apply foldl_kept | simp only [Kept.upd_iff, Kept.updStart_iff] | intro _ _ _ | intro _ _ | split
    | (fail_if_no_progress dsimp only)

theorem State.pageReleased_kept {r s : State} (h : Kept r s) (a : Nat) : Kept r (State.pageReleased s a) := by
  simp only [State.pageReleased]
  repeat'
    first
    | with_reducible assumption | with_reducible apply State.setSec_kept | with_reducible apply State.setB_kept
    | with_reducible apply State.freePages_kept | with_reducible apply State.joinIlv_kept
    | with_reducible refine Kept.of_snd (by with_reducible assumption) ?_ | with_reducible refine Kept.of_fst (by with_reducible assumption) ?_
    | with_reducible refine Kept.of_trd (by with_reducible assumption) ?_ | with_reducible apply foldl_kept
    | simp only [Kept.upd_iff, Kept.updStart_iff] | intro _ _ _ | intro _ _ | split | (fail_if_no_progress dsimp only)

theorem State.mboxGo_kept {r s : State} (h : Kept r s) (a : Nat) (b : Nat) : Kept r (State.mboxGo s a b) := by
  simp only [State.mboxGo]
  repeat'
    first
    | with_reducible assumption | with_reducible apply State.setSec_kept | with_reducible apply State.readMem_kept
    | with_reducible apply State.setB_kept | with_reducible apply State.setF_kept | with_reducible apply foldl_kept
    | simp only [Kept.upd_iff, Kept.updStart_iff] | intro _ _ _ | intro _ _ | split | (fail_if_no_progress dsimp only)

theorem State.mboxResponse_kept {r s : State} (h : Kept r s) (a : Nat) (b : Nat) (c : Bool) : Kept r (State.mboxResponse s a b c) := by
  simp only [State.mboxResponse]
  repeat'
    first
    | with_reducible assumption | with_reducible apply State.noteRefused_kept | with_reducible apply State.mboxErr_kept
    | with_reducible apply State.dropReads_kept | with_reducible apply State.setSec_kept | with_reducible apply State.spdmWords_kept
    | with_reducible apply State.writeMem_kept | with_reducible apply State.emit_kept | with_reducible apply State.setF_kept
    | with_reducible apply State.setB_kept | with_reducible apply State.fnEvent_kept
    | with_reducible refine Kept.of_snd (by with_reducible assumption) ?_ | with_reducible refine Kept.of_fst (by with_reducible assumption) ?_
    | with_reducible refine Kept.of_trd (by with_reducible assumption) ?_ | with_reducible apply foldl_kept
    | simp only [Kept.upd_iff, Kept.updStart_iff] | intro _ _ _ | intro _ _ | split | (fail_if_no_progress dsimp only)

theorem State.answer_kept {r s : State} (h : Kept r s) (a : SpdmPeer) (b : State → State × SpdmAns) (hb : ∀ x0, Kept r x0 → Kept r (b x0).1) :
    Kept r (State.answer s a b) := by
  simp only [State.answer]
  repeat'
    first
    | with_reducible assumption | with_reducible apply State.emit_kept | with_reducible apply State.setSec_kept | with_reducible apply hb
    | with_reducible refine Kept.of_snd (by with_reducible assumption) ?_ | with_reducible refine Kept.of_fst (by with_reducible assumption) ?_
    | with_reducible refine Kept.of_trd (by with_reducible assumption) ?_ | with_reducible apply foldl_kept
    | simp only [Kept.upd_iff, Kept.updStart_iff] | intro _ _ _ | intro _ _ | split | (fail_if_no_progress dsimp only)

theorem State.updSession_kept {r s : State} (h : Kept r s) (a : SpdmPeer) (b : Session → Session) : Kept r (State.updSession s a b) := by
  simp only [State.updSession]
  repeat'
    first
    | with_reducible assumption | with_reducible apply State.setSec_kept | with_reducible apply foldl_kept
    | simp only [Kept.upd_iff, Kept.updStart_iff] | intro _ _ _ | intro _ _ | split | (fail_if_no_progress dsimp only)

theorem State.spdmKeyExchange_kept {r s : State} (h : Kept r s) (a : SpdmPeer) : Kept r (State.spdmKeyExchange s a).1 := by
  simp only [State.spdmKeyExchange]
  repeat'
    first
    | with_reducible assumption | with_reducible apply State.genKey_kept | with_reducible apply State.sign_kept
    | with_reducible apply State.setSec_kept | with_reducible refine Kept.of_snd (by with_reducible assumption) ?_
    | with_reducible refine Kept.of_fst (by with_reducible assumption) ?_ | with_reducible refine Kept.of_trd (by with_reducible assumption) ?_
    | with_reducible apply foldl_kept | simp only [Kept.upd_iff, Kept.updStart_iff] | intro _ _ _ | intro _ _ | split
    | (fail_if_no_progress dsimp only)

theorem State.spdmFinish_kept {r s : State} (h : Kept r s) (a : SpdmPeer) (b : Bool) (c : Nat) : Kept r (State.spdmFinish s a b c).1 := by
  simp only [State.spdmFinish]
  repeat'
    first
    | with_reducible assumption | with_reducible apply State.updSession_kept | with_reducible apply State.setF_kept
    | with_reducible apply State.setSec_kept | with_reducible apply State.bump_kept | with_reducible apply State.securityRec_kept
    | with_reducible refine Kept.of_snd (by with_reducible assumption) ?_ | with_reducible refine Kept.of_fst (by with_reducible assumption) ?_
    | with_reducible refine Kept.of_trd (by with_reducible assumption) ?_ | with_reducible apply foldl_kept
    | simp only [Kept.upd_iff, Kept.updStart_iff] | intro _ _ _ | intro _ _ | split | (fail_if_no_progress dsimp only)

theorem State.lockoutEnd_kept {r s : State} (h : Kept r s) : Kept r (State.lockoutEnd s) := by
  simp only [State.lockoutEnd]
  repeat'
    first
    | with_reducible assumption | with_reducible apply State.setSec_kept | with_reducible apply foldl_kept
    | simp only [Kept.upd_iff, Kept.updStart_iff] | intro _ _ _ | intro _ _ | split | (fail_if_no_progress dsimp only)

theorem State.spdmEnd_kept {r s : State} (h : Kept r s) (a : SpdmPeer) : Kept r (State.spdmEnd s a).1 := by
  simp only [State.spdmEnd]
  repeat'
    first
    | with_reducible assumption | with_reducible apply State.setSec_kept | with_reducible refine Kept.of_snd (by with_reducible assumption) ?_
    | with_reducible refine Kept.of_fst (by with_reducible assumption) ?_ | with_reducible refine Kept.of_trd (by with_reducible assumption) ?_
    | with_reducible apply foldl_kept | simp only [Kept.upd_iff, Kept.updStart_iff] | intro _ _ _ | intro _ _ | split
    | (fail_if_no_progress dsimp only)

theorem State.spdmWrap_kept {r s : State} (h : Kept r s) (a : SpdmPeer) : Kept r (State.spdmWrap s a) := by
  simp only [State.spdmWrap]
  repeat'
    first
    | with_reducible assumption | with_reducible apply State.emit_kept | with_reducible apply State.answer_kept
    | with_reducible apply State.setSec_kept | with_reducible apply State.newWrap_kept
    | with_reducible refine Kept.of_snd (by with_reducible assumption) ?_ | with_reducible refine Kept.of_fst (by with_reducible assumption) ?_
    | with_reducible refine Kept.of_trd (by with_reducible assumption) ?_ | with_reducible apply foldl_kept
    | simp only [Kept.upd_iff, Kept.updStart_iff] | intro _ _ _ | intro _ _ | split | (fail_if_no_progress dsimp only)

theorem State.spdmDeliver_kept {r s : State} (h : Kept r s) (a : SpdmPeer) (b : WrapIn) (c : Bool) (d : Word) : Kept r (State.spdmDeliver s a b c
    d).1 := by
  simp only [State.spdmDeliver]
  repeat'
    first
    | with_reducible assumption | with_reducible apply State.updSession_kept | with_reducible apply State.setReg_kept
    | with_reducible apply State.putKey_kept | with_reducible apply State.setSec_kept
    | with_reducible refine Kept.of_snd (by with_reducible assumption) ?_ | with_reducible refine Kept.of_fst (by with_reducible assumption) ?_
    | with_reducible refine Kept.of_trd (by with_reducible assumption) ?_ | with_reducible apply foldl_kept
    | simp only [Kept.upd_iff, Kept.updStart_iff] | intro _ _ _ | intro _ _ | split | (fail_if_no_progress dsimp only)

theorem State.zeroiseOne_kept {r s : State} (h : Kept r s) (a : Nat) : Kept r (State.zeroiseOne s a) := by
  simp only [State.zeroiseOne]
  repeat'
    first
    | with_reducible assumption | with_reducible apply State.freeBlob_kept | with_reducible apply State.setB_kept
    | with_reducible apply State.setSec_kept | with_reducible apply State.zeroSlot_kept
    | with_reducible refine Kept.of_snd (by with_reducible assumption) ?_ | with_reducible refine Kept.of_fst (by with_reducible assumption) ?_
    | with_reducible refine Kept.of_trd (by with_reducible assumption) ?_ | with_reducible apply foldl_kept
    | simp only [Kept.upd_iff, Kept.updStart_iff] | intro _ _ _ | intro _ _ | split | (fail_if_no_progress dsimp only)

theorem State.epochTimeout_kept {r s : State} (h : Kept r s) (a : Nat) : Kept r (State.epochTimeout s a) := by
  simp only [State.epochTimeout]
  repeat'
    first
    | with_reducible assumption | with_reducible apply State.setSec_kept | with_reducible apply State.xferSquash_kept
    | with_reducible apply State.zeroSlot_kept | with_reducible refine Kept.of_snd (by with_reducible assumption) ?_
    | with_reducible refine Kept.of_fst (by with_reducible assumption) ?_ | with_reducible refine Kept.of_trd (by with_reducible assumption) ?_
    | with_reducible apply foldl_kept | simp only [Kept.upd_iff, Kept.updStart_iff] | intro _ _ _ | intro _ _ | split
    | (fail_if_no_progress dsimp only)

theorem State.clearCounters_kept {r s : State} (h : Kept r s) : Kept r (State.clearCounters s) := by
  exact Kept.upd_iff.2 h

theorem State.writePcfg_kept {r s : State} (h : Kept r s) (a : Nat) (b : Word) : Kept r (State.writePcfg s a b) := by
  simp only [State.writePcfg]
  repeat'
    first
    | with_reducible assumption | with_reducible apply State.setReg_kept | with_reducible apply foldl_kept
    | simp only [Kept.upd_iff, Kept.updStart_iff] | intro _ _ _ | intro _ _ | split | (fail_if_no_progress dsimp only)

theorem State.freezeDue_kept {r s : State} (h : Kept r s) : Kept r (State.freezeDue s) := by
  simp only [State.freezeDue]
  repeat'
    first
    | with_reducible assumption | with_reducible apply State.freeze_kept | with_reducible apply State.setB_kept | with_reducible apply foldl_kept
    | simp only [Kept.upd_iff, Kept.updStart_iff] | intro _ _ _ | intro _ _ | split | (fail_if_no_progress dsimp only)

theorem State.freezeArm_kept {r s : State} (h : Kept r s) (a : Word) : Kept r (State.freezeArm s a) := by
  simp only [State.freezeArm]
  repeat'
    first
    | with_reducible assumption | with_reducible apply State.freezeDue_kept | with_reducible apply State.broadcast_kept
    | with_reducible apply State.when_kept | with_reducible apply State.setB_kept | with_reducible apply State.setReg_kept
    | with_reducible apply foldl_kept | simp only [Kept.upd_iff, Kept.updStart_iff] | intro _ _ _ | intro _ _ | split
    | (fail_if_no_progress dsimp only)

theorem State.resume_kept {r s : State} (h : Kept r s) (a : Bool) : Kept r (State.resume s a) := by
  simp only [State.resume]
  repeat'
    first
    | with_reducible assumption | with_reducible apply State.doDeferred_kept | with_reducible apply State.acceptAll_kept
    | with_reducible apply State.traceDev_kept | with_reducible apply State.broadcast_kept | with_reducible apply State.when_kept
    | with_reducible apply State.setB_kept | with_reducible apply foldl_kept | simp only [Kept.upd_iff, Kept.updStart_iff] | intro _ _ _
    | intro _ _ | split | (fail_if_no_progress dsimp only)

theorem State.atAct_kept {r s : State} (h : Kept r s) (a : Nat) : Kept r (State.atAct s a) := by
  simp only [State.atAct]
  repeat'
    first
    | with_reducible assumption | with_reducible apply State.resume_kept | with_reducible apply State.softStop_kept
    | with_reducible apply State.globalStop_kept | with_reducible apply State.freeze_kept | with_reducible apply foldl_kept
    | simp only [Kept.upd_iff, Kept.updStart_iff] | intro _ _ _ | intro _ _ | split | (fail_if_no_progress dsimp only)

theorem State.scanNext_kept {r s : State} (h : Kept r s) : Kept r (State.scanNext s) := by
  simp only [State.scanNext]
  repeat'
    first
    | with_reducible assumption | with_reducible apply State.emit_kept | with_reducible apply State.scanSeen_kept
    | with_reducible refine Kept.of_snd (by with_reducible assumption) ?_ | with_reducible refine Kept.of_fst (by with_reducible assumption) ?_
    | with_reducible refine Kept.of_trd (by with_reducible assumption) ?_ | with_reducible apply foldl_kept
    | simp only [Kept.upd_iff, Kept.updStart_iff] | intro _ _ _ | intro _ _ | split | (fail_if_no_progress dsimp only)

theorem State.scanDone_kept {r s : State} (h : Kept r s) (a : Bool) : Kept r (State.scanDone s a) := by
  simp only [State.scanDone]
  repeat'
    first
    | with_reducible assumption | with_reducible apply State.setF_kept | with_reducible apply State.draw_kept
    | with_reducible apply State.scanLine_kept | with_reducible apply State.setB_kept
    | with_reducible refine Kept.of_snd (by with_reducible assumption) ?_ | with_reducible refine Kept.of_fst (by with_reducible assumption) ?_
    | with_reducible refine Kept.of_trd (by with_reducible assumption) ?_ | with_reducible apply foldl_kept
    | simp only [Kept.upd_iff, Kept.updStart_iff] | intro _ _ _ | intro _ _ | split | (fail_if_no_progress dsimp only)

theorem State.snapshot_kept {r s : State} (h : Kept r s) (a : List Nat) : Kept r (State.snapshot s a) := by
  simp only [State.snapshot]
  repeat'
    first
    | with_reducible assumption | with_reducible apply State.bump_kept | with_reducible apply State.setB_kept | with_reducible apply foldl_kept
    | simp only [Kept.upd_iff, Kept.updStart_iff] | intro _ _ _ | intro _ _ | split | (fail_if_no_progress dsimp only)

theorem State.graphBuilt_kept {r s : State} (h : Kept r s) (a : Bool) : Kept r (State.graphBuilt s a) := by
  simp only [State.graphBuilt]
  repeat'
    first
    | with_reducible assumption | with_reducible apply State.setB_kept | with_reducible apply State.writeMem_kept
    | with_reducible apply State.setF_kept | with_reducible apply State.raise_kept
    | with_reducible refine Kept.of_snd (by with_reducible assumption) ?_ | with_reducible refine Kept.of_fst (by with_reducible assumption) ?_
    | with_reducible refine Kept.of_trd (by with_reducible assumption) ?_ | with_reducible apply foldl_kept
    | simp only [Kept.upd_iff, Kept.updStart_iff] | intro _ _ _ | intro _ _ | split | (fail_if_no_progress dsimp only)

end Sys2Proof.Machine
end

