-- ==== Sys2Proof/Laws/KeptFabric.lean ====
section
/-! SUPPORT. What every operation of the machine keeps, part 4: the fabric, interrupts, the boundary and the control store. -/

namespace Sys2Proof.Machine

set_option linter.unusedTactic false
set_option linter.unreachableTactic false
set_option linter.unusedSimpArgs false

theorem State.grantCredits_kept {r s : State} (h : Kept r s) (a : Nat) : Kept r (State.grantCredits s a) := by
  simp only [State.grantCredits]
  repeat'
    first
    | with_reducible assumption | with_reducible apply State.setF_kept | with_reducible apply foldl_kept
    | simp only [Kept.upd_iff, Kept.updStart_iff] | intro _ _ _ | intro _ _ | split | (fail_if_no_progress dsimp only)

theorem State.treeUpdate_kept {r s : State} (h : Kept r s) : Kept r (State.treeUpdate s) := by
  simp only [State.treeUpdate]
  repeat'
    first
    | with_reducible assumption | with_reducible apply State.setB_kept | with_reducible apply State.setF_kept | with_reducible apply foldl_kept
    | simp only [Kept.upd_iff, Kept.updStart_iff] | intro _ _ _ | intro _ _ | split | (fail_if_no_progress dsimp only)

theorem State.rekeyLost_kept {r s : State} (h : Kept r s) (a : Nat) : Kept r (State.rekeyLost s a) := by
  simp only [State.rekeyLost]
  repeat'
    first
    | with_reducible assumption | with_reducible apply State.rekeyFor_kept | with_reducible apply foldl_kept
    | simp only [Kept.upd_iff, Kept.updStart_iff] | intro _ _ _ | intro _ _ | split | (fail_if_no_progress dsimp only)

theorem State.lanesUp_kept {r s : State} (h : Kept r s) (a : Nat) (b : Nat) (c : Nat) : Kept r (State.lanesUp s a b c) := by
  simp only [State.lanesUp]
  repeat'
    first
    | with_reducible assumption | with_reducible apply State.portDown_kept | with_reducible apply State.setF_kept
    | with_reducible apply State.sayTrain_kept | with_reducible refine Kept.of_snd (by with_reducible assumption) ?_
    | with_reducible refine Kept.of_fst (by with_reducible assumption) ?_ | with_reducible refine Kept.of_trd (by with_reducible assumption) ?_
    | with_reducible apply foldl_kept | simp only [Kept.upd_iff, Kept.updStart_iff] | intro _ _ _ | intro _ _ | split
    | (fail_if_no_progress dsimp only)

theorem State.dissolve_kept {r s : State} (h : Kept r s) : Kept r (State.dissolve s) := by
  simp only [State.dissolve]
  repeat'
    first
    | with_reducible assumption | with_reducible apply State.broadcast_kept | with_reducible apply State.dissolveHere_kept
    | with_reducible refine Kept.of_snd (by with_reducible assumption) ?_ | with_reducible refine Kept.of_fst (by with_reducible assumption) ?_
    | with_reducible refine Kept.of_trd (by with_reducible assumption) ?_ | with_reducible apply foldl_kept
    | simp only [Kept.upd_iff, Kept.updStart_iff] | intro _ _ _ | intro _ _ | split | (fail_if_no_progress dsimp only)

theorem State.train_kept {r s : State} (h : Kept r s) (a : Nat) (b : TrainInfo) : Kept r (State.train s a b) := by
  simp only [State.train]
  repeat'
    first
    | with_reducible assumption | with_reducible apply State.portDown_kept | with_reducible apply State.dissolve_kept
    | with_reducible apply State.setF_kept | with_reducible apply State.setB_kept | with_reducible apply State.when_kept
    | with_reducible apply State.setTml_kept | with_reducible apply State.updPort_kept | with_reducible apply State.sayHello_kept
    | with_reducible refine Kept.of_snd (by with_reducible assumption) ?_ | with_reducible refine Kept.of_fst (by with_reducible assumption) ?_
    | with_reducible refine Kept.of_trd (by with_reducible assumption) ?_ | with_reducible apply foldl_kept
    | simp only [Kept.upd_iff, Kept.updStart_iff] | intro _ _ _ | intro _ _ | split | (fail_if_no_progress dsimp only)

theorem State.resend_kept {r s : State} (h : Kept r s) (a : Nat) (b : Nat) : Kept r (State.resend s a b) := by
  simp only [State.resend]
  repeat'
    first
    | with_reducible assumption | with_reducible apply State.updPort_kept | with_reducible apply State.bump_kept
    | with_reducible apply State.emits_kept | with_reducible apply State.count_kept
    | with_reducible refine Kept.of_snd (by with_reducible assumption) ?_ | with_reducible refine Kept.of_fst (by with_reducible assumption) ?_
    | with_reducible refine Kept.of_trd (by with_reducible assumption) ?_ | with_reducible apply foldl_kept
    | simp only [Kept.upd_iff, Kept.updStart_iff] | intro _ _ _ | intro _ _ | split | (fail_if_no_progress dsimp only)

theorem State.lanesFall_kept {r s : State} (h : Kept r s) (a : Nat) (b : Nat) (c : Nat) : Kept r (State.lanesFall s a b c) := by
  simp only [State.lanesFall]
  repeat'
    first
    | with_reducible assumption | with_reducible apply State.portDown_kept | with_reducible apply State.setF_kept
    | with_reducible apply State.setB_kept | with_reducible apply State.bump_kept | with_reducible apply State.when_kept
    | with_reducible apply State.raise_kept | with_reducible apply State.resend_kept
    | with_reducible refine Kept.of_snd (by with_reducible assumption) ?_ | with_reducible refine Kept.of_fst (by with_reducible assumption) ?_
    | with_reducible refine Kept.of_trd (by with_reducible assumption) ?_ | with_reducible apply foldl_kept
    | simp only [Kept.upd_iff, Kept.updStart_iff] | intro _ _ _ | intro _ _ | split | (fail_if_no_progress dsimp only)

theorem State.lanesLost_kept {r s : State} (h : Kept r s) (a : Nat) : Kept r (State.lanesLost s a) := by
  simp only [State.lanesLost]
  repeat'
    first
    | with_reducible assumption | with_reducible apply State.portDown_kept | with_reducible apply foldl_kept
    | simp only [Kept.upd_iff, Kept.updStart_iff] | intro _ _ _ | intro _ _ | split | (fail_if_no_progress dsimp only)

theorem State.linkHello_kept {r s : State} (h : Kept r s) (a : Nat) (b : Hello) : Kept r (State.linkHello s a b) := by
  simp only [State.linkHello]
  repeat'
    first
    | with_reducible assumption | with_reducible apply State.when_kept | with_reducible apply State.beginRekey_kept
    | with_reducible apply State.updPort_kept | with_reducible apply State.sayHello_kept | with_reducible apply State.sayProof_kept
    | with_reducible refine Kept.of_snd (by with_reducible assumption) ?_ | with_reducible refine Kept.of_fst (by with_reducible assumption) ?_
    | with_reducible refine Kept.of_trd (by with_reducible assumption) ?_ | with_reducible apply foldl_kept
    | simp only [Kept.upd_iff, Kept.updStart_iff] | intro _ _ _ | intro _ _ | split | (fail_if_no_progress dsimp only)

theorem State.form_kept {r s : State} (h : Kept r s) (a : Nat) : Kept r (State.form s a) := by
  simp only [State.form]
  repeat'
    first
    | with_reducible assumption | with_reducible apply State.startKex_kept | with_reducible apply State.treeUpdate_kept
    | with_reducible apply State.grantCredits_kept | with_reducible apply State.setTml_kept | with_reducible apply State.sendLead_kept
    | with_reducible apply State.mapSettle_kept | with_reducible apply State.setNode_kept | with_reducible apply State.setB_kept
    | with_reducible apply State.setF_kept | with_reducible apply foldl_kept | simp only [Kept.upd_iff, Kept.updStart_iff] | intro _ _ _
    | intro _ _ | split | (fail_if_no_progress dsimp only)

theorem State.linkUpJoin_kept {r s : State} (h : Kept r s) (a : Nat) : Kept r (State.linkUpJoin s a) := by
  simp only [State.linkUpJoin]
  repeat'
    first
    | with_reducible assumption | with_reducible apply State.form_kept | with_reducible apply State.sendLead_kept
    | with_reducible apply State.send_kept | with_reducible apply foldl_kept | simp only [Kept.upd_iff, Kept.updStart_iff] | intro _ _ _
    | intro _ _ | split | (fail_if_no_progress dsimp only)

theorem State.linkProof_kept {r s : State} (h : Kept r s) (a : Nat) (b : Bool) (c : Bool) (d : Bool) : Kept r (State.linkProof s a b c d) := by
  simp only [State.linkProof]
  repeat'
    first
    | with_reducible assumption | with_reducible apply State.someFlits_kept | with_reducible apply State.updPort_kept
    | with_reducible apply State.txFrame_kept | with_reducible apply State.portDown_kept | with_reducible apply State.portSecurity_kept
    | with_reducible apply State.setF_kept | with_reducible apply State.portUp_kept | with_reducible apply State.linkUpJoin_kept
    | with_reducible refine Kept.of_snd (by with_reducible assumption) ?_ | with_reducible refine Kept.of_fst (by with_reducible assumption) ?_
    | with_reducible refine Kept.of_trd (by with_reducible assumption) ?_ | with_reducible apply foldl_kept
    | simp only [Kept.upd_iff, Kept.updStart_iff] | intro _ _ _ | intro _ _ | split | (fail_if_no_progress dsimp only)

theorem State.linkRekey_kept {r s : State} (h : Kept r s) (a : Nat) : Kept r (State.linkRekey s a) := by
  simp only [State.linkRekey]
  repeat'
    first
    | with_reducible assumption | with_reducible apply State.beginRekey_kept | with_reducible apply State.sayHello_kept
    | with_reducible refine Kept.of_snd (by with_reducible assumption) ?_ | with_reducible refine Kept.of_fst (by with_reducible assumption) ?_
    | with_reducible refine Kept.of_trd (by with_reducible assumption) ?_ | with_reducible apply foldl_kept
    | simp only [Kept.upd_iff, Kept.updStart_iff] | intro _ _ _ | intro _ _ | split | (fail_if_no_progress dsimp only)

theorem State.counterRekey_kept {r s : State} (h : Kept r s) (a : Nat) : Kept r (State.counterRekey s a) := by
  simp only [State.counterRekey]
  repeat'
    first
    | with_reducible assumption | with_reducible apply State.linkRekey_kept | with_reducible apply foldl_kept
    | simp only [Kept.upd_iff, Kept.updStart_iff] | intro _ _ _ | intro _ _ | split | (fail_if_no_progress dsimp only)

theorem State.keySwitch_kept {r s : State} (h : Kept r s) (a : Nat) : Kept r (State.keySwitch s a) := by
  simp only [State.keySwitch]
  repeat'
    first
    | with_reducible assumption | with_reducible apply State.updPort_kept | with_reducible apply State.bump_kept
    | with_reducible apply State.setB_kept | with_reducible apply foldl_kept | simp only [Kept.upd_iff, Kept.updStart_iff] | intro _ _ _
    | intro _ _ | split | (fail_if_no_progress dsimp only)

theorem State.forward_kept {r s : State} (h : Kept r s) (a : Nat) (b : FrameIn) (c : Nat) : Kept r (State.forward s a b c) := by
  simp only [State.forward]
  repeat'
    first
    | with_reducible assumption | with_reducible apply State.when_kept | with_reducible apply State.oweCredit_kept
    | with_reducible apply State.bump_kept | with_reducible apply State.txFrame_kept
    | with_reducible refine Kept.of_snd (by with_reducible assumption) ?_ | with_reducible refine Kept.of_fst (by with_reducible assumption) ?_
    | with_reducible refine Kept.of_trd (by with_reducible assumption) ?_ | with_reducible apply foldl_kept
    | simp only [Kept.upd_iff, Kept.updStart_iff] | intro _ _ _ | intro _ _ | split | (fail_if_no_progress dsimp only)

theorem State.frameIn_kept {r s : State} (h : Kept r s) (a : Nat) (b : FrameIn) : Kept r (State.frameIn s a b) := by
  simp only [State.frameIn]
  repeat'
    first
    | with_reducible assumption | with_reducible apply State.updPort_kept | with_reducible apply State.count_kept
    | with_reducible apply State.bump_kept | with_reducible apply State.setSec_kept | with_reducible apply State.when_kept
    | with_reducible apply State.forward_kept | with_reducible apply State.portSecurity_kept | with_reducible apply State.portDown_kept
    | with_reducible apply State.txFrame_kept | with_reducible apply State.resend_kept | with_reducible apply State.oweCredit_kept
    | with_reducible apply State.pumpAll_kept | with_reducible apply State.wake_kept
    | with_reducible refine Kept.of_snd (by with_reducible assumption) ?_ | with_reducible refine Kept.of_fst (by with_reducible assumption) ?_
    | with_reducible refine Kept.of_trd (by with_reducible assumption) ?_ | with_reducible apply foldl_kept
    | simp only [Kept.upd_iff, Kept.updStart_iff] | intro _ _ _ | intro _ _ | split | (fail_if_no_progress dsimp only)

theorem State.replayTimeout_kept {r s : State} (h : Kept r s) (a : Nat) : Kept r (State.replayTimeout s a) := by
  simp only [State.replayTimeout]
  repeat'
    first
    | with_reducible assumption | with_reducible apply State.resend_kept | with_reducible refine Kept.of_snd (by with_reducible assumption) ?_
    | with_reducible refine Kept.of_fst (by with_reducible assumption) ?_ | with_reducible refine Kept.of_trd (by with_reducible assumption) ?_
    | with_reducible apply foldl_kept | simp only [Kept.upd_iff, Kept.updStart_iff] | intro _ _ _ | intro _ _ | split
    | (fail_if_no_progress dsimp only)

theorem State.localFrame_kept {r s : State} (h : Kept r s) (a : Nat) (b : Nat) : Kept r (State.localFrame s a b) := by
  simp only [State.localFrame]
  repeat'
    first
    | with_reducible assumption | with_reducible apply State.someFlits_kept | with_reducible apply State.txFrame_kept
    | with_reducible refine Kept.of_snd (by with_reducible assumption) ?_ | with_reducible refine Kept.of_fst (by with_reducible assumption) ?_
    | with_reducible refine Kept.of_trd (by with_reducible assumption) ?_ | with_reducible apply foldl_kept
    | simp only [Kept.upd_iff, Kept.updStart_iff] | intro _ _ _ | intro _ _ | split | (fail_if_no_progress dsimp only)

theorem State.updIn_kept {r s : State} (h : Kept r s) (a : Nat) (b : Nat) (c : InXfer → InXfer) : Kept r (State.updIn s a b c) := by
  simp only [State.updIn]
  repeat'
    first
    | with_reducible assumption | with_reducible apply State.setTml_kept | with_reducible apply foldl_kept
    | simp only [Kept.upd_iff, Kept.updStart_iff] | intro _ _ _ | intro _ _ | split | (fail_if_no_progress dsimp only)

theorem State.granted_kept {r s : State} (h : Kept r s) (a : Nat) (b : Bool) : Kept r (State.granted s a b) := by
  simp only [State.granted]
  repeat'
    first
    | with_reducible assumption | with_reducible apply State.setF_kept | with_reducible apply foldl_kept
    | simp only [Kept.upd_iff, Kept.updStart_iff] | intro _ _ _ | intro _ _ | split | (fail_if_no_progress dsimp only)

theorem State.creditBack_kept {r s : State} (h : Kept r s) (a : Nat) : Kept r (State.creditBack s a) := by
  simp only [State.creditBack]
  repeat'
    first
    | with_reducible assumption | with_reducible apply State.granted_kept | with_reducible apply State.send_kept
    | with_reducible apply foldl_kept | simp only [Kept.upd_iff, Kept.updStart_iff] | intro _ _ _ | intro _ _ | split
    | (fail_if_no_progress dsimp only)

theorem State.segIn_kept {r s : State} (h : Kept r s) (a : InXfer) (b : Nat) (c : Option (List Word)) : Kept r (State.segIn s a b c) := by
  simp only [State.segIn]
  repeat'
    first
    | with_reducible assumption | with_reducible apply State.granted_kept | with_reducible apply State.creditBack_kept
    | with_reducible apply State.tenantSecurity_kept | with_reducible apply State.closeIn_kept | with_reducible apply State.send_kept
    | with_reducible apply State.writeMem_kept | with_reducible apply State.updIn_kept
    | with_reducible refine Kept.of_snd (by with_reducible assumption) ?_ | with_reducible refine Kept.of_fst (by with_reducible assumption) ?_
    | with_reducible refine Kept.of_trd (by with_reducible assumption) ?_ | with_reducible apply foldl_kept
    | simp only [Kept.upd_iff, Kept.updStart_iff] | intro _ _ _ | intro _ _ | split | (fail_if_no_progress dsimp only)

theorem State.segInAck_kept {r s : State} (h : Kept r s) (a : Nat) (b : Nat) : Kept r (State.segInAck s a b) := by
  simp only [State.segInAck]
  repeat'
    first
    | with_reducible assumption | with_reducible apply State.creditBack_kept | with_reducible apply State.updIn_kept
    | with_reducible apply State.closeIn_kept | with_reducible apply State.send_kept | with_reducible apply foldl_kept
    | simp only [Kept.upd_iff, Kept.updStart_iff] | intro _ _ _ | intro _ _ | split | (fail_if_no_progress dsimp only)

theorem State.segRespAck_kept {r s : State} (h : Kept r s) (a : Nat) : Kept r (State.segRespAck s a) := by
  simp only [State.segRespAck]
  repeat'
    first
    | with_reducible assumption | with_reducible apply State.xferComplete_kept | with_reducible apply State.updXfer_kept
    | with_reducible apply foldl_kept | simp only [Kept.upd_iff, Kept.updStart_iff] | intro _ _ _ | intro _ _ | split
    | (fail_if_no_progress dsimp only)

theorem State.segResp_kept {r s : State} (h : Kept r s) (a : Nat) (b : Xfer) (c : Nat) (d : Option (List Word)) : Kept r (State.segResp s a b c
    d) := by
  simp only [State.segResp]
  repeat'
    first
    | with_reducible assumption | with_reducible apply State.tenantSecurity_kept | with_reducible apply State.xferSquash_kept
    | with_reducible apply State.writeMem_kept | with_reducible apply State.payload_kept | with_reducible apply State.updXfer_kept
    | with_reducible apply State.when_kept | with_reducible apply State.send_kept | with_reducible apply State.segRespAck_kept
    | with_reducible refine Kept.of_snd (by with_reducible assumption) ?_ | with_reducible refine Kept.of_fst (by with_reducible assumption) ?_
    | with_reducible refine Kept.of_trd (by with_reducible assumption) ?_ | with_reducible apply foldl_kept
    | simp only [Kept.upd_iff, Kept.updStart_iff] | intro _ _ _ | intro _ _ | split | (fail_if_no_progress dsimp only)

theorem State.segmentIn_kept {r s : State} (h : Kept r s) (a : Nat) (b : Nat) (c : Bool) (d : Nat) (e : Nat) (g : Nat) (i : BitVec 128) (j : List
  Word) : Kept r (State.segmentIn s a b c d e g i j) := by
  simp only [State.segmentIn]
  repeat'
    first
    | with_reducible assumption | with_reducible apply State.segResp_kept | with_reducible apply State.segIn_kept
    | with_reducible apply State.creditBack_kept | with_reducible apply State.granted_kept | with_reducible apply foldl_kept
    | simp only [Kept.upd_iff, Kept.updStart_iff] | intro _ _ _ | intro _ _ | split | (fail_if_no_progress dsimp only)

theorem State.segResend_kept {r s : State} (h : Kept r s) (a : Nat) (b : Nat) : Kept r (State.segResend s a b) := by
  simp only [State.segResend]
  repeat'
    first
    | with_reducible assumption | with_reducible apply State.updXfer_kept | with_reducible apply State.bump_kept
    | with_reducible apply State.putSeg_kept | with_reducible refine Kept.of_snd (by with_reducible assumption) ?_
    | with_reducible refine Kept.of_fst (by with_reducible assumption) ?_ | with_reducible refine Kept.of_trd (by with_reducible assumption) ?_
    | with_reducible apply foldl_kept | simp only [Kept.upd_iff, Kept.updStart_iff] | intro _ _ _ | intro _ _ | split
    | (fail_if_no_progress dsimp only)

theorem State.sendResp_kept {r s : State} (h : Kept r s) (a : Nat) (b : Nat) (c : Nat) : Kept r (State.sendResp s a b c) := by
  induction c generalizing s a b with
  | zero => exact h
  | succ n ih =>
    simp only [State.sendResp]
    repeat'
      first
      | with_reducible assumption | with_reducible apply ih | with_reducible apply State.updIn_kept | with_reducible apply State.readMem_kept
      | with_reducible refine Kept.of_snd (by with_reducible assumption) ?_ | with_reducible refine Kept.of_fst (by with_reducible assumption) ?_
      | with_reducible refine Kept.of_trd (by with_reducible assumption) ?_ | with_reducible apply foldl_kept
      | simp only [Kept.upd_iff, Kept.updStart_iff] | intro _ _ _ | intro _ _ | split | (fail_if_no_progress dsimp only)

theorem State.acks_kept {r s : State} (h : Kept r s) (a : Nat) (b : Nat) : Kept r (State.acks s a b) := by
  simp only [State.acks]
  repeat'
    first
    | with_reducible assumption | with_reducible apply State.send_kept | with_reducible refine Kept.of_snd (by with_reducible assumption) ?_
    | with_reducible refine Kept.of_fst (by with_reducible assumption) ?_ | with_reducible refine Kept.of_trd (by with_reducible assumption) ?_
    | with_reducible apply foldl_kept | simp only [Kept.upd_iff, Kept.updStart_iff] | intro _ _ _ | intro _ _ | split
    | (fail_if_no_progress dsimp only)

theorem State.msgRecord_kept {r s : State} (h : Kept r s) (a : Nat) (b : Nat) (c : Half) (d : Nat) (e : Word) (g : Option (Nat × Nat)) (i : Option
  Nat) : Kept r (State.msgRecord s a b c d e g i) := by
  simp only [State.msgRecord]
  repeat'
    first
    | with_reducible assumption | with_reducible apply State.acks_kept | with_reducible apply State.recordLocal_kept
    | with_reducible apply State.send_kept | with_reducible apply foldl_kept | simp only [Kept.upd_iff, Kept.updStart_iff] | intro _ _ _
    | intro _ _ | split | (fail_if_no_progress dsimp only)

theorem State.msgWaitReg_kept {r s : State} (h : Kept r s) (a : Nat) (b : Nat) (c : Half) (d : Word) (e : Option Nat) : Kept r (State.msgWaitReg s a
  b c d e) := by
  simp only [State.msgWaitReg]
  repeat'
    first
    | with_reducible assumption | with_reducible apply State.acks_kept | with_reducible apply State.updEvent_kept
    | with_reducible apply State.send_kept | with_reducible apply State.bump_kept | with_reducible apply foldl_kept
    | simp only [Kept.upd_iff, Kept.updStart_iff] | intro _ _ _ | intro _ _ | split | (fail_if_no_progress dsimp only)

theorem State.reRegister_kept {r s : State} (h : Kept r s) (a : Half) : Kept r (State.reRegister s a) := by
  simp only [State.reRegister]
  repeat'
    first
    | with_reducible assumption | with_reducible apply State.send_kept | with_reducible apply foldl_kept
    | simp only [Kept.upd_iff, Kept.updStart_iff] | intro _ _ _ | intro _ _ | split | (fail_if_no_progress dsimp only)

theorem State.msgRelease_kept {r s : State} (h : Kept r s) (a : Nat) (b : Nat) (c : Half) (d : Word) : Kept r (State.msgRelease s a b c d) := by
  simp only [State.msgRelease]
  repeat'
    first
    | with_reducible assumption | with_reducible apply State.reRegister_kept | with_reducible apply State.acks_kept
    | with_reducible apply State.waitMet_kept | with_reducible apply foldl_kept | simp only [Kept.upd_iff, Kept.updStart_iff] | intro _ _ _
    | intro _ _ | split | (fail_if_no_progress dsimp only)

theorem State.msgWaitDrop_kept {r s : State} (h : Kept r s) (a : Nat) (b : Nat) (c : Half) : Kept r (State.msgWaitDrop s a b c) := by
  simp only [State.msgWaitDrop]
  repeat'
    first
    | with_reducible assumption | with_reducible apply State.acks_kept | with_reducible apply State.updEvent_kept
    | with_reducible apply foldl_kept | simp only [Kept.upd_iff, Kept.updStart_iff] | intro _ _ _ | intro _ _ | split
    | (fail_if_no_progress dsimp only)

theorem State.msgSemAcq_kept {r s : State} (h : Kept r s) (a : Nat) (b : Nat) (c : Nat) (d : Nat) (e : Nat) (g : Option Nat) : Kept r
  (State.msgSemAcq s a b c d e g) := by
  simp only [State.msgSemAcq]
  repeat'
    first
    | with_reducible assumption | with_reducible apply State.acks_kept | with_reducible apply State.semAcquire_kept
    | with_reducible apply State.send_kept | with_reducible apply foldl_kept | simp only [Kept.upd_iff, Kept.updStart_iff] | intro _ _ _
    | intro _ _ | split | (fail_if_no_progress dsimp only)

theorem State.holdRemote_kept {r s : State} (h : Kept r s) (a : Nat) (b : Nat) (c : Nat) (d : Nat) : Kept r (State.holdRemote s a b c d) := by
  exact Kept.upd_iff.2 h

theorem State.unholdRemote_kept {r s : State} (h : Kept r s) (a : Nat) (b : Nat) (c : Nat) (d : Nat) : Kept r (State.unholdRemote s a b c d) := by
  exact Kept.upd_iff.2 h

theorem State.msgSemGrant_kept {r s : State} (h : Kept r s) (a : Nat) (b : Nat) (c : Nat) (d : Nat) : Kept r (State.msgSemGrant s a b c d) := by
  simp only [State.msgSemGrant]
  repeat'
    first
    | with_reducible assumption | with_reducible apply State.acks_kept | with_reducible apply State.count_kept
    | with_reducible apply State.holdRemote_kept | with_reducible apply State.waitMet_kept | with_reducible apply State.send_kept
    | with_reducible refine Kept.of_snd (by with_reducible assumption) ?_ | with_reducible refine Kept.of_fst (by with_reducible assumption) ?_
    | with_reducible refine Kept.of_trd (by with_reducible assumption) ?_ | with_reducible apply foldl_kept
    | simp only [Kept.upd_iff, Kept.updStart_iff] | intro _ _ _ | intro _ _ | split | (fail_if_no_progress dsimp only)

theorem State.msgSemRel_kept {r s : State} (h : Kept r s) (a : Nat) (b : Nat) (c : Nat) (d : Nat) (e : Nat) (g : Option Nat) : Kept r
  (State.msgSemRel s a b c d e g) := by
  simp only [State.msgSemRel]
  repeat'
    first
    | with_reducible assumption | with_reducible apply State.acks_kept | with_reducible apply State.semRelease_kept
    | with_reducible apply State.send_kept | with_reducible apply foldl_kept | simp only [Kept.upd_iff, Kept.updStart_iff] | intro _ _ _
    | intro _ _ | split | (fail_if_no_progress dsimp only)

theorem State.refusedOp_kept {r s : State} (h : Kept r s) (a : RemoteOp) : Kept r (State.refusedOp s a) := by
  simp only [State.refusedOp]
  repeat'
    first
    | with_reducible assumption | with_reducible apply State.reRegister_kept | with_reducible apply State.guilty_kept
    | with_reducible apply State.startAutotomy_kept | with_reducible apply State.setB_kept | with_reducible apply foldl_kept
    | simp only [Kept.upd_iff, Kept.updStart_iff] | intro _ _ _ | intro _ _ | split | (fail_if_no_progress dsimp only)

theorem State.failSem_kept {r s : State} (h : Kept r s) (a : Nat) (b : Nat) : Kept r (State.failSem s a b) := by
  simp only [State.failSem]
  repeat'
    first
    | with_reducible assumption | with_reducible apply State.endEarly_kept | with_reducible apply foldl_kept
    | simp only [Kept.upd_iff, Kept.updStart_iff] | intro _ _ _ | intro _ _ | split | (fail_if_no_progress dsimp only)

theorem State.msgRefuse_kept {r s : State} (h : Kept r s) (a : Nat) (b : MsgRef) (c : Nat) (d : Half) : Kept r (State.msgRefuse s a b c d) := by
  simp only [State.msgRefuse]
  repeat'
    first
    | with_reducible assumption | with_reducible apply State.acks_kept | with_reducible apply State.failSem_kept
    | with_reducible apply State.failWaits_kept | with_reducible apply State.xferEnd_kept | with_reducible apply State.guiltyTask_kept
    | with_reducible apply State.xferDone_kept | with_reducible apply State.portDown_kept | with_reducible apply State.refusedOp_kept
    | with_reducible refine Kept.of_snd (by with_reducible assumption) ?_ | with_reducible refine Kept.of_fst (by with_reducible assumption) ?_
    | with_reducible refine Kept.of_trd (by with_reducible assumption) ?_ | with_reducible apply foldl_kept
    | simp only [Kept.upd_iff, Kept.updStart_iff] | intro _ _ _ | intro _ _ | split | (fail_if_no_progress dsimp only)

theorem State.proxyRetry_kept {r s : State} (h : Kept r s) (a : Half) : Kept r (State.proxyRetry s a) := by
  simp only [State.proxyRetry]
  repeat'
    first
    | with_reducible assumption | with_reducible apply State.reRegister_kept | with_reducible apply foldl_kept
    | simp only [Kept.upd_iff, Kept.updStart_iff] | intro _ _ _ | intro _ _ | split | (fail_if_no_progress dsimp only)

theorem State.msgAck_kept {r s : State} (h : Kept r s) (a : Nat) (b : AckRef) : Kept r (State.msgAck s a b) := by
  simp only [State.msgAck]
  repeat'
    first
    | with_reducible assumption | with_reducible apply State.flood_kept | with_reducible apply State.remoteDone_kept
    | with_reducible apply State.unholdRemote_kept | with_reducible apply State.dropEdges_kept
    | with_reducible refine Kept.of_snd (by with_reducible assumption) ?_ | with_reducible refine Kept.of_fst (by with_reducible assumption) ?_
    | with_reducible refine Kept.of_trd (by with_reducible assumption) ?_ | with_reducible apply foldl_kept
    | simp only [Kept.upd_iff, Kept.updStart_iff] | intro _ _ _ | intro _ _ | split | (fail_if_no_progress dsimp only)

theorem State.msgOpen_kept {r s : State} (h : Kept r s) (a : Nat) (b : Nat) (c : Nat) (d : Bool) (e : Nat) (g : Word) (i : Nat) : Kept r
  (State.msgOpen s a b c d e g i) := by
  simp only [State.msgOpen]
  repeat'
    first
    | with_reducible assumption | with_reducible apply State.acks_kept | with_reducible apply State.sendResp_kept
    | with_reducible apply State.setTml_kept | with_reducible apply State.send_kept | with_reducible apply foldl_kept
    | simp only [Kept.upd_iff, Kept.updStart_iff] | intro _ _ _ | intro _ _ | split | (fail_if_no_progress dsimp only)

theorem State.msgReport_kept {r s : State} (h : Kept r s) (a : Nat) (b : Nat) (c : Nat) : Kept r (State.msgReport s a b c) := by
  simp only [State.msgReport]
  repeat'
    first
    | with_reducible assumption | with_reducible apply State.acks_kept | with_reducible apply State.xferComplete_kept
    | with_reducible apply foldl_kept | simp only [Kept.upd_iff, Kept.updStart_iff] | intro _ _ _ | intro _ _ | split
    | (fail_if_no_progress dsimp only)

theorem State.msgSquash_kept {r s : State} (h : Kept r s) (a : Nat) (b : Nat) (c : Nat) (d : Bool) : Kept r (State.msgSquash s a b c d) := by
  simp only [State.msgSquash]
  repeat'
    first
    | with_reducible assumption | with_reducible apply State.acks_kept | with_reducible apply State.closeIn_kept
    | with_reducible apply State.xferEnd_kept | with_reducible apply State.send_kept | with_reducible apply foldl_kept
    | simp only [Kept.upd_iff, Kept.updStart_iff] | intro _ _ _ | intro _ _ | split | (fail_if_no_progress dsimp only)

theorem State.msgSquashAck_kept {r s : State} (h : Kept r s) (a : Nat) (b : MsgRef) : Kept r (State.msgSquashAck s a b) := by
  simp only [State.msgSquashAck]
  repeat'
    first
    | with_reducible assumption | with_reducible apply State.acks_kept | with_reducible apply State.xferDone_kept
    | with_reducible apply State.closeIn_kept | with_reducible refine Kept.of_snd (by with_reducible assumption) ?_
    | with_reducible refine Kept.of_fst (by with_reducible assumption) ?_ | with_reducible refine Kept.of_trd (by with_reducible assumption) ?_
    | with_reducible apply foldl_kept | simp only [Kept.upd_iff, Kept.updStart_iff] | intro _ _ _ | intro _ _ | split
    | (fail_if_no_progress dsimp only)

theorem State.msgCredit_kept {r s : State} (h : Kept r s) (a : Nat) (b : Nat) (c : Nat) (d : Option Nat) : Kept r (State.msgCredit s a b c d) := by
  simp only [State.msgCredit]
  repeat'
    first
    | with_reducible assumption | with_reducible apply State.acks_kept | with_reducible apply State.sendResp_kept
    | with_reducible apply State.setTml_kept | with_reducible apply State.sendSegs_kept | with_reducible apply State.setF_kept
    | with_reducible apply foldl_kept | simp only [Kept.upd_iff, Kept.updStart_iff] | intro _ _ _ | intro _ _ | split
    | (fail_if_no_progress dsimp only)

theorem State.msgKey_kept {r s : State} (h : Kept r s) (a : Nat) (b : Nat) (c : Nat) (d : KeyMsg) : Kept r (State.msgKey s a b c d) := by
  simp only [State.msgKey]
  repeat'
    first
    | with_reducible assumption | with_reducible apply State.setF_kept | with_reducible apply State.installFt_kept
    | with_reducible apply State.acks_kept | with_reducible refine Kept.of_snd (by with_reducible assumption) ?_
    | with_reducible refine Kept.of_fst (by with_reducible assumption) ?_ | with_reducible refine Kept.of_trd (by with_reducible assumption) ?_
    | with_reducible apply foldl_kept | simp only [Kept.upd_iff, Kept.updStart_iff] | intro _ _ _ | intro _ _ | split
    | (fail_if_no_progress dsimp only)

theorem State.admitNode_kept {r s : State} (h : Kept r s) (a : Nat) : Kept r (State.admitNode s a) := by
  simp only [State.admitNode]
  repeat'
    first
    | with_reducible assumption | with_reducible apply State.grantCredits_kept | with_reducible apply State.setTml_kept
    | with_reducible apply State.sendLead_kept | with_reducible apply State.rekeyFor_kept | with_reducible apply State.mapSettle_kept
    | with_reducible apply State.setB_kept | with_reducible apply foldl_kept | simp only [Kept.upd_iff, Kept.updStart_iff] | intro _ _ _
    | intro _ _ | split | (fail_if_no_progress dsimp only)

theorem State.nodeKeyed_kept {r s : State} (h : Kept r s) (a : Nat) : Kept r (State.nodeKeyed s a) := by
  simp only [State.nodeKeyed]
  repeat'
    first
    | with_reducible assumption | with_reducible apply State.admitNode_kept | with_reducible apply State.rekeyFor_kept
    | with_reducible refine Kept.of_snd (by with_reducible assumption) ?_ | with_reducible refine Kept.of_fst (by with_reducible assumption) ?_
    | with_reducible refine Kept.of_trd (by with_reducible assumption) ?_ | with_reducible apply foldl_kept
    | simp only [Kept.upd_iff, Kept.updStart_iff] | intro _ _ _ | intro _ _ | split | (fail_if_no_progress dsimp only)

theorem State.msgNodeKex_kept {r s : State} (h : Kept r s) (a : Nat) (b : Nat) (c : KexMsg) (d : Bool) : Kept r (State.msgNodeKex s a b c d) :=
    by
  simp only [State.msgNodeKex]
  repeat'
    first
    | with_reducible assumption | with_reducible apply State.acks_kept | with_reducible apply State.setTml_kept
    | with_reducible apply State.nodeHello_kept | with_reducible apply State.securityRec_kept | with_reducible apply State.nodeKeyed_kept
    | with_reducible refine Kept.of_snd (by with_reducible assumption) ?_ | with_reducible refine Kept.of_fst (by with_reducible assumption) ?_
    | with_reducible refine Kept.of_trd (by with_reducible assumption) ?_ | with_reducible apply foldl_kept
    | simp only [Kept.upd_iff, Kept.updStart_iff] | intro _ _ _ | intro _ _ | split | (fail_if_no_progress dsimp only)

theorem State.msgHeartbeat_kept {r s : State} (h : Kept r s) (a : Nat) (b : Nat) (c : Nat) (d : Nat) : Kept r (State.msgHeartbeat s a b c d) := by
  simp only [State.msgHeartbeat]
  repeat'
    first
    | with_reducible assumption | with_reducible apply State.setTml_kept | with_reducible apply State.flooded_kept
    | with_reducible refine Kept.of_snd (by with_reducible assumption) ?_ | with_reducible refine Kept.of_fst (by with_reducible assumption) ?_
    | with_reducible refine Kept.of_trd (by with_reducible assumption) ?_ | with_reducible apply foldl_kept
    | simp only [Kept.upd_iff, Kept.updStart_iff] | intro _ _ _ | intro _ _ | split | (fail_if_no_progress dsimp only)

theorem State.dropNode_kept {r s : State} (h : Kept r s) (a : Nat) : Kept r (State.dropNode s a) := by
  simp only [State.dropNode]
  repeat'
    first
    | with_reducible assumption | with_reducible apply State.linkDown_kept | with_reducible apply State.mapSettle_kept
    | with_reducible apply State.reRouteXfers_kept | with_reducible apply State.nodeLost_kept | with_reducible apply State.setB_kept
    | with_reducible apply foldl_kept | simp only [Kept.upd_iff, Kept.updStart_iff] | intro _ _ _ | intro _ _ | split
    | (fail_if_no_progress dsimp only)

theorem State.noteLoss_kept {r s : State} (h : Kept r s) (a : Nat) (b : Option Nat) : Kept r (State.noteLoss s a b) := by
  simp only [State.noteLoss]
  repeat'
    first
    | with_reducible assumption | with_reducible apply State.dropNode_kept | with_reducible apply State.treeUpdate_kept
    | with_reducible apply State.leadCheck_kept | with_reducible apply State.leadLost_kept | with_reducible apply State.openSettle_kept
    | with_reducible apply State.linkDown_kept | with_reducible apply State.mapSettle_kept | with_reducible apply foldl_kept
    | simp only [Kept.upd_iff, Kept.updStart_iff] | intro _ _ _ | intro _ _ | split | (fail_if_no_progress dsimp only)

theorem State.msgLost_kept {r s : State} (h : Kept r s) (a : Nat) (b : Nat) (c : Nat) (d : Option Nat) (e : Option Nat) : Kept r (State.msgLost s a
  b c d e) := by
  simp only [State.msgLost]
  repeat'
    first
    | with_reducible assumption | with_reducible apply State.noteLoss_kept | with_reducible apply State.flooded_kept
    | with_reducible apply State.homeCtxGone_kept | with_reducible refine Kept.of_snd (by with_reducible assumption) ?_
    | with_reducible refine Kept.of_fst (by with_reducible assumption) ?_ | with_reducible refine Kept.of_trd (by with_reducible assumption) ?_
    | with_reducible apply foldl_kept | simp only [Kept.upd_iff, Kept.updStart_iff] | intro _ _ _ | intro _ _ | split
    | (fail_if_no_progress dsimp only)

theorem State.msgLeave_kept {r s : State} (h : Kept r s) (a : Nat) (b : Nat) (c : Nat) : Kept r (State.msgLeave s a b c) := by
  simp only [State.msgLeave]
  repeat'
    first
    | with_reducible assumption | with_reducible apply State.flooded_kept | with_reducible apply State.dissolveHere_kept
    | with_reducible apply State.noteLoss_kept | with_reducible refine Kept.of_snd (by with_reducible assumption) ?_
    | with_reducible refine Kept.of_fst (by with_reducible assumption) ?_ | with_reducible refine Kept.of_trd (by with_reducible assumption) ?_
    | with_reducible apply foldl_kept | simp only [Kept.upd_iff, Kept.updStart_iff] | intro _ _ _ | intro _ _ | split
    | (fail_if_no_progress dsimp only)

theorem State.msgLead_kept {r s : State} (h : Kept r s) (a : Nat) (b : Nat) (c : BitVec 16) (d : Word) (e : Option Nat) : Kept r (State.msgLead s a
  b c d e) := by
  simp only [State.msgLead]
  repeat'
    first
    | with_reducible assumption | with_reducible apply State.startKex_kept | with_reducible apply State.treeUpdate_kept
    | with_reducible apply State.grantCredits_kept | with_reducible apply State.setTml_kept | with_reducible apply State.flooded_kept
    | with_reducible apply State.mapSettle_kept | with_reducible apply State.reRouteXfers_kept | with_reducible apply State.nodeLost_kept
    | with_reducible apply State.leadRec_kept | with_reducible apply State.setNode_kept | with_reducible apply State.when_kept
    | with_reducible apply State.bump_kept | with_reducible apply State.setB_kept | with_reducible apply State.setF_kept
    | with_reducible apply State.setReg_kept | with_reducible refine Kept.of_snd (by with_reducible assumption) ?_
    | with_reducible refine Kept.of_fst (by with_reducible assumption) ?_ | with_reducible refine Kept.of_trd (by with_reducible assumption) ?_
    | with_reducible apply foldl_kept | simp only [Kept.upd_iff, Kept.updStart_iff] | intro _ _ _ | intro _ _ | split
    | (fail_if_no_progress dsimp only)

theorem State.msgJoinReq_kept {r s : State} (h : Kept r s) (a : Nat) (b : Nat) (c : Half) (d : Nat) : Kept r (State.msgJoinReq s a b c d) := by
  simp only [State.msgJoinReq]
  repeat'
    first
    | with_reducible assumption | with_reducible apply State.acks_kept | with_reducible apply State.setTml_kept
    | with_reducible apply State.leadRec_kept | with_reducible apply State.send_kept | with_reducible apply foldl_kept
    | simp only [Kept.upd_iff, Kept.updStart_iff] | intro _ _ _ | intro _ _ | split | (fail_if_no_progress dsimp only)

theorem State.msgJoinGrant_kept {r s : State} (h : Kept r s) (a : Nat) (b : Nat) (c : Half) (d : Nat) : Kept r (State.msgJoinGrant s a b c d) := by
  simp only [State.msgJoinGrant]
  repeat'
    first
    | with_reducible assumption | with_reducible apply State.acks_kept | with_reducible apply State.setTml_kept
    | with_reducible apply State.setF_kept | with_reducible apply foldl_kept | simp only [Kept.upd_iff, Kept.updStart_iff] | intro _ _ _
    | intro _ _ | split | (fail_if_no_progress dsimp only)

theorem State.epochStart_kept {r s : State} (h : Kept r s) : Kept r (State.epochStart s) := by
  simp only [State.epochStart]
  repeat'
    first
    | with_reducible assumption | with_reducible apply State.setTml_kept | with_reducible apply State.epochEdge_kept
    | with_reducible apply foldl_kept | simp only [Kept.upd_iff, Kept.updStart_iff] | intro _ _ _ | intro _ _ | split
    | (fail_if_no_progress dsimp only)

theorem State.msgEpoch_kept {r s : State} (h : Kept r s) (a : Nat) (b : Nat) (c : Nat) (d : EpochMsg) : Kept r (State.msgEpoch s a b c d) := by
  simp only [State.msgEpoch]
  repeat'
    first
    | with_reducible assumption | with_reducible apply State.flooded_kept | with_reducible apply State.epochStart_kept
    | with_reducible apply State.setReg_kept | with_reducible apply State.setTml_kept | with_reducible apply State.announced_kept
    | with_reducible refine Kept.of_snd (by with_reducible assumption) ?_ | with_reducible refine Kept.of_fst (by with_reducible assumption) ?_
    | with_reducible refine Kept.of_trd (by with_reducible assumption) ?_ | with_reducible apply foldl_kept
    | simp only [Kept.upd_iff, Kept.updStart_iff] | intro _ _ _ | intro _ _ | split | (fail_if_no_progress dsimp only)

theorem State.announceEpoch_kept {r s : State} (h : Kept r s) (a : Nat) : Kept r (State.announceEpoch s a) := by
  simp only [State.announceEpoch]
  repeat'
    first
    | with_reducible assumption | with_reducible apply State.setReg_kept | with_reducible apply State.setTml_kept
    | with_reducible apply State.broadcast_kept | with_reducible refine Kept.of_snd (by with_reducible assumption) ?_
    | with_reducible refine Kept.of_fst (by with_reducible assumption) ?_ | with_reducible refine Kept.of_trd (by with_reducible assumption) ?_
    | with_reducible apply foldl_kept | simp only [Kept.upd_iff, Kept.updStart_iff] | intro _ _ _ | intro _ _ | split
    | (fail_if_no_progress dsimp only)

theorem State.epochTick_kept {r s : State} (h : Kept r s) : Kept r (State.epochTick s) := by
  simp only [State.epochTick]
  repeat'
    first
    | with_reducible assumption | with_reducible apply State.setReg_kept | with_reducible apply State.epochStart_kept
    | with_reducible apply State.announceEpoch_kept | with_reducible refine Kept.of_snd (by with_reducible assumption) ?_
    | with_reducible refine Kept.of_fst (by with_reducible assumption) ?_ | with_reducible refine Kept.of_trd (by with_reducible assumption) ?_
    | with_reducible apply foldl_kept | simp only [Kept.upd_iff, Kept.updStart_iff] | intro _ _ _ | intro _ _ | split
    | (fail_if_no_progress dsimp only)

theorem State.epochGuess_kept {r s : State} (h : Kept r s) : Kept r (State.epochGuess s) := by
  simp only [State.epochGuess]
  repeat'
    first
    | with_reducible assumption | with_reducible apply State.epochStart_kept | with_reducible apply State.setReg_kept
    | with_reducible apply foldl_kept | simp only [Kept.upd_iff, Kept.updStart_iff] | intro _ _ _ | intro _ _ | split
    | (fail_if_no_progress dsimp only)

theorem State.msgAt_kept {r s : State} (h : Kept r s) (a : Nat) (b : Nat) (c : Nat) (d : Nat) : Kept r (State.msgAt s a b c d) := by
  simp only [State.msgAt]
  repeat'
    first
    | with_reducible assumption | with_reducible apply State.setTml_kept | with_reducible apply State.atAct_kept
    | with_reducible apply State.flooded_kept | with_reducible apply State.bump_kept
    | with_reducible refine Kept.of_snd (by with_reducible assumption) ?_ | with_reducible refine Kept.of_fst (by with_reducible assumption) ?_
    | with_reducible refine Kept.of_trd (by with_reducible assumption) ?_ | with_reducible apply foldl_kept
    | simp only [Kept.upd_iff, Kept.updStart_iff] | intro _ _ _ | intro _ _ | split | (fail_if_no_progress dsimp only)

theorem State.atReached_kept {r s : State} (h : Kept r s) : Kept r (State.atReached s) := by
  simp only [State.atReached]
  repeat'
    first
    | with_reducible assumption | with_reducible apply State.setTml_kept | with_reducible apply State.atAct_kept
    | with_reducible apply foldl_kept | simp only [Kept.upd_iff, Kept.updStart_iff] | intro _ _ _ | intro _ _ | split
    | (fail_if_no_progress dsimp only)

theorem State.heartbeat_kept {r s : State} (h : Kept r s) : Kept r (State.heartbeat s) := by
  simp only [State.heartbeat]
  repeat'
    first
    | with_reducible assumption | with_reducible apply State.setTml_kept | with_reducible apply State.broadcast_kept
    | with_reducible apply State.draw_kept | with_reducible refine Kept.of_snd (by with_reducible assumption) ?_
    | with_reducible refine Kept.of_fst (by with_reducible assumption) ?_ | with_reducible refine Kept.of_trd (by with_reducible assumption) ?_
    | with_reducible apply foldl_kept | simp only [Kept.upd_iff, Kept.updStart_iff] | intro _ _ _ | intro _ _ | split
    | (fail_if_no_progress dsimp only)

theorem State.leadTimeout_kept {r s : State} (h : Kept r s) : Kept r (State.leadTimeout s) := by
  simp only [State.leadTimeout]
  repeat'
    first
    | with_reducible assumption | with_reducible apply State.dropNode_kept | with_reducible apply State.leadLost_kept
    | with_reducible apply State.broadcast_kept | with_reducible apply foldl_kept | simp only [Kept.upd_iff, Kept.updStart_iff] | intro _ _ _
    | intro _ _ | split | (fail_if_no_progress dsimp only)

theorem State.settleEnd_kept {r s : State} (h : Kept r s) : Kept r (State.settleEnd s) := by
  unfold State.settleEnd
  split
  · exact h
  · split
    · exact h
    · extract_lets old s1 s2 far s3 newLead s4 s5 s6 s7 s8 bare
      clear_value old
      have h1 : Kept r s1 := State.setTml_kept h _
      have h2 : Kept r s2 := by
        dsimp only [s2]
        split
        · exact Kept.ite (State.dropNode_kept h1 _) h1
        · exact h1
      have h3 : Kept r s3 := foldl_kept h2 (fun _ _ h => State.dropNode_kept h _)
      have h4 : Kept r s4 := State.when_kept h3 _ _ (fun _ h => State.leadRec_kept h _ _)
      split
      · split
        · exact h4
        · have h5 : Kept r s5 := State.setB_kept (State.setF_kept h4 _ _ _ _ _ _) _ _ _ _ _
          have h6 : Kept r s6 := State.leadRec_kept (State.bump_kept h5 _ _ _ _ _ _) _ _
          have h7 : Kept r s7 := State.sendLead_kept (State.treeUpdate_kept (State.setTml_kept h6 _))
          have h8 : Kept r s8 := Kept.ite (State.startKex_kept h7 _) h7
          exact State.rekeyFor_kept (foldl_kept h8 (fun _ _ h => State.startKex_kept h _)) _
      · exact Kept.ite (State.sendLead_kept (State.treeUpdate_kept h4)) (State.treeUpdate_kept h4)

theorem State.plannedLeave_kept {r s : State} (h : Kept r s) : Kept r (State.plannedLeave s) := by
  simp only [State.plannedLeave]
  repeat'
    first
    | with_reducible assumption | with_reducible apply State.setTml_kept | with_reducible apply State.endUnlaunched_kept
    | with_reducible apply State.dropDue_kept | with_reducible apply foldl_kept | simp only [Kept.upd_iff, Kept.updStart_iff] | intro _ _ _
    | intro _ _ | split | (fail_if_no_progress dsimp only)

theorem State.leaveLimit_kept {r s : State} (h : Kept r s) : Kept r (State.leaveLimit s) := by
  simp only [State.leaveLimit]
  repeat'
    first
    | with_reducible assumption | with_reducible apply State.setTml_kept | with_reducible apply State.finishLeave_kept
    | with_reducible apply State.xferSquash_kept | with_reducible apply State.send_kept | with_reducible apply foldl_kept
    | simp only [Kept.upd_iff, Kept.updStart_iff] | intro _ _ _ | intro _ _ | split | (fail_if_no_progress dsimp only)

theorem State.rejoin_kept {r s : State} (h : Kept r s) : Kept r (State.rejoin s) := by
  simp only [State.rejoin]
  repeat'
    first
    | with_reducible assumption | with_reducible apply State.trainPort_kept | with_reducible apply foldl_kept
    | simp only [Kept.upd_iff, Kept.updStart_iff] | intro _ _ _ | intro _ _ | split | (fail_if_no_progress dsimp only)

theorem State.stepTime_kept {r s : State} (h : Kept r s) (a : Int) : Kept r (State.stepTime s a) := by
  simp only [State.stepTime]
  repeat'
    first
    | with_reducible assumption | with_reducible apply State.setCyc_kept | with_reducible apply State.when_kept
    | with_reducible apply State.setReg_kept | with_reducible apply foldl_kept | simp only [Kept.upd_iff, Kept.updStart_iff] | intro _ _ _
    | intro _ _ | split | (fail_if_no_progress dsimp only)

theorem State.timeFrame_kept {r s : State} (h : Kept r s) (a : Nat) (b : Int) (c : Int) (d : Int) (e : Int) : Kept r (State.timeFrame s a b c d e)
  := by
  unfold State.timeFrame
  extract_lets lead asym n off sat s1 s2 good bad s3 locked s4
  split
  · exact h
  · have h1 : Kept r s1 := State.setF_kept h _ _ _ _ _ _
    have h2 : Kept r s2 := State.when_kept h1 _ _ (fun _ h => State.setTml_kept h _)
    have h3 : Kept r s3 := State.setTml_kept h2 _
    have h4 : Kept r s4 := State.setB_kept h3 _ _ _ _ _
    split
    · exact State.stepTime_kept (State.setTml_kept h1 _) _
    split
    · split
      · exact h4
      · exact State.startKex_kept h4 _
    split
    · exact State.leadRec_kept (State.bump_kept (State.setB_kept h3 _ _ _ _ _) _ _ _ _ _ _) _ _
    · exact h3

theorem State.clearPend_kept {r s : State} (h : Kept r s) (a : Nat) : Kept r (State.clearPend s a) := by
  exact Kept.upd_iff.2 h

theorem State.claim_kept {r s : State} (h : Kept r s) (a : Nat) : Kept r (State.claim s a) := by
  simp only [State.claim]
  repeat'
    first
    | with_reducible assumption | with_reducible apply State.clearPend_kept | with_reducible apply State.updLine_kept
    | with_reducible apply State.setB_kept | with_reducible apply foldl_kept | simp only [Kept.upd_iff, Kept.updStart_iff] | intro _ _ _
    | intro _ _ | split | (fail_if_no_progress dsimp only)

theorem State.eoi_kept {r s : State} (h : Kept r s) (a : Nat) : Kept r (State.eoi s a) := by
  simp only [State.eoi]
  repeat'
    first
    | with_reducible assumption | with_reducible apply State.updLine_kept | with_reducible apply State.setB_kept
    | with_reducible apply foldl_kept | simp only [Kept.upd_iff, Kept.updStart_iff] | intro _ _ _ | intro _ _ | split
    | (fail_if_no_progress dsimp only)

theorem State.writeLineMask_kept {r s : State} (h : Kept r s) (a : Nat) (b : Bool) : Kept r (State.writeLineMask s a b) := by
  simp only [State.writeLineMask]
  repeat'
    first
    | with_reducible assumption | with_reducible apply State.updLine_kept | with_reducible apply State.setB_kept
    | with_reducible apply foldl_kept | simp only [Kept.upd_iff, Kept.updStart_iff] | intro _ _ _ | intro _ _ | split
    | (fail_if_no_progress dsimp only)

theorem State.writeIrqEn_kept {r s : State} (h : Kept r s) (a : Nat) (b : Word) : Kept r (State.writeIrqEn s a b) := by
  simp only [State.writeIrqEn]
  repeat'
    first
    | with_reducible assumption | with_reducible apply State.updLine_kept | with_reducible apply State.setReg_kept
    | with_reducible apply foldl_kept | simp only [Kept.upd_iff, Kept.updStart_iff] | intro _ _ _ | intro _ _ | split
    | (fail_if_no_progress dsimp only)

theorem State.writeIrqPend_kept {r s : State} (h : Kept r s) (a : Nat) (b : Word) : Kept r (State.writeIrqPend s a b) := by
  simp only [State.writeIrqPend]
  repeat'
    first
    | with_reducible assumption | with_reducible apply State.clearPend_kept | with_reducible apply State.updLine_kept
    | with_reducible apply foldl_kept | simp only [Kept.upd_iff, Kept.updStart_iff] | intro _ _ _ | intro _ _ | split
    | (fail_if_no_progress dsimp only)

theorem State.updQuenched_kept {r s : State} (h : Kept r s) (a : Nat) : Kept r (State.updQuenched s a) := by
  simp only [State.updQuenched]
  repeat'
    first
    | with_reducible assumption | with_reducible apply State.setB_kept | with_reducible apply foldl_kept
    | simp only [Kept.upd_iff, Kept.updStart_iff] | intro _ _ _ | intro _ _ | split | (fail_if_no_progress dsimp only)

theorem State.writeMap_kept {r s : State} (h : Kept r s) (a : Nat) (b : Nat) (c : Word) : Kept r (State.writeMap s a b c) := by
  simp only [State.writeMap]
  repeat'
    first
    | with_reducible assumption | with_reducible apply State.setB_kept | with_reducible apply State.clearPend_kept
    | with_reducible apply State.setReg_kept | with_reducible apply State.updQuenched_kept | with_reducible apply State.updLine_kept
    | with_reducible refine Kept.of_snd (by with_reducible assumption) ?_ | with_reducible refine Kept.of_fst (by with_reducible assumption) ?_
    | with_reducible refine Kept.of_trd (by with_reducible assumption) ?_ | with_reducible apply foldl_kept
    | simp only [Kept.upd_iff, Kept.updStart_iff] | intro _ _ _ | intro _ _ | split | (fail_if_no_progress dsimp only)

theorem State.unquench_kept {r s : State} (h : Kept r s) (a : Nat) : Kept r (State.unquench s a) := by
  simp only [State.unquench]
  repeat'
    first
    | with_reducible assumption | with_reducible apply State.updQuenched_kept | with_reducible apply State.raise_kept
    | with_reducible apply State.updLine_kept | with_reducible apply State.when_kept | with_reducible apply State.setArrBit_kept
    | with_reducible apply foldl_kept | simp only [Kept.upd_iff, Kept.updStart_iff] | intro _ _ _ | intro _ _ | split
    | (fail_if_no_progress dsimp only)

theorem State.writeQuench_kept {r s : State} (h : Kept r s) (a : Nat) (b : Word) : Kept r (State.writeQuench s a b) := by
  simp only [State.writeQuench]
  repeat'
    first
    | with_reducible assumption | with_reducible apply State.unquench_kept | with_reducible apply foldl_kept
    | simp only [Kept.upd_iff, Kept.updStart_iff] | intro _ _ _ | intro _ _ | split | (fail_if_no_progress dsimp only)

theorem State.stormWindow_kept {r s : State} (h : Kept r s) : Kept r (State.stormWindow s) := by
  exact Kept.upd_iff.2 h

theorem State.writeMsix_kept {r s : State} (h : Kept r s) (a : Nat) (b : MsixMask) : Kept r (State.writeMsix s a b) := by
  simp only [State.writeMsix]
  repeat'
    first
    | with_reducible assumption | with_reducible apply State.setMsixMask_kept | with_reducible apply State.setMsixPend_kept
    | with_reducible apply State.when_kept | with_reducible apply State.emit_kept
    | with_reducible refine Kept.of_snd (by with_reducible assumption) ?_ | with_reducible refine Kept.of_fst (by with_reducible assumption) ?_
    | with_reducible refine Kept.of_trd (by with_reducible assumption) ?_ | with_reducible apply foldl_kept
    | simp only [Kept.upd_iff, Kept.updStart_iff] | intro _ _ _ | intro _ _ | split | (fail_if_no_progress dsimp only)

theorem State.writeMgPend_kept {r s : State} (h : Kept r s) (a : Nat) (b : Word) : Kept r (State.writeMgPend s a b) := by
  simp only [State.writeMgPend]
  repeat'
    first
    | with_reducible assumption | with_reducible apply State.setReg_kept | with_reducible apply State.when_kept
    | with_reducible refine Kept.of_snd (by with_reducible assumption) ?_ | with_reducible refine Kept.of_fst (by with_reducible assumption) ?_
    | with_reducible refine Kept.of_trd (by with_reducible assumption) ?_ | with_reducible apply foldl_kept
    | simp only [Kept.upd_iff, Kept.updStart_iff] | intro _ _ _ | intro _ _ | split | (fail_if_no_progress dsimp only)

theorem State.writeMgEn_kept {r s : State} (h : Kept r s) (a : Nat) (b : Word) : Kept r (State.writeMgEn s a b) := by
  simp only [State.writeMgEn]
  repeat'
    first
    | with_reducible assumption | with_reducible apply State.setReg_kept | with_reducible apply State.ibiAfter_kept
    | with_reducible refine Kept.of_snd (by with_reducible assumption) ?_ | with_reducible refine Kept.of_fst (by with_reducible assumption) ?_
    | with_reducible refine Kept.of_trd (by with_reducible assumption) ?_ | with_reducible apply foldl_kept
    | simp only [Kept.upd_iff, Kept.updStart_iff] | intro _ _ _ | intro _ _ | split | (fail_if_no_progress dsimp only)

theorem State.hostDown_kept {r s : State} (h : Kept r s) : Kept r (State.hostDown s) := by
  simp only [State.hostDown]
  repeat'
    first
    | with_reducible assumption | with_reducible apply State.when_kept | with_reducible apply State.setB_kept
    | with_reducible apply State.setF_kept | with_reducible apply foldl_kept | simp only [Kept.upd_iff, Kept.updStart_iff] | intro _ _ _
    | intro _ _ | split | (fail_if_no_progress dsimp only)

theorem State.hostGone_kept {r s : State} (h : Kept r s) (a : Nat) : Kept r (State.hostGone s a) := by
  simp only [State.hostGone]
  repeat'
    first
    | with_reducible assumption | with_reducible apply State.hostDown_kept | with_reducible apply State.setB_kept
    | with_reducible apply State.startHostLoss_kept | with_reducible refine Kept.of_snd (by with_reducible assumption) ?_
    | with_reducible refine Kept.of_fst (by with_reducible assumption) ?_ | with_reducible refine Kept.of_trd (by with_reducible assumption) ?_
    | with_reducible apply foldl_kept | simp only [Kept.upd_iff, Kept.updStart_iff] | intro _ _ _ | intro _ _ | split
    | (fail_if_no_progress dsimp only)

theorem State.clockLost_kept {r s : State} (h : Kept r s) (a : Nat) : Kept r (State.clockLost s a) := by
  simp only [State.clockLost]
  repeat'
    first
    | with_reducible assumption | with_reducible apply State.setB_kept | with_reducible apply State.when_kept
    | with_reducible apply State.hostGone_kept | with_reducible apply State.portDown_kept | with_reducible apply State.bump_kept
    | with_reducible refine Kept.of_snd (by with_reducible assumption) ?_ | with_reducible refine Kept.of_fst (by with_reducible assumption) ?_
    | with_reducible refine Kept.of_trd (by with_reducible assumption) ?_ | with_reducible apply foldl_kept
    | simp only [Kept.upd_iff, Kept.updStart_iff] | intro _ _ _ | intro _ _ | split | (fail_if_no_progress dsimp only)

theorem State.clockReturn_kept {r s : State} (h : Kept r s) (a : Nat) : Kept r (State.clockReturn s a) := by
  simp only [State.clockReturn]
  repeat'
    first
    | with_reducible assumption | with_reducible apply State.trainPort_kept | with_reducible apply State.setB_kept
    | with_reducible apply foldl_kept | simp only [Kept.upd_iff, Kept.updStart_iff] | intro _ _ _ | intro _ _ | split
    | (fail_if_no_progress dsimp only)

theorem State.hostLost_kept {r s : State} (h : Kept r s) (a : LossCause) : Kept r (State.hostLost s a) := by
  simp only [State.hostLost]
  repeat'
    first
    | with_reducible assumption | with_reducible apply State.hostGone_kept | with_reducible refine Kept.of_snd (by with_reducible assumption) ?_
    | with_reducible refine Kept.of_fst (by with_reducible assumption) ?_ | with_reducible refine Kept.of_trd (by with_reducible assumption) ?_
    | with_reducible apply foldl_kept | simp only [Kept.upd_iff, Kept.updStart_iff] | intro _ _ _ | intro _ _ | split
    | (fail_if_no_progress dsimp only)

theorem State.hostReturn_kept {r s : State} (h : Kept r s) (a : Nat) (b : Nat) : Kept r (State.hostReturn s a b) := by
  simp only [State.hostReturn]
  repeat'
    first
    | with_reducible assumption | with_reducible apply State.setB_kept | with_reducible apply State.setF_kept | with_reducible apply foldl_kept
    | simp only [Kept.upd_iff, Kept.updStart_iff] | intro _ _ _ | intro _ _ | split | (fail_if_no_progress dsimp only)

theorem State.hostReset_kept {r s : State} (h : Kept r s) : Kept r (State.hostReset s) := by
  simp only [State.hostReset]
  repeat'
    first
    | with_reducible assumption | with_reducible apply State.hostDown_kept | with_reducible apply State.startFlr_kept
    | with_reducible apply State.when_kept | with_reducible apply State.setB_kept | with_reducible apply foldl_kept
    | simp only [Kept.upd_iff, Kept.updStart_iff] | intro _ _ _ | intro _ _ | split | (fail_if_no_progress dsimp only)

theorem State.setDyn_kept {r s : State} (h : Kept r s) (a : Nat) : Kept r (State.setDyn s a) := by
  simp only [State.setDyn]
  repeat'
    first
    | with_reducible assumption | with_reducible apply State.setB_kept | with_reducible apply State.setF_kept | with_reducible apply foldl_kept
    | simp only [Kept.upd_iff, Kept.updStart_iff] | intro _ _ _ | intro _ _ | split | (fail_if_no_progress dsimp only)

theorem State.entdaa_kept {r s : State} (h : Kept r s) (a : Nat) : Kept r (State.entdaa s a) := by
  simp only [State.entdaa]
  repeat'
    first
    | with_reducible assumption | with_reducible apply State.setDyn_kept | with_reducible apply foldl_kept
    | simp only [Kept.upd_iff, Kept.updStart_iff] | intro _ _ _ | intro _ _ | split | (fail_if_no_progress dsimp only)

theorem State.setdasa_kept {r s : State} (h : Kept r s) (a : Nat) (b : Nat) : Kept r (State.setdasa s a b) := by
  simp only [State.setdasa]
  repeat'
    first
    | with_reducible assumption | with_reducible apply State.setDyn_kept | with_reducible apply foldl_kept
    | simp only [Kept.upd_iff, Kept.updStart_iff] | intro _ _ _ | intro _ _ | split | (fail_if_no_progress dsimp only)

theorem State.setRstact_kept {r s : State} (h : Kept r s) (a : RstAct) : Kept r (State.setRstact s a) := by
  simp only [State.setRstact]
  repeat'
    first
    | with_reducible assumption | with_reducible apply foldl_kept | simp only [Kept.upd_iff, Kept.updStart_iff] | intro _ _ _ | intro _ _ | split
    | (fail_if_no_progress dsimp only)

theorem State.periphReset_kept {r s : State} (h : Kept r s) : Kept r (State.periphReset s) := by
  simp only [State.periphReset]
  repeat'
    first
    | with_reducible assumption | with_reducible apply State.setRstact_kept | with_reducible apply State.setB_kept
    | with_reducible apply State.setF_kept | with_reducible apply foldl_kept | simp only [Kept.upd_iff, Kept.updStart_iff] | intro _ _ _
    | intro _ _ | split | (fail_if_no_progress dsimp only)

theorem State.hdrDdr_kept {r s : State} (h : Kept r s) : Kept r (State.hdrDdr s) := by
  simp only [State.hdrDdr]
  repeat'
    first
    | with_reducible assumption | with_reducible apply State.setB_kept | with_reducible apply foldl_kept
    | simp only [Kept.upd_iff, Kept.updStart_iff] | intro _ _ _ | intro _ _ | split | (fail_if_no_progress dsimp only)

theorem State.selectIr_kept {r s : State} (h : Kept r s) (a : Nat) : Kept r (State.selectIr s a) := by
  exact Kept.upd_iff.2 h

theorem State.vxbStop_kept {r s : State} (h : Kept r s) : Kept r (State.vxbStop s) := by
  simp only [State.vxbStop]
  repeat'
    first
    | with_reducible assumption | with_reducible apply State.selectIr_kept | with_reducible apply State.globalStop_kept
    | with_reducible apply foldl_kept | simp only [Kept.upd_iff, Kept.updStart_iff] | intro _ _ _ | intro _ _ | split
    | (fail_if_no_progress dsimp only)

theorem State.vxbScan_kept {r s : State} (h : Kept r s) : Kept r (State.vxbScan s) := by
  simp only [State.vxbScan]
  repeat'
    first
    | with_reducible assumption | with_reducible apply State.selectIr_kept | with_reducible apply State.scanNext_kept
    | with_reducible apply foldl_kept | simp only [Kept.upd_iff, Kept.updStart_iff] | intro _ _ _ | intro _ _ | split
    | (fail_if_no_progress dsimp only)

theorem State.debugReset_kept {r s : State} (h : Kept r s) : Kept r (State.debugReset s) := by
  exact Kept.upd_iff.2 h

theorem State.updDin_kept {r s : State} (h : Kept r s) (a : Nat) (b : Din → Din) : Kept r (State.updDin s a b) := by
  exact Kept.upd_iff.2 h

theorem State.composeOver_kept {r s : State} (h : Kept r s) (a : Run) : Kept r (State.composeOver s a) := by
  simp only [State.composeOver]
  repeat'
    first
    | with_reducible assumption | with_reducible apply State.updEng_kept | with_reducible apply State.doneArrives_kept
    | with_reducible refine Kept.of_snd (by with_reducible assumption) ?_ | with_reducible refine Kept.of_fst (by with_reducible assumption) ?_
    | with_reducible refine Kept.of_trd (by with_reducible assumption) ?_ | with_reducible apply foldl_kept
    | simp only [Kept.upd_iff, Kept.updStart_iff] | intro _ _ _ | intro _ _ | split | (fail_if_no_progress dsimp only)

theorem State.composeLatch_kept {r s : State} (h : Kept r s) : Kept r (State.composeLatch s) := by
  simp only [State.composeLatch]
  repeat'
    first
    | with_reducible assumption | with_reducible apply State.composeOver_kept | with_reducible apply State.draw_kept
    | with_reducible apply State.updTask_kept | with_reducible apply State.when_kept | with_reducible apply State.writeMem_kept
    | with_reducible refine Kept.of_snd (by with_reducible assumption) ?_ | with_reducible refine Kept.of_fst (by with_reducible assumption) ?_
    | with_reducible refine Kept.of_trd (by with_reducible assumption) ?_ | with_reducible apply foldl_kept
    | simp only [Kept.upd_iff, Kept.updStart_iff] | intro _ _ _ | intro _ _ | split | (fail_if_no_progress dsimp only)

theorem State.engineDone_kept {r s : State} (h : Kept r s) (a : HeldDone) : Kept r (State.engineDone s a) := by
  simp only [State.engineDone]
  repeat'
    first
    | with_reducible assumption | with_reducible apply State.updEng_kept | with_reducible apply State.doneArrives_kept
    | with_reducible refine Kept.of_snd (by with_reducible assumption) ?_ | with_reducible refine Kept.of_fst (by with_reducible assumption) ?_
    | with_reducible refine Kept.of_trd (by with_reducible assumption) ?_ | with_reducible apply foldl_kept
    | simp only [Kept.upd_iff, Kept.updStart_iff] | intro _ _ _ | intro _ _ | split | (fail_if_no_progress dsimp only)

theorem State.dinRecord_kept {r s : State} (h : Kept r s) (a : Nat) : Kept r (State.dinRecord s a) := by
  simp only [State.dinRecord]
  repeat'
    first
    | with_reducible assumption | with_reducible apply State.recordLocal_kept | with_reducible apply State.setB_kept
    | with_reducible apply foldl_kept | simp only [Kept.upd_iff, Kept.updStart_iff] | intro _ _ _ | intro _ _ | split
    | (fail_if_no_progress dsimp only)

theorem State.epochEdge0_kept {r s : State} (h : Kept r s) : Kept r (State.epochEdge0 s) := by
  simp only [State.epochEdge0]
  repeat'
    first
    | with_reducible assumption | with_reducible apply State.setTml_kept | with_reducible apply State.announceEpoch_kept
    | with_reducible refine Kept.of_snd (by with_reducible assumption) ?_ | with_reducible refine Kept.of_fst (by with_reducible assumption) ?_
    | with_reducible refine Kept.of_trd (by with_reducible assumption) ?_ | with_reducible apply foldl_kept
    | simp only [Kept.upd_iff, Kept.updStart_iff] | intro _ _ _ | intro _ _ | split | (fail_if_no_progress dsimp only)

theorem State.dinAccept_kept {r s : State} (h : Kept r s) (a : Nat) : Kept r (State.dinAccept s a) := by
  simp only [State.dinAccept]
  repeat'
    first
    | with_reducible assumption | with_reducible apply State.wake_kept | with_reducible apply State.setReg_kept
    | with_reducible apply State.when_kept | with_reducible apply State.bump_kept | with_reducible apply State.setB_kept
    | with_reducible apply State.updDin_kept | with_reducible apply State.epochEdge0_kept | with_reducible apply State.emit_kept
    | with_reducible apply State.composeLatch_kept | with_reducible apply State.vsyncEdge_kept | with_reducible apply State.raise_kept
    | with_reducible apply State.dinRecord_kept | with_reducible apply State.freeze_kept
    | with_reducible refine Kept.of_snd (by with_reducible assumption) ?_ | with_reducible refine Kept.of_fst (by with_reducible assumption) ?_
    | with_reducible refine Kept.of_trd (by with_reducible assumption) ?_ | with_reducible apply foldl_kept
    | simp only [Kept.upd_iff, Kept.updStart_iff] | intro _ _ _ | intro _ _ | split | (fail_if_no_progress dsimp only)

theorem State.dinEdge_kept {r s : State} (h : Kept r s) (a : Nat) (b : Bool) : Kept r (State.dinEdge s a b) := by
  simp only [State.dinEdge]
  repeat'
    first
    | with_reducible assumption | with_reducible apply State.dinAccept_kept | with_reducible apply State.updDin_kept
    | with_reducible apply State.when_kept | with_reducible apply State.bump_kept | with_reducible apply State.setB_kept
    | with_reducible apply foldl_kept | simp only [Kept.upd_iff, Kept.updStart_iff] | intro _ _ _ | intro _ _ | split
    | (fail_if_no_progress dsimp only)

theorem State.dinStuck_kept {r s : State} (h : Kept r s) (a : Nat) : Kept r (State.dinStuck s a) := by
  simp only [State.dinStuck]
  repeat'
    first
    | with_reducible assumption | with_reducible apply State.logErr_kept | with_reducible apply State.raise_kept
    | with_reducible apply State.setB_kept | with_reducible apply foldl_kept | simp only [Kept.upd_iff, Kept.updStart_iff] | intro _ _ _
    | intro _ _ | split | (fail_if_no_progress dsimp only)

theorem State.dinPendClear_kept {r s : State} (h : Kept r s) (a : Nat) : Kept r (State.dinPendClear s a) := by
  simp only [State.dinPendClear]
  repeat'
    first
    | with_reducible assumption | with_reducible apply State.updDin_kept | with_reducible apply State.setB_kept | with_reducible apply foldl_kept
    | simp only [Kept.upd_iff, Kept.updStart_iff] | intro _ _ _ | intro _ _ | split | (fail_if_no_progress dsimp only)

theorem State.dinUnquench_kept {r s : State} (h : Kept r s) (a : Nat) : Kept r (State.dinUnquench s a) := by
  simp only [State.dinUnquench]
  repeat'
    first
    | with_reducible assumption | with_reducible apply State.setB_kept | with_reducible apply foldl_kept
    | simp only [Kept.upd_iff, Kept.updStart_iff] | intro _ _ _ | intro _ _ | split | (fail_if_no_progress dsimp only)

theorem State.dinCfg_kept {r s : State} (h : Kept r s) (a : Nat) (b : Word) : Kept r (State.dinCfg s a b) := by
  simp only [State.dinCfg]
  repeat'
    first
    | with_reducible assumption | with_reducible apply State.dinUnquench_kept | with_reducible apply State.updDin_kept
    | with_reducible apply State.when_kept | with_reducible apply State.setB_kept | with_reducible apply State.setReg_kept
    | with_reducible apply foldl_kept | simp only [Kept.upd_iff, Kept.updStart_iff] | intro _ _ _ | intro _ _ | split
    | (fail_if_no_progress dsimp only)

theorem State.setSeqr_kept {r s : State} (h : Kept r s) (a : Nat) (b : Seqr) : Kept r (State.setSeqr s a b) := by
  exact Kept.upd_iff.2 h

theorem State.microFault_kept {r s : State} (h : Kept r s) (a : Nat) (b : Nat) (c : Option (Nat × Flight)) (d : Bool) (e : Bool) (g : Nat) (i :
  Word) : Kept r (State.microFault s a b c d e g i) := by
  simp only [State.microFault]
  repeat'
    first
    | with_reducible assumption | with_reducible apply State.guilty_kept | with_reducible apply State.startRegrow_kept
    | with_reducible apply foldl_kept | simp only [Kept.upd_iff, Kept.updStart_iff] | intro _ _ _ | intro _ _ | split
    | (fail_if_no_progress dsimp only)

theorem State.flow_kept {r s : State} (h : Kept r s) (a : Nat) (b : Nat) (c : Option (Nat × Flight)) (d : Bool) (e : BitVec 128) (g : Seqr) (i :
  Bool) : Kept r (State.flow s a b c d e g i) := by
  simp only [State.flow]
  repeat'
    first
    | with_reducible assumption | with_reducible apply State.microFault_kept | with_reducible apply State.setSeqr_kept
    | with_reducible apply State.settle_kept | with_reducible apply State.updFlight_kept | with_reducible apply foldl_kept
    | simp only [Kept.upd_iff, Kept.updStart_iff] | intro _ _ _ | intro _ _ | split | (fail_if_no_progress dsimp only)

theorem State.microIssue_kept {r s : State} (h : Kept r s) (a : Nat) (b : Nat) (c : Option (Nat × Flight)) (d : Bool) (e : BitVec 128) (g : Seqr) (i
  : Nat) (j : Option Word) : Kept r (State.microIssue s a b c d e g i j) := by
  simp only [State.microIssue]
  repeat'
    first
    | with_reducible assumption | with_reducible apply State.flow_kept | with_reducible apply State.settle_kept
    | with_reducible apply State.updFlight_kept | with_reducible apply foldl_kept | simp only [Kept.upd_iff, Kept.updStart_iff] | intro _ _ _
    | intro _ _ | split | (fail_if_no_progress dsimp only)

theorem Seqr.shakeIssue_go {s u : State} {q q1 : Seqr} {got : Option Word} (e : q.shakeIssue s = .go u q1 got) : u = s := by
  revert e
  simp only [Seqr.shakeIssue]
  repeat' split
  all_goals first | (intro e; injection e; done) | (intro e; injection e with a; exact a.symm)

theorem Seqr.shakeMrd_go {r s u : State} (h : Kept r s) {q q1 : Seqr} {f : Option (Nat × Flight)} {data : Word} {got : Option Word} (e :
    q.shakeMrd s f data = .go u q1 got) : Kept r u := by
  revert e
  unfold Seqr.shakeMrd
  split
  · intro e; injection e
  split
  · intro e; injection e
  · intro e
    injection e with a
    subst a
    split
    · exact State.readMem_kept h _ _ _
    · exact h

theorem Seqr.takeMrd_go {s u : State} {q q1 : Seqr} {part : Option Nat} {inp : MicroIn} {got : Option Word}
    (e : q.takeMrd s part inp = .go u q1 got) : u = s := by
  revert e
  unfold Seqr.takeMrd
  repeat' split
  all_goals first | (intro e; injection e; done) | (intro e; injection e with a; exact a.symm)

theorem Seqr.takeEvrd_go {s u : State} {q q1 : Seqr} {part : Option Nat} {inp : MicroIn} {got : Option Word} (e : q.takeEvrd s part inp = .go u q1
    got) : u = s := by
  revert e
  unfold Seqr.takeEvrd Seqr.eventTake Seqr.remoteTake
  repeat' split
  all_goals first | (intro e; injection e; done) | (intro e; injection e with a; exact a.symm)

theorem State.shake_kept {r s : State} (h : Kept r s) {q : Seqr} {f : Option (Nat × Flight)} {hop chan : Nat} {data : Word} {inp : MicroIn} {u :
    State} {q1 : Seqr} {got : Option Word} (e : s.shake q f hop chan data inp = .go u q1 got) : Kept r u := by
  revert e
  unfold State.shake
  dsimp only
  split
  · intro e; injection e with a; exact a ▸ h
  split
  · split
    · intro e; injection e with a; exact a ▸ h
    · intro e; injection e
  split
  · intro e; exact (Seqr.shakeIssue_go e) ▸ h
  split
  · split
    · intro e; exact Seqr.shakeMrd_go h e
    · intro e; exact (Seqr.takeMrd_go e) ▸ h
  split
  · split
    · split
      · intro e; injection e
      · intro e; injection e with a; exact a ▸ h
    · intro e; exact (Seqr.takeEvrd_go e) ▸ h
  split
  · intro e; injection e with a; exact a ▸ h
  · intro e
    injection e with a
    subst a
    split
    · exact State.traceCmd_kept h _ _ _
    · exact h

theorem State.microAct_kept {r s : State} (h : Kept r s) (a : Nat) (b : Nat) (c : Option (Nat × Flight)) (d : BitVec 128) (e : MicroIn) : Kept r
  (State.microAct s a b c d e) := by
  simp only [State.microAct]
  generalize e1 : State.shake _ _ _ _ _ _ _ = k
  cases k with
  | wait => exact h
  | fault st ad => exact State.microFault_kept (State.when_kept h _ _ (fun _ h => State.noteRefused_kept h _ _ _)) _ _ _ _ _ _ _
  | early st =>
    simp only
    split
    · exact State.endEarly_kept h _ _
    · exact h
  | go u q got =>
    have hu := State.shake_kept h e1
    clear h e1
    repeat'
      first
      | with_reducible assumption | with_reducible apply State.microFault_kept | with_reducible apply State.microIssue_kept
      | with_reducible apply State.flow_kept | simp only [Kept.upd_iff, Kept.updStart_iff] | intro _ _ | split
      | (fail_if_no_progress dsimp only)

theorem State.micro_kept {r s : State} (h : Kept r s) (a : Nat) (b : BitVec 136) (c : MicroIn) : Kept r (State.micro s a b c) := by
  simp only [State.micro]
  repeat'
    first
    | with_reducible assumption | with_reducible apply State.microAct_kept | with_reducible apply State.guilty_kept
    | with_reducible apply State.startRegrow_kept | with_reducible apply foldl_kept | simp only [Kept.upd_iff, Kept.updStart_iff] | intro _ _ _
    | intro _ _ | split | (fail_if_no_progress dsimp only)

theorem State.microLimit_kept {r s : State} (h : Kept r s) (a : Nat) : Kept r (State.microLimit s a) := by
  simp only [State.microLimit]
  repeat'
    first
    | with_reducible assumption | with_reducible apply State.microFault_kept | with_reducible apply foldl_kept
    | simp only [Kept.upd_iff, Kept.updStart_iff] | intro _ _ _ | intro _ _ | split | (fail_if_no_progress dsimp only)

theorem State.resumeRtn_kept {r s : State} (h : Kept r s) (a : Nat) (b : Nat) : Kept r (State.resumeRtn s a b) := by
  simp only [State.resumeRtn]
  repeat'
    first
    | with_reducible assumption | with_reducible apply State.enterRtn_kept | with_reducible apply State.guilty_kept
    | with_reducible apply State.updFlight_kept | with_reducible apply foldl_kept | simp only [Kept.upd_iff, Kept.updStart_iff] | intro _ _ _
    | intro _ _ | split | (fail_if_no_progress dsimp only)

theorem State.seqPick_kept {r s : State} (h : Kept r s) (a : Nat) : Kept r (State.seqPick s a) := by
  simp only [State.seqPick]
  repeat'
    first
    | with_reducible assumption | with_reducible apply State.resumeRtn_kept | with_reducible apply State.settle_kept
    | with_reducible apply State.updFlight_kept | with_reducible apply State.count_kept | with_reducible apply foldl_kept
    | simp only [Kept.upd_iff, Kept.updStart_iff] | intro _ _ _ | intro _ _ | split | (fail_if_no_progress dsimp only)

theorem State.installImage_kept {r s : State} (h : Kept r s) (a : Nat) (b : McsImage) : Kept r (State.installImage s a b) := by
  simp only [State.installImage]
  repeat'
    first
    | with_reducible assumption | with_reducible apply State.setF_kept | with_reducible apply State.setReg_kept
    | with_reducible apply State.setB_kept | with_reducible refine Kept.of_snd (by with_reducible assumption) ?_
    | with_reducible refine Kept.of_fst (by with_reducible assumption) ?_ | with_reducible refine Kept.of_trd (by with_reducible assumption) ?_
    | with_reducible apply foldl_kept | simp only [Kept.upd_iff, Kept.updStart_iff] | intro _ _ _ | intro _ _ | split
    | (fail_if_no_progress dsimp only)

theorem State.resumeSeq_kept {r s : State} (h : Kept r s) (a : Nat) : Kept r (State.resumeSeq s a) := by
  simp only [State.resumeSeq]
  repeat'
    first
    | with_reducible assumption | with_reducible apply State.resumeRtn_kept | with_reducible apply State.enterRtn_kept
    | with_reducible apply foldl_kept | simp only [Kept.upd_iff, Kept.updStart_iff] | intro _ _ _ | intro _ _ | split
    | (fail_if_no_progress dsimp only)

theorem State.resumeSeqs_kept {r s : State} (h : Kept r s) : Kept r (State.resumeSeqs s) := by
  simp only [State.resumeSeqs]
  repeat'
    first
    | with_reducible assumption | with_reducible apply State.resumeSeq_kept | with_reducible apply foldl_kept
    | simp only [Kept.upd_iff, Kept.updStart_iff] | intro _ _ _ | intro _ _ | split | (fail_if_no_progress dsimp only)

theorem State.applyLoad_kept {r s : State} (h : Kept r s) (a : Load) (b : McsImage) : Kept r (State.applyLoad s a b) := by
  simp only [State.applyLoad]
  repeat'
    first
    | with_reducible assumption | with_reducible apply State.resumeSeqs_kept | with_reducible apply State.installImage_kept
    | with_reducible apply State.imageChanged_kept | with_reducible apply State.endLoad_kept | with_reducible apply State.raise_kept
    | with_reducible apply State.draw_kept | with_reducible refine Kept.of_snd (by with_reducible assumption) ?_
    | with_reducible refine Kept.of_fst (by with_reducible assumption) ?_ | with_reducible refine Kept.of_trd (by with_reducible assumption) ?_
    | with_reducible apply foldl_kept | simp only [Kept.upd_iff, Kept.updStart_iff] | intro _ _ _ | intro _ _ | split
    | (fail_if_no_progress dsimp only)

theorem State.loadRefused_kept {r s : State} (h : Kept r s) (a : Nat) : Kept r (State.loadRefused s a) := by
  simp only [State.loadRefused]
  repeat'
    first
    | with_reducible assumption | with_reducible apply State.setF_kept | with_reducible apply State.emit_kept | with_reducible apply foldl_kept
    | simp only [Kept.upd_iff, Kept.updStart_iff] | intro _ _ _ | intro _ _ | split | (fail_if_no_progress dsimp only)

theorem State.loadBegin_kept {r s : State} (h : Kept r s) (a : Nat) (b : Nat) : Kept r (State.loadBegin s a b) := by
  simp only [State.loadBegin]
  repeat'
    first
    | with_reducible assumption | with_reducible apply State.loadRefused_kept | with_reducible apply State.setB_kept
    | with_reducible apply State.setF_kept | with_reducible apply State.emit_kept | with_reducible apply foldl_kept
    | simp only [Kept.upd_iff, Kept.updStart_iff] | intro _ _ _ | intro _ _ | split | (fail_if_no_progress dsimp only)

theorem State.loadData_kept {r s : State} (h : Kept r s) (a : Nat) (b : List Byte) : Kept r (State.loadData s a b) := by
  simp only [State.loadData]
  repeat'
    first
    | with_reducible assumption | with_reducible apply State.loadRefused_kept | with_reducible apply State.endLoad_kept
    | with_reducible apply State.emit_kept | with_reducible apply foldl_kept | simp only [Kept.upd_iff, Kept.updStart_iff] | intro _ _ _
    | intro _ _ | split | (fail_if_no_progress dsimp only)

theorem State.loadCommit_kept {r s : State} (h : Kept r s) (a : Bool) (b : BitVec 384) : Kept r (State.loadCommit s a b) := by
  simp only [State.loadCommit]
  repeat'
    first
    | with_reducible assumption | with_reducible apply State.endLoad_kept | with_reducible apply State.loadRefused_kept
    | with_reducible apply State.wake_kept | with_reducible apply State.applyLoad_kept | with_reducible apply State.setF_kept
    | with_reducible refine Kept.of_snd (by with_reducible assumption) ?_ | with_reducible refine Kept.of_fst (by with_reducible assumption) ?_
    | with_reducible refine Kept.of_trd (by with_reducible assumption) ?_ | with_reducible apply foldl_kept
    | simp only [Kept.upd_iff, Kept.updStart_iff] | intro _ _ _ | intro _ _ | split | (fail_if_no_progress dsimp only)

theorem State.loadPause_kept {r s : State} (h : Kept r s) : Kept r (State.loadPause s) := by
  simp only [State.loadPause]
  repeat'
    first
    | with_reducible assumption | with_reducible apply State.applyLoad_kept | with_reducible apply foldl_kept
    | simp only [Kept.upd_iff, Kept.updStart_iff] | intro _ _ _ | intro _ _ | split | (fail_if_no_progress dsimp only)

theorem State.patchRec_kept {r s : State} (h : Kept r s) (a : Nat) (b : Nat) : Kept r (State.patchRec s a b) := by
  simp only [State.patchRec]
  repeat'
    first
    | with_reducible assumption | with_reducible apply State.logErr_kept | with_reducible apply State.raise_kept
    | with_reducible apply foldl_kept | simp only [Kept.upd_iff, Kept.updStart_iff] | intro _ _ _ | intro _ _ | split
    | (fail_if_no_progress dsimp only)

theorem State.disablePatch_kept {r s : State} (h : Kept r s) (a : Nat) : Kept r (State.disablePatch s a) := by
  simp only [State.disablePatch]
  repeat'
    first
    | with_reducible assumption | with_reducible apply State.patchRec_kept | with_reducible apply State.revokeBlobs_kept
    | with_reducible apply State.setB_kept | with_reducible apply foldl_kept | simp only [Kept.upd_iff, Kept.updStart_iff] | intro _ _ _
    | intro _ _ | split | (fail_if_no_progress dsimp only)

theorem State.unloadRtn_kept {r s : State} (h : Kept r s) (a : Nat) : Kept r (State.unloadRtn s a) := by
  simp only [State.unloadRtn]
  repeat'
    first
    | with_reducible assumption | with_reducible apply State.patchRec_kept | with_reducible apply State.setB_kept
    | with_reducible apply State.setF_kept | with_reducible apply foldl_kept | simp only [Kept.upd_iff, Kept.updStart_iff] | intro _ _ _
    | intro _ _ | split | (fail_if_no_progress dsimp only)

theorem State.respFault_kept {r s : State} (h : Kept r s) (a : Nat) (b : Nat) : Kept r (State.respFault s a b) := by
  simp only [State.respFault]
  repeat'
    first
    | with_reducible assumption | with_reducible apply State.updIn_kept | with_reducible apply State.send_kept
    | with_reducible refine Kept.of_snd (by with_reducible assumption) ?_ | with_reducible refine Kept.of_fst (by with_reducible assumption) ?_
    | with_reducible refine Kept.of_trd (by with_reducible assumption) ?_ | with_reducible apply foldl_kept
    | simp only [Kept.upd_iff, Kept.updStart_iff] | intro _ _ _ | intro _ _ | split | (fail_if_no_progress dsimp only)

theorem State.flushResp_kept {r s : State} (h : Kept r s) (a : Nat) (b : Nat) (c : Nat) : Kept r (State.flushResp s a b c) := by
  induction c generalizing s a b with
  | zero => exact h
  | succ n ih =>
    simp only [State.flushResp]
    repeat'
      first
      | with_reducible assumption | with_reducible apply ih | with_reducible apply State.closeIn_kept | with_reducible apply State.updIn_kept
      | with_reducible apply State.nextIv_kept | with_reducible apply State.sendSeg_kept
      | with_reducible refine Kept.of_snd (by with_reducible assumption) ?_ | with_reducible refine Kept.of_fst (by with_reducible assumption) ?_
      | with_reducible refine Kept.of_trd (by with_reducible assumption) ?_ | with_reducible apply foldl_kept
      | simp only [Kept.upd_iff, Kept.updStart_iff] | intro _ _ _ | intro _ _ | split | (fail_if_no_progress dsimp only)

theorem State.respData_kept {r s : State} (h : Kept r s) (a : Nat) (b : Nat) (c : Nat) (d : List Word) : Kept r (State.respData s a b c d) := by
  simp only [State.respData]
  repeat'
    first
    | with_reducible assumption | with_reducible apply State.updIn_kept | with_reducible apply State.flushResp_kept
    | with_reducible refine Kept.of_snd (by with_reducible assumption) ?_ | with_reducible refine Kept.of_fst (by with_reducible assumption) ?_
    | with_reducible refine Kept.of_trd (by with_reducible assumption) ?_ | with_reducible apply foldl_kept
    | simp only [Kept.upd_iff, Kept.updStart_iff] | intro _ _ _ | intro _ _ | split | (fail_if_no_progress dsimp only)

end Sys2Proof.Machine
end

