-- ==== Sys2Proof/Laws/KeptRows.lean ====
section
/-! SUPPORT. What every operation of the machine keeps, part 5: errors, the admin queue, start-up, the registers and the commands. -/

namespace Sys2Proof.Machine

set_option linter.unusedTactic false
set_option linter.unreachableTactic false
set_option linter.unusedSimpArgs false

theorem State.watchdog_kept {r s : State} (h : Kept r s) (a : Nat) : Kept r (State.watchdog s a) := by
  simp only [State.watchdog]
  repeat'
    first
    | with_reducible assumption | with_reducible apply State.snapshot_kept | with_reducible apply State.startAutotomy_kept
    | with_reducible apply State.wake_kept | with_reducible apply foldl_kept | simp only [Kept.upd_iff, Kept.updStart_iff] | intro _ _ _
    | intro _ _ | split | (fail_if_no_progress dsimp only)

theorem State.readTab_kept {r s : State} (h : Kept r s) (a : Nat) (b : TabErr) : Kept r (State.readTab s a b) := by
  simp only [State.readTab]
  repeat'
    first
    | with_reducible assumption | with_reducible apply State.bump_kept | with_reducible apply State.startRegrow_kept
    | with_reducible refine Kept.of_snd (by with_reducible assumption) ?_ | with_reducible refine Kept.of_fst (by with_reducible assumption) ?_
    | with_reducible refine Kept.of_trd (by with_reducible assumption) ?_ | with_reducible apply foldl_kept
    | simp only [Kept.upd_iff, Kept.updStart_iff] | intro _ _ _ | intro _ _ | split | (fail_if_no_progress dsimp only)

theorem State.injectParity_kept {r s : State} (h : Kept r s) (a : Nat) : Kept r (State.injectParity s a) := by
  simp only [State.injectParity]
  repeat'
    first
    | with_reducible assumption | with_reducible apply foldl_kept | simp only [Kept.upd_iff, Kept.updStart_iff] | intro _ _ _ | intro _ _ | split
    | (fail_if_no_progress dsimp only)

theorem State.injectBad_kept {r s : State} (h : Kept r s) (a : Nat) : Kept r (State.injectBad s a) := by
  simp only [State.injectBad]
  repeat'
    first
    | with_reducible assumption | with_reducible apply foldl_kept | simp only [Kept.upd_iff, Kept.updStart_iff] | intro _ _ _ | intro _ _ | split
    | (fail_if_no_progress dsimp only)

theorem State.injectFix_kept {r s : State} (h : Kept r s) (a : Nat) : Kept r (State.injectFix s a) := by
  simp only [State.injectFix]
  repeat'
    first
    | with_reducible assumption | with_reducible apply foldl_kept | simp only [Kept.upd_iff, Kept.updStart_iff] | intro _ _ _ | intro _ _ | split
    | (fail_if_no_progress dsimp only)

theorem State.resolveErr_kept {r s : State} (h : Kept r s) (a : TabErr) : Kept r (State.resolveErr s a) := by
  simp only [State.resolveErr]
  repeat'
    first
    | with_reducible assumption | with_reducible apply State.startAutotomy_kept | with_reducible apply State.updEvent_kept
    | with_reducible apply State.abandon_kept | with_reducible apply State.setSem_kept | with_reducible apply State.endEarly_kept
    | with_reducible apply State.send_kept | with_reducible refine Kept.of_snd (by with_reducible assumption) ?_
    | with_reducible refine Kept.of_fst (by with_reducible assumption) ?_ | with_reducible refine Kept.of_trd (by with_reducible assumption) ?_
    | with_reducible apply foldl_kept | simp only [Kept.upd_iff, Kept.updStart_iff] | intro _ _ _ | intro _ _ | split
    | (fail_if_no_progress dsimp only)

theorem State.rebuildQueues_kept {r s : State} (h : Kept r s) : Kept r (State.rebuildQueues s) := by
  simp only [State.rebuildQueues]
  repeat'
    first
    | with_reducible assumption | with_reducible refine Kept.of_snd (by with_reducible assumption) ?_
    | with_reducible refine Kept.of_fst (by with_reducible assumption) ?_ | with_reducible refine Kept.of_trd (by with_reducible assumption) ?_
    | with_reducible apply foldl_kept | simp only [Kept.upd_iff, Kept.updStart_iff] | intro _ _ _ | intro _ _ | split
    | (fail_if_no_progress dsimp only)

theorem State.markHalted_kept {r s : State} (h : Kept r s) (a : Nat) : Kept r (State.markHalted s a) := by
  simp only [State.markHalted]
  repeat'
    first
    | with_reducible assumption | with_reducible apply State.setB_kept | with_reducible apply foldl_kept
    | simp only [Kept.upd_iff, Kept.updStart_iff] | intro _ _ _ | intro _ _ | split | (fail_if_no_progress dsimp only)

theorem State.resumeFront_kept {r s : State} (h : Kept r s) : Kept r (State.resumeFront s) := by
  simp only [State.resumeFront]
  repeat'
    first
    | with_reducible assumption | with_reducible apply State.watchdog_kept | with_reducible apply State.doDeferred_kept
    | with_reducible apply State.startHalted_kept | with_reducible apply State.startHostLoss_kept | with_reducible apply State.startAutotomy_kept
    | with_reducible apply State.raise_kept | with_reducible apply State.when_kept | with_reducible apply State.setB_kept
    | with_reducible apply State.setF_kept | with_reducible apply foldl_kept | simp only [Kept.upd_iff, Kept.updStart_iff] | intro _ _ _
    | intro _ _ | split | (fail_if_no_progress dsimp only)

theorem State.rebuildRest_kept {r s : State} (h : Kept r s) : Kept r (State.rebuildRest s) := by
  simp only [State.rebuildRest]
  repeat'
    first
    | with_reducible assumption | with_reducible apply State.resolveErr_kept | with_reducible apply State.rebuildQueues_kept
    | with_reducible apply State.noteLate_kept | with_reducible apply State.applyHeld_kept | with_reducible apply State.markHalted_kept
    | with_reducible apply State.resumeFront_kept | with_reducible refine Kept.of_snd (by with_reducible assumption) ?_
    | with_reducible refine Kept.of_fst (by with_reducible assumption) ?_ | with_reducible refine Kept.of_trd (by with_reducible assumption) ?_
    | with_reducible apply foldl_kept | simp only [Kept.upd_iff, Kept.updStart_iff] | intro _ _ _ | intro _ _ | split
    | (fail_if_no_progress dsimp only)

theorem State.regrowResume_kept {r s : State} (h : Kept r s) (a : Bool) : Kept r (State.regrowResume s a) := by
  simp only [State.regrowResume]
  repeat'
    first
    | with_reducible assumption | with_reducible apply State.startRegrow_kept | with_reducible apply State.disablePatch_kept
    | with_reducible apply State.unloadRtn_kept | with_reducible apply State.rebuildRest_kept
    | with_reducible refine Kept.of_snd (by with_reducible assumption) ?_ | with_reducible refine Kept.of_fst (by with_reducible assumption) ?_
    | with_reducible refine Kept.of_trd (by with_reducible assumption) ?_ | with_reducible apply foldl_kept
    | simp only [Kept.upd_iff, Kept.updStart_iff] | intro _ _ _ | intro _ _ | split | (fail_if_no_progress dsimp only)

theorem State.releasePrimary_kept {r s : State} (h : Kept r s) : Kept r (State.releasePrimary s) := by
  simp only [State.releasePrimary]
  repeat'
    first
    | with_reducible assumption | with_reducible apply State.setB_kept | with_reducible apply foldl_kept
    | simp only [Kept.upd_iff, Kept.updStart_iff] | intro _ _ _ | intro _ _ | split | (fail_if_no_progress dsimp only)

theorem State.runAdm_kept {r s : State} (h : Kept r s) (a : Nat) (b : Nat) (c : State → AdmEntry → State) (hc : ∀ x0 x1, Kept r x0 → Kept r (c x0
  x1)) : Kept r (State.runAdm s a b c) := by
  simp only [State.runAdm]
  repeat'
    first
    | with_reducible assumption | with_reducible apply hc | with_reducible apply State.readTab_kept
    | with_reducible refine Kept.of_snd (by with_reducible assumption) ?_ | with_reducible refine Kept.of_fst (by with_reducible assumption) ?_
    | with_reducible refine Kept.of_trd (by with_reducible assumption) ?_ | with_reducible apply foldl_kept
    | simp only [Kept.upd_iff, Kept.updStart_iff] | intro _ _ _ | intro _ _ | split | (fail_if_no_progress dsimp only)

theorem State.admGuard_kept {r s : State} (h : Kept r s) (a : AdmEntry) (b : List (Bool × Nat)) (c : WriteFault) (d : State → State) (hd : ∀ x0,
  Kept r x0 → Kept r (d x0)) : Kept r (State.admGuard s a b c d) := by
  simp only [State.admGuard]
  repeat'
    first
    | with_reducible assumption | with_reducible apply hd | with_reducible apply State.admDone_kept
    | with_reducible refine Kept.of_snd (by with_reducible assumption) ?_ | with_reducible refine Kept.of_fst (by with_reducible assumption) ?_
    | with_reducible refine Kept.of_trd (by with_reducible assumption) ?_ | with_reducible apply foldl_kept
    | simp only [Kept.upd_iff, Kept.updStart_iff] | intro _ _ _ | intro _ _ | split | (fail_if_no_progress dsimp only)

theorem State.doNop_kept {r s : State} (h : Kept r s) (a : AdmEntry) (b : WriteFault) : Kept r (State.doNop s a b) := by
  simp only [State.doNop]
  repeat'
    first
    | with_reducible assumption | with_reducible apply State.admGuard_kept | with_reducible apply State.admDone_kept
    | with_reducible apply foldl_kept | simp only [Kept.upd_iff, Kept.updStart_iff] | intro _ _ _ | intro _ _ | split
    | (fail_if_no_progress dsimp only)

theorem State.doCreateSq_kept {r s : State} (h : Kept r s) (a : AdmEntry) (b : WriteFault) : Kept r (State.doCreateSq s a b) := by
  simp only [State.doCreateSq]
  repeat'
    first
    | with_reducible assumption | with_reducible apply State.admGuard_kept | with_reducible apply State.holdCr_kept
    | with_reducible apply State.seqWord_kept | with_reducible apply State.admDone_kept
    | with_reducible refine Kept.of_snd (by with_reducible assumption) ?_ | with_reducible refine Kept.of_fst (by with_reducible assumption) ?_
    | with_reducible refine Kept.of_trd (by with_reducible assumption) ?_ | with_reducible apply foldl_kept
    | simp only [Kept.upd_iff, Kept.updStart_iff] | intro _ _ _ | intro _ _ | split | (fail_if_no_progress dsimp only)

theorem State.doDestroySq_kept {r s : State} (h : Kept r s) (a : AdmEntry) : Kept r (State.doDestroySq s a) := by
  simp only [State.doDestroySq]
  repeat'
    first
    | with_reducible assumption | with_reducible apply State.admGuard_kept | with_reducible apply State.startDestroy_kept
    | with_reducible apply foldl_kept | simp only [Kept.upd_iff, Kept.updStart_iff] | intro _ _ _ | intro _ _ | split
    | (fail_if_no_progress dsimp only)

theorem State.doCreateCr_kept {r s : State} (h : Kept r s) (a : AdmEntry) (b : WriteFault) : Kept r (State.doCreateCr s a b) := by
  simp only [State.doCreateCr]
  repeat'
    first
    | with_reducible assumption | with_reducible apply State.admGuard_kept | with_reducible apply State.holdCr_kept
    | with_reducible apply State.writeMem_kept | with_reducible apply State.admDone_kept
    | with_reducible refine Kept.of_snd (by with_reducible assumption) ?_ | with_reducible refine Kept.of_fst (by with_reducible assumption) ?_
    | with_reducible refine Kept.of_trd (by with_reducible assumption) ?_ | with_reducible apply foldl_kept
    | simp only [Kept.upd_iff, Kept.updStart_iff] | intro _ _ _ | intro _ _ | split | (fail_if_no_progress dsimp only)

theorem State.doDestroyCr_kept {r s : State} (h : Kept r s) (a : AdmEntry) (b : WriteFault) : Kept r (State.doDestroyCr s a b) := by
  simp only [State.doDestroyCr]
  repeat'
    first
    | with_reducible assumption | with_reducible apply State.admGuard_kept | with_reducible apply State.admDone_kept
    | with_reducible apply foldl_kept | simp only [Kept.upd_iff, Kept.updStart_iff] | intro _ _ _ | intro _ _ | split
    | (fail_if_no_progress dsimp only)

theorem State.doCreateCtx_kept {r s : State} (h : Kept r s) (a : AdmEntry) (b : WriteFault) : Kept r (State.doCreateCtx s a b) := by
  simp only [State.doCreateCtx]
  repeat'
    first
    | with_reducible assumption | with_reducible apply State.admGuard_kept | with_reducible apply State.admDone_kept
    | with_reducible apply foldl_kept | simp only [Kept.upd_iff, Kept.updStart_iff] | intro _ _ _ | intro _ _ | split
    | (fail_if_no_progress dsimp only)

theorem State.doDestroyCtx_kept {r s : State} (h : Kept r s) (a : AdmEntry) (b : WriteFault) : Kept r (State.doDestroyCtx s a b) := by
  simp only [State.doDestroyCtx]
  repeat'
    first
    | with_reducible assumption | with_reducible apply State.admGuard_kept | with_reducible apply State.freeCtx_kept
    | with_reducible apply State.ctxsGone_kept | with_reducible apply State.admDone_kept | with_reducible apply foldl_kept
    | simp only [Kept.upd_iff, Kept.updStart_iff] | intro _ _ _ | intro _ _ | split | (fail_if_no_progress dsimp only)

theorem State.doSetShare_kept {r s : State} (h : Kept r s) (a : AdmEntry) (b : WriteFault) : Kept r (State.doSetShare s a b) := by
  simp only [State.doSetShare]
  repeat'
    first
    | with_reducible assumption | with_reducible apply State.admGuard_kept | with_reducible apply State.admDone_kept
    | with_reducible apply State.updCtx_kept | with_reducible apply foldl_kept | simp only [Kept.upd_iff, Kept.updStart_iff] | intro _ _ _
    | intro _ _ | split | (fail_if_no_progress dsimp only)

theorem State.doBind_kept {r s : State} (h : Kept r s) (a : AdmEntry) (b : Bool) (c : WriteFault) : Kept r (State.doBind s a b c) := by
  simp only [State.doBind]
  repeat'
    first
    | with_reducible assumption | with_reducible apply State.admGuard_kept | with_reducible apply State.unbindEvent_kept
    | with_reducible apply State.bindEvent_kept | with_reducible apply State.admDone_kept | with_reducible apply foldl_kept
    | simp only [Kept.upd_iff, Kept.updStart_iff] | intro _ _ _ | intro _ _ | split | (fail_if_no_progress dsimp only)

theorem State.freeCode_kept {r s : State} (h : Kept r s) : Kept r (State.freeCode s).2 := by
  simp only [State.freeCode]
  repeat'
    first
    | with_reducible assumption | with_reducible apply State.draw_kept | with_reducible refine Kept.of_snd (by with_reducible assumption) ?_
    | with_reducible refine Kept.of_fst (by with_reducible assumption) ?_ | with_reducible refine Kept.of_trd (by with_reducible assumption) ?_
    | with_reducible apply foldl_kept | simp only [Kept.upd_iff, Kept.updStart_iff] | intro _ _ _ | intro _ _ | split
    | (fail_if_no_progress dsimp only)

theorem State.doQuery_kept {r s : State} (h : Kept r s) (a : AdmEntry) (b : Bool) (c : WriteFault) : Kept r (State.doQuery s a b c) := by
  simp only [State.doQuery]
  repeat'
    first
    | with_reducible assumption | with_reducible apply State.admGuard_kept | with_reducible apply State.noteRefused_kept
    | with_reducible apply State.freeCode_kept | with_reducible apply State.admDone_kept | with_reducible apply State.writeMem_kept
    | with_reducible refine Kept.of_snd (by with_reducible assumption) ?_ | with_reducible refine Kept.of_fst (by with_reducible assumption) ?_
    | with_reducible refine Kept.of_trd (by with_reducible assumption) ?_ | with_reducible apply foldl_kept
    | simp only [Kept.upd_iff, Kept.updStart_iff] | intro _ _ _ | intro _ _ | split | (fail_if_no_progress dsimp only)

theorem State.loadCyclic_kept {r s : State} (h : Kept r s) (a : Nat) (b : Option (List Word)) : Kept r (State.loadCyclic s a b).2 := by
  simp only [State.loadCyclic]
  repeat'
    first
    | with_reducible assumption | with_reducible apply State.freeCode_kept | with_reducible apply State.rejectTable_kept
    | with_reducible apply State.acceptTable_kept | with_reducible refine Kept.of_snd (by with_reducible assumption) ?_
    | with_reducible refine Kept.of_fst (by with_reducible assumption) ?_ | with_reducible refine Kept.of_trd (by with_reducible assumption) ?_
    | with_reducible apply foldl_kept | simp only [Kept.upd_iff, Kept.updStart_iff] | intro _ _ _ | intro _ _ | split
    | (fail_if_no_progress dsimp only)

theorem State.doSetCyclic_kept {r s : State} (h : Kept r s) (a : AdmEntry) (b : Option (List Word)) (c : WriteFault) : Kept r (State.doSetCyclic s a
  b c) := by
  simp only [State.doSetCyclic]
  repeat'
    first
    | with_reducible assumption | with_reducible apply State.loadCyclic_kept | with_reducible apply State.admGuard_kept
    | with_reducible apply State.admDone_kept | with_reducible refine Kept.of_snd (by with_reducible assumption) ?_
    | with_reducible refine Kept.of_fst (by with_reducible assumption) ?_ | with_reducible refine Kept.of_trd (by with_reducible assumption) ?_
    | with_reducible apply foldl_kept | simp only [Kept.upd_iff, Kept.updStart_iff] | intro _ _ _ | intro _ _ | split
    | (fail_if_no_progress dsimp only)

theorem State.resumeCpl_kept {r s : State} (h : Kept r s) (a : Nat) (b : Cpl) (c : Option Nat) : Kept r (State.resumeCpl s a b c).2.2 := by
  unfold State.resumeCpl
  split
  · split
    split
    · exact h
    · rename_i cr _ _ _ ok0 b0 _ _
      extract_lets s0 s1 p1 shadow pi s2
      have h1 : Kept r s1 := by
        dsimp only [s1, s0]
        repeat'
          first
          | with_reducible assumption | with_reducible apply State.count_kept | with_reducible apply State.updCr_kept
          | with_reducible apply State.writeMem_kept | split
      have h2 : Kept r s2 := Kept.ite (State.writeMem_kept h1 _ _ _) h1
      clear_value s2 s1 p1 shadow
      split
      split
      · exact h1
      · split
        rename_i adv s3 e
        have h3 : Kept r s3 := by
          revert e
          split
          · intro e; injection e with _ a; exact a ▸ h2
          · intro e; exact Kept.of_snd e (State.retireSeq_kept h2 _ _)
        split
        split
        · exact h3
        · exact State.when_kept (State.when_kept h3 _ _ (fun _ h => State.seqWord_kept h _)) _ _ (fun _ h => State.raiseEntry_kept h _ _)
  · exact h

theorem State.resumeSq_kept {r s : State} (h : Kept r s) (a : Nat) (b : Nat) (c : Option Nat) (d : Nat) : Kept r (State.resumeSq s a b c d).2 :=
    by
  induction d generalizing s a b c with
  | zero => exact h
  | succ n ih =>
    simp only [State.resumeSq]
    repeat'
      first
      | with_reducible assumption | with_reducible apply ih | with_reducible apply State.updSq_kept | with_reducible apply State.resumeCpl_kept
      | with_reducible apply State.dropFlight_kept | with_reducible apply State.seqWord_kept
      | with_reducible refine Kept.of_snd (by with_reducible assumption) ?_ | with_reducible refine Kept.of_fst (by with_reducible assumption) ?_
      | with_reducible refine Kept.of_trd (by with_reducible assumption) ?_ | with_reducible apply foldl_kept
      | simp only [Kept.upd_iff, Kept.updStart_iff] | intro _ _ _ | intro _ _ | split | (fail_if_no_progress dsimp only)

theorem State.resumeAll_kept {r s : State} (h : Kept r s) (a : Nat) (b : List Nat) (c : Option Nat) : Kept r (State.resumeAll s a b c).2 := by
  induction b generalizing s a c with
  | nil => exact h
  | cons y l ih =>
    simp only [State.resumeAll]
    repeat'
      first
      | with_reducible assumption | with_reducible apply ih | with_reducible apply State.resumeSq_kept
      | with_reducible refine Kept.of_snd (by with_reducible assumption) ?_ | with_reducible refine Kept.of_fst (by with_reducible assumption) ?_
      | with_reducible refine Kept.of_trd (by with_reducible assumption) ?_ | with_reducible apply foldl_kept
      | simp only [Kept.upd_iff, Kept.updStart_iff] | intro _ _ _ | intro _ _ | split | (fail_if_no_progress dsimp only)

theorem State.doResumeCr_kept {r s : State} (h : Kept r s) (a : AdmEntry) (b : Option Nat) (c : WriteFault) : Kept r (State.doResumeCr s a b c) :=
  by
  simp only [State.doResumeCr]
  repeat'
    first
    | with_reducible assumption | with_reducible apply State.resumeAll_kept | with_reducible apply State.admGuard_kept
    | with_reducible apply State.admDone_kept | with_reducible apply State.updCr_kept
    | with_reducible refine Kept.of_snd (by with_reducible assumption) ?_ | with_reducible refine Kept.of_fst (by with_reducible assumption) ?_
    | with_reducible refine Kept.of_trd (by with_reducible assumption) ?_ | with_reducible apply foldl_kept
    | simp only [Kept.upd_iff, Kept.updStart_iff] | intro _ _ _ | intro _ _ | split | (fail_if_no_progress dsimp only)

theorem State.resumeAdm_kept {r s : State} (h : Kept r s) (a : Nat) (b : Option Nat) (c : Nat) : Kept r (State.resumeAdm s a b c) := by
  induction c generalizing s a b with
  | zero => exact h
  | succ n ih =>
    simp only [State.resumeAdm]
    repeat'
      first
      | with_reducible assumption | with_reducible apply ih | with_reducible apply State.putAdm_kept | with_reducible apply State.setB_kept
      | with_reducible refine Kept.of_snd (by with_reducible assumption) ?_ | with_reducible refine Kept.of_fst (by with_reducible assumption) ?_
      | with_reducible refine Kept.of_trd (by with_reducible assumption) ?_ | with_reducible apply foldl_kept
      | simp only [Kept.upd_iff, Kept.updStart_iff] | intro _ _ _ | intro _ _ | split | (fail_if_no_progress dsimp only)

theorem State.adminResume_kept {r s : State} (h : Kept r s) (a : Nat) (b : Option Nat) : Kept r (State.adminResume s a b) := by
  simp only [State.adminResume]
  repeat'
    first
    | with_reducible assumption | with_reducible apply State.resumeAdm_kept | with_reducible apply foldl_kept
    | simp only [Kept.upd_iff, Kept.updStart_iff] | intro _ _ _ | intro _ _ | split | (fail_if_no_progress dsimp only)

theorem State.afterRead_kept {r s : State} (h : Kept r s) (a : Reg) (b : Nat) (c : Nat) (d : Option RemoteVal) : Kept r (State.afterRead s a b c d)
  := by
  simp only [State.afterRead]
  repeat'
    first
    | with_reducible assumption | with_reducible apply State.claim_kept | with_reducible apply State.updCnt_kept
    | with_reducible apply State.setSem_kept | with_reducible apply State.when_kept | with_reducible apply State.setB_kept
    | with_reducible apply State.setReg_kept | with_reducible refine Kept.of_snd (by with_reducible assumption) ?_
    | with_reducible refine Kept.of_fst (by with_reducible assumption) ?_ | with_reducible refine Kept.of_trd (by with_reducible assumption) ?_
    | with_reducible apply foldl_kept | simp only [Kept.upd_iff, Kept.updStart_iff] | with_reducible apply Kept.updFresh
    | with_reducible apply Kept.updOut | intro _ _ _ | intro _ _ | split | (fail_if_no_progress dsimp only)

theorem State.hostTouch_kept {r s : State} (h : Kept r s) (a : Who) (b : Bool) : Kept r (State.hostTouch s a b) := by
  simp only [State.hostTouch]
  repeat'
    first
    | with_reducible assumption | with_reducible apply State.count_kept | with_reducible apply State.hostWake_kept
    | with_reducible refine Kept.of_snd (by with_reducible assumption) ?_ | with_reducible refine Kept.of_fst (by with_reducible assumption) ?_
    | with_reducible refine Kept.of_trd (by with_reducible assumption) ?_ | with_reducible apply foldl_kept
    | simp only [Kept.upd_iff, Kept.updStart_iff] | intro _ _ _ | intro _ _ | split | (fail_if_no_progress dsimp only)

theorem State.read32_kept {r s : State} (h : Kept r s) (a : Who) (b : Window) (c : Nat) (d : Option RemoteVal) : Kept r (State.read32 s a b c d).2
  := by
  simp only [State.read32]
  repeat'
    first
    | with_reducible assumption | with_reducible apply State.hostTouch_kept | with_reducible apply State.afterRead_kept
    | with_reducible refine Kept.of_snd (by with_reducible assumption) ?_ | with_reducible refine Kept.of_fst (by with_reducible assumption) ?_
    | with_reducible refine Kept.of_trd (by with_reducible assumption) ?_ | with_reducible apply foldl_kept
    | simp only [Kept.upd_iff, Kept.updStart_iff] | intro _ _ _ | intro _ _ | split | (fail_if_no_progress dsimp only)

theorem State.readAccess_kept {r s : State} (h : Kept r s) (a : Who) (b : Window) (c : Nat) (d : Nat) (e : Option RemoteVal) : Kept r
  (State.readAccess s a b c d e).2 := by
  simp only [State.readAccess]
  repeat'
    first
    | with_reducible assumption | with_reducible apply State.read32_kept | with_reducible apply State.hostTouch_kept
    | with_reducible apply State.afterRead_kept | with_reducible refine Kept.of_snd (by with_reducible assumption) ?_
    | with_reducible refine Kept.of_fst (by with_reducible assumption) ?_ | with_reducible refine Kept.of_trd (by with_reducible assumption) ?_
    | with_reducible apply foldl_kept | simp only [Kept.upd_iff, Kept.updStart_iff] | intro _ _ _ | intro _ _ | split
    | (fail_if_no_progress dsimp only)

theorem State.readReg_kept {r s : State} (h : Kept r s) (a : Who) (b : Window) (c : Nat) (d : Nat) (e : Option RemoteVal) : Kept r (State.readReg s
  a b c d e) := by
  simp only [State.readReg]
  repeat'
    first
    | with_reducible assumption | with_reducible apply State.readAccess_kept | with_reducible apply State.emit_kept
    | with_reducible refine Kept.of_snd (by with_reducible assumption) ?_ | with_reducible refine Kept.of_fst (by with_reducible assumption) ?_
    | with_reducible refine Kept.of_trd (by with_reducible assumption) ?_ | with_reducible apply foldl_kept
    | simp only [Kept.upd_iff, Kept.updStart_iff] | intro _ _ _ | intro _ _ | split | (fail_if_no_progress dsimp only)

theorem State.startEngines_kept {r s : State} (h : Kept r s) (a : Fuses) (b : Plinth) : Kept r (State.startEngines s a b) := by
  simp only [State.startEngines]
  repeat'
    first
    | with_reducible assumption | with_reducible apply State.setReg_kept | with_reducible apply foldl_kept
    | simp only [Kept.upd_iff, Kept.updStart_iff] | intro _ _ _ | intro _ _ | split | (fail_if_no_progress dsimp only)

theorem State.startParts_kept {r s : State} (h : Kept r s) (a : Plinth) : Kept r (State.startParts s a) := by
  simp only [State.startParts]
  repeat'
    first
    | with_reducible assumption | with_reducible apply State.setIlv_kept | with_reducible apply State.newKey_kept
    | with_reducible apply State.setF_kept | with_reducible apply State.setReg_kept | with_reducible apply foldl_kept
    | simp only [Kept.upd_iff, Kept.updStart_iff] | intro _ _ _ | intro _ _ | split | (fail_if_no_progress dsimp only)

theorem State.startGov_kept {r s : State} (h : Kept r s) (a : Plinth) : Kept r (State.startGov s a) := by
  simp only [State.startGov]
  repeat'
    first
    | with_reducible assumption | with_reducible apply State.setGov_kept | with_reducible apply State.setF_kept
    | with_reducible apply State.setReg_kept | with_reducible apply foldl_kept | simp only [Kept.upd_iff, Kept.updStart_iff] | intro _ _ _
    | intro _ _ | split | (fail_if_no_progress dsimp only)

theorem State.startTml_kept {r s : State} (h : Kept r s) (a : Plinth) : Kept r (State.startTml s a) := by
  simp only [State.startTml]
  repeat'
    first
    | with_reducible assumption | with_reducible apply State.setReg_kept | with_reducible apply foldl_kept
    | simp only [Kept.upd_iff, Kept.updStart_iff] | intro _ _ _ | intro _ _ | split | (fail_if_no_progress dsimp only)

theorem State.startMcs_kept {r s : State} (h : Kept r s) (a : Plinth) : Kept r (State.startMcs s a) := by
  simp only [State.startMcs]
  repeat'
    first
    | with_reducible assumption | with_reducible apply State.setReg_kept | with_reducible apply State.installImage_kept
    | with_reducible refine Kept.of_snd (by with_reducible assumption) ?_ | with_reducible refine Kept.of_fst (by with_reducible assumption) ?_
    | with_reducible refine Kept.of_trd (by with_reducible assumption) ?_ | with_reducible apply foldl_kept
    | simp only [Kept.upd_iff, Kept.updStart_iff] | intro _ _ _ | intro _ _ | split | (fail_if_no_progress dsimp only)

theorem State.startCtxs_kept {r s : State} (h : Kept r s) (a : Plinth) : Kept r (State.startCtxs s a) := by
  simp only [State.startCtxs]
  repeat'
    first
    | with_reducible assumption | with_reducible apply foldl_kept | simp only [Kept.upd_iff, Kept.updStart_iff] | intro _ _ _ | intro _ _ | split
    | (fail_if_no_progress dsimp only)

theorem State.configure_kept {r s : State} (h : Kept r s) (a : Fuses) (b : Plinth) : Kept r (State.configure s a b) := by
  simp only [State.configure]
  repeat'
    first
    | with_reducible assumption | with_reducible apply State.startEngines_kept | with_reducible apply State.startParts_kept
    | with_reducible apply State.startGov_kept | with_reducible apply State.startTml_kept | with_reducible apply State.startMcs_kept
    | with_reducible apply State.startCtxs_kept | with_reducible apply State.setF_kept | with_reducible apply State.setB_kept
    | with_reducible apply State.setReg_kept | with_reducible refine Kept.of_snd (by with_reducible assumption) ?_
    | with_reducible refine Kept.of_fst (by with_reducible assumption) ?_ | with_reducible refine Kept.of_trd (by with_reducible assumption) ?_
    | with_reducible apply foldl_kept | simp only [Kept.upd_iff, Kept.updStart_iff] | intro _ _ _ | intro _ _ | split
    | (fail_if_no_progress dsimp only)

theorem State.becomeReady_kept {r s : State} (h : Kept r s) (a : Plinth) (b : Nat) : Kept r (State.becomeReady s a b) := by
  simp only [State.becomeReady]
  repeat'
    first
    | with_reducible assumption | with_reducible apply State.setF_kept | with_reducible apply State.setB_kept
    | with_reducible apply State.setReg_kept | with_reducible apply State.emit_kept | with_reducible apply State.acceptTable_kept
    | with_reducible apply State.trainPort_kept | with_reducible apply State.startHostLoss_kept
    | with_reducible refine Kept.of_snd (by with_reducible assumption) ?_ | with_reducible refine Kept.of_fst (by with_reducible assumption) ?_
    | with_reducible refine Kept.of_trd (by with_reducible assumption) ?_ | with_reducible apply foldl_kept
    | simp only [Kept.upd_iff, Kept.updStart_iff] | intro _ _ _ | intro _ _ | split | (fail_if_no_progress dsimp only)

theorem State.startFail_kept {r s : State} (h : Kept r s) (a : Nat) (b : Word) : Kept r (State.startFail s a b) := by
  simp only [State.startFail]
  repeat'
    first
    | with_reducible assumption | with_reducible apply State.zeroiseKeys_kept | with_reducible apply State.logErr_kept
    | with_reducible apply State.setB_kept | with_reducible apply State.setF_kept | with_reducible apply foldl_kept
    | simp only [Kept.upd_iff, Kept.updStart_iff] | intro _ _ _ | intro _ _ | split | (fail_if_no_progress dsimp only)

theorem State.fromFuses_kept {r s : State} (h : Kept r s) (a : State) (b : Fuses) : Kept r (State.fromFuses s a b) := by
  simp only [State.fromFuses]
  repeat'
    first
    | with_reducible assumption | with_reducible apply State.setReg_kept | with_reducible apply State.setB_kept
    | with_reducible apply State.when_kept | with_reducible apply State.setF_kept
    | with_reducible refine Kept.of_snd (by with_reducible assumption) ?_ | with_reducible refine Kept.of_fst (by with_reducible assumption) ?_
    | with_reducible refine Kept.of_trd (by with_reducible assumption) ?_ | with_reducible apply foldl_kept
    | simp only [Kept.upd_iff, Kept.updStart_iff] | intro _ _ _ | intro _ _ | split | (fail_if_no_progress dsimp only)

theorem State.resetPins_kept {r s : State} (h : Kept r s) (a : State) : Kept r (State.resetPins s a) := by
  simp only [State.resetPins]
  repeat'
    first
    | with_reducible assumption | with_reducible apply State.when_kept | with_reducible apply State.emit_kept | with_reducible apply foldl_kept
    | simp only [Kept.upd_iff, Kept.updStart_iff] | intro _ _ _ | intro _ _ | split | (fail_if_no_progress dsimp only)

theorem State.coldReset_kept {r s : State} (h : Kept r s) (a : Nat) (b : Fuses) (c : BitVec 8) (d : Bool) (g : List (Nat × Nat))
    (e : Bool) : Kept { r with start := { r.start with fuses := some b } } (s.coldReset a b c d g e) := by
  simp only [State.coldReset]
  repeat'
    first
    | with_reducible apply State.setF_kept | with_reducible apply State.setB_kept | with_reducible apply State.setReg_kept
    | with_reducible apply State.when_kept | with_reducible apply State.fromFuses_kept | with_reducible apply State.resetPins_kept
    | intro _ _ | with_reducible assumption
  exact ⟨h.pending, rfl, h.out, h.fresh⟩

theorem State.plinthRead_kept {r s : State} (h : Kept r s) (a : List Byte) (b : StartChecks) : Kept r (State.plinthRead s a b) := by
  simp only [State.plinthRead]
  repeat'
    first
    | with_reducible assumption | with_reducible apply State.startFail_kept | with_reducible apply State.becomeReady_kept
    | with_reducible apply State.configure_kept | with_reducible apply foldl_kept | simp only [Kept.upd_iff, Kept.updStart_iff] | intro _ _ _
    | intro _ _ | split | (fail_if_no_progress dsimp only)

theorem State.warmReset_kept {r s : State} (h : Kept r s) (a : Bool) : Kept r (State.warmReset s a) := by
  simp only [State.warmReset]
  repeat'
    first
    | with_reducible assumption | with_reducible apply State.resetPins_kept | with_reducible apply State.fromFuses_kept
    | with_reducible apply State.startFail_kept | with_reducible apply State.becomeReady_kept | with_reducible apply State.configure_kept
    | with_reducible apply State.setB_kept | with_reducible apply State.setF_kept | with_reducible apply State.draw_kept
    | with_reducible refine Kept.of_snd (by with_reducible assumption) ?_ | with_reducible refine Kept.of_fst (by with_reducible assumption) ?_
    | with_reducible refine Kept.of_trd (by with_reducible assumption) ?_ | with_reducible apply foldl_kept
    | simp only [Kept.upd_iff, Kept.updStart_iff] | intro _ _ _ | intro _ _ | split | (fail_if_no_progress dsimp only)

theorem State.targetReset_kept {r s : State} (h : Kept r s) : Kept r (State.targetReset s) := by
  simp only [State.targetReset]
  repeat'
    first
    | with_reducible assumption | with_reducible apply State.warmReset_kept | with_reducible apply State.loadAbort_kept
    | with_reducible apply State.periphReset_kept | with_reducible apply foldl_kept | simp only [Kept.upd_iff, Kept.updStart_iff] | intro _ _ _
    | intro _ _ | split | (fail_if_no_progress dsimp only)

theorem State.writeCrCi_kept {r s : State} (h : Kept r s) (a : Nat) (b : Nat) (c : Half) : Kept r (State.writeCrCi s a b c) := by
  simp only [State.writeCrCi]
  repeat'
    first
    | with_reducible assumption | with_reducible apply State.updCr_kept | with_reducible apply foldl_kept
    | simp only [Kept.upd_iff, Kept.updStart_iff] | intro _ _ _ | intro _ _ | split | (fail_if_no_progress dsimp only)

theorem State.writeAdmCi_kept {r s : State} (h : Kept r s) (a : Nat) (b : Half) : Kept r (State.writeAdmCi s a b) := by
  simp only [State.writeAdmCi]
  repeat'
    first
    | with_reducible assumption | with_reducible apply State.setB_kept | with_reducible apply State.setF_kept | with_reducible apply foldl_kept
    | simp only [Kept.upd_iff, Kept.updStart_iff] | intro _ _ _ | intro _ _ | split | (fail_if_no_progress dsimp only)

theorem State.writeRingCi_kept {r s : State} (h : Kept r s) (a : Nat) (b : Half) : Kept r (State.writeRingCi s a b) := by
  simp only [State.writeRingCi]
  repeat'
    first
    | with_reducible assumption | with_reducible apply State.setF_kept | with_reducible apply foldl_kept
    | simp only [Kept.upd_iff, Kept.updStart_iff] | intro _ _ _ | intro _ _ | split | (fail_if_no_progress dsimp only)

theorem State.writeFnRingCi_kept {r s : State} (h : Kept r s) (a : Nat) (b : Half) : Kept r (State.writeFnRingCi s a b) := by
  simp only [State.writeFnRingCi]
  repeat'
    first
    | with_reducible assumption | with_reducible apply State.writeRingCi_kept | with_reducible apply foldl_kept
    | simp only [Kept.upd_iff, Kept.updStart_iff] | intro _ _ _ | intro _ _ | split | (fail_if_no_progress dsimp only)

theorem State.adminDoorbell_kept {r s : State} (h : Kept r s) (a : Nat) (b : Half) : Kept r (State.adminDoorbell s a b) := by
  simp only [State.adminDoorbell]
  repeat'
    first
    | with_reducible assumption | with_reducible apply State.admReread_kept | with_reducible apply State.urgent_kept
    | with_reducible apply State.raise_kept | with_reducible apply State.wake_kept | with_reducible apply State.setB_kept
    | with_reducible apply State.setF_kept | with_reducible apply foldl_kept | simp only [Kept.upd_iff, Kept.updStart_iff] | intro _ _ _
    | intro _ _ | split | (fail_if_no_progress dsimp only)

theorem State.writeAdmCfg_kept {r s : State} (h : Kept r s) (a : Nat) (b : Word) (c : Option Nat) : Kept r (State.writeAdmCfg s a b c) := by
  simp only [State.writeAdmCfg]
  repeat'
    first
    | with_reducible assumption | with_reducible apply State.adminResume_kept | with_reducible apply State.setB_kept
    | with_reducible apply State.setF_kept | with_reducible apply State.setReg_kept | with_reducible apply foldl_kept
    | simp only [Kept.upd_iff, Kept.updStart_iff] | intro _ _ _ | intro _ _ | split | (fail_if_no_progress dsimp only)

theorem State.fnRecordNow_kept {r s : State} (h : Kept r s) (a : Nat) (b : Half) (c : Nat) (d : Word) : Kept r (State.fnRecordNow s a b c d) := by
  simp only [State.fnRecordNow]
  repeat'
    first
    | with_reducible assumption | with_reducible apply State.recordLocal_kept | with_reducible apply State.send_kept
    | with_reducible apply State.setB_kept | with_reducible apply foldl_kept | simp only [Kept.upd_iff, Kept.updStart_iff] | intro _ _ _
    | intro _ _ | split | (fail_if_no_progress dsimp only)

theorem State.fnRecord_kept {r s : State} (h : Kept r s) (a : Nat) (b : Word) (c : Bool) : Kept r (State.fnRecord s a b c) := by
  simp only [State.fnRecord]
  repeat'
    first
    | with_reducible assumption | with_reducible apply State.fnRecordNow_kept | with_reducible apply foldl_kept
    | simp only [Kept.upd_iff, Kept.updStart_iff] | intro _ _ _ | intro _ _ | split | (fail_if_no_progress dsimp only)

theorem State.fnRecsGo_kept {r s : State} (h : Kept r s) (a : Nat) : Kept r (State.fnRecsGo s a) := by
  simp only [State.fnRecsGo]
  repeat'
    first
    | with_reducible assumption | with_reducible apply State.fnRecordNow_kept | with_reducible apply foldl_kept
    | simp only [Kept.upd_iff, Kept.updStart_iff] | intro _ _ _ | intro _ _ | split | (fail_if_no_progress dsimp only)

theorem State.semCfgWrite_kept {r s : State} (h : Kept r s) (a : Nat) (b : Word) : Kept r (State.semCfgWrite s a b) := by
  simp only [State.semCfgWrite]
  repeat'
    first
    | with_reducible assumption | with_reducible apply State.setSem_kept | with_reducible apply foldl_kept
    | simp only [Kept.upd_iff, Kept.updStart_iff] | intro _ _ _ | intro _ _ | split | (fail_if_no_progress dsimp only)

theorem State.keyFree_kept {r s : State} (h : Kept r s) (a : Nat) (b : Nat) : Kept r (State.keyFree s a b) := by
  simp only [State.keyFree]
  repeat'
    first
    | with_reducible assumption | with_reducible apply State.freeBlob_kept | with_reducible apply foldl_kept
    | simp only [Kept.upd_iff, Kept.updStart_iff] | intro _ _ _ | intro _ _ | split | (fail_if_no_progress dsimp only)

theorem State.zeroiseAll_kept {r s : State} (h : Kept r s) : Kept r (State.zeroiseAll s) := by
  simp only [State.zeroiseAll]
  repeat'
    first
    | with_reducible assumption | with_reducible apply State.revokeBlobs_kept | with_reducible apply foldl_kept
    | simp only [Kept.upd_iff, Kept.updStart_iff] | intro _ _ _ | intro _ _ | split | (fail_if_no_progress dsimp only)

theorem State.writeFt_kept {r s : State} (h : Kept r s) (a : Nat) (b : Word) : Kept r (State.writeFt s a b) := by
  simp only [State.writeFt]
  repeat'
    first
    | with_reducible assumption | with_reducible apply State.setF_kept | with_reducible apply State.setB_kept
    | with_reducible apply State.rekeyTenant_kept | with_reducible refine Kept.of_snd (by with_reducible assumption) ?_
    | with_reducible refine Kept.of_fst (by with_reducible assumption) ?_ | with_reducible refine Kept.of_trd (by with_reducible assumption) ?_
    | with_reducible apply foldl_kept | simp only [Kept.upd_iff, Kept.updStart_iff] | intro _ _ _ | intro _ _ | split
    | (fail_if_no_progress dsimp only)

theorem State.writeSeal_kept {r s : State} (h : Kept r s) (a : Nat) (b : Nat) (c : Word) : Kept r (State.writeSeal s a b c) := by
  simp only [State.writeSeal]
  repeat'
    first
    | with_reducible assumption | with_reducible apply State.layoutChanged_kept | with_reducible apply State.setReg_kept
    | with_reducible apply foldl_kept | simp only [Kept.upd_iff, Kept.updStart_iff] | intro _ _ _ | intro _ _ | split
    | (fail_if_no_progress dsimp only)

theorem State.writeTmlCtl_kept {r s : State} (h : Kept r s) (a : Word) : Kept r (State.writeTmlCtl s a) := by
  simp only [State.writeTmlCtl]
  repeat'
    first
    | with_reducible assumption | with_reducible apply State.rejoin_kept | with_reducible apply State.plannedLeave_kept
    | with_reducible apply State.portDown_kept | with_reducible apply State.setF_kept | with_reducible apply foldl_kept
    | simp only [Kept.upd_iff, Kept.updStart_iff] | intro _ _ _ | intro _ _ | split | (fail_if_no_progress dsimp only)

theorem State.writeFreezeCtl_kept {r s : State} (h : Kept r s) (a : Word) : Kept r (State.writeFreezeCtl s a) := by
  simp only [State.writeFreezeCtl]
  repeat'
    first
    | with_reducible assumption | with_reducible apply State.clearCounters_kept | with_reducible apply State.freeze_kept
    | with_reducible apply State.setB_kept | with_reducible apply foldl_kept | simp only [Kept.upd_iff, Kept.updStart_iff] | intro _ _ _
    | intro _ _ | split | (fail_if_no_progress dsimp only)

theorem State.writeRingCfg_kept {r s : State} (h : Kept r s) (a : Nat) (b : Word) : Kept r (State.writeRingCfg s a b) := by
  simp only [State.writeRingCfg]
  repeat'
    first
    | with_reducible assumption | with_reducible apply State.setB_kept | with_reducible apply State.setF_kept | with_reducible apply foldl_kept
    | simp only [Kept.upd_iff, Kept.updStart_iff] | intro _ _ _ | intro _ _ | split | (fail_if_no_progress dsimp only)

theorem State.writeStopCtl_kept {r s : State} (h : Kept r s) (a : Word) : Kept r (State.writeStopCtl s a) := by
  simp only [State.writeStopCtl]
  repeat'
    first
    | with_reducible assumption | with_reducible apply State.resume_kept | with_reducible apply State.softStop_kept
    | with_reducible apply State.globalStop_kept | with_reducible apply foldl_kept | simp only [Kept.upd_iff, Kept.updStart_iff] | intro _ _ _
    | intro _ _ | split | (fail_if_no_progress dsimp only)

theorem State.writePriceTab_kept {r s : State} (h : Kept r s) (a : Nat) (b : Word) : Kept r (State.writePriceTab s a b) := by
  simp only [State.writePriceTab]
  repeat'
    first
    | with_reducible assumption | with_reducible apply State.setGov_kept | with_reducible apply foldl_kept
    | simp only [Kept.upd_iff, Kept.updStart_iff] | intro _ _ _ | intro _ _ | split | (fail_if_no_progress dsimp only)

theorem State.writePriceCtl_kept {r s : State} (h : Kept r s) (a : Word) : Kept r (State.writePriceCtl s a) := by
  simp only [State.writePriceCtl]
  repeat'
    first
    | with_reducible assumption | with_reducible apply State.priceRestore_kept | with_reducible apply State.priceCommit_kept
    | with_reducible apply State.setB_kept | with_reducible apply foldl_kept | simp only [Kept.upd_iff, Kept.updStart_iff] | intro _ _ _
    | intro _ _ | split | (fail_if_no_progress dsimp only)

theorem State.inject_kept {r s : State} (h : Kept r s) (a : Bool) (b : Word) : Kept r (State.inject s a b) := by
  simp only [State.inject]
  repeat'
    first
    | with_reducible assumption | with_reducible apply State.injectFix_kept | with_reducible apply State.injectBad_kept
    | with_reducible apply State.injectParity_kept | with_reducible apply foldl_kept | simp only [Kept.upd_iff, Kept.updStart_iff] | intro _ _ _
    | intro _ _ | split | (fail_if_no_progress dsimp only)

theorem State.partReq_kept {r s : State} (h : Kept r s) (a : Word) : Kept r (State.partReq s a) := by
  simp only [State.partReq]
  repeat'
    first
    | with_reducible assumption | with_reducible apply State.tenantRemoval_kept | with_reducible apply State.partMove_kept
    | with_reducible apply foldl_kept | simp only [Kept.upd_iff, Kept.updStart_iff] | intro _ _ _ | intro _ _ | split
    | (fail_if_no_progress dsimp only)

theorem State.writeVfEn_kept {r s : State} (h : Kept r s) (a : Bool) (b : Word) : Kept r (State.writeVfEn s a b) := by
  simp only [State.writeVfEn]
  repeat'
    first
    | with_reducible assumption | with_reducible apply State.setVfCount_kept | with_reducible apply foldl_kept
    | simp only [Kept.upd_iff, Kept.updStart_iff] | intro _ _ _ | intro _ _ | split | (fail_if_no_progress dsimp only)

theorem State.writeMbox_kept {r s : State} (h : Kept r s) (a : Nat) (b : Word) : Kept r (State.writeMbox s a b) := by
  simp only [State.writeMbox]
  repeat'
    first
    | with_reducible assumption | with_reducible apply State.mboxGo_kept | with_reducible apply State.setB_kept
    | with_reducible apply State.setF_kept | with_reducible apply foldl_kept | simp only [Kept.upd_iff, Kept.updStart_iff] | intro _ _ _
    | intro _ _ | split | (fail_if_no_progress dsimp only)

theorem State.writeRelease_kept {r s : State} (h : Kept r s) (a : Nat) (b : Word) : Kept r (State.writeRelease s a b) := by
  simp only [State.writeRelease]
  repeat'
    first
    | with_reducible assumption | with_reducible apply State.pageRelease_kept | with_reducible apply State.setF_kept
    | with_reducible apply foldl_kept | simp only [Kept.upd_iff, Kept.updStart_iff] | intro _ _ _ | intro _ _ | split
    | (fail_if_no_progress dsimp only)

theorem State.writeDinStat_kept {r s : State} (h : Kept r s) (a : Nat) (b : Word) : Kept r (State.writeDinStat s a b) := by
  simp only [State.writeDinStat]
  repeat'
    first
    | with_reducible assumption | with_reducible apply State.dinPendClear_kept | with_reducible apply State.setB_kept
    | with_reducible apply foldl_kept | simp only [Kept.upd_iff, Kept.updStart_iff] | intro _ _ _ | intro _ _ | split
    | (fail_if_no_progress dsimp only)

theorem State.writeDinEvt_kept {r s : State} (h : Kept r s) (a : Nat) (b : Word) : Kept r (State.writeDinEvt s a b) := by
  simp only [State.writeDinEvt]
  repeat'
    first
    | with_reducible assumption | with_reducible apply State.setF_kept | with_reducible apply foldl_kept
    | simp only [Kept.upd_iff, Kept.updStart_iff] | intro _ _ _ | intro _ _ | split | (fail_if_no_progress dsimp only)

theorem State.plainWrite_kept {r s : State} (h : Kept r s) (a : Reg) (b : Nat) (c : Nat) (d : Word) : Kept r (State.plainWrite s a b c d) := by
  simp only [State.plainWrite]
  repeat'
    first
    | with_reducible assumption | with_reducible apply State.setReg_kept | with_reducible apply foldl_kept
    | simp only [Kept.upd_iff, Kept.updStart_iff] | intro _ _ _ | intro _ _ | split | (fail_if_no_progress dsimp only)

theorem State.writeReg_kept {r s : State} (h : Kept r s) (a : Bool) (b : Reg) (c : Nat) (d : Nat) (e : Word) : Kept r (State.writeReg s a b c d e)
  := by
  simp only [State.writeReg]
  repeat'
    first
    | with_reducible assumption | with_reducible apply State.plainWrite_kept | with_reducible apply State.writeDinEvt_kept
    | with_reducible apply State.writeDinStat_kept | with_reducible apply State.writeRelease_kept | with_reducible apply State.writeMbox_kept
    | with_reducible apply State.writeVfEn_kept | with_reducible apply State.partReq_kept | with_reducible apply State.inject_kept
    | with_reducible apply State.writePriceCtl_kept | with_reducible apply State.writePriceTab_kept
    | with_reducible apply State.writeStopCtl_kept | with_reducible apply State.writeRingCfg_kept
    | with_reducible apply State.writeFreezeCtl_kept | with_reducible apply State.writeTmlCtl_kept | with_reducible apply State.writeSeal_kept
    | with_reducible apply State.writeFt_kept | with_reducible apply State.zeroiseAll_kept | with_reducible apply State.keyFree_kept
    | with_reducible apply State.semCfgWrite_kept | with_reducible apply State.fnRecord_kept | with_reducible apply State.writeAdmCfg_kept
    | with_reducible apply State.adminDoorbell_kept | with_reducible apply State.writeFnRingCi_kept | with_reducible apply State.writeRingCi_kept
    | with_reducible apply State.writeAdmCi_kept | with_reducible apply State.writeCrCi_kept | with_reducible apply State.releasePrimary_kept
    | with_reducible apply State.dinCfg_kept | with_reducible apply State.writeMgEn_kept | with_reducible apply State.writeMgPend_kept
    | with_reducible apply State.writeQuench_kept | with_reducible apply State.writeMap_kept | with_reducible apply State.writeIrqPend_kept
    | with_reducible apply State.writeIrqEn_kept | with_reducible apply State.writeLineMask_kept | with_reducible apply State.eoi_kept
    | with_reducible apply State.linkRekey_kept | with_reducible apply State.snapshot_kept | with_reducible apply State.freezeArm_kept
    | with_reducible apply State.writePcfg_kept | with_reducible apply State.zeroiseOne_kept | with_reducible apply State.writeFnCfg_kept
    | with_reducible apply State.learnClear_kept | with_reducible apply State.writeProfile_kept | with_reducible apply State.writeSag_kept
    | with_reducible apply State.writeTlimit_kept | with_reducible apply State.writeCapF0_kept | with_reducible apply State.writeCapMgmt_kept
    | with_reducible apply State.setCycEn_kept | with_reducible apply State.startFlr_kept | with_reducible apply State.doorbell_kept
    | with_reducible apply State.updCr_kept | with_reducible apply State.updSq_kept | with_reducible apply State.setF_kept
    | with_reducible apply foldl_kept | simp only [Kept.upd_iff, Kept.updStart_iff] | intro _ _ _ | intro _ _ | split
    | (fail_if_no_progress dsimp only)

theorem State.write32_kept {r s : State} (h : Kept r s) (a : Who) (b : Window) (c : Nat) (d : Nat) : Kept r (State.write32 s a b c d) := by
  simp only [State.write32]
  repeat'
    first
    | with_reducible assumption | with_reducible apply State.hostTouch_kept | with_reducible apply State.writeReg_kept
    | with_reducible refine Kept.of_snd (by with_reducible assumption) ?_ | with_reducible refine Kept.of_fst (by with_reducible assumption) ?_
    | with_reducible refine Kept.of_trd (by with_reducible assumption) ?_ | with_reducible apply foldl_kept
    | simp only [Kept.upd_iff, Kept.updStart_iff] | intro _ _ _ | intro _ _ | split | (fail_if_no_progress dsimp only)

theorem State.writeAccess_kept {r s : State} (h : Kept r s) (a : Who) (b : Window) (c : Nat) (d : Nat) (e : Word) : Kept r (State.writeAccess s a b
  c d e) := by
  simp only [State.writeAccess]
  repeat'
    first
    | with_reducible assumption | with_reducible apply State.write32_kept | with_reducible apply State.writeReg_kept
    | with_reducible apply State.hostTouch_kept | with_reducible apply foldl_kept | simp only [Kept.upd_iff, Kept.updStart_iff] | intro _ _ _
    | intro _ _ | split | (fail_if_no_progress dsimp only)

theorem State.armFault_kept {r s : State} (h : Kept r s) (a : Nat) (b : WriteFault) : Kept r (State.armFault s a b) := by
  simp only [State.armFault]
  repeat'
    first
    | with_reducible assumption | with_reducible apply foldl_kept | simp only [Kept.upd_iff, Kept.updStart_iff] | intro _ _ _ | intro _ _ | split
    | (fail_if_no_progress dsimp only)

theorem State.readFault_kept {r s : State} (h : Kept r s) (a : ReadTag) (b : Option RdOut) (c : Nat) : Kept r (State.readFault s a b c) := by
  simp only [State.readFault]
  repeat'
    first
    | with_reducible assumption | with_reducible apply State.guiltyTask_kept | with_reducible apply State.guilty_kept
    | with_reducible apply State.startAutotomy_kept | with_reducible apply State.admFetchError_kept | with_reducible apply State.hintFault_kept
    | with_reducible apply State.mboxErr_kept | with_reducible apply State.respFault_kept | with_reducible apply State.armFault_kept
    | with_reducible refine Kept.of_snd (by with_reducible assumption) ?_ | with_reducible refine Kept.of_fst (by with_reducible assumption) ?_
    | with_reducible refine Kept.of_trd (by with_reducible assumption) ?_ | with_reducible apply foldl_kept
    | simp only [Kept.upd_iff, Kept.updStart_iff] | intro _ _ _ | intro _ _ | split | (fail_if_no_progress dsimp only)

theorem State.machineRead_kept {r s : State} (h : Kept r s) (a : Option (List TabErr)) : Kept r (State.machineRead s a) := by
  simp only [State.machineRead]
  repeat'
    first
    | with_reducible assumption | with_reducible apply State.startRegrow_kept | with_reducible apply foldl_kept
    | simp only [Kept.upd_iff, Kept.updStart_iff] | intro _ _ _ | intro _ _ | split | (fail_if_no_progress dsimp only)

theorem State.failedRead_kept {r s : State} (h : Kept r s) (a : ReadTag) (b : Option RdOut) (c : Nat) : Kept r (State.failedRead s a b c) := by
  simp only [State.failedRead]
  repeat'
    first
    | with_reducible assumption | with_reducible apply State.machineRead_kept | with_reducible apply State.readFault_kept
    | with_reducible apply foldl_kept | simp only [Kept.upd_iff, Kept.updStart_iff] | intro _ _ _ | intro _ _ | split
    | (fail_if_no_progress dsimp only)

theorem State.cipherFail_kept {r s : State} (h : Kept r s) (a : Nat) (b : Nat) (c : Word) (d : Nat) : Kept r (State.cipherFail s a b c d) := by
  simp only [State.cipherFail]
  repeat'
    first
    | with_reducible assumption | with_reducible apply State.securityRec_kept | with_reducible apply State.bump_kept
    | with_reducible apply State.setB_kept | with_reducible apply State.setF_kept | with_reducible apply State.setReg_kept
    | with_reducible apply foldl_kept | simp only [Kept.upd_iff, Kept.updStart_iff] | intro _ _ _ | intro _ _ | split
    | (fail_if_no_progress dsimp only)

theorem State.refusedRead_kept {r s : State} (h : Kept r s) (a : ReadTag) (b : Option RdOut) : Kept r (State.refusedRead s a b) := by
  simp only [State.refusedRead]
  repeat'
    first
    | with_reducible assumption | with_reducible apply State.failedRead_kept | with_reducible apply State.bump_kept
    | with_reducible apply foldl_kept | simp only [Kept.upd_iff, Kept.updStart_iff] | intro _ _ _ | intro _ _ | split
    | (fail_if_no_progress dsimp only)

theorem State.endRead_kept {r s : State} (h : Kept r s) (a : ReadTag) (b : Option Port) (c : Option RdOut → State → State) (hc : ∀ x0 x1, Kept r x1
  → Kept r (c x0 x1)) : Kept r (State.endRead s a b c) := by
  simp only [State.endRead]
  repeat'
    first
    | with_reducible assumption | with_reducible apply hc | with_reducible refine Kept.of_snd (by with_reducible assumption) ?_
    | with_reducible refine Kept.of_fst (by with_reducible assumption) ?_ | with_reducible refine Kept.of_trd (by with_reducible assumption) ?_
    | with_reducible apply foldl_kept | simp only [Kept.upd_iff, Kept.updStart_iff] | intro _ _ _ | intro _ _ | split
    | (fail_if_no_progress dsimp only)

theorem State.endOut_kept {r s : State} (h : Kept r s) (a : Option RdOut) : Kept r (State.endOut s a) := by
  simp only [State.endOut]
  repeat'
    first
    | with_reducible assumption | with_reducible apply State.endBytes_kept | with_reducible apply foldl_kept
    | simp only [Kept.upd_iff, Kept.updStart_iff] | intro _ _ _ | intro _ _ | split | (fail_if_no_progress dsimp only)

theorem State.readData_kept {r s : State} (h : Kept r s) (a : ReadTag) (b : Option RdOut) (c : Option Port) (d : List Word) : Kept r
    (State.readData s a b c d) := by
  simp only [State.readData]
  repeat'
    first
    | with_reducible assumption | with_reducible apply State.entryData_kept | with_reducible apply State.endOut_kept
    | with_reducible apply State.blockRead_kept | with_reducible apply State.stateData_kept | with_reducible apply State.hintReady_kept
    | with_reducible apply State.endBytes_kept | with_reducible apply State.segData_kept | with_reducible apply State.respData_kept
    | with_reducible apply State.gateData_kept | with_reducible refine Kept.of_snd (by with_reducible assumption) ?_
    | with_reducible refine Kept.of_fst (by with_reducible assumption) ?_ | with_reducible refine Kept.of_trd (by with_reducible assumption) ?_
    | with_reducible apply foldl_kept | simp only [Kept.upd_iff, Kept.updStart_iff] | intro _ _ _ | intro _ _ | split
    | (fail_if_no_progress dsimp only)

theorem State.readOk_kept {r s : State} (h : Kept r s) (a : ReadTag) (b : Option Port) (c : List Word) : Kept r (State.readOk s a b c) := by
  simp only [State.readOk]
  repeat'
    first
    | with_reducible assumption | with_reducible apply State.readData_kept | with_reducible apply State.endOut_kept
    | with_reducible apply State.endRead_kept | with_reducible apply State.refusedRead_kept | with_reducible apply foldl_kept
    | simp only [Kept.upd_iff, Kept.updStart_iff] | intro _ _ _ | intro _ _ | split | (fail_if_no_progress dsimp only)

theorem State.lineCount_kept {r s : State} (h : Kept r s) (a : Bool) (b : Option (Cls × Nat × Nat)) (c : Nat) (d : Nat) : Kept r (State.lineCount s
  a b c d) := by
  simp only [State.lineCount]
  repeat'
    first
    | with_reducible assumption | with_reducible apply State.ctxCount_kept | with_reducible apply State.count_kept
    | with_reducible apply foldl_kept | simp only [Kept.upd_iff, Kept.updStart_iff] | intro _ _ _ | intro _ _ | split
    | (fail_if_no_progress dsimp only)

theorem State.metaCount_kept {r s : State} (h : Kept r s) (a : Nat) (b : Nat) (c : Nat) : Kept r (State.metaCount s a b c) := by
  simp only [State.metaCount]
  repeat'
    first
    | with_reducible assumption | with_reducible apply State.draw_kept | with_reducible apply State.count_kept
    | with_reducible refine Kept.of_snd (by with_reducible assumption) ?_ | with_reducible refine Kept.of_fst (by with_reducible assumption) ?_
    | with_reducible refine Kept.of_trd (by with_reducible assumption) ?_ | with_reducible apply foldl_kept
    | simp only [Kept.upd_iff, Kept.updStart_iff] | intro _ _ _ | intro _ _ | split | (fail_if_no_progress dsimp only)

theorem State.linesCount_kept {r s : State} (h : Kept r s) (a : ReadTag) (b : Nat) (c : Nat) (d : List MemLine) : Kept r (State.linesCount s a b
    c d) := by
  induction d generalizing s a b c with
  | nil => exact h
  | cons y l ih =>
    simp only [State.linesCount]
    repeat'
      first
      | with_reducible assumption | with_reducible apply ih | with_reducible apply State.lineCount_kept
      | with_reducible apply State.metaCount_kept | with_reducible refine Kept.of_snd (by with_reducible assumption) ?_
      | with_reducible refine Kept.of_fst (by with_reducible assumption) ?_ | with_reducible refine Kept.of_trd (by with_reducible assumption) ?_
      | with_reducible apply foldl_kept | simp only [Kept.upd_iff, Kept.updStart_iff] | intro _ _ _ | intro _ _ | split
      | (fail_if_no_progress dsimp only)

theorem State.memRead_kept {r s : State} (h : Kept r s) (a : ReadTag) (b : MemResult) : Kept r (State.memRead s a b) := by
  simp only [State.memRead]
  repeat'
    first
    | with_reducible assumption | with_reducible apply State.linesCount_kept | with_reducible apply State.readData_kept
    | with_reducible apply State.endOut_kept | with_reducible apply State.endRead_kept | with_reducible apply State.refusedRead_kept
    | with_reducible apply State.cipherFail_kept | with_reducible apply State.failedRead_kept | with_reducible apply foldl_kept
    | simp only [Kept.upd_iff, Kept.updStart_iff] | intro _ _ _ | intro _ _ | split | (fail_if_no_progress dsimp only)

theorem State.hostError_kept {r s : State} (h : Kept r s) (a : ReadTag) : Kept r (State.hostError s a) := by
  simp only [State.hostError]
  repeat'
    first
    | with_reducible assumption | with_reducible apply State.endOut_kept | with_reducible apply State.endRead_kept
    | with_reducible apply State.readFault_kept | with_reducible apply foldl_kept | simp only [Kept.upd_iff, Kept.updStart_iff] | intro _ _ _
    | intro _ _ | split | (fail_if_no_progress dsimp only)

theorem State.hostRead_kept {r s : State} (h : Kept r s) (a : ReadTag) (b : ReadResult) : Kept r (State.hostRead s a b) := by
  simp only [State.hostRead]
  repeat'
    first
    | with_reducible assumption | with_reducible apply State.hostError_kept | with_reducible apply State.readOk_kept
    | with_reducible apply State.ctxCount_kept | with_reducible apply State.count_kept | with_reducible apply foldl_kept
    | simp only [Kept.upd_iff, Kept.updStart_iff] | intro _ _ _ | intro _ _ | split | (fail_if_no_progress dsimp only)

theorem State.lineWritten_kept {r s : State} (h : Kept r s) (a : Option (Cls × Nat × Nat)) (b : Nat) (c : Nat) (d : List Word) : Kept r
    (State.lineWritten s a b c d) := by
  simp only [State.lineWritten]
  repeat'
    first
    | with_reducible assumption | with_reducible apply State.writeLine_kept | with_reducible apply State.refusedRead_kept
    | with_reducible apply State.refuseCnt_kept | with_reducible apply State.releaseFirst_kept | with_reducible apply State.holdPage_kept
    | with_reducible apply State.lineCount_kept | with_reducible refine Kept.of_snd (by with_reducible assumption) ?_
    | with_reducible refine Kept.of_fst (by with_reducible assumption) ?_ | with_reducible refine Kept.of_trd (by with_reducible assumption) ?_
    | with_reducible apply foldl_kept | simp only [Kept.upd_iff, Kept.updStart_iff] | intro _ _ _ | intro _ _ | split
    | (fail_if_no_progress dsimp only)

theorem State.writeAck_kept {r s : State} (h : Kept r s) (a : WriteOf) : Kept r (State.writeAck s a) := by
  simp only [State.writeAck]
  repeat'
    first
    | with_reducible assumption | with_reducible apply State.lineWritten_kept | with_reducible apply State.fnRecsGo_kept
    | with_reducible apply State.segRespAck_kept | with_reducible apply State.segInAck_kept | with_reducible apply State.wayClean_kept
    | with_reducible apply foldl_kept | simp only [Kept.upd_iff, Kept.updStart_iff] | intro _ _ _ | intro _ _ | split
    | (fail_if_no_progress dsimp only)

theorem State.ctlAnswer_kept {r s : State} (h : Kept r s) (a : Cls) (b : Nat) (c : CtlOp) : Kept r (State.ctlAnswer s a b c) := by
  simp only [State.ctlAnswer]
  repeat'
    first
    | with_reducible assumption | with_reducible apply State.coreScrubbed_kept | with_reducible apply State.scrubAck_kept
    | with_reducible apply State.cleanAck_kept | with_reducible apply foldl_kept | simp only [Kept.upd_iff, Kept.updStart_iff] | intro _ _ _
    | intro _ _ | split | (fail_if_no_progress dsimp only)

theorem State.vendorRequest_kept {r s : State} (h : Kept r s) (a : MgmtReq) : Kept r (State.vendorRequest s a) := by
  simp only [State.vendorRequest]
  repeat'
    first
    | with_reducible assumption | with_reducible apply State.writeAccess_kept | with_reducible apply State.readReg_kept
    | with_reducible apply State.loadAbort_kept | with_reducible apply State.loadCommit_kept | with_reducible apply State.loadData_kept
    | with_reducible apply State.loadBegin_kept | with_reducible apply foldl_kept | simp only [Kept.upd_iff, Kept.updStart_iff] | intro _ _ _
    | intro _ _ | split | (fail_if_no_progress dsimp only)

theorem State.reading_kept {r s : State} (h : Kept r s) (a : Nat) (b : TabErr) (c : State → State) (hc : ∀ x0, Kept r x0 → Kept r (c x0)) : Kept r
  (State.reading s a b c) := by
  simp only [State.reading]
  repeat'
    first
    | with_reducible assumption | with_reducible apply hc | with_reducible apply State.readTab_kept
    | with_reducible refine Kept.of_snd (by with_reducible assumption) ?_ | with_reducible refine Kept.of_fst (by with_reducible assumption) ?_
    | with_reducible refine Kept.of_trd (by with_reducible assumption) ?_ | with_reducible apply foldl_kept
    | simp only [Kept.upd_iff, Kept.updStart_iff] | intro _ _ _ | intro _ _ | split | (fail_if_no_progress dsimp only)

theorem State.ringBell_kept {r s : State} (h : Kept r s) (a : Nat) (b : Nat) (c : Nat) (d : Word) : Kept r (State.ringBell s a b c d) := by
  simp only [State.ringBell]
  repeat'
    first
    | with_reducible assumption | with_reducible apply State.reading_kept | with_reducible apply State.doorbell_kept
    | with_reducible refine Kept.of_snd (by with_reducible assumption) ?_ | with_reducible refine Kept.of_fst (by with_reducible assumption) ?_
    | with_reducible refine Kept.of_trd (by with_reducible assumption) ?_ | with_reducible apply foldl_kept
    | simp only [Kept.upd_iff, Kept.updStart_iff] | intro _ _ _ | intro _ _ | split | (fail_if_no_progress dsimp only)

theorem State.visitRead_kept {r s : State} (h : Kept r s) (a : Option Nat) (b : Bool) : Kept r (State.visitRead s a b) := by
  simp only [State.visitRead]
  repeat'
    first
    | with_reducible assumption | with_reducible apply State.reading_kept | with_reducible apply State.visit_kept
    | with_reducible apply foldl_kept | simp only [Kept.upd_iff, Kept.updStart_iff] | intro _ _ _ | intro _ _ | split
    | (fail_if_no_progress dsimp only)

theorem State.urgentVisit_kept {r s : State} (h : Kept r s) : Kept r (State.urgentVisit s) := by
  simp only [State.urgentVisit]
  repeat'
    first
    | with_reducible assumption | with_reducible apply State.visitRead_kept | with_reducible apply foldl_kept
    | simp only [Kept.upd_iff, Kept.updStart_iff] | intro _ _ _ | intro _ _ | split | (fail_if_no_progress dsimp only)

theorem State.shortVisit_kept {r s : State} (h : Kept r s) : Kept r (State.shortVisit s) := by
  simp only [State.shortVisit]
  repeat'
    first
    | with_reducible assumption | with_reducible apply State.visitRead_kept | with_reducible apply foldl_kept
    | simp only [Kept.upd_iff, Kept.updStart_iff] | intro _ _ _ | intro _ _ | split | (fail_if_no_progress dsimp only)

theorem State.scheduledVisit_kept {r s : State} (h : Kept r s) : Kept r (State.scheduledVisit s) := by
  simp only [State.scheduledVisit]
  repeat'
    first
    | with_reducible assumption | with_reducible apply State.urgent_kept | with_reducible apply State.visited_kept
    | with_reducible apply State.visitRead_kept | with_reducible apply State.updSq_kept
    | with_reducible refine Kept.of_snd (by with_reducible assumption) ?_ | with_reducible refine Kept.of_fst (by with_reducible assumption) ?_
    | with_reducible refine Kept.of_trd (by with_reducible assumption) ?_ | with_reducible apply foldl_kept
    | simp only [Kept.upd_iff, Kept.updStart_iff] | intro _ _ _ | intro _ _ | split | (fail_if_no_progress dsimp only)

theorem State.grantFlight_kept {r s : State} (h : Kept r s) : Kept r (State.grantFlight s) := by
  simp only [State.grantFlight]
  repeat'
    first
    | with_reducible assumption | with_reducible apply State.acceptLoop_kept | with_reducible apply foldl_kept
    | simp only [Kept.upd_iff, Kept.updStart_iff] | intro _ _ _ | intro _ _ | split | (fail_if_no_progress dsimp only)

theorem State.writeCi_kept {r s : State} (h : Kept r s) (a : CiTarget) (b : Half) : Kept r (State.writeCi s a b) := by
  simp only [State.writeCi]
  repeat'
    first
    | with_reducible assumption | with_reducible apply State.writeFnRingCi_kept | with_reducible apply State.writeRingCi_kept
    | with_reducible apply State.writeAdmCi_kept | with_reducible apply State.writeCrCi_kept | with_reducible apply foldl_kept
    | simp only [Kept.upd_iff, Kept.updStart_iff] | intro _ _ _ | intro _ _ | split | (fail_if_no_progress dsimp only)

theorem State.mgmtCyclic_kept {r s : State} (h : Kept r s) (a : Nat) (b : Option (List Word)) : Kept r (State.mgmtCyclic s a b) := by
  simp only [State.mgmtCyclic]
  repeat'
    first
    | with_reducible assumption | with_reducible apply State.loadCyclic_kept
    | with_reducible refine Kept.of_snd (by with_reducible assumption) ?_ | with_reducible refine Kept.of_fst (by with_reducible assumption) ?_
    | with_reducible refine Kept.of_trd (by with_reducible assumption) ?_ | with_reducible apply foldl_kept
    | simp only [Kept.upd_iff, Kept.updStart_iff] | intro _ _ _ | intro _ _ | split | (fail_if_no_progress dsimp only)

theorem State.retire_kept {r s : State} (h : Kept r s) (a : Nat) (b : WriteFault) : Kept r (State.retire s a b) := by
  simp only [State.retire]
  repeat'
    first
    | with_reducible assumption | with_reducible apply State.complete_kept | with_reducible apply foldl_kept
    | simp only [Kept.upd_iff, Kept.updStart_iff] | intro _ _ _ | intro _ _ | split | (fail_if_no_progress dsimp only)

theorem State.readingEvent_kept {r s : State} (h : Kept r s) (a : Half) (b : State → State) (hb : ∀ x0, Kept r x0 → Kept r (b x0)) : Kept r
  (State.readingEvent s a b) := by
  simp only [State.readingEvent]
  repeat'
    first
    | with_reducible assumption | with_reducible apply hb | with_reducible apply State.reading_kept
    | with_reducible refine Kept.of_snd (by with_reducible assumption) ?_ | with_reducible refine Kept.of_fst (by with_reducible assumption) ?_
    | with_reducible refine Kept.of_trd (by with_reducible assumption) ?_ | with_reducible apply foldl_kept
    | simp only [Kept.upd_iff, Kept.updStart_iff] | intro _ _ _ | intro _ _ | split | (fail_if_no_progress dsimp only)

theorem State.readingSem_kept {r s : State} (h : Kept r s) (a : Nat) (b : Nat) (c : State → State) (hc : ∀ x0, Kept r x0 → Kept r (c x0)) : Kept r
  (State.readingSem s a b c) := by
  simp only [State.readingSem]
  repeat'
    first
    | with_reducible assumption | with_reducible apply hc | with_reducible apply State.reading_kept
    | with_reducible refine Kept.of_snd (by with_reducible assumption) ?_ | with_reducible refine Kept.of_fst (by with_reducible assumption) ?_
    | with_reducible refine Kept.of_trd (by with_reducible assumption) ?_ | with_reducible apply foldl_kept
    | simp only [Kept.upd_iff, Kept.updStart_iff] | intro _ _ _ | intro _ _ | split | (fail_if_no_progress dsimp only)

theorem State.tileWalk_kept {r s : State} (h : Kept r s) (a : Nat) (b : Call) (c : Option (List Word)) (d : Option (List Word)) (e : Option (List
    (Word × Nat × Nat))) : Kept r (State.tileWalk s a b c d e) := by
  simp only [State.tileWalk]
  repeat'
    first
    | with_reducible assumption | with_reducible apply State.readMem_kept | with_reducible apply State.noteRefused_kept
    | with_reducible apply State.guilty_kept | with_reducible apply State.when_kept | with_reducible apply State.startRom_kept
    | with_reducible refine Kept.of_snd (by with_reducible assumption) ?_ | with_reducible refine Kept.of_fst (by with_reducible assumption) ?_
    | with_reducible refine Kept.of_trd (by with_reducible assumption) ?_ | with_reducible apply foldl_kept
    | simp only [Kept.upd_iff, Kept.updStart_iff] | intro _ _ _ | intro _ _ | split | (fail_if_no_progress dsimp only)

theorem State.frameIndex_kept {r s : State} (h : Kept r s) (a : Nat) (b : Flight) (c : Call) (d : Option RemoteVal) : Kept r (State.frameIndex s a b
  c d) := by
  simp only [State.frameIndex]
  repeat'
    first
    | with_reducible assumption | with_reducible apply State.startRom_kept | with_reducible apply State.malformed_kept
    | with_reducible apply State.endEarly_kept | with_reducible apply foldl_kept | simp only [Kept.upd_iff, Kept.updStart_iff] | intro _ _ _
    | intro _ _ | split | (fail_if_no_progress dsimp only)

theorem State.pickSeq_kept {r s : State} (h : Kept r s) (a : Nat) : Kept r (State.pickSeq s a) := by
  simp only [State.pickSeq]
  repeat'
    first
    | with_reducible assumption | with_reducible apply State.reading_kept | with_reducible apply State.seqPick_kept
    | with_reducible refine Kept.of_snd (by with_reducible assumption) ?_ | with_reducible refine Kept.of_fst (by with_reducible assumption) ?_
    | with_reducible refine Kept.of_trd (by with_reducible assumption) ?_ | with_reducible apply foldl_kept
    | simp only [Kept.upd_iff, Kept.updStart_iff] | intro _ _ _ | intro _ _ | split | (fail_if_no_progress dsimp only)

theorem State.fnCfgReset_kept {r s : State} (h : Kept r s) (a : Bool) (b : Nat) : Kept r (State.fnCfgReset s a b) := by
  simp only [State.fnCfgReset]
  repeat'
    first
    | with_reducible assumption | with_reducible apply State.startFlr_kept | with_reducible apply foldl_kept
    | simp only [Kept.upd_iff, Kept.updStart_iff] | intro _ _ _ | intro _ _ | split | (fail_if_no_progress dsimp only)

theorem State.spdm_kept {r s : State} (h : Kept r s) (a : SpdmPeer) (b : Bool) (c : State → State × SpdmAns) (hc : ∀ x0, Kept r x0 → Kept r (c
    x0).1) : Kept r (State.spdm s a b c) := by
  simp only [State.spdm]
  repeat'
    first
    | with_reducible assumption | with_reducible apply State.spdmThen_kept | with_reducible apply State.answer_kept | with_reducible apply hc
    | with_reducible refine Kept.of_snd (by with_reducible assumption) ?_ | with_reducible refine Kept.of_fst (by with_reducible assumption) ?_
    | with_reducible refine Kept.of_trd (by with_reducible assumption) ?_ | with_reducible apply foldl_kept
    | simp only [Kept.upd_iff, Kept.updStart_iff] | intro _ _ _ | intro _ _ | split | (fail_if_no_progress dsimp only)

theorem State.sessionEnd_kept {r s : State} (h : Kept r s) (a : SpdmPeer) : Kept r (State.sessionEnd s a).1 := by
  simp only [State.sessionEnd]
  repeat'
    first
    | with_reducible assumption | with_reducible apply State.loadAbort_kept | with_reducible apply State.spdmEnd_kept
    | with_reducible refine Kept.of_snd (by with_reducible assumption) ?_ | with_reducible refine Kept.of_fst (by with_reducible assumption) ?_
    | with_reducible refine Kept.of_trd (by with_reducible assumption) ?_ | with_reducible apply foldl_kept
    | simp only [Kept.upd_iff, Kept.updStart_iff] | intro _ _ _ | intro _ _ | split | (fail_if_no_progress dsimp only)

theorem State.spdmKeyUpdate_kept {r s : State} (h : Kept r s) (a : SpdmPeer) : Kept r (State.spdmKeyUpdate s a).1 := by
  simp only [State.spdmKeyUpdate]
  repeat'
    first
    | with_reducible assumption | with_reducible refine Kept.of_snd (by with_reducible assumption) ?_
    | with_reducible refine Kept.of_fst (by with_reducible assumption) ?_ | with_reducible refine Kept.of_trd (by with_reducible assumption) ?_
    | with_reducible apply foldl_kept | simp only [Kept.upd_iff, Kept.updStart_iff] | intro _ _ _ | intro _ _ | split
    | (fail_if_no_progress dsimp only)

theorem State.inMgmt_kept {r s : State} (h : Kept r s) (a : State → State) (ha : ∀ x0, Kept r x0 → Kept r (a x0)) : Kept r (State.inMgmt s a) := by
  simp only [State.inMgmt]
  repeat'
    first
    | with_reducible assumption | with_reducible apply ha | with_reducible refine Kept.of_snd (by with_reducible assumption) ?_
    | with_reducible refine Kept.of_fst (by with_reducible assumption) ?_ | with_reducible refine Kept.of_trd (by with_reducible assumption) ?_
    | with_reducible apply foldl_kept | simp only [Kept.upd_iff, Kept.updStart_iff] | intro _ _ _ | intro _ _ | split
    | (fail_if_no_progress dsimp only)

theorem State.withFetchWord_kept {r s : State} (h : Kept r s) (a : Nat) (b : Nat) : Kept r (State.withFetchWord s a b) := by
  exact Kept.upd_iff.2 h

theorem fin_kept {r s u : State} (h : Kept r s) (e : fin s = .next u) : Kept r u := by
  injection e with a
  exact a ▸ State.polls_kept h

theorem act_kept {s u : State} {t : Nat} {f : State → State} (hf : ∀ v, Kept s v → Kept s (f v)) (e : act s t f = .next u) :
    Kept s u := by
  unfold act at e
  split at e
  · exact fin_kept (hf _ (State.at_kept (.refl s) t)) e
  · injection e with a
    exact a ▸ .refl s

theorem actFront_kept {s u : State} {t : Nat} {f : State → State} (hf : ∀ v, Kept s v → Kept s (f v))
    (e : actFront s t f = .next u) : Kept s u := by
  unfold actFront at e
  split at e
  · exact fin_kept (hf _ (State.at_kept (.refl s) t)) e
  · injection e with a
    exact a ▸ .refl s

theorem actDev_kept {s u : State} {t : Nat} {f : State → State} (hf : ∀ v, Kept s v → Kept s (f v))
    (e : actDev s t f = .next u) : Kept s u := by
  unfold actDev at e
  split at e
  · exact fin_kept (hf _ (State.at_kept (.refl s) t)) e
  · injection e with a
    exact a ▸ .refl s

theorem actLink_kept {s u : State} {t : Nat} {f : State → State} (hf : ∀ v, Kept s v → Kept s (f v))
    (e : actLink s t f = .next u) : Kept s u := by
  unfold actLink at e
  split at e
  · exact fin_kept (State.rekeyLost_kept (hf _ (State.at_kept (.refl s) t)) _) e
  · injection e with a
    exact a ▸ .refl s

theorem actAny_kept {r s u : State} {t : Nat} {f : State → State} (h : Kept r (f (s.at t))) (e : actAny s t f = .next u) :
    Kept r u := by
  unfold actAny at e
  exact fin_kept h e

theorem regWr_kept {s u : State} {t : Nat} {who : Who} {win : Window} {f : State → State} (hf : ∀ v, Kept s v → Kept s (f v))
    (e : regWr s t who win f = .next u) : Kept s u :=
  have h := State.at_kept (.refl s) t
  actAny_kept (Kept.ite (hf _ (State.hostTouch_kept h who true)) h) e

theorem mgmtWr_kept {s u : State} {t : Nat} {who : Who} {f : State → State} (hf : ∀ v, Kept s v → Kept s (f v))
    (e : mgmtWr s t who f = .next u) : Kept s u :=
  regWr_kept (fun v h => Kept.ite (hf v h) h) e

theorem regRd_kept {s u : State} {t : Nat} {who : Who} {win : Window} {r : Reg} {f : State → Word × State}
    (hf : ∀ v, Kept s v → Kept s (f v).2) (e : regRd s t who win r f = .next u) : Kept s u := by
  refine actAny_kept ?_ e
  have h := State.at_kept (.refl s) t
  dsimp only
  split
  · exact State.emit_kept h _
  · split
    · exact State.emit_kept h _
    · exact State.emit_kept (hf _ (State.hostTouch_kept h who false)) _

theorem microStep_kept {s u : State} {t n : Nat} {rom : BitVec 136} {inp : MicroIn} {p : BitVec 128 → Bool}
    (e : microStep s t n rom inp p = .next u) : Kept s u := by
  have h := State.at_kept (.refl s) t
  unfold microStep at e
  split at e
  · injection e with a
    exact a ▸ .refl s
  · dsimp only at e
    split at e
    · exact fin_kept h e
    · split at e
      · exact nomatch e
      · exact fin_kept (State.micro_kept h n rom inp) e

end Sys2Proof.Machine
end

