-- ==== Sys2Proof/Laws/State.lean ====
section
/-! SUPPORT. The fields of the state after each plain update: one lemma per field and update, so that no proof unfolds a record
update. -/

namespace Sys2Proof.Machine

variable (s : State)

section
variable (e : Emit)

@[simp] theorem State.emit_pending : (s.emit e).pending = s.pending := rfl
@[simp] theorem State.emit_now : (s.emit e).now = s.now := rfl
@[simp] theorem State.emit_ref : (s.emit e).ref = s.ref := rfl
@[simp] theorem State.emit_regs : (s.emit e).regs = s.regs := rfl
@[simp] theorem State.emit_irq : (s.emit e).irq = s.irq := rfl
@[simp] theorem State.emit_reads : (s.emit e).reads = s.reads := rfl
@[simp] theorem State.emit_faulting : (s.emit e).faulting = s.faulting := rfl
@[simp] theorem State.emit_fresh : (s.emit e).fresh = s.fresh := rfl
@[simp] theorem State.emit_sqs : (s.emit e).sqs = s.sqs := rfl
@[simp] theorem State.emit_crs : (s.emit e).crs = s.crs := rfl
@[simp] theorem State.emit_adm : (s.emit e).adm = s.adm := rfl
@[simp] theorem State.emit_admHeld : (s.emit e).admHeld = s.admHeld := rfl
@[simp] theorem State.emit_scan : (s.emit e).scan = s.scan := rfl
@[simp] theorem State.emit_flights : (s.emit e).flights = s.flights := rfl
@[simp] theorem State.emit_tasks : (s.emit e).tasks = s.tasks := rfl
@[simp] theorem State.emit_nextTask : (s.emit e).nextTask = s.nextTask := rfl
@[simp] theorem State.emit_hints : (s.emit e).hints = s.hints := rfl
@[simp] theorem State.emit_mqSlots : (s.emit e).mqSlots = s.mqSlots := rfl
@[simp] theorem State.emit_mqJobs : (s.emit e).mqJobs = s.mqJobs := rfl
@[simp] theorem State.emit_due : (s.emit e).due = s.due := rfl
@[simp] theorem State.emit_lanes : (s.emit e).lanes = s.lanes := rfl
@[simp] theorem State.emit_launches : (s.emit e).launches = s.launches := rfl
@[simp] theorem State.emit_cores : (s.emit e).cores = s.cores := rfl
@[simp] theorem State.emit_engs : (s.emit e).engs = s.engs := rfl
@[simp] theorem State.emit_trims : (s.emit e).trims = s.trims := rfl
@[simp] theorem State.emit_events : (s.emit e).events = s.events := rfl
@[simp] theorem State.emit_sems : (s.emit e).sems = s.sems := rfl
@[simp] theorem State.emit_remoteWaits : (s.emit e).remoteWaits = s.remoteWaits := rfl
@[simp] theorem State.emit_remoteOps : (s.emit e).remoteOps = s.remoteOps := rfl
@[simp] theorem State.emit_remoteAcqs : (s.emit e).remoteAcqs = s.remoteAcqs := rfl
@[simp] theorem State.emit_remoteHolds : (s.emit e).remoteHolds = s.remoteHolds := rfl
@[simp] theorem State.emit_fnRecs : (s.emit e).fnRecs = s.fnRecs := rfl
@[simp] theorem State.emit_ctxs : (s.emit e).ctxs = s.ctxs := rfl
@[simp] theorem State.emit_cyc : (s.emit e).cyc = s.cyc := rfl
@[simp] theorem State.emit_wd : (s.emit e).wd = s.wd := rfl
@[simp] theorem State.emit_td : (s.emit e).td = s.td := rfl
@[simp] theorem State.emit_preq : (s.emit e).preq = s.preq := rfl
@[simp] theorem State.emit_removals : (s.emit e).removals = s.removals := rfl
@[simp] theorem State.emit_dins : (s.emit e).dins = s.dins := rfl
@[simp] theorem State.emit_regrow : (s.emit e).regrow = s.regrow := rfl
@[simp] theorem State.emit_gov : (s.emit e).gov = s.gov := rfl
@[simp] theorem State.emit_sec : (s.emit e).sec = s.sec := rfl
@[simp] theorem State.emit_tml : (s.emit e).tml = s.tml := rfl
@[simp] theorem State.emit_obs : (s.emit e).obs = s.obs := rfl
@[simp] theorem State.emit_mcs : (s.emit e).mcs = s.mcs := rfl
@[simp] theorem State.emit_start : (s.emit e).start = s.start := rfl
@[simp] theorem State.emit_reg (r0 : Reg) (i0 j0 : Nat) : (s.emit e).reg r0 i0 j0 = s.reg r0 i0 j0 := rfl
@[simp] theorem State.emit_rf (r0 : Reg) (i0 j0 l0 w0 : Nat) : (s.emit e).rf r0 i0 j0 l0 w0 = s.rf r0 i0 j0 l0 w0 := rfl
@[simp] theorem State.emit_rb (r0 : Reg) (i0 j0 b0 : Nat) : (s.emit e).rb r0 i0 j0 b0 = s.rb r0 i0 j0 b0 := rfl

end

section
variable (es : List Emit)

@[simp] theorem State.emits_pending : (s.emits es).pending = s.pending := rfl
@[simp] theorem State.emits_now : (s.emits es).now = s.now := rfl
@[simp] theorem State.emits_ref : (s.emits es).ref = s.ref := rfl
@[simp] theorem State.emits_regs : (s.emits es).regs = s.regs := rfl
@[simp] theorem State.emits_irq : (s.emits es).irq = s.irq := rfl
@[simp] theorem State.emits_reads : (s.emits es).reads = s.reads := rfl
@[simp] theorem State.emits_faulting : (s.emits es).faulting = s.faulting := rfl
@[simp] theorem State.emits_fresh : (s.emits es).fresh = s.fresh := rfl
@[simp] theorem State.emits_sqs : (s.emits es).sqs = s.sqs := rfl
@[simp] theorem State.emits_crs : (s.emits es).crs = s.crs := rfl
@[simp] theorem State.emits_adm : (s.emits es).adm = s.adm := rfl
@[simp] theorem State.emits_admHeld : (s.emits es).admHeld = s.admHeld := rfl
@[simp] theorem State.emits_scan : (s.emits es).scan = s.scan := rfl
@[simp] theorem State.emits_flights : (s.emits es).flights = s.flights := rfl
@[simp] theorem State.emits_tasks : (s.emits es).tasks = s.tasks := rfl
@[simp] theorem State.emits_nextTask : (s.emits es).nextTask = s.nextTask := rfl
@[simp] theorem State.emits_hints : (s.emits es).hints = s.hints := rfl
@[simp] theorem State.emits_mqSlots : (s.emits es).mqSlots = s.mqSlots := rfl
@[simp] theorem State.emits_mqJobs : (s.emits es).mqJobs = s.mqJobs := rfl
@[simp] theorem State.emits_due : (s.emits es).due = s.due := rfl
@[simp] theorem State.emits_lanes : (s.emits es).lanes = s.lanes := rfl
@[simp] theorem State.emits_launches : (s.emits es).launches = s.launches := rfl
@[simp] theorem State.emits_cores : (s.emits es).cores = s.cores := rfl
@[simp] theorem State.emits_engs : (s.emits es).engs = s.engs := rfl
@[simp] theorem State.emits_trims : (s.emits es).trims = s.trims := rfl
@[simp] theorem State.emits_events : (s.emits es).events = s.events := rfl
@[simp] theorem State.emits_sems : (s.emits es).sems = s.sems := rfl
@[simp] theorem State.emits_remoteWaits : (s.emits es).remoteWaits = s.remoteWaits := rfl
@[simp] theorem State.emits_remoteOps : (s.emits es).remoteOps = s.remoteOps := rfl
@[simp] theorem State.emits_remoteAcqs : (s.emits es).remoteAcqs = s.remoteAcqs := rfl
@[simp] theorem State.emits_remoteHolds : (s.emits es).remoteHolds = s.remoteHolds := rfl
@[simp] theorem State.emits_fnRecs : (s.emits es).fnRecs = s.fnRecs := rfl
@[simp] theorem State.emits_ctxs : (s.emits es).ctxs = s.ctxs := rfl
@[simp] theorem State.emits_cyc : (s.emits es).cyc = s.cyc := rfl
@[simp] theorem State.emits_wd : (s.emits es).wd = s.wd := rfl
@[simp] theorem State.emits_td : (s.emits es).td = s.td := rfl
@[simp] theorem State.emits_preq : (s.emits es).preq = s.preq := rfl
@[simp] theorem State.emits_removals : (s.emits es).removals = s.removals := rfl
@[simp] theorem State.emits_dins : (s.emits es).dins = s.dins := rfl
@[simp] theorem State.emits_regrow : (s.emits es).regrow = s.regrow := rfl
@[simp] theorem State.emits_gov : (s.emits es).gov = s.gov := rfl
@[simp] theorem State.emits_sec : (s.emits es).sec = s.sec := rfl
@[simp] theorem State.emits_tml : (s.emits es).tml = s.tml := rfl
@[simp] theorem State.emits_obs : (s.emits es).obs = s.obs := rfl
@[simp] theorem State.emits_mcs : (s.emits es).mcs = s.mcs := rfl
@[simp] theorem State.emits_start : (s.emits es).start = s.start := rfl
@[simp] theorem State.emits_reg (r0 : Reg) (i0 j0 : Nat) : (s.emits es).reg r0 i0 j0 = s.reg r0 i0 j0 := rfl
@[simp] theorem State.emits_rf (r0 : Reg) (i0 j0 l0 w0 : Nat) : (s.emits es).rf r0 i0 j0 l0 w0 = s.rf r0 i0 j0 l0 w0 := rfl
@[simp] theorem State.emits_rb (r0 : Reg) (i0 j0 b0 : Nat) : (s.emits es).rb r0 i0 j0 b0 = s.rb r0 i0 j0 b0 := rfl

end

section
variable (r : Reg) (i j : Nat) (v : Word)

@[simp] theorem State.setReg_pending : (s.setReg r i j v).pending = s.pending := rfl
@[simp] theorem State.setReg_now : (s.setReg r i j v).now = s.now := rfl
@[simp] theorem State.setReg_ref : (s.setReg r i j v).ref = s.ref := rfl
@[simp] theorem State.setReg_irq : (s.setReg r i j v).irq = s.irq := rfl
@[simp] theorem State.setReg_out : (s.setReg r i j v).out = s.out := rfl
@[simp] theorem State.setReg_reads : (s.setReg r i j v).reads = s.reads := rfl
@[simp] theorem State.setReg_faulting : (s.setReg r i j v).faulting = s.faulting := rfl
@[simp] theorem State.setReg_fresh : (s.setReg r i j v).fresh = s.fresh := rfl
@[simp] theorem State.setReg_sqs : (s.setReg r i j v).sqs = s.sqs := rfl
@[simp] theorem State.setReg_crs : (s.setReg r i j v).crs = s.crs := rfl
@[simp] theorem State.setReg_adm : (s.setReg r i j v).adm = s.adm := rfl
@[simp] theorem State.setReg_admHeld : (s.setReg r i j v).admHeld = s.admHeld := rfl
@[simp] theorem State.setReg_scan : (s.setReg r i j v).scan = s.scan := rfl
@[simp] theorem State.setReg_flights : (s.setReg r i j v).flights = s.flights := rfl
@[simp] theorem State.setReg_tasks : (s.setReg r i j v).tasks = s.tasks := rfl
@[simp] theorem State.setReg_nextTask : (s.setReg r i j v).nextTask = s.nextTask := rfl
@[simp] theorem State.setReg_hints : (s.setReg r i j v).hints = s.hints := rfl
@[simp] theorem State.setReg_mqSlots : (s.setReg r i j v).mqSlots = s.mqSlots := rfl
@[simp] theorem State.setReg_mqJobs : (s.setReg r i j v).mqJobs = s.mqJobs := rfl
@[simp] theorem State.setReg_due : (s.setReg r i j v).due = s.due := rfl
@[simp] theorem State.setReg_lanes : (s.setReg r i j v).lanes = s.lanes := rfl
@[simp] theorem State.setReg_launches : (s.setReg r i j v).launches = s.launches := rfl
@[simp] theorem State.setReg_cores : (s.setReg r i j v).cores = s.cores := rfl
@[simp] theorem State.setReg_engs : (s.setReg r i j v).engs = s.engs := rfl
@[simp] theorem State.setReg_trims : (s.setReg r i j v).trims = s.trims := rfl
@[simp] theorem State.setReg_events : (s.setReg r i j v).events = s.events := rfl
@[simp] theorem State.setReg_sems : (s.setReg r i j v).sems = s.sems := rfl
@[simp] theorem State.setReg_remoteWaits : (s.setReg r i j v).remoteWaits = s.remoteWaits := rfl
@[simp] theorem State.setReg_remoteOps : (s.setReg r i j v).remoteOps = s.remoteOps := rfl
@[simp] theorem State.setReg_remoteAcqs : (s.setReg r i j v).remoteAcqs = s.remoteAcqs := rfl
@[simp] theorem State.setReg_remoteHolds : (s.setReg r i j v).remoteHolds = s.remoteHolds := rfl
@[simp] theorem State.setReg_fnRecs : (s.setReg r i j v).fnRecs = s.fnRecs := rfl
@[simp] theorem State.setReg_ctxs : (s.setReg r i j v).ctxs = s.ctxs := rfl
@[simp] theorem State.setReg_cyc : (s.setReg r i j v).cyc = s.cyc := rfl
@[simp] theorem State.setReg_wd : (s.setReg r i j v).wd = s.wd := rfl
@[simp] theorem State.setReg_td : (s.setReg r i j v).td = s.td := rfl
@[simp] theorem State.setReg_preq : (s.setReg r i j v).preq = s.preq := rfl
@[simp] theorem State.setReg_removals : (s.setReg r i j v).removals = s.removals := rfl
@[simp] theorem State.setReg_dins : (s.setReg r i j v).dins = s.dins := rfl
@[simp] theorem State.setReg_regrow : (s.setReg r i j v).regrow = s.regrow := rfl
@[simp] theorem State.setReg_gov : (s.setReg r i j v).gov = s.gov := rfl
@[simp] theorem State.setReg_sec : (s.setReg r i j v).sec = s.sec := rfl
@[simp] theorem State.setReg_tml : (s.setReg r i j v).tml = s.tml := rfl
@[simp] theorem State.setReg_obs : (s.setReg r i j v).obs = s.obs := rfl
@[simp] theorem State.setReg_mcs : (s.setReg r i j v).mcs = s.mcs := rfl
@[simp] theorem State.setReg_start : (s.setReg r i j v).start = s.start := rfl

end

section
variable (r : Reg) (i j lo w x : Nat)

@[simp] theorem State.setF_pending : (s.setF r i j lo w x).pending = s.pending := rfl
@[simp] theorem State.setF_now : (s.setF r i j lo w x).now = s.now := rfl
@[simp] theorem State.setF_ref : (s.setF r i j lo w x).ref = s.ref := rfl
@[simp] theorem State.setF_irq : (s.setF r i j lo w x).irq = s.irq := rfl
@[simp] theorem State.setF_out : (s.setF r i j lo w x).out = s.out := rfl
@[simp] theorem State.setF_reads : (s.setF r i j lo w x).reads = s.reads := rfl
@[simp] theorem State.setF_faulting : (s.setF r i j lo w x).faulting = s.faulting := rfl
@[simp] theorem State.setF_fresh : (s.setF r i j lo w x).fresh = s.fresh := rfl
@[simp] theorem State.setF_sqs : (s.setF r i j lo w x).sqs = s.sqs := rfl
@[simp] theorem State.setF_crs : (s.setF r i j lo w x).crs = s.crs := rfl
@[simp] theorem State.setF_adm : (s.setF r i j lo w x).adm = s.adm := rfl
@[simp] theorem State.setF_admHeld : (s.setF r i j lo w x).admHeld = s.admHeld := rfl
@[simp] theorem State.setF_scan : (s.setF r i j lo w x).scan = s.scan := rfl
@[simp] theorem State.setF_flights : (s.setF r i j lo w x).flights = s.flights := rfl
@[simp] theorem State.setF_tasks : (s.setF r i j lo w x).tasks = s.tasks := rfl
@[simp] theorem State.setF_nextTask : (s.setF r i j lo w x).nextTask = s.nextTask := rfl
@[simp] theorem State.setF_hints : (s.setF r i j lo w x).hints = s.hints := rfl
@[simp] theorem State.setF_mqSlots : (s.setF r i j lo w x).mqSlots = s.mqSlots := rfl
@[simp] theorem State.setF_mqJobs : (s.setF r i j lo w x).mqJobs = s.mqJobs := rfl
@[simp] theorem State.setF_due : (s.setF r i j lo w x).due = s.due := rfl
@[simp] theorem State.setF_lanes : (s.setF r i j lo w x).lanes = s.lanes := rfl
@[simp] theorem State.setF_launches : (s.setF r i j lo w x).launches = s.launches := rfl
@[simp] theorem State.setF_cores : (s.setF r i j lo w x).cores = s.cores := rfl
@[simp] theorem State.setF_engs : (s.setF r i j lo w x).engs = s.engs := rfl
@[simp] theorem State.setF_trims : (s.setF r i j lo w x).trims = s.trims := rfl
@[simp] theorem State.setF_events : (s.setF r i j lo w x).events = s.events := rfl
@[simp] theorem State.setF_sems : (s.setF r i j lo w x).sems = s.sems := rfl
@[simp] theorem State.setF_remoteWaits : (s.setF r i j lo w x).remoteWaits = s.remoteWaits := rfl
@[simp] theorem State.setF_remoteOps : (s.setF r i j lo w x).remoteOps = s.remoteOps := rfl
@[simp] theorem State.setF_remoteAcqs : (s.setF r i j lo w x).remoteAcqs = s.remoteAcqs := rfl
@[simp] theorem State.setF_remoteHolds : (s.setF r i j lo w x).remoteHolds = s.remoteHolds := rfl
@[simp] theorem State.setF_fnRecs : (s.setF r i j lo w x).fnRecs = s.fnRecs := rfl
@[simp] theorem State.setF_ctxs : (s.setF r i j lo w x).ctxs = s.ctxs := rfl
@[simp] theorem State.setF_cyc : (s.setF r i j lo w x).cyc = s.cyc := rfl
@[simp] theorem State.setF_wd : (s.setF r i j lo w x).wd = s.wd := rfl
@[simp] theorem State.setF_td : (s.setF r i j lo w x).td = s.td := rfl
@[simp] theorem State.setF_preq : (s.setF r i j lo w x).preq = s.preq := rfl
@[simp] theorem State.setF_removals : (s.setF r i j lo w x).removals = s.removals := rfl
@[simp] theorem State.setF_dins : (s.setF r i j lo w x).dins = s.dins := rfl
@[simp] theorem State.setF_regrow : (s.setF r i j lo w x).regrow = s.regrow := rfl
@[simp] theorem State.setF_gov : (s.setF r i j lo w x).gov = s.gov := rfl
@[simp] theorem State.setF_sec : (s.setF r i j lo w x).sec = s.sec := rfl
@[simp] theorem State.setF_tml : (s.setF r i j lo w x).tml = s.tml := rfl
@[simp] theorem State.setF_obs : (s.setF r i j lo w x).obs = s.obs := rfl
@[simp] theorem State.setF_mcs : (s.setF r i j lo w x).mcs = s.mcs := rfl
@[simp] theorem State.setF_start : (s.setF r i j lo w x).start = s.start := rfl

end

section
variable (r : Reg) (i j b : Nat) (v : Bool)

@[simp] theorem State.setB_pending : (s.setB r i j b v).pending = s.pending := rfl
@[simp] theorem State.setB_now : (s.setB r i j b v).now = s.now := rfl
@[simp] theorem State.setB_ref : (s.setB r i j b v).ref = s.ref := rfl
@[simp] theorem State.setB_irq : (s.setB r i j b v).irq = s.irq := rfl
@[simp] theorem State.setB_out : (s.setB r i j b v).out = s.out := rfl
@[simp] theorem State.setB_reads : (s.setB r i j b v).reads = s.reads := rfl
@[simp] theorem State.setB_faulting : (s.setB r i j b v).faulting = s.faulting := rfl
@[simp] theorem State.setB_fresh : (s.setB r i j b v).fresh = s.fresh := rfl
@[simp] theorem State.setB_sqs : (s.setB r i j b v).sqs = s.sqs := rfl
@[simp] theorem State.setB_crs : (s.setB r i j b v).crs = s.crs := rfl
@[simp] theorem State.setB_adm : (s.setB r i j b v).adm = s.adm := rfl
@[simp] theorem State.setB_admHeld : (s.setB r i j b v).admHeld = s.admHeld := rfl
@[simp] theorem State.setB_scan : (s.setB r i j b v).scan = s.scan := rfl
@[simp] theorem State.setB_flights : (s.setB r i j b v).flights = s.flights := rfl
@[simp] theorem State.setB_tasks : (s.setB r i j b v).tasks = s.tasks := rfl
@[simp] theorem State.setB_nextTask : (s.setB r i j b v).nextTask = s.nextTask := rfl
@[simp] theorem State.setB_hints : (s.setB r i j b v).hints = s.hints := rfl
@[simp] theorem State.setB_mqSlots : (s.setB r i j b v).mqSlots = s.mqSlots := rfl
@[simp] theorem State.setB_mqJobs : (s.setB r i j b v).mqJobs = s.mqJobs := rfl
@[simp] theorem State.setB_due : (s.setB r i j b v).due = s.due := rfl
@[simp] theorem State.setB_lanes : (s.setB r i j b v).lanes = s.lanes := rfl
@[simp] theorem State.setB_launches : (s.setB r i j b v).launches = s.launches := rfl
@[simp] theorem State.setB_cores : (s.setB r i j b v).cores = s.cores := rfl
@[simp] theorem State.setB_engs : (s.setB r i j b v).engs = s.engs := rfl
@[simp] theorem State.setB_trims : (s.setB r i j b v).trims = s.trims := rfl
@[simp] theorem State.setB_events : (s.setB r i j b v).events = s.events := rfl
@[simp] theorem State.setB_sems : (s.setB r i j b v).sems = s.sems := rfl
@[simp] theorem State.setB_remoteWaits : (s.setB r i j b v).remoteWaits = s.remoteWaits := rfl
@[simp] theorem State.setB_remoteOps : (s.setB r i j b v).remoteOps = s.remoteOps := rfl
@[simp] theorem State.setB_remoteAcqs : (s.setB r i j b v).remoteAcqs = s.remoteAcqs := rfl
@[simp] theorem State.setB_remoteHolds : (s.setB r i j b v).remoteHolds = s.remoteHolds := rfl
@[simp] theorem State.setB_fnRecs : (s.setB r i j b v).fnRecs = s.fnRecs := rfl
@[simp] theorem State.setB_ctxs : (s.setB r i j b v).ctxs = s.ctxs := rfl
@[simp] theorem State.setB_cyc : (s.setB r i j b v).cyc = s.cyc := rfl
@[simp] theorem State.setB_wd : (s.setB r i j b v).wd = s.wd := rfl
@[simp] theorem State.setB_td : (s.setB r i j b v).td = s.td := rfl
@[simp] theorem State.setB_preq : (s.setB r i j b v).preq = s.preq := rfl
@[simp] theorem State.setB_removals : (s.setB r i j b v).removals = s.removals := rfl
@[simp] theorem State.setB_dins : (s.setB r i j b v).dins = s.dins := rfl
@[simp] theorem State.setB_regrow : (s.setB r i j b v).regrow = s.regrow := rfl
@[simp] theorem State.setB_gov : (s.setB r i j b v).gov = s.gov := rfl
@[simp] theorem State.setB_sec : (s.setB r i j b v).sec = s.sec := rfl
@[simp] theorem State.setB_tml : (s.setB r i j b v).tml = s.tml := rfl
@[simp] theorem State.setB_obs : (s.setB r i j b v).obs = s.obs := rfl
@[simp] theorem State.setB_mcs : (s.setB r i j b v).mcs = s.mcs := rfl
@[simp] theorem State.setB_start : (s.setB r i j b v).start = s.start := rfl

end

section
variable (f : Nat) (g : Flight → Flight)

@[simp] theorem State.updFlight_pending : (s.updFlight f g).pending = s.pending := rfl
@[simp] theorem State.updFlight_now : (s.updFlight f g).now = s.now := rfl
@[simp] theorem State.updFlight_ref : (s.updFlight f g).ref = s.ref := rfl
@[simp] theorem State.updFlight_regs : (s.updFlight f g).regs = s.regs := rfl
@[simp] theorem State.updFlight_irq : (s.updFlight f g).irq = s.irq := rfl
@[simp] theorem State.updFlight_out : (s.updFlight f g).out = s.out := rfl
@[simp] theorem State.updFlight_reads : (s.updFlight f g).reads = s.reads := rfl
@[simp] theorem State.updFlight_faulting : (s.updFlight f g).faulting = s.faulting := rfl
@[simp] theorem State.updFlight_fresh : (s.updFlight f g).fresh = s.fresh := rfl
@[simp] theorem State.updFlight_sqs : (s.updFlight f g).sqs = s.sqs := rfl
@[simp] theorem State.updFlight_crs : (s.updFlight f g).crs = s.crs := rfl
@[simp] theorem State.updFlight_adm : (s.updFlight f g).adm = s.adm := rfl
@[simp] theorem State.updFlight_admHeld : (s.updFlight f g).admHeld = s.admHeld := rfl
@[simp] theorem State.updFlight_scan : (s.updFlight f g).scan = s.scan := rfl
@[simp] theorem State.updFlight_tasks : (s.updFlight f g).tasks = s.tasks := rfl
@[simp] theorem State.updFlight_nextTask : (s.updFlight f g).nextTask = s.nextTask := rfl
@[simp] theorem State.updFlight_hints : (s.updFlight f g).hints = s.hints := rfl
@[simp] theorem State.updFlight_mqSlots : (s.updFlight f g).mqSlots = s.mqSlots := rfl
@[simp] theorem State.updFlight_mqJobs : (s.updFlight f g).mqJobs = s.mqJobs := rfl
@[simp] theorem State.updFlight_due : (s.updFlight f g).due = s.due := rfl
@[simp] theorem State.updFlight_lanes : (s.updFlight f g).lanes = s.lanes := rfl
@[simp] theorem State.updFlight_launches : (s.updFlight f g).launches = s.launches := rfl
@[simp] theorem State.updFlight_cores : (s.updFlight f g).cores = s.cores := rfl
@[simp] theorem State.updFlight_engs : (s.updFlight f g).engs = s.engs := rfl
@[simp] theorem State.updFlight_trims : (s.updFlight f g).trims = s.trims := rfl
@[simp] theorem State.updFlight_events : (s.updFlight f g).events = s.events := rfl
@[simp] theorem State.updFlight_sems : (s.updFlight f g).sems = s.sems := rfl
@[simp] theorem State.updFlight_remoteWaits : (s.updFlight f g).remoteWaits = s.remoteWaits := rfl
@[simp] theorem State.updFlight_remoteOps : (s.updFlight f g).remoteOps = s.remoteOps := rfl
@[simp] theorem State.updFlight_remoteAcqs : (s.updFlight f g).remoteAcqs = s.remoteAcqs := rfl
@[simp] theorem State.updFlight_remoteHolds : (s.updFlight f g).remoteHolds = s.remoteHolds := rfl
@[simp] theorem State.updFlight_fnRecs : (s.updFlight f g).fnRecs = s.fnRecs := rfl
@[simp] theorem State.updFlight_ctxs : (s.updFlight f g).ctxs = s.ctxs := rfl
@[simp] theorem State.updFlight_cyc : (s.updFlight f g).cyc = s.cyc := rfl
@[simp] theorem State.updFlight_wd : (s.updFlight f g).wd = s.wd := rfl
@[simp] theorem State.updFlight_td : (s.updFlight f g).td = s.td := rfl
@[simp] theorem State.updFlight_preq : (s.updFlight f g).preq = s.preq := rfl
@[simp] theorem State.updFlight_removals : (s.updFlight f g).removals = s.removals := rfl
@[simp] theorem State.updFlight_dins : (s.updFlight f g).dins = s.dins := rfl
@[simp] theorem State.updFlight_regrow : (s.updFlight f g).regrow = s.regrow := rfl
@[simp] theorem State.updFlight_gov : (s.updFlight f g).gov = s.gov := rfl
@[simp] theorem State.updFlight_sec : (s.updFlight f g).sec = s.sec := rfl
@[simp] theorem State.updFlight_tml : (s.updFlight f g).tml = s.tml := rfl
@[simp] theorem State.updFlight_obs : (s.updFlight f g).obs = s.obs := rfl
@[simp] theorem State.updFlight_mcs : (s.updFlight f g).mcs = s.mcs := rfl
@[simp] theorem State.updFlight_start : (s.updFlight f g).start = s.start := rfl
@[simp] theorem State.updFlight_reg (r0 : Reg) (i0 j0 : Nat) : (s.updFlight f g).reg r0 i0 j0 = s.reg r0 i0 j0 := rfl
@[simp] theorem State.updFlight_rf (r0 : Reg) (i0 j0 l0 w0 : Nat) : (s.updFlight f g).rf r0 i0 j0 l0 w0 = s.rf r0 i0 j0 l0 w0 := rfl
@[simp] theorem State.updFlight_rb (r0 : Reg) (i0 j0 b0 : Nat) : (s.updFlight f g).rb r0 i0 j0 b0 = s.rb r0 i0 j0 b0 := rfl

end

section
variable (k : Nat) (g : Task → Task)

@[simp] theorem State.updTask_pending : (s.updTask k g).pending = s.pending := rfl
@[simp] theorem State.updTask_now : (s.updTask k g).now = s.now := rfl
@[simp] theorem State.updTask_ref : (s.updTask k g).ref = s.ref := rfl
@[simp] theorem State.updTask_regs : (s.updTask k g).regs = s.regs := rfl
@[simp] theorem State.updTask_irq : (s.updTask k g).irq = s.irq := rfl
@[simp] theorem State.updTask_out : (s.updTask k g).out = s.out := rfl
@[simp] theorem State.updTask_reads : (s.updTask k g).reads = s.reads := rfl
@[simp] theorem State.updTask_faulting : (s.updTask k g).faulting = s.faulting := rfl
@[simp] theorem State.updTask_fresh : (s.updTask k g).fresh = s.fresh := rfl
@[simp] theorem State.updTask_sqs : (s.updTask k g).sqs = s.sqs := rfl
@[simp] theorem State.updTask_crs : (s.updTask k g).crs = s.crs := rfl
@[simp] theorem State.updTask_adm : (s.updTask k g).adm = s.adm := rfl
@[simp] theorem State.updTask_admHeld : (s.updTask k g).admHeld = s.admHeld := rfl
@[simp] theorem State.updTask_scan : (s.updTask k g).scan = s.scan := rfl
@[simp] theorem State.updTask_flights : (s.updTask k g).flights = s.flights := rfl
@[simp] theorem State.updTask_nextTask : (s.updTask k g).nextTask = s.nextTask := rfl
@[simp] theorem State.updTask_hints : (s.updTask k g).hints = s.hints := rfl
@[simp] theorem State.updTask_mqSlots : (s.updTask k g).mqSlots = s.mqSlots := rfl
@[simp] theorem State.updTask_mqJobs : (s.updTask k g).mqJobs = s.mqJobs := rfl
@[simp] theorem State.updTask_due : (s.updTask k g).due = s.due := rfl
@[simp] theorem State.updTask_lanes : (s.updTask k g).lanes = s.lanes := rfl
@[simp] theorem State.updTask_launches : (s.updTask k g).launches = s.launches := rfl
@[simp] theorem State.updTask_cores : (s.updTask k g).cores = s.cores := rfl
@[simp] theorem State.updTask_engs : (s.updTask k g).engs = s.engs := rfl
@[simp] theorem State.updTask_trims : (s.updTask k g).trims = s.trims := rfl
@[simp] theorem State.updTask_events : (s.updTask k g).events = s.events := rfl
@[simp] theorem State.updTask_sems : (s.updTask k g).sems = s.sems := rfl
@[simp] theorem State.updTask_remoteWaits : (s.updTask k g).remoteWaits = s.remoteWaits := rfl
@[simp] theorem State.updTask_remoteOps : (s.updTask k g).remoteOps = s.remoteOps := rfl
@[simp] theorem State.updTask_remoteAcqs : (s.updTask k g).remoteAcqs = s.remoteAcqs := rfl
@[simp] theorem State.updTask_remoteHolds : (s.updTask k g).remoteHolds = s.remoteHolds := rfl
@[simp] theorem State.updTask_fnRecs : (s.updTask k g).fnRecs = s.fnRecs := rfl
@[simp] theorem State.updTask_ctxs : (s.updTask k g).ctxs = s.ctxs := rfl
@[simp] theorem State.updTask_cyc : (s.updTask k g).cyc = s.cyc := rfl
@[simp] theorem State.updTask_wd : (s.updTask k g).wd = s.wd := rfl
@[simp] theorem State.updTask_td : (s.updTask k g).td = s.td := rfl
@[simp] theorem State.updTask_preq : (s.updTask k g).preq = s.preq := rfl
@[simp] theorem State.updTask_removals : (s.updTask k g).removals = s.removals := rfl
@[simp] theorem State.updTask_dins : (s.updTask k g).dins = s.dins := rfl
@[simp] theorem State.updTask_regrow : (s.updTask k g).regrow = s.regrow := rfl
@[simp] theorem State.updTask_gov : (s.updTask k g).gov = s.gov := rfl
@[simp] theorem State.updTask_sec : (s.updTask k g).sec = s.sec := rfl
@[simp] theorem State.updTask_tml : (s.updTask k g).tml = s.tml := rfl
@[simp] theorem State.updTask_obs : (s.updTask k g).obs = s.obs := rfl
@[simp] theorem State.updTask_mcs : (s.updTask k g).mcs = s.mcs := rfl
@[simp] theorem State.updTask_start : (s.updTask k g).start = s.start := rfl
@[simp] theorem State.updTask_reg (r0 : Reg) (i0 j0 : Nat) : (s.updTask k g).reg r0 i0 j0 = s.reg r0 i0 j0 := rfl
@[simp] theorem State.updTask_rf (r0 : Reg) (i0 j0 l0 w0 : Nat) : (s.updTask k g).rf r0 i0 j0 l0 w0 = s.rf r0 i0 j0 l0 w0 := rfl
@[simp] theorem State.updTask_rb (r0 : Reg) (i0 j0 b0 : Nat) : (s.updTask k g).rb r0 i0 j0 b0 = s.rb r0 i0 j0 b0 := rfl

end

section
variable (q : Nat) (g : Sq → Sq)

@[simp] theorem State.updSq_pending : (s.updSq q g).pending = s.pending := rfl
@[simp] theorem State.updSq_now : (s.updSq q g).now = s.now := rfl
@[simp] theorem State.updSq_ref : (s.updSq q g).ref = s.ref := rfl
@[simp] theorem State.updSq_regs : (s.updSq q g).regs = s.regs := rfl
@[simp] theorem State.updSq_irq : (s.updSq q g).irq = s.irq := rfl
@[simp] theorem State.updSq_out : (s.updSq q g).out = s.out := rfl
@[simp] theorem State.updSq_reads : (s.updSq q g).reads = s.reads := rfl
@[simp] theorem State.updSq_faulting : (s.updSq q g).faulting = s.faulting := rfl
@[simp] theorem State.updSq_fresh : (s.updSq q g).fresh = s.fresh := rfl
@[simp] theorem State.updSq_crs : (s.updSq q g).crs = s.crs := rfl
@[simp] theorem State.updSq_adm : (s.updSq q g).adm = s.adm := rfl
@[simp] theorem State.updSq_admHeld : (s.updSq q g).admHeld = s.admHeld := rfl
@[simp] theorem State.updSq_scan : (s.updSq q g).scan = s.scan := rfl
@[simp] theorem State.updSq_flights : (s.updSq q g).flights = s.flights := rfl
@[simp] theorem State.updSq_tasks : (s.updSq q g).tasks = s.tasks := rfl
@[simp] theorem State.updSq_nextTask : (s.updSq q g).nextTask = s.nextTask := rfl
@[simp] theorem State.updSq_hints : (s.updSq q g).hints = s.hints := rfl
@[simp] theorem State.updSq_mqSlots : (s.updSq q g).mqSlots = s.mqSlots := rfl
@[simp] theorem State.updSq_mqJobs : (s.updSq q g).mqJobs = s.mqJobs := rfl
@[simp] theorem State.updSq_due : (s.updSq q g).due = s.due := rfl
@[simp] theorem State.updSq_lanes : (s.updSq q g).lanes = s.lanes := rfl
@[simp] theorem State.updSq_launches : (s.updSq q g).launches = s.launches := rfl
@[simp] theorem State.updSq_cores : (s.updSq q g).cores = s.cores := rfl
@[simp] theorem State.updSq_engs : (s.updSq q g).engs = s.engs := rfl
@[simp] theorem State.updSq_trims : (s.updSq q g).trims = s.trims := rfl
@[simp] theorem State.updSq_events : (s.updSq q g).events = s.events := rfl
@[simp] theorem State.updSq_sems : (s.updSq q g).sems = s.sems := rfl
@[simp] theorem State.updSq_remoteWaits : (s.updSq q g).remoteWaits = s.remoteWaits := rfl
@[simp] theorem State.updSq_remoteOps : (s.updSq q g).remoteOps = s.remoteOps := rfl
@[simp] theorem State.updSq_remoteAcqs : (s.updSq q g).remoteAcqs = s.remoteAcqs := rfl
@[simp] theorem State.updSq_remoteHolds : (s.updSq q g).remoteHolds = s.remoteHolds := rfl
@[simp] theorem State.updSq_fnRecs : (s.updSq q g).fnRecs = s.fnRecs := rfl
@[simp] theorem State.updSq_ctxs : (s.updSq q g).ctxs = s.ctxs := rfl
@[simp] theorem State.updSq_cyc : (s.updSq q g).cyc = s.cyc := rfl
@[simp] theorem State.updSq_wd : (s.updSq q g).wd = s.wd := rfl
@[simp] theorem State.updSq_td : (s.updSq q g).td = s.td := rfl
@[simp] theorem State.updSq_preq : (s.updSq q g).preq = s.preq := rfl
@[simp] theorem State.updSq_removals : (s.updSq q g).removals = s.removals := rfl
@[simp] theorem State.updSq_dins : (s.updSq q g).dins = s.dins := rfl
@[simp] theorem State.updSq_regrow : (s.updSq q g).regrow = s.regrow := rfl
@[simp] theorem State.updSq_gov : (s.updSq q g).gov = s.gov := rfl
@[simp] theorem State.updSq_sec : (s.updSq q g).sec = s.sec := rfl
@[simp] theorem State.updSq_tml : (s.updSq q g).tml = s.tml := rfl
@[simp] theorem State.updSq_obs : (s.updSq q g).obs = s.obs := rfl
@[simp] theorem State.updSq_mcs : (s.updSq q g).mcs = s.mcs := rfl
@[simp] theorem State.updSq_start : (s.updSq q g).start = s.start := rfl
@[simp] theorem State.updSq_reg (r0 : Reg) (i0 j0 : Nat) : (s.updSq q g).reg r0 i0 j0 = s.reg r0 i0 j0 := rfl
@[simp] theorem State.updSq_rf (r0 : Reg) (i0 j0 l0 w0 : Nat) : (s.updSq q g).rf r0 i0 j0 l0 w0 = s.rf r0 i0 j0 l0 w0 := rfl
@[simp] theorem State.updSq_rb (r0 : Reg) (i0 j0 b0 : Nat) : (s.updSq q g).rb r0 i0 j0 b0 = s.rb r0 i0 j0 b0 := rfl

end

section
variable (c : Nat) (g : Cr → Cr)

@[simp] theorem State.updCr_pending : (s.updCr c g).pending = s.pending := rfl
@[simp] theorem State.updCr_now : (s.updCr c g).now = s.now := rfl
@[simp] theorem State.updCr_ref : (s.updCr c g).ref = s.ref := rfl
@[simp] theorem State.updCr_regs : (s.updCr c g).regs = s.regs := rfl
@[simp] theorem State.updCr_irq : (s.updCr c g).irq = s.irq := rfl
@[simp] theorem State.updCr_out : (s.updCr c g).out = s.out := rfl
@[simp] theorem State.updCr_reads : (s.updCr c g).reads = s.reads := rfl
@[simp] theorem State.updCr_faulting : (s.updCr c g).faulting = s.faulting := rfl
@[simp] theorem State.updCr_fresh : (s.updCr c g).fresh = s.fresh := rfl
@[simp] theorem State.updCr_sqs : (s.updCr c g).sqs = s.sqs := rfl
@[simp] theorem State.updCr_adm : (s.updCr c g).adm = s.adm := rfl
@[simp] theorem State.updCr_admHeld : (s.updCr c g).admHeld = s.admHeld := rfl
@[simp] theorem State.updCr_scan : (s.updCr c g).scan = s.scan := rfl
@[simp] theorem State.updCr_flights : (s.updCr c g).flights = s.flights := rfl
@[simp] theorem State.updCr_tasks : (s.updCr c g).tasks = s.tasks := rfl
@[simp] theorem State.updCr_nextTask : (s.updCr c g).nextTask = s.nextTask := rfl
@[simp] theorem State.updCr_hints : (s.updCr c g).hints = s.hints := rfl
@[simp] theorem State.updCr_mqSlots : (s.updCr c g).mqSlots = s.mqSlots := rfl
@[simp] theorem State.updCr_mqJobs : (s.updCr c g).mqJobs = s.mqJobs := rfl
@[simp] theorem State.updCr_due : (s.updCr c g).due = s.due := rfl
@[simp] theorem State.updCr_lanes : (s.updCr c g).lanes = s.lanes := rfl
@[simp] theorem State.updCr_launches : (s.updCr c g).launches = s.launches := rfl
@[simp] theorem State.updCr_cores : (s.updCr c g).cores = s.cores := rfl
@[simp] theorem State.updCr_engs : (s.updCr c g).engs = s.engs := rfl
@[simp] theorem State.updCr_trims : (s.updCr c g).trims = s.trims := rfl
@[simp] theorem State.updCr_events : (s.updCr c g).events = s.events := rfl
@[simp] theorem State.updCr_sems : (s.updCr c g).sems = s.sems := rfl
@[simp] theorem State.updCr_remoteWaits : (s.updCr c g).remoteWaits = s.remoteWaits := rfl
@[simp] theorem State.updCr_remoteOps : (s.updCr c g).remoteOps = s.remoteOps := rfl
@[simp] theorem State.updCr_remoteAcqs : (s.updCr c g).remoteAcqs = s.remoteAcqs := rfl
@[simp] theorem State.updCr_remoteHolds : (s.updCr c g).remoteHolds = s.remoteHolds := rfl
@[simp] theorem State.updCr_fnRecs : (s.updCr c g).fnRecs = s.fnRecs := rfl
@[simp] theorem State.updCr_ctxs : (s.updCr c g).ctxs = s.ctxs := rfl
@[simp] theorem State.updCr_cyc : (s.updCr c g).cyc = s.cyc := rfl
@[simp] theorem State.updCr_wd : (s.updCr c g).wd = s.wd := rfl
@[simp] theorem State.updCr_td : (s.updCr c g).td = s.td := rfl
@[simp] theorem State.updCr_preq : (s.updCr c g).preq = s.preq := rfl
@[simp] theorem State.updCr_removals : (s.updCr c g).removals = s.removals := rfl
@[simp] theorem State.updCr_dins : (s.updCr c g).dins = s.dins := rfl
@[simp] theorem State.updCr_regrow : (s.updCr c g).regrow = s.regrow := rfl
@[simp] theorem State.updCr_gov : (s.updCr c g).gov = s.gov := rfl
@[simp] theorem State.updCr_sec : (s.updCr c g).sec = s.sec := rfl
@[simp] theorem State.updCr_tml : (s.updCr c g).tml = s.tml := rfl
@[simp] theorem State.updCr_obs : (s.updCr c g).obs = s.obs := rfl
@[simp] theorem State.updCr_mcs : (s.updCr c g).mcs = s.mcs := rfl
@[simp] theorem State.updCr_start : (s.updCr c g).start = s.start := rfl
@[simp] theorem State.updCr_reg (r0 : Reg) (i0 j0 : Nat) : (s.updCr c g).reg r0 i0 j0 = s.reg r0 i0 j0 := rfl
@[simp] theorem State.updCr_rf (r0 : Reg) (i0 j0 l0 w0 : Nat) : (s.updCr c g).rf r0 i0 j0 l0 w0 = s.rf r0 i0 j0 l0 w0 := rfl
@[simp] theorem State.updCr_rb (r0 : Reg) (i0 j0 b0 : Nat) : (s.updCr c g).rb r0 i0 j0 b0 = s.rb r0 i0 j0 b0 := rfl

end

section
variable (i : Nat) (g : Event → Event)

@[simp] theorem State.updEvent_pending : (s.updEvent i g).pending = s.pending := rfl
@[simp] theorem State.updEvent_now : (s.updEvent i g).now = s.now := rfl
@[simp] theorem State.updEvent_ref : (s.updEvent i g).ref = s.ref := rfl
@[simp] theorem State.updEvent_regs : (s.updEvent i g).regs = s.regs := rfl
@[simp] theorem State.updEvent_irq : (s.updEvent i g).irq = s.irq := rfl
@[simp] theorem State.updEvent_out : (s.updEvent i g).out = s.out := rfl
@[simp] theorem State.updEvent_reads : (s.updEvent i g).reads = s.reads := rfl
@[simp] theorem State.updEvent_faulting : (s.updEvent i g).faulting = s.faulting := rfl
@[simp] theorem State.updEvent_fresh : (s.updEvent i g).fresh = s.fresh := rfl
@[simp] theorem State.updEvent_sqs : (s.updEvent i g).sqs = s.sqs := rfl
@[simp] theorem State.updEvent_crs : (s.updEvent i g).crs = s.crs := rfl
@[simp] theorem State.updEvent_adm : (s.updEvent i g).adm = s.adm := rfl
@[simp] theorem State.updEvent_admHeld : (s.updEvent i g).admHeld = s.admHeld := rfl
@[simp] theorem State.updEvent_scan : (s.updEvent i g).scan = s.scan := rfl
@[simp] theorem State.updEvent_flights : (s.updEvent i g).flights = s.flights := rfl
@[simp] theorem State.updEvent_tasks : (s.updEvent i g).tasks = s.tasks := rfl
@[simp] theorem State.updEvent_nextTask : (s.updEvent i g).nextTask = s.nextTask := rfl
@[simp] theorem State.updEvent_hints : (s.updEvent i g).hints = s.hints := rfl
@[simp] theorem State.updEvent_mqSlots : (s.updEvent i g).mqSlots = s.mqSlots := rfl
@[simp] theorem State.updEvent_mqJobs : (s.updEvent i g).mqJobs = s.mqJobs := rfl
@[simp] theorem State.updEvent_due : (s.updEvent i g).due = s.due := rfl
@[simp] theorem State.updEvent_lanes : (s.updEvent i g).lanes = s.lanes := rfl
@[simp] theorem State.updEvent_launches : (s.updEvent i g).launches = s.launches := rfl
@[simp] theorem State.updEvent_cores : (s.updEvent i g).cores = s.cores := rfl
@[simp] theorem State.updEvent_engs : (s.updEvent i g).engs = s.engs := rfl
@[simp] theorem State.updEvent_trims : (s.updEvent i g).trims = s.trims := rfl
@[simp] theorem State.updEvent_sems : (s.updEvent i g).sems = s.sems := rfl
@[simp] theorem State.updEvent_remoteWaits : (s.updEvent i g).remoteWaits = s.remoteWaits := rfl
@[simp] theorem State.updEvent_remoteOps : (s.updEvent i g).remoteOps = s.remoteOps := rfl
@[simp] theorem State.updEvent_remoteAcqs : (s.updEvent i g).remoteAcqs = s.remoteAcqs := rfl
@[simp] theorem State.updEvent_remoteHolds : (s.updEvent i g).remoteHolds = s.remoteHolds := rfl
@[simp] theorem State.updEvent_fnRecs : (s.updEvent i g).fnRecs = s.fnRecs := rfl
@[simp] theorem State.updEvent_ctxs : (s.updEvent i g).ctxs = s.ctxs := rfl
@[simp] theorem State.updEvent_cyc : (s.updEvent i g).cyc = s.cyc := rfl
@[simp] theorem State.updEvent_wd : (s.updEvent i g).wd = s.wd := rfl
@[simp] theorem State.updEvent_td : (s.updEvent i g).td = s.td := rfl
@[simp] theorem State.updEvent_preq : (s.updEvent i g).preq = s.preq := rfl
@[simp] theorem State.updEvent_removals : (s.updEvent i g).removals = s.removals := rfl
@[simp] theorem State.updEvent_dins : (s.updEvent i g).dins = s.dins := rfl
@[simp] theorem State.updEvent_regrow : (s.updEvent i g).regrow = s.regrow := rfl
@[simp] theorem State.updEvent_gov : (s.updEvent i g).gov = s.gov := rfl
@[simp] theorem State.updEvent_sec : (s.updEvent i g).sec = s.sec := rfl
@[simp] theorem State.updEvent_tml : (s.updEvent i g).tml = s.tml := rfl
@[simp] theorem State.updEvent_obs : (s.updEvent i g).obs = s.obs := rfl
@[simp] theorem State.updEvent_mcs : (s.updEvent i g).mcs = s.mcs := rfl
@[simp] theorem State.updEvent_start : (s.updEvent i g).start = s.start := rfl
@[simp] theorem State.updEvent_reg (r0 : Reg) (i0 j0 : Nat) : (s.updEvent i g).reg r0 i0 j0 = s.reg r0 i0 j0 := rfl
@[simp] theorem State.updEvent_rf (r0 : Reg) (i0 j0 l0 w0 : Nat) : (s.updEvent i g).rf r0 i0 j0 l0 w0 = s.rf r0 i0 j0 l0 w0 := rfl
@[simp] theorem State.updEvent_rb (r0 : Reg) (i0 j0 b0 : Nat) : (s.updEvent i g).rb r0 i0 j0 b0 = s.rb r0 i0 j0 b0 := rfl

end

section
variable (i : Nat) (m : Sem)

@[simp] theorem State.setSem_pending : (s.setSem i m).pending = s.pending := rfl
@[simp] theorem State.setSem_now : (s.setSem i m).now = s.now := rfl
@[simp] theorem State.setSem_ref : (s.setSem i m).ref = s.ref := rfl
@[simp] theorem State.setSem_regs : (s.setSem i m).regs = s.regs := rfl
@[simp] theorem State.setSem_irq : (s.setSem i m).irq = s.irq := rfl
@[simp] theorem State.setSem_out : (s.setSem i m).out = s.out := rfl
@[simp] theorem State.setSem_reads : (s.setSem i m).reads = s.reads := rfl
@[simp] theorem State.setSem_faulting : (s.setSem i m).faulting = s.faulting := rfl
@[simp] theorem State.setSem_fresh : (s.setSem i m).fresh = s.fresh := rfl
@[simp] theorem State.setSem_sqs : (s.setSem i m).sqs = s.sqs := rfl
@[simp] theorem State.setSem_crs : (s.setSem i m).crs = s.crs := rfl
@[simp] theorem State.setSem_adm : (s.setSem i m).adm = s.adm := rfl
@[simp] theorem State.setSem_admHeld : (s.setSem i m).admHeld = s.admHeld := rfl
@[simp] theorem State.setSem_scan : (s.setSem i m).scan = s.scan := rfl
@[simp] theorem State.setSem_flights : (s.setSem i m).flights = s.flights := rfl
@[simp] theorem State.setSem_tasks : (s.setSem i m).tasks = s.tasks := rfl
@[simp] theorem State.setSem_nextTask : (s.setSem i m).nextTask = s.nextTask := rfl
@[simp] theorem State.setSem_hints : (s.setSem i m).hints = s.hints := rfl
@[simp] theorem State.setSem_mqSlots : (s.setSem i m).mqSlots = s.mqSlots := rfl
@[simp] theorem State.setSem_mqJobs : (s.setSem i m).mqJobs = s.mqJobs := rfl
@[simp] theorem State.setSem_due : (s.setSem i m).due = s.due := rfl
@[simp] theorem State.setSem_lanes : (s.setSem i m).lanes = s.lanes := rfl
@[simp] theorem State.setSem_launches : (s.setSem i m).launches = s.launches := rfl
@[simp] theorem State.setSem_cores : (s.setSem i m).cores = s.cores := rfl
@[simp] theorem State.setSem_engs : (s.setSem i m).engs = s.engs := rfl
@[simp] theorem State.setSem_trims : (s.setSem i m).trims = s.trims := rfl
@[simp] theorem State.setSem_events : (s.setSem i m).events = s.events := rfl
@[simp] theorem State.setSem_remoteWaits : (s.setSem i m).remoteWaits = s.remoteWaits := rfl
@[simp] theorem State.setSem_remoteOps : (s.setSem i m).remoteOps = s.remoteOps := rfl
@[simp] theorem State.setSem_remoteAcqs : (s.setSem i m).remoteAcqs = s.remoteAcqs := rfl
@[simp] theorem State.setSem_remoteHolds : (s.setSem i m).remoteHolds = s.remoteHolds := rfl
@[simp] theorem State.setSem_fnRecs : (s.setSem i m).fnRecs = s.fnRecs := rfl
@[simp] theorem State.setSem_ctxs : (s.setSem i m).ctxs = s.ctxs := rfl
@[simp] theorem State.setSem_cyc : (s.setSem i m).cyc = s.cyc := rfl
@[simp] theorem State.setSem_wd : (s.setSem i m).wd = s.wd := rfl
@[simp] theorem State.setSem_td : (s.setSem i m).td = s.td := rfl
@[simp] theorem State.setSem_preq : (s.setSem i m).preq = s.preq := rfl
@[simp] theorem State.setSem_removals : (s.setSem i m).removals = s.removals := rfl
@[simp] theorem State.setSem_dins : (s.setSem i m).dins = s.dins := rfl
@[simp] theorem State.setSem_regrow : (s.setSem i m).regrow = s.regrow := rfl
@[simp] theorem State.setSem_gov : (s.setSem i m).gov = s.gov := rfl
@[simp] theorem State.setSem_sec : (s.setSem i m).sec = s.sec := rfl
@[simp] theorem State.setSem_tml : (s.setSem i m).tml = s.tml := rfl
@[simp] theorem State.setSem_obs : (s.setSem i m).obs = s.obs := rfl
@[simp] theorem State.setSem_mcs : (s.setSem i m).mcs = s.mcs := rfl
@[simp] theorem State.setSem_start : (s.setSem i m).start = s.start := rfl
@[simp] theorem State.setSem_reg (r0 : Reg) (i0 j0 : Nat) : (s.setSem i m).reg r0 i0 j0 = s.reg r0 i0 j0 := rfl
@[simp] theorem State.setSem_rf (r0 : Reg) (i0 j0 l0 w0 : Nat) : (s.setSem i m).rf r0 i0 j0 l0 w0 = s.rf r0 i0 j0 l0 w0 := rfl
@[simp] theorem State.setSem_rb (r0 : Reg) (i0 j0 b0 : Nat) : (s.setSem i m).rb r0 i0 j0 b0 = s.rb r0 i0 j0 b0 := rfl

end

section
variable (c : Nat) (g : Ctx → Ctx)

@[simp] theorem State.updCtx_pending : (s.updCtx c g).pending = s.pending := rfl
@[simp] theorem State.updCtx_now : (s.updCtx c g).now = s.now := rfl
@[simp] theorem State.updCtx_ref : (s.updCtx c g).ref = s.ref := rfl
@[simp] theorem State.updCtx_regs : (s.updCtx c g).regs = s.regs := rfl
@[simp] theorem State.updCtx_irq : (s.updCtx c g).irq = s.irq := rfl
@[simp] theorem State.updCtx_out : (s.updCtx c g).out = s.out := rfl
@[simp] theorem State.updCtx_reads : (s.updCtx c g).reads = s.reads := rfl
@[simp] theorem State.updCtx_faulting : (s.updCtx c g).faulting = s.faulting := rfl
@[simp] theorem State.updCtx_fresh : (s.updCtx c g).fresh = s.fresh := rfl
@[simp] theorem State.updCtx_sqs : (s.updCtx c g).sqs = s.sqs := rfl
@[simp] theorem State.updCtx_crs : (s.updCtx c g).crs = s.crs := rfl
@[simp] theorem State.updCtx_adm : (s.updCtx c g).adm = s.adm := rfl
@[simp] theorem State.updCtx_admHeld : (s.updCtx c g).admHeld = s.admHeld := rfl
@[simp] theorem State.updCtx_scan : (s.updCtx c g).scan = s.scan := rfl
@[simp] theorem State.updCtx_flights : (s.updCtx c g).flights = s.flights := rfl
@[simp] theorem State.updCtx_tasks : (s.updCtx c g).tasks = s.tasks := rfl
@[simp] theorem State.updCtx_nextTask : (s.updCtx c g).nextTask = s.nextTask := rfl
@[simp] theorem State.updCtx_hints : (s.updCtx c g).hints = s.hints := rfl
@[simp] theorem State.updCtx_mqSlots : (s.updCtx c g).mqSlots = s.mqSlots := rfl
@[simp] theorem State.updCtx_mqJobs : (s.updCtx c g).mqJobs = s.mqJobs := rfl
@[simp] theorem State.updCtx_due : (s.updCtx c g).due = s.due := rfl
@[simp] theorem State.updCtx_lanes : (s.updCtx c g).lanes = s.lanes := rfl
@[simp] theorem State.updCtx_launches : (s.updCtx c g).launches = s.launches := rfl
@[simp] theorem State.updCtx_cores : (s.updCtx c g).cores = s.cores := rfl
@[simp] theorem State.updCtx_engs : (s.updCtx c g).engs = s.engs := rfl
@[simp] theorem State.updCtx_trims : (s.updCtx c g).trims = s.trims := rfl
@[simp] theorem State.updCtx_events : (s.updCtx c g).events = s.events := rfl
@[simp] theorem State.updCtx_sems : (s.updCtx c g).sems = s.sems := rfl
@[simp] theorem State.updCtx_remoteWaits : (s.updCtx c g).remoteWaits = s.remoteWaits := rfl
@[simp] theorem State.updCtx_remoteOps : (s.updCtx c g).remoteOps = s.remoteOps := rfl
@[simp] theorem State.updCtx_remoteAcqs : (s.updCtx c g).remoteAcqs = s.remoteAcqs := rfl
@[simp] theorem State.updCtx_remoteHolds : (s.updCtx c g).remoteHolds = s.remoteHolds := rfl
@[simp] theorem State.updCtx_fnRecs : (s.updCtx c g).fnRecs = s.fnRecs := rfl
@[simp] theorem State.updCtx_cyc : (s.updCtx c g).cyc = s.cyc := rfl
@[simp] theorem State.updCtx_wd : (s.updCtx c g).wd = s.wd := rfl
@[simp] theorem State.updCtx_td : (s.updCtx c g).td = s.td := rfl
@[simp] theorem State.updCtx_preq : (s.updCtx c g).preq = s.preq := rfl
@[simp] theorem State.updCtx_removals : (s.updCtx c g).removals = s.removals := rfl
@[simp] theorem State.updCtx_dins : (s.updCtx c g).dins = s.dins := rfl
@[simp] theorem State.updCtx_regrow : (s.updCtx c g).regrow = s.regrow := rfl
@[simp] theorem State.updCtx_gov : (s.updCtx c g).gov = s.gov := rfl
@[simp] theorem State.updCtx_sec : (s.updCtx c g).sec = s.sec := rfl
@[simp] theorem State.updCtx_tml : (s.updCtx c g).tml = s.tml := rfl
@[simp] theorem State.updCtx_obs : (s.updCtx c g).obs = s.obs := rfl
@[simp] theorem State.updCtx_mcs : (s.updCtx c g).mcs = s.mcs := rfl
@[simp] theorem State.updCtx_start : (s.updCtx c g).start = s.start := rfl
@[simp] theorem State.updCtx_reg (r0 : Reg) (i0 j0 : Nat) : (s.updCtx c g).reg r0 i0 j0 = s.reg r0 i0 j0 := rfl
@[simp] theorem State.updCtx_rf (r0 : Reg) (i0 j0 l0 w0 : Nat) : (s.updCtx c g).rf r0 i0 j0 l0 w0 = s.rf r0 i0 j0 l0 w0 := rfl
@[simp] theorem State.updCtx_rb (r0 : Reg) (i0 j0 b0 : Nat) : (s.updCtx c g).rb r0 i0 j0 b0 = s.rb r0 i0 j0 b0 := rfl

end

section
variable (p : Nat) (g : Core → Core)

@[simp] theorem State.updCore_pending : (s.updCore p g).pending = s.pending := rfl
@[simp] theorem State.updCore_now : (s.updCore p g).now = s.now := rfl
@[simp] theorem State.updCore_ref : (s.updCore p g).ref = s.ref := rfl
@[simp] theorem State.updCore_regs : (s.updCore p g).regs = s.regs := rfl
@[simp] theorem State.updCore_irq : (s.updCore p g).irq = s.irq := rfl
@[simp] theorem State.updCore_out : (s.updCore p g).out = s.out := rfl
@[simp] theorem State.updCore_reads : (s.updCore p g).reads = s.reads := rfl
@[simp] theorem State.updCore_faulting : (s.updCore p g).faulting = s.faulting := rfl
@[simp] theorem State.updCore_fresh : (s.updCore p g).fresh = s.fresh := rfl
@[simp] theorem State.updCore_sqs : (s.updCore p g).sqs = s.sqs := rfl
@[simp] theorem State.updCore_crs : (s.updCore p g).crs = s.crs := rfl
@[simp] theorem State.updCore_adm : (s.updCore p g).adm = s.adm := rfl
@[simp] theorem State.updCore_admHeld : (s.updCore p g).admHeld = s.admHeld := rfl
@[simp] theorem State.updCore_scan : (s.updCore p g).scan = s.scan := rfl
@[simp] theorem State.updCore_flights : (s.updCore p g).flights = s.flights := rfl
@[simp] theorem State.updCore_tasks : (s.updCore p g).tasks = s.tasks := rfl
@[simp] theorem State.updCore_nextTask : (s.updCore p g).nextTask = s.nextTask := rfl
@[simp] theorem State.updCore_hints : (s.updCore p g).hints = s.hints := rfl
@[simp] theorem State.updCore_mqSlots : (s.updCore p g).mqSlots = s.mqSlots := rfl
@[simp] theorem State.updCore_mqJobs : (s.updCore p g).mqJobs = s.mqJobs := rfl
@[simp] theorem State.updCore_due : (s.updCore p g).due = s.due := rfl
@[simp] theorem State.updCore_lanes : (s.updCore p g).lanes = s.lanes := rfl
@[simp] theorem State.updCore_launches : (s.updCore p g).launches = s.launches := rfl
@[simp] theorem State.updCore_engs : (s.updCore p g).engs = s.engs := rfl
@[simp] theorem State.updCore_trims : (s.updCore p g).trims = s.trims := rfl
@[simp] theorem State.updCore_events : (s.updCore p g).events = s.events := rfl
@[simp] theorem State.updCore_sems : (s.updCore p g).sems = s.sems := rfl
@[simp] theorem State.updCore_remoteWaits : (s.updCore p g).remoteWaits = s.remoteWaits := rfl
@[simp] theorem State.updCore_remoteOps : (s.updCore p g).remoteOps = s.remoteOps := rfl
@[simp] theorem State.updCore_remoteAcqs : (s.updCore p g).remoteAcqs = s.remoteAcqs := rfl
@[simp] theorem State.updCore_remoteHolds : (s.updCore p g).remoteHolds = s.remoteHolds := rfl
@[simp] theorem State.updCore_fnRecs : (s.updCore p g).fnRecs = s.fnRecs := rfl
@[simp] theorem State.updCore_ctxs : (s.updCore p g).ctxs = s.ctxs := rfl
@[simp] theorem State.updCore_cyc : (s.updCore p g).cyc = s.cyc := rfl
@[simp] theorem State.updCore_wd : (s.updCore p g).wd = s.wd := rfl
@[simp] theorem State.updCore_td : (s.updCore p g).td = s.td := rfl
@[simp] theorem State.updCore_preq : (s.updCore p g).preq = s.preq := rfl
@[simp] theorem State.updCore_removals : (s.updCore p g).removals = s.removals := rfl
@[simp] theorem State.updCore_dins : (s.updCore p g).dins = s.dins := rfl
@[simp] theorem State.updCore_regrow : (s.updCore p g).regrow = s.regrow := rfl
@[simp] theorem State.updCore_gov : (s.updCore p g).gov = s.gov := rfl
@[simp] theorem State.updCore_sec : (s.updCore p g).sec = s.sec := rfl
@[simp] theorem State.updCore_tml : (s.updCore p g).tml = s.tml := rfl
@[simp] theorem State.updCore_obs : (s.updCore p g).obs = s.obs := rfl
@[simp] theorem State.updCore_mcs : (s.updCore p g).mcs = s.mcs := rfl
@[simp] theorem State.updCore_start : (s.updCore p g).start = s.start := rfl
@[simp] theorem State.updCore_reg (r0 : Reg) (i0 j0 : Nat) : (s.updCore p g).reg r0 i0 j0 = s.reg r0 i0 j0 := rfl
@[simp] theorem State.updCore_rf (r0 : Reg) (i0 j0 l0 w0 : Nat) : (s.updCore p g).rf r0 i0 j0 l0 w0 = s.rf r0 i0 j0 l0 w0 := rfl
@[simp] theorem State.updCore_rb (r0 : Reg) (i0 j0 b0 : Nat) : (s.updCore p g).rb r0 i0 j0 b0 = s.rb r0 i0 j0 b0 := rfl

end

section
variable (e : Nat) (g : Eng → Eng)

@[simp] theorem State.updEng_pending : (s.updEng e g).pending = s.pending := rfl
@[simp] theorem State.updEng_now : (s.updEng e g).now = s.now := rfl
@[simp] theorem State.updEng_ref : (s.updEng e g).ref = s.ref := rfl
@[simp] theorem State.updEng_regs : (s.updEng e g).regs = s.regs := rfl
@[simp] theorem State.updEng_irq : (s.updEng e g).irq = s.irq := rfl
@[simp] theorem State.updEng_out : (s.updEng e g).out = s.out := rfl
@[simp] theorem State.updEng_reads : (s.updEng e g).reads = s.reads := rfl
@[simp] theorem State.updEng_faulting : (s.updEng e g).faulting = s.faulting := rfl
@[simp] theorem State.updEng_fresh : (s.updEng e g).fresh = s.fresh := rfl
@[simp] theorem State.updEng_sqs : (s.updEng e g).sqs = s.sqs := rfl
@[simp] theorem State.updEng_crs : (s.updEng e g).crs = s.crs := rfl
@[simp] theorem State.updEng_adm : (s.updEng e g).adm = s.adm := rfl
@[simp] theorem State.updEng_admHeld : (s.updEng e g).admHeld = s.admHeld := rfl
@[simp] theorem State.updEng_scan : (s.updEng e g).scan = s.scan := rfl
@[simp] theorem State.updEng_flights : (s.updEng e g).flights = s.flights := rfl
@[simp] theorem State.updEng_tasks : (s.updEng e g).tasks = s.tasks := rfl
@[simp] theorem State.updEng_nextTask : (s.updEng e g).nextTask = s.nextTask := rfl
@[simp] theorem State.updEng_hints : (s.updEng e g).hints = s.hints := rfl
@[simp] theorem State.updEng_mqSlots : (s.updEng e g).mqSlots = s.mqSlots := rfl
@[simp] theorem State.updEng_mqJobs : (s.updEng e g).mqJobs = s.mqJobs := rfl
@[simp] theorem State.updEng_due : (s.updEng e g).due = s.due := rfl
@[simp] theorem State.updEng_lanes : (s.updEng e g).lanes = s.lanes := rfl
@[simp] theorem State.updEng_launches : (s.updEng e g).launches = s.launches := rfl
@[simp] theorem State.updEng_cores : (s.updEng e g).cores = s.cores := rfl
@[simp] theorem State.updEng_trims : (s.updEng e g).trims = s.trims := rfl
@[simp] theorem State.updEng_events : (s.updEng e g).events = s.events := rfl
@[simp] theorem State.updEng_sems : (s.updEng e g).sems = s.sems := rfl
@[simp] theorem State.updEng_remoteWaits : (s.updEng e g).remoteWaits = s.remoteWaits := rfl
@[simp] theorem State.updEng_remoteOps : (s.updEng e g).remoteOps = s.remoteOps := rfl
@[simp] theorem State.updEng_remoteAcqs : (s.updEng e g).remoteAcqs = s.remoteAcqs := rfl
@[simp] theorem State.updEng_remoteHolds : (s.updEng e g).remoteHolds = s.remoteHolds := rfl
@[simp] theorem State.updEng_fnRecs : (s.updEng e g).fnRecs = s.fnRecs := rfl
@[simp] theorem State.updEng_ctxs : (s.updEng e g).ctxs = s.ctxs := rfl
@[simp] theorem State.updEng_cyc : (s.updEng e g).cyc = s.cyc := rfl
@[simp] theorem State.updEng_wd : (s.updEng e g).wd = s.wd := rfl
@[simp] theorem State.updEng_td : (s.updEng e g).td = s.td := rfl
@[simp] theorem State.updEng_preq : (s.updEng e g).preq = s.preq := rfl
@[simp] theorem State.updEng_removals : (s.updEng e g).removals = s.removals := rfl
@[simp] theorem State.updEng_dins : (s.updEng e g).dins = s.dins := rfl
@[simp] theorem State.updEng_regrow : (s.updEng e g).regrow = s.regrow := rfl
@[simp] theorem State.updEng_gov : (s.updEng e g).gov = s.gov := rfl
@[simp] theorem State.updEng_sec : (s.updEng e g).sec = s.sec := rfl
@[simp] theorem State.updEng_tml : (s.updEng e g).tml = s.tml := rfl
@[simp] theorem State.updEng_obs : (s.updEng e g).obs = s.obs := rfl
@[simp] theorem State.updEng_mcs : (s.updEng e g).mcs = s.mcs := rfl
@[simp] theorem State.updEng_start : (s.updEng e g).start = s.start := rfl
@[simp] theorem State.updEng_reg (r0 : Reg) (i0 j0 : Nat) : (s.updEng e g).reg r0 i0 j0 = s.reg r0 i0 j0 := rfl
@[simp] theorem State.updEng_rf (r0 : Reg) (i0 j0 l0 w0 : Nat) : (s.updEng e g).rf r0 i0 j0 l0 w0 = s.rf r0 i0 j0 l0 w0 := rfl
@[simp] theorem State.updEng_rb (r0 : Reg) (i0 j0 b0 : Nat) : (s.updEng e g).rb r0 i0 j0 b0 = s.rb r0 i0 j0 b0 := rfl

end

section
variable (n : Nat) (g : Din → Din)

@[simp] theorem State.updDin_pending : (s.updDin n g).pending = s.pending := rfl
@[simp] theorem State.updDin_now : (s.updDin n g).now = s.now := rfl
@[simp] theorem State.updDin_ref : (s.updDin n g).ref = s.ref := rfl
@[simp] theorem State.updDin_regs : (s.updDin n g).regs = s.regs := rfl
@[simp] theorem State.updDin_irq : (s.updDin n g).irq = s.irq := rfl
@[simp] theorem State.updDin_out : (s.updDin n g).out = s.out := rfl
@[simp] theorem State.updDin_reads : (s.updDin n g).reads = s.reads := rfl
@[simp] theorem State.updDin_faulting : (s.updDin n g).faulting = s.faulting := rfl
@[simp] theorem State.updDin_fresh : (s.updDin n g).fresh = s.fresh := rfl
@[simp] theorem State.updDin_sqs : (s.updDin n g).sqs = s.sqs := rfl
@[simp] theorem State.updDin_crs : (s.updDin n g).crs = s.crs := rfl
@[simp] theorem State.updDin_adm : (s.updDin n g).adm = s.adm := rfl
@[simp] theorem State.updDin_admHeld : (s.updDin n g).admHeld = s.admHeld := rfl
@[simp] theorem State.updDin_scan : (s.updDin n g).scan = s.scan := rfl
@[simp] theorem State.updDin_flights : (s.updDin n g).flights = s.flights := rfl
@[simp] theorem State.updDin_tasks : (s.updDin n g).tasks = s.tasks := rfl
@[simp] theorem State.updDin_nextTask : (s.updDin n g).nextTask = s.nextTask := rfl
@[simp] theorem State.updDin_hints : (s.updDin n g).hints = s.hints := rfl
@[simp] theorem State.updDin_mqSlots : (s.updDin n g).mqSlots = s.mqSlots := rfl
@[simp] theorem State.updDin_mqJobs : (s.updDin n g).mqJobs = s.mqJobs := rfl
@[simp] theorem State.updDin_due : (s.updDin n g).due = s.due := rfl
@[simp] theorem State.updDin_lanes : (s.updDin n g).lanes = s.lanes := rfl
@[simp] theorem State.updDin_launches : (s.updDin n g).launches = s.launches := rfl
@[simp] theorem State.updDin_cores : (s.updDin n g).cores = s.cores := rfl
@[simp] theorem State.updDin_engs : (s.updDin n g).engs = s.engs := rfl
@[simp] theorem State.updDin_trims : (s.updDin n g).trims = s.trims := rfl
@[simp] theorem State.updDin_events : (s.updDin n g).events = s.events := rfl
@[simp] theorem State.updDin_sems : (s.updDin n g).sems = s.sems := rfl
@[simp] theorem State.updDin_remoteWaits : (s.updDin n g).remoteWaits = s.remoteWaits := rfl
@[simp] theorem State.updDin_remoteOps : (s.updDin n g).remoteOps = s.remoteOps := rfl
@[simp] theorem State.updDin_remoteAcqs : (s.updDin n g).remoteAcqs = s.remoteAcqs := rfl
@[simp] theorem State.updDin_remoteHolds : (s.updDin n g).remoteHolds = s.remoteHolds := rfl
@[simp] theorem State.updDin_fnRecs : (s.updDin n g).fnRecs = s.fnRecs := rfl
@[simp] theorem State.updDin_ctxs : (s.updDin n g).ctxs = s.ctxs := rfl
@[simp] theorem State.updDin_cyc : (s.updDin n g).cyc = s.cyc := rfl
@[simp] theorem State.updDin_wd : (s.updDin n g).wd = s.wd := rfl
@[simp] theorem State.updDin_td : (s.updDin n g).td = s.td := rfl
@[simp] theorem State.updDin_preq : (s.updDin n g).preq = s.preq := rfl
@[simp] theorem State.updDin_removals : (s.updDin n g).removals = s.removals := rfl
@[simp] theorem State.updDin_regrow : (s.updDin n g).regrow = s.regrow := rfl
@[simp] theorem State.updDin_gov : (s.updDin n g).gov = s.gov := rfl
@[simp] theorem State.updDin_sec : (s.updDin n g).sec = s.sec := rfl
@[simp] theorem State.updDin_tml : (s.updDin n g).tml = s.tml := rfl
@[simp] theorem State.updDin_obs : (s.updDin n g).obs = s.obs := rfl
@[simp] theorem State.updDin_mcs : (s.updDin n g).mcs = s.mcs := rfl
@[simp] theorem State.updDin_start : (s.updDin n g).start = s.start := rfl
@[simp] theorem State.updDin_reg (r0 : Reg) (i0 j0 : Nat) : (s.updDin n g).reg r0 i0 j0 = s.reg r0 i0 j0 := rfl
@[simp] theorem State.updDin_rf (r0 : Reg) (i0 j0 l0 w0 : Nat) : (s.updDin n g).rf r0 i0 j0 l0 w0 = s.rf r0 i0 j0 l0 w0 := rfl
@[simp] theorem State.updDin_rb (r0 : Reg) (i0 j0 b0 : Nat) : (s.updDin n g).rb r0 i0 j0 b0 = s.rb r0 i0 j0 b0 := rfl

end

section
variable (k : TdKind) (o : Nat) (g : Td → Td)

@[simp] theorem State.updTd_pending : (s.updTd k o g).pending = s.pending := rfl
@[simp] theorem State.updTd_now : (s.updTd k o g).now = s.now := rfl
@[simp] theorem State.updTd_ref : (s.updTd k o g).ref = s.ref := rfl
@[simp] theorem State.updTd_regs : (s.updTd k o g).regs = s.regs := rfl
@[simp] theorem State.updTd_irq : (s.updTd k o g).irq = s.irq := rfl
@[simp] theorem State.updTd_out : (s.updTd k o g).out = s.out := rfl
@[simp] theorem State.updTd_reads : (s.updTd k o g).reads = s.reads := rfl
@[simp] theorem State.updTd_faulting : (s.updTd k o g).faulting = s.faulting := rfl
@[simp] theorem State.updTd_fresh : (s.updTd k o g).fresh = s.fresh := rfl
@[simp] theorem State.updTd_sqs : (s.updTd k o g).sqs = s.sqs := rfl
@[simp] theorem State.updTd_crs : (s.updTd k o g).crs = s.crs := rfl
@[simp] theorem State.updTd_adm : (s.updTd k o g).adm = s.adm := rfl
@[simp] theorem State.updTd_admHeld : (s.updTd k o g).admHeld = s.admHeld := rfl
@[simp] theorem State.updTd_scan : (s.updTd k o g).scan = s.scan := rfl
@[simp] theorem State.updTd_flights : (s.updTd k o g).flights = s.flights := rfl
@[simp] theorem State.updTd_tasks : (s.updTd k o g).tasks = s.tasks := rfl
@[simp] theorem State.updTd_nextTask : (s.updTd k o g).nextTask = s.nextTask := rfl
@[simp] theorem State.updTd_hints : (s.updTd k o g).hints = s.hints := rfl
@[simp] theorem State.updTd_mqSlots : (s.updTd k o g).mqSlots = s.mqSlots := rfl
@[simp] theorem State.updTd_mqJobs : (s.updTd k o g).mqJobs = s.mqJobs := rfl
@[simp] theorem State.updTd_due : (s.updTd k o g).due = s.due := rfl
@[simp] theorem State.updTd_lanes : (s.updTd k o g).lanes = s.lanes := rfl
@[simp] theorem State.updTd_launches : (s.updTd k o g).launches = s.launches := rfl
@[simp] theorem State.updTd_cores : (s.updTd k o g).cores = s.cores := rfl
@[simp] theorem State.updTd_engs : (s.updTd k o g).engs = s.engs := rfl
@[simp] theorem State.updTd_trims : (s.updTd k o g).trims = s.trims := rfl
@[simp] theorem State.updTd_events : (s.updTd k o g).events = s.events := rfl
@[simp] theorem State.updTd_sems : (s.updTd k o g).sems = s.sems := rfl
@[simp] theorem State.updTd_remoteWaits : (s.updTd k o g).remoteWaits = s.remoteWaits := rfl
@[simp] theorem State.updTd_remoteOps : (s.updTd k o g).remoteOps = s.remoteOps := rfl
@[simp] theorem State.updTd_remoteAcqs : (s.updTd k o g).remoteAcqs = s.remoteAcqs := rfl
@[simp] theorem State.updTd_remoteHolds : (s.updTd k o g).remoteHolds = s.remoteHolds := rfl
@[simp] theorem State.updTd_fnRecs : (s.updTd k o g).fnRecs = s.fnRecs := rfl
@[simp] theorem State.updTd_ctxs : (s.updTd k o g).ctxs = s.ctxs := rfl
@[simp] theorem State.updTd_cyc : (s.updTd k o g).cyc = s.cyc := rfl
@[simp] theorem State.updTd_wd : (s.updTd k o g).wd = s.wd := rfl
@[simp] theorem State.updTd_preq : (s.updTd k o g).preq = s.preq := rfl
@[simp] theorem State.updTd_removals : (s.updTd k o g).removals = s.removals := rfl
@[simp] theorem State.updTd_dins : (s.updTd k o g).dins = s.dins := rfl
@[simp] theorem State.updTd_regrow : (s.updTd k o g).regrow = s.regrow := rfl
@[simp] theorem State.updTd_gov : (s.updTd k o g).gov = s.gov := rfl
@[simp] theorem State.updTd_sec : (s.updTd k o g).sec = s.sec := rfl
@[simp] theorem State.updTd_tml : (s.updTd k o g).tml = s.tml := rfl
@[simp] theorem State.updTd_obs : (s.updTd k o g).obs = s.obs := rfl
@[simp] theorem State.updTd_mcs : (s.updTd k o g).mcs = s.mcs := rfl
@[simp] theorem State.updTd_start : (s.updTd k o g).start = s.start := rfl
@[simp] theorem State.updTd_reg (r0 : Reg) (i0 j0 : Nat) : (s.updTd k o g).reg r0 i0 j0 = s.reg r0 i0 j0 := rfl
@[simp] theorem State.updTd_rf (r0 : Reg) (i0 j0 l0 w0 : Nat) : (s.updTd k o g).rf r0 i0 j0 l0 w0 = s.rf r0 i0 j0 l0 w0 := rfl
@[simp] theorem State.updTd_rb (r0 : Reg) (i0 j0 b0 : Nat) : (s.updTd k o g).rb r0 i0 j0 b0 = s.rb r0 i0 j0 b0 := rfl

end

section
variable (g : Gov → Gov)

@[simp] theorem State.setGov_pending : (s.setGov g).pending = s.pending := rfl
@[simp] theorem State.setGov_now : (s.setGov g).now = s.now := rfl
@[simp] theorem State.setGov_ref : (s.setGov g).ref = s.ref := rfl
@[simp] theorem State.setGov_regs : (s.setGov g).regs = s.regs := rfl
@[simp] theorem State.setGov_irq : (s.setGov g).irq = s.irq := rfl
@[simp] theorem State.setGov_out : (s.setGov g).out = s.out := rfl
@[simp] theorem State.setGov_reads : (s.setGov g).reads = s.reads := rfl
@[simp] theorem State.setGov_faulting : (s.setGov g).faulting = s.faulting := rfl
@[simp] theorem State.setGov_fresh : (s.setGov g).fresh = s.fresh := rfl
@[simp] theorem State.setGov_sqs : (s.setGov g).sqs = s.sqs := rfl
@[simp] theorem State.setGov_crs : (s.setGov g).crs = s.crs := rfl
@[simp] theorem State.setGov_adm : (s.setGov g).adm = s.adm := rfl
@[simp] theorem State.setGov_admHeld : (s.setGov g).admHeld = s.admHeld := rfl
@[simp] theorem State.setGov_scan : (s.setGov g).scan = s.scan := rfl
@[simp] theorem State.setGov_flights : (s.setGov g).flights = s.flights := rfl
@[simp] theorem State.setGov_tasks : (s.setGov g).tasks = s.tasks := rfl
@[simp] theorem State.setGov_nextTask : (s.setGov g).nextTask = s.nextTask := rfl
@[simp] theorem State.setGov_hints : (s.setGov g).hints = s.hints := rfl
@[simp] theorem State.setGov_mqSlots : (s.setGov g).mqSlots = s.mqSlots := rfl
@[simp] theorem State.setGov_mqJobs : (s.setGov g).mqJobs = s.mqJobs := rfl
@[simp] theorem State.setGov_due : (s.setGov g).due = s.due := rfl
@[simp] theorem State.setGov_lanes : (s.setGov g).lanes = s.lanes := rfl
@[simp] theorem State.setGov_launches : (s.setGov g).launches = s.launches := rfl
@[simp] theorem State.setGov_cores : (s.setGov g).cores = s.cores := rfl
@[simp] theorem State.setGov_engs : (s.setGov g).engs = s.engs := rfl
@[simp] theorem State.setGov_trims : (s.setGov g).trims = s.trims := rfl
@[simp] theorem State.setGov_events : (s.setGov g).events = s.events := rfl
@[simp] theorem State.setGov_sems : (s.setGov g).sems = s.sems := rfl
@[simp] theorem State.setGov_remoteWaits : (s.setGov g).remoteWaits = s.remoteWaits := rfl
@[simp] theorem State.setGov_remoteOps : (s.setGov g).remoteOps = s.remoteOps := rfl
@[simp] theorem State.setGov_remoteAcqs : (s.setGov g).remoteAcqs = s.remoteAcqs := rfl
@[simp] theorem State.setGov_remoteHolds : (s.setGov g).remoteHolds = s.remoteHolds := rfl
@[simp] theorem State.setGov_fnRecs : (s.setGov g).fnRecs = s.fnRecs := rfl
@[simp] theorem State.setGov_ctxs : (s.setGov g).ctxs = s.ctxs := rfl
@[simp] theorem State.setGov_cyc : (s.setGov g).cyc = s.cyc := rfl
@[simp] theorem State.setGov_wd : (s.setGov g).wd = s.wd := rfl
@[simp] theorem State.setGov_td : (s.setGov g).td = s.td := rfl
@[simp] theorem State.setGov_preq : (s.setGov g).preq = s.preq := rfl
@[simp] theorem State.setGov_removals : (s.setGov g).removals = s.removals := rfl
@[simp] theorem State.setGov_dins : (s.setGov g).dins = s.dins := rfl
@[simp] theorem State.setGov_regrow : (s.setGov g).regrow = s.regrow := rfl
@[simp] theorem State.setGov_sec : (s.setGov g).sec = s.sec := rfl
@[simp] theorem State.setGov_tml : (s.setGov g).tml = s.tml := rfl
@[simp] theorem State.setGov_obs : (s.setGov g).obs = s.obs := rfl
@[simp] theorem State.setGov_mcs : (s.setGov g).mcs = s.mcs := rfl
@[simp] theorem State.setGov_start : (s.setGov g).start = s.start := rfl
@[simp] theorem State.setGov_reg (r0 : Reg) (i0 j0 : Nat) : (s.setGov g).reg r0 i0 j0 = s.reg r0 i0 j0 := rfl
@[simp] theorem State.setGov_rf (r0 : Reg) (i0 j0 l0 w0 : Nat) : (s.setGov g).rf r0 i0 j0 l0 w0 = s.rf r0 i0 j0 l0 w0 := rfl
@[simp] theorem State.setGov_rb (r0 : Reg) (i0 j0 b0 : Nat) : (s.setGov g).rb r0 i0 j0 b0 = s.rb r0 i0 j0 b0 := rfl

end

section
variable (g : Sec → Sec)

@[simp] theorem State.setSec_pending : (s.setSec g).pending = s.pending := rfl
@[simp] theorem State.setSec_now : (s.setSec g).now = s.now := rfl
@[simp] theorem State.setSec_ref : (s.setSec g).ref = s.ref := rfl
@[simp] theorem State.setSec_regs : (s.setSec g).regs = s.regs := rfl
@[simp] theorem State.setSec_irq : (s.setSec g).irq = s.irq := rfl
@[simp] theorem State.setSec_out : (s.setSec g).out = s.out := rfl
@[simp] theorem State.setSec_reads : (s.setSec g).reads = s.reads := rfl
@[simp] theorem State.setSec_faulting : (s.setSec g).faulting = s.faulting := rfl
@[simp] theorem State.setSec_fresh : (s.setSec g).fresh = s.fresh := rfl
@[simp] theorem State.setSec_sqs : (s.setSec g).sqs = s.sqs := rfl
@[simp] theorem State.setSec_crs : (s.setSec g).crs = s.crs := rfl
@[simp] theorem State.setSec_adm : (s.setSec g).adm = s.adm := rfl
@[simp] theorem State.setSec_admHeld : (s.setSec g).admHeld = s.admHeld := rfl
@[simp] theorem State.setSec_scan : (s.setSec g).scan = s.scan := rfl
@[simp] theorem State.setSec_flights : (s.setSec g).flights = s.flights := rfl
@[simp] theorem State.setSec_tasks : (s.setSec g).tasks = s.tasks := rfl
@[simp] theorem State.setSec_nextTask : (s.setSec g).nextTask = s.nextTask := rfl
@[simp] theorem State.setSec_hints : (s.setSec g).hints = s.hints := rfl
@[simp] theorem State.setSec_mqSlots : (s.setSec g).mqSlots = s.mqSlots := rfl
@[simp] theorem State.setSec_mqJobs : (s.setSec g).mqJobs = s.mqJobs := rfl
@[simp] theorem State.setSec_due : (s.setSec g).due = s.due := rfl
@[simp] theorem State.setSec_lanes : (s.setSec g).lanes = s.lanes := rfl
@[simp] theorem State.setSec_launches : (s.setSec g).launches = s.launches := rfl
@[simp] theorem State.setSec_cores : (s.setSec g).cores = s.cores := rfl
@[simp] theorem State.setSec_engs : (s.setSec g).engs = s.engs := rfl
@[simp] theorem State.setSec_trims : (s.setSec g).trims = s.trims := rfl
@[simp] theorem State.setSec_events : (s.setSec g).events = s.events := rfl
@[simp] theorem State.setSec_sems : (s.setSec g).sems = s.sems := rfl
@[simp] theorem State.setSec_remoteWaits : (s.setSec g).remoteWaits = s.remoteWaits := rfl
@[simp] theorem State.setSec_remoteOps : (s.setSec g).remoteOps = s.remoteOps := rfl
@[simp] theorem State.setSec_remoteAcqs : (s.setSec g).remoteAcqs = s.remoteAcqs := rfl
@[simp] theorem State.setSec_remoteHolds : (s.setSec g).remoteHolds = s.remoteHolds := rfl
@[simp] theorem State.setSec_fnRecs : (s.setSec g).fnRecs = s.fnRecs := rfl
@[simp] theorem State.setSec_ctxs : (s.setSec g).ctxs = s.ctxs := rfl
@[simp] theorem State.setSec_cyc : (s.setSec g).cyc = s.cyc := rfl
@[simp] theorem State.setSec_wd : (s.setSec g).wd = s.wd := rfl
@[simp] theorem State.setSec_td : (s.setSec g).td = s.td := rfl
@[simp] theorem State.setSec_preq : (s.setSec g).preq = s.preq := rfl
@[simp] theorem State.setSec_removals : (s.setSec g).removals = s.removals := rfl
@[simp] theorem State.setSec_dins : (s.setSec g).dins = s.dins := rfl
@[simp] theorem State.setSec_regrow : (s.setSec g).regrow = s.regrow := rfl
@[simp] theorem State.setSec_gov : (s.setSec g).gov = s.gov := rfl
@[simp] theorem State.setSec_tml : (s.setSec g).tml = s.tml := rfl
@[simp] theorem State.setSec_obs : (s.setSec g).obs = s.obs := rfl
@[simp] theorem State.setSec_mcs : (s.setSec g).mcs = s.mcs := rfl
@[simp] theorem State.setSec_start : (s.setSec g).start = s.start := rfl
@[simp] theorem State.setSec_reg (r0 : Reg) (i0 j0 : Nat) : (s.setSec g).reg r0 i0 j0 = s.reg r0 i0 j0 := rfl
@[simp] theorem State.setSec_rf (r0 : Reg) (i0 j0 l0 w0 : Nat) : (s.setSec g).rf r0 i0 j0 l0 w0 = s.rf r0 i0 j0 l0 w0 := rfl
@[simp] theorem State.setSec_rb (r0 : Reg) (i0 j0 b0 : Nat) : (s.setSec g).rb r0 i0 j0 b0 = s.rb r0 i0 j0 b0 := rfl

end

section
variable (k : Nat) (v : BitVec 256)

@[simp] theorem State.putKey_pending : (s.putKey k v).pending = s.pending := rfl
@[simp] theorem State.putKey_now : (s.putKey k v).now = s.now := rfl
@[simp] theorem State.putKey_ref : (s.putKey k v).ref = s.ref := rfl
@[simp] theorem State.putKey_regs : (s.putKey k v).regs = s.regs := rfl
@[simp] theorem State.putKey_irq : (s.putKey k v).irq = s.irq := rfl
@[simp] theorem State.putKey_out : (s.putKey k v).out = s.out := rfl
@[simp] theorem State.putKey_reads : (s.putKey k v).reads = s.reads := rfl
@[simp] theorem State.putKey_faulting : (s.putKey k v).faulting = s.faulting := rfl
@[simp] theorem State.putKey_fresh : (s.putKey k v).fresh = s.fresh := rfl
@[simp] theorem State.putKey_sqs : (s.putKey k v).sqs = s.sqs := rfl
@[simp] theorem State.putKey_crs : (s.putKey k v).crs = s.crs := rfl
@[simp] theorem State.putKey_adm : (s.putKey k v).adm = s.adm := rfl
@[simp] theorem State.putKey_admHeld : (s.putKey k v).admHeld = s.admHeld := rfl
@[simp] theorem State.putKey_scan : (s.putKey k v).scan = s.scan := rfl
@[simp] theorem State.putKey_flights : (s.putKey k v).flights = s.flights := rfl
@[simp] theorem State.putKey_tasks : (s.putKey k v).tasks = s.tasks := rfl
@[simp] theorem State.putKey_nextTask : (s.putKey k v).nextTask = s.nextTask := rfl
@[simp] theorem State.putKey_hints : (s.putKey k v).hints = s.hints := rfl
@[simp] theorem State.putKey_mqSlots : (s.putKey k v).mqSlots = s.mqSlots := rfl
@[simp] theorem State.putKey_mqJobs : (s.putKey k v).mqJobs = s.mqJobs := rfl
@[simp] theorem State.putKey_due : (s.putKey k v).due = s.due := rfl
@[simp] theorem State.putKey_lanes : (s.putKey k v).lanes = s.lanes := rfl
@[simp] theorem State.putKey_launches : (s.putKey k v).launches = s.launches := rfl
@[simp] theorem State.putKey_cores : (s.putKey k v).cores = s.cores := rfl
@[simp] theorem State.putKey_engs : (s.putKey k v).engs = s.engs := rfl
@[simp] theorem State.putKey_trims : (s.putKey k v).trims = s.trims := rfl
@[simp] theorem State.putKey_events : (s.putKey k v).events = s.events := rfl
@[simp] theorem State.putKey_sems : (s.putKey k v).sems = s.sems := rfl
@[simp] theorem State.putKey_remoteWaits : (s.putKey k v).remoteWaits = s.remoteWaits := rfl
@[simp] theorem State.putKey_remoteOps : (s.putKey k v).remoteOps = s.remoteOps := rfl
@[simp] theorem State.putKey_remoteAcqs : (s.putKey k v).remoteAcqs = s.remoteAcqs := rfl
@[simp] theorem State.putKey_remoteHolds : (s.putKey k v).remoteHolds = s.remoteHolds := rfl
@[simp] theorem State.putKey_fnRecs : (s.putKey k v).fnRecs = s.fnRecs := rfl
@[simp] theorem State.putKey_ctxs : (s.putKey k v).ctxs = s.ctxs := rfl
@[simp] theorem State.putKey_cyc : (s.putKey k v).cyc = s.cyc := rfl
@[simp] theorem State.putKey_wd : (s.putKey k v).wd = s.wd := rfl
@[simp] theorem State.putKey_td : (s.putKey k v).td = s.td := rfl
@[simp] theorem State.putKey_preq : (s.putKey k v).preq = s.preq := rfl
@[simp] theorem State.putKey_removals : (s.putKey k v).removals = s.removals := rfl
@[simp] theorem State.putKey_dins : (s.putKey k v).dins = s.dins := rfl
@[simp] theorem State.putKey_regrow : (s.putKey k v).regrow = s.regrow := rfl
@[simp] theorem State.putKey_gov : (s.putKey k v).gov = s.gov := rfl
@[simp] theorem State.putKey_tml : (s.putKey k v).tml = s.tml := rfl
@[simp] theorem State.putKey_obs : (s.putKey k v).obs = s.obs := rfl
@[simp] theorem State.putKey_mcs : (s.putKey k v).mcs = s.mcs := rfl
@[simp] theorem State.putKey_start : (s.putKey k v).start = s.start := rfl
@[simp] theorem State.putKey_reg (r0 : Reg) (i0 j0 : Nat) : (s.putKey k v).reg r0 i0 j0 = s.reg r0 i0 j0 := rfl
@[simp] theorem State.putKey_rf (r0 : Reg) (i0 j0 l0 w0 : Nat) : (s.putKey k v).rf r0 i0 j0 l0 w0 = s.rf r0 i0 j0 l0 w0 := rfl
@[simp] theorem State.putKey_rb (r0 : Reg) (i0 j0 b0 : Nat) : (s.putKey k v).rb r0 i0 j0 b0 = s.rb r0 i0 j0 b0 := rfl
@[simp] theorem State.putKey_keys : (s.putKey k v).sec.keys = Tab.set s.sec.keys k v := rfl

end

section
variable (f : Nat) (v : Bool)

@[simp] theorem State.setMsixPend_pending : (s.setMsixPend f v).pending = s.pending := rfl
@[simp] theorem State.setMsixPend_now : (s.setMsixPend f v).now = s.now := rfl
@[simp] theorem State.setMsixPend_ref : (s.setMsixPend f v).ref = s.ref := rfl
@[simp] theorem State.setMsixPend_regs : (s.setMsixPend f v).regs = s.regs := rfl
@[simp] theorem State.setMsixPend_out : (s.setMsixPend f v).out = s.out := rfl
@[simp] theorem State.setMsixPend_reads : (s.setMsixPend f v).reads = s.reads := rfl
@[simp] theorem State.setMsixPend_faulting : (s.setMsixPend f v).faulting = s.faulting := rfl
@[simp] theorem State.setMsixPend_fresh : (s.setMsixPend f v).fresh = s.fresh := rfl
@[simp] theorem State.setMsixPend_sqs : (s.setMsixPend f v).sqs = s.sqs := rfl
@[simp] theorem State.setMsixPend_crs : (s.setMsixPend f v).crs = s.crs := rfl
@[simp] theorem State.setMsixPend_adm : (s.setMsixPend f v).adm = s.adm := rfl
@[simp] theorem State.setMsixPend_admHeld : (s.setMsixPend f v).admHeld = s.admHeld := rfl
@[simp] theorem State.setMsixPend_scan : (s.setMsixPend f v).scan = s.scan := rfl
@[simp] theorem State.setMsixPend_flights : (s.setMsixPend f v).flights = s.flights := rfl
@[simp] theorem State.setMsixPend_tasks : (s.setMsixPend f v).tasks = s.tasks := rfl
@[simp] theorem State.setMsixPend_nextTask : (s.setMsixPend f v).nextTask = s.nextTask := rfl
@[simp] theorem State.setMsixPend_hints : (s.setMsixPend f v).hints = s.hints := rfl
@[simp] theorem State.setMsixPend_mqSlots : (s.setMsixPend f v).mqSlots = s.mqSlots := rfl
@[simp] theorem State.setMsixPend_mqJobs : (s.setMsixPend f v).mqJobs = s.mqJobs := rfl
@[simp] theorem State.setMsixPend_due : (s.setMsixPend f v).due = s.due := rfl
@[simp] theorem State.setMsixPend_lanes : (s.setMsixPend f v).lanes = s.lanes := rfl
@[simp] theorem State.setMsixPend_launches : (s.setMsixPend f v).launches = s.launches := rfl
@[simp] theorem State.setMsixPend_cores : (s.setMsixPend f v).cores = s.cores := rfl
@[simp] theorem State.setMsixPend_engs : (s.setMsixPend f v).engs = s.engs := rfl
@[simp] theorem State.setMsixPend_trims : (s.setMsixPend f v).trims = s.trims := rfl
@[simp] theorem State.setMsixPend_events : (s.setMsixPend f v).events = s.events := rfl
@[simp] theorem State.setMsixPend_sems : (s.setMsixPend f v).sems = s.sems := rfl
@[simp] theorem State.setMsixPend_remoteWaits : (s.setMsixPend f v).remoteWaits = s.remoteWaits := rfl
@[simp] theorem State.setMsixPend_remoteOps : (s.setMsixPend f v).remoteOps = s.remoteOps := rfl
@[simp] theorem State.setMsixPend_remoteAcqs : (s.setMsixPend f v).remoteAcqs = s.remoteAcqs := rfl
@[simp] theorem State.setMsixPend_remoteHolds : (s.setMsixPend f v).remoteHolds = s.remoteHolds := rfl
@[simp] theorem State.setMsixPend_fnRecs : (s.setMsixPend f v).fnRecs = s.fnRecs := rfl
@[simp] theorem State.setMsixPend_ctxs : (s.setMsixPend f v).ctxs = s.ctxs := rfl
@[simp] theorem State.setMsixPend_cyc : (s.setMsixPend f v).cyc = s.cyc := rfl
@[simp] theorem State.setMsixPend_wd : (s.setMsixPend f v).wd = s.wd := rfl
@[simp] theorem State.setMsixPend_td : (s.setMsixPend f v).td = s.td := rfl
@[simp] theorem State.setMsixPend_preq : (s.setMsixPend f v).preq = s.preq := rfl
@[simp] theorem State.setMsixPend_removals : (s.setMsixPend f v).removals = s.removals := rfl
@[simp] theorem State.setMsixPend_dins : (s.setMsixPend f v).dins = s.dins := rfl
@[simp] theorem State.setMsixPend_regrow : (s.setMsixPend f v).regrow = s.regrow := rfl
@[simp] theorem State.setMsixPend_gov : (s.setMsixPend f v).gov = s.gov := rfl
@[simp] theorem State.setMsixPend_sec : (s.setMsixPend f v).sec = s.sec := rfl
@[simp] theorem State.setMsixPend_tml : (s.setMsixPend f v).tml = s.tml := rfl
@[simp] theorem State.setMsixPend_obs : (s.setMsixPend f v).obs = s.obs := rfl
@[simp] theorem State.setMsixPend_mcs : (s.setMsixPend f v).mcs = s.mcs := rfl
@[simp] theorem State.setMsixPend_start : (s.setMsixPend f v).start = s.start := rfl
@[simp] theorem State.setMsixPend_reg (r0 : Reg) (i0 j0 : Nat) : (s.setMsixPend f v).reg r0 i0 j0 = s.reg r0 i0 j0 := rfl
@[simp] theorem State.setMsixPend_rf (r0 : Reg) (i0 j0 l0 w0 : Nat) : (s.setMsixPend f v).rf r0 i0 j0 l0 w0 = s.rf r0 i0 j0 l0 w0 := rfl
@[simp] theorem State.setMsixPend_rb (r0 : Reg) (i0 j0 b0 : Nat) : (s.setMsixPend f v).rb r0 i0 j0 b0 = s.rb r0 i0 j0 b0 := rfl

end

section
variable (g : Cyc → Cyc)

@[simp] theorem State.setCyc_pending : (s.setCyc g).pending = s.pending := rfl
@[simp] theorem State.setCyc_now : (s.setCyc g).now = s.now := rfl
@[simp] theorem State.setCyc_ref : (s.setCyc g).ref = s.ref := rfl
@[simp] theorem State.setCyc_regs : (s.setCyc g).regs = s.regs := rfl
@[simp] theorem State.setCyc_irq : (s.setCyc g).irq = s.irq := rfl
@[simp] theorem State.setCyc_out : (s.setCyc g).out = s.out := rfl
@[simp] theorem State.setCyc_reads : (s.setCyc g).reads = s.reads := rfl
@[simp] theorem State.setCyc_faulting : (s.setCyc g).faulting = s.faulting := rfl
@[simp] theorem State.setCyc_fresh : (s.setCyc g).fresh = s.fresh := rfl
@[simp] theorem State.setCyc_sqs : (s.setCyc g).sqs = s.sqs := rfl
@[simp] theorem State.setCyc_crs : (s.setCyc g).crs = s.crs := rfl
@[simp] theorem State.setCyc_adm : (s.setCyc g).adm = s.adm := rfl
@[simp] theorem State.setCyc_admHeld : (s.setCyc g).admHeld = s.admHeld := rfl
@[simp] theorem State.setCyc_scan : (s.setCyc g).scan = s.scan := rfl
@[simp] theorem State.setCyc_flights : (s.setCyc g).flights = s.flights := rfl
@[simp] theorem State.setCyc_tasks : (s.setCyc g).tasks = s.tasks := rfl
@[simp] theorem State.setCyc_nextTask : (s.setCyc g).nextTask = s.nextTask := rfl
@[simp] theorem State.setCyc_hints : (s.setCyc g).hints = s.hints := rfl
@[simp] theorem State.setCyc_mqSlots : (s.setCyc g).mqSlots = s.mqSlots := rfl
@[simp] theorem State.setCyc_mqJobs : (s.setCyc g).mqJobs = s.mqJobs := rfl
@[simp] theorem State.setCyc_due : (s.setCyc g).due = s.due := rfl
@[simp] theorem State.setCyc_lanes : (s.setCyc g).lanes = s.lanes := rfl
@[simp] theorem State.setCyc_launches : (s.setCyc g).launches = s.launches := rfl
@[simp] theorem State.setCyc_cores : (s.setCyc g).cores = s.cores := rfl
@[simp] theorem State.setCyc_engs : (s.setCyc g).engs = s.engs := rfl
@[simp] theorem State.setCyc_trims : (s.setCyc g).trims = s.trims := rfl
@[simp] theorem State.setCyc_events : (s.setCyc g).events = s.events := rfl
@[simp] theorem State.setCyc_sems : (s.setCyc g).sems = s.sems := rfl
@[simp] theorem State.setCyc_remoteWaits : (s.setCyc g).remoteWaits = s.remoteWaits := rfl
@[simp] theorem State.setCyc_remoteOps : (s.setCyc g).remoteOps = s.remoteOps := rfl
@[simp] theorem State.setCyc_remoteAcqs : (s.setCyc g).remoteAcqs = s.remoteAcqs := rfl
@[simp] theorem State.setCyc_remoteHolds : (s.setCyc g).remoteHolds = s.remoteHolds := rfl
@[simp] theorem State.setCyc_fnRecs : (s.setCyc g).fnRecs = s.fnRecs := rfl
@[simp] theorem State.setCyc_ctxs : (s.setCyc g).ctxs = s.ctxs := rfl
@[simp] theorem State.setCyc_wd : (s.setCyc g).wd = s.wd := rfl
@[simp] theorem State.setCyc_td : (s.setCyc g).td = s.td := rfl
@[simp] theorem State.setCyc_preq : (s.setCyc g).preq = s.preq := rfl
@[simp] theorem State.setCyc_removals : (s.setCyc g).removals = s.removals := rfl
@[simp] theorem State.setCyc_dins : (s.setCyc g).dins = s.dins := rfl
@[simp] theorem State.setCyc_regrow : (s.setCyc g).regrow = s.regrow := rfl
@[simp] theorem State.setCyc_gov : (s.setCyc g).gov = s.gov := rfl
@[simp] theorem State.setCyc_sec : (s.setCyc g).sec = s.sec := rfl
@[simp] theorem State.setCyc_tml : (s.setCyc g).tml = s.tml := rfl
@[simp] theorem State.setCyc_obs : (s.setCyc g).obs = s.obs := rfl
@[simp] theorem State.setCyc_mcs : (s.setCyc g).mcs = s.mcs := rfl
@[simp] theorem State.setCyc_start : (s.setCyc g).start = s.start := rfl
@[simp] theorem State.setCyc_reg (r0 : Reg) (i0 j0 : Nat) : (s.setCyc g).reg r0 i0 j0 = s.reg r0 i0 j0 := rfl
@[simp] theorem State.setCyc_rf (r0 : Reg) (i0 j0 l0 w0 : Nat) : (s.setCyc g).rf r0 i0 j0 l0 w0 = s.rf r0 i0 j0 l0 w0 := rfl
@[simp] theorem State.setCyc_rb (r0 : Reg) (i0 j0 b0 : Nat) : (s.setCyc g).rb r0 i0 j0 b0 = s.rb r0 i0 j0 b0 := rfl

end

section
variable (g : Tml → Tml)

@[simp] theorem State.setTml_pending : (s.setTml g).pending = s.pending := rfl
@[simp] theorem State.setTml_now : (s.setTml g).now = s.now := rfl
@[simp] theorem State.setTml_ref : (s.setTml g).ref = s.ref := rfl
@[simp] theorem State.setTml_regs : (s.setTml g).regs = s.regs := rfl
@[simp] theorem State.setTml_irq : (s.setTml g).irq = s.irq := rfl
@[simp] theorem State.setTml_out : (s.setTml g).out = s.out := rfl
@[simp] theorem State.setTml_reads : (s.setTml g).reads = s.reads := rfl
@[simp] theorem State.setTml_faulting : (s.setTml g).faulting = s.faulting := rfl
@[simp] theorem State.setTml_fresh : (s.setTml g).fresh = s.fresh := rfl
@[simp] theorem State.setTml_sqs : (s.setTml g).sqs = s.sqs := rfl
@[simp] theorem State.setTml_crs : (s.setTml g).crs = s.crs := rfl
@[simp] theorem State.setTml_adm : (s.setTml g).adm = s.adm := rfl
@[simp] theorem State.setTml_admHeld : (s.setTml g).admHeld = s.admHeld := rfl
@[simp] theorem State.setTml_scan : (s.setTml g).scan = s.scan := rfl
@[simp] theorem State.setTml_flights : (s.setTml g).flights = s.flights := rfl
@[simp] theorem State.setTml_tasks : (s.setTml g).tasks = s.tasks := rfl
@[simp] theorem State.setTml_nextTask : (s.setTml g).nextTask = s.nextTask := rfl
@[simp] theorem State.setTml_hints : (s.setTml g).hints = s.hints := rfl
@[simp] theorem State.setTml_mqSlots : (s.setTml g).mqSlots = s.mqSlots := rfl
@[simp] theorem State.setTml_mqJobs : (s.setTml g).mqJobs = s.mqJobs := rfl
@[simp] theorem State.setTml_due : (s.setTml g).due = s.due := rfl
@[simp] theorem State.setTml_lanes : (s.setTml g).lanes = s.lanes := rfl
@[simp] theorem State.setTml_launches : (s.setTml g).launches = s.launches := rfl
@[simp] theorem State.setTml_cores : (s.setTml g).cores = s.cores := rfl
@[simp] theorem State.setTml_engs : (s.setTml g).engs = s.engs := rfl
@[simp] theorem State.setTml_trims : (s.setTml g).trims = s.trims := rfl
@[simp] theorem State.setTml_events : (s.setTml g).events = s.events := rfl
@[simp] theorem State.setTml_sems : (s.setTml g).sems = s.sems := rfl
@[simp] theorem State.setTml_remoteWaits : (s.setTml g).remoteWaits = s.remoteWaits := rfl
@[simp] theorem State.setTml_remoteOps : (s.setTml g).remoteOps = s.remoteOps := rfl
@[simp] theorem State.setTml_remoteAcqs : (s.setTml g).remoteAcqs = s.remoteAcqs := rfl
@[simp] theorem State.setTml_remoteHolds : (s.setTml g).remoteHolds = s.remoteHolds := rfl
@[simp] theorem State.setTml_fnRecs : (s.setTml g).fnRecs = s.fnRecs := rfl
@[simp] theorem State.setTml_ctxs : (s.setTml g).ctxs = s.ctxs := rfl
@[simp] theorem State.setTml_cyc : (s.setTml g).cyc = s.cyc := rfl
@[simp] theorem State.setTml_wd : (s.setTml g).wd = s.wd := rfl
@[simp] theorem State.setTml_td : (s.setTml g).td = s.td := rfl
@[simp] theorem State.setTml_preq : (s.setTml g).preq = s.preq := rfl
@[simp] theorem State.setTml_removals : (s.setTml g).removals = s.removals := rfl
@[simp] theorem State.setTml_dins : (s.setTml g).dins = s.dins := rfl
@[simp] theorem State.setTml_regrow : (s.setTml g).regrow = s.regrow := rfl
@[simp] theorem State.setTml_gov : (s.setTml g).gov = s.gov := rfl
@[simp] theorem State.setTml_sec : (s.setTml g).sec = s.sec := rfl
@[simp] theorem State.setTml_obs : (s.setTml g).obs = s.obs := rfl
@[simp] theorem State.setTml_mcs : (s.setTml g).mcs = s.mcs := rfl
@[simp] theorem State.setTml_start : (s.setTml g).start = s.start := rfl
@[simp] theorem State.setTml_reg (r0 : Reg) (i0 j0 : Nat) : (s.setTml g).reg r0 i0 j0 = s.reg r0 i0 j0 := rfl
@[simp] theorem State.setTml_rf (r0 : Reg) (i0 j0 l0 w0 : Nat) : (s.setTml g).rf r0 i0 j0 l0 w0 = s.rf r0 i0 j0 l0 w0 := rfl
@[simp] theorem State.setTml_rb (r0 : Reg) (i0 j0 b0 : Nat) : (s.setTml g).rb r0 i0 j0 b0 = s.rb r0 i0 j0 b0 := rfl

end

section
variable (p : Nat) (g : TPort → TPort)

@[simp] theorem State.updPort_pending : (s.updPort p g).pending = s.pending := rfl
@[simp] theorem State.updPort_now : (s.updPort p g).now = s.now := rfl
@[simp] theorem State.updPort_ref : (s.updPort p g).ref = s.ref := rfl
@[simp] theorem State.updPort_regs : (s.updPort p g).regs = s.regs := rfl
@[simp] theorem State.updPort_irq : (s.updPort p g).irq = s.irq := rfl
@[simp] theorem State.updPort_out : (s.updPort p g).out = s.out := rfl
@[simp] theorem State.updPort_reads : (s.updPort p g).reads = s.reads := rfl
@[simp] theorem State.updPort_faulting : (s.updPort p g).faulting = s.faulting := rfl
@[simp] theorem State.updPort_fresh : (s.updPort p g).fresh = s.fresh := rfl
@[simp] theorem State.updPort_sqs : (s.updPort p g).sqs = s.sqs := rfl
@[simp] theorem State.updPort_crs : (s.updPort p g).crs = s.crs := rfl
@[simp] theorem State.updPort_adm : (s.updPort p g).adm = s.adm := rfl
@[simp] theorem State.updPort_admHeld : (s.updPort p g).admHeld = s.admHeld := rfl
@[simp] theorem State.updPort_scan : (s.updPort p g).scan = s.scan := rfl
@[simp] theorem State.updPort_flights : (s.updPort p g).flights = s.flights := rfl
@[simp] theorem State.updPort_tasks : (s.updPort p g).tasks = s.tasks := rfl
@[simp] theorem State.updPort_nextTask : (s.updPort p g).nextTask = s.nextTask := rfl
@[simp] theorem State.updPort_hints : (s.updPort p g).hints = s.hints := rfl
@[simp] theorem State.updPort_mqSlots : (s.updPort p g).mqSlots = s.mqSlots := rfl
@[simp] theorem State.updPort_mqJobs : (s.updPort p g).mqJobs = s.mqJobs := rfl
@[simp] theorem State.updPort_due : (s.updPort p g).due = s.due := rfl
@[simp] theorem State.updPort_lanes : (s.updPort p g).lanes = s.lanes := rfl
@[simp] theorem State.updPort_launches : (s.updPort p g).launches = s.launches := rfl
@[simp] theorem State.updPort_cores : (s.updPort p g).cores = s.cores := rfl
@[simp] theorem State.updPort_engs : (s.updPort p g).engs = s.engs := rfl
@[simp] theorem State.updPort_trims : (s.updPort p g).trims = s.trims := rfl
@[simp] theorem State.updPort_events : (s.updPort p g).events = s.events := rfl
@[simp] theorem State.updPort_sems : (s.updPort p g).sems = s.sems := rfl
@[simp] theorem State.updPort_remoteWaits : (s.updPort p g).remoteWaits = s.remoteWaits := rfl
@[simp] theorem State.updPort_remoteOps : (s.updPort p g).remoteOps = s.remoteOps := rfl
@[simp] theorem State.updPort_remoteAcqs : (s.updPort p g).remoteAcqs = s.remoteAcqs := rfl
@[simp] theorem State.updPort_remoteHolds : (s.updPort p g).remoteHolds = s.remoteHolds := rfl
@[simp] theorem State.updPort_fnRecs : (s.updPort p g).fnRecs = s.fnRecs := rfl
@[simp] theorem State.updPort_ctxs : (s.updPort p g).ctxs = s.ctxs := rfl
@[simp] theorem State.updPort_cyc : (s.updPort p g).cyc = s.cyc := rfl
@[simp] theorem State.updPort_wd : (s.updPort p g).wd = s.wd := rfl
@[simp] theorem State.updPort_td : (s.updPort p g).td = s.td := rfl
@[simp] theorem State.updPort_preq : (s.updPort p g).preq = s.preq := rfl
@[simp] theorem State.updPort_removals : (s.updPort p g).removals = s.removals := rfl
@[simp] theorem State.updPort_dins : (s.updPort p g).dins = s.dins := rfl
@[simp] theorem State.updPort_regrow : (s.updPort p g).regrow = s.regrow := rfl
@[simp] theorem State.updPort_gov : (s.updPort p g).gov = s.gov := rfl
@[simp] theorem State.updPort_sec : (s.updPort p g).sec = s.sec := rfl
@[simp] theorem State.updPort_obs : (s.updPort p g).obs = s.obs := rfl
@[simp] theorem State.updPort_mcs : (s.updPort p g).mcs = s.mcs := rfl
@[simp] theorem State.updPort_start : (s.updPort p g).start = s.start := rfl
@[simp] theorem State.updPort_reg (r0 : Reg) (i0 j0 : Nat) : (s.updPort p g).reg r0 i0 j0 = s.reg r0 i0 j0 := rfl
@[simp] theorem State.updPort_rf (r0 : Reg) (i0 j0 l0 w0 : Nat) : (s.updPort p g).rf r0 i0 j0 l0 w0 = s.rf r0 i0 j0 l0 w0 := rfl
@[simp] theorem State.updPort_rb (r0 : Reg) (i0 j0 b0 : Nat) : (s.updPort p g).rb r0 i0 j0 b0 = s.rb r0 i0 j0 b0 := rfl

end

section
variable (n : Nat) (q : Seqr)

@[simp] theorem State.setSeqr_pending : (s.setSeqr n q).pending = s.pending := rfl
@[simp] theorem State.setSeqr_now : (s.setSeqr n q).now = s.now := rfl
@[simp] theorem State.setSeqr_ref : (s.setSeqr n q).ref = s.ref := rfl
@[simp] theorem State.setSeqr_regs : (s.setSeqr n q).regs = s.regs := rfl
@[simp] theorem State.setSeqr_irq : (s.setSeqr n q).irq = s.irq := rfl
@[simp] theorem State.setSeqr_out : (s.setSeqr n q).out = s.out := rfl
@[simp] theorem State.setSeqr_reads : (s.setSeqr n q).reads = s.reads := rfl
@[simp] theorem State.setSeqr_faulting : (s.setSeqr n q).faulting = s.faulting := rfl
@[simp] theorem State.setSeqr_fresh : (s.setSeqr n q).fresh = s.fresh := rfl
@[simp] theorem State.setSeqr_sqs : (s.setSeqr n q).sqs = s.sqs := rfl
@[simp] theorem State.setSeqr_crs : (s.setSeqr n q).crs = s.crs := rfl
@[simp] theorem State.setSeqr_adm : (s.setSeqr n q).adm = s.adm := rfl
@[simp] theorem State.setSeqr_admHeld : (s.setSeqr n q).admHeld = s.admHeld := rfl
@[simp] theorem State.setSeqr_scan : (s.setSeqr n q).scan = s.scan := rfl
@[simp] theorem State.setSeqr_flights : (s.setSeqr n q).flights = s.flights := rfl
@[simp] theorem State.setSeqr_tasks : (s.setSeqr n q).tasks = s.tasks := rfl
@[simp] theorem State.setSeqr_nextTask : (s.setSeqr n q).nextTask = s.nextTask := rfl
@[simp] theorem State.setSeqr_hints : (s.setSeqr n q).hints = s.hints := rfl
@[simp] theorem State.setSeqr_mqSlots : (s.setSeqr n q).mqSlots = s.mqSlots := rfl
@[simp] theorem State.setSeqr_mqJobs : (s.setSeqr n q).mqJobs = s.mqJobs := rfl
@[simp] theorem State.setSeqr_due : (s.setSeqr n q).due = s.due := rfl
@[simp] theorem State.setSeqr_lanes : (s.setSeqr n q).lanes = s.lanes := rfl
@[simp] theorem State.setSeqr_launches : (s.setSeqr n q).launches = s.launches := rfl
@[simp] theorem State.setSeqr_cores : (s.setSeqr n q).cores = s.cores := rfl
@[simp] theorem State.setSeqr_engs : (s.setSeqr n q).engs = s.engs := rfl
@[simp] theorem State.setSeqr_trims : (s.setSeqr n q).trims = s.trims := rfl
@[simp] theorem State.setSeqr_events : (s.setSeqr n q).events = s.events := rfl
@[simp] theorem State.setSeqr_sems : (s.setSeqr n q).sems = s.sems := rfl
@[simp] theorem State.setSeqr_remoteWaits : (s.setSeqr n q).remoteWaits = s.remoteWaits := rfl
@[simp] theorem State.setSeqr_remoteOps : (s.setSeqr n q).remoteOps = s.remoteOps := rfl
@[simp] theorem State.setSeqr_remoteAcqs : (s.setSeqr n q).remoteAcqs = s.remoteAcqs := rfl
@[simp] theorem State.setSeqr_remoteHolds : (s.setSeqr n q).remoteHolds = s.remoteHolds := rfl
@[simp] theorem State.setSeqr_fnRecs : (s.setSeqr n q).fnRecs = s.fnRecs := rfl
@[simp] theorem State.setSeqr_ctxs : (s.setSeqr n q).ctxs = s.ctxs := rfl
@[simp] theorem State.setSeqr_cyc : (s.setSeqr n q).cyc = s.cyc := rfl
@[simp] theorem State.setSeqr_wd : (s.setSeqr n q).wd = s.wd := rfl
@[simp] theorem State.setSeqr_td : (s.setSeqr n q).td = s.td := rfl
@[simp] theorem State.setSeqr_preq : (s.setSeqr n q).preq = s.preq := rfl
@[simp] theorem State.setSeqr_removals : (s.setSeqr n q).removals = s.removals := rfl
@[simp] theorem State.setSeqr_dins : (s.setSeqr n q).dins = s.dins := rfl
@[simp] theorem State.setSeqr_regrow : (s.setSeqr n q).regrow = s.regrow := rfl
@[simp] theorem State.setSeqr_gov : (s.setSeqr n q).gov = s.gov := rfl
@[simp] theorem State.setSeqr_sec : (s.setSeqr n q).sec = s.sec := rfl
@[simp] theorem State.setSeqr_tml : (s.setSeqr n q).tml = s.tml := rfl
@[simp] theorem State.setSeqr_obs : (s.setSeqr n q).obs = s.obs := rfl
@[simp] theorem State.setSeqr_start : (s.setSeqr n q).start = s.start := rfl
@[simp] theorem State.setSeqr_reg (r0 : Reg) (i0 j0 : Nat) : (s.setSeqr n q).reg r0 i0 j0 = s.reg r0 i0 j0 := rfl
@[simp] theorem State.setSeqr_rf (r0 : Reg) (i0 j0 l0 w0 : Nat) : (s.setSeqr n q).rf r0 i0 j0 l0 w0 = s.rf r0 i0 j0 l0 w0 := rfl
@[simp] theorem State.setSeqr_rb (r0 : Reg) (i0 j0 b0 : Nat) : (s.setSeqr n q).rb r0 i0 j0 b0 = s.rb r0 i0 j0 b0 := rfl

end

section
variable (a : RstAct)

@[simp] theorem State.setRstact_pending : (s.setRstact a).pending = s.pending := rfl
@[simp] theorem State.setRstact_now : (s.setRstact a).now = s.now := rfl
@[simp] theorem State.setRstact_ref : (s.setRstact a).ref = s.ref := rfl
@[simp] theorem State.setRstact_regs : (s.setRstact a).regs = s.regs := rfl
@[simp] theorem State.setRstact_irq : (s.setRstact a).irq = s.irq := rfl
@[simp] theorem State.setRstact_out : (s.setRstact a).out = s.out := rfl
@[simp] theorem State.setRstact_reads : (s.setRstact a).reads = s.reads := rfl
@[simp] theorem State.setRstact_faulting : (s.setRstact a).faulting = s.faulting := rfl
@[simp] theorem State.setRstact_fresh : (s.setRstact a).fresh = s.fresh := rfl
@[simp] theorem State.setRstact_sqs : (s.setRstact a).sqs = s.sqs := rfl
@[simp] theorem State.setRstact_crs : (s.setRstact a).crs = s.crs := rfl
@[simp] theorem State.setRstact_adm : (s.setRstact a).adm = s.adm := rfl
@[simp] theorem State.setRstact_admHeld : (s.setRstact a).admHeld = s.admHeld := rfl
@[simp] theorem State.setRstact_scan : (s.setRstact a).scan = s.scan := rfl
@[simp] theorem State.setRstact_flights : (s.setRstact a).flights = s.flights := rfl
@[simp] theorem State.setRstact_tasks : (s.setRstact a).tasks = s.tasks := rfl
@[simp] theorem State.setRstact_nextTask : (s.setRstact a).nextTask = s.nextTask := rfl
@[simp] theorem State.setRstact_hints : (s.setRstact a).hints = s.hints := rfl
@[simp] theorem State.setRstact_mqSlots : (s.setRstact a).mqSlots = s.mqSlots := rfl
@[simp] theorem State.setRstact_mqJobs : (s.setRstact a).mqJobs = s.mqJobs := rfl
@[simp] theorem State.setRstact_due : (s.setRstact a).due = s.due := rfl
@[simp] theorem State.setRstact_lanes : (s.setRstact a).lanes = s.lanes := rfl
@[simp] theorem State.setRstact_launches : (s.setRstact a).launches = s.launches := rfl
@[simp] theorem State.setRstact_cores : (s.setRstact a).cores = s.cores := rfl
@[simp] theorem State.setRstact_engs : (s.setRstact a).engs = s.engs := rfl
@[simp] theorem State.setRstact_trims : (s.setRstact a).trims = s.trims := rfl
@[simp] theorem State.setRstact_events : (s.setRstact a).events = s.events := rfl
@[simp] theorem State.setRstact_sems : (s.setRstact a).sems = s.sems := rfl
@[simp] theorem State.setRstact_remoteWaits : (s.setRstact a).remoteWaits = s.remoteWaits := rfl
@[simp] theorem State.setRstact_remoteOps : (s.setRstact a).remoteOps = s.remoteOps := rfl
@[simp] theorem State.setRstact_remoteAcqs : (s.setRstact a).remoteAcqs = s.remoteAcqs := rfl
@[simp] theorem State.setRstact_remoteHolds : (s.setRstact a).remoteHolds = s.remoteHolds := rfl
@[simp] theorem State.setRstact_fnRecs : (s.setRstact a).fnRecs = s.fnRecs := rfl
@[simp] theorem State.setRstact_ctxs : (s.setRstact a).ctxs = s.ctxs := rfl
@[simp] theorem State.setRstact_cyc : (s.setRstact a).cyc = s.cyc := rfl
@[simp] theorem State.setRstact_wd : (s.setRstact a).wd = s.wd := rfl
@[simp] theorem State.setRstact_td : (s.setRstact a).td = s.td := rfl
@[simp] theorem State.setRstact_preq : (s.setRstact a).preq = s.preq := rfl
@[simp] theorem State.setRstact_removals : (s.setRstact a).removals = s.removals := rfl
@[simp] theorem State.setRstact_dins : (s.setRstact a).dins = s.dins := rfl
@[simp] theorem State.setRstact_regrow : (s.setRstact a).regrow = s.regrow := rfl
@[simp] theorem State.setRstact_gov : (s.setRstact a).gov = s.gov := rfl
@[simp] theorem State.setRstact_sec : (s.setRstact a).sec = s.sec := rfl
@[simp] theorem State.setRstact_tml : (s.setRstact a).tml = s.tml := rfl
@[simp] theorem State.setRstact_obs : (s.setRstact a).obs = s.obs := rfl
@[simp] theorem State.setRstact_mcs : (s.setRstact a).mcs = s.mcs := rfl
@[simp] theorem State.setRstact_reg (r0 : Reg) (i0 j0 : Nat) : (s.setRstact a).reg r0 i0 j0 = s.reg r0 i0 j0 := rfl
@[simp] theorem State.setRstact_rf (r0 : Reg) (i0 j0 l0 w0 : Nat) : (s.setRstact a).rf r0 i0 j0 l0 w0 = s.rf r0 i0 j0 l0 w0 := rfl
@[simp] theorem State.setRstact_rb (r0 : Reg) (i0 j0 b0 : Nat) : (s.setRstact a).rb r0 i0 j0 b0 = s.rb r0 i0 j0 b0 := rfl

end

/-- State `u` is `s` but for its registers, its contexts and how many free values have been used. -/
def State.Counted (s u : State) : Prop := ∃ t n c, u = { s with regs := t, fresh := n, ctxs := c }

theorem State.Counted.refl (s : State) : s.Counted s := ⟨s.regs, s.fresh, s.ctxs, rfl⟩

theorem State.Counted.trans {s u v : State} (a : s.Counted u) (b : u.Counted v) : s.Counted v := by
  obtain ⟨_, _, _, rfl⟩ := a
  obtain ⟨t, n, c, rfl⟩ := b
  exact ⟨t, n, c, rfl⟩

theorem State.Counted.foldl {α : Type} {f : State → α → State} (hf : ∀ (u : State) x, u.Counted (f u x)) (l : List α) (s : State) :
    s.Counted (l.foldl f s) := by
  induction l generalizing s with
  | nil => exact .refl s
  | cons x l ih => exact (hf s x).trans (ih (f s x))

theorem State.count_counted (i k : Nat) (x : Who3) : s.Counted (s.count i k x) := by
  unfold State.count
  split
  · exact .refl s
  · exact .trans (u := s.cntAdd1 i k) ⟨_, _, _, rfl⟩ (.foldl (fun _ _ => ⟨_, _, _, rfl⟩) _ _)

theorem State.ctxCount_counted (c k n : Nat) : s.Counted (s.ctxCount c k n) := by
  unfold State.ctxCount
  split
  · exact .refl s
  · exact ⟨_, _, _, rfl⟩

theorem State.tileTraffic_counted (p : Nat) (t : Task) : s.Counted (s.tileTraffic p t) :=
  .trans (u := { s with fresh := s.fresh + 2 }) ⟨_, _, _, rfl⟩
    ((State.count_counted _ _ _ _).trans ((State.count_counted _ _ _ _).trans (State.ctxCount_counted _ _ _ _)))

theorem State.cacheTraffic_counted (t : Task) : s.Counted (s.cacheTraffic t) :=
  .trans (u := { s with fresh := s.fresh + 5 }) ⟨_, _, _, rfl⟩
    ((State.Counted.foldl (fun _ _ => State.count_counted _ _ _ _) _ _).trans
      ((State.ctxCount_counted _ _ _ _).trans ((State.ctxCount_counted _ _ _ _).trans
        ((State.ctxCount_counted _ _ _ _).trans (State.count_counted _ _ _ _)))))

/-- What runs meanwhile counts, and nothing else of it shows. -/
theorem State.coreTime_counted (n : Nat) : s.Counted (s.coreTime n) := by
  have h1 : ∀ (u : State) (c : Core × Nat), u.Counted (match c.1.run.bind (fun r => Tab.get? u.tasks r.task) with
      | none => u
      | some t => ((u.count (320 + c.2) n t.who).tileTraffic c.2 t).cacheTraffic t) := by
    intro u c
    split
    · exact .refl u
    · exact (u.count_counted _ _ _).trans ((State.tileTraffic_counted _ _ _).trans (State.cacheTraffic_counted _ _))
  have h2 : ∀ (u : State) (k : Nat), u.Counted (match Tab.get? u.tasks k with | some t => u.cacheTraffic t | none => u) := by
    intro u k
    split
    · exact u.cacheTraffic_counted _
    · exact .refl u
  exact (State.Counted.foldl h1 _ _).trans (.foldl h2 _ _)

theorem State.serveSources_counted : s.Counted s.serveSources := by
  refine .foldl (fun u k => ?_) _ _
  dsimp only
  split
  · exact .refl u
  · exact ⟨_, _, _, rfl⟩

/-- What the passing of time changes (R13): the two clocks, registers, contexts, free values, the watchdogs, and the slewing of the fabric
time. -/
theorem State.at_eq (t : Nat) :
    ∃ n r g w m k c, s.at t = { s with now := n, ref := r, regs := g, wd := w, tml := m, fresh := k, ctxs := c } := by
  have hw (u : State) (b : Bool) : u.Counted (u.when b State.serveSources) := by
    cases b
    · exact .refl u
    · exact u.serveSources_counted
  simp only [State.at]
  split
  · exact ⟨s.now, s.ref, s.regs, s.wd, s.tml, s.fresh, s.ctxs, rfl⟩
  · have h (b : Bool) := (State.coreTime_counted (s.setReg .GOV_RUNG_RES s.gov.rung 0 (s.reg .GOV_RUNG_RES s.gov.rung 0
      + BitVec.ofNat 64 ((t - s.now : Nat) - slewed s.toSlew (s.tml.slewNs + (t - s.now))).toNat))
      ((t - s.now : Nat) - slewed s.toSlew (s.tml.slewNs + (t - s.now))).toNat).trans (hw _ b)
    obtain ⟨g, k, c, h⟩ := h _
    rw [h]
    exact ⟨_, _, _, _, _, _, _, rfl⟩

@[simp] theorem State.at_pending (t : Nat) : (s.at t).pending = s.pending := by obtain ⟨_, _, _, _, _, _, _, h⟩ := s.at_eq t; rw [h]
@[simp] theorem State.at_irq (t : Nat) : (s.at t).irq = s.irq := by obtain ⟨_, _, _, _, _, _, _, h⟩ := s.at_eq t; rw [h]
@[simp] theorem State.at_out (t : Nat) : (s.at t).out = s.out := by obtain ⟨_, _, _, _, _, _, _, h⟩ := s.at_eq t; rw [h]
@[simp] theorem State.at_reads (t : Nat) : (s.at t).reads = s.reads := by obtain ⟨_, _, _, _, _, _, _, h⟩ := s.at_eq t; rw [h]
@[simp] theorem State.at_faulting (t : Nat) : (s.at t).faulting = s.faulting := by obtain ⟨_, _, _, _, _, _, _, h⟩ := s.at_eq t; rw [h]
@[simp] theorem State.at_sqs (t : Nat) : (s.at t).sqs = s.sqs := by obtain ⟨_, _, _, _, _, _, _, h⟩ := s.at_eq t; rw [h]
@[simp] theorem State.at_crs (t : Nat) : (s.at t).crs = s.crs := by obtain ⟨_, _, _, _, _, _, _, h⟩ := s.at_eq t; rw [h]
@[simp] theorem State.at_adm (t : Nat) : (s.at t).adm = s.adm := by obtain ⟨_, _, _, _, _, _, _, h⟩ := s.at_eq t; rw [h]
@[simp] theorem State.at_admHeld (t : Nat) : (s.at t).admHeld = s.admHeld := by obtain ⟨_, _, _, _, _, _, _, h⟩ := s.at_eq t; rw [h]
@[simp] theorem State.at_scan (t : Nat) : (s.at t).scan = s.scan := by obtain ⟨_, _, _, _, _, _, _, h⟩ := s.at_eq t; rw [h]
@[simp] theorem State.at_flights (t : Nat) : (s.at t).flights = s.flights := by obtain ⟨_, _, _, _, _, _, _, h⟩ := s.at_eq t; rw [h]
@[simp] theorem State.at_tasks (t : Nat) : (s.at t).tasks = s.tasks := by obtain ⟨_, _, _, _, _, _, _, h⟩ := s.at_eq t; rw [h]
@[simp] theorem State.at_nextTask (t : Nat) : (s.at t).nextTask = s.nextTask := by obtain ⟨_, _, _, _, _, _, _, h⟩ := s.at_eq t; rw [h]
@[simp] theorem State.at_hints (t : Nat) : (s.at t).hints = s.hints := by obtain ⟨_, _, _, _, _, _, _, h⟩ := s.at_eq t; rw [h]
@[simp] theorem State.at_mqSlots (t : Nat) : (s.at t).mqSlots = s.mqSlots := by obtain ⟨_, _, _, _, _, _, _, h⟩ := s.at_eq t; rw [h]
@[simp] theorem State.at_mqJobs (t : Nat) : (s.at t).mqJobs = s.mqJobs := by obtain ⟨_, _, _, _, _, _, _, h⟩ := s.at_eq t; rw [h]
@[simp] theorem State.at_due (t : Nat) : (s.at t).due = s.due := by obtain ⟨_, _, _, _, _, _, _, h⟩ := s.at_eq t; rw [h]
@[simp] theorem State.at_lanes (t : Nat) : (s.at t).lanes = s.lanes := by obtain ⟨_, _, _, _, _, _, _, h⟩ := s.at_eq t; rw [h]
@[simp] theorem State.at_launches (t : Nat) : (s.at t).launches = s.launches := by obtain ⟨_, _, _, _, _, _, _, h⟩ := s.at_eq t; rw [h]
@[simp] theorem State.at_cores (t : Nat) : (s.at t).cores = s.cores := by obtain ⟨_, _, _, _, _, _, _, h⟩ := s.at_eq t; rw [h]
@[simp] theorem State.at_engs (t : Nat) : (s.at t).engs = s.engs := by obtain ⟨_, _, _, _, _, _, _, h⟩ := s.at_eq t; rw [h]
@[simp] theorem State.at_trims (t : Nat) : (s.at t).trims = s.trims := by obtain ⟨_, _, _, _, _, _, _, h⟩ := s.at_eq t; rw [h]
@[simp] theorem State.at_events (t : Nat) : (s.at t).events = s.events := by obtain ⟨_, _, _, _, _, _, _, h⟩ := s.at_eq t; rw [h]
@[simp] theorem State.at_sems (t : Nat) : (s.at t).sems = s.sems := by obtain ⟨_, _, _, _, _, _, _, h⟩ := s.at_eq t; rw [h]
@[simp] theorem State.at_remoteWaits (t : Nat) : (s.at t).remoteWaits = s.remoteWaits := by obtain ⟨_, _, _, _, _, _, _, h⟩ := s.at_eq t; rw [h]
@[simp] theorem State.at_remoteOps (t : Nat) : (s.at t).remoteOps = s.remoteOps := by obtain ⟨_, _, _, _, _, _, _, h⟩ := s.at_eq t; rw [h]
@[simp] theorem State.at_remoteAcqs (t : Nat) : (s.at t).remoteAcqs = s.remoteAcqs := by obtain ⟨_, _, _, _, _, _, _, h⟩ := s.at_eq t; rw [h]
@[simp] theorem State.at_remoteHolds (t : Nat) : (s.at t).remoteHolds = s.remoteHolds := by obtain ⟨_, _, _, _, _, _, _, h⟩ := s.at_eq t; rw [h]
@[simp] theorem State.at_fnRecs (t : Nat) : (s.at t).fnRecs = s.fnRecs := by obtain ⟨_, _, _, _, _, _, _, h⟩ := s.at_eq t; rw [h]
@[simp] theorem State.at_cyc (t : Nat) : (s.at t).cyc = s.cyc := by obtain ⟨_, _, _, _, _, _, _, h⟩ := s.at_eq t; rw [h]
@[simp] theorem State.at_td (t : Nat) : (s.at t).td = s.td := by obtain ⟨_, _, _, _, _, _, _, h⟩ := s.at_eq t; rw [h]
@[simp] theorem State.at_preq (t : Nat) : (s.at t).preq = s.preq := by obtain ⟨_, _, _, _, _, _, _, h⟩ := s.at_eq t; rw [h]
@[simp] theorem State.at_removals (t : Nat) : (s.at t).removals = s.removals := by obtain ⟨_, _, _, _, _, _, _, h⟩ := s.at_eq t; rw [h]
@[simp] theorem State.at_dins (t : Nat) : (s.at t).dins = s.dins := by obtain ⟨_, _, _, _, _, _, _, h⟩ := s.at_eq t; rw [h]
@[simp] theorem State.at_regrow (t : Nat) : (s.at t).regrow = s.regrow := by obtain ⟨_, _, _, _, _, _, _, h⟩ := s.at_eq t; rw [h]
@[simp] theorem State.at_gov (t : Nat) : (s.at t).gov = s.gov := by obtain ⟨_, _, _, _, _, _, _, h⟩ := s.at_eq t; rw [h]
@[simp] theorem State.at_sec (t : Nat) : (s.at t).sec = s.sec := by obtain ⟨_, _, _, _, _, _, _, h⟩ := s.at_eq t; rw [h]
@[simp] theorem State.at_obs (t : Nat) : (s.at t).obs = s.obs := by obtain ⟨_, _, _, _, _, _, _, h⟩ := s.at_eq t; rw [h]
@[simp] theorem State.at_mcs (t : Nat) : (s.at t).mcs = s.mcs := by obtain ⟨_, _, _, _, _, _, _, h⟩ := s.at_eq t; rw [h]
@[simp] theorem State.at_start (t : Nat) : (s.at t).start = s.start := by obtain ⟨_, _, _, _, _, _, _, h⟩ := s.at_eq t; rw [h]

@[simp] theorem State.emit_out (e : Emit) : (s.emit e).out = s.out ++ [e] := rfl
@[simp] theorem State.emits_out (es : List Emit) : (s.emits es).out = s.out ++ es := rfl
@[simp] theorem State.setGov_gov (g : Gov → Gov) : (s.setGov g).gov = g s.gov := rfl
@[simp] theorem State.setSec_sec (g : Sec → Sec) : (s.setSec g).sec = g s.sec := rfl
@[simp] theorem State.setCyc_cyc (g : Cyc → Cyc) : (s.setCyc g).cyc = g s.cyc := rfl
@[simp] theorem State.setTml_tml (g : Tml → Tml) : (s.setTml g).tml = g s.tml := rfl
@[simp] theorem State.when_true (f : State → State) : s.when true f = f s := rfl
@[simp] theorem State.when_false (f : State → State) : s.when false f = s := rfl

end Sys2Proof.Machine
end

