-- ==== Sys2Proof/Laws/Tables.lean ====
section
/-! SUPPORT. The laws of tables: a read after a write, and the canonical form (keys strictly rising) that every operation keeps. -/

namespace Sys2Proof

variable {α : Type}

/-- The canonical form of a table: its keys rise strictly. -/
def Tab.Canonical (t : Tab α) : Prop := (t.map Prod.fst).Pairwise (· < ·)

@[simp] theorem Tab.get?_set_same (t : Tab α) (k : Nat) (a : α) : Tab.get? (Tab.set t k a) k = some a := by
  induction t with
  | nil => simp [Tab.set, Tab.get?]
  | cons e r ih =>
    obtain ⟨j, b⟩ := e
    simp only [Tab.set]
    split
    · simp [Tab.get?]
    · split <;> simp_all [Tab.get?]

theorem Tab.get?_set_ne (t : Tab α) {k j : Nat} (a : α) (h : j ≠ k) : Tab.get? (Tab.set t k a) j = Tab.get? t j := by
  induction t with
  | nil => simp [Tab.set, Tab.get?, h.symm]
  | cons e r ih =>
    obtain ⟨i, b⟩ := e
    simp only [Tab.set]
    split
    · next hi => subst hi; simp [Tab.get?, h.symm]
    · split
      · simp [Tab.get?, h.symm]
      · simp [Tab.get?, ih]

theorem Tab.get?_erase_same (t : Tab α) (k : Nat) : Tab.get? (Tab.erase t k) k = none := by
  induction t with
  | nil => simp [Tab.erase, Tab.get?]
  | cons e r ih =>
    obtain ⟨i, b⟩ := e
    simp only [Tab.erase, List.filter_cons] at ih ⊢
    split
    · next h => simp only [decide_eq_true_eq] at h; simpa only [Tab.get?, if_neg h] using ih
    · exact ih

theorem Tab.get?_erase_ne (t : Tab α) {k j : Nat} (h : j ≠ k) : Tab.get? (Tab.erase t k) j = Tab.get? t j := by
  induction t with
  | nil => simp [Tab.erase, Tab.get?]
  | cons e r ih =>
    obtain ⟨i, b⟩ := e
    simp only [Tab.erase, List.filter_cons] at ih ⊢
    split
    · simp only [Tab.get?, ih]
    · next hi => simp at hi; subst hi; simp only [Tab.get?, if_neg h.symm, ih]

/-- Every key of a table with `k` added is `k` or a key it had. -/
theorem Tab.mem_keys_set {t : Tab α} {k j : Nat} {a : α} (h : j ∈ (Tab.set t k a).map Prod.fst) : j = k ∨ j ∈ t.map Prod.fst := by
  induction t with
  | nil => simpa [Tab.set] using h
  | cons e r ih =>
    obtain ⟨i, b⟩ := e
    simp only [Tab.set] at h
    split at h
    · next hi => simp at h ⊢; grind
    · split at h
      · simp at h ⊢; grind
      · simp only [List.map_cons, List.mem_cons] at h ⊢; grind

/-- A write keeps the canonical form. -/
theorem Tab.canonical_set {t : Tab α} (k : Nat) (a : α) (h : Tab.Canonical t) : Tab.Canonical (Tab.set t k a) := by
  induction t with
  | nil => simp [Tab.set, Tab.Canonical]
  | cons e r ih =>
    obtain ⟨i, b⟩ := e
    simp only [Tab.Canonical, List.map_cons, List.pairwise_cons] at h ih
    simp only [Tab.set]
    split
    · next hi => subst hi; simpa [Tab.Canonical] using h
    · split
      · next hi hk =>
        simp only [Tab.Canonical, List.map_cons, List.pairwise_cons, List.mem_cons]
        refine ⟨fun j hj => ?_, h⟩
        rcases hj with rfl | hj
        · exact hk
        · exact Nat.lt_trans hk (h.1 j hj)
      · next hi hk =>
        simp only [Tab.Canonical, List.map_cons, List.pairwise_cons]
        refine ⟨fun j hj => ?_, ih h.2⟩
        rcases Tab.mem_keys_set hj with rfl | hj
        · omega
        · exact h.1 j hj

theorem Tab.canonical_filter {t : Tab α} (p : Nat × α → Bool) (h : Tab.Canonical t) : Tab.Canonical (t.filter p) :=
  List.Pairwise.sublist (List.Sublist.map _ List.filter_sublist) h

/-- An erasure keeps the canonical form. -/
theorem Tab.canonical_erase {t : Tab α} (k : Nat) (h : Tab.Canonical t) : Tab.Canonical (Tab.erase t k) :=
  Tab.canonical_filter _ h

/-- A change of an entry keeps the canonical form. -/
theorem Tab.canonical_upd {t : Tab α} (k : Nat) (f : α → α) (h : Tab.Canonical t) : Tab.Canonical (Tab.upd t k f) := by
  have : (Tab.upd t k f).map Prod.fst = t.map Prod.fst := by
    simp only [Tab.upd, List.map_map]
    congr 1
    funext e
    simp only [Function.comp_apply]
    split <;> rfl
  simpa only [Tab.Canonical, this] using h

theorem Tab.canonical_mapV {t : Tab α} (f : α → α) (h : Tab.Canonical t) : Tab.Canonical (Tab.mapV t f) := by
  have : (Tab.mapV t f).map Prod.fst = t.map Prod.fst := by simp [Tab.mapV, Function.comp_def]
  simpa only [Tab.Canonical, this] using h

/-! ## Fields of words -/

/-- Bit `i` of a field. -/
theorem testBit_fld (v : Word) (lo w i : Nat) : (fld v lo w).testBit i = (decide (i < w) && v.getLsbD (lo + i)) := by
  simp [fld, Nat.testBit_mod_two_pow, Nat.testBit_shiftRight, BitVec.testBit_toNat]

/-- A field that is a single bit. -/
theorem fld_one (v : Word) (i : Nat) : fld v i 1 = b2n (bitOf v i) := by
  simp only [fld, b2n, bitOf, ← BitVec.testBit_toNat, Nat.testBit, Nat.one_and_eq_mod_two, Nat.pow_one]
  rcases Nat.mod_two_eq_zero_or_one (v.toNat >>> i) with h | h <;> simp [h]

end Sys2Proof
end

