-- ==== Sys2Proof/Laws/Regs.lean ====
section
/-! SUPPORT. A register read after a write: of the same register, of another, and of the fields of one word. -/

namespace Sys2Proof.Machine

variable (s : State)

@[simp] theorem State.reg_setReg_same (r : Reg) (i j : Nat) (v : Word) : (s.setReg r i j v).reg r i j = v := by
  simp [State.reg, State.setReg]

theorem State.reg_setReg_ne {r q : Reg} {i j k l : Nat} (v : Word) (h : q.key k l ≠ r.key i j) :
    (s.setReg r i j v).reg q k l = s.reg q k l := by
  simp [State.reg, State.setReg, Tab.get?_set_ne _ _ h]

theorem State.reg_setF_ne {r q : Reg} {i j k l lo w x : Nat} (h : q.key k l ≠ r.key i j) :
    (s.setF r i j lo w x).reg q k l = s.reg q k l :=
  State.reg_setReg_ne s _ h

theorem State.reg_setB_ne {r q : Reg} {i j k l b : Nat} {v : Bool} (h : q.key k l ≠ r.key i j) :
    (s.setB r i j b v).reg q k l = s.reg q k l :=
  State.reg_setReg_ne s _ h

section
variable {s}
variable {r q : Reg} {i j k l : Nat} (h : q.key k l ≠ r.key i j)
include h

theorem State.rb_setReg_other {v : Word} {c : Nat} : (s.setReg r i j v).rb q k l c = s.rb q k l c := by
  simp only [State.rb, State.reg_setReg_ne s v h]

theorem State.rb_setF_other {lo w x c : Nat} : (s.setF r i j lo w x).rb q k l c = s.rb q k l c := by
  simp only [State.rb, State.reg_setF_ne s h]

theorem State.rb_setB_other {b c : Nat} {v : Bool} : (s.setB r i j b v).rb q k l c = s.rb q k l c := by
  simp only [State.rb, State.reg_setB_ne s h]

theorem State.rf_setReg_other {v : Word} {a m : Nat} : (s.setReg r i j v).rf q k l a m = s.rf q k l a m := by
  simp only [State.rf, State.reg_setReg_ne s v h]

theorem State.rf_setF_other {lo w x a m : Nat} : (s.setF r i j lo w x).rf q k l a m = s.rf q k l a m := by
  simp only [State.rf, State.reg_setF_ne s h]

theorem State.rf_setB_other {b a m : Nat} {v : Bool} : (s.setB r i j b v).rf q k l a m = s.rf q k l a m := by
  simp only [State.rf, State.reg_setB_ne s h]

end

/-- A bit of a word whose field [lo+w-1:lo] is replaced. -/
theorem getLsbD_putFld (v : Word) {lo w : Nat} (x b : Nat) (hw : lo + w ≤ 64) :
    (putFld v lo w x).getLsbD b = if lo ≤ b ∧ b < lo + w then x.testBit (b - lo) else v.getLsbD b := by
  by_cases hb : b < 64
  · simp only [putFld, BitVec.getLsbD_or, BitVec.getLsbD_and, BitVec.getLsbD_not, BitVec.getLsbD_ofNat, hb, decide_true,
      Bool.true_and, Nat.testBit_shiftLeft, Nat.testBit_two_pow_sub_one, Nat.testBit_mod_two_pow]
    by_cases h1 : lo ≤ b
    · by_cases h2 : b < lo + w
      · have : b - lo < w := by omega
        simp [h1, h2, this]
      · have : ¬ b - lo < w := by omega
        simp [h1, h2, this]
    · simp [h1]
  · have h2 : ¬ (lo ≤ b ∧ b < lo + w) := by omega
    rw [if_neg h2, BitVec.getLsbD_of_ge _ _ (by omega), BitVec.getLsbD_of_ge _ _ (by omega)]

/-- A field read after it is replaced. -/
theorem fld_putFld_same (v : Word) {lo w : Nat} (x : Nat) (hw : lo + w ≤ 64) : fld (putFld v lo w x) lo w = x % 2 ^ w := by
  apply Nat.eq_of_testBit_eq
  intro i
  rw [testBit_fld, Nat.testBit_mod_two_pow, getLsbD_putFld v x _ hw]
  by_cases h : i < w
  · simp [h]
  · simp [h]

/-- Another field read after one is replaced. -/
theorem fld_putFld_ne (v : Word) {lo w l m : Nat} (x : Nat) (hw : lo + w ≤ 64) (h : l + m ≤ lo ∨ lo + w ≤ l) :
    fld (putFld v lo w x) l m = fld v l m := by
  apply Nat.eq_of_testBit_eq
  intro i
  rw [testBit_fld, testBit_fld, getLsbD_putFld v x _ hw]
  by_cases hi : i < m
  · rw [if_neg (by omega)]
  · simp [hi]

theorem bitOf_putFld_ne (v : Word) {lo w b : Nat} (x : Nat) (hw : lo + w ≤ 64) (h : b < lo ∨ lo + w ≤ b) :
    bitOf (putFld v lo w x) b = bitOf v b := by
  rw [bitOf, getLsbD_putFld v x _ hw, if_neg (by omega), bitOf]

theorem State.rf_setF_same (r : Reg) (i j x : Nat) {lo w : Nat} (hw : lo + w ≤ 64) :
    (s.setF r i j lo w x).rf r i j lo w = x % 2 ^ w := by
  simp [State.rf, State.setF, fld_putFld_same _ _ hw]

theorem State.rf_setF_ne (r : Reg) (i j x : Nat) {lo w l m : Nat} (hw : lo + w ≤ 64) (h : l + m ≤ lo ∨ lo + w ≤ l) :
    (s.setF r i j lo w x).rf r i j l m = s.rf r i j l m := by
  simp [State.rf, State.setF, fld_putFld_ne _ _ hw h]

theorem State.rb_setB_same (r : Reg) (i j : Nat) (v : Bool) {b : Nat} (hb : b < 64) : (s.setB r i j b v).rb r i j b = v := by
  simp only [State.rb, State.setB, State.setF, State.reg_setReg_same, bitOf, getLsbD_putFld _ _ _ (show b + 1 ≤ 64 by omega)]
  cases v <;> simp [b2n]

theorem State.rb_setB_ne (r : Reg) (i j : Nat) (v : Bool) {b c : Nat} (hb : b < 64) (h : c ≠ b) :
    (s.setB r i j b v).rb r i j c = s.rb r i j c := by
  simp only [State.rb, State.setB, State.setF, State.reg_setReg_same]
  exact bitOf_putFld_ne _ _ (by omega) (by omega)

theorem State.rb_setF_ne (r : Reg) (i j x : Nat) {lo w c : Nat} (hw : lo + w ≤ 64) (h : c < lo ∨ lo + w ≤ c) :
    (s.setF r i j lo w x).rb r i j c = s.rb r i j c := by
  simp only [State.rb, State.setF, State.reg_setReg_same]
  exact bitOf_putFld_ne _ _ hw h

theorem State.rf_setB_ne (r : Reg) (i j : Nat) (v : Bool) {b l m : Nat} (hb : b < 64) (h : l + m ≤ b ∨ b + 1 ≤ l) :
    (s.setB r i j b v).rf r i j l m = s.rf r i j l m := by
  simp only [State.setB]
  exact State.rf_setF_ne s r i j _ (by omega) h

end Sys2Proof.Machine
end

