-- ==== Sys2Proof/WellFormed.lean ====
section
/-! DEFINITION. Well-formed commands: those whose operands lie in the ranges that the spec gives them (Tables 00-1, 00-3, 00-4 and
the tables of the rows). Values that a check of Voxbin itself judges (an address, a length, a digest, a data word) are not
restricted here. -/

namespace Sys2Proof

/-- A function (Table 00-3). -/
def fnOk (n : Nat) : Bool := decide (n < 64)

/-- A register access comes from a function or the management port. -/
def whoOk (w : Who) : Bool := match w with | .fn n => fnOk n | .mgmt => true

/-- A window (R464). -/
def winOk (w : Window) : Bool := match w with | .own n => fnOk n | .glob => true

/-- An SPDM peer. -/
def peerOk (p : SpdmPeer) : Bool := match p with | .host n => fnOk n | .mgmt => true

/-- The number of engines of a class (Table 00-1, Table 07-4). -/
def clsSize (c : Cls) : Nat :=
  match c with
  | .cores => 48 | .tiler => 2 | .dma => 4 | .comp => 1 | .link => 4 | .gate => 1

/-- A physical engine. -/
def pengOk (c : Cls) (p : Nat) : Bool := decide (p < clsSize c)

/-- An entry of Voxbin's tables. -/
def tabErrOk (e : TabErr) : Bool :=
  match e with
  | .fn n => fnOk n
  | .ctx n c => fnOk n && decide (c < 1024)
  | .flight f => decide (f < 8192)
  | .event i => decide (i < 65536)
  | .sem i => decide (i < 4096)
  | .free => true

/-- What a read served. -/
def tagOk (r : ReadTag) : Bool :=
  match r with
  | .engine c p k => pengOk c p && decide (k < 65536)
  | .entryFetch q => decide (q < 4096)
  | .adminFetch => true
  | .buffer f _ => decide (f < 8192)
  | .taskState f => decide (f < 8192)
  | .hint f => decide (f < 8192)
  | .cmdData f => decide (f < 8192)
  | .watch f => decide (f < 8192)
  | .mbox n => fnOk n
  | .segment x i => decide (x < 65536 ∧ i < 2 ^ 28)
  | .response n x i => decide (n < 16 ∧ x < 65536 ∧ i < 2 ^ 28)
  | .launchArea => true
  | .graphBuffer => true
  | .brumation es => es.all tabErrOk
  | .tdWrite q _ => decide (q < 4096 + 64)

/-- What a channel answers to a read: whole qwords, and as many lines as hold them. -/
def memOk (m : MemResult) : Bool :=
  match m with
  | .lines p o n ls => decide (p ≤ 8 ∧ o % 8 = 0 ∧ n % 8 = 0 ∧ ls.length = (o % 64 + n + 63) / 64)
      && ls.all (fun l => l.text.length == 4 && l.nodes.all (fun x => x.ctrs.length == 8))
  | .errorFlag => true

/-- What a write acknowledgement covers. -/
def ackOk (w : WriteOf) : Bool := 
  match w with
  | .line _ p l d => decide (p ≤ 8 ∧ l < 2 ^ 42 ∧ d.length = 8)
  | .own => true
  | .wayClean => true
  | .response x => decide (x < 65536)
  | .inbound n x => decide (n < 16 ∧ x < 65536)
  | .hostTarget n => fnOk n

/-- A consumer index (R69). -/
def ciOk (g : CiTarget) : Bool :=
  match g with
  | .cr n k => fnOk n && decide (k < 2048)
  | .admin n => fnOk n
  | .traceFn n => fnOk n
  | .traceRing r => decide (r < 9)

/-- A vendor-defined request. -/
def reqOk (q : MgmtReq) : Bool :=
  match q with
  | .regRead w _ _ => winOk w
  | .regWrite w _ _ _ => winOk w
  | .load _ => true

/-- The fields of a TRAIN frame (R359). -/
def trainOk (i : TrainInfo) : Bool := decide (i.node ≤ 16 ∧ i.port < 4 ∧ i.leadNode < 16 ∧ i.lanes ≤ 8)

/-- The fields of a segment descriptor (Table 11-4). -/
def segDescOk (d : SegDesc) : Bool :=
  decide (d.xfer < 2 ^ 16 ∧ d.seg < 2 ^ 28 ∧ d.ft < 16 ∧ d.ep < 2 ∧ d.iv < 2 ^ 64 ∧ d.frame < 8)

/-- The fields of a frame (Tables 11-2 to 11-4). -/
def frameOk (f : FrameIn) : Bool :=
  decide (f.dest < 16 ∧ f.src < 16 ∧ f.cls < 4 ∧ f.vc < 4 ∧ f.typ < 8 ∧ f.text.length ≤ 8 ∧ f.ctr < 2 ^ 64 ∧ f.ack < 2 ^ 16)
    && f.credit.all (fun c => decide (c < 16)) && f.seg.all segDescOk

/-- A command whose operands lie in their ranges. -/
def Instr.wf (i : Instr) : Bool :=
  match i with
  | .registerWrite _ who win _ _ _ => whoOk who && winOk win
  | .clockLost _ d => decide (1 ≤ d && d ≤ 18)
  | .hostLoss _ _ => true
  | .hostLinkReturn _ _ _ => true
  | .hostReadCompletion _ r _ => tagOk r
  | .completionTimeout _ r => tagOk r
  | .memoryWriteAck _ w => ackOk w
  | .memoryReadData _ r m => tagOk r && memOk m
  | .launchAck _ cls peng => pengOk cls peng
  | .ctlAck _ cls peng _ => pengOk cls peng
  | .engineDone _ cls peng tag status _ _ _ _ => pengOk cls peng && decide (tag < 65536) && decide (status < 256)
  | .i3cEntdaa _ addr => decide (addr < 128)
  | .i3cSetdasa _ static addr => decide (static < 128) && decide (addr < 128)
  | .i3cRstact _ _ => true
  | .i3cTargetReset _ => true
  | .mgmtVendorRequest _ req => reqOk req
  | .sagLineRise _ line => decide (line < 16)
  | .stretchRelease _ group => decide (group < 8)
  | .meterSample _ meter _ => decide (meter < 49)
  | .thermalEvaluation _ samples => decide (samples.length = 64)
  | .priceUpdate _ => true
  | .vfChangeComplete _ cluster => decide (cluster < 4)
  | .coldReset _ f _ _ modes _ => f.graded && modes.all (fun e => decide (e.1 ≤ 4 ∧ 1 ≤ e.2 ∧ e.2 < 256))
  | .plinthReadComplete _ _ _ => true
  | .warmReset _ _ => true
  | .hostReset _ => true
  | .debugPortReset _ => true
  | .dinEdge _ n _ => decide (n < 9)
  | .dinStuck _ n => decide (n < 9)
  | .dinPendClear _ who n => whoOk who && decide (n < 9)
  | .dinUnquench _ who n => whoOk who && decide (n < 9)
  | .extest _ => true
  | .sample _ => true
  | .preload _ => true
  | .idcode _ => true
  | .bypass _ code => decide (code < 256)
  | .vxbStop _ => true
  | .vxbScan _ => true
  | .sqDoorbell _ fn slot bytes _ => fnOk fn && decide (slot < 2048) && (bytes == 4 || bytes == 8)
  | .urgentDoorbell _ fn slot bytes _ => fnOk fn && decide (slot < 2048) && (bytes == 4 || bytes == 8)
  | .urgentVisit _ => true
  | .scheduledVisit _ => true
  | .shortSqVisit _ => true
  | .entryFetchData _ _ _ => true
  | .flightEntryGrant _ => true
  | .consumerIndexWrite _ who tgt _ => whoOk who && ciOk tgt
  | .adminDoorbell _ fn _ => fnOk fn
  | .adminResume _ fn _ => fnOk fn
  | .adminNop _ _ _ => true
  | .createSq _ _ _ => true
  | .destroySq _ _ => true
  | .createCr _ _ _ => true
  | .destroyCr _ _ _ => true
  | .createContext _ _ _ => true
  | .destroyContext _ _ _ => true
  | .setShare _ _ _ => true
  | .bindEvents _ _ _ => true
  | .unbindEvents _ _ _ => true
  | .query _ _ _ _ => true
  | .setCyclic _ _ _ _ => true
  | .resumeCr _ _ _ _ => true
  | .submissionRetire _ f _ => decide (f < 8192)
  | .nop _ f => decide (f < 8192)
  | .dispatch _ f _ => decide (f < 8192)
  | .bin _ f => decide (f < 8192)
  | .render _ f _ => decide (f < 8192)
  | .copy _ f => decide (f < 8192)
  | .fill _ f => decide (f < 8192)
  | .compose _ f => decide (f < 8192)
  | .loadWeights _ f => decide (f < 8192)
  | .linkPut _ f => decide (f < 8192)
  | .linkGet _ f => decide (f < 8192)
  | .record _ f => decide (f < 8192)
  | .wait _ f => decide (f < 8192)
  | .semAcquire _ f => decide (f < 8192)
  | .semRelease _ f => decide (f < 8192)
  | .fence _ f => decide (f < 8192)
  | .setScalar _ f _ => decide (f < 8192)
  | .addScalar _ f => decide (f < 8192)
  | .compare _ f => decide (f < 8192)
  | .skipIf _ f => decide (f < 8192)
  | .repeatCmd _ f => decide (f < 8192)
  | .endRepeat _ f => decide (f < 8192)
  | .call _ f => decide (f < 8192)
  | .setAreg _ f => decide (f < 8192)
  | .timestamp _ f _ => decide (f < 8192)
  | .watch _ f => decide (f < 8192)
  | .mark _ f => decide (f < 8192)
  | .preloadHint _ f => decide (f < 8192)
  | .layerChain _ f _ => decide (f < 8192)
  | .tileWalk _ f _ _ => decide (f < 8192)
  | .copy2d _ f => decide (f < 8192)
  | .copy3d _ f => decide (f < 8192)
  | .copyList _ f _ => decide (f < 8192)
  | .fill2d _ f => decide (f < 8192)
  | .waitAll _ f _ => decide (f < 8192)
  | .recordList _ f _ => decide (f < 8192)
  | .bandSplit _ f => decide (f < 8192)
  | .haloPut _ f => decide (f < 8192)
  | .frameIndex _ f _ => decide (f < 8192)
  | .bufferBlockRead _ f _ _ => decide (f < 8192)
  | .sequencerYield _ f => decide (f < 8192)
  | .waitTimeoutExpiry _ f => decide (f < 8192)
  | .watchResult _ f _ _ => decide (f < 8192)
  | .evFnRecordWrite _ fn _ => fnOk fn
  | .evFnValueRead _ fn _ => fnOk fn
  | .semCfgWrite _ who idx _ => whoOk who && decide (idx < 4096)
  | .proxyRetry _ _ => true
  | .sequencerPick _ n => decide (n < 8)
  | .enginePick _ cls peng => pengOk cls peng
  | .coresPick _ part => decide (part < 8)
  | .gatherTimeout _ _ => true
  | .launch _ => true
  | .remainderStreamEnd _ cluster => decide (cluster < 4)
  | .periodStart _ => true
  | .vsyncFreeRun _ => true
  | .slotPreload _ slot => decide (slot < 256)
  | .slotClockRaise _ slot => decide (slot < 256)
  | .slotStart _ slot => decide (slot < 256)
  | .slotDeadline _ _ => true
  | .cycEnWrite _ who _ => whoOk who
  | .inheritanceDetect _ f holder => decide (f < 8192) && decide (holder < 1024)
  | .govCapMgmtWrite _ who _ => whoOk who
  | .govCapF0Write _ who _ => whoOk who
  | .priceTabCommit _ who => whoOk who
  | .priceTabRestore _ who => whoOk who
  | .learnClear _ who => whoOk who
  | .tlimitWrite _ who _ => whoOk who
  | .sagEnWrite _ who _ => whoOk who
  | .profileWrite _ who _ => whoOk who
  | .idleGapStart _ => true
  | .rungEntryComplete _ => true
  | .rungExitComplete _ => true
  | .ladderExitScheduled _ => true
  | .watchdogExpiry _ ctx => decide (ctx < 1024)
  | .drainLimitExpiry _ _ _ fn => decide (fn ≤ 64)
  | .teardownEntryGrant _ => true
  | .regrowthResume _ _ => true
  | .errPrimaryRelease _ who => whoOk who
  | .injectParity _ who seqr => whoOk who && decide (seqr < 16)
  | .injectUncorrectable _ who tab => whoOk who && decide (tab < 8)
  | .injectCorrectable _ who tab => whoOk who && decide (tab < 8)
  | .vfCountChange _ count => decide (count < 64)
  | .fnAssignWrite _ who fn _ => whoOk who && fnOk fn
  | .fnCfgReset _ who fn => whoOk who && fnOk fn
  | .fnCtlFlr _ fn => fnOk fn
  | .pcieFlr _ fn => fnOk fn
  | .cipherFlushComplete _ _ _ => true
  | .coreMove _ who _ src dst => whoOk who && decide (src < 16) && decide (dst < 16)
  | .wayMove _ who _ src dst => whoOk who && decide (src < 16) && decide (dst < 16)
  | .channelMove _ who _ src dst => whoOk who && decide (src < 16) && decide (dst < 16)
  | .tenantRemoval _ who _ src => whoOk who && decide (src < 16)
  | .keygenComplete _ => true
  | .entropyHealthFail _ => true
  | .entropyRetry _ _ => true
  | .pageRelease _ fn _ _ => fnOk fn
  | .pageReleaseComplete _ fn => fnOk fn
  | .mboxGo _ fn _ => fnOk fn
  | .mboxResponse _ fn _ _ => fnOk fn
  | .getVersion _ p => peerOk p
  | .getCapabilities _ p => peerOk p
  | .negotiateAlgorithms _ p => peerOk p
  | .getDigests _ p => peerOk p
  | .getCertificate _ p => peerOk p
  | .challenge _ p => peerOk p
  | .getMeasurements _ p _ => peerOk p
  | .keyExchange _ p => peerOk p
  | .finish _ p _ _ => peerOk p
  | .endSession _ p => peerOk p
  | .getWrapKey _ p => peerOk p
  | .deliverKey _ p _ _ _ => peerOk p
  | .blobKeyFree _ fn slot => fnOk fn && decide (slot < 64)
  | .zeroiseSlot _ who slot => whoOk who && decide (slot < 64)
  | .zeroiseAllBlob _ who => whoOk who
  | .linkRekey _ who port => whoOk who && decide (port < 4)
  | .txCounterRekey _ port => decide (port < 4)
  | .linkHello _ h => decide (h.port < 4)
  | .linkProof _ port _ _ _ => decide (port < 4)
  | .keySwitch _ port => decide (port < 4)
  | .epochSwitchTimeout _ ft => decide (ft < 16)
  | .authLockoutExpiry _ => true
  | .portLanesUp _ port lanes _ => decide (port < 4) && decide (lanes ≤ 8)
  | .train _ port info => decide (port < 4) && trainOk info
  | .lanesFall _ port lanes _ => decide (port < 4) && decide (lanes ≤ 8)
  | .lanesLostTimeout _ port => decide (port < 4)
  | .linkFrameReceive _ port f => decide (port < 4) && frameOk f
  | .frameReplayTimeout _ port => decide (port < 4)
  | .idleFrameTick _ port => decide (port < 4)
  | .segmentReceive _ src xfer _ seg q text =>
    decide (src < 16 ∧ xfer < 2 ^ 16 ∧ seg < 2 ^ 28 ∧ q.ep < 2 ∧ q.iv < 2 ^ 64 ∧ 1 ≤ text.length ∧ text.length ≤ 512 ∧ text.length % 8 = 0)
  | .segmentResendTimeout _ _ _ => true
  | .recordMessage _ src _ _ _ _ _ part => decide (src < 16) && part.all (fun p => decide (p < 8))
  | .waitReg _ src _ _ _ part => decide (src < 16) && part.all (fun p => decide (p < 8))
  | .release _ src _ _ _ => decide (src < 16)
  | .waitDrop _ src _ _ => decide (src < 16)
  | .semAcq _ src _ index _ ctx part => decide (src < 16) && decide (index < 4096) && decide (ctx < 1024) && part.all (fun p => decide (p < 8))
  | .semGrant _ src _ index _ => decide (src < 16) && decide (index < 4096)
  | .semRel _ src _ index _ ctx part => decide (src < 16) && decide (index < 4096) && decide (ctx < 1024) && part.all (fun p => decide (p < 8))
  | .refuse _ src m _ _ => decide (src < 16) && decide (m.seq < 65536)
  | .ack _ src r => decide (src < 16) && decide (r.seq < 65536)
  | .openTransfer _ src _ _ _ ft _ _ => decide (src < 16) && decide (ft < 16)
  | .report _ src _ _ => decide (src < 16)
  | .squash _ src _ _ _ => decide (src < 16)
  | .squashAck _ src m => decide (src < 16) && decide (m.seq < 65536)
  | .credit _ src _ _ _ => decide (src < 16)
  | .heartbeat _ src _ ld _ => decide (src < 16) && decide (ld < 16)
  | .lost _ src _ node l => decide (src < 16) && decide (node < 16) && l.port.all (fun p => decide (p < 4))
    && l.ctx.all (fun c => decide (c < 1024))
  | .lead _ src _ _ _ deputy => decide (src < 16) && deputy.all (fun n => decide (n < 16))
  | .joinReq _ src _ _ _ => decide (src < 16)
  | .joinGrant _ src _ _ node => decide (src < 16) && decide (node < 16)
  | .epoch _ src _ _ e => decide (src < 16) && e.key.all (fun k => decide (k.1 < 16))
  | .atMessage _ src _ _ _ => decide (src < 16)
  | .leaveMessage _ src _ node => decide (src < 16) && decide (node < 16)
  | .key _ src _ ft _ => decide (src < 16) && decide (ft < 16)
  | .nodeKex _ src _ _ _ => decide (src < 16)
  | .timeExchangeTick _ port => decide (port < 4)
  | .timeFrame _ port _ _ _ _ => decide (port < 4)
  | .heartbeatTick _ => true
  | .leadLossTimeout _ => true
  | .settleWindowEnd _ => true
  | .epochTick _ => true
  | .epochExtrapolate _ => true
  | .atTimeReached _ => true
  | .plannedLeave _ who => whoOk who
  | .rejoin _ who => whoOk who
  | .irqClaim _ fn => fnOk fn
  | .irqEoi _ fn => fnOk fn
  | .irqLineMaskWrite _ fn _ => fnOk fn
  | .irqMapWrite _ who fn entry _ => whoOk who && fnOk fn && decide (entry < 63)
  | .irqUnquench _ who source => whoOk who && decide (source < 512)
  | .stormWindow _ => true
  | .freezeGo _ who => whoOk who
  | .counterClear _ who => whoOk who
  | .freezeUnlock _ who => whoOk who
  | .freezeArm _ who _ => whoOk who
  | .freezeTimeReached _ => true
  | .traceCapWindow _ => true
  | .globalStop _ who => whoOk who
  | .softStop _ who => whoOk who
  | .softStopResume _ who => whoOk who
  | .scanOutComplete _ _ => true
  | .hangGraphRequest _ who => whoOk who
  | .hangGraphBuilt _ _ => true
  | .hangBufferRelease _ who => whoOk who
  | .pcfgWrite _ who j _ => whoOk who && decide (j < 512)
  | .microword _ n _ => decide (n < 9)
  | .microCall _ n _ => decide (n < 9)
  | .microRet _ n _ => decide (n < 9)
  | .microEnd _ n _ => decide (n < 9)
  | .microFault _ n _ => decide (n < 9)
  | .microwordLimit _ n => decide (n < 9)
  | .issue _ n _ => decide (n < 9)
  | .mrd _ n _ _ => decide (n < 9)
  | .evrd _ n _ _ => decide (n < 9)
  | .timeChannel _ n _ => decide (n < 9)
  | .markChannel _ n _ => decide (n < 9)
  | .probe _ n _ _ => decide (n < 9)
  | .loadBegin _ kind _ => decide (kind < 256)
  | .loadData _ _ _ => true
  | .loadCommit _ _ _ => true
  | .loadPauseReached _ => true
  | .loadAbort _ => true
  | .clockReturn _ d => decide (1 ≤ d && d ≤ 18)
  | .sagLineFall _ line => decide (line < 16)
  | .shadowBankWriteAck _ cluster => decide (cluster < 4)
  | .epochStart _ => true
  | .leaveTransferLimit _ => true
  | .rcRegisterRead _ who win _ _ _ => whoOk who && winOk win
  | .hdrDdrEntry _ => true
  | .spdmKeyUpdate _ p => peerOk p
  | .msiXMaskWrite _ fn _ => fnOk fn

end Sys2Proof
end

