-- ==== Sys2Proof/Tests/Slice0.lean ====
section
/-! SUPPORT. Tests: ill-formed commands that WellFormed refuses, worked figures of the spec, and states that meet the hypotheses of
the statements. -/

set_option maxRecDepth 20000

namespace Sys2Proof.Tests

open Sys2Proof.Machine

/-! ## States that meet the hypotheses of the statements -/

/-- A TRAIN frame whose fields are in range. -/
def trainOf : TrainInfo :=
  { fabricId := 0, topo := 0, xdim := 0, ydim := 0, node := 0, port := 0, leadNode := 0, hasLead := false, credits := 0,
    features := 15, protection := true, lanes := 8, rate := 0 }

/-- A frame of zeros. -/
def frameOf : FrameIn := {}

/-- The idle frame of a counter, sealed under a zeroised key. -/
def sealedOf (ctr : Nat) : FrameIn := LinkKey.sealed {} { typ := 2, ctr := ctr }

/-- A block that has become READY. -/
def live : State := State.reset.setB .VXB_START_STAT 0 0 3 true

/-- The same with a management session open. -/
def managed : State := { live with sec := { sessions := [{ peer := .mgmt, finished := true }] } }

/-- The same with F0 assigned to partition 0. -/
def assigned : State := live.setB .VXB_FN_CFG 0 0 3 true

/-- An SQ of F0 with 16 entries. -/
def sq0 : Sq :=
  { fn := 0, ctx := 0, cr := 0, base := 2 ^ 40, log2 := 4, poll := 0, depth := 4, irq := false, dbSlot := 0,
    seqAddr := 2 ^ 41, drainUs := 0 }

/-- A CR of F0 with 16 entries. -/
def cr0 : Cr := { fn := 0, base := 2 ^ 42, log2 := 4, irqSrc := 0, dbSlot := 0, piShadow := 0 }

/-- A context of F0 in partition 0. -/
def ctx0 : Ctx := { fn := 0, part := 0, share := 1, det := false, noSteal := false, noRotate := false, background := false, wdMs := 100 }

/-- A submission of SQ 0 on a stream sequencer, with nothing issued. -/
def flight0 : Flight :=
  { sq := 0, seq := 0, marker := false, ordered := false, irqForce := false, tag := 0, addr := 0, length := 0, arg := 0, ctx := 0,
    c := List.replicate 8 0, seqr := some 0 }

/-- A live block with these queues, contexts and submissions. -/
def queued : State := { assigned with sqs := [(0, sq0)], crs := [(0, cr0)], ctxs := [(0, ctx0)] }

/-- The fuses of a part of grade 0 with nothing fused off. -/
def fuses0 : Fuses :=
  { grade := 0, rev := 0, features := 0, coresOff := 0, tilers := 0b11, dmas := 0b1111, links := 0b1111, soc := false, romVer := 0,
    keyFuseBlank := true, idCode := 0 }

/-- The `k` bytes of a number, the lowest first. -/
def le (k n : Nat) : List Byte := (List.range k).map (fun i => BitVec.ofNat 8 (n / 256 ^ i))

/-- A directory entry of a section of the spec's version. -/
def dirEntry (ty len off : Nat) : List Byte := le 2 ty ++ [1, 0] ++ le 4 len ++ le 4 off ++ le 4 0

/-- The sections of a plinth with one core, one way and one channel in partition 0, to which every function belongs. -/
def sections0 : List (List Byte) :=
  [le 8 1,
   List.replicate 97 0 ++ [1] ++ List.replicate 494 0,
   le 8 0 ++ le 8 0 ++ le 8 0 ++ le 8 (2 ^ 20) ++ le 8 (17 * 2 ^ 20) ++ le 8 0,
   le 8 1 ++ le 8 0x10001 ++ List.replicate 112 0 ++ (List.replicate 64 (le 4 8)).flatten,
   le 8 (1000 + 800 * 2 ^ 16),
   le 8 (1 + 65535 * 2 ^ 16 + 100 * 2 ^ 32) ++ le 8 (105 * 2 ^ 16)
     ++ (List.range 16).flatMap (fun i => le 8 (15 - i + i * 2 ^ 16 + 15 * 2 ^ 32)) ++ List.replicate 40 0,
   List.replicate 48 0
     ++ (List.replicate 64 ([0] ++ le 4 1 ++ le 4 1 ++ le 4 1 ++ (List.replicate 6 [255, 0, 0]).flatten ++ [0])).flatten]

/-- An image with these sections, which passes the checks of Table 15-4. -/
def image0 : List Byte :=
  le 4 0x5658504C ++ le 2 1 ++ le 2 7 ++ le 4 3592 ++ le 4 1 ++ List.replicate 48 0
  ++ dirEntry 1 1 176 ++ dirEntry 2 589 184 ++ dirEntry 5 48 776 ++ dirEntry 6 384 824 ++ dirEntry 7 8 1208 ++ dirEntry 8 184 1216
  ++ dirEntry 9 2096 1400 ++ sections0.flatten ++ List.replicate 96 0

/-- Checks of an image that all pass. -/
def checks0 : StartChecks :=
  { signerOk := true, sigOk := true, identityOk := true, entropyOk := true, patinaSigOk := true, customerSigOk := true, digest := 0,
    patinaDigest := 0, customerDigest := 0 }

/-- The configuration that the image holds. -/
def plinth0 : Plinth := plinthOf image0 checks0

/-- A block in phase 2 of a cold start, whose fuses have been read and whose memory is there. -/
def starting : State := { State.reset.setF .VXB_START_STAT 0 0 0 3 2 with start := { mem := 0xFF, fuses := some fuses0 } }

/-- A live block whose administrative queue has these words as its next command. -/
def admin (q : List Word) : State := { queued with adm := { prog := [{ idx := 0, q := q }] } }

/-- The header of a stream command: opcode, size and class. -/
def hd (op size cls : Nat) : Word := mkWord [(56, 8, op), (48, 8, size), (36, 4, cls)]

/-- Submission 0 at the start of a buffer with these words. -/
def stream (ws : List Word) : Flight := { flight0 with length := 8 * ws.length, words := ws.zipIdx.map (fun e => (e.2, e.1)) }

/-- A live block that runs a submission. -/
def running (x : Flight) : State := { queued with flights := [(0, x)] }

/-- A submission in a CALL of a routine with these arguments. -/
def inCall (r : Nat) (args : List Word) : State :=
  running { stream [hd 0x1E 2 0, BitVec.ofNat 64 r] with call := some { routine := r, hdr := hd 0x1E 2 0, args := args } }

/-- A flight table with its first entries taken. -/
def fullFlights (n : Nat) : Tab Flight := (List.range n).map (fun i => (i, flight0))

/-- A table built from a list of keys has an entry for each. -/
theorem get_of_keys {α : Type} (a : α) (l : List Nat) (k : Nat) (h : k ∈ l) :
    (Tab.get? (l.map (fun i => (i, a))) k).isSome = true := by
  induction l with
  | nil => simp at h
  | cons i r ih =>
    simp only [List.map_cons, Tab.get?]
    split
    · rfl
    · rename_i hne
      exact ih (by simpa [Ne.symm hne] using h)

/-- No entry of the full flight table is free. -/
theorem full_has_no_free (s : State) (h : s.flights = fullFlights 8192) : s.freeFlight = none := by
  simp only [State.freeFlight, Tab.lowestFree, h, fullFlights, List.find?_eq_none, Nat.sub_zero, Nat.add_zero, List.map_id']
  intro k hk
  have := get_of_keys flight0 (List.range 8192) k hk
  cases hg : Tab.get? ((List.range 8192).map (fun i => (i, flight0))) k <;> simp_all

/-- A block with a full flight table and an entry of SQ 0 that has arrived. -/
def crowded (n : Nat) : State :=
  { queued with sqs := [(0, { sq0 with arrived := [[mkWord [(0, 8, 2)], 0, 0, 0]] })], flights := fullFlights n }

/-- Its flight table. -/
theorem crowded_flights (n : Nat) : (crowded n).flights = fullFlights n := rfl

/-- A task of submission 0 for a class of engines. -/
def task0 (c : Cls) (op : Nat) : Task :=
  { f := 0, sq := 0, fn := 0, ctx := 0, part := 0, cls := c, opcode := op, words := [hd op 4 3, 0, 0, 1], off := 0, layer := 0, op := 0,
    isync := false, trace := false, taskGrain := false, engine := 0, readyAt := 0 }

/-- A live block with this task and an engine of each class but cores present. -/
def tasked (y : Task) : State :=
  { running flight0 with
    tasks := [(0, y)], engs := [0, 2, 6, 7, 8].map (fun e => (e, { present := true })),
    cores := [{ present := true, owner := some 0 }] }

/-- A slot of a cyclic table. -/
def slot0 : Slot :=
  { offset := 10, length := 1000, part := 0, ctx := 0, cores := 1, lend := false, policy := 0, dlEn := false, engines := 0, minMhz := 0,
    allowUj := 0, dlEvent := 0 }

/-- A cyclic table with one slot. -/
def table0 : CycTable := { period := 100000, anchor := 0, vsyncTol := 0, margin := 0, startAt := 0, slots := [slot0] }

/-- An instance of its slot. -/
def inst0 : Inst := { slot := 0, def0 := slot0, margin := 0, period := 0, start := 10, started := true }

/-- A live block whose cyclic table runs, at this moment. -/
def cyclic (m : Nat) : State := { queued with now := m, cyc := { table := some table0, running := true, insts := [(0, inst0)], nextInst := 1 } }

/-- A live block with a management session, all memory channels and a core that partition 0 owns. -/
def owning : State :=
  { managed.setF .VXB_PART_CORES 0 0 0 48 1 with
    cores := [{ present := true, owner := some 0 }, { present := true, owner := some 0 }],
    start := { mem := 0xFF } }

/-- A live block whose F0 has blob slot 16. -/
def keyed : State := assigned.setF .SEC_SLOT 16 0 0 2 3

/-- Where no listed register has a bit set, no word of a table entry has. -/
theorem bit_of_all (b k : Nat) (l : Tab Word) (h : l.all (fun e => !bitOf e.2 b) = true) (v : Word) (hg : Tab.get? l k = some v) :
    bitOf v b = false := by
  induction l with
  | nil => simp [Tab.get?] at hg
  | cons e r ih =>
    simp only [List.all_cons, Bool.and_eq_true, Bool.not_eq_true'] at h
    simp only [Tab.get?] at hg
    split at hg
    · cases hg; exact h.1
    · exact ih h.2 hg

/-- Where no listed register has bit 36 set, no page range is sealed. -/
theorem unsealed (s : State) (p r : Nat) (h : s.regs.all (fun e => !bitOf e.2 36) = true) : bitOf (s.reg .MCI_SEAL p r) 36 = false := by
  unfold State.reg
  cases hg : Tab.get? s.regs (Reg.key .MCI_SEAL p r) with
  | none => exact (by decide : bitOf (rstWord (Reg.spec .MCI_SEAL).fields) 36 = false)
  | some v => exact bit_of_all 36 _ _ h v hg

/-- A ROM word with these fields (low bit, width, value) and good parity. -/
def mw (l : List (Nat × Nat × Nat)) : BitVec 136 := withParity (BitVec.ofNat 128 (l.foldl (fun a e => a + e.2.2 % 2 ^ e.2.1 * 2 ^ e.1) 0)) false

/-- A live member of a fabric; `lead` makes it the lead. -/
def fabric (lead : Bool) : State := (live.setB .TML_STAT 0 0 4 true).setB .TML_STAT 0 0 5 lead

/-- The same with a port in this state. -/
def ported (p st : Nat) : State := (fabric false).setF .TML_PORT p 0 0 3 st

/-- No source is quenched in a block that has just become READY. -/
theorem unquenched (k : Nat) : managed.quenched k = false := by
  have h : (16 : Nat) ≠ Reg.key .IRQ_QUENCH (k / 64) 0 := by
    simp only [Reg.key, Reg.spec, arr, Bool.false_eq_true, if_false]; omega
  have e : managed.regs = [(16, 8)] := rfl
  simp only [State.quenched, State.arrBit, State.rb, State.reg, e, Tab.get?, if_neg h, Option.getD_none]
  have z : resetWord .IRQ_QUENCH (k / 64) 0 = 0 := rfl
  rw [z]; simp [bitOf]

/-- A live block whose partition 0 is live, with this many pages. -/
def sized (n : Nat) : State := (assigned.setB .VXB_PART_RES 0 0 24 true).setF .MCI_PART 0 0 16 36 n

/-- A block whose partition 0 has a page and a fabric tenant, 0, with its session key. -/
def sharing : State :=
  { ((sized 1).setB .SEC_FT 0 0 19 true).setB .SEC_FT 0 0 20 true with sec := { keys := [(8, 1)] } }

/-- A seal of zeros. -/
def seal0 : SegSeal := { ep := 0, iv := 0, tag := 0 }

/-- The ciphertext of a segment of one line. -/
def segText : List Word := List.replicate 8 0

/-- Its tag as segment 0 of transfer 0 that node 1 seals for that tenant. -/
def segTag : BitVec 128 := BitVec.ofNat 128 (gcmTag 1 (segIv 1 0) (segAad 0 0 0 0 64) (byteNats (wordBytes segText)))

/-- Its plaintext. -/
def segPlain : List Word := bytesWords (gcmText 1 (segIv 1 0) (byteNats (wordBytes segText)))

/-- A transfer of task 0 with node 1. -/
def xfer0 : Xfer := { task := 0, dest := 1, port := 0, get := false, ft := 0, epoch := 0, segs := 1 }

/-- A transfer from node 1 into partition 0. -/
def in0 : InXfer := { src := 1, xfer := 0, get := false, part := 0, ft := 0, epoch := 0, segs := 1, remote := 0 }

/-- The bytes of a tag, the first one first. -/
def tagBytes (n : Nat) : List Byte := (List.range 16).map (fun i => BitVec.ofNat 8 (n / 256 ^ (15 - i)))

/-- The header of a blob of one byte, without its tag. -/
def blob0 : List Byte := le 4 0x56474231 ++ le 2 1 ++ le 2 0 ++ le 8 0 ++ le 8 1 ++ List.replicate 216 0

/-- That header with the tag of a key of 1. -/
def header0 : List Byte := blob0 ++ tagBytes (gcmTag 1 (gateIv 0 0xFFFFFFFF) (byteNats blob0) [])

/-- The weight gate on a LOAD_WEIGHTS of that blob, under blob key slot 16, with this much done. -/
def gating (g : Gate) : State :=
  { keyed with sec := { keys := [(16, 1)] }, tasks := [(0, { task0 .gate 7 with words := [hd 7 6 6, 0, 273, 0, 1, 16], gate := g })] }

/-- The gate's work on that blob with its header taken and these bytes come. -/
def gateIn (l : List Byte) : Gate := { hdr := some { model := 0, plain := 1, nonce := 0 }, got := l }

/-- The ciphertext of the blob's one byte, 7. -/
def chunk0 : List Nat := gcmText 1 (gateIv 0 0) [7]

/-- The tag of its chunk. -/
def chunkTag0 : List Byte := tagBytes (gcmTag 1 (gateIv 0 0) (byteNats (chunkAad { model := 0, plain := 1, nonce := 0 } 0)) chunk0)

/-- A patina set of no words. -/
def patina0 : List Byte := le 4 0x56585054 ++ le 2 1 ++ List.replicate 154 0

/-- Its load, all of it staged. -/
def load0 : Load := { kind := 0, total := 160, staged := patina0.zipIdx.map (fun e => (e.2, e.1)) }

/-- A submission in a CALL of customer routine 64, whose sequencer stands at its word after `n` others. -/
def customer (w : BitVec 128) (n : Nat) : State :=
  { (running { stream [hd 0x1E 2 0, 64] with call := some { routine := 64, hdr := hd 0x1E 2 0, args := [], started := true } }).setB
      .MCS_RTN 64 0 28 true with mcs := { cust := [w], seqs := [(0, { pc := 0x8000, count := n })] } }

/-! ## Ill-formed commands -/

/-- Commands with an operand out of range are ill-formed (writers). -/
theorem test_wf_refuses_writers_1 :
    (Instr.registerWrite 0 (.fn 64) .glob 0 0 0).wf = false ∧ (Instr.dinPendClear 0 (.fn 64) 0).wf = false ∧
    (Instr.dinUnquench 0 (.fn 64) 0).wf = false ∧ (Instr.consumerIndexWrite 0 (.fn 64) (.admin 0) 0).wf = false ∧
    (Instr.semCfgWrite 0 (.fn 64) 0 0).wf = false ∧ (Instr.cycEnWrite 0 (.fn 64) true).wf = false ∧
    (Instr.govCapMgmtWrite 0 (.fn 64) 0).wf = false ∧ (Instr.govCapF0Write 0 (.fn 64) 0).wf = false ∧
    (Instr.priceTabCommit 0 (.fn 64)).wf = false ∧ (Instr.priceTabRestore 0 (.fn 64)).wf = false ∧
    (Instr.learnClear 0 (.fn 64)).wf = false ∧ (Instr.tlimitWrite 0 (.fn 64) 0).wf = false ∧ (Instr.sagEnWrite 0 (.fn 64) 0).wf = false ∧
    (Instr.profileWrite 0 (.fn 64) 0).wf = false ∧ (Instr.errPrimaryRelease 0 (.fn 64)).wf = false ∧
    (Instr.injectParity 0 (.fn 64) 0).wf = false ∧ (Instr.injectUncorrectable 0 (.fn 64) 0).wf = false ∧
    (Instr.injectCorrectable 0 (.fn 64) 0).wf = false ∧ (Instr.fnAssignWrite 0 (.fn 64) 0 0).wf = false ∧
    (Instr.fnCfgReset 0 (.fn 64) 0).wf = false ∧ (Instr.coreMove 0 (.fn 64) 0 0 0).wf = false ∧
    (Instr.wayMove 0 (.fn 64) 0 0 0).wf = false ∧ (Instr.channelMove 0 (.fn 64) 0 0 0).wf = false ∧
    (Instr.tenantRemoval 0 (.fn 64) 0 0).wf = false := by
  decide

/-- Commands with an operand out of range are ill-formed (writers). -/
theorem test_wf_refuses_writers_2 :
    (Instr.zeroiseSlot 0 (.fn 64) 0).wf = false ∧ (Instr.zeroiseAllBlob 0 (.fn 64)).wf = false ∧
    (Instr.linkRekey 0 (.fn 64) 0).wf = false ∧ (Instr.plannedLeave 0 (.fn 64)).wf = false ∧ (Instr.rejoin 0 (.fn 64)).wf = false ∧
    (Instr.irqMapWrite 0 (.fn 64) 0 0 0).wf = false ∧ (Instr.irqUnquench 0 (.fn 64) 0).wf = false ∧
    (Instr.freezeGo 0 (.fn 64)).wf = false ∧ (Instr.counterClear 0 (.fn 64)).wf = false ∧ (Instr.freezeUnlock 0 (.fn 64)).wf = false ∧
    (Instr.freezeArm 0 (.fn 64) 0).wf = false ∧ (Instr.globalStop 0 (.fn 64)).wf = false ∧ (Instr.softStop 0 (.fn 64)).wf = false ∧
    (Instr.softStopResume 0 (.fn 64)).wf = false ∧ (Instr.hangGraphRequest 0 (.fn 64)).wf = false ∧
    (Instr.hangBufferRelease 0 (.fn 64)).wf = false ∧ (Instr.pcfgWrite 0 (.fn 64) 0 0).wf = false ∧
    (Instr.rcRegisterRead 0 (.fn 64) .glob 0 0 none).wf = false := by
  decide

/-- Commands with an operand out of range are ill-formed (windows). -/
theorem test_wf_refuses_windows :
    (Instr.registerWrite 0 .mgmt (.own 64) 0 0 0).wf = false ∧ (Instr.rcRegisterRead 0 .mgmt (.own 64) 0 0 none).wf = false := by
  decide

/-- Commands with an operand out of range are ill-formed (domains). -/
theorem test_wf_refuses_domains :
    (Instr.clockLost 0 19).wf = false ∧ (Instr.clockReturn 0 19).wf = false := by
  decide

/-- Commands with an operand out of range are ill-formed (read tags). -/
theorem test_wf_refuses_read_tags :
    (Instr.hostReadCompletion 0 (.entryFetch 4096) .error).wf = false ∧ (Instr.completionTimeout 0 (.entryFetch 4096)).wf = false ∧
    (Instr.memoryReadData 0 (.entryFetch 4096) .errorFlag).wf = false := by
  decide

/-- Commands with an operand out of range are ill-formed (acks). -/
theorem test_wf_refuses_acks :
    (Instr.memoryWriteAck 0 (.line none 9 0 segText)).wf = false ∧ (Instr.memoryWriteAck 0 (.line none 8 (2 ^ 42) segText)).wf = false ∧
    (Instr.memoryWriteAck 0 (.line none 8 0 [])).wf = false ∧ (Instr.memoryWriteAck 0 (.response 65536)).wf = false ∧
    (Instr.memoryWriteAck 0 (.inbound 16 0)).wf = false ∧ (Instr.memoryWriteAck 0 (.inbound 0 65536)).wf = false ∧
    (Instr.memoryWriteAck 0 (.hostTarget 64)).wf = false := by
  decide

/-- Commands with an operand out of range are ill-formed (lines of a read). -/
theorem test_wf_refuses_lines :
    (Instr.memoryReadData 0 (.buffer 0 0) (.lines 9 0 0 [])).wf = false ∧ (Instr.memoryReadData 0 (.buffer 0 0) (.lines 8 4 0 [])).wf = false ∧
    (Instr.memoryReadData 0 (.buffer 0 0) (.lines 8 0 4 [])).wf = false ∧ (Instr.memoryReadData 0 (.buffer 0 0) (.lines 8 0 64 [])).wf = false ∧
    (Instr.memoryReadData 0 (.buffer 0 0) (.lines 8 0 64 [{ text := [], mac := 0, nodes := [] }])).wf = false ∧
    (Instr.memoryReadData 0 (.buffer 0 0) (.lines 8 0 64 [{ text := List.replicate 4 0, mac := 0, nodes := [{ ctrs := [], mac := 0 }] }])).wf = false ∧
    (Instr.memoryReadData 0 (.brumation [.fn 64]) .errorFlag).wf = false ∧ (Instr.memoryReadData 0 (.brumation [.event 65536]) .errorFlag).wf = false ∧
    (Instr.memoryReadData 0 (.brumation [.sem 4096]) .errorFlag).wf = false ∧ (Instr.memoryReadData 0 (.tdWrite 4160 .none) .errorFlag).wf = false := by
  decide

/-- Commands with an operand out of range are ill-formed (the parts of a grade, and the modes of a flash). -/
theorem test_wf_refuses_parts :
    (Instr.coldReset 0 { fuses0 with grade := 2 } 0xFF false [] true).wf = false ∧
    (Instr.coldReset 0 { fuses0 with grade := 3 } 0xFF false [] true).wf = false ∧
    (Instr.coldReset 0 { fuses0 with dmas := 1 } 0xFF false [] true).wf = false ∧
    (Instr.coldReset 0 fuses0 0xFF true [(5, 1)] true).wf = false ∧ (Instr.coldReset 0 fuses0 0xFF true [(0, 0)] true).wf = false ∧
    (Instr.coldReset 0 fuses0 0xFF true [(4, 255)] true).wf = true := by
  decide

/-- Commands with an operand out of range are ill-formed (segments). -/
theorem test_wf_refuses_segments :
    (Instr.segmentReceive 0 0 65536 true 0 seal0 segText).wf = false ∧ (Instr.segmentReceive 0 0 0 true (2 ^ 28) seal0 segText).wf = false ∧
    (Instr.segmentReceive 0 0 0 true 0 { seal0 with ep := 2 } segText).wf = false ∧ (Instr.segmentReceive 0 0 0 true 0 { seal0 with iv := 2 ^ 64 } segText).wf = false ∧
    (Instr.segmentReceive 0 0 0 true 0 seal0 []).wf = false ∧ (Instr.segmentReceive 0 0 0 true 0 seal0 [0]).wf = false ∧
    (Instr.segmentReceive 0 0 0 true 0 seal0 (List.replicate 520 0)).wf = false := by
  decide

/-- Commands with an operand out of range are ill-formed (engines). -/
theorem test_wf_refuses_engines :
    (Instr.launchAck 0 .tiler 2).wf = false ∧ (Instr.ctlAck 0 .tiler 2 .stop).wf = false ∧
    (Instr.engineDone 0 .tiler 2 0 0 true true 0 0).wf = false ∧ (Instr.enginePick 0 .tiler 2).wf = false := by
  decide

/-- Commands with an operand out of range are ill-formed (range 65536). -/
theorem test_wf_refuses_range_65536 :
    (Instr.engineDone 0 .tiler 0 65536 0 true true 0 0).wf = false := by
  decide

/-- Commands with an operand out of range are ill-formed (range 256). -/
theorem test_wf_refuses_range_256 :
    (Instr.engineDone 0 .tiler 0 0 256 true true 0 0).wf = false ∧ (Instr.bypass 0 256).wf = false ∧ (Instr.slotPreload 0 256).wf = false ∧
    (Instr.slotClockRaise 0 256).wf = false ∧ (Instr.slotStart 0 256).wf = false ∧ (Instr.loadBegin 0 256 0).wf = false := by
  decide

/-- Commands with an operand out of range are ill-formed (range 128). -/
theorem test_wf_refuses_range_128 :
    (Instr.i3cEntdaa 0 128).wf = false ∧ (Instr.i3cSetdasa 0 128 0).wf = false ∧ (Instr.i3cSetdasa 0 0 128).wf = false := by
  decide

/-- Commands with an operand out of range are ill-formed (requests). -/
theorem test_wf_refuses_requests :
    (Instr.mgmtVendorRequest 0 (.regRead (.own 64) 0 4)).wf = false := by
  decide

/-- Commands with an operand out of range are ill-formed (range 16). -/
theorem test_wf_refuses_range_16_1 :
    (Instr.sagLineRise 0 16).wf = false ∧ (Instr.injectParity 0 .mgmt 16).wf = false ∧ (Instr.coreMove 0 .mgmt 0 16 0).wf = false ∧
    (Instr.coreMove 0 .mgmt 0 0 16).wf = false ∧ (Instr.wayMove 0 .mgmt 0 16 0).wf = false ∧ (Instr.wayMove 0 .mgmt 0 0 16).wf = false ∧
    (Instr.channelMove 0 .mgmt 0 16 0).wf = false ∧ (Instr.channelMove 0 .mgmt 0 0 16).wf = false ∧
    (Instr.tenantRemoval 0 .mgmt 0 16).wf = false ∧ (Instr.epochSwitchTimeout 0 16).wf = false ∧
    (Instr.segmentReceive 0 16 0 true 0 seal0 segText).wf = false ∧ (Instr.recordMessage 0 16 0 0 0 0 none none).wf = false ∧
    (Instr.waitReg 0 16 0 0 0 none).wf = false ∧ (Instr.release 0 16 0 0 0).wf = false ∧ (Instr.waitDrop 0 16 0 0).wf = false ∧
    (Instr.semAcq 0 16 0 0 0 0 none).wf = false ∧ (Instr.semGrant 0 16 0 0 0).wf = false ∧ (Instr.semRel 0 16 0 0 0 0 none).wf = false ∧
    (Instr.refuse 0 16 ⟨0, 0⟩ 0 0).wf = false ∧ (Instr.refuse 0 0 ⟨65536, 0⟩ 0 0).wf = false ∧ (Instr.ack 0 16 ⟨0, false⟩).wf = false ∧ (Instr.ack 0 0 ⟨65536, false⟩).wf = false ∧ (Instr.openTransfer 0 16 0 0 true 0 0 0).wf = false ∧
    (Instr.openTransfer 0 0 0 0 true 16 0 0).wf = false ∧ (Instr.report 0 16 0 0).wf = false ∧ (Instr.squash 0 16 0 0 true).wf = false := by
  decide

/-- Commands with an operand out of range are ill-formed (range 16). -/
theorem test_wf_refuses_range_16_2 :
    (Instr.squashAck 0 16 ⟨0, 0⟩).wf = false ∧ (Instr.squashAck 0 0 ⟨65536, 0⟩).wf = false ∧ (Instr.credit 0 16 0 0 none).wf = false ∧ (Instr.heartbeat 0 16 0 0 0).wf = false ∧
    (Instr.heartbeat 0 0 0 16 0).wf = false ∧ (Instr.lost 0 16 0 0 ⟨none, none⟩).wf = false ∧ (Instr.lost 0 0 0 16 ⟨none, none⟩).wf = false ∧
    (Instr.lead 0 16 0 0 0 none).wf = false ∧ (Instr.joinReq 0 16 0 0 0).wf = false ∧ (Instr.joinGrant 0 16 0 0 0).wf = false ∧
    (Instr.joinGrant 0 0 0 0 16).wf = false ∧ (Instr.epoch 0 16 0 0 ⟨0, none⟩).wf = false ∧ (Instr.epoch 0 0 0 0 ⟨0, some (16, 0)⟩).wf = false ∧ (Instr.atMessage 0 16 0 0 0).wf = false ∧
    (Instr.leaveMessage 0 16 0 0).wf = false ∧ (Instr.leaveMessage 0 0 0 16).wf = false ∧ (Instr.key 0 16 0 0 ⟨0, 0, 0⟩).wf = false ∧
    (Instr.key 0 0 0 16 ⟨0, 0, 0⟩).wf = false ∧ (Instr.nodeKex 0 16 0 (.proof 0) true).wf = false ∧ (Instr.sagLineFall 0 16).wf = false := by
  decide

/-- Commands with an operand out of range are ill-formed (range 8). -/
theorem test_wf_refuses_range_8 :
    (Instr.stretchRelease 0 8).wf = false ∧ (Instr.sequencerPick 0 8).wf = false ∧ (Instr.coresPick 0 8).wf = false ∧
    (Instr.injectUncorrectable 0 .mgmt 8).wf = false ∧ (Instr.injectCorrectable 0 .mgmt 8).wf = false ∧
    (Instr.portLanesUp 0 0 9 0).wf = false ∧ (Instr.lanesFall 0 0 9 0).wf = false := by
  decide

/-- Commands with an operand out of range are ill-formed (range 49). -/
theorem test_wf_refuses_range_49 :
    (Instr.meterSample 0 49 0).wf = false := by
  decide

/-- Commands with an operand out of range are ill-formed (samples). -/
theorem test_wf_refuses_samples :
    (Instr.thermalEvaluation 0 [none]).wf = false := by
  decide

/-- Commands with an operand out of range are ill-formed (range 4). -/
theorem test_wf_refuses_range_4 :
    (Instr.vfChangeComplete 0 4).wf = false ∧ (Instr.remainderStreamEnd 0 4).wf = false ∧ (Instr.linkRekey 0 .mgmt 4).wf = false ∧
    (Instr.txCounterRekey 0 4).wf = false ∧ (Instr.linkHello 0 { rand := 0, pub := 0, port := 4 }).wf = false ∧ (Instr.linkProof 0 4 true true true).wf = false ∧
    (Instr.keySwitch 0 4).wf = false ∧ (Instr.portLanesUp 0 4 0 0).wf = false ∧ (Instr.train 0 4 trainOf).wf = false ∧
    (Instr.lanesFall 0 4 0 0).wf = false ∧ (Instr.lanesLostTimeout 0 4).wf = false ∧ (Instr.linkFrameReceive 0 4 frameOf).wf = false ∧
    (Instr.frameReplayTimeout 0 4).wf = false ∧ (Instr.idleFrameTick 0 4).wf = false ∧ (Instr.timeExchangeTick 0 4).wf = false ∧
    (Instr.timeFrame 0 4 0 0 0 0).wf = false ∧ (Instr.shadowBankWriteAck 0 4).wf = false := by
  decide

/-- Commands with an operand out of range are ill-formed (range 9). -/
theorem test_wf_refuses_range_9 :
    (Instr.dinEdge 0 9 true).wf = false ∧ (Instr.dinStuck 0 9).wf = false ∧ (Instr.dinPendClear 0 .mgmt 9).wf = false ∧
    (Instr.dinUnquench 0 .mgmt 9).wf = false ∧ (Instr.microword 0 9 0).wf = false ∧ (Instr.microCall 0 9 0).wf = false ∧
    (Instr.microRet 0 9 0).wf = false ∧ (Instr.microEnd 0 9 0).wf = false ∧ (Instr.microFault 0 9 0).wf = false ∧
    (Instr.microwordLimit 0 9).wf = false ∧ (Instr.issue 0 9 0).wf = false ∧ (Instr.mrd 0 9 0 none).wf = false ∧
    (Instr.evrd 0 9 0 none).wf = false ∧ (Instr.timeChannel 0 9 0).wf = false ∧ (Instr.markChannel 0 9 0).wf = false ∧
    (Instr.probe 0 9 0 true).wf = false := by
  decide

/-- Commands with an operand out of range are ill-formed (functions). -/
theorem test_wf_refuses_functions :
    (Instr.sqDoorbell 0 64 0 8 0).wf = false ∧ (Instr.urgentDoorbell 0 64 0 8 0).wf = false ∧ (Instr.adminDoorbell 0 64 0).wf = false ∧
    (Instr.adminResume 0 64 .none).wf = false ∧ (Instr.evFnRecordWrite 0 64 ⟨0, false⟩).wf = false ∧ (Instr.evFnValueRead 0 64 none).wf = false ∧
    (Instr.fnAssignWrite 0 .mgmt 64 0).wf = false ∧ (Instr.fnCfgReset 0 .mgmt 64).wf = false ∧ (Instr.fnCtlFlr 0 64).wf = false ∧
    (Instr.pcieFlr 0 64).wf = false ∧ (Instr.pageRelease 0 64 0 0).wf = false ∧ (Instr.pageReleaseComplete 0 64).wf = false ∧
    (Instr.mboxGo 0 64 0).wf = false ∧ (Instr.mboxResponse 0 64 0 true).wf = false ∧ (Instr.blobKeyFree 0 64 0).wf = false ∧
    (Instr.irqClaim 0 64).wf = false ∧ (Instr.irqEoi 0 64).wf = false ∧ (Instr.irqLineMaskWrite 0 64 true).wf = false ∧
    (Instr.irqMapWrite 0 .mgmt 64 0 0).wf = false ∧ (Instr.msiXMaskWrite 0 64 ⟨false, true⟩).wf = false := by
  decide

/-- Commands with an operand out of range are ill-formed (range 2048). -/
theorem test_wf_refuses_range_2048 :
    (Instr.sqDoorbell 0 0 2048 8 0).wf = false ∧ (Instr.urgentDoorbell 0 0 2048 8 0).wf = false := by
  decide

/-- Commands with an operand out of range are ill-formed (doorbell bytes). -/
theorem test_wf_refuses_doorbell_bytes :
    (Instr.sqDoorbell 0 0 0 2 0).wf = false ∧ (Instr.urgentDoorbell 0 0 0 2 0).wf = false := by
  decide

/-- Commands with an operand out of range are ill-formed (indices). -/
theorem test_wf_refuses_indices :
    (Instr.consumerIndexWrite 0 .mgmt (.traceRing 9) 0).wf = false := by
  decide

/-- Commands with an operand out of range are ill-formed (range 8192). -/
theorem test_wf_refuses_range_8192_1 :
    (Instr.submissionRetire 0 8192 .none).wf = false ∧ (Instr.nop 0 8192).wf = false ∧ (Instr.dispatch 0 8192 none).wf = false ∧
    (Instr.bin 0 8192).wf = false ∧ (Instr.render 0 8192 none).wf = false ∧ (Instr.copy 0 8192).wf = false ∧
    (Instr.fill 0 8192).wf = false ∧ (Instr.compose 0 8192).wf = false ∧ (Instr.loadWeights 0 8192).wf = false ∧
    (Instr.linkPut 0 8192).wf = false ∧ (Instr.linkGet 0 8192).wf = false ∧ (Instr.record 0 8192).wf = false ∧
    (Instr.wait 0 8192).wf = false ∧ (Instr.semAcquire 0 8192).wf = false ∧ (Instr.semRelease 0 8192).wf = false ∧
    (Instr.fence 0 8192).wf = false ∧ (Instr.setScalar 0 8192 none).wf = false ∧ (Instr.addScalar 0 8192).wf = false ∧
    (Instr.compare 0 8192).wf = false ∧ (Instr.skipIf 0 8192).wf = false ∧ (Instr.repeatCmd 0 8192).wf = false ∧
    (Instr.endRepeat 0 8192).wf = false ∧ (Instr.call 0 8192).wf = false ∧ (Instr.setAreg 0 8192).wf = false := by
  decide

/-- Commands with an operand out of range are ill-formed (range 8192). -/
theorem test_wf_refuses_range_8192_2 :
    (Instr.timestamp 0 8192 true).wf = false ∧ (Instr.watch 0 8192).wf = false ∧ (Instr.mark 0 8192).wf = false ∧
    (Instr.preloadHint 0 8192).wf = false ∧ (Instr.layerChain 0 8192 none).wf = false ∧ (Instr.tileWalk 0 8192 ⟨none, none⟩ none).wf = false ∧
    (Instr.copy2d 0 8192).wf = false ∧ (Instr.copy3d 0 8192).wf = false ∧ (Instr.copyList 0 8192 none).wf = false ∧
    (Instr.fill2d 0 8192).wf = false ∧ (Instr.waitAll 0 8192 none).wf = false ∧ (Instr.recordList 0 8192 none).wf = false ∧
    (Instr.bandSplit 0 8192).wf = false ∧ (Instr.haloPut 0 8192).wf = false ∧ (Instr.frameIndex 0 8192 none).wf = false ∧
    (Instr.bufferBlockRead 0 8192 0 []).wf = false ∧ (Instr.sequencerYield 0 8192).wf = false ∧
    (Instr.waitTimeoutExpiry 0 8192).wf = false ∧ (Instr.watchResult 0 8192 none none).wf = false ∧
    (Instr.inheritanceDetect 0 8192 0).wf = false := by
  decide

/-- Commands with an operand out of range are ill-formed (range 4096). -/
theorem test_wf_refuses_range_4096 :
    (Instr.semCfgWrite 0 .mgmt 4096 0).wf = false ∧ (Instr.semAcq 0 0 0 4096 0 0 none).wf = false ∧
    (Instr.semGrant 0 0 0 4096 0).wf = false ∧ (Instr.semRel 0 0 0 4096 0 0 none).wf = false := by
  decide

/-- Commands with an operand out of range are ill-formed (range 1024). -/
theorem test_wf_refuses_range_1024 :
    (Instr.inheritanceDetect 0 0 1024).wf = false ∧ (Instr.watchdogExpiry 0 1024).wf = false ∧
    (Instr.semAcq 0 0 0 0 0 1024 none).wf = false ∧ (Instr.semRel 0 0 0 0 0 1024 none).wf = false := by
  decide

/-- Commands with an operand out of range are ill-formed (range 64). -/
theorem test_wf_refuses_range_64 :
    (Instr.drainLimitExpiry 0 .flr 0 65).wf = false ∧ (Instr.vfCountChange 0 64).wf = false ∧ (Instr.blobKeyFree 0 0 64).wf = false ∧
    (Instr.zeroiseSlot 0 .mgmt 64).wf = false := by
  decide

/-- Commands with an operand out of range are ill-formed (peers). -/
theorem test_wf_refuses_peers :
    (Instr.getVersion 0 (.host 64)).wf = false ∧ (Instr.getCapabilities 0 (.host 64)).wf = false ∧
    (Instr.negotiateAlgorithms 0 (.host 64)).wf = false ∧ (Instr.getDigests 0 (.host 64)).wf = false ∧
    (Instr.getCertificate 0 (.host 64)).wf = false ∧ (Instr.challenge 0 (.host 64)).wf = false ∧
    (Instr.getMeasurements 0 (.host 64) 0).wf = false ∧ (Instr.keyExchange 0 (.host 64)).wf = false ∧
    (Instr.finish 0 (.host 64) true 0).wf = false ∧ (Instr.endSession 0 (.host 64)).wf = false ∧
    (Instr.getWrapKey 0 (.host 64)).wf = false ∧ (Instr.deliverKey 0 (.host 64) ⟨0, 0⟩ true 0).wf = false ∧
    (Instr.spdmKeyUpdate 0 (.host 64)).wf = false := by
  decide

/-- Commands with an operand out of range are ill-formed (train). -/
theorem test_wf_refuses_train :
    (Instr.train 0 0 { trainOf with port := 4 }).wf = false := by
  decide

/-- Commands with an operand out of range are ill-formed (frames). -/
theorem test_wf_refuses_frames :
    (Instr.linkFrameReceive 0 0 { frameOf with dest := 16 }).wf = false ∧ (Instr.linkFrameReceive 0 0 { frameOf with typ := 8 }).wf = false ∧
    (Instr.linkFrameReceive 0 0 { frameOf with text := List.replicate 9 0 }).wf = false ∧ (Instr.linkFrameReceive 0 0 { frameOf with ctr := 2 ^ 64 }).wf = false ∧
    (Instr.linkFrameReceive 0 0 { frameOf with ack := 65536 }).wf = false ∧ (Instr.linkFrameReceive 0 0 { frameOf with credit := [16] }).wf = false ∧
    (Instr.linkFrameReceive 0 0 { frameOf with seg := some { xfer := 65536, seg := 0, ft := 0, ep := 0, iv := 0 } }).wf = false := by
  decide

/-- Commands with an operand out of range are ill-formed (options). -/
theorem test_wf_refuses_options :
    (Instr.recordMessage 0 0 0 0 0 0 none (some 8)).wf = false ∧ (Instr.waitReg 0 0 0 0 0 (some 8)).wf = false ∧
    (Instr.semAcq 0 0 0 0 0 0 (some 8)).wf = false ∧ (Instr.semRel 0 0 0 0 0 0 (some 8)).wf = false ∧
    (Instr.lost 0 0 0 0 ⟨some 4, none⟩).wf = false ∧ (Instr.lost 0 0 0 0 ⟨none, some 1024⟩).wf = false ∧ (Instr.lead 0 0 0 0 0 (some 16)).wf = false := by
  decide

/-- Commands with an operand out of range are ill-formed (range 63). -/
theorem test_wf_refuses_range_63 :
    (Instr.irqMapWrite 0 .mgmt 0 63 0).wf = false := by
  decide

/-- Commands with an operand out of range are ill-formed (range 512). -/
theorem test_wf_refuses_range_512 :
    (Instr.irqUnquench 0 .mgmt 512).wf = false ∧ (Instr.pcfgWrite 0 .mgmt 512 0).wf = false := by
  decide

/-- The same commands with their operands in range are well-formed. -/
theorem test_wf_accepts :
    (Instr.registerWrite 0 .mgmt .glob 0 0 0).wf = true ∧ (Instr.govCapMgmtWrite 0 .mgmt 0).wf = true ∧
    (Instr.sagEnWrite 0 .mgmt 0).wf = true ∧ (Instr.fnAssignWrite 0 .mgmt 0 0).wf = true ∧ (Instr.zeroiseSlot 0 .mgmt 0).wf = true ∧
    (Instr.irqUnquench 0 .mgmt 0).wf = true ∧ (Instr.softStop 0 .mgmt).wf = true ∧ (Instr.clockLost 0 1).wf = true ∧
    (Instr.launchAck 0 .tiler 0).wf = true ∧ (Instr.slotClockRaise 0 0).wf = true ∧ (Instr.sagLineRise 0 0).wf = true ∧
    (Instr.waitDrop 0 0 0 0).wf = true ∧ (Instr.openTransfer 0 0 0 0 true 0 0 0).wf = true ∧ (Instr.lost 0 0 0 0 ⟨none, none⟩).wf = true ∧
    (Instr.leaveMessage 0 0 0 0).wf = true ∧ (Instr.coresPick 0 0).wf = true ∧ (Instr.remainderStreamEnd 0 0).wf = true ∧
    (Instr.lanesLostTimeout 0 0).wf = true ∧ (Instr.shadowBankWriteAck 0 0).wf = true ∧ (Instr.microEnd 0 0 0).wf = true ∧
    (Instr.timeChannel 0 0 0).wf = true ∧ (Instr.adminResume 0 0 .none).wf = true ∧ (Instr.pageReleaseComplete 0 0).wf = true ∧
    (Instr.irqLineMaskWrite 0 0 true).wf = true ∧ (Instr.render 0 0 none).wf = true ∧ (Instr.linkGet 0 0).wf = true ∧
    (Instr.setScalar 0 0 none).wf = true ∧ (Instr.call 0 0).wf = true ∧ (Instr.layerChain 0 0 none).wf = true ∧
    (Instr.waitAll 0 0 none).wf = true ∧ (Instr.sequencerYield 0 0).wf = true ∧ (Instr.vfCountChange 0 0).wf = true ∧
    (Instr.challenge 0 .mgmt).wf = true ∧ (Instr.deliverKey 0 .mgmt ⟨0, 0⟩ true 0).wf = true := by
  decide

/-! ## Values that the spec and its standards give -/

/-- AES-256 of the block of FIPS 197, appendix C.3. -/
theorem test_aes256 :
    aes256 0x000102030405060708090a0b0c0d0e0f101112131415161718191a1b1c1d1e1f 0x00112233445566778899aabbccddeeff =
      0x8ea2b7ca516745bfeafc49904b496089 := by
  decide +kernel

/-- The tag of no data under a key and an IV of zeros (test case 13 of the published vectors of GCM). -/
theorem test_gcm_tag : gcmTag 0 0 [] [] = 0x530f8afbc74536b9a963b4f1c4cb738b := by
  decide +kernel

/-- The ciphertext and the tag of a block of zeros under them (test case 14). -/
theorem test_gcm_text :
    beNat (gcmText 0 0 (List.replicate 16 0)) = 0xcea7403d4d606b6e074ec5d3baf39d18 ∧
    gcmTag 0 0 [] (gcmText 0 0 (List.replicate 16 0)) = 0xd0d1c8a799996bf0265b98b5d48ab919 := by
  decide +kernel

/-- The parity of the microword that chapter 14 works out. -/
theorem test_microword_parity : mwParity 0x0000000000000001_00A000200200800B = 0x16 := by
  decide

/-- The default junction limit is 105 °C in sixteenths of a degree (R220). -/
theorem test_default_limit : State.reset.tlimit = 1680 := by
  decide

/-- The price table of chapter 6's worked example (Table 06-4). -/
def table64 : List PricePoint :=
  [(1000, 256, 7), (500, 256, 7), (300, 320, 7), (200, 384, 7), (150, 512, 6), (100, 768, 6), (50, 1024, 5), (25, 1536, 5),
   (0, 2048, 4), (-25, 3072, 4), (-50, 4096, 3), (-100, 6144, 3), (-200, 8192, 2), (-400, 12288, 2), (-700, 16384, 1),
   (-1000, 20000, 0)].map (fun (e : Int × Nat × Nat) => { headroom := e.1, price := e.2.1, ceil := e.2.2 })

/-- Its targets at the headrooms of the example. -/
theorem test_price_targets :
    [300, 200, 100, 50, 25, 75, 87, -200].map (priceTarget table64) = [320, 384, 768, 1024, 1536, 896, 834, 8192] := by
  decide

/-- Its ceilings at the prices of the example. -/
theorem test_price_ceilings : [272, 417, 568, 810, 871, 8192].map (priceCeil table64) = [7, 7, 6, 6, 6, 2] := by
  decide

/-! ## The hypotheses of the statements are met -/

/-- States and operands that meet the hypotheses of the clauses of `Obligations.ClockEdgesMoveDomainBits`. -/
theorem test_meets_ClockEdgesMoveDomainBits :
    -- clause 1
    (∃ (s : State) (t : Nat) (d : _), (d = 3 ∨ (8 ≤ d ∧ d ≤ 16) ∨ d = 18) ∧ (s.at t).clockStopped d = false ∧
      (s.at t).rb .VXB_DOMAIN_STAT 0 0 (d - 1) = true) ∧
    -- clause 1, another value
    (∃ (s : State) (t : Nat) (d : _), (d = 3 ∨ (8 ≤ d ∧ d ≤ 16) ∨ d = 18) ∧ (s.at t).clockStopped d = false ∧
      (s.at t).rb .VXB_DOMAIN_STAT 0 0 (d - 1) = true) ∧
    -- clause 1, another value
    (∃ (s : State) (t : Nat) (d : _), (d = 3 ∨ (8 ≤ d ∧ d ≤ 16) ∨ d = 18) ∧ (s.at t).clockStopped d = false ∧
      (s.at t).rb .VXB_DOMAIN_STAT 0 0 (d - 1) = true) ∧
    -- clause 1, another value
    (∃ (s : State) (t : Nat) (d : _), (d = 3 ∨ (8 ≤ d ∧ d ≤ 16) ∨ d = 18) ∧ (s.at t).clockStopped d = false ∧
      (s.at t).rb .VXB_DOMAIN_STAT 0 0 (d - 1) = true) ∧
    -- clause 2
    (∃ (s : State) (t : Nat), (s.at t).rb .VXB_DOMAIN_STAT 0 0 16 = true ∧ (s.at t).ready = true ∧
      (s.at t).rb .TML_TIME_STAT 0 0 0 = true) ∧
    -- clause 3
    (∃ (s : State) (t : Nat) (d : _) (u : State), (d = 1 ∨ d = 2) ∧ (s.at t).clockStopped d = false ∧
      (s.at t).rb .VXB_DOMAIN_STAT 0 0 (d - 1) = true ∧
      u = ((s.at t).setB .VXB_DOMAIN_STAT 0 0 (d - 1) false).setB .VXB_DOMAIN_STAT 0 0 (31 + d) true) ∧
    -- clause 3, another value
    (∃ (s : State) (t : Nat) (d : _) (u : State), (d = 1 ∨ d = 2) ∧ (s.at t).clockStopped d = false ∧
      (s.at t).rb .VXB_DOMAIN_STAT 0 0 (d - 1) = true ∧
      u = ((s.at t).setB .VXB_DOMAIN_STAT 0 0 (d - 1) false).setB .VXB_DOMAIN_STAT 0 0 (31 + d) true) ∧
    -- clause 4
    (∃ (s : State) (t : Nat) (d : _) (u : State), 4 ≤ d ∧ d ≤ 7 ∧ (s.at t).rb .VXB_DOMAIN_STAT 0 0 (d - 1) = true ∧
      (s.at t).ready = true ∧ u = ((s.at t).setB .VXB_DOMAIN_STAT 0 0 (d - 1) false).setB .VXB_DOMAIN_STAT 0 0 (31 + d) true) ∧
    -- clause 4, another value
    (∃ (s : State) (t : Nat) (d : _) (u : State), 4 ≤ d ∧ d ≤ 7 ∧ (s.at t).rb .VXB_DOMAIN_STAT 0 0 (d - 1) = true ∧
      (s.at t).ready = true ∧ u = ((s.at t).setB .VXB_DOMAIN_STAT 0 0 (d - 1) false).setB .VXB_DOMAIN_STAT 0 0 (31 + d) true) ∧
    -- clause 5
    (∃ (s : State) (t : Nat) (d : _), (s.at t).clockStopped d = true) ∧
    -- clause 5, another value
    (∃ (s : State) (t : Nat) (d : _), (s.at t).clockStopped d = true) ∧
    -- clause 6
    (∃ (s : State) (t : Nat) (d : _), (d < 4 ∨ 8 ≤ d) ∧ 1 ≤ d ∧ d ≤ 18 ∧ d ≠ 17 ∧
      (s.at t).rb .VXB_DOMAIN_STAT 0 0 (d - 1) = false ∧ (s.at t).hasDomain d = true) ∧
    -- clause 6, another value
    (∃ (s : State) (t : Nat) (d : _), (d < 4 ∨ 8 ≤ d) ∧ 1 ≤ d ∧ d ≤ 18 ∧ d ≠ 17 ∧
      (s.at t).rb .VXB_DOMAIN_STAT 0 0 (d - 1) = false ∧ (s.at t).hasDomain d = true) ∧
    -- clause 7
    (∃ (s : State) (t : Nat) (d : _), 4 ≤ d ∧ d ≤ 7 ∧ (s.at t).rb .VXB_DOMAIN_STAT 0 0 (d - 1) = false ∧
      (s.at t).hasDomain d = true ∧ (s.at t).ready = true) ∧
    -- clause 7, another value
    (∃ (s : State) (t : Nat) (d : _), 4 ≤ d ∧ d ≤ 7 ∧ (s.at t).rb .VXB_DOMAIN_STAT 0 0 (d - 1) = false ∧
      (s.at t).hasDomain d = true ∧ (s.at t).ready = true) :=
  ⟨⟨live.setB .VXB_DOMAIN_STAT 0 0 2 true, 0, 3, by decide, by decide, by decide⟩,
   ⟨live.setB .VXB_DOMAIN_STAT 0 0 7 true, 0, 8, by decide, by decide, by decide⟩,
   ⟨live.setB .VXB_DOMAIN_STAT 0 0 15 true, 0, 16, by decide, by decide, by decide⟩,
   ⟨live.setB .VXB_DOMAIN_STAT 0 0 17 true, 0, 18, by decide, by decide, by decide⟩,
   ⟨(live.setB .VXB_DOMAIN_STAT 0 0 16 true).setB .TML_TIME_STAT 0 0 0 true, 0, by decide, by decide, by decide⟩,
   ⟨live.setB .VXB_DOMAIN_STAT 0 0 0 true, 0, 1, _, by decide, by decide, by decide, rfl⟩,
   ⟨State.reset.setB .VXB_DOMAIN_STAT 0 0 1 true, 0, 2, _, by decide, by decide, by decide, rfl⟩,
   ⟨live.setB .VXB_DOMAIN_STAT 0 0 3 true, 0, 4, _, by decide, by decide, by decide, by decide, rfl⟩,
   ⟨live.setB .VXB_DOMAIN_STAT 0 0 6 true, 0, 7, _, by decide, by decide, by decide, by decide, rfl⟩,
   ⟨live.setB .OBS_STOP_STAT 0 0 0 true, 0, 10, by decide⟩,
   ⟨{ live with gov := { rung := 2 } }, 0, 16, by decide⟩,
   ⟨{ live with start := { fuses := some fuses0 } }, 0, 1, by decide, by decide, by decide, by decide, by decide, by decide⟩,
   ⟨{ live with start := { fuses := some fuses0 } }, 0, 18, by decide, by decide, by decide, by decide, by decide, by decide⟩,
   ⟨{ live with start := { fuses := some fuses0 } }, 0, 4, by decide, by decide, by decide, by decide, by decide⟩,
   ⟨{ live with start := { fuses := some fuses0 } }, 0, 7, by decide, by decide, by decide, by decide, by decide⟩⟩

/-- States and operands that meet the hypotheses of the clauses of `Obligations.HostLinkFallsAndReturns`. -/
theorem test_meets_HostLinkFallsAndReturns :
    -- clause 1
    (∃ (s : State) (t : Nat) (u : State), u = s.at t ∧ u.rb .VXB_HOST_LINK 0 0 8 = true) ∧
    -- clause 3
    (∃ (u : State), (u.ready && !u.haltedAll) = true) ∧
    -- clause 4
    (∃ (s : State) (t : Nat) (u : State), u = s.at t ∧ u.rb .VXB_HOST_LINK 0 0 8 = true ∧ u.ready = false ∧
      u.start.lossDue = none) ∧
    -- clause 5
    (∃ (s : State) (t : Nat) (u : State), Runs s t u ∧ u.rb .VXB_HOST_LINK 0 0 8 = true ∧ u.regrowing = true) ∧
    -- clause 6
    (∃ (s : State) (t : Nat) (u : State), u = s.at t ∧ u.rb .VXB_HOST_LINK 0 0 8 = false) ∧
    -- clause 7
    (∃ (s : State) (t : Nat), (s.at t).rb .VXB_HOST_LINK 0 0 8 = false ∧ (s.at t).soc = true) ∧
    -- clause 8
    (∃ (s : State) (t : Nat), (s.at t).rb .VXB_HOST_LINK 0 0 8 = false ∧ (s.at t).soc = false) ∧
    -- clause 9
    (∃ (s : State) (t : Nat), (s.at t).ready = false ∧ (s.at t).soc = false) ∧
    -- clause 10
    (∃ (s : State) (t : Nat) (u : State), (s.at t).ready = true ∧ (s.at t).haltedAll = false ∧
      u = ((s.at t).setB .VXB_RESET_CAUSE 0 0 2 true).startFlr 0) :=
  ⟨⟨live.setB .VXB_HOST_LINK 0 0 8 true, 0, _, rfl, by decide⟩,
   ⟨live, by decide⟩,
   ⟨State.reset.setB .VXB_HOST_LINK 0 0 8 true, 0, _, rfl, by decide, by decide, by decide⟩,
   ⟨(live.setB .VXB_HOST_LINK 0 0 8 true).setB .ERR_STAT 0 0 1 true, 0, _, ⟨by decide, rfl⟩, by decide, by decide⟩,
   ⟨live, 0, _, rfl, by decide⟩,
   ⟨live.setB .VXB_HOST_LINK 0 0 9 true, 0, by decide, by decide⟩,
   ⟨live, 0, by decide, by decide⟩,
   ⟨State.reset, 0, by decide, by decide⟩,
   ⟨live, 0, _, by decide, by decide, rfl⟩⟩

/-- States and operands that meet the hypotheses of the clauses of `Obligations.I3cTargetTakesItsAddress`. -/
theorem test_meets_I3cTargetTakesItsAddress :
    -- clause 1
    (∃ (s : State) (t : Nat) (a : _), (s.at t).rb .VXB_MGMT_STAT 0 0 7 = false ∧ a < 128) ∧
    -- clause 1, another value
    (∃ (s : State) (t : Nat) (a : _), (s.at t).rb .VXB_MGMT_STAT 0 0 7 = false ∧ a < 128) ∧
    -- clause 2
    (∃ (s : State) (t : Nat), (s.at t).rb .VXB_MGMT_STAT 0 0 7 = true) ∧
    -- clause 3
    (∃ (s : State) (t : Nat) (p : _) (a : _), s.start.plinth = some p ∧ p.i3cStatic ≠ 0 ∧
      (s.at t).rb .VXB_MGMT_STAT 0 0 7 = false ∧ a < 128) ∧
    -- clause 5
    (∃ (s : State), s.start.rstact = .noReset) ∧
    -- clause 6
    (∃ (s : State), s.start.rstact = .peripheral ∧ s.mcs.load = none) ∧
    -- clause 7
    (∃ (s : State) (t : Nat), s.start.rstact = .wholeTarget ∧ (s.at t).wholeOk = true) ∧
    -- clause 8
    (∃ (s : State) (t : Nat), s.start.rstact = .wholeTarget ∧ (s.at t).wholeOk = false ∧ s.mcs.load = none) :=
  ⟨⟨live, 0, 0, by decide, by decide⟩,
   ⟨live, 0, 127, by decide, by decide⟩,
   ⟨live.setB .VXB_MGMT_STAT 0 0 7 true, 0, by decide⟩,
   ⟨{ live with start := { plinth := some { plinth0 with i3cStatic := 127 } } }, 0, _, 127, rfl, by decide, by decide,
     by decide⟩,
   ⟨{ live with start := { rstact := .noReset } }, by decide⟩,
   ⟨live, by decide, by decide⟩,
   ⟨{ live with start := { rstact := .wholeTarget, plinth := some { plinth0 with wholeReset := true } } }, 0, by decide,
     by decide⟩,
   ⟨{ live with start := { rstact := .wholeTarget } }, 0, by decide, by decide, by decide⟩⟩

/-- States and operands that meet the hypotheses of the clauses of `Obligations.ColdResetForgets`. -/
theorem test_meets_ColdResetForgets :
    -- clause 1
    (∃ (f : Fuses), f.graded = true) ∧
    -- clause 2
    (∃ (l : List (Nat × Nat)) (e : _), e ∈ l) ∧
    -- clause 4
    (∃ (f : Fuses), f.graded = false) :=
  ⟨⟨fuses0, by decide⟩,
   ⟨[(0, 25)], (0, 25), by decide⟩,
   ⟨{ fuses0 with grade := 3 }, by decide⟩⟩

/-- States and operands that meet the hypotheses of the clauses of `Obligations.StartUpChecksThePlinth`. -/
theorem test_meets_StartUpChecksThePlinth :
    -- clause 1
    (∃ (s : State) (t : Nat), (s.at t).rf .VXB_START_STAT 0 0 0 3 ≠ 2) ∧
    -- clause 2
    (∃ (b : _), plinthHeader b = none ∧ b.length ≠ plinthLen b) ∧
    -- clause 3
    (∃ (s : State) (t : Nat) (b : _) (c : _) (f : _) (sub : _) (d : _), (s.at t).rf .VXB_START_STAT 0 0 0 3 = 2 ∧
      s.start.fuses = some f ∧ (plinthHeader b = none → b.length = plinthLen b) ∧
      plinthFault f s.start.mem b c = some (sub, d) ∧ sub < 256) ∧
    -- clause 4
    (∃ (s : State) (t : Nat) (b : _) (c : _) (f : _), (s.at t).rf .VXB_START_STAT 0 0 0 3 = 2 ∧ s.start.fuses = some f ∧
      b.length = plinthLen b ∧ plinthFault f s.start.mem b c = none ∧
      ({ (s.at t) with start := { (s.at t).start with plinth := some (plinthOf b c) } }).mcsFault b c = false ∧
      (cyclicTable (plinthWords b 10)).any (fun i => ((s.at t).configure f (plinthOf b c)).cycFault i.1 i.2) = false) ∧
    -- clause 5
    (∃ (s : State), s.start.fuses = none) ∧
    -- clause 6
    (∃ (s : State) (f : _) (sub : _) (d : _), s.start.fuses = some f ∧ s.start.failed = some (sub, d) ∧ sub < 256) :=
  ⟨⟨State.reset, 0, by decide⟩,
   ⟨image0 ++ [0], by decide +kernel, by decide +kernel⟩,
   ⟨starting, 0, image0, { checks0 with sigOk := false }, fuses0, 3, 0, by decide, rfl, by decide +kernel, by decide +kernel,
     by decide⟩,
   ⟨starting, 0, image0, checks0, fuses0, by decide, rfl, by decide +kernel, by decide +kernel, by decide +kernel,
     by decide +kernel⟩,
   ⟨State.reset, by decide⟩,
   ⟨{ starting with start := { starting.start with failed := some (3, 0) } }, fuses0, 3, 0, rfl, rfl, by decide⟩⟩

/-- States and operands that meet the hypotheses of the clauses of `Obligations.HostReadsEndInDataOrFault`. -/
theorem test_meets_HostReadsEndInDataOrFault :
    -- clause 1
    (∃ (s : State) (t : Nat) (u : State), Acts s t u) ∧
    -- clause 2
    (∃ (s : State) (t : Nat) (u : State) (o : _), Acts s t u ∧ u.readOf .adminFetch (some .host) = some o) ∧
    -- clause 3
    (∃ (s : State) (t : Nat) (u : State) (q : _) (x : _) (o : _), Acts s t u ∧ u.readOf (.entryFetch q) (some .host) = some o ∧
      Tab.get? u.sqs q = some x) ∧
    -- clause 4
    (∃ (s : State) (t : Nat) (u : State) (c : _) (p : _) (g : _) (k : _), Acts s t u ∧ u.launchedTask c p g = some k) ∧
    -- clause 5
    (∃ (s : State) (t : Nat) (u : State) (f : _) (off : _) (o : _), Acts s t u ∧
      u.readOf (.buffer f off) (some .host) = some o) ∧
    -- clause 6
    (∃ (s : State) (t : Nat) (u : State) (r : _), Acts s t u ∧ readTracked r = true ∧ u.readOf r (some .host) = none) :=
  ⟨⟨live, 0, _, ⟨by decide, rfl⟩⟩,
   ⟨{ live with reads := [⟨.adminFetch, .host, 2 ^ 40, 64⟩] }, 0, _, _, ⟨by decide, rfl⟩, rfl⟩,
   ⟨{ queued with reads := [⟨.entryFetch 0, .host, 2 ^ 40, 64⟩] }, 0, _, 0, _, _, ⟨by decide, rfl⟩, rfl, rfl⟩,
   ⟨{ live with engs := [(0, { runs := [{ task := 0, tag := 7 }] })] }, 0, _, .tiler, 0, 7, 0, ⟨by decide, rfl⟩, by decide⟩,
   ⟨{ running flight0 with reads := [⟨.buffer 0 0, .host, 2 ^ 40, 256⟩] }, 0, _, 0, 0, _, ⟨by decide, rfl⟩, rfl⟩,
   ⟨live, 0, _, .adminFetch, ⟨by decide, rfl⟩, by decide, by decide⟩⟩

/-- States and operands that meet the hypotheses of the clauses of `Obligations.MemoryLinesAreChecked`. -/
theorem test_meets_MemoryLinesAreChecked :
    -- clause 1
    (∃ (s : State) (t : Nat) (u : State) (c : _) (p : _) (g : _) (k : _), Acts s t u ∧ u.launchedTask c p g = some k) ∧
    -- clause 2
    (∃ (s : State) (t : Nat) (u : State) (c : _) (p : _) (g : _) (k : _) (part : _) (off : _) (n : _), Acts s t u ∧
      u.launchedTask c p g = some k ∧ u.linesFor (.engine c p g) none part off n = true ∧
      u.linesRefused (.engine c p g) part off n = true) ∧
    -- clause 3
    (∃ (s : State) (t : Nat) (u : State) (c : _) (p : _) (g : _) (part : _) (off : _) (n : _), Acts s t u ∧
      u.linesFor (.engine c p g) none part off n = false) ∧
    -- clause 4
    (∃ (s : State) (t : Nat) (u : State) (c : _) (p : _) (g : _) (part : _) (off : _) (n : _) (ls : _) (ws : _), Acts s t u ∧
      c ≠ .gate ∧ u.linesFor (.engine c p g) none part off n = true ∧ u.linesRefused (.engine c p g) part off n = false ∧
      u.openLines part (off / 64) ls = ([], ws)) ∧
    -- clause 5
    (∃ (s : State) (t : Nat) (u : State) (r : _) (x : _) (part : _) (off : _) (n : _) (ls : _) (ws : _), Acts s t u ∧
      readTracked r = true ∧ u.readOf r (some .mem) = some x ∧ u.linesFor r (some x) part off n = true ∧
      u.linesRefused r part off n = false ∧ u.openLines part (off / 64) ls = ([], ws)) ∧
    -- clause 6
    (∃ (s : State) (t : Nat) (u : State) (r : _) (x : _) (part : _) (off : _) (n : _) (ls : _) (ws : _) (e : _), Acts s t u ∧
      readTracked r = true ∧ u.readOf r (some .mem) = some x ∧ u.linesFor r (some x) part off n = true ∧
      u.linesRefused r part off n = false ∧ u.openLines part (off / 64) ls = ([e], ws)) ∧
    -- clauses 7, 12, 13
    (∃ (s : State) (t : Nat) (u : State), Acts s t u) ∧
    -- clause 8
    (∃ (s : State) (t : Nat) (u : State) (e : _) (part : _) (line : _), Acts s t u ∧ part ≠ 8 ∧ u.engineReaches e part = true ∧
      u.live part = true ∧ line < u.rf .MCI_PART part 0 16 36 * 64 ∧ u.meetsSeal part (64 * line) 64 = false) ∧
    -- clause 9
    (∃ (s : State) (t : Nat) (u : State) (e : _) (part : _), Acts s t u ∧ part ≠ 8 ∧ u.engineReaches e part = false) ∧
    -- clause 10
    (∃ (s : State) (t : Nat) (u : State) (part : _) (line : _), Acts s t u ∧ part ≠ 8 ∧
      u.rf .MCI_PART part 0 16 36 * 64 ≤ line) ∧
    -- clause 11
    (∃ (s : State) (t : Nat) (u : State) (c : _) (p : _) (g : _) (k : _) (part : _) (line : _), Acts s t u ∧ part ≠ 8 ∧
      u.engineReaches (some (c, p, g)) part = true ∧ u.launchedTask c p g = some k ∧ u.rf .MCI_PART part 0 16 36 * 64 ≤ line) :=
  ⟨⟨{ live with engs := [(0, { runs := [{ task := 0, tag := 7 }] })] }, 0, _, .tiler, 0, 7, 0, ⟨by decide, rfl⟩, by decide⟩,
   ⟨{ live with engs := [(0, { runs := [{ task := 0, tag := 7 }] })] }, 0, _, .tiler, 0, 7, 0, 0, 0, 8, ⟨by decide, rfl⟩,
     by decide, by decide, by decide⟩,
   ⟨{ live with engs := [(0, { runs := [{ task := 0, tag := 7 }] })], tasks := [(0, task0 .tiler 1)] }, 0, _, .tiler, 0, 7, 1,
     0, 8, ⟨by decide, rfl⟩, by decide⟩,
   ⟨live, 0, _, .tiler, 0, 7, 8, 0, 8, [⟨[], 0, []⟩], List.replicate 8 0, ⟨by decide, rfl⟩, by decide, by decide, by decide,
     by decide⟩,
   ⟨{ sized 1 with reads := [⟨.adminFetch, .mem, 0, 64⟩] }, 0, _, .adminFetch, _, 0, 0, 64, [⟨[], 0, []⟩], List.replicate 8 0,
     ⟨by decide, rfl⟩, by decide, rfl, by decide, by decide, by decide⟩,
   ⟨{ sized 1 with reads := [⟨.adminFetch, .mem, 0, 64⟩], sec := { ctrs := [(0, [(0, 1)])] } }, 0, _, .adminFetch, _, 0, 0, 64,
     [⟨[], 1, []⟩], [], (1, 0, 0), ⟨by decide, rfl⟩, by decide, rfl, by decide, by decide, by decide +kernel⟩,
   ⟨live, 0, _, ⟨by decide, rfl⟩⟩,
   ⟨sized 1, 0, _, none, 0, 63, ⟨by decide, rfl⟩, by decide, by decide, by decide, by decide, by decide⟩,
   ⟨{ live with engs := [(0, { runs := [{ task := 0, tag := 7 }] })], tasks := [(0, task0 .tiler 1)] }, 0, _, some (.tiler, 0,
     7), 1, ⟨by decide, rfl⟩, by decide, by decide⟩,
   ⟨sized 1, 0, _, 0, 64, ⟨by decide, rfl⟩, by decide, by decide⟩,
   ⟨{ live with engs := [(0, { runs := [{ task := 0, tag := 7 }] })] }, 0, _, .tiler, 0, 7, 0, 0, 0, ⟨by decide, rfl⟩,
     by decide, by decide, by decide, by decide⟩⟩

/-- States and operands that meet the hypotheses of the clauses of `Obligations.EngineAnswersAreApplied`. -/
theorem test_meets_EngineAnswersAreApplied :
    -- clause 1
    (∃ (s : State) (t : Nat) (u : State), Acts s t u) ∧
    -- clause 2
    (∃ (s : State) (t : Nat) (u : State) (op : CtlOp), Acts s t u ∧ op ≠ .clean ∧ op ≠ .scrub) ∧
    -- clause 3
    (∃ (s : State) (t : Nat) (u : State) (c : Cls) (p : _), Acts s t u ∧ c ≠ .cores ∧
      (Tab.getD u.engs (engNo c p) {}).ctl = some .scrub) ∧
    -- clause 4
    (∃ (s : State) (t : Nat) (u : State) (c : Cls) (tag : _) (st : _), Acts s t u ∧
      (c = .comp → st = 0 → u.compHas tag = false) ∧ u.regrowing = true ∧ u.regrow.dones.length < 1024) ∧
    -- clause 5
    (∃ (s : State) (t : Nat) (u : State) (tag : _), Acts s t u ∧ u.compHas tag = true) ∧
    -- clause 6
    (∃ (s : State) (t : Nat) (u : State) (c : Cls) (p : _) (tag : _) (st : _) (r : _), Acts s t u ∧
      (c = .comp → st = 0 → u.compHas tag = false) ∧ u.regrowing = false ∧ c ≠ .cores ∧
      (Tab.getD u.engs (engNo c p) {}).runs.filter (fun r => r.tag == tag) = [r]) ∧
    -- clause 7
    (∃ (s : State) (t : Nat) (u : State) (c : Cls) (p : _) (tag : _) (st : _) (r : _), Acts s t u ∧
      (c = .comp → st = 0 → u.compHas tag = false) ∧ u.regrowing = false ∧ c ≠ .cores ∧ st ≠ 2 ∧ st ≠ 3 ∧
      (Tab.getD u.engs (engNo c p) {}).runs.find? (fun r => r.tag == tag) = some r) ∧
    -- clause 8
    (∃ (s : State) (t : Nat) (u : State) (p : _) (tag : _) (st : _) (r : _), Acts s t u ∧ u.regrowing = false ∧ st ≠ 4 ∧
      (nth u.cores p {}).run = some r ∧ r.tag = tag) ∧
    -- clause 9
    (∃ (s : State) (t : Nat) (u : State) (p : _) (tag : _), Acts s t u ∧ u.regrowing = false ∧
      u.trims.any (fun x => x.victim == p && x.tag == tag) = true) ∧
    -- clause 10
    (∃ (s : State) (t : Nat) (u : State) (c : Cls) (p : _) (tag : _) (st : _), Acts s t u ∧
      (c = .comp → st = 0 → u.compHas tag = false) ∧ u.regrowing = false ∧ c ≠ .cores ∧
      (Tab.getD u.engs (engNo c p) {}).runs.find? (fun r => r.tag == tag) = none) :=
  ⟨⟨live, 0, _, ⟨by decide, rfl⟩⟩,
   ⟨live, 0, _, .drain, ⟨by decide, rfl⟩, by decide, by decide⟩,
   ⟨{ live with engs := [(0, { ctl := some .scrub })] }, 0, _, .tiler, 0, ⟨by decide, rfl⟩, by decide, by decide⟩,
   ⟨live.setB .ERR_STAT 0 0 1 true, 0, _, .cores, 0, 0, ⟨by decide, rfl⟩, by decide, by decide, by decide⟩,
   ⟨{ live with engs := [(6, { owed := [(0, 7)] })] }, 0, _, 7, ⟨by decide, rfl⟩, by decide⟩,
   ⟨{ live with engs := [(0, { runs := [{ task := 0, tag := 7 }] })] }, 0, _, .tiler, 0, 7, 0, _, ⟨by decide, rfl⟩, by decide,
     by decide, by decide, rfl⟩,
   ⟨{ live with engs := [(0, { runs := [{ task := 0, tag := 7 }, { task := 1, tag := 7 }] })] }, 0, _, .tiler, 0, 7, 0, _,
     ⟨by decide, rfl⟩, by decide, by decide, by decide, by decide, by decide, rfl⟩,
   ⟨{ live with cores := [{ run := some { task := 0, tag := 7 } }] }, 0, _, 0, 7, 0, _, ⟨by decide, rfl⟩, by decide, by decide,
     rfl, rfl⟩,
   ⟨{ live with trims := [{ victim := 0, thief := 1, task := 0, tried := [], oldLast := 0, tag := 7 }] }, 0, _, 0, 7,
     ⟨by decide, rfl⟩, by decide, by decide⟩,
   ⟨live, 0, _, .tiler, 0, 7, 0, ⟨by decide, rfl⟩, by decide, by decide, by decide, by decide⟩⟩

/-- States and operands that meet the hypotheses of the clauses of `Obligations.SagLinesMoveTheStretch`. -/
theorem test_meets_SagLinesMoveTheStretch :
    -- clause 1
    (∃ (s : State) (t : Nat) (u : State) (l : _), Acts s t u ∧ l < 16 ∧ u.gov.rung < 2 ∧ u.rb .GOV_SAG_CFG 0 0 5 = true ∧
      u.critical = false ∧ (∃ g ∈ sagGroups l, u.gov.sagUp.getLsbD g = false)) ∧
    -- clause 1, another value
    (∃ (s : State) (t : Nat) (u : State) (l : _), Acts s t u ∧ l < 16 ∧ u.gov.rung < 2 ∧ u.rb .GOV_SAG_CFG 0 0 5 = true ∧
      u.critical = false ∧ (∃ g ∈ sagGroups l, u.gov.sagUp.getLsbD g = false)) ∧
    -- clause 2
    (∃ (s : State) (t : Nat) (u : State) (l : _), Acts s t u ∧ l < 16 ∧ u.gov.rung < 2 ∧ u.rb .GOV_SAG_CFG 0 0 5 = false) ∧
    -- clause 3
    (∃ (s : State) (t : Nat) (u : State), Acts s t u ∧ 2 ≤ u.gov.rung) ∧
    -- clause 4
    (∃ (s : State) (t : Nat) (u : State) (l : _), Acts s t u ∧ l < 16 ∧ u.rb .GOV_SAG_STAT 0 0 l = true) ∧
    -- clause 4, another value
    (∃ (s : State) (t : Nat) (u : State) (l : _), Acts s t u ∧ l < 16 ∧ u.rb .GOV_SAG_STAT 0 0 l = true) ∧
    -- clause 5
    (∃ (s : State) (t : Nat) (u : State) (g : _) (a : _), Acts s t u ∧ Tab.get? u.gov.fallAt g = some a ∧ a + 200 ≤ u.ref ∧
      u.critical = false) ∧
    -- clause 6
    (∃ (s : State) (t : Nat) (u : State) (g : _) (a : _), Acts s t u ∧ Tab.get? u.gov.fallAt g = some a ∧ u.ref < a + 200) :=
  ⟨⟨live.setB .GOV_SAG_CFG 0 0 5 true, 0, _, 0, ⟨by decide, rfl⟩, by decide, by decide, by decide, by decide, by decide⟩,
   ⟨live.setB .GOV_SAG_CFG 0 0 5 true, 0, _, 15, ⟨by decide, rfl⟩, by decide, by decide, by decide, by decide, by decide⟩,
   ⟨live.setB .GOV_SAG_CFG 0 0 5 false, 0, _, 15, ⟨by decide, rfl⟩, by decide, by decide, by decide⟩,
   ⟨{ live with gov := { rung := 2 } }, 0, _, ⟨by decide, rfl⟩, by decide⟩,
   ⟨live.setB .GOV_SAG_STAT 0 0 0 true, 0, _, 0, ⟨by decide, rfl⟩, by decide, by decide⟩,
   ⟨{ live.setB .GOV_SAG_STAT 0 0 15 true with gov := { rung := 1 } }, 0, _, 15, ⟨by decide, rfl⟩, by decide, by decide⟩,
   ⟨{ live with ref := 200, gov := { fallAt := [(0, 0)] } }, 0, _, 0, _, ⟨by decide, rfl⟩, rfl, by decide, by decide⟩,
   ⟨{ live with ref := 199, gov := { fallAt := [(0, 0)] } }, 0, _, 0, _, ⟨by decide, rfl⟩, rfl, by decide⟩⟩

/-- States and operands that meet the hypotheses of the clauses of `Obligations.SamplesDriveTheGovernor`. -/
theorem test_meets_SamplesDriveTheGovernor :
    -- clause 1
    (∃ (s : State) (t : Nat) (u : State) (m : _), Acts s t u ∧ m < 48 ∧ (nth u.cores m {}).run = none) ∧
    -- clause 1, another value
    (∃ (s : State) (t : Nat) (u : State) (m : _), Acts s t u ∧ m < 48 ∧ (nth u.cores m {}).run = none) ∧
    -- clause 2
    (∃ (s : State) (t : Nat) (u : State), Acts s t u ∧ u.tasks = []) ∧
    -- clause 3
    (∃ (s : State) (t : Nat) (u : State), Runs s t u ∧ u.gov.rung < 4) ∧
    -- clause 4
    (∃ (s : State) (t : Nat) (u : State), Runs s t u ∧ 4 ≤ u.gov.rung) ∧
    -- clause 5
    (∃ (n : _) (x : _), n < 64 ∧ freshSample (some x) = true) ∧
    -- clause 6
    (∃ (s : State) (t : Nat) (u : State), Acts s t u ∧ 4 ≤ u.gov.rung) ∧
    -- clause 7
    (∃ (s : State) (t : Nat) (u : State), Acts s t u ∧ u.gov.rung < 4) ∧
    -- clause 8
    (∃ (s : State) (t : Nat) (u : State) (c : _) (p : _), Acts s t u ∧ c < 4 ∧ Tab.get? u.gov.vfReq c = some p ∧ p < 16) :=
  ⟨⟨live, 0, _, 47, ⟨by decide, rfl⟩, by decide, by decide⟩,
   ⟨live, 0, _, 0, ⟨by decide, rfl⟩, by decide, by decide⟩,
   ⟨live, 0, _, ⟨by decide, rfl⟩, by decide⟩,
   ⟨{ live with gov := { rung := 3 } }, 0, _, ⟨by decide, rfl⟩, by decide⟩,
   ⟨{ live with gov := { rung := 4 } }, 0, _, ⟨by decide, rfl⟩, by decide⟩,
   ⟨63, 0, by decide, by decide⟩,
   ⟨{ live with gov := { rung := 4 } }, 0, _, ⟨by decide, rfl⟩, by decide⟩,
   ⟨{ live with gov := { rung := 3 } }, 0, _, ⟨by decide, rfl⟩, by decide⟩,
   ⟨{ live with gov := { vfReq := [(3, 15)] } }, 0, _, 3, _, ⟨by decide, rfl⟩, by decide, rfl, by decide⟩⟩

/-- States and operands that meet the hypotheses of the clauses of `Obligations.DiscreteInputsAcceptAndQuench`. -/
theorem test_meets_DiscreteInputsAcceptAndQuench :
    -- clause 1
    (∃ (n : _), 9 ≤ n) ∧
    -- clause 2
    (∃ (s : State) (t : Nat) (n : _) (pin : _), (n = 0 ∨ (5 ≤ n ∧ n < 9)) ∧ (s.at t).alive = true ∧
      (pin != (s.at t).rb .VXB_DIN_CFG n 0 32) = true ∧ (s.at t).rb .VXB_DIN_STAT n 0 2 = false ∧
      (s.at t).rb .VXB_DIN_CFG n 0 36 = true ∧ (s.at t).rb .VXB_DIN_STAT n 0 1 = false ∧ ((s.at t).din n).last = none) ∧
    -- clause 2, another value
    (∃ (s : State) (t : Nat) (n : _) (pin : _), (n = 0 ∨ (5 ≤ n ∧ n < 9)) ∧ (s.at t).alive = true ∧
      (pin != (s.at t).rb .VXB_DIN_CFG n 0 32) = true ∧ (s.at t).rb .VXB_DIN_STAT n 0 2 = false ∧
      (s.at t).rb .VXB_DIN_CFG n 0 36 = true ∧ (s.at t).rb .VXB_DIN_STAT n 0 1 = false ∧ ((s.at t).din n).last = none) ∧
    -- clause 2, another value
    (∃ (s : State) (t : Nat) (n : _) (pin : _), (n = 0 ∨ (5 ≤ n ∧ n < 9)) ∧ (s.at t).alive = true ∧
      (pin != (s.at t).rb .VXB_DIN_CFG n 0 32) = true ∧ (s.at t).rb .VXB_DIN_STAT n 0 2 = false ∧
      (s.at t).rb .VXB_DIN_CFG n 0 36 = true ∧ (s.at t).rb .VXB_DIN_STAT n 0 1 = false ∧ ((s.at t).din n).last = none) ∧
    -- clause 3
    (∃ (s : State) (t : Nat) (n : _) (pin : _) (u : State), 1 ≤ n ∧ n ≤ 4 ∧ (s.at t).alive = true ∧
      (pin != (s.at t).rb .VXB_DIN_CFG n 0 32) = true ∧ (s.at t).rb .VXB_DIN_STAT n 0 2 = false ∧
      (s.at t).rb .VXB_DIN_CFG n 0 36 = true ∧ (s.at t).rb .VXB_DIN_STAT n 0 1 = false ∧ ((s.at t).din n).last = none ∧
      u = ((s.at t).setB .VXB_DIN_STAT n 0 2 true).updDin n (fun d => { d with since := (s.at t).ref })) ∧
    -- clause 3, another value
    (∃ (s : State) (t : Nat) (n : _) (pin : _) (u : State), 1 ≤ n ∧ n ≤ 4 ∧ (s.at t).alive = true ∧
      (pin != (s.at t).rb .VXB_DIN_CFG n 0 32) = true ∧ (s.at t).rb .VXB_DIN_STAT n 0 2 = false ∧
      (s.at t).rb .VXB_DIN_CFG n 0 36 = true ∧ (s.at t).rb .VXB_DIN_STAT n 0 1 = false ∧ ((s.at t).din n).last = none ∧
      u = ((s.at t).setB .VXB_DIN_STAT n 0 2 true).updDin n (fun d => { d with since := (s.at t).ref })) ∧
    -- clause 4
    (∃ (s : State) (t : Nat) (n : _) (pin : _), 5 ≤ n ∧ n < 9 ∧ (s.at t).alive = true ∧
      (pin != (s.at t).rb .VXB_DIN_CFG n 0 32) = true ∧ (s.at t).rb .VXB_DIN_STAT n 0 2 = false ∧
      (s.at t).rb .VXB_DIN_CFG n 0 36 = true ∧ (s.at t).rb .VXB_DIN_STAT n 0 1 = true) ∧
    -- clause 4, another value
    (∃ (s : State) (t : Nat) (n : _) (pin : _), 5 ≤ n ∧ n < 9 ∧ (s.at t).alive = true ∧
      (pin != (s.at t).rb .VXB_DIN_CFG n 0 32) = true ∧ (s.at t).rb .VXB_DIN_STAT n 0 2 = false ∧
      (s.at t).rb .VXB_DIN_CFG n 0 36 = true ∧ (s.at t).rb .VXB_DIN_STAT n 0 1 = true) ∧
    -- clause 5
    (∃ (s : State) (t : Nat) (n : _) (pin : _) (a : _), 5 ≤ n ∧ n < 9 ∧ (s.at t).alive = true ∧
      (pin != (s.at t).rb .VXB_DIN_CFG n 0 32) = true ∧ (s.at t).rb .VXB_DIN_STAT n 0 2 = false ∧
      (s.at t).rb .VXB_DIN_CFG n 0 36 = true ∧ (s.at t).rb .VXB_DIN_STAT n 0 1 = false ∧ ((s.at t).din n).last = some a ∧
      (s.at t).ref < a + (s.at t).rf .VXB_DIN_CFG n 0 0 16 * 1000) ∧
    -- clause 6
    (∃ (s : State) (t : Nat) (u : State) (n : _), Acts s t u ∧ n < 9 ∧ u.rb .VXB_DIN_CFG n 0 36 = true ∧
      u.rf .VXB_DIN_CFG n 0 16 16 ≠ 0 ∧ (u.din n).armed = true ∧ u.rb .VXB_DIN_STAT n 0 2 = true ∧
      (u.din n).since + u.rf .VXB_DIN_CFG n 0 16 16 * 1000 ≤ u.ref ∧ u.rb .VXB_DIN_STAT n 0 1 = false) ∧
    -- clause 7
    (∃ (s : State) (t : Nat) (who : Who) (u : State) (n : _), Writes s t who .glob u ∧ n < 9 ∧ u.rb .VXB_DIN_STAT n 0 0 = true ∧
      (u.din n).last ≠ some u.ref) ∧
    -- clause 8
    (∃ (s : State) (t : Nat) (who : Who) (u : State) (n : _), Writes s t who .glob u ∧ (u.din n).last = some u.ref) ∧
    -- clause 9
    (∃ (s : State) (t : Nat) (who : Who) (u : State) (n : _), Writes s t who .glob u ∧ n < 9 ∧
      u.rb .VXB_DIN_STAT n 0 2 = false) ∧
    -- clause 10
    (∃ (s : State) (t : Nat) (who : Who) (u : State) (n : _), Writes s t who .glob u ∧ n < 9 ∧
      u.rb .VXB_DIN_STAT n 0 2 = true) :=
  ⟨⟨9, by decide⟩,
   ⟨(live.setB .VXB_DIN_CFG 0 0 36 true), 0, 0, true, by decide, by decide, by decide, by decide, by decide, by decide,
     by decide⟩,
   ⟨(live.setB .VXB_DIN_CFG 8 0 36 true), 0, 8, true, by decide, by decide, by decide, by decide, by decide, by decide,
     by decide⟩,
   ⟨(live.setB .VXB_DIN_CFG 5 0 36 true), 0, 5, true, by decide, by decide, by decide, by decide, by decide, by decide,
     by decide⟩,
   ⟨live.setB .VXB_DIN_CFG 1 0 36 true, 0, 1, false, _, by decide, by decide, by decide, by decide, by decide, by decide,
     by decide, by decide, rfl⟩,
   ⟨live.setB .VXB_DIN_CFG 4 0 36 true, 0, 4, false, _, by decide, by decide, by decide, by decide, by decide, by decide,
     by decide, by decide, rfl⟩,
   ⟨(live.setB .VXB_DIN_CFG 5 0 36 true).setB .VXB_DIN_STAT 5 0 1 true, 0, 5, true, by decide, by decide, by decide, by decide,
     by decide, by decide, by decide⟩,
   ⟨(live.setB .VXB_DIN_CFG 8 0 36 true).setB .VXB_DIN_STAT 8 0 1 true, 0, 8, true, by decide, by decide, by decide, by decide,
     by decide, by decide, by decide⟩,
   ⟨{ (live.setB .VXB_DIN_CFG 5 0 36 true).setF .VXB_DIN_CFG 5 0 0 16 1 with ref := 999, dins := [(5, { last := some 0 })] }, 0,
     5, true, _, by decide, by decide, by decide, by decide, by decide, by decide, by decide, rfl, by decide⟩,
   ⟨{ ((live.setB .VXB_DIN_CFG 8 0 36 true).setF .VXB_DIN_CFG 8 0 16 16 1).setB .VXB_DIN_STAT 8 0 2 true with ref := 1000, dins := [(8, { armed := true })] },
     0, _, 8, ⟨by decide, rfl⟩, by decide, by decide, by decide, by decide, by decide, by decide, by decide⟩,
   ⟨live.setB .VXB_DIN_STAT 8 0 0 true, 0, .fn 0, _, 8, ⟨by decide, rfl⟩, by decide, by decide, by decide⟩,
   ⟨{ live with dins := [(8, { last := some 0 })] }, 0, .fn 0, _, 8, ⟨by decide, rfl⟩, rfl⟩,
   ⟨live, 0, .fn 0, _, 8, ⟨by decide, rfl⟩, by decide, by decide⟩,
   ⟨live.setB .VXB_DIN_STAT 8 0 2 true, 0, .fn 0, _, 8, ⟨by decide, rfl⟩, by decide, by decide⟩⟩

/-- States and operands that meet the hypotheses of the clauses of `Obligations.DebugPortSelectsAndShifts`. -/
theorem test_meets_DebugPortSelectsAndShifts :
    -- clause 5
    (∃ (c : _), c < 256) ∧
    -- clause 7
    (∃ (s : State) (t : Nat), (s.at t).rb .OBS_STOP_CFG 0 0 0 = false) ∧
    -- clause 8
    (∃ (s : State) (t : Nat), (s.at t).scanReady = true) ∧
    -- clause 9
    (∃ (s : State) (t : Nat), (s.at t).scanReady = false) :=
  ⟨⟨255, by decide⟩,
   ⟨live.setB .OBS_STOP_CFG 0 0 0 false, 0, by decide⟩,
   ⟨(live.setB .OBS_STOP_STAT 0 0 0 true).setB .OBS_STOP_CFG 0 0 0 true, 0, by decide⟩,
   ⟨live, 0, by decide⟩⟩

/-- States and operands that meet the hypotheses of the clauses of `Obligations.RegisterAccessesReachTheirRegister`. -/
theorem test_meets_RegisterAccessesReachTheirRegister :
    -- clause 1
    (∃ (s : State) (t : Nat) (who : Who) (win : _) (u : State) (off : _) (x : _), Writes s t who win u ∧ off % 8 = 0 ∧
      regOf win off = some x ∧ x.1.spec.wide = true) ∧
    -- clause 2
    (∃ (s : State) (t : Nat) (who : Who) (win : _) (u : State) (off : _) (x : _), Writes s t who win u ∧ off % 4 = 0 ∧
      regOf win off = some x ∧ x.1.spec.wide = false) ∧
    -- clause 3
    (∃ (s : State) (t : Nat) (who : Who) (win : _), ((s.at t).reaches who win && (s.at t).mayWrite who) = false) ∧
    -- clause 4
    (∃ (s : State) (t : Nat) (who : Who) (win : _) (u : State) (off : _) (x : _), Reads s t who win x.1 u ∧ off % 8 = 0 ∧
      regOf win off = some x ∧ x.1.spec.wide = true ∧ x.1 ≠ .EV_FN_VALUE) ∧
    -- clause 5
    (∃ (s : State) (t : Nat) (who : Who) (win : _), (s.at t).reaches who win = false) ∧
    -- clause 6
    (∃ (s : State) (t : Nat), (s.at t).inSession .mgmt = false) ∧
    -- clauses 7, 8, 9
    (∃ (s : State) (t : Nat), (s.at t).inSession .mgmt = true) :=
  ⟨⟨live, 0, .fn 0, .glob, _, 0, _, ⟨by decide, rfl⟩, by decide, rfl, by decide⟩,
   ⟨live, 0, .fn 0, .glob, _, 0x418, _, ⟨by decide, rfl⟩, by decide, rfl, by decide⟩,
   ⟨live, 0, .fn 1, .glob, by decide⟩,
   ⟨live, 0, .fn 0, .glob, _, 0, _, ⟨by decide, by decide, rfl⟩, by decide, rfl, by decide, by decide⟩,
   ⟨live, 0, .fn 1, .glob, by decide⟩,
   ⟨live, 0, by decide⟩,
   ⟨managed, 0, by decide⟩⟩

/-- States and operands that meet the hypotheses of the clauses of `Obligations.DoorbellsPublishEntries`. -/
theorem test_meets_DoorbellsPublishEntries :
    -- clause 1
    (∃ (s : State) (t : Nat) (fn : _) (slot : _) (n : _) (v : _) (u : State) (q : _) (x : _), Writes s t (.fn fn) (.own fn) u ∧
      (n = 4 ∨ n = 8) ∧ NoErrorArmed u ∧ u.sqAt fn slot = some (q, x) ∧ u.fnInTd fn = false ∧ u.rb .ADM_STAT fn 0 2 = false ∧
      (x.state = .active ∨ x.state = .held) ∧ piOk x.ci x.pi ((dbValue n v).setWidth 32) x.log2 = true) ∧
    -- clause 1, another value
    (∃ (s : State) (t : Nat) (fn : _) (slot : _) (n : _) (v : _) (u : State) (q : _) (x : _), Writes s t (.fn fn) (.own fn) u ∧
      (n = 4 ∨ n = 8) ∧ NoErrorArmed u ∧ u.sqAt fn slot = some (q, x) ∧ u.fnInTd fn = false ∧ u.rb .ADM_STAT fn 0 2 = false ∧
      (x.state = .active ∨ x.state = .held) ∧ piOk x.ci x.pi ((dbValue n v).setWidth 32) x.log2 = true) ∧
    -- clause 2
    (∃ (s : State) (t : Nat) (fn : _) (slot : _) (n : _) (v : _) (u : State) (q : _) (x : _), Writes s t (.fn fn) (.own fn) u ∧
      (n = 4 ∨ n = 8) ∧ NoErrorArmed u ∧ u.sqAt fn slot = some (q, x) ∧ u.fnInTd fn = false ∧ u.rb .ADM_STAT fn 0 2 = false ∧
      (x.state = .active ∨ x.state = .held) ∧ piOk x.ci x.pi ((dbValue n v).setWidth 32) x.log2 = false) ∧
    -- clause 2, another value
    (∃ (s : State) (t : Nat) (fn : _) (slot : _) (n : _) (v : _) (u : State) (q : _) (x : _), Writes s t (.fn fn) (.own fn) u ∧
      (n = 4 ∨ n = 8) ∧ NoErrorArmed u ∧ u.sqAt fn slot = some (q, x) ∧ u.fnInTd fn = false ∧ u.rb .ADM_STAT fn 0 2 = false ∧
      (x.state = .active ∨ x.state = .held) ∧ piOk x.ci x.pi ((dbValue n v).setWidth 32) x.log2 = false) ∧
    -- clause 3
    (∃ (s : State) (t : Nat) (fn : _) (slot : _) (n : _) (u : State), Writes s t (.fn fn) (.own fn) u ∧ (n = 4 ∨ n = 8) ∧
      NoErrorArmed u ∧ u.sqAt fn slot = none) ∧
    -- clause 4
    (∃ (n : _), n ≠ 4 ∧ n ≠ 8) :=
  ⟨⟨queued, 0, 0, 0, 4, 16, _, _, _, ⟨by decide, rfl⟩, by decide, ⟨rfl, rfl⟩, rfl, by decide, by decide, by decide, by decide⟩,
   ⟨queued, 0, 0, 0, 8, 16, _, _, _, ⟨by decide, rfl⟩, by decide, ⟨rfl, rfl⟩, rfl, by decide, by decide, by decide, by decide⟩,
   ⟨queued, 0, 0, 0, 4, 17, _, _, _, ⟨by decide, rfl⟩, by decide, ⟨rfl, rfl⟩, rfl, by decide, by decide, by decide, by decide⟩,
   ⟨queued, 0, 0, 0, 8, 17, _, _, _, ⟨by decide, rfl⟩, by decide, ⟨rfl, rfl⟩, rfl, by decide, by decide, by decide, by decide⟩,
   ⟨assigned, 0, 0, 0, 8, _, ⟨by decide, rfl⟩, by decide, ⟨rfl, rfl⟩, by decide⟩,
   ⟨2, by decide, by decide⟩⟩

/-- States and operands that meet the hypotheses of the clauses of `Obligations.IndexWritesAreChecked`. -/
theorem test_meets_IndexWritesAreChecked :
    -- clause 1
    (∃ (s : State) (t : Nat) (who : Who) (n : _) (k : _) (u : State) (c : _) (x : _) (v : _), Writes s t who (.own n) u ∧
      u.crAt n k = some (c, x) ∧ (x.state = .active ∨ x.state = .held) ∧ Machine.ciOk x.pi x.ci v = true) ∧
    -- clause 2
    (∃ (s : State) (t : Nat) (who : Who) (n : _) (k : _) (u : State) (c : _) (x : _) (v : _), Writes s t who (.own n) u ∧
      u.crAt n k = some (c, x) ∧ (x.state = .active ∨ x.state = .held) ∧ Machine.ciOk x.pi x.ci v = false) ∧
    -- clause 3
    (∃ (s : State) (t : Nat) (who : Who) (n : _) (u : State) (v : _), Writes s t who (.own n) u ∧
      Machine.ciOk (BitVec.ofNat 32 (u.rf .ADM_CR_PI n 0 0 32)) (BitVec.ofNat 32 (u.rf .ADM_CR_CI n 0 0 32)) v = true) ∧
    -- clause 4
    (∃ (s : State) (t : Nat) (who : Who) (n : _) (u : State) (v : _), Writes s t who (.own n) u ∧
      Machine.ciOk (BitVec.ofNat 32 (u.rf .ADM_CR_PI n 0 0 32)) (BitVec.ofNat 32 (u.rf .ADM_CR_CI n 0 0 32)) v = false) ∧
    -- clause 5
    (∃ (s : State) (t : Nat) (who : Who) (r : _) (u : State) (v : _), Writes s t who .glob u ∧
      Machine.ciOk (BitVec.ofNat 32 (u.rf .TRC_RING_PI r 0 0 32)) (BitVec.ofNat 32 (u.rf .TRC_RING_CI r 0 0 32)) v = true) ∧
    -- clause 6
    (∃ (s : State) (t : Nat) (who : Who) (r : _) (u : State) (v : _), Writes s t who .glob u ∧
      Machine.ciOk (BitVec.ofNat 32 (u.rf .TRC_RING_PI r 0 0 32)) (BitVec.ofNat 32 (u.rf .TRC_RING_CI r 0 0 32)) v = false) ∧
    -- clause 7
    (∃ (s : State) (t : Nat) (who : Who) (n : _) (r : _) (u : State) (v : _), Writes s t who (.own n) u ∧ u.fnPart n = some r ∧
      Machine.ciOk (BitVec.ofNat 32 (u.rf .TRC_RING_PI r 0 0 32)) (BitVec.ofNat 32 (u.rf .TRC_RING_CI r 0 0 32)) v = true) ∧
    -- clause 8
    (∃ (s : State) (t : Nat) (u : State) (v : _), Writes s t (.fn 0) (.own 0) u ∧ u.rb .ADM_STAT 0 0 0 = true ∧
      u.rb .ADM_STAT 0 0 2 = false ∧ u.fnInTd 0 = false ∧
      piOk (u.admCi 0) (BitVec.ofNat 32 (u.rf .ADM_SQ_PI 0 0 0 32)) v (admLog2 (u.rf .ADM_CFG 0 0 0 4)) = true) ∧
    -- clause 9
    (∃ (s : State) (t : Nat) (n : _) (u : State) (v : _), Writes s t (.fn n) (.own n) u ∧ u.rb .ADM_STAT n 0 0 = true ∧
      u.rb .ADM_STAT n 0 2 = false ∧ u.fnInTd n = false ∧
      piOk (u.admCi n) (BitVec.ofNat 32 (u.rf .ADM_SQ_PI n 0 0 32)) v (admLog2 (u.rf .ADM_CFG n 0 0 4)) = false) ∧
    -- clause 10
    (∃ (s : State) (t : Nat) (n : _) (u : State) (v : _), 0 < n ∧ Writes s t (.fn n) (.own n) u ∧ u.rb .ADM_STAT n 0 0 = true ∧
      u.rb .ADM_STAT n 0 2 = false ∧ u.fnInTd n = false ∧
      piOk (u.admCi n) (BitVec.ofNat 32 (u.rf .ADM_SQ_PI n 0 0 32)) v (admLog2 (u.rf .ADM_CFG n 0 0 4)) = true) ∧
    -- clause 11
    (∃ (s : State) (t : Nat) (n : _) (u : State), Writes s t (.fn n) (.own n) u ∧ u.rb .ADM_STAT n 0 1 = true ∧
      u.rb .ADM_STAT n 0 2 = false ∧ Tab.get? u.admHeld n = none) :=
  ⟨⟨{ queued with crs := [(0, { cr0 with pi := 1 })] }, 0, .fn 0, 0, 0, _, _, _, 1, ⟨by decide, rfl⟩, rfl, by decide,
    by decide⟩,
   ⟨queued, 0, .fn 0, 0, 0, _, _, _, 1, ⟨by decide, rfl⟩, rfl, by decide, by decide⟩,
   ⟨live, 0, .fn 0, 0, _, 0, ⟨by decide, rfl⟩, by decide⟩,
   ⟨live, 0, .fn 0, 0, _, 1, ⟨by decide, rfl⟩, by decide⟩,
   ⟨live, 0, .fn 0, 0, _, 0, ⟨by decide, rfl⟩, by decide⟩,
   ⟨live, 0, .fn 0, 0, _, 1, ⟨by decide, rfl⟩, by decide⟩,
   ⟨assigned, 0, .fn 0, 0, _, _, 0, ⟨by decide, rfl⟩, rfl, by decide⟩,
   ⟨assigned.setB .ADM_STAT 0 0 0 true, 0, _, 0, ⟨by decide, rfl⟩, by decide, by decide, by decide, by decide⟩,
   ⟨(live.setF .VXB_VF_EN 0 0 0 6 63).setB .ADM_STAT 63 0 0 true, 0, 63, _, 17, ⟨by decide, rfl⟩, by decide, by decide,
     by decide, by decide⟩,
   ⟨(live.setF .VXB_VF_EN 0 0 0 6 63).setB .ADM_STAT 63 0 0 true, 0, 63, _, 0, by decide, ⟨by decide, rfl⟩, by decide,
     by decide, by decide, by decide⟩,
   ⟨assigned.setB .ADM_STAT 0 0 1 true, 0, 0, _, ⟨by decide, rfl⟩, by decide, by decide, by decide⟩⟩

/-- States and operands that meet the hypotheses of the clauses of `Obligations.ScannerVisitsInOrder`. -/
theorem test_meets_ScannerVisitsInOrder :
    -- clause 1
    (∃ (s : State) (t : Nat) (u : State) (q : _) (r : _), Fronts s t u ∧ NoErrorArmed u ∧ u.scan.urgent = q :: r) ∧
    -- clause 1, another value
    (∃ (s : State) (t : Nat) (u : State) (q : _) (r : _), Fronts s t u ∧ NoErrorArmed u ∧ u.scan.urgent = q :: r) ∧
    -- clause 2
    (∃ (s : State) (t : Nat) (u : State), Fronts s t u ∧ u.scan.urgent = []) ∧
    -- clause 3
    (∃ (s : State) (t : Nat) (u : State) (q : _) (r : _), Fronts s t u ∧ NoErrorArmed u ∧ u.scan.urgent = [] ∧ 0 < u.poolFree ∧
      u.scan.short = q :: r ∧ u.shortOpen q = true) ∧
    -- clause 4
    (∃ (s : State) (t : Nat) (u : State), Fronts s t u ∧ u.scan.urgent = [] ∧
      (u.scan.short.any u.shortOpen = false ∨ u.poolFree = 0)) ∧
    -- clause 5
    (∃ (s : State) (t : Nat) (u : State) (q : _), Fronts s t u ∧ NoErrorArmed u ∧ u.scan.urgent = [] ∧
      u.scan.short.any u.shortOpen = false ∧ u.overdue = some q) ∧
    -- clause 6
    (∃ (u : State) (q : _) (x : _) (c : _) (n : _) (a : _), Tab.get? u.sqs q = some x ∧ u.sqOpen x = true ∧
      Tab.get? u.crs x.cr = some c ∧ u.gov.rung < 3 ∧
      n = min (x.pi - x.fetched).toNat (min (min (x.depth - x.buffered) u.poolFree) c.free) ∧ 0 < n ∧
      x.fetched.toNat % ringSize x.log2 + n ≤ ringSize x.log2 ∧
      a = x.base + BitVec.ofNat 64 (64 * (x.fetched.toNat % ringSize x.log2)) ∧ u.closed (u.portOf a) = false) :=
  ⟨⟨{ live with scan := { urgent := [none] } }, 0, _, _, _, ⟨by decide, rfl, by decide⟩, ⟨rfl, rfl⟩, rfl⟩,
   ⟨{ queued with scan := { urgent := [some 0] } }, 0, _, _, _, ⟨by decide, rfl, by decide⟩, ⟨rfl, rfl⟩, rfl⟩,
   ⟨live, 0, _, ⟨by decide, rfl, by decide⟩, by decide⟩,
   ⟨{ queued with scan := { short := [some 0] } }, 0, _, _, _, ⟨by decide, rfl, by decide⟩, ⟨rfl, rfl⟩, by decide, by decide,
     rfl, by decide⟩,
   ⟨queued, 0, _, ⟨by decide, rfl, by decide⟩, by decide, by decide⟩,
   ⟨queued, 0, _, some 0, ⟨by decide, rfl, by decide⟩, ⟨rfl, rfl⟩, by decide, by decide, by decide⟩,
   ⟨{ queued with sqs := [(0, { sq0 with pi := 1 })] }, 0, _, _, 1, _, rfl, by decide, rfl, by decide, rfl, by decide,
     by decide, rfl, by decide⟩⟩

/-- States and operands that meet the hypotheses of the clauses of `Obligations.EntriesAreAcceptedInOrder`. -/
theorem test_meets_EntriesAreAcceptedInOrder :
    -- clause 1
    (∃ (s : State) (t : Nat) (u : State) (q : _) (o : _) (es : _) (data : _), Acts s t u ∧ u.frontRuns = true ∧
      u.readOf (.entryFetch q) none = some o ∧ u.outRefused o = false ∧
      es = (cutEntries 8 data).take (u.readBytes (.entryFetch q) none / 64)) ∧
    -- clause 2
    (∃ (s : State) (t : Nat) (u : State) (q : _) (o : _), Acts s t u ∧ u.readOf (.entryFetch q) none = some o ∧
      u.outRefused o = true) ∧
    -- clause 3
    (∃ (s : State) (t : Nat) (u : State) (q : _), Acts s t u ∧ u.readOf (.entryFetch q) none = none) ∧
    -- clause 4
    (∃ (u : State) (q : _) (x : _) (e : _) (r : _) (f : _), Tab.get? u.sqs q = some x ∧ x.arrived = e :: r ∧
      sqEntryBad x e = false ∧ (∀ p, u.waiters.head? = some p → p = q) ∧ u.freeFlight = some f) ∧
    -- clause 5
    (∃ (u : State) (q : _) (x : _) (e : _) (r : _), Tab.get? u.sqs q = some x ∧ x.arrived = e :: r ∧ sqEntryBad x e = true) ∧
    -- clause 6
    (∃ (u : State) (q : _) (x : _) (e : _) (r : _), Tab.get? u.sqs q = some x ∧ x.arrived = e :: r ∧ sqEntryBad x e = false ∧
      (u.freeFlight = none ∨ ∃ p, u.waiters.head? = some p ∧ p ≠ q)) ∧
    -- clause 6, another value
    (∃ (u : State) (q : _) (x : _) (e : _) (r : _), Tab.get? u.sqs q = some x ∧ x.arrived = e :: r ∧ sqEntryBad x e = false ∧
      (u.freeFlight = none ∨ ∃ p, u.waiters.head? = some p ∧ p ≠ q)) ∧
    -- clause 7
    (∃ (s : State) (t : Nat) (u : State) (q : _) (r : _), Fronts s t u ∧ u.waiters = q :: r) ∧
    -- clause 8
    (∃ (s : State) (t : Nat) (u : State), Fronts s t u ∧ u.waiters = []) :=
  ⟨⟨{ queued with reads := [⟨.entryFetch 0, .host, 2 ^ 40, 64⟩] }, 0, _, 0, _, _, [2], ⟨by decide, rfl⟩, by decide, rfl,
    by decide, rfl⟩,
   ⟨{ queued with reads := [⟨.entryFetch 0, .mem, 2 ^ 30, 64⟩] }, 0, _, 0, _, ⟨by decide, rfl⟩, rfl, by decide⟩,
   ⟨queued, 0, _, 0, ⟨by decide, rfl⟩, by decide⟩,
   ⟨crowded 0, 0, _, _, _, 0, rfl, rfl, by decide, by decide, by decide +kernel⟩,
   ⟨{ queued with sqs := [(0, { sq0 with arrived := [[mkWord [(0, 8, 3)], 0, 0, 0]] })] }, 0, _, _, _, rfl, rfl, by decide⟩,
   ⟨crowded 8192, 0, _, _, _, rfl, rfl, by decide, .inl (full_has_no_free _ (crowded_flights 8192))⟩,
   ⟨{ queued with sqs := [(0, { sq0 with arrived := [[2, 0, 0, 0]] }), (1, { sq0 with arrived := [[2, 0, 0, 0]] })], scan := { visits := [(1, 1), (0, 1)] } },
     0, _, _, _, rfl, rfl, by decide, .inr ⟨1, rfl, by decide⟩⟩,
   ⟨{ queued with sqs := [(0, { sq0 with arrived := [[2, 0, 0, 0]] })], scan := { visits := [(0, 1)] } }, 0, _, _, _,
     ⟨by decide, rfl, by decide⟩, rfl⟩,
   ⟨queued, 0, _, ⟨by decide, rfl, by decide⟩, by decide⟩⟩

/-- States and operands that meet the hypotheses of the clauses of `Obligations.AdminCommandsComplete`. -/
theorem test_meets_AdminCommandsComplete :
    -- clause 1
    (∃ (s : State) (t : Nat) (u : State) (e : _), Starts s t 0 e u) ∧
    -- clause 2
    (∃ (s : State) (t : Nat) (u : State) (e : _), Starts s t 7 e u ∧ e.f 1 16 16 ≠ 0 ∧ u.ctxOf e.acting (e.f 1 0 10) = true ∧
      u.ctxInTd (e.f 1 0 10) = false) ∧
    -- clause 3
    (∃ (s : State) (t : Nat) (u : State) (e : _) (b : _), Starts s t 9 e u ∧ e.f 1 0 8 ≤ 3 ∧ (e.f 1 0 8 = 3 → e.f 1 16 12 = 0) ∧
      (e.qw 2).toNat % 64 = 0 ∧ u.queryBlock e.acting (e.f 1 0 8) (e.f 1 16 12) = some b ∧
      u.refused (u.fnPart e.acting) (e.qw 2) 64 = false) ∧
    -- clause 3, another value
    (∃ (s : State) (t : Nat) (u : State) (e : _) (b : _), Starts s t 9 e u ∧ e.f 1 0 8 ≤ 3 ∧ (e.f 1 0 8 = 3 → e.f 1 16 12 = 0) ∧
      (e.qw 2).toNat % 64 = 0 ∧ u.queryBlock e.acting (e.f 1 0 8) (e.f 1 16 12) = some b ∧
      u.refused (u.fnPart e.acting) (e.qw 2) 64 = false) ∧
    -- clause 4
    (∃ (s : State) (t : Nat) (u : State) (e : _), Starts s t 10 e u ∧ e.oboEn = false) ∧
    -- clause 5
    (∃ (s : State) (t : Nat) (u : State), Acts s t u ∧ u.inSession .mgmt = true) ∧
    -- clause 6
    (∃ (s : State) (t : Nat) (u : State) (e : _) (c : _), Starts s t 11 e u ∧ Tab.get? u.crs (e.f 1 0 10) = some c ∧
      c.fn = e.acting ∧ c.state ≠ .held) ∧
    -- clause 7
    (∃ (s : State) (t : Nat) (u : State) (e : _) (c : _), Starts s t 11 e u ∧ Tab.get? u.crs (e.f 1 0 10) = some c ∧
      c.fn = e.acting ∧ c.state = .held ∧ u.crOf e.acting (e.f 1 0 10) = true ∧
      (u.sqs.filter (fun q => q.2.cr == e.f 1 0 10)) = []) :=
  ⟨⟨admin [0], 0, _, _, ⟨⟨by decide, rfl, by decide⟩, ⟨rfl, rfl⟩, rfl, by decide, by decide, by decide, by decide⟩⟩,
   ⟨admin [7, mkWord [(0, 10, 0), (16, 16, 65535)]], 0, _, _, ⟨⟨by decide, rfl, by decide⟩, ⟨rfl, rfl⟩, rfl, by decide,
     by decide, by decide, by decide⟩, by decide, by decide, by decide⟩,
   ⟨admin [9, 0, 2 ^ 40], 0, _, _, _, ⟨⟨by decide, rfl, by decide⟩, ⟨rfl, rfl⟩, rfl, by decide, by decide, by decide,
     by decide⟩, by decide, by decide, by decide, rfl, by decide⟩,
   ⟨admin [9, 3, 2 ^ 40], 0, _, _, _, ⟨⟨by decide, rfl, by decide⟩, ⟨rfl, rfl⟩, rfl, by decide, by decide, by decide,
     by decide⟩, by decide, by decide, by decide, rfl, by decide⟩,
   ⟨admin [10, 0, 0], 0, _, _, ⟨⟨by decide, rfl, by decide⟩, ⟨rfl, rfl⟩, rfl, by decide, by decide, by decide, by decide⟩,
     by decide⟩,
   ⟨managed, 0, _, ⟨by decide, rfl⟩, by decide⟩,
   ⟨admin [11, 0], 0, _, _, _, ⟨⟨by decide, rfl, by decide⟩, ⟨rfl, rfl⟩, rfl, by decide, by decide, by decide, by decide⟩, rfl,
     by decide, by decide⟩,
   ⟨{ admin [11, 0] with crs := [(0, { cr0 with state := .held })], sqs := [] }, 0, _, _, _, ⟨⟨by decide, rfl, by decide⟩, ⟨rfl,
     rfl⟩, rfl, by decide, by decide, by decide, by decide⟩, rfl, by decide, by decide, by decide, by decide⟩⟩

/-- States and operands that meet the hypotheses of the clauses of `Obligations.AdminObjectsComeAndGo`. -/
theorem test_meets_AdminObjectsComeAndGo :
    -- clause 1
    (∃ (s : State) (t : Nat) (u : State) (e : _) (q : _), Starts s t 1 e u ∧ 4 ≤ (e.f 2 0 5) ∧ (e.f 2 0 5) ≤ 16 ∧
      u.ringOk (e.qw 1) (64 * 2 ^ (e.f 2 0 5)) = true ∧ ¬ (225 ≤ (e.f 2 8 8) ∧ (e.f 2 8 8) ≤ 254) ∧ (e.qw 3).toNat % 8 = 0 ∧
      u.ctxOf e.acting (e.f 2 32 10) = true ∧ u.crOf e.acting (e.f 2 42 10) = true ∧ u.crBusy (e.f 2 42 10) = false ∧
      u.ctxInTd (e.f 2 32 10) = false ∧ u.dbTaken e.acting (e.f 2 21 11) = false ∧ u.sqUsed e.acting < u.sqMax e.acting ∧
      u.freeSq = some q ∧
      ({ u with sqs := Tab.set u.sqs q ({ fn := e.acting, ctx := e.f 2 32 10, cr := e.f 2 42 10, base := e.qw 1, log2 := (e.f 2 0 5), poll := (e.f 2 8 8), depth := e.f 2 16 3 + 1, irq := bitOf (e.qw 2) 19, dbSlot := e.f 2 21 11, seqAddr := e.qw 3, drainUs := if e.f 4 0 16 = 0 then 200 else e.f 4 0 16, due := u.ref }) }).seqRefused q = false) ∧
    -- clause 2
    (∃ (s : State) (t : Nat) (u : State) (e : _) (x : _), Starts s t 2 e u ∧ u.sqOf e.acting (e.f 1 0 12) = true ∧
      Tab.get? u.sqs (e.f 1 0 12) = some x ∧ x.state ≠ .destroying ∧ x.state ≠ .halted ∧
      u.td.any (fun d => d.kind == .destroySq && d.obj == e.f 1 0 12) = false) ∧
    -- clause 3
    (∃ (s : State) (t : Nat) (u : State) (e : _) (r : _), Starts s t 3 e u ∧ 4 ≤ (e.f 2 0 5) ∧ (e.f 2 0 5) ≤ 16 ∧
      u.ringOk (e.qw 1) (32 * 2 ^ (e.f 2 0 5)) = true ∧ e.qw 3 = 0 ∧ u.dbTaken e.acting (e.f 2 11 11) = false ∧
      u.crUsed e.acting < u.crMax e.acting ∧ u.freeCr = some r) ∧
    -- clause 4
    (∃ (s : State) (t : Nat) (u : State) (e : _) (x : _), Starts s t 4 e u ∧ u.crOf e.acting (e.f 1 0 10) = true ∧
      Tab.get? u.crs (e.f 1 0 10) = some x ∧ x.state ≠ .destroying ∧ x.state ≠ .halted ∧ u.bound (e.f 1 0 10) = 0) ∧
    -- clause 5
    (∃ (s : State) (t : Nat) (u : State) (e : _) (c : _) (p : _), Starts s t 5 e u ∧ e.f 1 0 16 ≠ 0 ∧
      bitOf (e.qw 1) 16 = false ∧ u.ctxUsed e.acting < u.ctxMax e.acting ∧ u.freeCtxId = some c ∧ u.fnPart e.acting = some p) ∧
    -- clause 6
    (∃ (s : State) (t : Nat) (u : State) (e : _), Starts s t 6 e u ∧ u.ctxOf e.acting (e.f 1 0 10) = true ∧
      u.ctxInTd (e.f 1 0 10) = false ∧ u.sqs.any (fun x => x.2.ctx == e.f 1 0 10) = false ∧ u.cyc.pending = none) ∧
    -- clause 7
    (∃ (s : State) (t : Nat) (u : State) (e : _) (p : _), Starts s t 8 e u ∧ e.unbinds = false ∧ 1 ≤ e.f 1 16 17 ∧
      e.f 1 0 16 + e.f 1 16 17 ≤ 65536 ∧ u.fnPart e.acting = some p ∧
      u.events.any (fun v => e.f 1 0 16 ≤ v.1 && v.1 < e.f 1 0 16 + e.f 1 16 17 && some v.2.part != some p) = false) ∧
    -- clause 7, another value
    (∃ (s : State) (t : Nat) (u : State) (e : _) (p : _), Starts s t 8 e u ∧ e.unbinds = false ∧ 1 ≤ e.f 1 16 17 ∧
      e.f 1 0 16 + e.f 1 16 17 ≤ 65536 ∧ u.fnPart e.acting = some p ∧
      u.events.any (fun v => e.f 1 0 16 ≤ v.1 && v.1 < e.f 1 0 16 + e.f 1 16 17 && some v.2.part != some p) = false) ∧
    -- clause 8
    (∃ (s : State) (t : Nat) (u : State) (e : _) (p : _), Starts s t 8 e u ∧ e.unbinds = true ∧ 1 ≤ e.f 1 16 17 ∧
      e.f 1 0 16 + e.f 1 16 17 ≤ 65536 ∧ u.fnPart e.acting = some p ∧
      u.events.any (fun v => e.f 1 0 16 ≤ v.1 && v.1 < e.f 1 0 16 + e.f 1 16 17 && some v.2.part != some p) = false) :=
  ⟨⟨admin [1, 2 ^ 43, mkWord [(0, 5, 4), (21, 11, 1)], 2 ^ 41], 0, _, _, 1, ⟨⟨by decide, rfl, by decide⟩, ⟨rfl, rfl⟩, rfl,
    by decide, by decide, by decide, by decide⟩, by decide, by decide, by decide, by decide, by decide, by decide, by decide,
    by decide, by decide, by decide, by decide, by decide +kernel, by decide⟩,
   ⟨admin [2, 0], 0, _, _, _, ⟨⟨by decide, rfl, by decide⟩, ⟨rfl, rfl⟩, rfl, by decide, by decide, by decide, by decide⟩,
     by decide, rfl, by decide, by decide, by decide⟩,
   ⟨admin [3, 2 ^ 43, mkWord [(0, 5, 16), (11, 11, 1)]], 0, _, _, 1, ⟨⟨by decide, rfl, by decide⟩, ⟨rfl, rfl⟩, rfl, by decide,
     by decide, by decide, by decide⟩, by decide, by decide, by decide, by decide, by decide, by decide, by decide⟩,
   ⟨{ admin [4, 0] with sqs := [] }, 0, _, _, _, ⟨⟨by decide, rfl, by decide⟩, ⟨rfl, rfl⟩, rfl, by decide, by decide, by decide,
     by decide⟩, by decide, rfl, by decide, by decide, by decide⟩,
   ⟨admin [5, 1], 0, _, _, 1, _, ⟨⟨by decide, rfl, by decide⟩, ⟨rfl, rfl⟩, rfl, by decide, by decide, by decide, by decide⟩,
     by decide, by decide, by decide, by decide +kernel, rfl⟩,
   ⟨{ admin [6, 0] with sqs := [] }, 0, _, _, ⟨⟨by decide, rfl, by decide⟩, ⟨rfl, rfl⟩, rfl, by decide, by decide, by decide,
     by decide⟩, by decide, by decide, by decide, by decide⟩,
   ⟨admin [8, mkWord [(0, 16, 65535), (16, 17, 1)]], 0, _, _, _, ⟨⟨by decide, rfl, by decide⟩, ⟨rfl, rfl⟩, rfl, by decide,
     by decide, by decide, by decide⟩, by decide, by decide, by decide, rfl, by decide⟩,
   ⟨admin [8, mkWord [(0, 16, 0), (16, 17, 65536)]], 0, _, _, _, ⟨⟨by decide, rfl, by decide⟩, ⟨rfl, rfl⟩, rfl, by decide,
     by decide, by decide, by decide⟩, by decide, by decide, by decide, rfl, by decide⟩,
   ⟨admin [8, mkWord [(0, 16, 65535), (16, 17, 1), (33, 1, 1)]], 0, _, _, _, ⟨⟨by decide, rfl, by decide⟩, ⟨rfl, rfl⟩, rfl,
     by decide, by decide, by decide, by decide⟩, by decide, by decide, by decide, rfl, by decide⟩⟩

/-- States and operands that meet the hypotheses of the clauses of `Obligations.SubmissionsRetireInOrder`. -/
theorem test_meets_SubmissionsRetireInOrder :
    -- clause 1
    (∃ (s : State) (t : Nat) (u : State) (f : _) (x : _), Acts s t u ∧ u.regrowing = false ∧ Tab.get? u.flights f = some x ∧
      x.inTeardown = false ∧ x.out = [] ∧ x.pend = [] ∧ x.wait = none ∧ x.marker = true) ∧
    -- clause 2
    (∃ (s : State) (t : Nat) (u : State) (f : _) (x : _), Acts s t u ∧ u.regrowing = false ∧ Tab.get? u.flights f = some x ∧
      x.inTeardown = false ∧ x.out = [] ∧ x.pend = [] ∧ x.wait = none ∧ x.marker = false ∧ x.ending = none ∧ x.atRest = true) ∧
    -- clause 3
    (∃ (s : State) (t : Nat) (u : State) (f : _) (x : _) (e : _) (q : _), Acts s t u ∧ u.regrowing = false ∧
      Tab.get? u.flights f = some x ∧ x.inTeardown = false ∧ x.out = [] ∧ x.pend = [] ∧ x.wait = none ∧ x.marker = false ∧
      x.ending = some e ∧ Tab.get? u.sqs x.sq = some q ∧ q.state ≠ .destroying) ∧
    -- clause 4
    (∃ (u : State) (f : _) (x : _) (q : _), Tab.get? u.flights f = some x ∧ Tab.get? u.sqs x.sq = some q ∧
      u.crHeld x.sq = true ∧ q.held.length < 16) ∧
    -- clause 4, another value
    (∃ (u : State) (f : _) (x : _) (q : _), Tab.get? u.flights f = some x ∧ Tab.get? u.sqs x.sq = some q ∧
      u.crHeld x.sq = true ∧ q.held.length < 16) ∧
    -- clause 5
    (∃ (u : State) (p : Cpl) (c : _) (r : _), Tab.get? u.crs c = some r ∧ p.stage = 0 ∧
      u.refused (u.fnPart r.fn) r.slot 32 = false ∧ r.piShadow = 0) ∧
    -- clause 6
    (∃ (u : State) (p : Cpl) (x : _), Tab.get? u.sqs p.sq = some x ∧ (Tab.get? u.crs x.cr).isSome = true ∧ p.stage = 2 ∧
      p.irqDue = false ∧ x.retired = [] ∧ p.seq = x.retiredSeq + 1 ∧ u.seqRefused p.sq = false ∧
      u.closed (u.portOf x.seqAddr) = false ∧ u.gov.rung < 3) :=
  ⟨⟨running { flight0 with marker := true }, 0, _, 0, _, ⟨by decide, rfl⟩, by decide, rfl, by decide, by decide, by decide,
    by decide, by decide⟩,
   ⟨running { flight0 with seqr := none }, 0, _, 0, _, ⟨by decide, rfl⟩, by decide, rfl, by decide, by decide, by decide,
     by decide, by decide, by decide, by decide⟩,
   ⟨running { flight0 with ending := some { status := 4, off := 0, layer := 0, op := 0, at0 := 0 } }, 0, _, 0, _, _, _,
     ⟨by decide, rfl⟩, by decide, rfl, by decide, by decide, by decide, by decide, by decide, rfl, rfl, by decide⟩,
   ⟨{ running flight0 with crs := [(0, { cr0 with state := .held })] }, 0, _, _, rfl, rfl, by decide, by decide⟩,
   ⟨{ running flight0 with crs := [(0, { cr0 with state := .held })], sqs := [(0, { sq0 with held := List.replicate 15 { sq := 0, seq := 0, entry := [], irqDue := false } })] },
     0, _, _, rfl, rfl, by decide, by decide⟩,
   ⟨queued, { sq := 0, seq := 1, entry := [], irqDue := false }, 0, _, rfl, by decide, by decide, by decide⟩,
   ⟨queued, { sq := 0, seq := 1, entry := [], irqDue := false, stage := 2 }, _, rfl, by decide, by decide, by decide, by decide,
     rfl, by decide, by decide, by decide⟩⟩

/-- States and operands that meet the hypotheses of the clauses of `Obligations.ScalarCommandsWriteTheirRegister`. -/
theorem test_meets_ScalarCommandsWriteTheirRegister :
    -- clause 1
    (∃ (s : State) (t : Nat) (f : _) (x : _) (ws : _) (u : State), Issues s t f 0x00 x ws u) ∧
    -- clause 2
    (∃ (s : State) (t : Nat) (f : _) (x : _) (ws : _) (u : State), Issues s t f 0x14 x ws u) ∧
    -- clause 3
    (∃ (s : State) (t : Nat) (f : _) (x : _) (ws : _) (u : State), Issues s t f 0x18 x ws u ∧ fld (cw ws 1) 4 2 = 0) ∧
    -- clause 4
    (∃ (s : State) (t : Nat) (f : _) (x : _) (ws : _) (u : State), Issues s t f 0x18 x ws u ∧ fld (cw ws 1) 4 2 = 1) ∧
    -- clause 5
    (∃ (s : State) (t : Nat) (f : _) (x : _) (ws : _) (u : State) (a : _), Issues s t f 0x18 x ws u ∧ fld (cw ws 1) 4 2 = 2 ∧
      x.addrOf (cw ws 2) 8 = some a ∧ u.refused (u.ctxPart x.ctx) a 8 = false) ∧
    -- clause 6
    (∃ (s : State) (t : Nat) (f : _) (x : _) (ws : _) (u : State) (a : _), Issues s t f 0x18 x ws u ∧ fld (cw ws 1) 4 2 = 3 ∧
      x.addrOf (cw ws 2) 8 = some a ∧ u.refused (u.ctxPart x.ctx) a 8 = false) ∧
    -- clause 7
    (∃ (s : State) (t : Nat) (f : _) (x : _) (ws : _) (u : State) (m : Option Word) (a : _), Issues s t f 0x18 x ws u ∧
      fld (cw ws 1) 4 2 = 3 ∧ x.addrOf (cw ws 2) 8 = some a ∧ (u.refused (u.ctxPart x.ctx) a 8 = true ∨ m = none)) ∧
    -- clause 7, another value
    (∃ (s : State) (t : Nat) (f : _) (x : _) (ws : _) (u : State) (m : Option Word) (a : _), Issues s t f 0x18 x ws u ∧
      fld (cw ws 1) 4 2 = 3 ∧ x.addrOf (cw ws 2) 8 = some a ∧ (u.refused (u.ctxPart x.ctx) a 8 = true ∨ m = none)) ∧
    -- clause 8
    (∃ (s : State) (t : Nat) (f : _) (x : _) (ws : _) (u : State), Issues s t f 0x19 x ws u) ∧
    -- clause 9
    (∃ (s : State) (t : Nat) (f : _) (x : _) (ws : _) (u : State), Issues s t f 0x1A x ws u) ∧
    -- clause 10
    (∃ (s : State) (t : Nat) (f : _) (x : _) (ws : _) (u : State), Issues s t f 0x22 x ws u) :=
  ⟨⟨running (stream [hd 0 1 0]), 0, 0, _, _, _, ⟨by decide, rfl, by decide, by decide, by decide, rfl, by decide, by decide,
    rfl⟩⟩,
   ⟨running (stream [hd 0x14 1 0]), 0, 0, _, _, _, ⟨by decide, rfl, by decide, by decide, by decide, rfl, by decide, by decide,
     rfl⟩⟩,
   ⟨running (stream [hd 0x18 3 0, mkWord [(4, 2, 0)], 0]), 0, 0, _, _, _, ⟨by decide, rfl, by decide, by decide, by decide, rfl,
     by decide, by decide, rfl⟩, by decide⟩,
   ⟨running (stream [hd 0x18 3 0, mkWord [(4, 2, 1)], 0]), 0, 0, _, _, _, ⟨by decide, rfl, by decide, by decide, by decide, rfl,
     by decide, by decide, rfl⟩, by decide⟩,
   ⟨running (stream [hd 0x18 3 0, mkWord [(4, 2, 2)], 2 ^ 40]), 0, 0, _, _, _, _, ⟨by decide, rfl, by decide, by decide,
     by decide, rfl, by decide, by decide, rfl⟩, by decide, rfl, by decide⟩,
   ⟨running (stream [hd 0x18 3 0, mkWord [(4, 2, 3)], 2 ^ 40]), 0, 0, _, _, _, _, ⟨by decide, rfl, by decide, by decide,
     by decide, rfl, by decide, by decide, rfl⟩, by decide, rfl, by decide⟩,
   ⟨running (stream [hd 0x18 3 0, mkWord [(4, 2, 3)], 64]), 0, 0, _, _, _, some 0, _, ⟨by decide, rfl, by decide, by decide,
     by decide, rfl, by decide, by decide, rfl⟩, by decide, rfl, by decide⟩,
   ⟨running (stream [hd 0x18 3 0, mkWord [(4, 2, 3)], 2 ^ 40]), 0, 0, _, _, _, none, _, ⟨by decide, rfl, by decide, by decide,
     by decide, rfl, by decide, by decide, rfl⟩, by decide, rfl, by decide⟩,
   ⟨running (stream [hd 0x19 3 0, 0, 1]), 0, 0, _, _, _, ⟨by decide, rfl, by decide, by decide, by decide, rfl, by decide,
     by decide, rfl⟩⟩,
   ⟨running (stream [hd 0x1A 3 0, 0, 1]), 0, 0, _, _, _, ⟨by decide, rfl, by decide, by decide, by decide, rfl, by decide,
     by decide, rfl⟩⟩,
   ⟨running (stream [hd 0x22 2 0, 1]), 0, 0, _, _, _, ⟨by decide, rfl, by decide, by decide, by decide, rfl, by decide,
     by decide, rfl⟩⟩⟩

/-- States and operands that meet the hypotheses of the clauses of `Obligations.LoopsSkipsAndCallsMoveThePlace`. -/
theorem test_meets_LoopsSkipsAndCallsMoveThePlace :
    -- clause 1
    (∃ (s : State) (t : Nat) (f : _) (x : _) (ws : _) (u : State) (o : _), Issues s t f 0x1B x ws u ∧
      (nth x.k (fld (cw ws 1) 0 2) false != bitOf (cw ws 1) 2) = true ∧ x.walk ws = some (.done o)) ∧
    -- clause 2
    (∃ (s : State) (t : Nat) (f : _) (x : _) (ws : _) (u : State), Issues s t f 0x1B x ws u ∧
      (nth x.k (fld (cw ws 1) 0 2) false != bitOf (cw ws 1) 2) = false) ∧
    -- clause 3
    (∃ (s : State) (t : Nat) (f : _) (x : _) (ws : _) (u : State), Issues s t f 0x1C x ws u ∧ x.loops.length < 4 ∧
      0 < x.trips (cw ws 1) ∧ x.trips (cw ws 1) ≤ 0xFFFFFFFF) ∧
    -- clause 3, another value
    (∃ (s : State) (t : Nat) (f : _) (x : _) (ws : _) (u : State), Issues s t f 0x1C x ws u ∧ x.loops.length < 4 ∧
      0 < x.trips (cw ws 1) ∧ x.trips (cw ws 1) ≤ 0xFFFFFFFF) ∧
    -- clause 4
    (∃ (s : State) (t : Nat) (f : _) (x : _) (ws : _) (u : State) (o : _), Issues s t f 0x1C x ws u ∧ x.loops.length < 4 ∧
      x.trips (cw ws 1) = 0 ∧ x.walk ws = some (.done o)) ∧
    -- clause 5
    (∃ (s : State) (t : Nat) (f : _) (x : _) (ws : _) (u : State), Issues s t f 0x1C x ws u ∧ x.loops.length = 4) ∧
    -- clause 6
    (∃ (s : State) (t : Nat) (f : _) (x : _) (ws : _) (u : State) (l : _), Issues s t f 0x1D x ws u ∧
      x.loops.getLast? = some l ∧ l.trips = 1) ∧
    -- clause 7
    (∃ (s : State) (t : Nat) (f : _) (x : _) (ws : _) (u : State) (l : _), Issues s t f 0x1D x ws u ∧
      x.loops.getLast? = some l ∧ l.trips ≠ 1) ∧
    -- clause 8
    (∃ (s : State) (t : Nat) (f : _) (x : _) (ws : _) (u : State) (a : _), Issues s t f 0x1F x ws u ∧
      x.addrOf (cw ws 1) 1 = some a) ∧
    -- clause 9
    (∃ (s : State) (t : Nat) (f : _) (x : _) (ws : _) (u : State) (a : _), Issues s t f 0x1E x ws u ∧ (cw ws 1).toNat < 64 ∧
      x.romResolve (cw ws 1).toNat (ws.drop 2) = some a) ∧
    -- clause 10
    (∃ (s : State) (t : Nat) (f : _) (x : _) (ws : _) (u : State), Issues s t f 0x1E x ws u ∧ (cw ws 1).toNat < 64 ∧
      x.romResolve (cw ws 1).toNat (ws.drop 2) = none) ∧
    -- clause 11
    (∃ (s : State) (t : Nat) (f : _) (x : _) (ws : _) (u : State) (n : _), Issues s t f 0x1E x ws u ∧ 64 ≤ (cw ws 1).toNat ∧
      x.seqr = some n ∧ u.rb .MCS_RTN (cw ws 1).toNat 0 28 = true ∧
      u.rf .MCS_RTN (cw ws 1).toNat 0 24 4 ≤ (ws.drop 2).length) :=
  ⟨⟨running (stream [hd 0x1B 2 0, mkWord [(2, 1, 1), (4, 4, 1)], hd 0 1 0]), 0, 0, _, _, _, 24, ⟨by decide, rfl, by decide,
    by decide, by decide, rfl, by decide, by decide, rfl⟩, by decide, by decide⟩,
   ⟨running (stream [hd 0x1B 2 0, mkWord [(4, 4, 1)], hd 0 1 0]), 0, 0, _, _, _, ⟨by decide, rfl, by decide, by decide,
     by decide, rfl, by decide, by decide, rfl⟩, by decide⟩,
   ⟨running (stream [hd 0x1C 2 0, 0xFFFFFFFF]), 0, 0, _, _, _, ⟨by decide, rfl, by decide, by decide, by decide, rfl, by decide,
     by decide, rfl⟩, by decide, by decide, by decide⟩,
   ⟨running { stream [hd 0x1C 2 0, 1] with loops := List.replicate 3 { trips := 1, body := 0 } }, 0, 0, _, _, _, ⟨by decide,
     rfl, by decide, by decide, by decide, rfl, by decide, by decide, rfl⟩, by decide, by decide, by decide⟩,
   ⟨running (stream [hd 0x1C 2 0, 0, hd 0x1D 1 0]), 0, 0, _, _, _, 24, ⟨by decide, rfl, by decide, by decide, by decide, rfl,
     by decide, by decide, rfl⟩, by decide, by decide, by decide⟩,
   ⟨running { stream [hd 0x1C 2 0, 1] with loops := List.replicate 4 { trips := 1, body := 0 } }, 0, 0, _, _, _, ⟨by decide,
     rfl, by decide, by decide, by decide, rfl, by decide, by decide, rfl⟩, by decide⟩,
   ⟨running { stream [hd 0x1D 1 0] with loops := [{ trips := 1, body := 0 }] }, 0, 0, _, _, _, _, ⟨by decide, rfl, by decide,
     by decide, by decide, rfl, by decide, by decide, rfl⟩, rfl, by decide⟩,
   ⟨running { stream [hd 0x1D 1 0] with loops := [{ trips := 2, body := 0 }] }, 0, 0, _, _, _, _, ⟨by decide, rfl, by decide,
     by decide, by decide, rfl, by decide, by decide, rfl⟩, rfl, by decide⟩,
   ⟨running (stream [hd 0x1F 3 0, 0x7FFFFFFFFFFFFFFF, 0]), 0, 0, _, _, _, _, ⟨by decide, rfl, by decide, by decide, by decide,
     rfl, by decide, by decide, rfl⟩, rfl⟩,
   ⟨running (stream [hd 0x1E 4 0, 10, 0, 1]), 0, 0, _, _, _, _, ⟨by decide, rfl, by decide, by decide, by decide, rfl,
     by decide, by decide, rfl⟩, by decide, rfl⟩,
   ⟨running (stream [hd 0x1E 2 0, 63]), 0, 0, _, _, _, ⟨by decide, rfl, by decide, by decide, by decide, rfl, by decide,
     by decide, rfl⟩, by decide, by decide⟩,
   ⟨(running (stream [hd 0x1E 2 0, 64])).setB .MCS_RTN 64 0 28 true, 0, 0, _, _, _, _, ⟨by decide, rfl, by decide, by decide,
     by decide, rfl, by decide, by decide, rfl⟩, by decide, rfl, by decide, by decide⟩⟩

/-- States and operands that meet the hypotheses of the clauses of `Obligations.EventsAndSemaphoresSynchronise`. -/
theorem test_meets_EventsAndSemaphoresSynchronise :
    -- clause 1
    (∃ (s : State) (t : Nat) (f : _) (x : _) (ws : _) (u : State), Issues s t f 0x10 x ws u ∧ NoErrorArmed u ∧
      u.handleOk x (BitVec.ofNat 32 (fld (cw ws 1) 0 32)) = true ∧ evNode (BitVec.ofNat 32 (fld (cw ws 1) 0 32)) = u.node) ∧
    -- clause 2
    (∃ (s : State) (t : Nat) (f : _) (x : _) (ws : _) (u : State), Issues s t f 0x10 x ws u ∧ NoErrorArmed u ∧
      u.handleOk x (BitVec.ofNat 32 (fld (cw ws 1) 0 32)) = false) ∧
    -- clause 3
    (∃ (s : State) (t : Nat) (f : _) (x : _) (ws : _) (u : State) (e : _), Issues s t f 0x11 x ws u ∧ NoErrorArmed u ∧
      u.handleOk x (BitVec.ofNat 32 (fld (cw ws 1) 0 32)) = true ∧ evNode (BitVec.ofNat 32 (fld (cw ws 1) 0 32)) = u.node ∧
      Tab.get? u.events (evIdx (BitVec.ofNat 32 (fld (cw ws 1) 0 32))) = some e) ∧
    -- clause 3
    (∃ (s : State) (t : Nat) (f : _) (x : _) (ws : _) (u : State) (e : _), Issues s t f 0x11 x ws u ∧ NoErrorArmed u ∧
      u.handleOk x (BitVec.ofNat 32 (fld (cw ws 1) 0 32)) = true ∧ evNode (BitVec.ofNat 32 (fld (cw ws 1) 0 32)) = u.node ∧
      Tab.get? u.events (evIdx (BitVec.ofNat 32 (fld (cw ws 1) 0 32))) = some e ∧
      e.value.toNat < (if bitOf (cw ws 1) 57 then nth x.c (fld (cw ws 1) 58 3) 0 else cw ws 2).toNat ∧ e.abandoned = false) ∧
    -- clause 4
    (∃ (s : State) (t : Nat) (f : _) (x : _) (ws : _) (u : State), Issues s t f 0x12 x ws u ∧ NoErrorArmed u ∧
      fld (cw ws 1) 12 16 = 0 ∧ fld (cw ws 1) 28 4 = u.node ∧ u.semCheck (fld (cw ws 1) 0 12) (u.ctxPart x.ctx) = none ∧
      (u.semOf (fld (cw ws 1) 0 12)).queue = [] ∧ (fld (cw ws 1) 32 32) ≤ (u.semOf (fld (cw ws 1) 0 12)).value) ∧
    -- clause 5
    (∃ (s : State) (t : Nat) (f : _) (x : _) (ws : _) (u : State), Issues s t f 0x12 x ws u ∧ NoErrorArmed u ∧
      fld (cw ws 1) 12 16 = 0 ∧ fld (cw ws 1) 28 4 = u.node ∧ u.semCheck (fld (cw ws 1) 0 12) (u.ctxPart x.ctx) = none ∧
      (u.semOf (fld (cw ws 1) 0 12)).value < (fld (cw ws 1) 32 32)) ∧
    -- clause 6
    (∃ (s : State) (t : Nat) (f : _) (x : _) (ws : _) (u : State), Issues s t f 0x13 x ws u ∧ NoErrorArmed u ∧
      fld (cw ws 1) 12 16 = 0 ∧ fld (cw ws 1) 28 4 = u.node ∧ u.semCheck (fld (cw ws 1) 0 12) (u.ctxPart x.ctx) = none) ∧
    -- clause 7
    (∃ (s : State) (t : Nat) (f : _) (x : _) (ws : _) (u : State), Issues s t f 0x10 x ws u ∧
      u.handleOk x (BitVec.ofNat 32 (fld (cw ws 1) 0 32)) = true ∧ evNode (BitVec.ofNat 32 (fld (cw ws 1) 0 32)) ≠ u.node) ∧
    -- clause 7
    (∃ (s : State) (t : Nat) (f : _) (x : _) (ws : _) (u : State), Issues s t f 0x10 x ws u ∧
      u.handleOk x (BitVec.ofNat 32 (fld (cw ws 1) 0 32)) = true ∧ evNode (BitVec.ofNat 32 (fld (cw ws 1) 0 32)) ≠ u.node ∧
      u.nodeLive (evNode (BitVec.ofNat 32 (fld (cw ws 1) 0 32))) = false) ∧
    -- clause 8
    (∃ (s : State) (t : Nat) (f : _) (x : _) (ws : _) (u : State), Issues s t f 0x11 x ws u ∧
      u.handleOk x (BitVec.ofNat 32 (fld (cw ws 1) 0 32)) = true ∧ evNode (BitVec.ofNat 32 (fld (cw ws 1) 0 32)) ≠ u.node) ∧
    -- clause 8
    (∃ (s : State) (t : Nat) (f : _) (x : _) (ws : _) (u : State), Issues s t f 0x11 x ws u ∧
      u.handleOk x (BitVec.ofNat 32 (fld (cw ws 1) 0 32)) = true ∧ evNode (BitVec.ofNat 32 (fld (cw ws 1) 0 32)) ≠ u.node ∧
      u.nodeLive (evNode (BitVec.ofNat 32 (fld (cw ws 1) 0 32))) = false) ∧
    -- clause 9
    (∃ (s : State) (t : Nat) (f : _) (x : _) (ws : _) (u : State) (n : _), Issues s t f 0x13 x ws u ∧ fld (cw ws 1) 12 16 = 0 ∧
      n = fld (cw ws 1) 28 4 ∧ n ≠ u.node ∧ u.nodeLive n = true) ∧
    -- clause 9
    (∃ (s : State) (t : Nat) (f : _) (x : _) (ws : _) (u : State) (n : _), Issues s t f 0x13 x ws u ∧ fld (cw ws 1) 12 16 = 0 ∧
      n = fld (cw ws 1) 28 4 ∧ n ≠ u.node ∧ u.nodeLive n = false) ∧
    -- clause 10
    (∃ (s : State) (t : Nat) (f : _) (x : _) (ws : _) (u : State) (n : _), Issues s t f 0x12 x ws u ∧ fld (cw ws 1) 12 16 = 0 ∧
      n = fld (cw ws 1) 28 4 ∧ n ≠ u.node ∧ u.nodeLive n = true) ∧
    -- clause 10
    (∃ (s : State) (t : Nat) (f : _) (x : _) (ws : _) (u : State) (n : _), Issues s t f 0x12 x ws u ∧ fld (cw ws 1) 12 16 = 0 ∧
      n = fld (cw ws 1) 28 4 ∧ n ≠ u.node ∧ u.nodeLive n = false) ∧
    -- clause 11
    (∃ (s : State) (t : Nat) (u : State) (f : _) (x : _) (w : _) (d : _), Acts s t u ∧ u.regrowing = false ∧
      Tab.get? u.flights f = some x ∧ x.wait = some w ∧ w.deadline = some d ∧ d < u.ref ∧ x.inTeardown = false ∧
      x.ending = none) ∧
    -- clause 12
    (∃ (s : State) (t : Nat) (u : State) (f : _) (x : _) (w : _) (d : _), Acts s t u ∧ u.regrowing = false ∧
      Tab.get? u.flights f = some x ∧ x.wait = some w ∧ w.deadline = some d ∧ u.ref ≤ d) :=
  ⟨⟨{ running (stream [hd 0x10 3 0, 65535, 1]) with events := [(65535, { part := 0, value := 0 })] }, 0, 0, _, _, _, ⟨by decide,
    rfl, by decide, by decide, by decide, rfl, by decide, by decide, rfl⟩, ⟨rfl, rfl⟩, by decide, by decide⟩,
   ⟨running (stream [hd 0x10 3 0, 0, 1]), 0, 0, _, _, _, ⟨by decide, rfl, by decide, by decide, by decide, rfl, by decide,
     by decide, rfl⟩, ⟨rfl, rfl⟩, by decide⟩,
   ⟨{ running (stream [hd 0x11 3 0, 0, 1]) with events := [(0, { part := 0, value := 1 })] }, 0, 0, _, _, _, _, ⟨by decide, rfl,
     by decide, by decide, by decide, rfl, by decide, by decide, rfl⟩, ⟨rfl, rfl⟩, by decide, rfl, rfl⟩,
   ⟨{ running (stream [hd 0x11 3 0, 0, 1]) with events := [(0, { part := 0, value := 0 })] }, 0, 0, _, _, _, _, ⟨by decide, rfl,
     by decide, by decide, by decide, rfl, by decide, by decide, rfl⟩, ⟨rfl, rfl⟩, by decide, rfl, rfl, by decide, by decide⟩,
   ⟨{ running (stream [hd 0x12 3 0, mkWord [(0, 12, 0), (32, 32, 1)], 0]) with sems := [(0, { bound := true, value := 1 })] },
     0, 0, _, _, _, ⟨by decide, rfl, by decide, by decide, by decide, rfl, by decide, by decide, rfl⟩, ⟨rfl, rfl⟩, by decide,
     rfl, by decide, by decide, by decide⟩,
   ⟨{ running (stream [hd 0x12 3 0, mkWord [(0, 12, 4095), (32, 32, 1)], 0]) with sems := [(4095, { bound := true })] }, 0, 0,
     _, _, _, ⟨by decide, rfl, by decide, by decide, by decide, rfl, by decide, by decide, rfl⟩, ⟨rfl, rfl⟩, by decide, rfl,
     by decide, by decide⟩,
   ⟨{ running (stream [hd 0x13 2 0, mkWord [(0, 12, 4095), (32, 32, 1)]]) with sems := [(4095, { bound := true })] }, 0, 0, _,
     _, _, ⟨by decide, rfl, by decide, by decide, by decide, rfl, by decide, by decide, rfl⟩, ⟨rfl, rfl⟩, by decide, by decide,
     by decide⟩,
   ⟨running (stream [hd 0x10 3 0, 2 ^ 28, 1]), 0, 0, _, _, _, ⟨by decide, rfl, by decide, by decide, by decide, rfl, by decide,
     by decide, rfl⟩, by decide, by decide⟩,
   ⟨running (stream [hd 0x10 3 0, 2 ^ 28, 1]), 0, 0, _, _, _, ⟨by decide, rfl, by decide, by decide, by decide, rfl, by decide,
     by decide, rfl⟩, by decide, by decide, by decide⟩,
   ⟨running (stream [hd 0x11 3 0, 2 ^ 28, 1]), 0, 0, _, _, _, ⟨by decide, rfl, by decide, by decide, by decide, rfl, by decide,
     by decide, rfl⟩, by decide, by decide⟩,
   ⟨running (stream [hd 0x11 3 0, 2 ^ 28, 1]), 0, 0, _, _, _, ⟨by decide, rfl, by decide, by decide, by decide, rfl, by decide,
     by decide, rfl⟩, by decide, by decide, by decide⟩,
   ⟨((running (stream [hd 0x13 2 0, mkWord [(28, 4, 1), (32, 32, 1)]])).setB .TML_STAT 0 0 4 true).setB .TML_STAT 0 0 17 true,
     0, 0, _, _, _, _, ⟨by decide, rfl, by decide, by decide, by decide, rfl, by decide, by decide, rfl⟩, by decide, rfl,
     by decide, by decide⟩,
   ⟨running (stream [hd 0x13 2 0, mkWord [(28, 4, 15), (32, 32, 1)]]), 0, 0, _, _, _, _, ⟨by decide, rfl, by decide, by decide,
     by decide, rfl, by decide, by decide, rfl⟩, by decide, rfl, by decide, by decide⟩,
   ⟨((running (stream [hd 0x12 3 0, mkWord [(28, 4, 1), (32, 32, 1)],
     0])).setB .TML_STAT 0 0 4 true).setB .TML_STAT 0 0 17 true, 0, 0, _, _, _, _, ⟨by decide, rfl, by decide, by decide,
     by decide, rfl, by decide, by decide, rfl⟩, by decide, rfl, by decide, by decide⟩,
   ⟨running (stream [hd 0x12 3 0, mkWord [(28, 4, 15), (32, 32, 1)], 0]), 0, 0, _, _, _, _, ⟨by decide, rfl, by decide,
     by decide, by decide, rfl, by decide, by decide, rfl⟩, by decide, rfl, by decide, by decide⟩,
   ⟨{ running { flight0 with wait := some { kind := .window, since := 0, deadline := some 9 } } with ref := 10 }, 0, _, 0, _, _,
     _, ⟨by decide, rfl⟩, by decide, rfl, rfl, rfl, by decide, by decide, by decide⟩,
   ⟨{ running { flight0 with wait := some { kind := .window, since := 0, deadline := some 9 } } with ref := 9 }, 0, _, 0, _, _,
     _, ⟨by decide, rfl⟩, by decide, rfl, rfl, rfl, by decide⟩⟩

/-- States and operands that meet the hypotheses of the clauses of `Obligations.EngineCommandsAreHandedOver`. -/
theorem test_meets_EngineCommandsAreHandedOver :
    -- clause 1
    (∃ (s : State) (t : Nat) (f : _) (x : Flight) (ws : _) (u : State) (r : List Word), Issues s t f 0x02 x ws u ∧
      x.resolve ws = some r) ∧
    -- clause 2
    (∃ (s : State) (t : Nat) (f : _) (x : Flight) (ws : _) (u : State) (r : List Word), Issues s t f 0x04 x ws u ∧
      x.resolve ws = some r) ∧
    -- clause 3
    (∃ (s : State) (t : Nat) (f : _) (x : Flight) (ws : _) (u : State) (r : List Word), Issues s t f 0x05 x ws u ∧
      x.resolve ws = some r) ∧
    -- clause 4
    (∃ (s : State) (t : Nat) (f : _) (x : Flight) (ws : _) (u : State) (l : _) (e : _) (i : _), i ∈ [(0x01, Instr.dispatch t f l), (0x02, .bin t f), (0x03, .render t f e), (0x04, .copy t f), (0x05, .fill t f), (0x06, .compose t f), (0x07, .loadWeights t f), (0x08, .linkPut t f), (0x09, .linkGet t f)] ∧
      Issues s t f i.1 x ws u ∧ x.resolve ws = none) ∧
    -- clause 5
    (∃ (s : State) (t : Nat) (f : _) (x : Flight) (ws : _) (u : State) (r : List Word), Issues s t f 0x06 x ws u ∧
      x.resolve ws = some r ∧ (fld (cw r 1) 8 8 = 0 ∨ u.handleOk x ((cw r 5).setWidth 32) = true)) ∧
    -- clause 5, another value
    (∃ (s : State) (t : Nat) (f : _) (x : Flight) (ws : _) (u : State) (r : List Word), Issues s t f 0x06 x ws u ∧
      x.resolve ws = some r ∧ (fld (cw r 1) 8 8 = 0 ∨ u.handleOk x ((cw r 5).setWidth 32) = true)) ∧
    -- clause 6
    (∃ (s : State) (t : Nat) (f : _) (x : Flight) (ws : _) (u : State) (r : List Word), Issues s t f 0x07 x ws u ∧
      x.resolve ws = some r ∧ u.sealedDst x r = true) ∧
    -- clause 7
    (∃ (s : State) (t : Nat) (f : _) (x : Flight) (ws : _) (u : State) (r : List Word), Issues s t f 0x07 x ws u ∧
      x.resolve ws = some r ∧ u.sealedDst x r = false) ∧
    -- clause 8
    (∃ (s : State) (t : Nat) (f : _) (x : Flight) (ws : _) (u : State) (r : List Word), Issues s t f 0x08 x ws u ∧
      x.resolve ws = some r ∧ u.linkOk x r = true) ∧
    -- clause 9
    (∃ (s : State) (t : Nat) (f : _) (x : Flight) (ws : _) (u : State) (r : List Word), Issues s t f 0x09 x ws u ∧
      x.resolve ws = some r ∧ u.linkOk x r = true) ∧
    -- clause 10
    (∃ (s : State) (t : Nat) (f : _) (x : Flight) (ws : _) (u : State) (r : List Word), Issues s t f 0x01 x ws u ∧
      x.resolve ws = some r ∧ cw ws 9 = 0) ∧
    -- clause 11
    (∃ (s : State) (t : Nat) (f : _) (x : Flight) (ws : _) (u : State) (r : List Word) (l : _) (n : _), Issues s t f 0x01 x ws u ∧
      x.resolve ws = some r ∧ n = (cw ws 9).toNat ∧ n ≠ 0 ∧ u.refused (u.ctxPart x.ctx) (cw r 8) (16 * n) = false ∧
      (∀ i < n, (cw l (2 * i)).toNat % 64 = 0)) ∧
    -- clause 12
    (∃ (s : State) (t : Nat) (f : _) (x : Flight) (ws : _) (u : State) (r : List Word) (n : _), Issues s t f 0x01 x ws u ∧
      x.resolve ws = some r ∧ n = (cw ws 9).toNat ∧ n ≠ 0) ∧
    -- clause 13
    (∃ (s : State) (t : Nat) (f : _) (x : Flight) (ws : _) (u : State) (r : List Word) (e : Word), Issues s t f 0x03 x ws u ∧
      x.resolve ws = some r ∧ u.refused (u.ctxPart x.ctx) (cw r 2) 8 = false ∧ e.toNat % 256 = 0) ∧
    -- clause 14
    (∃ (s : State) (t : Nat) (f : _) (x : Flight) (ws : _) (u : State) (r : List Word), Issues s t f 0x03 x ws u ∧
      x.resolve ws = some r) ∧
    -- clause 15
    (∃ (u : State) (x : Flight) (c : Cls) (r : List Word), u.engAbsent c ((u.ctxPart x.ctx).getD 0) (fld (cw r 0) 32 4) = true) ∧
    -- clause 16
    (∃ (u : State) (x : Flight) (c : Cls) (r : List Word), u.engAbsent c ((u.ctxPart x.ctx).getD 0) (fld (cw r 0) 32 4) = false) :=
  ⟨⟨running (stream [hd 2 7 2, 0, 1, 0, 4096, 0, mkWord [(0, 16, 1), (16, 16, 1), (32, 8, 4)]]), 0, 0, _, _, _, _, ⟨by decide,
    rfl, by decide, by decide, by decide, rfl, by decide, by decide, rfl⟩, rfl⟩,
   ⟨running (stream [hd 4 4 3, 0, 0, 1]), 0, 0, _, _, _, _, ⟨by decide, rfl, by decide, by decide, by decide, rfl, by decide,
     by decide, rfl⟩, rfl⟩,
   ⟨running (stream [hd 5 4 3, 0, 8, 0]), 0, 0, _, _, _, _, ⟨by decide, rfl, by decide, by decide, by decide, rfl, by decide,
     by decide, rfl⟩, rfl⟩,
   ⟨running (stream [hd 4 4 3, 2 ^ 63 + 2 ^ 48 - 1, 0, 1]), 0, 0, _, _, _, none, none, (0x04, .copy 0 0), by simp, ⟨by decide,
     rfl, by decide, by decide, by decide, rfl, by decide, by decide, rfl⟩, by decide⟩,
   ⟨running (stream [hd 6 8 4, 0, 0, mkWord [(0, 16, 1), (16, 16, 1)], 0, 0, 0, 0]), 0, 0, _, _, _, _, ⟨by decide, rfl,
     by decide, by decide, by decide, rfl, by decide, by decide, rfl⟩, rfl, by decide⟩,
   ⟨{ running (stream [hd 6 16 4, mkWord [(0, 8, 1), (8, 8, 1)], 0, mkWord [(0, 16, 1), (16, 16, 1)], 0, 0, 0, 0, 0, 0, mkWord [(0, 16, 1), (16, 16, 1)], mkWord [(32, 16, 1), (48, 16, 1)], 0, 0, 0, 0]) with events := [(0, { part := 0, value := 0 })] },
     0, 0, _, _, _, _, ⟨by decide, rfl, by decide, by decide, by decide, rfl, by decide, by decide, rfl⟩, rfl, by decide⟩,
   ⟨{ running (stream [hd 7 6 6, 0, 0, 0, 0, 0]) with regs := ((queued.setB .MCI_SEAL 0 0 36 true).setF .MCI_SEAL 0 0 40 24 1).regs },
     0, 0, _, _, _, _, ⟨by decide, rfl, by decide, by decide, by decide, rfl, by decide, by decide, rfl⟩, rfl, by decide⟩,
   ⟨running (stream [hd 7 6 6, 0, 0, 0, 0, 0]), 0, 0, _, _, _, _, ⟨by decide, rfl, by decide, by decide, by decide, rfl,
     by decide, by decide, rfl⟩, rfl, by decide⟩,
   ⟨running (stream [hd 8 6 5, 0, 0, mkWord [(0, 40, 64), (40, 4, 15)], 0, 0]), 0, 0, _, _, _, _, ⟨by decide, rfl, by decide,
     by decide, by decide, rfl, by decide, by decide, rfl⟩, rfl, by decide⟩,
   ⟨running (stream [hd 9 6 5, 0, 0, mkWord [(0, 40, 64), (40, 4, 1)], 0, 0]), 0, 0, _, _, _, _, ⟨by decide, rfl, by decide,
     by decide, by decide, rfl, by decide, by decide, rfl⟩, rfl, by decide⟩,
   ⟨running (stream ([hd 1 23 1, 0, 0, 64, mkWord [(0, 32, 1), (32, 32, 1)], 1] ++ List.replicate 17 0)), 0, 0, _, _, _, _,
     ⟨by decide, rfl, by decide, by decide, by decide, rfl, by decide, by decide, rfl⟩, rfl, by decide⟩,
   ⟨running (stream ([hd 1 23 1, 0, 0, 64, mkWord [(0, 32, 1), (32, 32, 1)], 1, 0, 0, 2 ^ 40, 16] ++ List.replicate 13 0)), 0,
     0, _, _, _, _, [], 16, ⟨by decide, rfl, by decide, by decide, by decide, rfl, by decide, by decide, rfl⟩, rfl, rfl,
     by decide, by decide, by decide⟩,
   ⟨running (stream ([hd 1 23 1, 0, 0, 64, mkWord [(0, 32, 1), (32, 32, 1)], 1, 0, 0, 0, 1] ++ List.replicate 13 0)), 0, 0, _,
     _, _, _, _, ⟨by decide, rfl, by decide, by decide, by decide, rfl, by decide, by decide, rfl⟩, rfl, rfl, by decide⟩,
   ⟨running (stream [hd 3 7 1, 0, 2 ^ 40, 64, 0, 64, mkWord [(0, 16, 16384), (16, 16, 16384), (32, 8, 6)]]), 0, 0, _, _, _, _,
     0, ⟨by decide, rfl, by decide, by decide, by decide, rfl, by decide, by decide, rfl⟩, rfl, by decide, by decide⟩,
   ⟨running (stream [hd 3 7 1, 0, 2 ^ 40, 64, 0, 64, mkWord [(0, 16, 16384), (16, 16, 16384), (32, 8, 6)]]), 0, 0, _, _, _, _,
     ⟨by decide, rfl, by decide, by decide, by decide, rfl, by decide, by decide, rfl⟩, rfl⟩,
   ⟨queued, flight0, .dma, [], by decide⟩,
   ⟨tasked (task0 .dma 4), flight0, .dma, [hd 4 4 3], by decide⟩⟩

/-- States and operands that meet the hypotheses of the clauses of `Obligations.ObservationCommandsReport`. -/
theorem test_meets_ObservationCommandsReport :
    -- clause 1
    (∃ (s : State) (t : Nat) (f : _) (x : _) (ws : _) (u : State), Issues s t f 0x20 x ws u ∧ cw ws 1 = 0 ∧
      bitOf (cw ws 2) 3 = true) ∧
    -- clause 2
    (∃ (s : State) (t : Nat) (f : _) (x : _) (ws : _) (u : State) (a : _), Issues s t f 0x20 x ws u ∧ cw ws 1 ≠ 0 ∧
      bitOf (cw ws 2) 3 = false ∧ x.addrOf (cw ws 1) 8 = some a ∧ u.refused (u.ctxPart x.ctx) a 8 = false) ∧
    -- clause 4
    (∃ (s : State) (t : Nat) (f : _) (x : _) (ws : _) (u : State) (a : _), Issues s t f 0x20 x ws u ∧ cw ws 1 ≠ 0 ∧
      bitOf (cw ws 2) 3 = true ∧ x.addrOf (cw ws 1) 8 = some a ∧ u.refused (u.ctxPart x.ctx) a 8 = false) ∧
    -- clause 5
    (∃ (s : State) (t : Nat) (f : _) (x : _) (ws : _) (u : State) (r : _), Issues s t f 0x21 x ws u ∧ fld (cw ws 1) 0 2 = 0 ∧
      x.addrOf (cw ws 4) 64 = some r ∧ x.watches.length < 4) ∧
    -- clause 6
    (∃ (s : State) (t : Nat) (f : _) (x : _) (ws : _) (u : State), Issues s t f 0x21 x ws u ∧ fld (cw ws 1) 0 2 = 0 ∧
      4 ≤ x.watches.length) ∧
    -- clause 7
    (∃ (s : State) (t : Nat) (f : _) (x : _) (ws : _) (u : State) (r : _) (a : _), Issues s t f 0x21 x ws u ∧
      fld (cw ws 1) 0 2 = 1 ∧ x.addrOf (cw ws 4) 64 = some r ∧ x.addrOf (cw ws 2) 1 = some a) ∧
    -- clause 8
    (∃ (s : State) (t : Nat) (f : _) (x : _) (ws : _) (u : State) (a : _), Issues s t f 0x23 x ws u ∧
      x.addrOf (cw ws 1) 64 = some a ∧
      (u.rb .SCH_MQ_CFG 0 0 18 = false ∨ u.slotBytes < (cw ws 2).toNat ∨ (∀ k < 64, (Tab.get? u.mqSlots k).isSome = true ∨ (Tab.get? u.hints k).isSome = true))) ∧
    -- clause 8, another value
    (∃ (s : State) (t : Nat) (f : _) (x : _) (ws : _) (u : State) (a : _), Issues s t f 0x23 x ws u ∧
      x.addrOf (cw ws 1) 64 = some a ∧
      (u.rb .SCH_MQ_CFG 0 0 18 = false ∨ u.slotBytes < (cw ws 2).toNat ∨ (∀ k < 64, (Tab.get? u.mqSlots k).isSome = true ∨ (Tab.get? u.hints k).isSome = true))) ∧
    -- clause 8, another value
    (∃ (s : State) (t : Nat) (f : _) (x : _) (ws : _) (u : State) (a : _), Issues s t f 0x23 x ws u ∧
      x.addrOf (cw ws 1) 64 = some a ∧
      (u.rb .SCH_MQ_CFG 0 0 18 = false ∨ u.slotBytes < (cw ws 2).toNat ∨ (∀ k < 64, (Tab.get? u.mqSlots k).isSome = true ∨ (Tab.get? u.hints k).isSome = true))) ∧
    -- clause 9
    (∃ (s : State) (t : Nat) (f : _) (x : _) (ws : _) (u : State) (a : _) (k : _), Issues s t f 0x23 x ws u ∧
      x.addrOf (cw ws 1) 64 = some a ∧ u.rb .SCH_MQ_CFG 0 0 18 = true ∧ (cw ws 2).toNat ≤ u.slotBytes ∧ k < 64 ∧
      Tab.get? u.mqSlots k = none ∧ Tab.get? u.hints k = none ∧
      (∀ j < k, (Tab.get? u.mqSlots j).isSome = true ∨ (Tab.get? u.hints j).isSome = true)) ∧
    -- clause 9, another value
    (∃ (s : State) (t : Nat) (f : _) (x : _) (ws : _) (u : State) (a : _) (k : _), Issues s t f 0x23 x ws u ∧
      x.addrOf (cw ws 1) 64 = some a ∧ u.rb .SCH_MQ_CFG 0 0 18 = true ∧ (cw ws 2).toNat ≤ u.slotBytes ∧ k < 64 ∧
      Tab.get? u.mqSlots k = none ∧ Tab.get? u.hints k = none ∧
      (∀ j < k, (Tab.get? u.mqSlots j).isSome = true ∨ (Tab.get? u.hints j).isSome = true)) ∧
    -- clause 10
    (∃ (s : State) (t : Nat) (u : State) (f : _) (off : _) (o : _), Acts s t u ∧ u.readOf (.buffer f off) none = some o ∧
      u.outRefused o = false) ∧
    -- clause 11
    (∃ (s : State) (t : Nat) (u : State) (f : _) (off : _), Acts s t u ∧ u.readOf (.buffer f off) none = none) ∧
    -- clause 12
    (∃ (s : State) (t : Nat) (u : State) (f : _) (x : _), Fronts s t u ∧ Tab.get? u.flights f = some x ∧ x.onSeq = true ∧
      4096 ≤ x.count) ∧
    -- clause 13
    (∃ (s : State) (t : Nat) (u : State) (f : _) (x : _), Fronts s t u ∧ Tab.get? u.flights f = some x ∧ x.count < 4096) ∧
    -- clause 14
    (∃ (s : State) (t : Nat) (u : State) (f : _) (x : _) (w : _) (l : List Byte), Acts s t u ∧ Tab.get? u.flights f = some x ∧
      x.watching = some w ∧ x.inTeardown = false ∧ x.ending = none ∧ u.refused (u.ctxPart x.ctx) w.result 128 = false ∧
      u.refused (u.ctxPart x.ctx) w.addr w.len = false ∧ l.length = w.len) ∧
    -- clause 15
    (∃ (s : State) (t : Nat) (u : State) (k : _) (y : _) (w : _) (l : List Byte), Acts s t u ∧ Tab.get? u.tasks k = some y ∧
      y.phase = .done ∧ y.watches = [w] ∧ u.refused (u.ctxPart y.ctx) w.result 128 = false ∧
      u.refused (u.ctxPart y.ctx) w.addr w.len = false ∧ l.length = w.len) :=
  ⟨⟨running (stream [hd 0x20 3 0, 0, 8]), 0, 0, _, _, _, ⟨by decide, rfl, by decide, by decide, by decide, rfl, by decide,
    by decide, rfl⟩, by decide, by decide⟩,
   ⟨running (stream [hd 0x20 3 0, 2 ^ 40, 0]), 0, 0, _, _, _, _, ⟨by decide, rfl, by decide, by decide, by decide, rfl,
     by decide, by decide, rfl⟩, by decide, by decide, rfl, by decide⟩,
   ⟨running (stream [hd 0x20 3 0, 2 ^ 40, 8]), 0, 0, _, _, _, _, ⟨by decide, rfl, by decide, by decide, by decide, rfl,
     by decide, by decide, rfl⟩, by decide, by decide, rfl, by decide⟩,
   ⟨running { stream [hd 0x21 5 0, 0, 0, 0, 64] with watches := List.replicate 3 { target := 0, kind := 0, elem := 0, range := 0, addr := 0, len := 0, result := 0, layer := 0, op := 0 } },
     0, 0, _, _, _, _, ⟨by decide, rfl, by decide, by decide, by decide, rfl, by decide, by decide, rfl⟩, by decide, rfl,
     by decide⟩,
   ⟨running { stream [hd 0x21 5 0, 0, 0, 0, 64] with watches := List.replicate 4 { target := 0, kind := 0, elem := 0, range := 0, addr := 0, len := 0, result := 0, layer := 0, op := 0 } },
     0, 0, _, _, _, ⟨by decide, rfl, by decide, by decide, by decide, rfl, by decide, by decide, rfl⟩, by decide, by decide⟩,
   ⟨running (stream [hd 0x21 5 0, 1, 1, 1, 64]), 0, 0, _, _, _, _, _, ⟨by decide, rfl, by decide, by decide, by decide, rfl,
     by decide, by decide, rfl⟩, by decide, rfl, rfl⟩,
   ⟨(running (stream [hd 0x23 3 0, 64, 64])).setB .SCH_MQ_CFG 0 0 18 false, 0, 0, _, _, _, _, ⟨by decide, rfl, by decide,
     by decide, by decide, rfl, by decide, by decide, rfl⟩, rfl, by decide⟩,
   ⟨(running (stream [hd 0x23 3 0, 64, 2112])).setB .SCH_MQ_CFG 0 0 18 true, 0, 0, _, _, _, _, ⟨by decide, rfl, by decide,
     by decide, by decide, rfl, by decide, by decide, rfl⟩, rfl, by decide⟩,
   ⟨{ (running (stream [hd 0x23 3 0, 64, 64])).setB .SCH_MQ_CFG 0 0 18 true with mqSlots := (List.range 64).map (fun k => (k, { task := 0 })) },
     0, 0, _, _, _, _, ⟨by decide, rfl, by decide, by decide, by decide, rfl, by decide, by decide, rfl⟩, rfl, by decide⟩,
   ⟨(running (stream [hd 0x23 3 0, 64, 64])).setB .SCH_MQ_CFG 0 0 18 true, 0, 0, _, _, _, _, 0, ⟨by decide, rfl, by decide,
     by decide, by decide, rfl, by decide, by decide, rfl⟩, rfl, by decide, by decide, by decide, by decide, by decide,
     by decide⟩,
   ⟨{ (running (stream [hd 0x23 3 0, 64, 2048])).setB .SCH_MQ_CFG 0 0 18 true with mqSlots := (List.range 63).map (fun k => (k, { task := 0 })) },
     0, 0, _, _, _, _, 63, ⟨by decide, rfl, by decide, by decide, by decide, rfl, by decide, by decide, rfl⟩, rfl, by decide,
     by decide, by decide, by decide, by decide, by decide⟩,
   ⟨{ running flight0 with reads := [⟨.buffer 0 0, .host, 2 ^ 40, 64⟩] }, 0, _, 0, 0, _, ⟨by decide, rfl⟩, rfl, by decide⟩,
   ⟨running flight0, 0, _, 0, 0, ⟨by decide, rfl⟩, by decide⟩,
   ⟨running { flight0 with count := 4096 }, 0, _, 0, _, ⟨by decide, rfl, by decide⟩, rfl, by decide, by decide⟩,
   ⟨running { flight0 with count := 4095 }, 0, _, 0, _, ⟨by decide, rfl, by decide⟩, rfl, by decide⟩,
   ⟨running { flight0 with watching := some { target := 0, kind := 0, elem := 0, range := 0, addr := 2 ^ 40, len := 0, result := 2 ^ 40, layer := 0, op := 0 } },
     0, _, 0, _, _, [], ⟨by decide, rfl⟩, rfl, rfl, by decide, by decide, by decide, by decide, by decide⟩,
   ⟨tasked { task0 .cores 1 with phase := .done, watches := [{ target := 0, kind := 0, elem := 0, range := 0, addr := 2 ^ 40, len := 1, result := 2 ^ 41, layer := 0, op := 0 }] },
     0, _, 0, _, _, [0], ⟨by decide, rfl⟩, rfl, by decide, rfl, by decide, by decide, rfl⟩⟩

/-- States and operands that meet the hypotheses of the clauses of `Obligations.RomRoutinesStart`. -/
theorem test_meets_RomRoutinesStart :
    -- clause 1
    (∃ (s : State) (t : Nat) (f : _) (x : _) (c : _) (u : State) (l : List Word) (i : _), i ∈ [((0 : Nat), (24 : Nat), Instr.layerChain t f (some l)), (4, 3, .copyList t f (some l)), (6, 2, .waitAll t f (some l)), (7, 2, .recordList t f (some l))] ∧
      InRoutine s t f i.1 x c u ∧ u.refused (u.ctxPart x.ctx) (c.p 0) (8 * (i.2.1 * (c.p 1).toNat)) = false ∧
      i.2.1 * (c.p 1).toNat ≤ l.length) ∧
    -- clause 1, another value
    (∃ (s : State) (t : Nat) (f : _) (x : _) (c : _) (u : State) (l : List Word) (i : _), i ∈ [((0 : Nat), (24 : Nat), Instr.layerChain t f (some l)), (4, 3, .copyList t f (some l)), (6, 2, .waitAll t f (some l)), (7, 2, .recordList t f (some l))] ∧
      InRoutine s t f i.1 x c u ∧ u.refused (u.ctxPart x.ctx) (c.p 0) (8 * (i.2.1 * (c.p 1).toNat)) = false ∧
      i.2.1 * (c.p 1).toNat ≤ l.length) ∧
    -- clause 1, another value
    (∃ (s : State) (t : Nat) (f : _) (x : _) (c : _) (u : State) (l : List Word) (i : _), i ∈ [((0 : Nat), (24 : Nat), Instr.layerChain t f (some l)), (4, 3, .copyList t f (some l)), (6, 2, .waitAll t f (some l)), (7, 2, .recordList t f (some l))] ∧
      InRoutine s t f i.1 x c u ∧ u.refused (u.ctxPart x.ctx) (c.p 0) (8 * (i.2.1 * (c.p 1).toNat)) = false ∧
      i.2.1 * (c.p 1).toNat ≤ l.length) ∧
    -- clause 1, another value
    (∃ (s : State) (t : Nat) (f : _) (x : _) (c : _) (u : State) (l : List Word) (i : _), i ∈ [((0 : Nat), (24 : Nat), Instr.layerChain t f (some l)), (4, 3, .copyList t f (some l)), (6, 2, .waitAll t f (some l)), (7, 2, .recordList t f (some l))] ∧
      InRoutine s t f i.1 x c u ∧ u.refused (u.ctxPart x.ctx) (c.p 0) (8 * (i.2.1 * (c.p 1).toNat)) = false ∧
      i.2.1 * (c.p 1).toNat ≤ l.length) ∧
    -- clause 1
    (∃ (s : State) (t : Nat) (f : _) (x : _) (c : _) (u : State) (l : List Word) (i : _), i ∈ [((0 : Nat), (24 : Nat), Instr.layerChain t f (some l)), (4, 3, .copyList t f (some l)), (6, 2, .waitAll t f (some l)), (7, 2, .recordList t f (some l))] ∧
      InRoutine s t f i.1 x c u ∧ u.refused (u.ctxPart x.ctx) (c.p 0) (8 * (i.2.1 * (c.p 1).toNat)) = false ∧
      l.length < i.2.1 * (c.p 1).toNat) ∧
    -- clause 2
    (∃ (s : State) (t : Nat) (f : _) (x : _) (c : _) (u : State) (i : _), i ∈ [((0 : Nat), (24 : Nat), Instr.layerChain t f none), (4, 3, .copyList t f none), (6, 2, .waitAll t f none), (7, 2, .recordList t f none)] ∧
      InRoutine s t f i.1 x c u) ∧
    -- clause 3
    (∃ (s : State) (t : Nat) (f : _) (x : _) (c : _) (u : State) (r : List Word) (l : List Word), InRoutine s t f 1 x c u ∧
      22 ≤ l.length ∧ u.refused (u.ctxPart x.ctx) (c.p 0) 16 = false ∧
      u.refused (u.ctxPart x.ctx) (c.p 1) (cw r 0).toNat = false ∧ u.refused (u.ctxPart x.ctx) (c.p 2) 176 = false) ∧
    -- clause 4
    (∃ (s : State) (t : Nat) (f : _) (x : _) (c : _) (u : State), InRoutine s t f 1 x c u) ∧
    -- clause 5
    (∃ (s : State) (t : Nat) (f : _) (x : _) (c : _) (u : State), InRoutine s t f 2 x c u) ∧
    -- clause 6
    (∃ (s : State) (t : Nat) (f : _) (x : _) (c : _) (u : State), InRoutine s t f 3 x c u) ∧
    -- clause 7
    (∃ (s : State) (t : Nat) (f : _) (x : _) (c : _) (u : State), InRoutine s t f 5 x c u) ∧
    -- clause 8
    (∃ (s : State) (t : Nat) (f : _) (x : _) (c : _) (u : State) (rows : _) (bands : _) (i : _) (halo : _), InRoutine s t f 8 x c u ∧
      c.p 0 = BitVec.ofNat 64 rows ∧ c.p 1 = BitVec.ofNat 64 bands ∧ c.p 2 = BitVec.ofNat 64 i ∧ c.p 3 = BitVec.ofNat 64 halo ∧
      rows < 2 ^ 64 ∧ bands < 2 ^ 64 ∧ i < 2 ^ 64 ∧ halo < 2 ^ 64) ∧
    -- clause 9
    (∃ (s : State) (t : Nat) (f : _) (x : _) (c : _) (u : State), InRoutine s t f 9 x c u) ∧
    -- clause 10
    (∃ (s : State) (t : Nat) (f : _) (x : _) (c : _) (u : State) (e : _), InRoutine s t f 10 x c u ∧ NoErrorArmed u ∧
      fld (c.p 0) 32 32 = 0 ∧ u.handleOk x ((c.p 0).setWidth 32) = true ∧ evNode ((c.p 0).setWidth 32) = u.node ∧
      Tab.get? u.events (evIdx ((c.p 0).setWidth 32)) = some e ∧ (c.p 1).toNat ≠ 0) ∧
    -- clause 11
    (∃ (s : State) (t : Nat) (f : _) (x : _) (c : _) (u : State), InRoutine s t f 10 x c u ∧ fld (c.p 0) 32 32 = 0 ∧
      u.handleOk x ((c.p 0).setWidth 32) = true ∧ evNode ((c.p 0).setWidth 32) ≠ u.node ∧
      u.nodeLive (evNode ((c.p 0).setWidth 32)) = true ∧ (c.p 1).toNat ≠ 0) :=
  ⟨⟨inCall 0 [2 ^ 40, 1], 0, 0, _, _, _, List.replicate 24 0, (0, 24, .layerChain 0 0 (some (List.replicate 24 0))), by simp,
    ⟨⟨by decide, rfl, by decide⟩, rfl, rfl, by decide, by decide, by decide⟩, by decide, by decide⟩,
   ⟨inCall 4 [2 ^ 40, 1, 0], 0, 0, _, _, _, [0, 0, 0], (4, 3, .copyList 0 0 (some [0, 0, 0])), by simp, ⟨⟨by decide, rfl,
     by decide⟩, rfl, rfl, by decide, by decide, by decide⟩, by decide, by decide⟩,
   ⟨inCall 6 [2 ^ 40, 1, 0], 0, 0, _, _, _, [0, 0], (6, 2, .waitAll 0 0 (some [0, 0])), by simp, ⟨⟨by decide, rfl, by decide⟩,
     rfl, rfl, by decide, by decide, by decide⟩, by decide, by decide⟩,
   ⟨inCall 7 [2 ^ 40, 256], 0, 0, _, _, _, List.replicate 512 0, (7, 2, .recordList 0 0 (some (List.replicate 512 0))), by simp,
     ⟨⟨by decide, rfl, by decide⟩, rfl, rfl, by decide, by decide, by decide⟩, by decide, by decide⟩,
   ⟨inCall 7 [2 ^ 40, 1], 0, 0, _, _, _, [0], (7, 2, .recordList 0 0 (some [0])), by simp, ⟨⟨by decide, rfl, by decide⟩, rfl,
     rfl, by decide, by decide, by decide⟩, by decide, by decide⟩,
   ⟨inCall 7 [2 ^ 40, 1], 0, 0, _, _, _, (7, 2, .recordList 0 0 none), by simp, ⟨⟨by decide, rfl, by decide⟩, rfl, rfl,
     by decide, by decide, by decide⟩⟩,
   ⟨inCall 1 [2 ^ 40, 2 ^ 40, 2 ^ 40], 0, 0, _, _, _, [1, 0], List.replicate 22 0, ⟨⟨by decide, rfl, by decide⟩, rfl, rfl,
     by decide, by decide, by decide⟩, by decide, by decide, by decide, by decide⟩,
   ⟨inCall 1 [2 ^ 40, 2 ^ 40, 2 ^ 40], 0, 0, _, _, _, ⟨⟨by decide, rfl, by decide⟩, rfl, rfl, by decide, by decide, by decide⟩⟩,
   ⟨inCall 2 [], 0, 0, _, _, _, ⟨⟨by decide, rfl, by decide⟩, rfl, rfl, by decide, by decide, by decide⟩⟩,
   ⟨inCall 3 [], 0, 0, _, _, _, ⟨⟨by decide, rfl, by decide⟩, rfl, rfl, by decide, by decide, by decide⟩⟩,
   ⟨inCall 5 [], 0, 0, _, _, _, ⟨⟨by decide, rfl, by decide⟩, rfl, rfl, by decide, by decide, by decide⟩⟩,
   ⟨inCall 8 [16, 4, 3, 1], 0, 0, _, _, _, 16, 4, 3, 1, ⟨⟨by decide, rfl, by decide⟩, rfl, rfl, by decide, by decide,
     by decide⟩, by decide, by decide, by decide, by decide, by decide, by decide, by decide, by decide⟩,
   ⟨inCall 9 [], 0, 0, _, _, _, ⟨⟨by decide, rfl, by decide⟩, rfl, rfl, by decide, by decide, by decide⟩⟩,
   ⟨{ inCall 10 [0, 1] with events := [(0, { part := 0, value := 0 })] }, 0, 0, _, _, _, _, ⟨⟨by decide, rfl, by decide⟩, rfl,
     rfl, by decide, by decide, by decide⟩, ⟨rfl, rfl⟩, by decide, by decide, by decide, rfl, by decide⟩,
   ⟨((inCall 10 [2 ^ 28, 1]).setB .TML_STAT 0 0 4 true).setB .TML_STAT 0 0 17 true, 0, 0, _, _, _, ⟨⟨by decide, rfl, by decide⟩,
     rfl, rfl, by decide, by decide, by decide⟩, by decide, by decide, by decide, by decide, by decide⟩⟩

/-- States and operands that meet the hypotheses of the clauses of `Obligations.HostReachesEventsAndSemaphores`. -/
theorem test_meets_HostReachesEventsAndSemaphores :
    -- clause 1
    (∃ (s : State) (t : Nat) (n : _) (u : State), Writes s t (.fn n) (.own n) u ∧ NoErrorArmed u ∧ u.fnInTd n = false ∧
      evWellFormed (u.fnHandle n) = true ∧ (u.fnPart n).isSome = true ∧ evNode (u.fnHandle n) = u.node ∧
      u.evCheck (u.fnHandle n) (u.fnPart n) = none ∧ Tab.getD u.fnRecs n [] = []) ∧
    -- clause 2
    (∃ (s : State) (t : Nat) (n : _) (u : State), Writes s t (.fn n) (.own n) u ∧ NoErrorArmed u ∧ u.fnInTd n = false ∧
      evWellFormed (u.fnHandle n) = false ∧ Tab.getD u.fnRecs n [] = []) ∧
    -- clause 3
    (∃ (s : State) (t : Nat) (n : _) (u : State), Writes s t (.fn n) (.own n) u ∧ u.fnInTd n = false ∧
      evWellFormed (u.fnHandle n) = true ∧ (u.fnPart n).isSome = true ∧ evNode (u.fnHandle n) ≠ u.node ∧
      Tab.getD u.fnRecs n [] = [] ∧ u.nodeLive (evNode (u.fnHandle n)) = true) ∧
    -- clause 3
    (∃ (s : State) (t : Nat) (n : _) (u : State), Writes s t (.fn n) (.own n) u ∧ u.fnInTd n = false ∧
      evWellFormed (u.fnHandle n) = true ∧ (u.fnPart n).isSome = true ∧ evNode (u.fnHandle n) ≠ u.node ∧
      Tab.getD u.fnRecs n [] = [] ∧ u.nodeLive (evNode (u.fnHandle n)) = false) ∧
    -- clause 4
    (∃ (s : State) (t : Nat) (n : _) (u : State), Writes s t (.fn n) (.own n) u ∧ NoErrorArmed u ∧ u.fnInTd n = false) ∧
    -- clause 5
    (∃ (s : State) (t : Nat) (n : _) (u : State) (e : _), Reads s t (.fn n) (.own n) .EV_FN_VALUE u ∧
      evWellFormed (u.fnHandle n) = true ∧ evNode (u.fnHandle n) = u.node ∧ Tab.get? u.events (evIdx (u.fnHandle n)) = some e ∧
      u.fnPart n = some e.part) ∧
    -- clause 6
    (∃ (s : State) (t : Nat) (who : Who) (i : _) (u : State), Writes s t who .glob u ∧ (u.semOf i).queue = [] ∧
      (u.semOf i).bound = false) ∧
    -- clause 7
    (∃ (s : State) (t : Nat) (who : Who) (i : _) (u : State), Writes s t who .glob u ∧ (u.semOf i).queue ≠ [] ∧
      (u.semOf i).bound = true) ∧
    -- clause 8
    (∃ (s : State) (t : Nat) (u : State) (h : _), Acts s t u ∧
      u.remoteWaits.any (fun w => w.handle == h && w.retryAt.any (fun m => m ≤ u.ref)) = true) ∧
    -- clause 9
    (∃ (s : State) (t : Nat) (u : State), Acts s t u ∧ u.remoteWaits = []) :=
  ⟨⟨{ assigned with events := [(0, { part := 0, value := 0 })] }, 0, 0, _, ⟨by decide, rfl⟩, ⟨rfl, rfl⟩, by decide, by decide,
    by decide, rfl, by decide, by decide⟩,
   ⟨assigned.setF .EV_FN_HANDLE 0 0 0 32 65536, 0, 0, _, ⟨by decide, rfl⟩, ⟨rfl, rfl⟩, by decide, by decide, by decide⟩,
   ⟨((assigned.setF .EV_FN_HANDLE 0 0 0 32 (2 ^ 28)).setB .TML_STAT 0 0 4 true).setB .TML_STAT 0 0 17 true, 0, 0, _, ⟨by decide,
     rfl⟩, by decide, by decide, by decide, by decide, by decide, by decide⟩,
   ⟨assigned.setF .EV_FN_HANDLE 0 0 0 32 (2 ^ 28), 0, 0, _, ⟨by decide, rfl⟩, by decide, by decide, by decide, by decide,
     by decide, by decide⟩,
   ⟨assigned, 0, 0, _, ⟨by decide, rfl⟩, ⟨rfl, rfl⟩, by decide⟩,
   ⟨{ assigned with events := [(0, { part := 0, value := 0 })] }, 0, 0, _, _, ⟨by decide, by decide, rfl⟩, by decide, by decide,
     rfl, by decide⟩,
   ⟨live, 0, .fn 0, 4095, _, ⟨by decide, rfl⟩, by decide, by decide⟩,
   ⟨{ live with sems := [(4095, { bound := true, queue := [⟨0, 0, 0, 1⟩] })] }, 0, .fn 0, 4095, _, ⟨by decide, rfl⟩, by decide,
     by decide⟩,
   ⟨{ live with remoteWaits := [{ handle := 0, f := 0, target := 0, retryAt := some 0 }] }, 0, _, 0, ⟨by decide, rfl⟩,
     by decide⟩,
   ⟨live, 0, _, ⟨by decide, rfl⟩, by decide⟩⟩

/-- States and operands that meet the hypotheses of the clauses of `Obligations.SchedulerPicksAndLaunches`. -/
theorem test_meets_SchedulerPicksAndLaunches :
    -- clause 1
    (∃ (s : State) (t : Nat) (u : State) (n : _) (f : _) (x : _), Fronts s t u ∧ NoErrorArmed u ∧ u.seqFree n = true ∧
      u.seqChoice = some f ∧ Tab.get? u.flights f = some x) ∧
    -- clause 1, another value
    (∃ (s : State) (t : Nat) (u : State) (n : _) (f : _) (x : _), Fronts s t u ∧ NoErrorArmed u ∧ u.seqFree n = true ∧
      u.seqChoice = some f ∧ Tab.get? u.flights f = some x) ∧
    -- clause 2
    (∃ (s : State) (t : Nat) (u : State) (n : _), Fronts s t u ∧ u.seqFree n = false) ∧
    -- clause 2, another value
    (∃ (s : State) (t : Nat) (u : State) (n : _), Fronts s t u ∧ u.seqFree n = false) ∧
    -- clause 3
    (∃ (s : State) (t : Nat) (u : State) (c : _) (p : _) (k : _) (y : _), Fronts s t u ∧ c ≠ .cores ∧ c ≠ .link ∧
      u.engFree c p = true ∧ (Tab.getD u.engs (engNo c p) {}).reservedFor = none ∧
      (Tab.getD u.engs (engNo c p) {}).lastPart = none ∧ u.pickOf (u.engCands c p) (fun _ => false) = some (k, y)) ∧
    -- clause 4
    (∃ (s : State) (t : Nat) (u : State) (p : _) (k : _) (y : _) (sl : _), Fronts s t u ∧ u.gathering p = false ∧
      u.atRun = true ∧ u.pickOf (u.coreCands p) (fun t => !(u.slotInsts t).isEmpty) = some (k, y) ∧
      Tab.get? u.tasks k = some y ∧ u.hints = [] ∧ u.freeSlot = some sl ∧ u.closed (u.portOf y.stateAddr) = false) ∧
    -- clause 5
    (∃ (s : State) (t : Nat) (u : State) (p : _) (k : _) (y : _) (sl : _) (h : _) (m : _), Fronts s t u ∧
      u.gathering p = false ∧ u.atRun = true ∧ u.pickOf (u.coreCands p) (fun t => !(u.slotInsts t).isEmpty) = some (k, y) ∧
      Tab.get? u.tasks k = some y ∧ u.hints = [(sl, h)] ∧ h.f = y.f ∧ h.addr = y.stateAddr ∧ h.len = y.stateLen ∧
      h.image = some m) ∧
    -- clause 6
    (∃ (s : State) (t : Nat) (u : State) (k : _) (y : _), Fronts s t u ∧ Tab.get? u.tasks k = some y ∧ y.phase = .gathering ∧
      u.detTask y = false ∧ y.held ≠ [] ∧ y.pickedAt + u.gatherNs ≤ u.ref) ∧
    -- clause 7
    (∃ (s : State) (t : Nat) (u : State) (k : _) (y : _), Fronts s t u ∧ Tab.get? u.tasks k = some y ∧
      u.ref < y.pickedAt + u.gatherNs) ∧
    -- clause 8
    (∃ (s : State) (t : Nat) (u : State) (n : _) (d : _) (y : _), Fronts s t u ∧ u.freeLane = some n ∧ u.nextDue = some d ∧
      d.cls ≠ .cores ∧ Tab.get? u.tasks d.task = some y) ∧
    -- clause 9
    (∃ (s : State) (t : Nat) (u : State) (n : _) (d : _) (y : _), Fronts s t u ∧ u.freeLane = some n ∧ u.nextDue = some d ∧
      d.cls = .cores ∧ Tab.get? u.tasks d.task = some y) ∧
    -- clause 10
    (∃ (s : State) (t : Nat) (u : State), Fronts s t u ∧ u.due = []) ∧
    -- clause 11
    (∃ (s : State) (t : Nat) (u : State) (c : _) (j : _), Acts s t u ∧
      u.mqJobs.find? (fun j => j.cluster == c && j.active && j.kind == .remainder && (j.sent || j.dead)) = some j ∧
      j.dead = false) ∧
    -- clause 12
    (∃ (s : State) (t : Nat) (u : State), Acts s t u ∧ u.mqJobs = []) ∧
    -- clause 13
    (∃ (s : State) (t : Nat) (u : State) (c : _) (j : _), Acts s t u ∧
      u.mqJobs.find? (fun j => j.cluster == c && j.active && j.kind != .remainder) = some j ∧
      (j.kind ≠ .header ∨ j.dead = true)) ∧
    -- clause 13, another value
    (∃ (s : State) (t : Nat) (u : State) (c : _) (j : _), Acts s t u ∧
      u.mqJobs.find? (fun j => j.cluster == c && j.active && j.kind != .remainder) = some j ∧
      (j.kind ≠ .header ∨ j.dead = true)) ∧
    -- clause 13
    (∃ (s : State) (t : Nat) (u : State) (c : _) (j : _), Acts s t u ∧
      u.mqJobs.find? (fun j => j.cluster == c && j.active && j.kind != .remainder) = some j ∧ j.kind = .header ∧
      j.dead = false) :=
  ⟨⟨running { flight0 with seqr := none, readySince := some 0 }, 0, _, 0, 0, _, ⟨by decide, rfl, by decide⟩, ⟨rfl, rfl⟩,
    by decide, rfl, rfl⟩,
   ⟨running { flight0 with seqr := none, readySince := some 0 }, 0, _, 7, 0, _, ⟨by decide, rfl, by decide⟩, ⟨rfl, rfl⟩,
     by decide, rfl, rfl⟩,
   ⟨live, 0, _, 8, ⟨by decide, rfl, by decide⟩, by decide⟩,
   ⟨running flight0, 0, _, 0, ⟨by decide, rfl, by decide⟩, by decide⟩,
   ⟨tasked (task0 .dma 4), 0, _, .dma, 0, 0, _, ⟨by decide, rfl, by decide⟩, by decide, by decide, by decide, by decide,
     by decide, rfl⟩,
   ⟨tasked (task0 .cores 1), 0, _, 0, 0, _, 0, ⟨by decide, rfl, by decide⟩, by decide, by decide, rfl, rfl, by decide,
     by decide +kernel, by decide⟩,
   ⟨{ tasked (task0 .cores 1) with hints := [(63, { f := 0, addr := 0, len := 0, at0 := 0, image := some [] })] }, 0, _, 0, 0,
     _, 63, _, _, ⟨by decide, rfl, by decide⟩, by decide, by decide, rfl, rfl, rfl, rfl, rfl, rfl, rfl⟩,
   ⟨(tasked { task0 .cores 1 with phase := .gathering, held := [0] }).setF .SCH_MQ_CFG 0 0 0 16 0, 0, _, 0, _, ⟨by decide, rfl,
     by decide⟩, rfl, by decide, by decide, by decide, by decide⟩,
   ⟨(tasked { task0 .cores 1 with phase := .gathering, held := [0] }).setF .SCH_MQ_CFG 0 0 0 16 1, 0, _, 0, _, ⟨by decide, rfl,
     by decide⟩, rfl, by decide⟩,
   ⟨{ tasked (task0 .dma 4) with due := [{ cls := .dma, peng := 0, task := 0, at0 := 0 }], lanes := (List.range 7).map (fun i => (i, { cls := .dma, peng := 0, task := 0, at0 := 0 })) },
     0, _, 7, _, _, ⟨by decide, rfl, by decide⟩, by decide +kernel, rfl, by decide, rfl⟩,
   ⟨{ tasked (task0 .cores 1) with due := [{ cls := .cores, peng := 0, task := 0, at0 := 0 }] }, 0, _, 0, _, _, ⟨by decide, rfl,
     by decide⟩, by decide +kernel, rfl, by decide, rfl⟩,
   ⟨live, 0, _, ⟨by decide, rfl, by decide⟩, by decide⟩,
   ⟨{ queued with mqJobs := [{ cluster := 3, task := 0, kind := .remainder, cores := [], active := true, sent := true }] }, 0,
     _, 3, _, ⟨by decide, rfl⟩, rfl, by decide⟩,
   ⟨queued, 0, _, ⟨by decide, rfl⟩, by decide⟩,
   ⟨{ queued with mqJobs := [{ cluster := 0, task := 0, kind := .image, cores := [], active := true }] }, 0, _, 0, _,
     ⟨by decide, rfl⟩, rfl, by decide⟩,
   ⟨{ queued with mqJobs := [{ cluster := 3, task := 0, kind := .header, cores := [36], active := true, dead := true }] }, 0, _,
     3, _, ⟨by decide, rfl⟩, rfl, by decide⟩,
   ⟨{ queued with mqJobs := [{ cluster := 3, task := 0, kind := .header, cores := [36], active := true }] }, 0, _, 3, _,
     ⟨by decide, rfl⟩, rfl, by decide, by decide⟩⟩

/-- States and operands that meet the hypotheses of the clauses of `Obligations.CyclicTableKeepsItsTimes`. -/
theorem test_meets_CyclicTableKeepsItsTimes :
    -- clause 1
    (∃ (s : State) (t : Nat) (u : State) (b : _) (k : _), Acts s t u ∧ u.fixedDue = some (b, k) ∧ b ≤ u.now) ∧
    -- clause 2
    (∃ (s : State) (t : Nat) (u : State) (b : _) (k : _), Acts s t u ∧ u.fixedDue = some (b, k) ∧ u.now < b) ∧
    -- clause 3
    (∃ (s : State) (t : Nat) (u : State) (tb : _), Acts s t u ∧ u.cyc.table = some tb ∧ tb.anchor = 1 ∧
      u.rb .CYC_STAT 0 0 2 = false ∧ u.cycP0 + tb.period + cycTol tb ≤ u.now) ∧
    -- clause 4
    (∃ (s : State) (t : Nat) (u : State) (tb : _), Acts s t u ∧ u.cyc.table = some tb ∧
      u.now < u.cycP0 + tb.period + cycTol tb) ∧
    -- clause 5
    (∃ (s : State) (t : Nat) (u : State) (j : _) (n : _), Fronts s t u ∧ u.nextOf j = some n ∧ n.start ≤ u.now + 20000 ∧
      u.instOf j n.period = none) ∧
    -- clause 6
    (∃ (s : State) (t : Nat) (u : State) (j : _) (n : _), Fronts s t u ∧ u.nextOf j = some n ∧ u.now + 20000 < n.start) ∧
    -- clause 7
    (∃ (s : State) (t : Nat) (u : State) (j : _) (n : _), Acts s t u ∧ u.nextOf j = some n ∧ n.start ≤ u.now + 30000 ∧
      u.atRun = true ∧ u.gov.prep.contains (j, n.period) = false) ∧
    -- clause 8
    (∃ (s : State) (t : Nat) (u : State) (j : _) (d : _) (v : _), Acts s t u ∧ u.slots[j]? = some d ∧ u.cyc.running = true ∧
      u.cyc.begun.contains j = false ∧ u.cycP0 + d.offset ≤ u.now ∧
      v = ((u.cyc.insts.filter (fun e => e.2.start + e.2.def0.length ≤ u.cycP0 + d.offset)).map (·.1)).foldl State.slotDeadline u ∧
      u.cycHeld = false) ∧
    -- clause 8
    (∃ (s : State) (t : Nat) (u : State) (j : _) (d : _) (v : _), Acts s t u ∧ u.slots[j]? = some d ∧ u.cyc.running = true ∧
      u.cyc.begun.contains j = false ∧ u.cycP0 + d.offset ≤ u.now ∧
      v = ((u.cyc.insts.filter (fun e => e.2.start + e.2.def0.length ≤ u.cycP0 + d.offset)).map (·.1)).foldl State.slotDeadline u ∧
      u.cycHeld = true) ∧
    -- clause 9
    (∃ (s : State) (t : Nat) (u : State) (j : Nat) (d : Slot), Acts s t u ∧ u.slots[j]? = some d ∧ u.now < u.cycP0 + d.offset) ∧
    -- clause 10
    (∃ (s : State) (t : Nat) (u : State) (i : _) (x : _), Acts s t u ∧ Tab.get? u.cyc.insts i = some x ∧ x.started = true ∧
      x.deadlinePassed = false ∧ x.start + x.def0.length ≤ u.now ∧ u.cycHeld = false) ∧
    -- clause 11
    (∃ (s : State) (t : Nat) (u : State) (i : _) (x : _), Acts s t u ∧ Tab.get? u.cyc.insts i = some x ∧
      u.now < x.start + x.def0.length) ∧
    -- clause 12
    (∃ (s : State) (t : Nat) (who : Who) (u : State), Writes s t who .glob u) ∧
    -- clause 13
    (∃ (s : State) (t : Nat) (u : State) (f : _) (y : _), Acts s t u ∧ Tab.get? u.flights f = some y) ∧
    -- clause 14
    (∃ (u : State) (f : _) (h : _) (y : Flight) (e : Nat × Inst) (es : _), es = (u.edgesOf e.2 false f y).filter (fun g => g.holder == h) ∧
      es ≠ []) ∧
    -- clause 15
    (∃ (u : State) (x : Inst) (a : _) (y : Flight) (n : _) (i : _) (h : _), y.onSem = some (n, i) ∧
      h ∈ u.holdersHere y.ctx n i ∧ u.needsOf x a h = true) :=
  ⟨⟨cyclic 100000, 0, _, 100000, false, ⟨by decide, rfl⟩, rfl, by decide⟩,
   ⟨cyclic 99999, 0, _, 100000, false, ⟨by decide, rfl⟩, rfl, by decide⟩,
   ⟨{ queued with now := 125000, cyc := { table := some { table0 with anchor := 1 }, running := true } }, 0, _, _, ⟨by decide,
     rfl⟩, rfl, by decide, by decide, by decide⟩,
   ⟨{ queued with now := 124999, cyc := { table := some { table0 with anchor := 1 }, running := true } }, 0, _, _, ⟨by decide,
     rfl⟩, rfl, by decide⟩,
   ⟨{ cyclic 0 with cyc := { (cyclic 0).cyc with insts := [] } }, 0, _, 0, _, ⟨by decide, rfl, by decide⟩, rfl, by decide,
     by decide⟩,
   ⟨{ cyclic 0 with cyc := { (cyclic 0).cyc with insts := [], table := some { table0 with slots := [{ slot0 with offset := 20001 }] } } },
     0, _, 0, _, ⟨by decide, rfl, by decide⟩, rfl, by decide⟩,
   ⟨cyclic 0, 0, _, 0, _, ⟨by decide, rfl⟩, rfl, by decide, by decide, by decide⟩,
   ⟨cyclic 10, 0, _, 0, _, _, ⟨by decide, rfl⟩, rfl, by decide, by decide, by decide, rfl, by decide⟩,
   ⟨{ cyclic 10 with mcs := {}, regs := ((cyclic 10).setB .ERR_STAT 0 0 1 true).regs }, 0, _, 0, _, _, ⟨by decide, rfl⟩, rfl,
     by decide, by decide, by decide, rfl, by decide⟩,
   ⟨cyclic 9, 0, _, 0, _, ⟨by decide, rfl⟩, rfl, by decide⟩,
   ⟨cyclic 1010, 0, _, 0, _, ⟨by decide, rfl⟩, rfl, by decide, by decide, by decide, by decide⟩,
   ⟨cyclic 1009, 0, _, 0, _, ⟨by decide, rfl⟩, rfl, by decide⟩,
   ⟨live, 0, .fn 0, _, ⟨by decide, rfl⟩⟩,
   ⟨running flight0, 0, _, 0, _, ⟨by decide, rfl⟩, rfl⟩,
   ⟨{ cyclic 20 with sems := [(7, { bound := true, holders := [⟨9, 0, 1⟩] })], tasks := [(0, { task0 .cores 1 with ctx := 9 })] },
     0, 9, { flight0 with wait := some { kind := .sem 0 7 1, since := 0 } }, (0, inst0), _, rfl, by decide⟩,
   ⟨{ cyclic 20 with sems := [(7, { bound := true, holders := [⟨9, 0, 1⟩] })], tasks := [(0, { task0 .cores 1 with ctx := 9 })] },
     inst0, false, { flight0 with wait := some { kind := .sem 0 7 1, since := 0 } }, 0, 7, 9, by decide, by decide, by decide⟩⟩

/-- States and operands that meet the hypotheses of the clauses of `Obligations.GovernorSettingsAreTaken`. -/
theorem test_meets_GovernorSettingsAreTaken :
    -- clauses 1, 6, 10
    (∃ (s : State) (t : Nat) (u : State), Writes s t .mgmt .glob u) ∧
    -- clause 2
    (∃ (s : State) (t : Nat) (who : Who) (u : State) (v : _), Writes s t who .glob u ∧ (∀ tb, (u.cyc.running = true ∧
      u.cyc.table = some tb) ∨ u.cyc.pending = some tb → tableFits tb (u.capsWith v).1 (u.capsWith v).2 u.rtMaxPct = true)) ∧
    -- clause 3
    (∃ (s : State) (t : Nat) (who : Who) (u : State) (v : _) (tb : _), Writes s t who .glob u ∧ ((u.cyc.running = true ∧
      u.cyc.table = some tb) ∨ u.cyc.pending = some tb) ∧ tableFits tb (u.capsWith v).1 (u.capsWith v).2 u.rtMaxPct = false) ∧
    -- clause 3, another value
    (∃ (s : State) (t : Nat) (who : Who) (u : State) (v : _) (tb : _), Writes s t who .glob u ∧ ((u.cyc.running = true ∧
      u.cyc.table = some tb) ∨ u.cyc.pending = some tb) ∧ tableFits tb (u.capsWith v).1 (u.capsWith v).2 u.rtMaxPct = false) ∧
    -- clause 4
    (∃ (s : State) (t : Nat) (u : State), Writes s t .mgmt .glob u ∧ priceTabOk u.gov.shadow = true) ∧
    -- clause 5
    (∃ (s : State) (t : Nat) (u : State), Writes s t .mgmt .glob u ∧ priceTabOk u.gov.shadow = false) ∧
    -- clause 7
    (∃ (s : State) (t : Nat) (who : Who) (u : State), Writes s t who .glob u) ∧
    -- clause 8
    (∃ (s : State) (t : Nat) (who : Who) (u : State) (v : _), Writes s t who .glob u ∧ 0 ≤ sx16 (fld v 0 16) ∧
      sx16 (fld v 0 16) ≤ u.gov.limitMax ∧ (byMgmt who = true ∨ sx16 (fld v 0 16) ≤ u.tlimit)) ∧
    -- clause 8, another value
    (∃ (s : State) (t : Nat) (who : Who) (u : State) (v : _), Writes s t who .glob u ∧ 0 ≤ sx16 (fld v 0 16) ∧
      sx16 (fld v 0 16) ≤ u.gov.limitMax ∧ (byMgmt who = true ∨ sx16 (fld v 0 16) ≤ u.tlimit)) ∧
    -- clause 8, another value
    (∃ (s : State) (t : Nat) (who : Who) (u : State) (v : _), Writes s t who .glob u ∧ 0 ≤ sx16 (fld v 0 16) ∧
      sx16 (fld v 0 16) ≤ u.gov.limitMax ∧ (byMgmt who = true ∨ sx16 (fld v 0 16) ≤ u.tlimit)) ∧
    -- clause 9
    (∃ (s : State) (t : Nat) (who : Who) (u : State) (v : _), Writes s t who .glob u ∧ ((byMgmt who = false ∧
      u.tlimit < sx16 (fld v 0 16)) ∨ sx16 (fld v 0 16) < 0 ∨ u.gov.limitMax < sx16 (fld v 0 16))) ∧
    -- clause 9, another value
    (∃ (s : State) (t : Nat) (who : Who) (u : State) (v : _), Writes s t who .glob u ∧ ((byMgmt who = false ∧
      u.tlimit < sx16 (fld v 0 16)) ∨ sx16 (fld v 0 16) < 0 ∨ u.gov.limitMax < sx16 (fld v 0 16))) ∧
    -- clause 9, another value
    (∃ (s : State) (t : Nat) (who : Who) (u : State) (v : _), Writes s t who .glob u ∧ ((byMgmt who = false ∧
      u.tlimit < sx16 (fld v 0 16)) ∨ sx16 (fld v 0 16) < 0 ∨ u.gov.limitMax < sx16 (fld v 0 16))) ∧
    -- clause 11
    (∃ (s : State) (t : Nat) (who : Who) (u : State), Writes s t who .glob u ∧ u.rb .GOV_PROFILE 0 0 2 = false) ∧
    -- clause 12
    (∃ (s : State) (t : Nat) (who : Who) (u : State), Writes s t who .glob u ∧ u.rb .GOV_PROFILE 0 0 2 = true) ∧
    -- clause 13
    (∃ (s : State) (t : Nat) (n : _) (u : State), Writes s t (.fn n) .glob u) :=
  ⟨⟨managed, 0, _, ⟨by decide, rfl⟩⟩,
   ⟨live, 0, .fn 0, _, 1, ⟨by decide, rfl⟩, (fun _ h => by rcases h with ⟨h, _⟩ | h <;> cases h)⟩,
   ⟨{ live.setF .GOV_CAP_MGMT 0 0 32 7 100 with cyc := { pending := some { table0 with slots := [{ slot0 with allowUj := 2 ^ 32 }] } } },
     0, .fn 0, _, 1, _, ⟨by decide, rfl⟩, .inr rfl, by decide⟩,
   ⟨{ live.setF .GOV_CAP_MGMT 0 0 32 7 100 with cyc := { running := true, table := some { table0 with slots := [{ slot0 with allowUj := 2 ^ 32 }] } } },
     0, .fn 0, _, 1, _, ⟨by decide, rfl⟩, .inl ⟨rfl, rfl⟩, by decide⟩,
   ⟨managed, 0, _, ⟨by decide, rfl⟩, by decide⟩,
   ⟨{ managed with gov := { shadow := [{ headroom := 0, price := 0, ceil := 0 }, { headroom := 0, price := 0, ceil := 0 }] } },
     0, _, ⟨by decide, rfl⟩, by decide⟩,
   ⟨live, 0, .fn 0, _, ⟨by decide, rfl⟩⟩,
   ⟨managed, 0, .mgmt, _, 0, ⟨by decide, rfl⟩, by decide, by decide, by decide⟩,
   ⟨managed, 0, .mgmt, _, 1680, ⟨by decide, rfl⟩, by decide, by decide, by decide⟩,
   ⟨live.setF .GOV_TLIMIT 0 0 0 16 1600, 0, .fn 0, _, 1600, ⟨by decide, rfl⟩, by decide, by decide, by decide⟩,
   ⟨live.setF .GOV_TLIMIT 0 0 0 16 1600, 0, .fn 0, _, 1601, ⟨by decide, rfl⟩, by decide⟩,
   ⟨managed, 0, .mgmt, _, 1681, ⟨by decide, rfl⟩, by decide⟩,
   ⟨managed, 0, .mgmt, _, 0x8000, ⟨by decide, rfl⟩, by decide⟩,
   ⟨live, 0, .fn 0, _, ⟨by decide, rfl⟩, by decide⟩,
   ⟨live.setB .GOV_PROFILE 0 0 2 true, 0, .fn 0, _, ⟨by decide, rfl⟩, by decide⟩,
   ⟨live, 0, 0, _, ⟨by decide, rfl⟩⟩⟩

/-- States and operands that meet the hypotheses of the clauses of `Obligations.LadderRungsComeAndGo`. -/
theorem test_meets_LadderRungsComeAndGo :
    -- clause 1
    (∃ (s : State) (t : Nat) (u : State), Acts s t u ∧ u.idleNow = true ∧ u.gov.gapAt = none ∧ u.gov.rung = 0 ∧
      u.gov.exiting = false ∧ u.gov.entering = none) ∧
    -- clause 2
    (∃ (s : State) (t : Nat) (u : State), Acts s t u ∧ u.gov.gapAt.isSome = true) ∧
    -- clause 3
    (∃ (s : State) (t : Nat) (u : State) (k : _) (v : _), Acts s t u ∧ u.gov.entering = some k ∧ u.regrowing = false ∧
      v = u.rungRec k false false ∧ v.gov.entering = some k) ∧
    -- clause 3, another value
    (∃ (s : State) (t : Nat) (u : State) (k : _) (v : _), Acts s t u ∧ u.gov.entering = some k ∧ u.regrowing = false ∧
      v = u.rungRec k false false ∧ v.gov.entering = some k) ∧
    -- clause 4
    (∃ (s : State) (t : Nat) (u : State) (k : _), Acts s t u ∧ u.gov.entering = some k ∧ u.regrowing = true) ∧
    -- clause 5
    (∃ (s : State) (t : Nat) (u : State) (v : _), Acts s t u ∧ u.gov.exiting = true ∧
      v = { u with gov := { u.gov with exiting := false, rung := 0 } }) ∧
    -- clause 6
    (∃ (s : State) (t : Nat) (u : State), Acts s t u ∧ u.gov.exiting = false) ∧
    -- clause 7
    (∃ (s : State) (t : Nat) (u : State) (k : _), Acts s t u ∧ (u.gov.entering = some k ∨ (u.gov.entering = none ∧
      u.gov.rung = k)) ∧ 0 < k ∧ u.gov.exiting = false ∧ u.nextStart ≤ u.now + 20000 + (rungTimes k).2) ∧
    -- clause 7, another value
    (∃ (s : State) (t : Nat) (u : State) (k : _), Acts s t u ∧ (u.gov.entering = some k ∨ (u.gov.entering = none ∧
      u.gov.rung = k)) ∧ 0 < k ∧ u.gov.exiting = false ∧ u.nextStart ≤ u.now + 20000 + (rungTimes k).2) ∧
    -- clause 7
    (∃ (s : State) (t : Nat) (u : State) (k : _), Acts s t u ∧ (u.gov.entering = some k ∨ (u.gov.entering = none ∧
      u.gov.rung = k)) ∧ 0 < k ∧ u.gov.exiting = false ∧ u.now + 20000 + (rungTimes k).2 < u.nextStart) :=
  ⟨⟨live, 0, _, ⟨by decide, rfl⟩, by decide, by decide, by decide, by decide, by decide⟩,
   ⟨{ live with gov := { gapAt := some 0 } }, 0, _, ⟨by decide, rfl⟩, by decide⟩,
   ⟨{ live with gov := { entering := some 2 } }, 0, _, 2, _, ⟨by decide, rfl⟩, by decide, by decide, rfl, by decide⟩,
   ⟨{ live with gov := { entering := some 5 } }, 0, _, 5, _, ⟨by decide, rfl⟩, by decide, by decide, rfl, by decide⟩,
   ⟨{ live.setB .ERR_STAT 0 0 1 true with gov := { entering := some 2 } }, 0, _, 2, ⟨by decide, rfl⟩, by decide, by decide⟩,
   ⟨{ live with gov := { exiting := true, rung := 5 } }, 0, _, _, ⟨by decide, rfl⟩, by decide, rfl⟩,
   ⟨live, 0, _, ⟨by decide, rfl⟩, by decide⟩,
   ⟨{ cyclic 0 with gov := { rung := 1 } }, 0, _, 1, ⟨by decide, rfl⟩, by decide, by decide, by decide, by decide +kernel⟩,
   ⟨{ cyclic 0 with gov := { entering := some 5 } }, 0, _, 5, ⟨by decide, rfl⟩, by decide, by decide, by decide,
     by decide +kernel⟩,
   ⟨{ live with gov := { rung := 1 } }, 0, _, 1, ⟨by decide, rfl⟩, by decide, by decide, by decide, by decide +kernel⟩⟩

/-- States and operands that meet the hypotheses of the clauses of `Obligations.FaultsAreContained`. -/
theorem test_meets_FaultsAreContained :
    -- clause 1
    (∃ (s : State) (t : Nat) (u : State) (c : _) (x : _), Acts s t u ∧ Tab.get? u.ctxs c = some x ∧ x.wdMs ≠ 0 ∧
      x.wdMs * 1000000 ≤ Tab.getD u.wd c 0 ∧ u.ctxActive c = true ∧ u.regrowing = false ∧ u.wdHolds c = false) ∧
    -- clause 1
    (∃ (s : State) (t : Nat) (u : State) (c : _) (x : _), Acts s t u ∧ Tab.get? u.ctxs c = some x ∧ x.wdMs ≠ 0 ∧
      x.wdMs * 1000000 ≤ Tab.getD u.wd c 0 ∧ u.ctxActive c = true ∧ u.regrowing = false ∧ u.wdHolds c = true) ∧
    -- clause 1
    (∃ (s : State) (t : Nat) (u : State) (c : _) (x : _), Acts s t u ∧ Tab.get? u.ctxs c = some x ∧ x.wdMs ≠ 0 ∧
      x.wdMs * 1000000 ≤ Tab.getD u.wd c 0 ∧ u.ctxActive c = true ∧ u.regrowing = true) ∧
    -- clause 2
    (∃ (s : State) (t : Nat) (u : State) (c : _) (x : _), Acts s t u ∧ Tab.get? u.ctxs c = some x ∧
      Tab.getD u.wd c 0 < x.wdMs * 1000000) ∧
    -- clause 3
    (∃ (s : State) (t : Nat) (u : State) (k : _) (c : _) (d : _), Acts s t u ∧ (k = .autotomy ∨ k = .destroySq) ∧
      u.tdOf k c = some d ∧ d.has = true ∧ d.merged = false ∧ d.entered + d.limitNs ≤ u.ref ∧ d.cut = []) ∧
    -- clause 3, another value
    (∃ (s : State) (t : Nat) (u : State) (k : _) (c : _) (d : _), Acts s t u ∧ (k = .autotomy ∨ k = .destroySq) ∧
      u.tdOf k c = some d ∧ d.has = true ∧ d.merged = false ∧ d.entered + d.limitNs ≤ u.ref ∧ d.cut = []) ∧
    -- clause 3
    (∃ (s : State) (t : Nat) (u : State) (k : _) (c : _) (d : _), Acts s t u ∧ (k = .autotomy ∨ k = .destroySq) ∧
      u.tdOf k c = some d ∧ d.has = true ∧ d.merged = false ∧ u.ref < d.entered + d.limitNs) ∧
    -- clause 4
    (∃ (s : State) (t : Nat) (u : State) (k : _) (o : _) (n : _) (d : _), Acts s t u ∧
      (k = .flr ∨ k = .hostLoss ∨ k = .halted ∨ (k = .removal ∧ d.step ≠ 3)) ∧ u.tdOf k o = some d ∧ d.has = true ∧
      d.merged = false ∧ u.tdFn d n = true ∧ d.entered + u.limitOf d n ≤ u.ref ∧ d.cut.contains n = false) ∧
    -- clause 4, another value
    (∃ (s : State) (t : Nat) (u : State) (k : _) (o : _) (n : _) (d : _), Acts s t u ∧
      (k = .flr ∨ k = .hostLoss ∨ k = .halted ∨ (k = .removal ∧ d.step ≠ 3)) ∧ u.tdOf k o = some d ∧ d.has = true ∧
      d.merged = false ∧ u.tdFn d n = true ∧ d.entered + u.limitOf d n ≤ u.ref ∧ d.cut.contains n = false) ∧
    -- clause 4, another value
    (∃ (s : State) (t : Nat) (u : State) (k : _) (o : _) (n : _) (d : _), Acts s t u ∧
      (k = .flr ∨ k = .hostLoss ∨ k = .halted ∨ (k = .removal ∧ d.step ≠ 3)) ∧ u.tdOf k o = some d ∧ d.has = true ∧
      d.merged = false ∧ u.tdFn d n = true ∧ d.entered + u.limitOf d n ≤ u.ref ∧ d.cut.contains n = false) ∧
    -- clause 4, another value
    (∃ (s : State) (t : Nat) (u : State) (k : _) (o : _) (n : _) (d : _), Acts s t u ∧
      (k = .flr ∨ k = .hostLoss ∨ k = .halted ∨ (k = .removal ∧ d.step ≠ 3)) ∧ u.tdOf k o = some d ∧ d.has = true ∧
      d.merged = false ∧ u.tdFn d n = true ∧ d.entered + u.limitOf d n ≤ u.ref ∧ d.cut.contains n = false) ∧
    -- clause 4
    (∃ (s : State) (t : Nat) (u : State) (k : _) (o : _) (n : _) (d : _), Acts s t u ∧
      (k = .flr ∨ k = .hostLoss ∨ k = .halted ∨ (k = .removal ∧ d.step ≠ 3)) ∧ u.tdOf k o = some d ∧ d.has = true ∧
      d.merged = false ∧ u.tdFn d n = true ∧ u.ref < d.entered + u.limitOf d n) ∧
    -- clause 5
    (∃ (s : State) (t : Nat) (u : State) (a : _) (d : _), Acts s t u ∧ u.tdOf .removal a = some d ∧ d.has = true ∧
      d.merged = false ∧ d.step = 3 ∧ d.mark + 1000000 ≤ u.ref) ∧
    -- clause 6
    (∃ (s : State) (t : Nat) (u : State), Acts s t u) ∧
    -- clause 7
    (∃ (u : State) (j : _) (d : _), u.tdSlot = some j ∧ u.td.find? (fun d => !d.has && !d.merged) = some d) ∧
    -- clause 8
    (∃ (s : State) (t : Nat) (u : State) (ok : _), Acts s t u ∧ u.regrowing = true ∧
      u.regrow.reread.all (fun r => ok && !u.mcs.bad.contains r.2) = true) ∧
    -- clause 8, another value
    (∃ (s : State) (t : Nat) (u : State) (ok : _), Acts s t u ∧ u.regrowing = true ∧
      u.regrow.reread.all (fun r => ok && !u.mcs.bad.contains r.2) = true) ∧
    -- clause 9
    (∃ (s : State) (t : Nat) (u : State) (n : _) (a : _), Acts s t u ∧ u.regrowing = true ∧ u.regrow.reread = some (n, a) ∧
      0x8000 ≤ a) ∧
    -- clause 10
    (∃ (s : State) (t : Nat) (u : State) (n : _) (a : _), Acts s t u ∧ u.regrowing = true ∧ u.regrow.reread = some (n, a) ∧
      a < 0x8000) ∧
    -- clause 11
    (∃ (s : State) (t : Nat) (u : State), Acts s t u ∧ u.regrowing = false) ∧
    -- clause 12
    (∃ (s : State) (t : Nat) (who : Who) (u : State), Writes s t who .glob u) ∧
    -- clause 13
    (∃ (s : State) (t : Nat) (u : State) (n : _), Writes s t .mgmt .glob u ∧ u.rb .OBS_STOP_CFG 0 0 0 = true ∧ n ≤ 8 ∧
      u.regrow.injParity.contains n = false) ∧
    -- clause 14
    (∃ (s : State) (t : Nat) (u : State) (n : _), Writes s t .mgmt .glob u ∧ u.rb .OBS_STOP_CFG 0 0 0 = true ∧ n ≤ 5 ∧
      u.regrow.injBad.contains n = false) ∧
    -- clause 14
    (∃ (s : State) (t : Nat) (u : State) (n : _), Writes s t .mgmt .glob u ∧ u.rb .OBS_STOP_CFG 0 0 0 = true ∧ n ≤ 5 ∧
      u.regrow.injFix.contains n = false) ∧
    -- clause 15
    (∃ (s : State) (t : Nat) (u : State), Writes s t .mgmt .glob u ∧ u.rb .OBS_STOP_CFG 0 0 0 = false) ∧
    -- clause 16
    (∃ (s : State) (t : Nat) (m : _) (u : State), Writes s t (.fn m) .glob u) :=
  ⟨⟨{ running { flight0 with readySince := none, seqr := none } with wd := [(0, 100000000)] }, 0, _, 0, _, ⟨by decide, rfl⟩,
    rfl, by decide, by decide, by decide, by decide, by decide⟩,
   ⟨{ running { flight0 with readySince := none, seqr := none, wait := some { kind := .event 0 1, since := 0, deadline := some 9 } } with wd := [(0, 100000000)] },
     0, _, 0, _, ⟨by decide, rfl⟩, rfl, by decide, by decide, by decide, by decide, by decide⟩,
   ⟨{ (running flight0).setB .ERR_STAT 0 0 1 true with wd := [(0, 100000000)] }, 0, _, 0, _, ⟨by decide, rfl⟩, rfl, by decide,
     by decide, by decide, by decide⟩,
   ⟨{ queued with wd := [(0, 99999999)] }, 0, _, 0, _, ⟨by decide, rfl⟩, rfl, by decide⟩,
   ⟨{ live with ref := 200000, td := [{ kind := .autotomy, obj := 0, has := true }] }, 0, _, .autotomy, 0, _, ⟨by decide, rfl⟩,
     by decide, rfl, by decide, by decide, by decide, by decide⟩,
   ⟨{ live with ref := 200000, td := [{ kind := .destroySq, obj := 3, has := true }] }, 0, _, .destroySq, 3, _, ⟨by decide,
     rfl⟩, by decide, rfl, by decide, by decide, by decide, by decide⟩,
   ⟨{ live with ref := 199999, td := [{ kind := .autotomy, obj := 0, has := true }] }, 0, _, .autotomy, 0, _, ⟨by decide, rfl⟩,
     by decide, rfl, by decide, by decide, by decide⟩,
   ⟨{ live with ref := 4000000, td := [{ kind := .flr, obj := 63, has := true }] }, 0, _, .flr, 63, 63, _, ⟨by decide, rfl⟩,
     by decide, rfl, by decide, by decide, by decide, by decide, by decide⟩,
   ⟨{ live with ref := 4000000, td := [{ kind := .hostLoss, obj := 0, has := true }] }, 0, _, .hostLoss, 0, 5, _, ⟨by decide,
     rfl⟩, by decide, rfl, by decide, by decide, by decide, by decide, by decide⟩,
   ⟨{ live with ref := 4000000, td := [{ kind := .halted, obj := 7, has := true }] }, 0, _, .halted, 7, 7, _, ⟨by decide, rfl⟩,
     by decide, rfl, by decide, by decide, by decide, by decide, by decide⟩,
   ⟨{ assigned with ref := 4000000, td := [{ kind := .removal, obj := 0, has := true, step := 2 }] }, 0, _, .removal, 0, 0, _,
     ⟨by decide, rfl⟩, by decide, rfl, by decide, by decide, by decide, by decide, by decide⟩,
   ⟨{ live with td := [{ kind := .halted, obj := 7, has := true }] }, 0, _, .halted, 7, 7, _, ⟨by decide, rfl⟩, by decide, rfl,
     by decide, by decide, by decide, by decide⟩,
   ⟨{ live with ref := 1000000, td := [{ kind := .removal, obj := 7, has := true, step := 3 }] }, 0, _, 7, _, ⟨by decide, rfl⟩,
     rfl, by decide, by decide, by decide, by decide⟩,
   ⟨live, 0, _, ⟨by decide, rfl⟩⟩,
   ⟨{ live with td := [{ kind := .flr, obj := 63 }] }, 0, _, by decide, rfl⟩,
   ⟨live.setB .ERR_STAT 0 0 1 true, 0, _, true, ⟨by decide, rfl⟩, by decide, by decide⟩,
   ⟨{ live.setB .ERR_STAT 0 0 1 true with regrow := { reread := some (0, 5) } }, 0, _, true, ⟨by decide, rfl⟩, by decide,
     by decide⟩,
   ⟨{ live.setB .ERR_STAT 0 0 1 true with regrow := { open0 := true, reread := some (0, 0x8000) } }, 0, _, 0, 0x8000,
     ⟨by decide, rfl⟩, by decide, by decide, by decide⟩,
   ⟨{ live.setB .ERR_STAT 0 0 1 true with regrow := { reread := some (0, 5) } }, 0, _, _, _, ⟨by decide, rfl⟩, by decide, rfl,
     by decide⟩,
   ⟨live, 0, _, ⟨by decide, rfl⟩, by decide⟩,
   ⟨live, 0, .fn 0, _, ⟨by decide, rfl⟩⟩,
   ⟨managed.setB .OBS_STOP_CFG 0 0 0 true, 0, _, 8, ⟨by decide, rfl⟩, by decide, by decide, by decide⟩,
   ⟨managed.setB .OBS_STOP_CFG 0 0 0 true, 0, _, 5, ⟨by decide, rfl⟩, by decide, by decide, by decide⟩,
   ⟨managed.setB .OBS_STOP_CFG 0 0 0 true, 0, _, 5, ⟨by decide, rfl⟩, by decide, by decide, by decide⟩,
   ⟨managed, 0, _, ⟨by decide, rfl⟩, by decide⟩,
   ⟨live, 0, 0, _, ⟨by decide, rfl⟩⟩⟩

/-- States and operands that meet the hypotheses of the clauses of `Obligations.FunctionsAreAssignedAndReset`. -/
theorem test_meets_FunctionsAreAssignedAndReset :
    -- clause 1
    (∃ (s : State) (t : Nat) (u : State) (k : _), Runs s t u ∧ k ≤ 63) ∧
    -- clause 1, another value
    (∃ (s : State) (t : Nat) (u : State) (k : _), Runs s t u ∧ k ≤ 63) ∧
    -- clause 2
    (∃ (s : State) (t : Nat) (who : Who) (u : State) (n : _) (v : _), Writes s t who .glob u ∧
      (byMgmt who || decide (n ≠ 0)) = true ∧ u.fnEmpty n = true ∧ u.resetting n = false ∧
      (bitOf v 3 = false ∨ u.live (fld v 0 3) = true) ∧ bitOf v 4 = false ∧ bitOf v 6 = false) ∧
    -- clause 2, another value
    (∃ (s : State) (t : Nat) (who : Who) (u : State) (n : _) (v : _), Writes s t who .glob u ∧
      (byMgmt who || decide (n ≠ 0)) = true ∧ u.fnEmpty n = true ∧ u.resetting n = false ∧
      (bitOf v 3 = false ∨ u.live (fld v 0 3) = true) ∧ bitOf v 4 = false ∧ bitOf v 6 = false) ∧
    -- clause 3
    (∃ (s : State) (t : Nat) (who : Who) (u : State) (n : _) (v : _), Writes s t who .glob u ∧ u.fnEmpty n = false ∧
      bitOf v 4 = false ∧ fld v 0 4 ≠ u.rf .VXB_FN_CFG n 0 0 4) ∧
    -- clause 4
    (∃ (s : State) (t : Nat) (who : Who) (u : State) (n : _) (v : _), Writes s t who .glob u ∧
      (byMgmt who || decide (n ≠ 0)) = true ∧ bitOf v 4 = false ∧ bitOf v 6 = true ∧ fld v 0 4 = u.rf .VXB_FN_CFG n 0 0 4) ∧
    -- clause 4, another value
    (∃ (s : State) (t : Nat) (who : Who) (u : State) (n : _) (v : _), Writes s t who .glob u ∧
      (byMgmt who || decide (n ≠ 0)) = true ∧ bitOf v 4 = false ∧ bitOf v 6 = true ∧ fld v 0 4 = u.rf .VXB_FN_CFG n 0 0 4) ∧
    -- clause 5
    (∃ (s : State) (t : Nat) (who : Who) (u : State) (n : _), Writes s t who .glob u ∧ (byMgmt who || decide (n ≠ 0)) = true ∧
      u.fnPresent n = true) ∧
    -- clause 5, another value
    (∃ (s : State) (t : Nat) (who : Who) (u : State) (n : _), Writes s t who .glob u ∧ (byMgmt who || decide (n ≠ 0)) = true ∧
      u.fnPresent n = true) ∧
    -- clause 6
    (∃ (s : State) (t : Nat) (m : _) (u : State), Writes s t (.fn m) .glob u) ∧
    -- clause 7
    (∃ (s : State) (t : Nat) (n : _) (u : State), Writes s t (.fn n) (.own n) u) ∧
    -- clause 8
    (∃ (s : State) (t : Nat) (n : _) (u : State), Runs s t u ∧ u.fnPresent n = true) ∧
    -- clause 9
    (∃ (s : State) (t : Nat) (n : _) (u : State), Runs s t u ∧ u.fnPresent n = false) ∧
    -- clause 9, another value
    (∃ (s : State) (t : Nat) (n : _) (u : State), Runs s t u ∧ u.fnPresent n = false) :=
  ⟨⟨live, 0, _, 63, ⟨by decide, rfl⟩, by decide⟩,
   ⟨live, 0, _, 0, ⟨by decide, rfl⟩, by decide⟩,
   ⟨live, 0, .fn 0, _, 63, 0, ⟨by decide, rfl⟩, by decide, by decide, by decide, by decide, by decide, by decide⟩,
   ⟨live.setB .VXB_PART_RES 7 0 24 true, 0, .fn 0, _, 1, 15, ⟨by decide, rfl⟩, by decide, by decide, by decide, by decide,
     by decide, by decide⟩,
   ⟨queued, 0, .fn 0, _, 0, 0, ⟨by decide, rfl⟩, by decide, by decide, by decide⟩,
   ⟨managed, 0, .mgmt, _, 0, 0x40, ⟨by decide, rfl⟩, by decide, by decide, by decide, rfl⟩,
   ⟨live, 0, .fn 0, _, 63, 0x40, ⟨by decide, rfl⟩, by decide, by decide, by decide, rfl⟩,
   ⟨live.setF .VXB_VF_EN 0 0 0 6 63, 0, .fn 0, _, 63, ⟨by decide, rfl⟩, by decide, by decide⟩,
   ⟨managed, 0, .mgmt, _, 0, ⟨by decide, rfl⟩, by decide, by decide⟩,
   ⟨live, 0, 0, _, ⟨by decide, rfl⟩⟩,
   ⟨live, 0, 0, _, ⟨by decide, rfl⟩⟩,
   ⟨live, 0, 0, _, ⟨by decide, rfl⟩, by decide⟩,
   ⟨live, 0, 1, _, ⟨by decide, rfl⟩, by decide⟩,
   ⟨live.setF .VXB_VF_EN 0 0 0 6 63, 0, 64, _, ⟨by decide, rfl⟩, by decide⟩⟩

/-- States and operands that meet the hypotheses of the clauses of `Obligations.PartitionsGainAndLoseParts`. -/
theorem test_meets_PartitionsGainAndLoseParts :
    -- clause 1
    (∃ (s : State) (t : Nat) (u : State) (m : BitVec 48) (a : _) (b : _) (c : _), Writes s t .mgmt .glob u ∧
      u.reqFault 0 m.toNat a b = some c ∧ c ≠ 1 ∧ u.preq = none ∧ u.removals = [] ∧
      u.td.any (fun d => d.kind == .removal) = false) ∧
    -- clause 1, another value
    (∃ (s : State) (t : Nat) (u : State) (m : BitVec 48) (a : _) (b : _) (c : _), Writes s t .mgmt .glob u ∧
      u.reqFault 0 m.toNat a b = some c ∧ c ≠ 1 ∧ u.preq = none ∧ u.removals = [] ∧
      u.td.any (fun d => d.kind == .removal) = false) ∧
    -- clause 2
    (∃ (s : State) (t : Nat) (u : State), Writes s t .mgmt .glob u ∧ u.reqBusy = true) ∧
    -- clause 3
    (∃ (s : State) (t : Nat) (u : State) (m : BitVec 48) (a : _) (b : _), Writes s t .mgmt .glob u ∧
      u.reqFault 0 m.toNat a b = none) ∧
    -- clause 3, another value
    (∃ (s : State) (t : Nat) (u : State) (m : BitVec 48) (a : _) (b : _), Writes s t .mgmt .glob u ∧
      u.reqFault 0 m.toNat a b = none) ∧
    -- clause 4
    (∃ (s : State) (t : Nat) (u : State) (m : BitVec 48) (a : _) (b : _), Writes s t .mgmt .glob u ∧ a < 8 ∧ b < 8 ∧
      u.reqFault 0 m.toNat a b = none ∧ (∀ p, p < 48 → (nth u.cores p {}).bank = none) ∧ u.due = []) ∧
    -- clause 5
    (∃ (s : State) (t : Nat) (u : State) (m : BitVec 48) (a : _) (b : _), Writes s t .mgmt .glob u ∧ a < 8 ∧
      u.reqFault 1 m.toNat a b = none) ∧
    -- clause 6
    (∃ (s : State) (t : Nat) (u : State) (r : _), Acts s t u ∧ u.preq = some r ∧ r.kind = 1 ∧ r.src.isSome = true ∧
      r.scrub = false) ∧
    -- clause 7
    (∃ (s : State) (t : Nat) (u : State) (r : _) (n : _), Acts s t u ∧ u.td = [] ∧ u.preq = some r ∧ r.kind = 1 ∧
      r.scrub = true ∧ r.keyWait = false ∧ r.src.getD 8 = n) ∧
    -- clause 8
    (∃ (s : State) (t : Nat) (u : State) (m : BitVec 48) (a : _) (b : _), Writes s t .mgmt .glob u ∧
      u.reqFault 2 m.toNat a b = none) ∧
    -- clause 9
    (∃ (s : State) (t : Nat) (u : State) (a : _), Writes s t .mgmt .glob u ∧ a < 8 ∧ u.removing a = false ∧
      u.removals.contains a = false ∧ u.preq = none ∧ u.td.any (fun d => d.kind == .removal) = false) ∧
    -- clause 9
    (∃ (s : State) (t : Nat) (u : State) (a : _), Writes s t .mgmt .glob u ∧ a < 8 ∧ u.removing a = false ∧
      u.removals.contains a = false ∧ u.preq = none ∧ u.td.any (fun d => d.kind == .removal) = true) ∧
    -- clause 10
    (∃ (s : State) (t : Nat) (u : State) (a : _) (r : _), Writes s t .mgmt .glob u ∧ a < 8 ∧ u.removing a = false ∧
      u.removals.contains a = false ∧ u.preq = some r ∧ r.src ≠ some a ∧ r.dst ≠ some a) ∧
    -- clause 10
    (∃ (s : State) (t : Nat) (u : State) (a : _) (r : _), Writes s t .mgmt .glob u ∧ a < 8 ∧ u.removing a = false ∧
      u.removals.contains a = false ∧ u.preq = some r ∧ (r.src = some a ∨ r.dst = some a)) ∧
    -- clause 11
    (∃ (s : State) (t : Nat) (u : State) (a : _), Writes s t .mgmt .glob u ∧ a < 8 ∧
      (u.removing a = true ∨ u.removals.contains a = true)) ∧
    -- clause 11, another value
    (∃ (s : State) (t : Nat) (u : State) (a : _), Writes s t .mgmt .glob u ∧ a < 8 ∧
      (u.removing a = true ∨ u.removals.contains a = true)) ∧
    -- clause 12
    (∃ (s : State) (t : Nat) (u : State), Acts s t u) ∧
    -- clause 13
    (∃ (s : State) (t : Nat) (u : State) (n : _) (d : _), Acts s t u ∧
      u.td.find? (fun d => d.kind == .removal && d.flushing.contains n && d.step == 2) = none ∧
      u.td.find? (fun d => (d.kind == .flr && d.obj == n || d.kind == .hostLoss) && d.step == 4) = some d ∧ d.kind = .flr) ∧
    -- clause 13
    (∃ (s : State) (t : Nat) (u : State) (n : _) (d : _), Acts s t u ∧
      u.td.find? (fun d => d.kind == .removal && d.flushing.contains n && d.step == 2) = none ∧
      u.td.find? (fun d => (d.kind == .flr && d.obj == n || d.kind == .hostLoss) && d.step == 4) = some d ∧
      d.kind = .hostLoss) ∧
    -- clause 14
    (∃ (s : State) (t : Nat) (u : State) (a : _) (d : _), Acts s t u ∧ u.tdOf .removal a = some d ∧ d.step = 4) ∧
    -- clause 15
    (∃ (s : State) (t : Nat) (n : _) (u : State), Writes s t (.fn n) .glob u) :=
  ⟨⟨owning, 0, _, 2, 0, 1, 3, ⟨by decide, rfl⟩, rfl, by decide, by decide, by decide, by decide⟩,
   ⟨owning, 0, _, 0, 0, 9, 7, ⟨by decide, rfl⟩, rfl, by decide, by decide, by decide, by decide⟩,
   ⟨{ owning with removals := [2] }, 0, _, ⟨by decide, rfl⟩, by decide⟩,
   ⟨owning, 0, _, 1, 0, 8, ⟨by decide, rfl⟩, by decide⟩,
   ⟨owning, 0, _, 1, 0, 7, ⟨by decide, rfl⟩, by decide⟩,
   ⟨owning, 0, _, 1, 0, 7, ⟨by decide, rfl⟩, by decide, by decide, by decide, by decide, by decide⟩,
   ⟨owning.setF .VXB_PART_RES 0 0 0 16 1, 0, _, 1, 0, 1, ⟨by decide, rfl⟩, by decide, by decide⟩,
   ⟨{ owning with preq := some { kind := 1, src := some 0, dst := none, mask := 1 } }, 0, _, _, ⟨by decide, rfl⟩, rfl,
     by decide, by decide, by decide⟩,
   ⟨{ owning with preq := some { kind := 1, src := some 0, dst := none, mask := 1, scrub := true } }, 0, _, _, 0, ⟨by decide,
     rfl⟩, by decide, rfl, by decide, by decide, by decide, by decide⟩,
   ⟨owning.setF .VXB_PART_RES 0 0 16 8 1, 0, _, 1, 0, 8, ⟨by decide, rfl⟩, by decide⟩,
   ⟨owning, 0, _, 7, ⟨by decide, rfl⟩, by decide, by decide, by decide, by decide, by decide⟩,
   ⟨{ owning with td := [{ kind := .removal, obj := 3 }] }, 0, _, 7, ⟨by decide, rfl⟩, by decide, by decide, by decide,
     by decide, by decide⟩,
   ⟨{ owning with preq := some { kind := 0, src := none, dst := some 0, mask := 1 } }, 0, _, 7, _, ⟨by decide, rfl⟩, by decide,
     by decide, by decide, rfl, by decide, by decide⟩,
   ⟨{ owning with preq := some { kind := 0, src := none, dst := some 0, mask := 1 } }, 0, _, 0, _, ⟨by decide, rfl⟩, by decide,
     by decide, by decide, rfl, by decide⟩,
   ⟨{ owning with removals := [7] }, 0, _, 7, ⟨by decide, rfl⟩, by decide, by decide⟩,
   ⟨owning.setB .VXB_PART_RES 0 0 26 true, 0, _, 0, ⟨by decide, rfl⟩, by decide, by decide⟩,
   ⟨live, 0, _, ⟨by decide, rfl⟩⟩,
   ⟨{ live with td := [{ kind := .flr, obj := 0, step := 4 }] }, 0, _, 0, _, ⟨by decide, rfl⟩, by decide, rfl, by decide⟩,
   ⟨{ live with td := [{ kind := .hostLoss, obj := 0, step := 4 }] }, 0, _, 5, _, ⟨by decide, rfl⟩, by decide, rfl, by decide⟩,
   ⟨{ live with td := [{ kind := .removal, obj := 7, step := 4 }] }, 0, _, 7, _, ⟨by decide, rfl⟩, rfl, by decide⟩,
   ⟨live, 0, 0, _, ⟨by decide, rfl⟩⟩⟩

/-- States and operands that meet the hypotheses of the clauses of `Obligations.KeysAreMadeAndZeroised`. -/
theorem test_meets_KeysAreMadeAndZeroised :
    -- clause 1
    (∃ (s : State) (t : Nat) (u : State) (k : _) (r : _), Runs s t u ∧ k < 8 ∧ u.sec.keyReqs = .part k :: r ∧
      u.esFailed = false ∧ u.preq = none) ∧
    -- clause 2
    (∃ (s : State) (t : Nat) (u : State), Runs s t u ∧ u.esFailed = true ∧ u.sec.keyReqs ≠ []) ∧
    -- clause 3
    (∃ (s : State) (t : Nat) (u : State), Runs s t u ∧ u.esFailed = false) ∧
    -- clause 4
    (∃ (s : State) (t : Nat) (u : State), Runs s t u ∧ u.esFailed = true ∧ u.rf .SEC_STAT 0 0 2 2 < 3) ∧
    -- clause 5
    (∃ (s : State) (t : Nat) (u : State), Runs s t u ∧ u.esFailed = true ∧ u.rf .SEC_STAT 0 0 2 2 = 3) ∧
    -- clause 6
    (∃ (s : State) (t : Nat) (u : State) (f : _) (r : _), Runs s t u ∧ u.sec.keyReqs = .tenant f :: r ∧ u.esFailed = false ∧
      u.rb .TML_STAT 0 0 5 = true) ∧
    -- clause 7
    (∃ (u : State) (f : _) (e : _), e = ((Tab.get? u.sec.nextEpoch f).getD (u.rf .SEC_FT f 0 32 16) + 1) % 65536) ∧
    -- clause 8
    (∃ (u : State) (f : _), u.rb .SEC_FT f 0 19 = true) ∧
    -- clause 8
    (∃ (u : State) (f : _), u.rb .SEC_FT f 0 19 = true ∧ u.slotType (8 + u.rf .SEC_FT f 0 16 3) = 2 ∧
      u.rb .SEC_FT f 0 20 = true ∧ Tab.get? u.sec.nextEpoch f = none) ∧
    -- clause 9
    (∃ (s : State) (t : Nat) (u : State) (n : _) (r : _), Runs s t u ∧ u.sec.keyReqs = .wrap n :: r ∧ u.esFailed = false ∧
      u.sec.mbox.contains n = true ∧ u.inSession (.host n) = true) ∧
    -- clause 10
    (∃ (s : State) (t : Nat) (n : _) (a : _) (k : _) (m : _) (u : State) (p : _), Writes s t (.fn n) (.own n) u ∧
      Tab.get? u.sec.releases n = none ∧ u.fnPart n = some p ∧ m = (if k = 0 then 1 else k) ∧ m ≤ 65536 ∧
      a + m ≤ u.rf .MCI_PART p 0 16 36 ∧
      (∀ r, r < 4 → bitOf (u.reg .MCI_SEAL p r) 36 = true → a + m ≤ fld (u.reg .MCI_SEAL p r) 0 36 ∨ fld (u.reg .MCI_SEAL p r) 0 36 + fld (u.reg .MCI_SEAL p r) 40 24 ≤ a)) ∧
    -- clause 11
    (∃ (s : State) (t : Nat) (n : _) (a : _) (k : _) (m : _) (u : State) (p : _), Writes s t (.fn n) (.own n) u ∧
      Tab.get? u.sec.releases n = none ∧ u.fnPart n = some p ∧ m = (if k = 0 then 1 else k) ∧
      (65536 < m ∨ u.rf .MCI_PART p 0 16 36 < a + m)) ∧
    -- clause 11, another value
    (∃ (s : State) (t : Nat) (n : _) (a : _) (k : _) (m : _) (u : State) (p : _), Writes s t (.fn n) (.own n) u ∧
      Tab.get? u.sec.releases n = none ∧ u.fnPart n = some p ∧ m = (if k = 0 then 1 else k) ∧
      (65536 < m ∨ u.rf .MCI_PART p 0 16 36 < a + m)) ∧
    -- clause 12
    (∃ (s : State) (t : Nat) (n : _) (u : State), Writes s t (.fn n) (.own n) u ∧ (Tab.get? u.sec.releases n).isSome = true) ∧
    -- clause 14
    (∃ (s : State) (t : Nat) (n : _) (k : _) (u : State), Writes s t (.fn n) (.own n) u ∧ (u.fnKeys n).contains k = true ∧
      u.slotType k = 3 ∧ u.slotInUse k = false) ∧
    -- clause 14
    (∃ (s : State) (t : Nat) (n : _) (k : _) (u : State), Writes s t (.fn n) (.own n) u ∧ (u.fnKeys n).contains k = true ∧
      u.slotType k = 3 ∧ u.slotInUse k = true ∧ u.sec.revoke.contains k = false) ∧
    -- clause 15
    (∃ (s : State) (t : Nat) (n : _) (k : _) (u : State), Writes s t (.fn n) (.own n) u ∧ (u.fnKeys n).contains k = false) ∧
    -- clause 16
    (∃ (s : State) (t : Nat) (k : _) (u : State), Writes s t .mgmt .glob u ∧ 16 ≤ k ∧ k ≤ 62 ∧ u.slotType k = 3 ∧
      u.slotInUse k = false) ∧
    -- clause 16, another value
    (∃ (s : State) (t : Nat) (k : _) (u : State), Writes s t .mgmt .glob u ∧ 16 ≤ k ∧ k ≤ 62 ∧ u.slotType k = 3 ∧
      u.slotInUse k = false) ∧
    -- clause 17
    (∃ (s : State) (t : Nat) (k : _) (u : State), Writes s t .mgmt .glob u ∧ 16 ≤ k ∧ k ≤ 62 ∧ u.slotType k = 3 ∧
      u.slotInUse k = true ∧ u.sec.revoke.contains k = false) ∧
    -- clause 18
    (∃ (s : State) (t : Nat) (k : _) (u : State), Writes s t .mgmt .glob u ∧ 8 ≤ k ∧ k ≤ 15 ∧ u.slotType k = 2 ∧
      u.ftInUse (u.rf .SEC_SLOT k 0 8 4) = false) ∧
    -- clause 18, another value
    (∃ (s : State) (t : Nat) (k : _) (u : State), Writes s t .mgmt .glob u ∧ 8 ≤ k ∧ k ≤ 15 ∧ u.slotType k = 2 ∧
      u.ftInUse (u.rf .SEC_SLOT k 0 8 4) = false) ∧
    -- clause 19
    (∃ (s : State) (t : Nat) (k : _) (u : State), Writes s t .mgmt .glob u ∧ (k < 8 ∨ 62 < k)) ∧
    -- clause 19, another value
    (∃ (s : State) (t : Nat) (k : _) (u : State), Writes s t .mgmt .glob u ∧ (k < 8 ∨ 62 < k)) ∧
    -- clause 20
    (∃ (s : State) (t : Nat) (u : State), Writes s t .mgmt .glob u) ∧
    -- clause 21
    (∃ (s : State) (t : Nat) (n : _) (u : State), Writes s t (.fn n) .glob u) :=
  ⟨⟨{ live with sec := { keyReqs := [.part 7] } }, 0, _, 7, [], ⟨by decide, rfl⟩, by decide, by decide, by decide, by decide⟩,
   ⟨{ live.setB .SEC_STAT 0 0 1 true with sec := { keyReqs := [.part 0] } }, 0, _, ⟨by decide, rfl⟩, by decide, by decide⟩,
   ⟨live, 0, _, ⟨by decide, rfl⟩, by decide⟩,
   ⟨(live.setB .SEC_STAT 0 0 1 true).setF .SEC_STAT 0 0 2 2 2, 0, _, ⟨by decide, rfl⟩, by decide, by decide⟩,
   ⟨(live.setB .SEC_STAT 0 0 1 true).setF .SEC_STAT 0 0 2 2 3, 0, _, ⟨by decide, rfl⟩, by decide, by decide⟩,
   ⟨{ fabric true with sec := { keyReqs := [.tenant 15] } }, 0, _, 15, _, ⟨by decide, rfl⟩, rfl, by decide, by decide⟩,
   ⟨live, 0, _, rfl⟩,
   ⟨sharing, 0, by decide⟩,
   ⟨(sharing.setF .SEC_SLOT 8 0 0 2 2), 0, by decide, by decide, by decide, by decide⟩,
   ⟨{ live with sec := { keyReqs := [.wrap 0], mbox := [0], sessions := [{ peer := .host 0, finished := true }] } }, 0, _, 0, _,
     ⟨by decide, rfl⟩, rfl, by decide, by decide, by decide⟩,
   ⟨assigned.setF .MCI_PART 0 0 16 36 65536, 0, 0, 0, 65536, _, _, _, ⟨by decide, rfl⟩, by decide, rfl, rfl, by decide,
     by decide, fun r _ h => by rw [unsealed _ _ r (by decide)] at h; cases h⟩,
   ⟨assigned.setF .MCI_PART 0 0 16 36 65536, 0, 0, 65536, 0, _, _, _, ⟨by decide, rfl⟩, by decide, rfl, rfl, by decide⟩,
   ⟨assigned.setF .MCI_PART 0 0 16 36 65536, 0, 0, 0, 65537, _, _, _, ⟨by decide, rfl⟩, by decide, rfl, rfl, by decide⟩,
   ⟨{ assigned with sec := { releases := [(0, (0, 1, []))] } }, 0, 0, _, ⟨by decide, rfl⟩, by decide⟩,
   ⟨keyed, 0, 0, 16, _, ⟨by decide, rfl⟩, by decide, by decide, by decide⟩,
   ⟨{ keyed with tasks := [(0, { task0 .gate 7 with phase := .running, words := [hd 7 6 6, 0, 0, 0, 0, 16] })] }, 0, 0, 16, _,
     ⟨by decide, rfl⟩, by decide, by decide, by decide, by decide⟩,
   ⟨assigned, 0, 0, 16, _, ⟨by decide, rfl⟩, by decide⟩,
   ⟨{ keyed with sec := managed.sec }, 0, 16, _, ⟨by decide, rfl⟩, by decide, by decide, by decide, by decide⟩,
   ⟨{ keyed.setF .SEC_SLOT 62 0 0 2 3 with sec := managed.sec }, 0, 62, _, ⟨by decide, rfl⟩, by decide, by decide, by decide,
     by decide⟩,
   ⟨{ keyed with sec := managed.sec, tasks := [(0, { task0 .gate 7 with phase := .running, words := [hd 7 6 6, 0, 0, 0, 0, 16] })] },
     0, 16, _, ⟨by decide, rfl⟩, by decide, by decide, by decide, by decide, by decide⟩,
   ⟨{ managed.setF .SEC_SLOT 8 0 0 2 2 with sec := managed.sec }, 0, 8, _, ⟨by decide, rfl⟩, by decide, by decide, by decide,
     by decide⟩,
   ⟨{ managed.setF .SEC_SLOT 15 0 0 2 2 with sec := managed.sec }, 0, 15, _, ⟨by decide, rfl⟩, by decide, by decide, by decide,
     by decide⟩,
   ⟨managed, 0, 0, _, ⟨by decide, rfl⟩, by decide⟩,
   ⟨managed, 0, 63, _, ⟨by decide, rfl⟩, by decide⟩,
   ⟨managed, 0, _, ⟨by decide, rfl⟩⟩,
   ⟨live, 0, 0, _, ⟨by decide, rfl⟩⟩⟩

/-- States and operands that meet the hypotheses of the clauses of `Obligations.SpdmRequestsAreAnswered`. -/
theorem test_meets_SpdmRequestsAreAnswered :
    -- clause 1
    (∃ (s : State) (t : Nat) (n : _) (l : _) (u : State), Writes s t (.fn n) (.own n) u ∧ u.sec.mbox.contains n = false ∧
      0 < l ∧ l ≤ 4096) ∧
    -- clause 1, another value
    (∃ (s : State) (t : Nat) (n : _) (l : _) (u : State), Writes s t (.fn n) (.own n) u ∧ u.sec.mbox.contains n = false ∧
      0 < l ∧ l ≤ 4096) ∧
    -- clause 2
    (∃ (s : State) (t : Nat) (n : _) (u : State), Writes s t (.fn n) (.own n) u ∧ u.sec.mbox.contains n = true) ∧
    -- clause 3
    (∃ (s : State) (t : Nat) (n : _) (l : _) (u : State), Writes s t (.fn n) (.own n) u ∧ u.sec.mbox.contains n = false ∧
      (l = 0 ∨ 4096 < l)) ∧
    -- clause 3, another value
    (∃ (s : State) (t : Nat) (n : _) (l : _) (u : State), Writes s t (.fn n) (.own n) u ∧ u.sec.mbox.contains n = false ∧
      (l = 0 ∨ 4096 < l)) ∧
    -- clause 4
    (∃ (s : State) (t : Nat) (n : _) (l : _) (a : _) (u : State), Acts s t u ∧ Tab.get? u.sec.mboxAns n = some a ∧
      u.refused (u.fnPart n) (u.reg .SEC_FN_MBOX_RSP n) l = false) ∧
    -- clause 4
    (∃ (s : State) (t : Nat) (n : _) (l : _) (a : _) (u : State), Acts s t u ∧ Tab.get? u.sec.mboxAns n = some a ∧
      u.refused (u.fnPart n) (u.reg .SEC_FN_MBOX_RSP n) l = true) ∧
    -- clause 5
    (∃ (l : _), 0 < l) ∧
    -- clause 6
    (∃ (s : State) (t : Nat) (u : State), u = s.at t ∧ u.ready = true ∧ u.rb .VXB_START_STAT 0 0 4 = false) ∧
    -- clause 6
    (∃ (s : State) (t : Nat) (u : State) (i : _) (l : _), u = s.at t ∧ u.ready = true ∧ u.rb .VXB_START_STAT 0 0 4 = false ∧
      l = (u.measurements .mgmt).filter (fun e => e.1 < 0x10 || u.inSession .mgmt) ∧ i ≠ 0 ∧ i ≠ 0xFF ∧
      l.filter (fun e => e.1 = i) ≠ []) ∧
    -- clause 6, another value
    (∃ (s : State) (t : Nat) (u : State) (i : _) (l : _), u = s.at t ∧ u.ready = true ∧ u.rb .VXB_START_STAT 0 0 4 = false ∧
      l = (u.measurements .mgmt).filter (fun e => e.1 < 0x10 || u.inSession .mgmt) ∧ i ≠ 0 ∧ i ≠ 0xFF ∧
      l.filter (fun e => e.1 = i) ≠ []) ∧
    -- clause 6
    (∃ (s : State) (t : Nat) (u : State) (i : _) (l : _), u = s.at t ∧ u.ready = true ∧ u.rb .VXB_START_STAT 0 0 4 = false ∧
      l = (u.measurements .mgmt).filter (fun e => e.1 < 0x10 || u.inSession .mgmt) ∧ i ≠ 0 ∧ i ≠ 0xFF ∧
      l.filter (fun e => e.1 = i) = []) ∧
    -- clause 6
    (∃ (s : State) (t : Nat) (u : State) (l : _), u = s.at t ∧ u.ready = true ∧ u.rb .VXB_START_STAT 0 0 4 = false ∧
      l = (u.measurements .mgmt).filter (fun e => e.1 < 0x10 || u.inSession .mgmt) ∧ l ≠ []) ∧
    -- clause 6
    (∃ (s : State) (t : Nat) (u : State) (l : _), u = s.at t ∧ u.ready = true ∧ u.rb .VXB_START_STAT 0 0 4 = false ∧
      l = (u.measurements .mgmt).filter (fun e => e.1 < 0x10 || u.inSession .mgmt)) ∧
    -- clause 8
    (∃ (s : State) (t : Nat) (n : _) (u : State) (i : _), u = s.at t ∧ u.alive = true ∧ u.sec.mbox.contains n = true ∧
      Tab.get? u.sec.mboxAns n = none ∧ u.sec.keyReqs.contains (.wrap n) = false ∧
      i ∈ [(Instr.getVersion t (.host n), u, SpdmAns.version 1 2), (.getCapabilities t (.host n), u, .capabilities [.cert, .chal, .measSigned, .encrypt, .mac, .keyEx, .mutAuth, .keyUpd] 15), (.negotiateAlgorithms t (.host n), u, .algorithms [.ecdsaP384, .sha384, .secp384r1, .aes256Gcm, .spdmKeySchedule]), (.getDigests t (.host n), u, .digests 0 u.chainDigest), (.getCertificate t (.host n), u, .certificate 0 u.chain), (.challenge t (.host n), u.sign.2, .challengeAuth u.chainDigest (u.summary (.host n)) u.sign.1)]) ∧
    -- clause 8, another value
    (∃ (s : State) (t : Nat) (n : _) (u : State) (i : _), u = s.at t ∧ u.alive = true ∧ u.sec.mbox.contains n = true ∧
      Tab.get? u.sec.mboxAns n = none ∧ u.sec.keyReqs.contains (.wrap n) = false ∧
      i ∈ [(Instr.getVersion t (.host n), u, SpdmAns.version 1 2), (.getCapabilities t (.host n), u, .capabilities [.cert, .chal, .measSigned, .encrypt, .mac, .keyEx, .mutAuth, .keyUpd] 15), (.negotiateAlgorithms t (.host n), u, .algorithms [.ecdsaP384, .sha384, .secp384r1, .aes256Gcm, .spdmKeySchedule]), (.getDigests t (.host n), u, .digests 0 u.chainDigest), (.getCertificate t (.host n), u, .certificate 0 u.chain), (.challenge t (.host n), u.sign.2, .challengeAuth u.chainDigest (u.summary (.host n)) u.sign.1)]) ∧
    -- clause 9
    (∃ (s : State) (t : Nat) (n : _) (u : State) (i : _) (l : _), u = s.at t ∧ u.alive = true ∧ u.sec.mbox.contains n = true ∧
      Tab.get? u.sec.mboxAns n = none ∧ u.sec.keyReqs.contains (.wrap n) = false ∧ i ≠ 0 ∧ i ≠ 0xFF ∧ i < 0x10 ∧
      l = (u.measurements (.host n)).filter (fun e => e.1 = i) ∧ l ≠ []) ∧
    -- clause 10
    (∃ (s : State) (t : Nat) (u : State), u = s.at t ∧ u.ready = true ∧ u.rb .VXB_START_STAT 0 0 4 = false ∧
      u.sec.lockUntil = none ∧ u.esFailed = false ∧ u.session .mgmt = none) ∧
    -- clause 11
    (∃ (s : State) (t : Nat) (n : _) (u : State), u = s.at t ∧ u.alive = true ∧ u.sec.mbox.contains n = true ∧
      Tab.get? u.sec.mboxAns n = none ∧ u.esFailed = false ∧ u.sec.keyReqs.contains (.wrap n) = false ∧
      u.session (.host n) = none ∧ (u.sec.sessions.filter (fun x => x.peer ≠ .mgmt)).length < 8) ∧
    -- clause 11
    (∃ (s : State) (t : Nat) (n : _) (u : State), u = s.at t ∧ u.alive = true ∧ u.sec.mbox.contains n = true ∧
      Tab.get? u.sec.mboxAns n = none ∧ u.esFailed = false ∧ u.sec.keyReqs.contains (.wrap n) = false ∧
      u.session (.host n) = none ∧ 8 ≤ (u.sec.sessions.filter (fun x => x.peer ≠ .mgmt)).length) ∧
    -- clause 12
    (∃ (s : State) (t : Nat) (u : State) (a : _), u = s.at t ∧ u.ready = true ∧ u.rb .VXB_START_STAT 0 0 4 = false ∧
      u.sec.lockUntil = some a) ∧
    -- clause 13
    (∃ (s : State) (t : Nat) (u : State) (x : _) (o : _), u = s.at t ∧ u.ready = true ∧ u.rb .VXB_START_STAT 0 0 4 = false ∧
      u.session .mgmt = some x ∧ x.finished = false ∧ o < u.owners) ∧
    -- clause 14
    (∃ (s : State) (t : Nat) (u : State) (x : _) (b : _) (o : _), u = s.at t ∧ u.ready = true ∧
      u.rb .VXB_START_STAT 0 0 4 = false ∧ u.session .mgmt = some x ∧ x.finished = false ∧ (b = false ∨ u.owners ≤ o) ∧
      u.sec.fails = 7) ∧
    -- clause 15
    (∃ (s : State) (t : Nat) (u : State) (x : _) (b : _) (o : _), u = s.at t ∧ u.ready = true ∧
      u.rb .VXB_START_STAT 0 0 4 = false ∧ u.session .mgmt = some x ∧ x.finished = false ∧ (b = false ∨ u.owners ≤ o) ∧
      u.sec.fails < 7) ∧
    -- clause 16
    (∃ (s : State) (t : Nat) (n : _) (u : State) (x : _), u = s.at t ∧ u.alive = true ∧ u.sec.mbox.contains n = true ∧
      Tab.get? u.sec.mboxAns n = none ∧ u.sec.keyReqs.contains (.wrap n) = false ∧ u.session (.host n) = some x ∧
      x.finished = false) ∧
    -- clause 17
    (∃ (s : State) (t : Nat) (u : State), u = s.at t ∧ u.ready = true ∧ u.rb .VXB_START_STAT 0 0 4 = false ∧
      u.inSession .mgmt = true ∧ u.mcs.load = none) ∧
    -- clause 18
    (∃ (s : State) (t : Nat) (u : State), u = s.at t ∧ u.ready = true ∧ u.rb .VXB_START_STAT 0 0 4 = false ∧
      u.inSession .mgmt = true) ∧
    -- clause 19
    (∃ (s : State) (t : Nat) (n : _) (u : State), u = s.at t ∧ u.alive = true ∧ u.sec.mbox.contains n = true ∧
      Tab.get? u.sec.mboxAns n = none ∧ u.sec.keyReqs.contains (.wrap n) = false ∧ u.inSession (.host n) = true ∧
      u.esFailed = false) ∧
    -- clause 19
    (∃ (s : State) (t : Nat) (n : _) (u : State), u = s.at t ∧ u.alive = true ∧ u.sec.mbox.contains n = true ∧
      Tab.get? u.sec.mboxAns n = none ∧ u.sec.keyReqs.contains (.wrap n) = false ∧ u.inSession (.host n) = true ∧
      u.esFailed = true) ∧
    -- clause 20
    (∃ (s : State) (t : Nat) (n : _) (u : State) (x : _) (priv : _) (p : _), u = s.at t ∧ u.alive = true ∧
      u.sec.mbox.contains n = true ∧ Tab.get? u.sec.mboxAns n = none ∧ u.sec.keyReqs.contains (.wrap n) = false ∧
      u.session (.host n) = some x ∧ x.finished = true ∧ x.wrapKey = some priv ∧ u.fnPart n = some p ∧ u.live p = true) ∧
    -- clause 21
    (∃ (s : State) (t : Nat) (n : _) (u : State) (x : _), u = s.at t ∧ u.alive = true ∧ u.sec.mbox.contains n = true ∧
      Tab.get? u.sec.mboxAns n = none ∧ u.sec.keyReqs.contains (.wrap n) = false ∧ u.session (.host n) = some x ∧
      x.finished = true ∧ x.wrapKey = none) ∧
    -- clause 21
    (∃ (s : State) (t : Nat) (n : _) (u : State) (x : _) (priv : _), u = s.at t ∧ u.alive = true ∧
      u.sec.mbox.contains n = true ∧ Tab.get? u.sec.mboxAns n = none ∧ u.sec.keyReqs.contains (.wrap n) = false ∧
      u.session (.host n) = some x ∧ x.finished = true ∧ x.wrapKey = some priv ∧ (u.fnPart n).all (fun p => !u.live p) = true) ∧
    -- clause 22
    (∃ (s : State) (t : Nat) (a : _), (s.at t).sec.lockUntil = some a ∧ a ≤ (s.at t).ref) ∧
    -- clause 23
    (∃ (s : State) (t : Nat) (a : _), (s.at t).sec.lockUntil = some a ∧ (s.at t).ref < a) :=
  ⟨⟨live, 0, 0, 4096, _, ⟨by decide, rfl⟩, by decide, by decide, by decide⟩,
   ⟨live, 0, 0, 1, _, ⟨by decide, rfl⟩, by decide, by decide, by decide⟩,
   ⟨{ live with sec := { mbox := [0] } }, 0, 0, _, ⟨by decide, rfl⟩, by decide⟩,
   ⟨live, 0, 0, 0, _, ⟨by decide, rfl⟩, by decide, by decide⟩,
   ⟨live, 0, 0, 4097, _, ⟨by decide, rfl⟩, by decide, by decide⟩,
   ⟨{ live with sec := { mbox := [0], mboxAns := [(0, (.version 1 2, false))] } }, 0, 0, 16, _, _, ⟨by decide, rfl⟩, rfl,
     by decide⟩,
   ⟨{ assigned.setB .VXB_PART_RES 0 0 24 true with sec := { mbox := [0], mboxAns := [(0, (.version 1 2, false))] } }, 0, 0, 16,
     _, _, ⟨by decide, rfl⟩, rfl, by decide⟩,
   ⟨1, by decide⟩,
   ⟨live, 0, _, rfl, by decide, by decide⟩,
   ⟨live, 0, _, 1, _, rfl, by decide, by decide, rfl, by decide, by decide, by decide⟩,
   ⟨live, 0, _, 3, _, rfl, by decide, by decide, rfl, by decide, by decide, by decide⟩,
   ⟨live, 0, _, 4, _, rfl, by decide, by decide, rfl, by decide, by decide, by decide⟩,
   ⟨live, 0, _, _, rfl, by decide, by decide, rfl, by decide⟩,
   ⟨managed, 0, _, _, rfl, by decide, by decide, rfl⟩,
   ⟨{ live with sec := { mbox := [0] } }, 0, 0, _, (.getVersion 0 (.host 0), { live with sec := { mbox := [0] } },
     .version 1 2), rfl, by decide, by decide, by decide, by decide, .head _⟩,
   ⟨{ live with sec := { mbox := [0] } }, 0, 0, _, (.getDigests 0 (.host 0), { live with sec := { mbox := [0] } },
     .digests 0 ({ live with sec := { mbox := [0] } } : State).chainDigest), rfl, by decide, by decide, by decide, by decide,
     .tail _ (.tail _ (.tail _ (.head _)))⟩,
   ⟨{ assigned with sec := { mbox := [0] } }, 0, 0, _, 1, _, rfl, by decide, by decide, by decide, by decide, by decide,
     by decide, by decide, rfl, by decide⟩,
   ⟨live, 0, _, rfl, by decide, by decide, by decide, by decide, by decide⟩,
   ⟨{ live with sec := { mbox := [63], sessions := (List.range 7).map (fun n => { peer := .host n }) } }, 0, 63, _, rfl,
     by decide, by decide, by decide, by decide, by decide, by decide, by decide⟩,
   ⟨{ live with sec := { mbox := [63], sessions := (List.range 8).map (fun n => { peer := .host n }) } }, 0, 63, _, rfl,
     by decide, by decide, by decide, by decide, by decide, by decide, by decide⟩,
   ⟨{ live with sec := { lockUntil := some 1 } }, 0, _, _, rfl, by decide, by decide, rfl⟩,
   ⟨{ live with sec := { sessions := [{ peer := .mgmt }] }, start := { plinth := some { plinth0 with owners := 1 } } }, 0, _, _,
     0, rfl, by decide, by decide, rfl, by decide, by decide⟩,
   ⟨{ live with sec := { sessions := [{ peer := .mgmt }], fails := 7 } }, 0, _, _, true, 0, rfl, by decide, by decide, rfl,
     by decide, by decide, by decide⟩,
   ⟨{ live with sec := { sessions := [{ peer := .mgmt }], fails := 6 } }, 0, _, _, false, 0, rfl, by decide, by decide, rfl,
     by decide, by decide, by decide⟩,
   ⟨{ live with sec := { mbox := [0], sessions := [{ peer := .host 0 }] } }, 0, 0, _, _, rfl, by decide, by decide, by decide,
     by decide, rfl, by decide⟩,
   ⟨managed, 0, _, rfl, by decide, by decide, by decide, by decide⟩,
   ⟨managed, 0, _, rfl, by decide, by decide, by decide⟩,
   ⟨{ live with sec := { mbox := [63], sessions := [{ peer := .host 63, finished := true }] } }, 0, 63, _, rfl, by decide,
     by decide, by decide, by decide, by decide, by decide⟩,
   ⟨{ live.setB .SEC_STAT 0 0 1 true with sec := { mbox := [63], sessions := [{ peer := .host 63, finished := true }] } }, 0,
     63, _, rfl, by decide, by decide, by decide, by decide, by decide, by decide⟩,
   ⟨{ assigned.setB .VXB_PART_RES 0 0 24 true with sec := { mbox := [0], sessions := [{ peer := .host 0, finished := true, wrapKey := some 1 }] } },
     0, 0, _, _, 1, 0, rfl, by decide, by decide, by decide, by decide, rfl, by decide, by decide, by decide, by decide⟩,
   ⟨{ live with sec := { mbox := [0], sessions := [{ peer := .host 0, finished := true }] } }, 0, 0, _, _, rfl, by decide,
     by decide, by decide, by decide, rfl, by decide, by decide⟩,
   ⟨{ live with sec := { mbox := [0], sessions := [{ peer := .host 0, finished := true, wrapKey := some 1 }] } }, 0, 0, _, _, 1,
     rfl, by decide, by decide, by decide, by decide, rfl, by decide, by decide, by decide⟩,
   ⟨{ live with ref := 5, sec := { lockUntil := some 5 } }, 0, 5, by decide, by decide⟩,
   ⟨{ live with ref := 4, sec := { lockUntil := some 5 } }, 0, 5, by decide, by decide⟩⟩

/-- States and operands that meet the hypotheses of the clauses of `Obligations.LinksProveAndRekey`. -/
theorem test_meets_LinksProveAndRekey :
    -- clause 1
    (∃ (s : State) (t : Nat) (p : _) (u : State), Writes s t .mgmt .glob u ∧ u.rf .SEC_LINK p 0 0 2 = 2 ∧
      u.rb .SEC_LINK p 0 3 = false) ∧
    -- clause 2
    (∃ (s : State) (t : Nat) (p : _) (u : State), Writes s t .mgmt .glob u ∧
      (u.rb .SEC_LINK p 0 3 = true ∨ u.rf .SEC_LINK p 0 0 2 ≠ 2)) ∧
    -- clause 2, another value
    (∃ (s : State) (t : Nat) (p : _) (u : State), Writes s t .mgmt .glob u ∧
      (u.rb .SEC_LINK p 0 3 = true ∨ u.rf .SEC_LINK p 0 0 2 ≠ 2)) ∧
    -- clause 3
    (∃ (s : State) (t : Nat) (n : _) (u : State), Writes s t (.fn n) .glob u) ∧
    -- clause 4
    (∃ (s : State) (t : Nat) (p : _) (u : State), Runs s t u ∧ 2 ^ 47 ≤ (u.tport p).tx ∧ u.rf .SEC_LINK p 0 0 2 = 2 ∧
      u.rb .SEC_LINK p 0 3 = false) ∧
    -- clause 5
    (∃ (s : State) (t : Nat) (p : _) (u : State), Runs s t u ∧ (u.tport p).tx < 2 ^ 47) ∧
    -- clause 6
    (∃ (s : State) (t : Nat) (h : HelloIn) (u : State), Runs s t u ∧ (u.tport h.port).theirs = none ∧
      (u.portState h.port = 2 ∨ (u.portState h.port = 3 ∧ (u.tport h.port).rekey = true))) ∧
    -- clause 6, another value
    (∃ (s : State) (t : Nat) (h : HelloIn) (u : State), Runs s t u ∧ (u.tport h.port).theirs = none ∧
      (u.portState h.port = 2 ∨ (u.portState h.port = 3 ∧ (u.tport h.port).rekey = true))) ∧
    -- clause 6
    (∃ (s : State) (t : Nat) (h : HelloIn) (u : State), Runs s t u ∧ (u.tport h.port).theirs = none ∧ u.portState h.port = 3 ∧
      (u.tport h.port).rekey = false) ∧
    -- clause 7
    (∃ (s : State) (t : Nat) (h : HelloIn) (u : State), Runs s t u ∧
      ((u.tport h.port).theirs.isSome = true ∨ (u.portState h.port ≠ 2 ∧ u.portState h.port ≠ 3))) ∧
    -- clause 7, another value
    (∃ (s : State) (t : Nat) (h : HelloIn) (u : State), Runs s t u ∧
      ((u.tport h.port).theirs.isSome = true ∨ (u.portState h.port ≠ 2 ∧ u.portState h.port ≠ 3))) ∧
    -- clause 8
    (∃ (s : State) (t : Nat) (h : HelloIn) (u : State), Runs s t u ∧ u.esFailed = true ∧ u.portState h.port = 2 ∧
      (u.tport h.port).theirs = none ∧ (u.tport h.port).mine = none) ∧
    -- clause 9
    (∃ (s : State) (t : Nat) (p : _) (u : State) (c : _) (l : _) (g : _), Runs s t u ∧ (u.tport p).mine.isSome = true ∧
      (u.tport p).theirs.isSome = true ∧ (c = false ∨ g = false ∨ (l = false ∧ u.start.peersListed = true)) ∧
      (u.tport p).rekey = false) ∧
    -- clause 9, another value
    (∃ (s : State) (t : Nat) (p : _) (u : State) (c : _) (l : _) (g : _), Runs s t u ∧ (u.tport p).mine.isSome = true ∧
      (u.tport p).theirs.isSome = true ∧ (c = false ∨ g = false ∨ (l = false ∧ u.start.peersListed = true)) ∧
      (u.tport p).rekey = false) ∧
    -- clause 9, another value
    (∃ (s : State) (t : Nat) (p : _) (u : State) (c : _) (l : _) (g : _), Runs s t u ∧ (u.tport p).mine.isSome = true ∧
      (u.tport p).theirs.isSome = true ∧ (c = false ∨ g = false ∨ (l = false ∧ u.start.peersListed = true)) ∧
      (u.tport p).rekey = false) ∧
    -- clause 9
    (∃ (s : State) (t : Nat) (p : _) (u : State) (c : _) (l : _) (g : _), Runs s t u ∧ (u.tport p).mine.isSome = true ∧
      (u.tport p).theirs.isSome = true ∧ (c = false ∨ g = false ∨ (l = false ∧ u.start.peersListed = true)) ∧
      (u.tport p).rekey = true) ∧
    -- clause 10
    (∃ (s : State) (t : Nat) (p : _) (u : State) (l : _) (e : _) (h : _), Runs s t u ∧ (u.tport p).mine = some e ∧
      (u.tport p).theirs = some h ∧ (l = true ∨ u.start.peersListed = false)) ∧
    -- clause 10, another value
    (∃ (s : State) (t : Nat) (p : _) (u : State) (l : _) (e : _) (h : _), Runs s t u ∧ (u.tport p).mine = some e ∧
      (u.tport p).theirs = some h ∧ (l = true ∨ u.start.peersListed = false)) ∧
    -- clause 10
    (∃ (s : State) (t : Nat) (p : _) (u : State) (l : _) (e : _) (h : _), Runs s t u ∧ (u.tport p).mine = some e ∧
      (u.tport p).theirs = some h ∧ (l = true ∨ u.start.peersListed = false) ∧ (u.tport p).rekey = true) ∧
    -- clause 11
    (∃ (s : State) (t : Nat) (p : _) (u : State), Runs s t u ∧ ((u.tport p).mine = none ∨ (u.tport p).theirs = none)) ∧
    -- clause 12
    (∃ (s : State) (t : Nat) (p : _) (u : State), Runs s t u ∧ (u.tport p).oldKey.isSome = true) ∧
    -- clause 13
    (∃ (s : State) (t : Nat) (p : _) (u : State), Runs s t u ∧ (u.tport p).oldKey = none) ∧
    -- clause 14
    (∃ (s : State) (t : Nat) (f : _) (u : State) (a : _) (k : _), Runs s t u ∧ Tab.get? u.sec.oldKeys f = some (some a, k) ∧
      a ≤ u.ref ∧ u.rb .SEC_FT f 0 20 = true ∧ u.tml.xfers = [] ∧ u.tml.inb = []) ∧
    -- clause 15
    (∃ (s : State) (t : Nat) (f : _) (u : State) (a : _) (k : _), Runs s t u ∧ Tab.get? u.sec.oldKeys f = some (some a, k) ∧
      a ≤ u.ref) :=
  ⟨⟨managed.setF .SEC_LINK 3 0 0 2 2, 0, 3, _, ⟨by decide, rfl⟩, by decide, by decide⟩,
   ⟨managed.setB .SEC_LINK 3 0 3 true, 0, 3, _, ⟨by decide, rfl⟩, by decide⟩,
   ⟨managed, 0, 0, _, ⟨by decide, rfl⟩, by decide⟩,
   ⟨live, 0, 0, _, ⟨by decide, rfl⟩⟩,
   ⟨{ live.setF .SEC_LINK 0 0 0 2 2 with tml := { ports := [(0, { tx := 2 ^ 47 })] } }, 0, 0, _, ⟨by decide, rfl⟩, by decide,
     by decide, by decide⟩,
   ⟨{ live with tml := { ports := [(0, { tx := 2 ^ 47 - 1 })] } }, 0, 0, _, ⟨by decide, rfl⟩, by decide⟩,
   ⟨ported 3 2, 0, { rand := 0, pub := 0, port := 3 }, _, ⟨by decide, rfl⟩, by decide, by decide⟩,
   ⟨{ ported 3 3 with tml := { ports := [(3, { rekey := true })] } }, 0, { rand := 0, pub := 0, port := 3 }, _, ⟨by decide,
     rfl⟩, by decide, by decide⟩,
   ⟨ported 3 3, 0, { rand := 0, pub := 0, port := 3 }, _, ⟨by decide, rfl⟩, by decide, by decide, by decide⟩,
   ⟨live, 0, { rand := 0, pub := 0, port := 0 }, _, ⟨by decide, rfl⟩, by decide⟩,
   ⟨{ ported 3 2 with tml := { ports := [(3, { theirs := some ⟨0, 0⟩ })] } }, 0, { rand := 0, pub := 0, port := 3 }, _,
     ⟨by decide, rfl⟩, by decide⟩,
   ⟨(ported 3 2).setB .SEC_STAT 0 0 1 true, 0, { rand := 0, pub := 0, port := 3 }, _, ⟨by decide, rfl⟩, by decide, by decide,
     by decide, by decide⟩,
   ⟨{ live with tml := { ports := [(0, { mine := some ⟨0, 0⟩, theirs := some ⟨0, 0⟩ })] } }, 0, 0, _, false, true, true,
     ⟨by decide, rfl⟩, by decide, by decide, by decide, by decide⟩,
   ⟨{ live with tml := { ports := [(0, { mine := some ⟨0, 0⟩, theirs := some ⟨0, 0⟩ })] } }, 0, 0, _, true, true, false,
     ⟨by decide, rfl⟩, by decide, by decide, by decide, by decide⟩,
   ⟨{ live with tml := { ports := [(0, { mine := some ⟨0, 0⟩, theirs := some ⟨0, 0⟩ })] }, start := { peersListed := true } },
     0, 0, _, true, false, true, ⟨by decide, rfl⟩, by decide, by decide, by decide, by decide⟩,
   ⟨{ live with tml := { ports := [(0, { mine := some ⟨0, 0⟩, theirs := some ⟨0, 0⟩, rekey := true })] } }, 0, 0, _, true, true,
     false, ⟨by decide, rfl⟩, by decide, by decide, by decide, by decide⟩,
   ⟨{ live with tml := { ports := [(0, { mine := some ⟨0, 0⟩, theirs := some ⟨0, 0⟩ })] } }, 0, 0, _, false, _, _, ⟨by decide,
     rfl⟩, rfl, rfl, by decide⟩,
   ⟨{ live with tml := { ports := [(0, { mine := some ⟨0, 0⟩, theirs := some ⟨0, 0⟩ })] }, start := { peersListed := true } },
     0, 0, _, true, _, _, ⟨by decide, rfl⟩, rfl, rfl, by decide⟩,
   ⟨{ live with tml := { ports := [(0, { mine := some ⟨0, 0⟩, theirs := some ⟨0, 0⟩, rekey := true })] } }, 0, 0, _, false, _,
     _, ⟨by decide, rfl⟩, rfl, rfl, by decide, by decide⟩,
   ⟨live, 0, 0, _, ⟨by decide, rfl⟩, by decide⟩,
   ⟨{ live with tml := { ports := [(0, { oldKey := some {} })] } }, 0, 0, _, ⟨by decide, rfl⟩, by decide⟩,
   ⟨live, 0, 0, _, ⟨by decide, rfl⟩, by decide⟩,
   ⟨{ live.setB .SEC_FT 255 0 20 true with ref := 7, sec := { oldKeys := [(255, (some 7, 0))] } }, 0, 255, _, _, _, ⟨by decide,
     rfl⟩, rfl, by decide, by decide, by decide, by decide⟩,
   ⟨{ live with ref := 7, sec := { oldKeys := [(255, (some 7, 0))] } }, 0, 255, _, _, _, ⟨by decide, rfl⟩, rfl, by decide⟩⟩

/-- States and operands that meet the hypotheses of the clauses of `Obligations.PortsTrainAndCarryFrames`. -/
theorem test_meets_PortsTrainAndCarryFrames :
    -- clause 1
    (∃ (s : State) (t : Nat) (p : _) (l : _) (u : State), Runs s t u ∧ u.portState p = 1 ∧ u.rf .TML_PORT p 0 3 4 = 0 ∧ 0 < l ∧
      l ≤ 8) ∧
    -- clause 1, another value
    (∃ (s : State) (t : Nat) (p : _) (l : _) (u : State), Runs s t u ∧ u.portState p = 1 ∧ u.rf .TML_PORT p 0 3 4 = 0 ∧ 0 < l ∧
      l ≤ 8) ∧
    -- clause 3
    (∃ (s : State) (t : Nat) (p : _) (u : State), Runs s t u ∧ u.portState p = 1 ∧ u.rf .TML_PORT p 0 3 4 = 0) ∧
    -- clause 4
    (∃ (s : State) (t : Nat) (p : _) (u : State), Runs s t u ∧ (u.portState p ≠ 1 ∨ u.rf .TML_PORT p 0 3 4 = 0)) ∧
    -- clause 4, another value
    (∃ (s : State) (t : Nat) (p : _) (u : State), Runs s t u ∧ (u.portState p ≠ 1 ∨ u.rf .TML_PORT p 0 3 4 = 0)) ∧
    -- clause 5
    (∃ (s : State) (t : Nat) (p : _) (i : TrainInfo) (u : State), Runs s t u ∧ u.portState p = 1 ∧ u.rf .TML_PORT p 0 3 4 ≠ 0 ∧
      i.lanes = 0) ∧
    -- clause 5
    (∃ (s : State) (t : Nat) (p : _) (i : TrainInfo) (u : State), Runs s t u ∧ u.portState p = 1 ∧ u.rf .TML_PORT p 0 3 4 ≠ 0 ∧
      i.lanes ≠ 0 ∧ 3 ≤ max i.rate (u.rf .TML_PORT p 0 7 2)) ∧
    -- clause 5
    (∃ (s : State) (t : Nat) (p : _) (i : TrainInfo) (u : State), Runs s t u ∧ u.portState p = 1 ∧ u.rf .TML_PORT p 0 3 4 ≠ 0 ∧
      i.lanes ≠ 0 ∧ max i.rate (u.rf .TML_PORT p 0 7 2) < 3 ∧ i.protection = false) ∧
    -- clause 5
    (∃ (s : State) (t : Nat) (p : _) (i : TrainInfo) (u : State), Runs s t u ∧ u.portState p = 1 ∧ u.rf .TML_PORT p 0 3 4 ≠ 0 ∧
      i.lanes ≠ 0 ∧ max i.rate (u.rf .TML_PORT p 0 7 2) < 3 ∧ i.protection = true ∧
      i.fabricId.toNat ≠ u.rf .TML_CFG 0 0 32 32) ∧
    -- clause 6
    (∃ (s : State) (t : Nat) (p : _) (i : TrainInfo) (u : State), Runs s t u ∧ u.portState p = 1 ∧ u.rf .TML_PORT p 0 3 4 ≠ 0 ∧
      i.lanes ≠ 0 ∧ max i.rate (u.rf .TML_PORT p 0 7 2) < 3 ∧ i.protection = true ∧ i.fabricId.toNat = u.rf .TML_CFG 0 0 32 32 ∧
      i.topo = u.rf .TML_CFG 0 0 0 2 ∧ i.xdim = u.rf .TML_CFG 0 0 2 4 ∧ i.ydim = u.rf .TML_CFG 0 0 6 4 ∧
      i.port ≠ wantedPeerPort p) ∧
    -- clause 6
    (∃ (s : State) (t : Nat) (p : _) (i : TrainInfo) (u : State), Runs s t u ∧ u.portState p = 1 ∧ u.rf .TML_PORT p 0 3 4 ≠ 0 ∧
      i.lanes ≠ 0 ∧ max i.rate (u.rf .TML_PORT p 0 7 2) < 3 ∧ i.protection = true ∧ i.fabricId.toNat = u.rf .TML_CFG 0 0 32 32 ∧
      i.topo = u.rf .TML_CFG 0 0 0 2 ∧ i.xdim = u.rf .TML_CFG 0 0 2 4 ∧ i.ydim = u.rf .TML_CFG 0 0 6 4 ∧
      i.port = wantedPeerPort p ∧ i.features.toNat % 16 ≠ 15) ∧
    -- clause 6
    (∃ (s : State) (t : Nat) (p : _) (i : TrainInfo) (u : State), Runs s t u ∧ u.portState p = 1 ∧ u.rf .TML_PORT p 0 3 4 ≠ 0 ∧
      i.lanes ≠ 0 ∧ max i.rate (u.rf .TML_PORT p 0 7 2) < 3 ∧ i.protection = true ∧ i.fabricId.toNat = u.rf .TML_CFG 0 0 32 32 ∧
      i.topo = u.rf .TML_CFG 0 0 0 2 ∧ i.xdim = u.rf .TML_CFG 0 0 2 4 ∧ i.ydim = u.rf .TML_CFG 0 0 6 4 ∧
      i.port = wantedPeerPort p ∧ i.features.toNat % 16 = 15 ∧ u.member = true ∧ i.hasLead = true ∧ i.leadNode < u.leadNode) ∧
    -- clause 6
    (∃ (s : State) (t : Nat) (p : _) (i : TrainInfo) (u : State), Runs s t u ∧ u.portState p = 1 ∧ u.rf .TML_PORT p 0 3 4 ≠ 0 ∧
      i.lanes ≠ 0 ∧ max i.rate (u.rf .TML_PORT p 0 7 2) < 3 ∧ i.protection = true ∧ i.fabricId.toNat = u.rf .TML_CFG 0 0 32 32 ∧
      i.topo = u.rf .TML_CFG 0 0 0 2 ∧ i.xdim = u.rf .TML_CFG 0 0 2 4 ∧ i.ydim = u.rf .TML_CFG 0 0 6 4 ∧
      i.port = wantedPeerPort p ∧ i.features.toNat % 16 = 15 ∧
      (u.member = false ∨ i.hasLead = false ∨ u.leadNode ≤ i.leadNode) ∧ p < 4) ∧
    -- clause 7
    (∃ (s : State) (t : Nat) (p : _) (l : _) (r : _) (u : State), Runs s t u ∧ u.portState p = 3 ∧ (l = 0 ∨ (3 ≤ r ∧ l ≤ 8))) ∧
    -- clause 7, another value
    (∃ (s : State) (t : Nat) (p : _) (l : _) (r : _) (u : State), Runs s t u ∧ u.portState p = 3 ∧ (l = 0 ∨ (3 ≤ r ∧ l ≤ 8))) ∧
    -- clause 8
    (∃ (s : State) (t : Nat) (p : _) (l : _) (r : _) (u : State), Runs s t u ∧ u.portState p = 3 ∧ 0 < l ∧ l ≤ 8 ∧ r < 3) ∧
    -- clause 9
    (∃ (s : State) (t : Nat) (p : _) (u : State), Runs s t u ∧ u.portState p = 3 ∧ (u.tport p).rxAt + 2000 ≤ u.ref) ∧
    -- clause 10
    (∃ (s : State) (t : Nat) (p : _) (u : State), Runs s t u ∧ u.ref < (u.tport p).rxAt + 2000) ∧
    -- clauses 11, 17
    (∃ (s : State) (t : Nat) (p : _) (u : State), Runs s t u ∧ u.portState p ≠ 3) ∧
    -- clause 12
    (∃ (s : State) (t : Nat) (p : _) (f : FrameIn) (u : State), Runs s t u ∧ u.portState p = 3 ∧ u.frameTagOk p f = true ∧
      f.ctr = (u.tport p).rx) ∧
    -- clause 13
    (∃ (s : State) (t : Nat) (p : _) (f : FrameIn) (u : State), Runs s t u ∧ u.portState p = 3 ∧ u.frameTagOk p f = true ∧
      f.ctr ≠ (u.tport p).rx ∧ Tab.get? u.sec.tagFails p = none ∧ p < 4) ∧
    -- clause 14
    (∃ (s : State) (t : Nat) (p : _) (u : State) (e : _) (r : _), Runs s t u ∧ (u.tport p).replay = e :: r ∧ u.portState p = 3 ∧
      e.at0 + 5000 ≤ u.ref) ∧
    -- clause 14
    (∃ (s : State) (t : Nat) (p : _) (u : State) (e : _) (r : _), Runs s t u ∧ (u.tport p).replay = e :: r ∧ u.portState p = 3 ∧
      u.ref < e.at0 + 5000) ∧
    -- clause 15
    (∃ (s : State) (t : Nat) (p : _) (u : State), Runs s t u ∧ (u.tport p).replay = []) ∧
    -- clause 16
    (∃ (s : State) (t : Nat) (p : _) (u : State), Runs s t u ∧ u.portState p = 3) ∧
    -- clause 18
    (∃ (s : State) (t : Nat) (u : State), Writes s t .mgmt .glob u) ∧
    -- clause 19
    (∃ (s : State) (t : Nat) (n : _) (u : State), Writes s t (.fn n) .glob u) :=
  ⟨⟨ported 0 1, 0, 0, 8, _, ⟨by decide, rfl⟩, by decide, by decide, by decide, by decide⟩,
   ⟨ported 0 1, 0, 0, 1, _, ⟨by decide, rfl⟩, by decide, by decide, by decide, by decide⟩,
   ⟨ported 0 1, 0, 0, _, ⟨by decide, rfl⟩, by decide, by decide⟩,
   ⟨ported 0 1, 0, 0, _, ⟨by decide, rfl⟩, by decide⟩,
   ⟨ported 0 2, 0, 0, _, ⟨by decide, rfl⟩, by decide⟩,
   ⟨(ported 0 1).setF .TML_PORT 0 0 3 6 8, 0, 0, { trainOf with lanes := 0 }, _, ⟨by decide, rfl⟩, by decide, by decide,
     by decide⟩,
   ⟨(ported 0 1).setF .TML_PORT 0 0 3 6 8, 0, 0, { trainOf with rate := 3 }, _, ⟨by decide, rfl⟩, by decide, by decide,
     by decide, by decide⟩,
   ⟨(ported 0 1).setF .TML_PORT 0 0 3 6 8, 0, 0, { trainOf with protection := false }, _, ⟨by decide, rfl⟩, by decide,
     by decide, by decide, by decide, by decide⟩,
   ⟨(ported 0 1).setF .TML_PORT 0 0 3 6 8, 0, 0, { trainOf with fabricId := 1 }, _, ⟨by decide, rfl⟩, by decide, by decide,
     by decide, by decide, by decide, by decide⟩,
   ⟨((ported 3 1).setF .TML_PORT 3 0 3 6 8).setF .TML_CFG 0 0 0 2 0, 0, 3, { trainOf with port := 3 }, _, ⟨by decide, rfl⟩,
     by decide, by decide, by decide, by decide, by decide, rfl, rfl, rfl, rfl, by decide⟩,
   ⟨((ported 3 1).setF .TML_PORT 3 0 3 6 8).setF .TML_CFG 0 0 0 2 0, 0, 3, { trainOf with port := 2, features := 7 }, _,
     ⟨by decide, rfl⟩, by decide, by decide, by decide, by decide, by decide, rfl, rfl, rfl, rfl, by decide, by decide⟩,
   ⟨(((ported 3 1).setF .TML_PORT 3 0 3 6 8).setF .TML_CFG 0 0 0 2 0).setF .TML_STAT 0 0 6 4 5, 0, 3,
     { trainOf with port := 2, hasLead := true, leadNode := 4 }, _, ⟨by decide, rfl⟩, by decide, by decide, by decide,
     by decide, by decide, rfl, rfl, rfl, rfl, by decide, by decide, by decide, by decide, by decide⟩,
   ⟨((ported 3 1).setF .TML_PORT 3 0 3 6 8).setF .TML_CFG 0 0 0 2 0, 0, 3, { trainOf with port := 2 }, _, ⟨by decide, rfl⟩,
     by decide, by decide, by decide, by decide, by decide, rfl, rfl, rfl, rfl, by decide, by decide, by decide, by decide⟩,
   ⟨ported 3 3, 0, 3, 0, 0, _, ⟨by decide, rfl⟩, by decide, by decide⟩,
   ⟨ported 3 3, 0, 3, 8, 3, _, ⟨by decide, rfl⟩, by decide, by decide⟩,
   ⟨ported 3 3, 0, 3, 8, 2, _, ⟨by decide, rfl⟩, by decide, by decide, by decide, by decide⟩,
   ⟨{ ported 0 3 with ref := 2000 }, 0, 0, _, ⟨by decide, rfl⟩, by decide, by decide⟩,
   ⟨{ ported 0 3 with ref := 1999 }, 0, 0, _, ⟨by decide, rfl⟩, by decide⟩,
   ⟨live, 0, 0, _, ⟨by decide, rfl⟩, by decide⟩,
   ⟨ported 0 3, 0, 0, sealedOf 0, _, ⟨by decide, rfl⟩, by decide, by decide +kernel, rfl⟩,
   ⟨ported 3 3, 0, 3, sealedOf 1, _, ⟨by decide, rfl⟩, by decide, by decide +kernel, by decide, by decide, by decide⟩,
   ⟨{ ported 0 3 with ref := 5000, tml := { ports := [(0, { replay := [{ frame := {}, at0 := 0 }] })] } }, 0, 0, _, _, _,
     ⟨by decide, rfl⟩, rfl, by decide, by decide⟩,
   ⟨{ ported 0 3 with ref := 4999, tml := { ports := [(0, { replay := [{ frame := {}, at0 := 0 }] })] } }, 0, 0, _, _, _,
     ⟨by decide, rfl⟩, rfl, by decide, by decide⟩,
   ⟨live, 0, 0, _, ⟨by decide, rfl⟩, by decide⟩,
   ⟨ported 0 3, 0, 0, _, ⟨by decide, rfl⟩, by decide⟩,
   ⟨managed, 0, _, ⟨by decide, rfl⟩⟩,
   ⟨live, 0, 0, _, ⟨by decide, rfl⟩⟩⟩

/-- States and operands that meet the hypotheses of the clauses of `Obligations.TransfersMoveSegments`. -/
theorem test_meets_TransfersMoveSegments :
    -- clause 1
    (∃ (s : State) (t : Nat) (a : _) (x : _) (u : State), Acts s t u ∧
      u.tml.inb.any (fun y => y.src == a && y.xfer == x) = true) ∧
    -- clause 2
    (∃ (s : State) (t : Nat) (a : _) (x : _) (ft : _) (r : _) (l : _) (u : State) (c : _), Acts s t u ∧
      u.tml.inb.any (fun y => y.src == a && y.xfer == x) = false ∧ u.openFault ft r l = some c) ∧
    -- clause 3
    (∃ (s : State) (t : Nat) (a : _) (x : _) (ft : _) (r : _) (l : _) (u : State), Acts s t u ∧
      u.tml.inb.any (fun y => y.src == a && y.xfer == x) = false ∧ u.openFault ft r l = none) ∧
    -- clause 4
    (∃ (s : State) (t : Nat) (a : _) (x : _) (n : _) (ep : _) (iv : _) (g : _) (d : _) (w : _) (u : State) (y : _), Acts s t u ∧
      u.inOf a x = some y ∧ y.src = a ∧ y.xfer = x ∧ y.get = false ∧ y.squashing = false ∧ n ≤ y.got ∧ n = y.got ∧
      u.segOpen a x n y.ft ep iv g d = some w) ∧
    -- clause 4
    (∃ (s : State) (t : Nat) (a : _) (x : _) (n : _) (ep : _) (iv : _) (g : _) (d : _) (w : _) (u : State) (y : _), Acts s t u ∧
      u.inOf a x = some y ∧ y.src = a ∧ y.xfer = x ∧ y.get = false ∧ y.squashing = false ∧ n ≤ y.got ∧ n < y.got ∧
      u.segOpen a x n y.ft ep iv g d = some w) ∧
    -- clause 4
    (∃ (s : State) (t : Nat) (a : _) (x : _) (n : _) (ep : _) (iv : _) (g : _) (d : _) (u : State) (y : _), Acts s t u ∧
      u.inOf a x = some y ∧ y.src = a ∧ y.xfer = x ∧ y.get = false ∧ y.squashing = false ∧ n ≤ y.got ∧ n = y.got ∧
      u.segOpen a x n y.ft ep iv g d = none) ∧
    -- clause 5
    (∃ (s : State) (t : Nat) (a : _) (x : _) (n : _) (u : State) (y : _), Acts s t u ∧ u.inOf a x = some y ∧ y.got < n) ∧
    -- clause 6
    (∃ (s : State) (t : Nat) (a : _) (x : _) (u : State), Acts s t u ∧ u.inOf a x = none) ∧
    -- clause 7
    (∃ (s : State) (t : Nat) (a : _) (x : _) (n : _) (ep : _) (iv : _) (g : _) (d : _) (w : _) (u : State) (y : _) (k : _), Acts s t u ∧
      Tab.get? u.tml.xfers x = some y ∧ y.get = true ∧ y.dest = a ∧ y.squashing = false ∧ n = y.covered ∧ y.paused = false ∧
      Tab.get? u.tasks y.task = some k ∧ u.segOpen a x n y.ft ep iv g d = some w) ∧
    -- clauses 8, 10, 12
    (∃ (s : State) (t : Nat) (x : _) (u : State), Acts s t u ∧ Tab.get? u.tml.xfers x = none) ∧
    -- clause 9
    (∃ (s : State) (t : Nat) (a : _) (x : _) (u : State) (y : _), Acts s t u ∧ Tab.get? u.tml.xfers x = some y ∧ y.dest = a ∧
      y.get = false) ∧
    -- clause 11
    (∃ (s : State) (t : Nat) (x : _) (n : _) (u : State) (y : _), Acts s t u ∧ Tab.get? u.tml.xfers x = some y ∧ y.get = false ∧
      y.squashing = false ∧ y.paused = false ∧ y.covered ≤ n ∧ n < y.out ∧ nth y.sentAt n 0 + 50000 ≤ u.ref) ∧
    -- clause 11
    (∃ (s : State) (t : Nat) (x : _) (n : _) (u : State) (y : _), Acts s t u ∧ Tab.get? u.tml.xfers x = some y ∧ y.get = false ∧
      y.squashing = false ∧ y.paused = false ∧ y.covered ≤ n ∧ n < y.out ∧ u.ref < nth y.sentAt n 0 + 50000) ∧
    -- clauses 13, 19
    (∃ (s : State) (t : Nat) (u : State), Acts s t u) ∧
    -- clause 14
    (∃ (s : State) (t : Nat) (a : _) (x : _) (u : State) (y : _), Acts s t u ∧ Tab.get? u.tml.xfers x = some y ∧ y.dest = a) ∧
    -- clause 15
    (∃ (s : State) (t : Nat) (a : _) (x : _) (u : State) (y : _), Acts s t u ∧ Tab.get? u.tml.xfers x = some y ∧ y.dest = a ∧
      y.squashing = true) ∧
    -- clause 16
    (∃ (s : State) (t : Nat) (a : _) (x : _) (u : State), Acts s t u ∧ Tab.get? u.tml.xfers x = none ∧
      u.tml.inb.any (fun y => y.src == a && y.xfer == x && y.squashing) = true) ∧
    -- clause 17
    (∃ (u : State) (a : _) (x : _) (y : _), u.inOf a x = some y ∧ y.get = true ∧ y.squashing = false ∧ y.got < y.segs ∧
      0 < y.credits) ∧
    -- clause 18
    (∃ (s : State) (t : Nat) (a : _) (u : State), Acts s t u ∧ a < 16 ∧ u.tml.xfers = []) :=
  ⟨⟨{ live with tml := { inb := [in0] } }, 0, 1, 0, _, ⟨by decide, rfl⟩, by decide⟩,
   ⟨live, 0, 1, 0, 0, 0, 4096, _, _, ⟨by decide, rfl⟩, by decide, rfl⟩,
   ⟨sharing, 0, 1, 0, 0, 0, 4096, _, ⟨by decide, rfl⟩, by decide, by decide⟩,
   ⟨{ sharing with tml := { inb := [in0] } }, 0, 1, 0, 0, 0, 0, segTag, segText, segPlain, _, _, ⟨by decide, rfl⟩, rfl,
     by decide, by decide, by decide, by decide, by decide, rfl, by decide +kernel⟩,
   ⟨{ sharing with tml := { inb := [{ in0 with got := 1 }] } }, 0, 1, 0, 0, 0, 0, segTag, segText, segPlain, _, _, ⟨by decide,
     rfl⟩, rfl, by decide, by decide, by decide, by decide, by decide, by decide, by decide +kernel⟩,
   ⟨{ live with tml := { inb := [in0] } }, 0, 1, 0, 0, 0, 0, 0, segText, _, _, ⟨by decide, rfl⟩, rfl, by decide, by decide,
     by decide, by decide, by decide, rfl, by decide⟩,
   ⟨{ live with tml := { inb := [in0] } }, 0, 1, 0, 1, _, _, ⟨by decide, rfl⟩, rfl, by decide⟩,
   ⟨live, 0, 15, 65535, _, ⟨by decide, rfl⟩, by decide⟩,
   ⟨{ sharing with tml := { xfers := [(0, { xfer0 with get := true })] }, tasks := [(0, task0 .link 9)] }, 0, 1, 0, 0, 0, 0,
     segTag, segText, segPlain, _, _, _, ⟨by decide, rfl⟩, rfl, by decide, by decide, by decide, rfl, by decide, rfl,
     by decide +kernel⟩,
   ⟨live, 0, 0, _, ⟨by decide, rfl⟩, by decide⟩,
   ⟨{ live with tml := { xfers := [(0, { task := 0, dest := 15, port := 0, get := false, ft := 0, epoch := 0, segs := 1 })] } },
     0, 15, 0, _, _, ⟨by decide, rfl⟩, rfl, rfl, by decide⟩,
   ⟨{ live with ref := 50000, tml := { xfers := [(0, { xfer0 with sent := 1, out := 1, sentAt := [0] })] } }, 0, 0, 0, _, _,
     ⟨by decide, rfl⟩, rfl, by decide, by decide, by decide, by decide, by decide, by decide⟩,
   ⟨{ live with ref := 49999, tml := { xfers := [(0, { xfer0 with sent := 1, out := 1, sentAt := [0] })] } }, 0, 0, 0, _, _,
     ⟨by decide, rfl⟩, rfl, by decide, by decide, by decide, by decide, by decide, by decide⟩,
   ⟨live, 0, _, ⟨by decide, rfl⟩⟩,
   ⟨{ live with tml := { xfers := [(0, { task := 0, dest := 1, port := 0, get := false, ft := 0, epoch := 0, segs := 1 })] } },
     0, 1, 0, _, _, ⟨by decide, rfl⟩, rfl, rfl⟩,
   ⟨{ live with tml := { xfers := [(0, { task := 0, dest := 1, port := 0, get := false, ft := 0, epoch := 0, segs := 1, squashing := true })] } },
     0, 1, 0, _, _, ⟨by decide, rfl⟩, rfl, rfl, by decide⟩,
   ⟨{ live with tml := { inb := [{ in0 with squashing := true }] } }, 0, 1, 0, _, ⟨by decide, rfl⟩, by decide, by decide⟩,
   ⟨{ live with tml := { inb := [{ in0 with get := true }] } }, 1, 0, _, rfl, by decide, by decide, by decide, by decide⟩,
   ⟨live, 0, 15, _, ⟨by decide, rfl⟩, by decide, by decide⟩⟩

/-- States and operands that meet the hypotheses of the clauses of `Obligations.RemoteHandlesAreServed`. -/
theorem test_meets_RemoteHandlesAreServed :
    -- clause 1
    (∃ (s : State) (t : Nat) (h : Half) (p : _) (u : State) (c : _), Acts s t u ∧ NoErrorArmed u ∧ u.evCheck h p = some c) ∧
    -- clause 2
    (∃ (s : State) (t : Nat) (h : Half) (p : _) (u : State), Acts s t u ∧ NoErrorArmed u ∧ u.evCheck h p = none) ∧
    -- clause 3
    (∃ (s : State) (t : Nat) (h : Half) (w : Word) (p : _) (u : State) (e : _), Acts s t u ∧ NoErrorArmed u ∧
      u.evCheck h p = none ∧ Tab.get? u.events (evIdx h) = some e ∧ w.toNat ≤ e.value.toNat) ∧
    -- clause 3, another value
    (∃ (s : State) (t : Nat) (h : Half) (w : Word) (p : _) (u : State) (e : _), Acts s t u ∧ NoErrorArmed u ∧
      u.evCheck h p = none ∧ Tab.get? u.events (evIdx h) = some e ∧ w.toNat ≤ e.value.toNat) ∧
    -- clause 3
    (∃ (s : State) (t : Nat) (h : Half) (w : Word) (p : _) (u : State) (e : _), Acts s t u ∧ NoErrorArmed u ∧
      u.evCheck h p = none ∧ Tab.get? u.events (evIdx h) = some e ∧ e.value.toNat < w.toNat ∧ e.abandoned = true) ∧
    -- clause 3
    (∃ (s : State) (t : Nat) (a : _) (h : Half) (w : Word) (p : _) (u : State) (e : _), Acts s t u ∧ NoErrorArmed u ∧
      u.evCheck h p = none ∧ Tab.get? u.events (evIdx h) = some e ∧ e.value.toNat < w.toNat ∧ e.abandoned = false ∧
      e.proxies.any (fun z => z.1 == a) = true) ∧
    -- clause 3
    (∃ (s : State) (t : Nat) (a : _) (h : Half) (w : Word) (p : _) (u : State) (e : _), Acts s t u ∧ NoErrorArmed u ∧
      u.evCheck h p = none ∧ Tab.get? u.events (evIdx h) = some e ∧ e.value.toNat < w.toNat ∧ e.abandoned = false ∧
      e.proxies.any (fun z => z.1 == a) = false ∧ u.proxyUsed < 16384) ∧
    -- clause 3
    (∃ (s : State) (t : Nat) (a : _) (h : Half) (w : Word) (p : _) (u : State) (e : _), Acts s t u ∧ NoErrorArmed u ∧
      u.evCheck h p = none ∧ Tab.get? u.events (evIdx h) = some e ∧ e.value.toNat < w.toNat ∧ e.abandoned = false ∧
      e.proxies.any (fun z => z.1 == a) = false ∧ 16384 ≤ u.proxyUsed) ∧
    -- clauses 4, 5
    (∃ (s : State) (t : Nat) (u : State), Acts s t u) ∧
    -- clause 6
    (∃ (s : State) (t : Nat) (i : _) (p : _) (u : State) (r : _), Acts s t u ∧ NoErrorArmed u ∧ u.semCheck i p = some r) ∧
    -- clause 7
    (∃ (s : State) (t : Nat) (i : _) (p : _) (u : State), Acts s t u ∧ NoErrorArmed u ∧ u.semCheck i p = none) ∧
    -- clause 8
    (∃ (s : State) (t : Nat) (a : _) (q : _) (i : _) (k : _) (u : State) (v : _) (c : _) (f : _), Acts s t u ∧ v = u.acks a q ∧
      v.remoteAcqs.find? (fun x => x.home == a && x.index == i && x.count == k) = some c ∧ c.f = some f) ∧
    -- clause 8
    (∃ (s : State) (t : Nat) (a : _) (q : _) (i : _) (k : _) (u : State) (v : _) (c : _), Acts s t u ∧ v = u.acks a q ∧
      v.remoteAcqs.find? (fun x => x.home == a && x.index == i && x.count == k) = some c ∧ c.f = none) ∧
    -- clause 9
    (∃ (s : State) (t : Nat) (a : _) (q : _) (i : _) (k : _) (u : State), Acts s t u ∧
      (u.acks a q).remoteAcqs.find? (fun x => x.home == a && x.index == i && x.count == k) = none) ∧
    -- clause 10
    (∃ (s : State) (t : Nat) (a : _) (q : _) (u : State) (v : _), Acts s t u ∧ u.remoteOps = [] ∧ v = u.acks a q) ∧
    -- clause 10
    (∃ (s : State) (t : Nat) (a : _) (q : _) (h : Half) (u : State) (v : _), Acts s t u ∧ u.remoteOps = [] ∧ v = u.acks a q ∧
      h.getLsbD 16 = false) ∧
    -- clause 10
    (∃ (s : State) (t : Nat) (a : _) (q : _) (h : Half) (u : State) (v : _), Acts s t u ∧ u.remoteOps = [] ∧ v = u.acks a q ∧
      h.getLsbD 16 = true) ∧
    -- clause 10
    (∃ (s : State) (t : Nat) (a : _) (q : _) (h : Half) (u : State) (v : _) (y : _), Acts s t u ∧ u.remoteOps = [] ∧
      v = u.acks a q ∧ Tab.get? v.tml.xfers h.toNat = some y) ∧
    -- clause 11
    (∃ (s : State) (t : Nat) (a : _) (r : _) (c : _) (u : State) (o : _) (g : _) (m : _) (w : Word) (b : _), Acts s t u ∧
      u.remoteOps = [o] ∧ o.dest = a ∧ o.seq = r ∧ o.msg = .record g m w b ∧ c < 2) ∧
    -- clause 12
    (∃ (s : State) (t : Nat) (a : _) (q : _) (u : State) (o : _) (f : _) (x : _) (h : Half) (m : _) (w : Word) (r : _), Acts s t u ∧
      u.remoteOps = [o] ∧ o.dest = a ∧ o.seq = q ∧ o.cmd = none ∧ o.f = some f ∧ o.msg = .record h m w r ∧
      Tab.get? u.flights f = some x) ∧
    -- clause 13
    (∃ (s : State) (t : Nat) (a : _) (q : _) (u : State) (o : _) (h : Half) (m : _) (w : Word) (r : _), Acts s t u ∧
      u.remoteOps = [o] ∧ o.dest = a ∧ o.seq = q ∧ (o.cmd.isSome = true ∨ o.f = none) ∧ o.msg = .record h m w r) ∧
    -- clause 13, another value
    (∃ (s : State) (t : Nat) (a : _) (q : _) (u : State) (o : _) (h : Half) (m : _) (w : Word) (r : _), Acts s t u ∧
      u.remoteOps = [o] ∧ o.dest = a ∧ o.seq = q ∧ (o.cmd.isSome = true ∨ o.f = none) ∧ o.msg = .record h m w r) ∧
    -- clause 14
    (∃ (s : State) (t : Nat) (a : _) (q : _) (u : State) (o : _) (f : _) (x : _) (i : _) (n : _) (c : _), Acts s t u ∧
      u.remoteOps = [o] ∧ o.dest = a ∧ o.seq = q ∧ o.cmd = none ∧ o.f = some f ∧ o.back = false ∧ o.msg = .semRel i n c ∧
      Tab.get? ((({ u with remoteOps := [] }).unholdRemote a i c n).dropEdges (fun e => e.holder == c && e.home == a && e.index == i)).flights f = some x) ∧
    -- clause 15
    (∃ (s : State) (t : Nat) (a : _) (q : _) (u : State) (o : _) (i : _) (n : _) (c : _), Acts s t u ∧ u.remoteOps = [o] ∧
      o.dest = a ∧ o.seq = q ∧ o.back = true ∧ o.msg = .semRel i n c) ∧
    -- clause 16
    (∃ (s : State) (t : Nat) (r : AckRef) (u : State), Acts s t u ∧ (u.remoteOps = [] ∨ r.flood = true)) ∧
    -- clause 16, another value
    (∃ (s : State) (t : Nat) (r : AckRef) (u : State), Acts s t u ∧ (u.remoteOps = [] ∨ r.flood = true)) :=
  ⟨⟨live, 0, 0, none, _, 0, ⟨by decide, rfl⟩, ⟨rfl, rfl⟩, rfl⟩,
   ⟨{ live with events := [(65535, { part := 0, value := 0 })] }, 0, 65535, some 0, _, ⟨by decide, rfl⟩, ⟨rfl, rfl⟩, by decide⟩,
   ⟨{ live with events := [(0, { part := 0, value := 1 })] }, 0, 0, 1, some 0, _, _, ⟨by decide, rfl⟩, ⟨rfl, rfl⟩, by decide,
     rfl, by decide⟩,
   ⟨{ live with events := [(0, { part := 0, value := 1, abandoned := true })] }, 0, 0, 1, some 0, _, _, ⟨by decide, rfl⟩, ⟨rfl,
     rfl⟩, by decide, rfl, by decide⟩,
   ⟨{ live with events := [(0, { part := 0, value := 0, abandoned := true })] }, 0, 0, 1, some 0, _, _, ⟨by decide, rfl⟩, ⟨rfl,
     rfl⟩, by decide, rfl, by decide, by decide⟩,
   ⟨{ live with events := [(0, { part := 0, value := 0, proxies := [(3, 9)] })] }, 0, 3, 0, 1, some 0, _, _, ⟨by decide, rfl⟩,
     ⟨rfl, rfl⟩, by decide, rfl, by decide, by decide, by decide⟩,
   ⟨{ live with events := [(0, { part := 0, value := 0, proxies := [(3, 9)] })] }, 0, 2, 0, 1, some 0, _, _, ⟨by decide, rfl⟩,
     ⟨rfl, rfl⟩, by decide, rfl, by decide, by decide, by decide, by decide⟩,
   ⟨{ live with events := [(0, { part := 0, value := 0, proxies := List.replicate 16384 (3, 9) })] }, 0, 2, 0, 1, some 0, _, _,
     ⟨by decide, rfl⟩, ⟨rfl, rfl⟩, by decide, rfl, by decide, by decide, by decide +kernel, by decide +kernel⟩,
   ⟨live, 0, _, ⟨by decide, rfl⟩⟩,
   ⟨live, 0, 4095, none, _, 0, ⟨by decide, rfl⟩, ⟨rfl, rfl⟩, rfl⟩,
   ⟨{ live with sems := [(4095, { bound := true, part := 7 })] }, 0, 4095, some 7, _, ⟨by decide, rfl⟩, ⟨rfl, rfl⟩, by decide⟩,
   ⟨{ live with remoteAcqs := [⟨1, 7, 2, 0, some 0⟩] }, 0, 1, 0, 7, 2, _, _, _, 0, ⟨by decide, rfl⟩, rfl, rfl, by decide⟩,
   ⟨{ live with remoteAcqs := [⟨1, 7, 2, 0, none⟩] }, 0, 1, 0, 7, 2, _, _, _, ⟨by decide, rfl⟩, rfl, rfl, by decide⟩,
   ⟨live, 0, 1, 0, 4095, 1, _, ⟨by decide, rfl⟩, by decide⟩,
   ⟨live, 0, 1, 2, _, _, ⟨by decide, rfl⟩, by decide, rfl⟩,
   ⟨live, 0, 1, 2, 0, _, _, ⟨by decide, rfl⟩, by decide, rfl, by decide⟩,
   ⟨live, 0, 1, 2, 65536, _, _, ⟨by decide, rfl⟩, by decide, rfl, by decide⟩,
   ⟨{ live with tml := { xfers := [(0, xfer0)] } }, 0, 1, 2, 0, _, _, _, ⟨by decide, rfl⟩, by decide, rfl, rfl⟩,
   ⟨{ running flight0 with remoteOps := [{ dest := 1, seq := 2, msg := .record 0 0 0 none, f := some 0 }] }, 0, 1, 2, 1, _, _,
     _, _, _, _, ⟨by decide, rfl⟩, rfl, by decide, by decide, rfl, by decide⟩,
   ⟨{ running flight0 with remoteOps := [{ dest := 1, seq := 2, msg := .record 0 0 0 none, f := some 0 }] }, 0, 1, 2, _, _, 0,
     _, _, _, _, _, ⟨by decide, rfl⟩, rfl, by decide, by decide, by decide, by decide, rfl, rfl⟩,
   ⟨{ live with remoteOps := [{ dest := 1, seq := 2, msg := .record 0 0 0 none, f := none }] }, 0, 1, 2, _, _, _, _, _, _,
     ⟨by decide, rfl⟩, rfl, by decide, by decide, by decide, rfl⟩,
   ⟨{ live with remoteOps := [{ dest := 1, seq := 2, msg := .record 0 0 0 none, f := some 0, cmd := some ⟨0, 0, 0, 0⟩ }] }, 0,
     1, 2, _, _, _, _, _, _, ⟨by decide, rfl⟩, rfl, by decide, by decide, by decide, rfl⟩,
   ⟨{ running flight0 with remoteOps := [{ dest := 1, seq := 2, msg := .semRel 7 1 0, f := some 0 }] }, 0, 1, 2, _, _, 0, _, _,
     _, _, ⟨by decide, rfl⟩, rfl, by decide, by decide, by decide, by decide, by decide, rfl, rfl⟩,
   ⟨{ live with remoteOps := [{ dest := 1, seq := 2, msg := .semRel 7 1 0, f := none, back := true }] }, 0, 1, 2, _, _, _, _, _,
     ⟨by decide, rfl⟩, rfl, by decide, by decide, by decide, rfl⟩,
   ⟨live, 0, ⟨0, false⟩, _, ⟨by decide, rfl⟩, by decide⟩,
   ⟨{ live with remoteOps := [{ dest := 1, seq := 2, msg := .semRel 7 1 0, f := none }] }, 0, ⟨2, true⟩, _, ⟨by decide, rfl⟩,
     by decide⟩⟩

/-- States and operands that meet the hypotheses of the clauses of `Obligations.MembersKeepTheirLead`. -/
theorem test_meets_MembersKeepTheirLead :
    -- clause 1
    (∃ (s : State) (t : Nat) (a : _) (q : _) (u : State), Runs s t u ∧ u.tml.seen.contains (a, q) = true) ∧
    -- clause 2
    (∃ (s : State) (t : Nat) (a : _) (q : _) (n : _) (d : _) (u : State) (v : _), Runs s t u ∧
      u.tml.seen.contains (a, q) = false ∧ u.member = true ∧ n = u.leadNode ∧ v = (u.flooded a q (.heartbeat n d)).2) ∧
    -- clause 3
    (∃ (s : State) (t : Nat) (a : _) (q : _) (n : _) (u : State), Runs s t u ∧ u.tml.seen.contains (a, q) = false ∧
      (u.member = false ∨ n ≠ u.leadNode)) ∧
    -- clause 3, another value
    (∃ (s : State) (t : Nat) (a : _) (q : _) (n : _) (u : State), Runs s t u ∧ u.tml.seen.contains (a, q) = false ∧
      (u.member = false ∨ n ≠ u.leadNode)) ∧
    -- clauses 4, 6
    (∃ (s : State) (t : Nat) (a : _) (q : _) (u : State), Runs s t u ∧ u.tml.seen.contains (a, q) = false) ∧
    -- clause 5
    (∃ (s : State) (t : Nat) (a : _) (q : _) (n : _) (u : State), Runs s t u ∧ u.tml.seen.contains (a, q) = false ∧
      n ≠ u.node) ∧
    -- clause 6
    (∃ (s : State) (t : Nat) (a : _) (q : _) (n : _) (u : State), Runs s t u ∧ u.tml.seen.contains (a, q) = false ∧
      (n ≠ ((u.flooded a q (.leave n)).2).node ∨ a = n ∨ ((u.flooded a q (.leave n)).2).member = false)) ∧
    -- clause 6, another value
    (∃ (s : State) (t : Nat) (a : _) (q : _) (n : _) (u : State), Runs s t u ∧ u.tml.seen.contains (a, q) = false ∧
      (n ≠ ((u.flooded a q (.leave n)).2).node ∨ a = n ∨ ((u.flooded a q (.leave n)).2).member = false)) ∧
    -- clause 7
    (∃ (s : State) (t : Nat) (a : _) (q : _) (l : BitVec 16) (u : State), Runs s t u ∧ u.tml.seen.contains (a, q) = false ∧
      l.getLsbD u.posn = false) ∧
    -- clause 8
    (∃ (s : State) (t : Nat) (a : _) (q : _) (l : BitVec 16) (u : State), Runs s t u ∧ u.tml.seen.contains (a, q) = false ∧
      l.getLsbD u.posn = true ∧ a < 16 ∧ a ≠ u.posn ∧ (u.member = true ∨ u.tml.granted = true)) ∧
    -- clause 8, another value
    (∃ (s : State) (t : Nat) (a : _) (q : _) (l : BitVec 16) (u : State), Runs s t u ∧ u.tml.seen.contains (a, q) = false ∧
      l.getLsbD u.posn = true ∧ a < 16 ∧ a ≠ u.posn ∧ (u.member = true ∨ u.tml.granted = true)) ∧
    -- clause 9
    (∃ (s : State) (t : Nat) (i : Half) (n : _) (u : State), Runs s t u ∧ u.isLead = true ∧ n < 16 ∧
      i.toNat = u.rf .TML_CFG 0 0 32 32 ∧ u.nodeUp n = false) ∧
    -- clause 10
    (∃ (s : State) (t : Nat) (i : Half) (n : _) (u : State), Runs s t u ∧ u.isLead = true ∧ n < 16 ∧
      i.toNat = u.rf .TML_CFG 0 0 32 32 ∧ u.nodeUp n = true) ∧
    -- clause 11
    (∃ (s : State) (t : Nat) (u : State), Runs s t u ∧ u.isLead = false) ∧
    -- clause 12
    (∃ (s : State) (t : Nat) (i : Half) (u : State), Runs s t u ∧ u.member = false ∧ u.tml.granted = false ∧
      i.toNat = u.rf .TML_CFG 0 0 32 32) ∧
    -- clause 13
    (∃ (s : State) (t : Nat) (u : State), Runs s t u) ∧
    -- clause 14
    (∃ (s : State) (t : Nat) (a : _) (u : State), Runs s t u ∧ u.esFailed = false ∧ a ≠ u.posn) ∧
    -- clause 15
    (∃ (s : State) (t : Nat) (a : _) (u : State), Runs s t u ∧ u.esFailed = true ∧ a ≠ u.posn ∧
      Tab.get? u.tml.kexMine a = none) ∧
    -- clause 16
    (∃ (s : State) (t : Nat) (a : _) (u : State) (e : _) (h : _), Runs s t u ∧ Tab.get? u.tml.kexMine a = some e ∧
      Tab.get? u.tml.kexTheirs a = some h ∧ u.isLead = false) ∧
    -- clause 16
    (∃ (s : State) (t : Nat) (a : _) (u : State) (e : _) (h : _), Runs s t u ∧ Tab.get? u.tml.kexMine a = some e ∧
      Tab.get? u.tml.kexTheirs a = some h) ∧
    -- clause 17
    (∃ (s : State) (t : Nat) (a : _) (u : State), Runs s t u ∧ Tab.get? u.tml.kexMine a = none) ∧
    -- clause 18
    (∃ (s : State) (t : Nat) (u : State), Runs s t u ∧ u.isLead = true ∧ u.tml.hbAt + 5000 ≤ u.ref) ∧
    -- clause 19
    (∃ (s : State) (t : Nat) (u : State), Runs s t u ∧ (u.isLead = false ∨ u.ref < u.tml.hbAt + 5000)) ∧
    -- clause 19, another value
    (∃ (s : State) (t : Nat) (u : State), Runs s t u ∧ (u.isLead = false ∨ u.ref < u.tml.hbAt + 5000)) ∧
    -- clause 20
    (∃ (s : State) (t : Nat) (u : State), Runs s t u ∧ u.member = true ∧ u.isLead = false ∧ u.tml.oldLead = none ∧
      u.tml.hbAt + 20000 ≤ u.ref) ∧
    -- clause 21
    (∃ (s : State) (t : Nat) (u : State), Runs s t u ∧ u.ref < u.tml.hbAt + 20000) ∧
    -- clause 22
    (∃ (s : State) (t : Nat) (u : State) (a : _), Runs s t u ∧ u.tml.settle = some a ∧ a ≤ u.ref ∧ u.member = true ∧
      u.tml.oldLead = none ∧ (∀ n, n < 16 → u.nodeUp n = true → u.reachable n = true) ∧ u.isLead = false) ∧
    -- clause 22
    (∃ (s : State) (t : Nat) (u : State) (a : _), Runs s t u ∧ u.tml.settle = some a ∧ a ≤ u.ref ∧ u.member = true ∧
      u.tml.oldLead = none ∧ (∀ n, n < 16 → u.nodeUp n = true → u.reachable n = true) ∧ u.isLead = true) ∧
    -- clause 23
    (∃ (s : State) (t : Nat) (u : State) (a : _), Runs s t u ∧ u.tml.settle = some a ∧ u.ref < a) ∧
    -- clause 24
    (∃ (s : State) (t : Nat) (u : State), Writes s t .mgmt .glob u ∧ u.member = true ∧ u.tml.leaveAt = none) ∧
    -- clause 25
    (∃ (s : State) (t : Nat) (u : State) (a : _), Runs s t u ∧ u.tml.leaveAt = some a ∧ a ≤ u.ref ∧ u.tml.inb = [] ∧
      u.tml.xfers = []) ∧
    -- clause 26
    (∃ (s : State) (t : Nat) (u : State) (a : _), Runs s t u ∧ u.tml.leaveAt = some a ∧ u.ref < a) :=
  ⟨⟨{ live with tml := { seen := [(0, 0)] } }, 0, 0, 0, _, ⟨by decide, rfl⟩, by decide⟩,
   ⟨fabric false, 0, 0, 0, 0, 0, _, _, ⟨by decide, rfl⟩, by decide, by decide, rfl, rfl⟩,
   ⟨live, 0, 0, 0, 0, _, ⟨by decide, rfl⟩, by decide, by decide⟩,
   ⟨fabric false, 0, 0, 0, 15, _, ⟨by decide, rfl⟩, by decide, by decide⟩,
   ⟨live, 0, 0, 0, _, ⟨by decide, rfl⟩, by decide⟩,
   ⟨fabric false, 0, 0, 0, 1, _, ⟨by decide, rfl⟩, by decide, by decide⟩,
   ⟨fabric false, 0, 1, 0, 1, _, ⟨by decide, rfl⟩, by decide, by decide⟩,
   ⟨fabric false, 0, 0, 0, 0, _, ⟨by decide, rfl⟩, by decide, by decide⟩,
   ⟨fabric false, 0, 0, 0, 2, _, ⟨by decide, rfl⟩, by decide, by decide⟩,
   ⟨fabric false, 0, 1, 0, 1, _, ⟨by decide, rfl⟩, by decide, by decide, by decide, by decide, by decide⟩,
   ⟨{ live with tml := { granted := true } }, 0, 15, 0, 1, _, ⟨by decide, rfl⟩, by decide, by decide, by decide, by decide,
     by decide⟩,
   ⟨fabric true, 0, 0, 15, _, ⟨by decide, rfl⟩, by decide, by decide, by decide, by decide⟩,
   ⟨(fabric true).setB .TML_STAT 0 0 31 true, 0, 0, 15, _, ⟨by decide, rfl⟩, by decide, by decide, by decide, by decide⟩,
   ⟨fabric false, 0, _, ⟨by decide, rfl⟩, by decide⟩,
   ⟨live, 0, 0, _, ⟨by decide, rfl⟩, by decide, by decide, by decide⟩,
   ⟨live, 0, _, ⟨by decide, rfl⟩⟩,
   ⟨live, 0, 15, _, ⟨by decide, rfl⟩, by decide, by decide⟩,
   ⟨live.setB .SEC_STAT 0 0 1 true, 0, 15, _, ⟨by decide, rfl⟩, by decide, by decide, by decide⟩,
   ⟨{ live with tml := { kexMine := [(15, ⟨0, 0⟩)], kexTheirs := [(15, ⟨0, 0⟩)] } }, 0, 15, _, _, _, ⟨by decide, rfl⟩, rfl, rfl,
     by decide⟩,
   ⟨{ fabric true with tml := { kexMine := [(15, ⟨0, 0⟩)], kexTheirs := [(15, ⟨0, 0⟩)] } }, 0, 15, _, _, _, ⟨by decide, rfl⟩,
     rfl, rfl⟩,
   ⟨live, 0, 15, _, ⟨by decide, rfl⟩, by decide⟩,
   ⟨{ fabric true with ref := 5000 }, 0, _, ⟨by decide, rfl⟩, by decide, by decide⟩,
   ⟨{ fabric true with ref := 4999 }, 0, _, ⟨by decide, rfl⟩, by decide⟩,
   ⟨{ fabric false with ref := 5000 }, 0, _, ⟨by decide, rfl⟩, by decide⟩,
   ⟨{ fabric false with ref := 20000 }, 0, _, ⟨by decide, rfl⟩, by decide, by decide, by decide, by decide⟩,
   ⟨{ fabric false with ref := 19999 }, 0, _, ⟨by decide, rfl⟩, by decide⟩,
   ⟨{ fabric false with ref := 3, tml := { settle := some 3 } }, 0, _, 3, ⟨by decide, rfl⟩, by decide, by decide, by decide,
     by decide, by decide, by decide⟩,
   ⟨{ fabric true with ref := 3, tml := { settle := some 3 } }, 0, _, 3, ⟨by decide, rfl⟩, by decide, by decide, by decide,
     by decide, by decide, by decide⟩,
   ⟨{ fabric false with ref := 2, tml := { settle := some 3 } }, 0, _, 3, ⟨by decide, rfl⟩, by decide, by decide⟩,
   ⟨managed.setB .TML_STAT 0 0 4 true, 0, _, ⟨by decide, rfl⟩, by decide, by decide⟩,
   ⟨{ live with ref := 9, tml := { leaveAt := some 9 } }, 0, _, 9, ⟨by decide, rfl⟩, by decide, by decide, by decide,
     by decide⟩,
   ⟨{ live with ref := 8, tml := { leaveAt := some 9 } }, 0, _, 9, ⟨by decide, rfl⟩, by decide, by decide⟩⟩

/-- States and operands that meet the hypotheses of the clauses of `Obligations.FabricTimeIsKept`. -/
theorem test_meets_FabricTimeIsKept :
    -- clause 1
    (∃ (s : State) (t : Nat) (a : _) (q : _) (u : State), Runs s t u ∧ u.tml.seen.contains (a, q) = false ∧ u.member = true ∧
      a = u.leadNode) ∧
    -- clause 1
    (∃ (s : State) (t : Nat) (a : _) (q : _) (p : EpochMsg) (u : State) (k : _), Runs s t u ∧
      u.tml.seen.contains (a, q) = false ∧ u.member = true ∧ a = u.leadNode ∧ p.key = some k) ∧
    -- clause 2
    (∃ (u : State) (f : _) (e : _), Tab.get? u.sec.nextEpoch f = some e ∧ u.rb .SEC_FT f 0 19 = true ∧ e < 2 ^ 16) ∧
    -- clause 2
    (∃ (u : State) (f : _) (e : _) (o : _), Tab.get? u.sec.nextEpoch f = some e ∧ u.rb .SEC_FT f 0 19 = true ∧ e < 2 ^ 16 ∧
      Tab.get? u.sec.oldKeys f = some o) ∧
    -- clauses 3, 8
    (∃ (s : State) (t : Nat) (a : _) (q : _) (u : State), Runs s t u ∧ u.tml.seen.contains (a, q) = true) ∧
    -- clause 4
    (∃ (s : State) (t : Nat) (a : _) (q : _) (u : State), Runs s t u ∧ a ≠ u.leadNode ∧ u.tml.seen.contains (a, q) = false) ∧
    -- clause 5
    (∃ (s : State) (t : Nat) (a : _) (q : _) (k : _) (u : State), Runs s t u ∧ u.tml.seen.contains (a, q) = false ∧ 1 ≤ k ∧
      k ≤ 4) ∧
    -- clause 5, another value
    (∃ (s : State) (t : Nat) (a : _) (q : _) (k : _) (u : State), Runs s t u ∧ u.tml.seen.contains (a, q) = false ∧ 1 ≤ k ∧
      k ≤ 4) ∧
    -- clause 6
    (∃ (s : State) (t : Nat) (a : _) (q : _) (b : _) (k : _) (u : State), Runs s t u ∧ u.tml.seen.contains (a, q) = false ∧
      1 ≤ k ∧ k ≤ 4 ∧ 0 < b ∧ b ≤ u.now) ∧
    -- clause 7
    (∃ (s : State) (t : Nat) (a : _) (q : _) (b : _) (k : _) (u : State), Runs s t u ∧ u.tml.seen.contains (a, q) = false ∧
      1 ≤ k ∧ k ≤ 4 ∧ u.now < b) ∧
    -- clause 9
    (∃ (s : State) (t : Nat) (a : _) (u : State), Runs s t u ∧ u.tml.atActs.find? (fun a => a.1 ≤ u.now) = some a) ∧
    -- clause 10
    (∃ (s : State) (t : Nat) (u : State), Runs s t u ∧ u.tml.atActs.find? (fun a => a.1 ≤ u.now) = none) ∧
    -- clause 11
    (∃ (s : State) (t : Nat) (u : State), Runs s t u ∧ u.reg .TML_EPOCH ≠ BitVec.allOnes 64 ∧ (u.reg .TML_EPOCH).toNat ≤ u.now ∧
      u.tml.epochDone ≠ some (u.reg .TML_EPOCH).toNat) ∧
    -- clause 12
    (∃ (s : State) (t : Nat) (u : State), Runs s t u ∧ u.now < (u.reg .TML_EPOCH).toNat) ∧
    -- clause 13
    (∃ (s : State) (t : Nat) (u : State), Runs s t u ∧ u.isLead = true ∧ u.epochsOn = true ∧
      u.rb .TML_EPOCH_CFG 0 0 40 = false ∧ u.reg .TML_EPOCH ≠ BitVec.allOnes 64 ∧ (u.reg .TML_EPOCH).toNat ≤ u.now) ∧
    -- clause 13
    (∃ (s : State) (t : Nat) (u : State), Runs s t u ∧ u.isLead = true ∧ u.epochsOn = true ∧
      u.rb .TML_EPOCH_CFG 0 0 40 = false ∧ u.reg .TML_EPOCH = BitVec.allOnes 64) ∧
    -- clause 14
    (∃ (s : State) (t : Nat) (u : State), Runs s t u ∧ u.isLead = true ∧ u.epochsOn = true ∧ u.rb .TML_EPOCH_CFG 0 0 40 = true ∧
      u.reg .TML_EPOCH = BitVec.allOnes 64) ∧
    -- clause 14
    (∃ (s : State) (t : Nat) (u : State) (e : _), Runs s t u ∧ u.isLead = true ∧ u.epochsOn = true ∧
      u.rb .TML_EPOCH_CFG 0 0 40 = true ∧ u.reg .TML_EPOCH ≠ BitVec.allOnes 64 ∧ (u.reg .TML_EPOCH).toNat ≤ u.now ∧
      u.tml.vsyncAt = some e ∧ (u.reg .TML_EPOCH).toNat < e + u.rf .TML_EPOCH_CFG 0 0 0 40) ∧
    -- clause 15
    (∃ (s : State) (t : Nat) (u : State), Runs s t u ∧ (u.isLead = false ∨ u.epochsOn = false)) ∧
    -- clause 15, another value
    (∃ (s : State) (t : Nat) (u : State), Runs s t u ∧ (u.isLead = false ∨ u.epochsOn = false)) ∧
    -- clause 16
    (∃ (s : State) (t : Nat) (u : State), Runs s t u ∧ u.member = true ∧ u.isLead = false ∧
      u.reg .TML_EPOCH ≠ BitVec.allOnes 64 ∧ (u.reg .TML_EPOCH).toNat ≤ u.now ∧ u.tml.epochPeriod ≠ 0) ∧
    -- clause 17
    (∃ (s : State) (t : Nat) (p : _) (u : State), Runs s t u ∧ (u.portState p ≠ 3 ∨ (u.member = true ∧
      u.rf .TML_TIME_STAT 0 0 2 2 ≠ p))) ∧
    -- clause 17, another value
    (∃ (s : State) (t : Nat) (p : _) (u : State), Runs s t u ∧ (u.portState p ≠ 3 ∨ (u.member = true ∧
      u.rf .TML_TIME_STAT 0 0 2 2 ≠ p))) ∧
    -- clause 18
    (∃ (s : State) (t : Nat) (p : _) (u : State), Runs s t u ∧ u.portState p = 3 ∧ u.member = true ∧ u.isLead = false ∧
      u.rf .TML_TIME_STAT 0 0 2 2 = p ∧ u.rf .TML_TIME_CAL 0 0 (8 * p) 8 = 0 ∧ u.rb .TML_TIME_STAT 0 0 0 = false ∧
      u.tml.goodEx = 15 ∧ p < 4) ∧
    -- clause 19
    (∃ (s : State) (t : Nat) (p : _) (u : State), Runs s t u ∧ u.portState p = 3 ∧ u.member = true ∧ u.isLead = false ∧
      u.rf .TML_TIME_STAT 0 0 2 2 = p) ∧
    -- clause 20
    (∃ (s : State) (t : Nat) (p : _) (u : State), Runs s t u ∧ u.portState p = 3 ∧ u.member = false ∧ u.tml.granted = true ∧
      u.tml.stepped = false) :=
  ⟨⟨fabric false, 0, 0, 0, _, ⟨by decide, rfl⟩, by decide, by decide, rfl⟩,
   ⟨fabric true, 0, 0, 0, { period := 0, key := some (0, 1) }, _, _, ⟨by decide, rfl⟩, by decide, by decide, rfl, rfl⟩,
   ⟨{ sharing with sec := { sharing.sec with nextEpoch := [(0, 1)] } }, 0, 1, by decide, by decide, by decide⟩,
   ⟨{ sharing with sec := { sharing.sec with nextEpoch := [(0, 1)], oldKeys := [(0, (none, 1))] } }, 0, 1, _, by decide,
     by decide, by decide, rfl⟩,
   ⟨{ live with tml := { seen := [(2, 3)] } }, 0, 2, 3, _, ⟨by decide, rfl⟩, by decide⟩,
   ⟨fabric false, 0, 1, 0, _, ⟨by decide, rfl⟩, by decide, by decide⟩,
   ⟨live, 0, 0, 0, 4, _, ⟨by decide, rfl⟩, by decide, by decide, by decide⟩,
   ⟨live, 0, 0, 0, 1, _, ⟨by decide, rfl⟩, by decide, by decide, by decide⟩,
   ⟨{ live with now := 5 }, 0, 0, 0, 5, 4, _, ⟨by decide, rfl⟩, by decide, by decide, by decide, by decide, by decide⟩,
   ⟨live, 0, 0, 0, 1, 4, _, ⟨by decide, rfl⟩, by decide, by decide, by decide, by decide⟩,
   ⟨{ live with now := 5, tml := { atActs := [(5, 4)] } }, 0, _, _, ⟨by decide, rfl⟩, rfl⟩,
   ⟨{ live with now := 4, tml := { atActs := [(5, 4)] } }, 0, _, ⟨by decide, rfl⟩, by decide⟩,
   ⟨{ live.setReg .TML_EPOCH 0 0 7 with now := 7 }, 0, _, ⟨by decide, rfl⟩, by decide, by decide, by decide⟩,
   ⟨{ live.setReg .TML_EPOCH 0 0 8 with now := 7 }, 0, _, ⟨by decide, rfl⟩, by decide⟩,
   ⟨{ (((fabric true).setReg .TML_EPOCH 0 0 7).setF .TML_EPOCH_CFG 0 0 0 40 100000).setB .TML_EPOCH_CFG 0 0 41 true with now := 7 },
     0, _, ⟨by decide, rfl⟩, by decide, by decide, by decide, by decide, by decide⟩,
   ⟨(((fabric true).setReg .TML_EPOCH 0 0 (BitVec.allOnes 64)).setF .TML_EPOCH_CFG 0 0 0 40 100000).setB .TML_EPOCH_CFG 0 0 41 true,
     0, _, ⟨by decide, rfl⟩, by decide, by decide, by decide, by decide⟩,
   ⟨(((((fabric true).setReg .TML_EPOCH 0 0 (BitVec.allOnes 64)).setF .TML_EPOCH_CFG 0 0 0 40 100000).setB .TML_EPOCH_CFG 0 0 41 true).setB .TML_EPOCH_CFG 0 0 40 true),
     0, _, ⟨by decide, rfl⟩, by decide, by decide, by decide, by decide⟩,
   ⟨{ ((((fabric true).setReg .TML_EPOCH 0 0 7).setF .TML_EPOCH_CFG 0 0 0 40 100000).setB .TML_EPOCH_CFG 0 0 41 true).setB .TML_EPOCH_CFG 0 0 40 true with now := 7, tml := { vsyncAt := some 5 } },
     0, _, _, ⟨by decide, rfl⟩, by decide, by decide, by decide, by decide, by decide, rfl, by decide⟩,
   ⟨fabric false, 0, _, ⟨by decide, rfl⟩, by decide⟩,
   ⟨fabric true, 0, _, ⟨by decide, rfl⟩, by decide⟩,
   ⟨{ (fabric false).setReg .TML_EPOCH 0 0 7 with now := 7, tml := { epochPeriod := 1 } }, 0, _, ⟨by decide, rfl⟩, by decide,
     by decide, by decide, by decide, by decide⟩,
   ⟨ported 0 2, 0, 0, _, ⟨by decide, rfl⟩, by decide⟩,
   ⟨(ported 0 3).setF .TML_TIME_STAT 0 0 2 2 1, 0, 0, _, ⟨by decide, rfl⟩, by decide⟩,
   ⟨{ (ported 3 3).setF .TML_TIME_STAT 0 0 2 2 3 with tml := { goodEx := 15 } }, 0, 3, _, ⟨by decide, rfl⟩, by decide,
     by decide, by decide, rfl, by decide, by decide, by decide, by decide⟩,
   ⟨(ported 3 3).setF .TML_TIME_STAT 0 0 2 2 3, 0, 3, _, ⟨by decide, rfl⟩, by decide, by decide, by decide, by decide⟩,
   ⟨{ live.setF .TML_PORT 3 0 0 3 3 with tml := { granted := true } }, 0, 3, _, ⟨by decide, rfl⟩, by decide, by decide,
     by decide, by decide⟩⟩

/-- States and operands that meet the hypotheses of the clauses of `Obligations.InterruptsAreClaimedAndMasked`. -/
theorem test_meets_InterruptsAreClaimedAndMasked :
    -- clause 1
    (∃ (s : State) (t : Nat) (n : _) (u : State) (i : _), Reads s t (.fn n) (.own n) .IRQ_CLAIM u ∧ u.claimNow n = some i) ∧
    -- clause 2
    (∃ (s : State) (t : Nat) (n : _) (u : State), Reads s t (.fn n) (.own n) .IRQ_CLAIM u ∧ u.claimNow n = none) ∧
    -- clause 3
    (∃ (s : State) (t : Nat) (n : _) (u : State), Writes s t (.fn n) (.own n) u ∧ u.rb .IRQ_STAT n 0 1 = true) ∧
    -- clause 4
    (∃ (s : State) (t : Nat) (n : _) (u : State), Writes s t (.fn n) (.own n) u ∧ u.rb .IRQ_STAT n 0 1 = false) ∧
    -- clause 5
    (∃ (s : State) (t : Nat) (n : _) (u : State), Writes s t (.fn n) (.own n) u) ∧
    -- clause 6
    (∃ (s : State) (t : Nat) (who : Who) (n : _) (w : _) (u : State), Writes s t who .glob u ∧ n ≠ 0 ∧ fld w 0 9 < 64 ∧
      bitOf w 9 = true) ∧
    -- clause 8
    (∃ (s : State) (t : Nat) (who : Who) (u : State), Writes s t who .glob u ∧ (∀ k, u.quenched k = false)) ∧
    -- clause 9
    (∃ (s : State) (t : Nat) (who : Who) (i : _) (u : State), Writes s t who .glob u ∧ i < 512 ∧ u.quenched i = true ∧
      u.viewOf i = none ∧ u.justRaised i = false) ∧
    -- clause 10
    (∃ (s : State) (t : Nat) (u : State), Runs s t u) ∧
    -- clause 11
    (∃ (s : State) (t : Nat) (n : _) (m : MsixMask) (u : State), Runs s t u ∧ n < 64 ∧ m.masked = false ∧
      u.irq.msixPend.getLsbD n = true ∧ (m.fnMask = true → u.irq.msixMask.getLsbD n = false) ∧
      (m.fnMask = false → u.irq.msixFnMask.getLsbD n = false)) ∧
    -- clause 11, another value
    (∃ (s : State) (t : Nat) (n : _) (m : MsixMask) (u : State), Runs s t u ∧ n < 64 ∧ m.masked = false ∧
      u.irq.msixPend.getLsbD n = true ∧ (m.fnMask = true → u.irq.msixMask.getLsbD n = false) ∧
      (m.fnMask = false → u.irq.msixFnMask.getLsbD n = false)) ∧
    -- clause 12
    (∃ (s : State) (t : Nat) (n : _) (m : MsixMask) (u : State), Runs s t u ∧ n < 64 ∧ m.masked = false ∧
      u.irq.msixPend.getLsbD n = true ∧ (m.fnMask = true → u.irq.msixMask.getLsbD n = true) ∧
      (m.fnMask = false → u.irq.msixFnMask.getLsbD n = true)) ∧
    -- clause 12, another value
    (∃ (s : State) (t : Nat) (n : _) (m : MsixMask) (u : State), Runs s t u ∧ n < 64 ∧ m.masked = false ∧
      u.irq.msixPend.getLsbD n = true ∧ (m.fnMask = true → u.irq.msixMask.getLsbD n = true) ∧
      (m.fnMask = false → u.irq.msixFnMask.getLsbD n = true)) ∧
    -- clause 13
    (∃ (s : State) (t : Nat) (n : _) (m : MsixMask) (u : State), Runs s t u ∧ n < 64 ∧ m.masked = true) ∧
    -- clause 13, another value
    (∃ (s : State) (t : Nat) (n : _) (m : MsixMask) (u : State), Runs s t u ∧ n < 64 ∧ m.masked = true) ∧
    -- clause 14
    (∃ (u : State) (n : _), n < 64 ∧ u.rb .IRQ_STAT n 0 0 = true ∧ u.lineLevel n = false ∧ u.irq.msixPend.getLsbD n = true) :=
  ⟨⟨{ live.setReg .IRQ_EN 0 0 (BitVec.allOnes 64) with irq := { viewPend := 1 } }, 0, 0, _, 0, ⟨by decide, by decide, rfl⟩,
    by decide +kernel⟩,
   ⟨live, 0, 0, _, ⟨by decide, by decide, rfl⟩, by decide⟩,
   ⟨live.setB .IRQ_STAT 0 0 1 true, 0, 0, _, ⟨by decide, rfl⟩, by decide⟩,
   ⟨live, 0, 0, _, ⟨by decide, rfl⟩, by decide⟩,
   ⟨live, 0, 0, _, ⟨by decide, rfl⟩⟩,
   ⟨live, 0, .fn 0, 63, 0x23F, _, ⟨by decide, rfl⟩, by decide, by decide, by decide⟩,
   ⟨managed, 0, .mgmt, _, ⟨by decide, rfl⟩, unquenched⟩,
   ⟨live.setB .IRQ_QUENCH 7 0 63 true, 0, .fn 0, 511, _, ⟨by decide, rfl⟩, by decide, by decide, by decide, by decide⟩,
   ⟨live, 0, _, ⟨by decide, rfl⟩⟩,
   ⟨{ live with irq := { msixPend := 0x8000000000000000 } }, 0, 63, ⟨false, false⟩, _, ⟨by decide, rfl⟩, by decide, by decide,
     by decide, by decide, by decide⟩,
   ⟨{ live with irq := { msixPend := 0x8000000000000000 } }, 0, 63, ⟨true, false⟩, _, ⟨by decide, rfl⟩, by decide, by decide,
     by decide, by decide, by decide⟩,
   ⟨{ live with irq := { msixPend := 0x8000000000000000, msixFnMask := 0x8000000000000000 } }, 0, 63, ⟨false, false⟩, _,
     ⟨by decide, rfl⟩, by decide, by decide, by decide, by decide, by decide⟩,
   ⟨{ live with irq := { msixPend := 0x8000000000000000, msixMask := 0x8000000000000000 } }, 0, 63, ⟨true, false⟩, _,
     ⟨by decide, rfl⟩, by decide, by decide, by decide, by decide, by decide⟩,
   ⟨live, 0, 63, ⟨true, true⟩, _, ⟨by decide, rfl⟩, by decide, by decide⟩,
   ⟨live, 0, 0, ⟨false, true⟩, _, ⟨by decide, rfl⟩, by decide, by decide⟩,
   ⟨{ live.setB .IRQ_STAT 63 0 0 true with irq := { msixPend := 0x8000000000000000 } }, 63, by decide, by decide, by decide,
     by decide⟩⟩

/-- States and operands that meet the hypotheses of the clauses of `Obligations.CountersFreezeAndGraphsAreBuilt`. -/
theorem test_meets_CountersFreezeAndGraphsAreBuilt :
    -- clauses 1, 5, 6, 15
    (∃ (s : State) (t : Nat) (who : Who) (u : State), Writes s t who .glob u) ∧
    -- clause 2
    (∃ (s : State) (t : Nat) (who : Who) (u : State) (w : _), Writes s t who .glob u ∧ w = u.freezePoll ∧
      w.obs.frozenAt = some w.ref) ∧
    -- clause 2
    (∃ (s : State) (t : Nat) (who : Who) (u : State) (w : _), Writes s t who .glob u ∧ w = u.freezePoll ∧
      w.obs.frozenAt ≠ some w.ref ∧ w.rb .OBS_FREEZE_CTL 0 0 2 = true ∧ w.obs.missedAt ≠ some w.ref) ∧
    -- clause 2
    (∃ (s : State) (t : Nat) (who : Who) (u : State) (w : _), Writes s t who .glob u ∧ w = u.freezePoll ∧
      w.obs.frozenAt ≠ some w.ref ∧ w.rb .OBS_FREEZE_CTL 0 0 2 = true ∧ w.obs.missedAt = some w.ref) ∧
    -- clause 3
    (∃ (u : State) (n : _), u.obs.freezeRec = some n ∧ u.obs.frozenAt ≠ some u.ref) ∧
    -- clause 4
    (∃ (u : State), (u.obs.freezeRec = none ∨ u.obs.frozenAt = some u.ref)) ∧
    -- clause 7
    (∃ (s : State) (t : Nat) (who : Who) (v : _) (u : State), Writes s t who .glob u ∧ v ≠ BitVec.allOnes 64 ∧
      u.rb .OBS_FREEZE_CTL 0 0 4 = false ∧ u.now < v.toNat) ∧
    -- clause 8
    (∃ (s : State) (t : Nat) (u : State), Runs s t u ∧ u.rb .OBS_FREEZE_STAT 0 0 20 = true ∧
      (u.reg .OBS_FREEZE_AT).toNat ≤ u.now) ∧
    -- clause 9
    (∃ (s : State) (t : Nat) (u : State), Runs s t u ∧ u.rb .OBS_FREEZE_STAT 0 0 20 = false) ∧
    -- clause 10
    (∃ (s : State) (t : Nat) (u : State), Runs s t u) ∧
    -- clause 11
    (∃ (s : State) (t : Nat) (who : Who) (u : State), Writes s t who .glob u ∧ u.rb .OBS_HANG_STAT 0 0 1 = false ∧
      u.rb .OBS_HANG_STAT 0 0 0 = false) ∧
    -- clause 12
    (∃ (s : State) (t : Nat) (who : Who) (u : State), Writes s t who .glob u ∧ u.rb .OBS_HANG_STAT 0 0 0 = true) ∧
    -- clause 13
    (∃ (s : State) (t : Nat) (u : State), Acts s t u ∧ u.obs.graph = none) ∧
    -- clause 14
    (∃ (s : State) (t : Nat) (u : State) (g : _), Acts s t u ∧ u.obs.graph = some g) ∧
    -- clause 16
    (∃ (s : State) (t : Nat) (who : Who) (j : _) (u : State), Writes s t who .glob u ∧ j < 512) :=
  ⟨⟨live, 0, .fn 0, _, ⟨by decide, rfl⟩⟩,
   ⟨{ live with obs := { frozenAt := some 0 } }, 0, .fn 0, _, _, ⟨by decide, rfl⟩, rfl, rfl⟩,
   ⟨live.setB .OBS_FREEZE_CTL 0 0 2 true, 0, .fn 0, _, _, ⟨by decide, rfl⟩, rfl, by decide, by decide, by decide⟩,
   ⟨{ live.setB .OBS_FREEZE_CTL 0 0 2 true with obs := { missedAt := some 0 } }, 0, .fn 0, _, _, ⟨by decide, rfl⟩, rfl,
     by decide, by decide, rfl⟩,
   ⟨{ live with obs := { freezeRec := some 5 } }, 5, by decide, by decide⟩,
   ⟨live, by decide⟩,
   ⟨live, 0, .fn 0, 1, _, ⟨by decide, rfl⟩, by decide, by decide, by decide⟩,
   ⟨{ (live.setB .OBS_FREEZE_STAT 0 0 20 true).setReg .OBS_FREEZE_AT 0 0 7 with now := 7 }, 0, _, ⟨by decide, rfl⟩, by decide,
     by decide⟩,
   ⟨live, 0, _, ⟨by decide, rfl⟩, by decide⟩,
   ⟨live, 0, _, ⟨by decide, rfl⟩⟩,
   ⟨live, 0, .fn 0, _, ⟨by decide, rfl⟩, by decide, by decide⟩,
   ⟨live.setB .OBS_HANG_STAT 0 0 0 true, 0, .fn 0, _, ⟨by decide, rfl⟩, by decide⟩,
   ⟨live, 0, _, ⟨by decide, rfl⟩, by decide⟩,
   ⟨{ live with obs := { graph := some ([], 0) } }, 0, _, _, ⟨by decide, rfl⟩, rfl⟩,
   ⟨live, 0, .fn 0, 511, _, ⟨by decide, rfl⟩, by decide⟩⟩

/-- States and operands that meet the hypotheses of the clauses of `Obligations.StopsAreTakenAndScannedOut`. -/
theorem test_meets_StopsAreTakenAndScannedOut :
    -- clause 1
    (∃ (s : State) (t : Nat) (u : State), Writes s t .mgmt .glob u ∧ u.rb .OBS_STOP_CFG 0 0 0 = true ∧ u.gstopped = false ∧
      u.haltedAll = false ∧ u.mcs.load = none ∧ u.rb .OBS_STOP_CFG 0 0 2 = false) ∧
    -- clause 2
    (∃ (s : State) (t : Nat) (u : State), Writes s t .mgmt .glob u ∧ u.rb .OBS_STOP_CFG 0 0 0 = false) ∧
    -- clause 3
    (∃ (s : State) (t : Nat) (u : State), Writes s t .mgmt .glob u ∧ u.rb .OBS_STOP_CFG 0 0 0 = true ∧ u.gstopped = false ∧
      u.haltedAll = true) ∧
    -- clause 4
    (∃ (s : State) (t : Nat) (u : State), Writes s t .mgmt .glob u ∧ u.gstopped = true) ∧
    -- clause 5
    (∃ (s : State) (t : Nat) (u : State), Writes s t .mgmt .glob u) ∧
    -- clause 6
    (∃ (s : State) (t : Nat) (u : State), Writes s t .mgmt .glob u ∧ u.sstopped = true ∧ u.gstopped = false ∧
      u.rb .OBS_STOP_CFG 0 0 2 = false) ∧
    -- clause 7
    (∃ (s : State) (t : Nat) (u : State), Writes s t .mgmt .glob u ∧ u.sstopped = false) ∧
    -- clause 8
    (∃ (s : State) (t : Nat) (n : _) (u : State), Writes s t (.fn n) .glob u) ∧
    -- clause 9
    (∃ (s : State) (t : Nat) (u : State), u = s.at t ∧ u.scanReady = true ∧ u.rb .OBS_STOP_CFG 0 0 1 = true ∧
      u.rb .OBS_STOP_STAT 0 0 7 = false ∧ u.rb .OBS_STOP_STAT 0 0 9 = false) ∧
    -- clause 9
    (∃ (s : State) (t : Nat) (u : State), u = s.at t ∧ u.scanReady = true ∧ u.rb .OBS_STOP_CFG 0 0 1 = true ∧
      u.rb .OBS_STOP_STAT 0 0 7 = false ∧ u.rb .OBS_STOP_STAT 0 0 9 = false ∧
      (∀ k, 64 * k < u.scanBytes → 64 * k < u.rf .OBS_SCAN_SIZE 0 0 0 40 → u.portOf (u.reg .OBS_SCAN_BASE + BitVec.ofNat 64 (64 * k)) = .host)) ∧
    -- clause 10
    (∃ (s : State) (t : Nat), (s.at t).scanReady = false) :=
  ⟨⟨managed.setB .OBS_STOP_CFG 0 0 0 true, 0, _, ⟨by decide, rfl⟩, by decide, by decide, by decide, by decide, by decide⟩,
   ⟨managed, 0, _, ⟨by decide, rfl⟩, by decide⟩,
   ⟨(managed.setB .OBS_STOP_CFG 0 0 0 true).setB .ERR_STAT 0 0 2 true, 0, _, ⟨by decide, rfl⟩, by decide, by decide, by decide⟩,
   ⟨managed.setB .OBS_STOP_STAT 0 0 0 true, 0, _, ⟨by decide, rfl⟩, by decide⟩,
   ⟨managed, 0, _, ⟨by decide, rfl⟩⟩,
   ⟨managed.setB .OBS_STOP_STAT 0 0 1 true, 0, _, ⟨by decide, rfl⟩, by decide, by decide, by decide⟩,
   ⟨managed, 0, _, ⟨by decide, rfl⟩, by decide⟩,
   ⟨live, 0, 0, _, ⟨by decide, rfl⟩⟩,
   ⟨(live.setF .OBS_STOP_CFG 0 0 0 2 3).setB .OBS_STOP_STAT 0 0 0 true, 0, _, rfl, by decide, by decide, by decide, by decide⟩,
   ⟨(live.setF .OBS_STOP_CFG 0 0 0 2 3).setB .OBS_STOP_STAT 0 0 0 true, 0, _, rfl, by decide, by decide, by decide, by decide,
     fun k _ h => absurd h (Nat.not_lt_zero (64 * k))⟩,
   ⟨live, 0, by decide⟩⟩

/-- States and operands that meet the hypotheses of the clauses of `Obligations.MicrowordsAct`. -/
theorem test_meets_MicrowordsAct :
    -- clause 1
    (∃ (s : State) (t : Nat) (n : _) (rom : _) (w : _) (u : State), Fetches s t n rom (fun _ => true) w u) ∧
    -- clause 2
    (∃ (s : State) (t : Nat) (n : _) (rom : _) (u : State), s.takesWork = true ∧ u = s.at t ∧ u.microRuns n = true ∧
      parityOk (u.fetched (u.fetchAt (u.seqr n).pc) rom) = false ∧ u.regrow.injParity = []) ∧
    -- clause 3
    (∃ (s : State) (t : Nat) (n : _) (rom : _) (w : _) (u : State), Fetches s t n rom (fun _ => true) w u ∧
      FlowOnly w (u.seqr n) ∧ mwFlow w = 0) ∧
    -- clause 4
    (∃ (s : State) (t : Nat) (n : _) (rom : _) (w : _) (u : State), Fetches s t n rom (fun w => mwFlow w == 1) w u ∧
      FlowOnly w (u.seqr n) ∧ (u.seqr n).stack.length < 8 ∧ mwf w 16 4 = 0) ∧
    -- clause 5
    (∃ (s : State) (t : Nat) (n : _) (rom : _) (w : _) (u : State) (r : _), Fetches s t n rom (fun w => mwFlow w == 2) w u ∧
      FlowOnly w (u.seqr n) ∧ (u.seqr n).stack.getLast? = some r) ∧
    -- clause 6
    (∃ (s : State) (t : Nat) (n : _) (rom : _) (w : _) (u : State), Fetches s t n rom (fun w => mwFlow w == 3) w u ∧
      FlowOnly w (u.seqr n) ∧ u.inCustomer n = false) ∧
    -- clause 7
    (∃ (s : State) (t : Nat) (n : _) (rom : _) (w : _) (u : State) (f : _) (x : _) (c : _), Fetches s t n rom (fun w => mwFlow w == 3) w u ∧
      FlowOnly w (u.seqr n) ∧ u.inCustomer n = true ∧ u.seqFlight n = some (f, x) ∧ x.call = some c) ∧
    -- clause 8
    (∃ (s : State) (t : Nat) (n : _) (rom : _) (w : _) (u : State) (f : _), Fetches s t n rom (fun w => mwFlow w == 4) w u ∧
      FlowOnly w (u.seqr n) ∧ u.seqFlight n = some f) ∧
    -- clause 9
    (∃ (s : State) (t : Nat) (n : _) (u : State) (f : _), Fronts s t u ∧ u.inCustomer n = true ∧ 4096 ≤ (u.seqr n).count ∧
      u.seqFlight n = some f) ∧
    -- clause 10
    (∃ (s : State) (t : Nat) (n : _) (u : State), Fronts s t u ∧ (u.seqr n).count < 4096) ∧
    -- clause 11
    (∃ (s : State) (t : Nat) (n : _) (rom : _) (w : _) (u : State), Fetches s t n rom (mwHop 1 0) w u) ∧
    -- clause 12
    (∃ (s : State) (t : Nat) (n : _) (rom : _) (w : _) (u : State), Fetches s t n rom (mwHop 2 1) w u) ∧
    -- clause 13
    (∃ (s : State) (t : Nat) (n : _) (rom : _) (w : _) (u : State), Fetches s t n rom (mwHop 2 2) w u) ∧
    -- clause 14
    (∃ (s : State) (t : Nat) (n : _) (rom : _) (w : _) (u : State), Fetches s t n rom (mwHop 2 3) w u) ∧
    -- clause 15
    (∃ (s : State) (t : Nat) (n : _) (rom : _) (w : _) (u : State), Fetches s t n rom (mwHop 1 4) w u) ∧
    -- clause 16
    (∃ (s : State) (t : Nat) (n : _) (rom : _) (w : _) (u : State), Fetches s t n rom (fun w => mwf w 85 3 == 3) w u ∧
      mwf w 48 6 = 0x3F ∧ mwf w 54 1 = 0 ∧ mwFlow w = 0 ∧ mwf w 16 4 = 5 ∧ (u.seqr n).ibuf.length ≤ 255) ∧
    -- clause 17
    (∃ (s : State) (t : Nat) (n : _), s.takesWork = true ∧ (s.at t).microRuns n = false) :=
  ⟨⟨live, 0, 8, mw [], _, _, ⟨by decide, rfl, by decide, rfl, by decide, by decide, by decide, rfl, by decide⟩⟩,
   ⟨live, 0, 8, mw [] ^^^ 1, _, by decide, rfl, by decide, by decide, by decide⟩,
   ⟨live, 0, 8, mw [(48, 6, 0x3F), (0, 16, 0x7FFF)], _, _, ⟨by decide, rfl, by decide, rfl, by decide, by decide, by decide,
     rfl, by decide⟩, ⟨by decide, by decide, by decide, by decide⟩, by decide⟩,
   ⟨{ live with mcs := { seqs := [(8, { stack := List.replicate 7 0 })] } }, 0, 8, mw [(48, 6, 0x3F), (20, 3, 1), (64, 16, 1)],
     _, _, ⟨by decide, rfl, by decide, rfl, by decide, by decide, by decide, rfl, by decide⟩, ⟨by decide, by decide, by decide,
     by decide⟩, by decide, by decide⟩,
   ⟨{ live with mcs := { seqs := [(8, { stack := [5] })] } }, 0, 8, mw [(48, 6, 0x3F), (20, 3, 2)], _, _, _, ⟨by decide, rfl,
     by decide, rfl, by decide, by decide, by decide, rfl, by decide⟩, ⟨by decide, by decide, by decide, by decide⟩, rfl⟩,
   ⟨live, 0, 8, mw [(48, 6, 0x3F), (20, 3, 3)], _, _, ⟨by decide, rfl, by decide, rfl, by decide, by decide, by decide,
     by decide, by decide⟩, ⟨by decide, by decide, by decide, by decide⟩, by decide⟩,
   ⟨customer (BitVec.ofNat 128 (0x3F * 2 ^ 48 + 3 * 2 ^ 20)) 0, 0, 0, 0, _, _, _, _, _, ⟨by decide, rfl, by decide, rfl,
     by decide, by decide, by decide, by decide, by decide⟩, ⟨by decide, by decide, by decide, by decide⟩, by decide, rfl, rfl⟩,
   ⟨running flight0, 0, 0, mw [(48, 6, 0x3F), (20, 3, 4)], _, _, _, ⟨by decide, rfl, by decide, rfl, by decide, by decide,
     by decide, rfl, by decide⟩, ⟨by decide, by decide, by decide, by decide⟩, rfl⟩,
   ⟨customer 0 4096, 0, 0, _, _, ⟨by decide, rfl, by decide⟩, by decide, by decide, rfl⟩,
   ⟨{ live with mcs := { seqs := [(0, { pc := 0x8000, count := 4095 })] } }, 0, 0, _, ⟨by decide, rfl, by decide⟩, by decide⟩,
   ⟨live, 0, 8, mw [(85, 3, 1), (80, 5, 0)], _, _, ⟨by decide, rfl, by decide, rfl, by decide, by decide, by decide, rfl,
     by decide⟩⟩,
   ⟨live, 0, 8, mw [(85, 3, 2), (80, 5, 1)], _, _, ⟨by decide, rfl, by decide, rfl, by decide, by decide, by decide, rfl,
     by decide⟩⟩,
   ⟨live, 0, 8, mw [(85, 3, 2), (80, 5, 2)], _, _, ⟨by decide, rfl, by decide, rfl, by decide, by decide, by decide, rfl,
     by decide⟩⟩,
   ⟨live, 0, 8, mw [(85, 3, 2), (80, 5, 3)], _, _, ⟨by decide, rfl, by decide, rfl, by decide, by decide, by decide, rfl,
     by decide⟩⟩,
   ⟨live, 0, 8, mw [(85, 3, 1), (80, 5, 4)], _, _, ⟨by decide, rfl, by decide, rfl, by decide, by decide, by decide, rfl,
     by decide⟩⟩,
   ⟨{ live with mcs := { seqs := [(8, { ibuf := List.replicate 255 0 })] } }, 0, 8, mw [(85, 3, 3), (48, 6, 0x3F), (16, 4, 5)],
     _, _, ⟨by decide, rfl, by decide, rfl, by decide, by decide, by decide, rfl, by decide⟩, by decide, by decide, by decide,
     by decide, Nat.le_of_eq List.length_replicate⟩,
   ⟨live, 0, 9, by decide, by decide⟩⟩

/-- States and operands that meet the hypotheses of the clauses of `Obligations.LoadsBeginAndEnd`. -/
theorem test_meets_LoadsBeginAndEnd :
    -- clause 1
    (∃ (s : State) (t : Nat) (k : _) (n : _) (u : State), u = s.at t ∧ u.inSession .mgmt = true ∧ u.loadHalted = false ∧
      u.mcs.load = none ∧ k < 2 ∧ u.lacks 2 = false ∧ 160 ≤ n ∧ n ≤ 69632) ∧
    -- clause 1, another value
    (∃ (s : State) (t : Nat) (k : _) (n : _) (u : State), u = s.at t ∧ u.inSession .mgmt = true ∧ u.loadHalted = false ∧
      u.mcs.load = none ∧ k < 2 ∧ u.lacks 2 = false ∧ 160 ≤ n ∧ n ≤ 69632) ∧
    -- clause 2
    (∃ (s : State) (t : Nat) (u : State) (l : _), u = s.at t ∧ u.inSession .mgmt = true ∧ u.loadHalted = false ∧
      u.mcs.load = some l) ∧
    -- clause 3
    (∃ (s : State) (t : Nat) (u : State), u = s.at t ∧ u.inSession .mgmt = false) ∧
    -- clause 4
    (∃ (s : State) (t : Nat) (o : _) (b : List Byte) (u : State) (l : _), u = s.at t ∧ u.inSession .mgmt = true ∧
      u.loadHalted = false ∧ u.mcs.load = some l ∧ l.ready = none ∧ l.total < o + b.length) ∧
    -- clause 5
    (∃ (s : State) (t : Nat) (o : _) (u : State) (l : _), u = s.at t ∧ u.inSession .mgmt = true ∧ u.loadHalted = false ∧
      u.mcs.load = some l ∧ l.ready = none ∧ o < l.total) ∧
    -- clause 6
    (∃ (s : State) (t : Nat) (u : State) (l : _), u = s.at t ∧ u.inSession .mgmt = true ∧ u.loadHalted = false ∧
      u.mcs.load = some l ∧ l.ready = none ∧ l.staged.length ≠ l.total) ∧
    -- clause 7
    (∃ (s : State) (t : Nat) (g : _) (d : _) (u : State) (l : _) (i : _), u = (s.at t).wake ∧ (s.at t).inSession .mgmt = true ∧
      u.loadHalted = false ∧ u.mcs.load = some l ∧ l.ready = none ∧ l.staged.length = l.total ∧ i = mcsImage l.bytes g d ∧
      u.imageFault l.kind i l.total = none ∧ u.sstopped = false ∧ u.regrowing = false) ∧
    -- clause 7
    (∃ (s : State) (t : Nat) (g : _) (d : _) (u : State) (l : _) (i : _), u = (s.at t).wake ∧ (s.at t).inSession .mgmt = true ∧
      u.loadHalted = false ∧ u.mcs.load = some l ∧ l.ready = none ∧ l.staged.length = l.total ∧ i = mcsImage l.bytes g d ∧
      u.imageFault l.kind i l.total = none ∧ u.sstopped = true ∧ u.regrowing = false) ∧
    -- clause 8
    (∃ (s : State) (t : Nat) (u : State) (l : _) (i : _), Acts s t u ∧ u.mcs.load = some l ∧ l.ready = some i ∧
      u.rf .MCS_LOAD_STAT 0 0 1 3 = 3 ∧ u.pauseOk = true ∧ u.gov.rung = 0) ∧
    -- clause 9
    (∃ (s : State) (t : Nat) (u : State), Acts s t u ∧ u.mcs.load = none) ∧
    -- clause 10
    (∃ (s : State) (t : Nat) (u : State) (l : _), u = s.at t ∧ u.inSession .mgmt = true ∧ u.mcs.load = some l) ∧
    -- clause 11
    (∃ (s : State) (t : Nat) (u : State), u = s.at t ∧ u.inSession .mgmt = true ∧ u.mcs.load = none) :=
  ⟨⟨managed, 0, 1, 69632, _, rfl, by decide, by decide, by decide, by decide, by decide, by decide, by decide⟩,
   ⟨managed, 0, 0, 160, _, rfl, by decide, by decide, by decide, by decide, by decide, by decide, by decide⟩,
   ⟨{ managed with mcs := { load := some { kind := 0, total := 160 } } }, 0, _, _, rfl, by decide, by decide, rfl⟩,
   ⟨live, 0, _, rfl, by decide⟩,
   ⟨{ managed with mcs := { load := some { kind := 0, total := 160 } } }, 0, 160, [0], _, _, rfl, by decide, by decide, rfl,
     by decide, by decide⟩,
   ⟨{ managed with mcs := { load := some { kind := 0, total := 160 } } }, 0, 159, _, _, rfl, by decide, by decide, rfl,
     by decide, by decide⟩,
   ⟨{ managed with mcs := { load := some { kind := 0, total := 160 } } }, 0, _, _, rfl, by decide, by decide, rfl, by decide,
     by decide⟩,
   ⟨{ managed with mcs := { load := some load0 } }, 0, true, 0, _, _, _, rfl, by decide, by decide, rfl, by decide,
     by decide +kernel, rfl, by decide +kernel, by decide, by decide⟩,
   ⟨{ managed.setB .OBS_STOP_STAT 0 0 1 true with sec := managed.sec, mcs := { load := some load0 } }, 0, true, 0, _, _, _, rfl,
     by decide, by decide, rfl, by decide, by decide +kernel, rfl, by decide +kernel, by decide, by decide⟩,
   ⟨{ live.setF .MCS_LOAD_STAT 0 0 1 3 3 with mcs := { load := some { kind := 0, total := 160, ready := some { magic := 0, format := 0, romVer := 0, setVer := 0, rsvBad := none, entries := [], words := [], sigOk := true, digest := 0 } } } },
     0, _, _, _, ⟨by decide, rfl⟩, rfl, rfl, by decide, by decide, by decide⟩,
   ⟨live, 0, _, ⟨by decide, rfl⟩, by decide⟩,
   ⟨{ managed with mcs := { load := some { kind := 0, total := 160 } } }, 0, _, _, rfl, by decide, rfl⟩,
   ⟨managed, 0, _, rfl, by decide, by decide⟩⟩

/-- States and operands that meet the hypotheses of the clauses of `Obligations.LinesReadAsWritten`. -/
theorem test_meets_LinesReadAsWritten :
    -- clause 1
    (∃ (u : State) (fn : _) (t : Nat) (line : _) (d : List Word) (v : _), d.length = 8 ∧ u.sec.sat.contains (t, line) = false ∧
      (u.treePath t line).any (fun p => 2 ^ 56 - 1 ≤ u.ctr t p.1 p.2) = false ∧ v = u.writeLine fn t line d) ∧
    -- clause 1, another value
    (∃ (u : State) (fn : _) (t : Nat) (line : _) (d : List Word) (v : _), d.length = 8 ∧ u.sec.sat.contains (t, line) = false ∧
      (u.treePath t line).any (fun p => 2 ^ 56 - 1 ≤ u.ctr t p.1 p.2) = false ∧ v = u.writeLine fn t line d) ∧
    -- clause 2
    (∃ (u : State) (t : Nat) (line : _), u.sec.sat.contains (t, line) = false ∧ u.ctr t 0 line = 0) ∧
    -- clause 3
    (∃ (u : State) (t : Nat) (line : _) (text : List Byte) (mac : _), t < 8 ∧ u.sec.sat.contains (t, line) = false ∧
      u.ctr t 0 line ≠ 0 ∧ mac ≠ lineMac (u.keyOf t) (u.ctr t 0 line) line t (text.map BitVec.toNat) 64) ∧
    -- clause 4
    (∃ (u : State) (t : Nat) (line : _), u.sec.sat.contains (t, line) = false ∧
      (u.treePath t line).any (fun p => 2 ^ 56 - 1 ≤ u.ctr t p.1 p.2) = true) :=
  ⟨⟨sized 1, none, 0, 0, List.replicate 8 0, _, by decide, by decide, by decide, rfl⟩,
   ⟨sized 65536, some 5, 7, 63, List.replicate 8 0, _, by decide, by decide, by decide, rfl⟩,
   ⟨sized 1, 0, 0, by decide, by decide⟩,
   ⟨{ sized 1 with sec := { keys := [(7, 0)], ctrs := [(ctrKey 7 0, [(0, 1)])] } }, 7, 0, [], lineMac 0 1 0 7 [] 64 + 1,
     by decide, by decide, by decide, by decide +kernel⟩,
   ⟨{ sized 1 with sec := { ctrs := [(ctrKey 0 0, [(5, 2 ^ 56 - 1)])] } }, 0, 5, by decide, by decide⟩⟩

/-- States and operands that meet the hypotheses of the clauses of `Obligations.WeightsAreVerified`. -/
theorem test_meets_WeightsAreVerified :
    -- clause 1
    (∃ (u : State) (k : _) (t : Task), Tab.get? u.tasks k = some t ∧ t.gate.failed = false ∧ t.gate.hdr = none ∧
      256 ≤ t.gate.got.length ∧ u.gateKey t = true ∧ hdrTagOk (u.keyOf t.keySlot) (t.gate.got.take 256) = true ∧
      u.hdrOk t (t.gate.got.take 256) = true) ∧
    -- clause 1
    (∃ (u : State) (k : _) (t : Task), Tab.get? u.tasks k = some t ∧ t.gate.failed = false ∧ t.gate.hdr = none ∧
      256 ≤ t.gate.got.length ∧ u.gateKey t = true ∧ hdrTagOk (u.keyOf t.keySlot) (t.gate.got.take 256) = true ∧
      u.hdrOk t (t.gate.got.take 256) = false) ∧
    -- clause 1
    (∃ (u : State) (k : _) (t : Task), Tab.get? u.tasks k = some t ∧ t.gate.failed = false ∧ t.gate.hdr = none ∧
      256 ≤ t.gate.got.length ∧ u.gateKey t = true ∧ hdrTagOk (u.keyOf t.keySlot) (t.gate.got.take 256) = false) ∧
    -- clause 2
    (∃ (u : State) (k : _) (t : Task) (h : _) (n : _) (key : _) (iv : _) (plain : List Nat) (tag : List Byte) (rest : _), Tab.get? u.tasks k = some t ∧
      t.gate.failed = false ∧ t.gate.hdr = some h ∧ t.gate.chunk < h.chunks ∧ n = h.chunkLen t.gate.chunk ∧
      key = u.keyOf t.keySlot ∧ iv = gateIv h.nonce t.gate.chunk ∧ plain.length = n ∧ (∀ b ∈ plain, b < 256) ∧ tag.length = 16 ∧
      t.gate.got = (gcmText key iv plain).map (BitVec.ofNat 8) ++ tag ++ rest ∧ u.sec.revoke.contains t.keySlot = false ∧
      beNat (byteNats tag) = gcmTag key iv (byteNats (chunkAad h t.gate.chunk)) (gcmText key iv plain)) ∧
    -- clause 2
    (∃ (u : State) (k : _) (t : Task) (h : _) (n : _) (key : _) (iv : _) (plain : List Nat) (tag : List Byte) (rest : _), Tab.get? u.tasks k = some t ∧
      t.gate.failed = false ∧ t.gate.hdr = some h ∧ t.gate.chunk < h.chunks ∧ n = h.chunkLen t.gate.chunk ∧
      key = u.keyOf t.keySlot ∧ iv = gateIv h.nonce t.gate.chunk ∧ plain.length = n ∧ (∀ b ∈ plain, b < 256) ∧ tag.length = 16 ∧
      t.gate.got = (gcmText key iv plain).map (BitVec.ofNat 8) ++ tag ++ rest ∧ u.sec.revoke.contains t.keySlot = false ∧
      beNat (byteNats tag) ≠ gcmTag key iv (byteNats (chunkAad h t.gate.chunk)) (gcmText key iv plain)) :=
  ⟨⟨gating { got := header0 }, 0, _, rfl, by decide, by decide, by decide +kernel, by decide, by decide +kernel,
    by decide +kernel⟩,
   ⟨{ gating { got := header0 } with sec := { keys := [(16, 1)], modelIds := [(16, 5)] } }, 0, _, rfl, by decide, by decide,
     by decide +kernel, by decide, by decide +kernel, by decide +kernel⟩,
   ⟨gating { got := blob0 ++ List.replicate 16 0 }, 0, _, rfl, by decide, by decide, by decide +kernel, by decide,
     by decide +kernel⟩,
   ⟨gating (gateIn (chunk0.map (BitVec.ofNat 8) ++ chunkTag0)), 0, _, _, _, _, _, [7], chunkTag0, [], rfl, by decide, rfl,
     by decide, rfl, rfl, rfl, rfl, by decide, by decide +kernel, by decide +kernel, by decide, by decide +kernel⟩,
   ⟨gating (gateIn (chunk0.map (BitVec.ofNat 8) ++ List.replicate 16 0)), 0, _, _, _, _, _, [7], List.replicate 16 0, [], rfl,
     by decide, rfl, by decide, rfl, rfl, rfl, rfl, by decide, by decide +kernel, by decide +kernel, by decide,
     by decide +kernel⟩⟩

/-- States and operands that meet the hypotheses of the clauses of `Obligations.EndOfBufferCompletesOk`. -/
theorem test_meets_EndOfBufferCompletesOk :
    -- clause 1
    (∃ (s : State) (t : Nat) (u : State) (f : _) (x : _), Acts s t u ∧ u.regrowing = false ∧ Tab.get? u.flights f = some x ∧
      x.inTeardown = false ∧ x.marker = false ∧ x.ending = none ∧ x.out = [] ∧ x.pend = [] ∧ x.off = x.length ∧ x.loops = [] ∧
      x.call = none ∧ x.wait = none ∧ x.seqr = none ∧ x.readySince = none) ∧
    -- clause 2
    (∃ (s : State) (t : Nat) (u : State) (f : _) (x : _), Acts s t u ∧ Tab.get? u.flights f = some x ∧
      (x.out ≠ [] ∨ x.pend ≠ [])) :=
  ⟨⟨running { flight0 with seqr := none }, 0, _, 0, _, ⟨by decide, rfl⟩, by decide, rfl, by decide, by decide, by decide,
    by decide, by decide, by decide, by decide, by decide, by decide, by decide, by decide⟩,
   ⟨running { flight0 with pend := [0] }, 0, _, 0, _, ⟨by decide, rfl⟩, rfl, by decide⟩⟩

/-- States and operands that meet the hypotheses of the clauses of `Obligations.UnknownDoneIsDiscarded`. -/
theorem test_meets_UnknownDoneIsDiscarded :
    -- clause 1
    (∃ (u : State) (h : _), NamesNoLaunch u h) ∧
    -- clause 1, another value
    (∃ (u : State) (h : _), NamesNoLaunch u h) ∧
    -- clause 1, another value
    (∃ (u : State) (h : _), NamesNoLaunch u h) ∧
    -- clause 2
    (∃ (s : State) (t : Nat) (u : State) (c : _) (p : _) (tag : _) (st : _) (rf : _) (nl : _) (nx : _) (ns : _), Acts s t u ∧
      u.regrowing = false ∧ NamesNoLaunch u ⟨c, p, tag, st, rf, nl, nx, ns, none, 0⟩ ∧
      (c = .comp → st = 0 → u.compHas tag = false)) ∧
    -- clause 2, another value
    (∃ (s : State) (t : Nat) (u : State) (c : _) (p : _) (tag : _) (st : _) (rf : _) (nl : _) (nx : _) (ns : _), Acts s t u ∧
      u.regrowing = false ∧ NamesNoLaunch u ⟨c, p, tag, st, rf, nl, nx, ns, none, 0⟩ ∧
      (c = .comp → st = 0 → u.compHas tag = false)) :=
  ⟨⟨live, ⟨.tiler, 0, 7, 0, false, true, 0, 0, none, 0⟩, .inr (.inr ⟨by decide, rfl, by decide⟩)⟩,
   ⟨live, ⟨.cores, 0, 7, 4, false, true, 0, 0, none, 0⟩, .inl ⟨rfl, rfl, by decide⟩⟩,
   ⟨live, ⟨.cores, 47, 7, 0, false, true, 0, 0, none, 0⟩, .inr (.inl ⟨rfl, by decide, fun _ h => nomatch h⟩)⟩,
   ⟨live, 0, _, .tiler, 0, 7, 0, false, true, 0, 0, ⟨by decide, rfl⟩, by decide, .inr (.inr ⟨by decide, rfl, by decide⟩),
     by decide⟩,
   ⟨live, 0, _, .comp, 0, 7, 0, false, true, 0, 0, ⟨by decide, rfl⟩, by decide, .inr (.inr ⟨by decide, rfl, by decide⟩),
     by decide⟩⟩

/-- States and operands that meet the hypotheses of the clauses of `Obligations.RunawayRoutineFaults`. -/
theorem test_meets_RunawayRoutineFaults :
    -- clause 1
    (∃ (s : State) (t : Nat) (n : _) (u : State) (f : _), Fronts s t u ∧ u.inCustomer n = true ∧ (u.seqr n).count = 4096 ∧
      u.seqFlight n = some f) ∧
    -- clause 2
    (∃ (s : State) (t : Nat) (n : _) (u : State), Fronts s t u ∧ u.inCustomer n = true ∧ (u.seqr n).count < 4096) :=
  ⟨⟨customer 0 4096, 0, 0, _, _, ⟨by decide, rfl, by decide⟩, by decide, by decide, rfl⟩,
   ⟨customer 0 4095, 0, 0, _, ⟨by decide, rfl, by decide⟩, by decide, by decide⟩⟩

/-- States and operands that meet the hypotheses of the clauses of `Obligations.WindowsAreReachedByTheirOwners`. -/
theorem test_meets_WindowsAreReachedByTheirOwners :
    -- clause 1
    (∃ (m : Nat) (win : Window), (match win with | .glob => m ≠ 0 | .own k => m ≠ k)) ∧
    -- clause 1, another value
    (∃ (m : Nat) (win : Window), (match win with | .glob => m ≠ 0 | .own k => m ≠ k)) ∧
    -- clause 2
    (∃ (s : State) (t : Nat), (s.at t).inSession .mgmt = false) ∧
    -- clause 3
    (∃ (s : State) (t : Nat) (who : Who) (win : Window) (off : _) (x : _), InReach (s.at t) who win ∧ off % 8 = 0 ∧
      regOf win off = some x ∧ x.1.spec.wide = true) ∧
    -- clause 4
    (∃ (s : State) (t : Nat) (who : Who) (win : Window) (off : _) (x : _), InReach (s.at t) who win ∧ off % 4 = 0 ∧
      regOf win off = some x ∧ x.1.spec.wide = true ∧ x.1.split = false) :=
  ⟨⟨1, .glob, by decide⟩,
   ⟨1, .own 0, by decide⟩,
   ⟨live, 0, by decide⟩,
   ⟨live, 0, .fn 0, .glob, 0, _, ⟨rfl, by decide, by decide⟩, by decide, rfl, by decide⟩,
   ⟨live, 0, .fn 0, .glob, 0, _, ⟨rfl, by decide, by decide⟩, by decide, rfl, by decide, by decide⟩⟩

/-- States and operands that meet the hypotheses of the clauses of `Obligations.StepTakesFront`. -/
theorem test_meets_StepTakesFront :
    -- clause 1
    (∃ (s : State) (c : _) (r : _), s.pending = c :: r) ∧
    -- clause 2
    (∃ (s : State), s.pending = []) :=
  ⟨⟨{ live with pending := [.launch 0] }, _, [], rfl⟩,
   ⟨live, by decide⟩⟩

/-- States and operands that meet the hypotheses of the clauses of `Obligations.UnmetNeedsLeaveTheState`. -/
theorem test_meets_UnmetNeedsLeaveTheState :
    -- clause 1
    (∃ (c : _) (s : State), (need c).met s = false) ∧
    -- clause 2
    (∃ (c : _) (s : State), need c ≠ .none ∧ s.ready = false) ∧
    -- clause 3
    (∃ (c : _) (s : State), need c ≠ .none ∧ s.haltedAll = true) ∧
    -- clause 4
    (∃ (c : _) (s : State), need c = .alive ∧ s.gstopped = true) ∧
    -- clause 5
    (∃ (c : _) (s : State), need c = .front ∧ (s.gstopped = true ∨ s.sstopped = true ∨ s.regrowing = true)) :=
  ⟨⟨.launch 0, State.reset, by decide⟩,
   ⟨.launch 0, State.reset, by decide, by decide⟩,
   ⟨.launch 0, live.setB .ERR_STAT 0 0 2 true, by decide, by decide⟩,
   ⟨.periodStart 0, live.setB .OBS_STOP_STAT 0 0 0 true, by decide, by decide⟩,
   ⟨.launch 0, live.setB .ERR_STAT 0 0 1 true, by decide, by decide⟩⟩

/-- States and operands that meet the hypotheses of the clauses of `Obligations.HaltShutsTheHostOut`. -/
theorem test_meets_HaltShutsTheHostOut :
    -- clause 1
    (∃ (c : _) (s : State) (t : Nat) (n : _), hostWrite c = some (t, n) ∧ (s.at t).haltedAll = true) ∧
    -- clause 2
    (∃ (s : State) (t : Nat) (win : _) (off : _) (x : _), (s.at t).haltedAll = true ∧ off % 8 = 0 ∧ regOf win off = some x ∧
      x.1.spec.wide = true ∧ x.1.vxbErr = false) ∧
    -- clause 3
    (∃ (s : State) (t : Nat) (off : _) (x : _), (s.at t).haltedAll = true ∧ off % 8 = 0 ∧ regOf .glob off = some x ∧
      x.1.spec.wide = true ∧ x.1.vxbErr = true) ∧
    -- clause 4
    (∃ (s : State) (t : Nat), (s.at t).haltedAll = true) :=
  ⟨⟨.freezeGo 0 (.fn 0), live.setB .ERR_STAT 0 0 2 true, 0, _, rfl, by decide⟩,
   ⟨live.setB .ERR_STAT 0 0 2 true, 0, .glob, 0x80800, _, by decide, by decide, rfl, by decide, by decide⟩,
   ⟨live.setB .ERR_STAT 0 0 2 true, 0, 0x110000, _, by decide, by decide, rfl, by decide, by decide⟩,
   ⟨live.setB .ERR_STAT 0 0 2 true, 0, by decide⟩⟩

/-- States and operands that meet the hypotheses of the clauses of `Obligations.StepsComeAfter`. -/
theorem test_meets_StepsComeAfter :
    -- clause 1
    ∃ (r : _) (s : State) (t : State), Since r s ∧ step s = .next t :=
  ⟨State.reset, State.reset, State.reset, ⟨List.prefix_refl _, Nat.le_refl _, [], rfl, fun _ => rfl⟩, rfl⟩

end Sys2Proof.Tests
end

section
/-! SUPPORT. The retirement of a submission (R64, R65, R124): what `State.retire` does, a lemma per outcome, and the obligations on
the end of a buffer. -/

namespace Sys2Proof.Machine

variable {s u : State} {t f : Nat} {x : Flight} {w : WriteFault}

/-! ## What a submission must have left before it retires -/

theorem Flight.atRest_iff : x.atRest = true ↔
    x.off = x.length ∧ x.loops = [] ∧ x.call = none ∧ x.wait = none ∧ x.seqr = none ∧ x.readySince = none := by
  simp [Flight.atRest, and_assoc]

theorem Flight.onCrSpace_of_wait_none (h : x.wait = none) : x.onCrSpace = false := by
  simp [Flight.onCrSpace, h]

/-! ## The outcomes of a retirement -/

/-- SUBMISSION_RETIRE carries out `State.retire` on the state in which it finds the block. -/
theorem leaves_submissionRetire (h : Acts s t u) : Leaves (.submissionRetire t f w) s (u.retire f w) :=
  act_acts (fun v => v.retire f w) h

/-- The implied FENCE (R124): as long as an engine command runs or waits, the submission does not retire. -/
theorem State.retire_of_engine_command (hx : Tab.get? u.flights f = some x) (h : x.out ≠ [] ∨ x.pend ≠ []) : u.retire f w = u := by
  rcases h with hout | hpend
  · simp [State.retire, hx, hout]
  · simp [State.retire, hx, hpend]

/-- A STREAM without an early end that is at rest, its engine commands over, completes with OK and with C0 (R64, R124). -/
theorem State.retire_stream_atRest (hg : u.regrowing = false) (hx : Tab.get? u.flights f = some x) (htd : x.inTeardown = false)
    (hm : x.marker = false) (he : x.ending = none) (hout : x.out = []) (hpend : x.pend = []) (hrest : x.atRest = true) :
    u.retire f w = u.complete f 0 0 x.lastLayer x.lastOp u.now (nth x.c 0 0) w := by
  obtain ⟨-, -, -, hwait, -, -⟩ := Flight.atRest_iff.mp hrest
  simp [State.retire, hx, hg, htd, hm, he, hout, hpend, hrest, Flight.onCrSpace_of_wait_none hwait]

/-! ## The end of the buffer -/

/-- Settles O50: a stream at the end of its buffer is at rest and retires with OK, and an engine command that runs or waits holds the
retirement back. -/
theorem endOfBufferCompletesOk : Obligations.EndOfBufferCompletesOk := by
  unfold Obligations.EndOfBufferCompletesOk
  refine ⟨fun s t u f x w hacts hg hx htd hm he hout hpend hoff hloops hcall hwait hseqr hready => ?_,
    fun s t u f x w hacts hx hwork => ?_⟩
  · have hrest : x.atRest = true := Flight.atRest_iff.mpr ⟨hoff, hloops, hcall, hwait, hseqr, hready⟩
    rw [← State.retire_stream_atRest hg hx htd hm he hout hpend hrest]
    exact leaves_submissionRetire hacts
  · have hstays : u.retire f w = u := State.retire_of_engine_command hx hwork
    simpa only [hstays] using leaves_submissionRetire (f := f) (w := w) hacts

end Sys2Proof.Machine
end

section
/-! SUPPORT. What a report changes: error-log records, raises, trace records with what their trigger sets off, counts and broadcasts leave
the work of the machine as it was. -/

namespace Sys2Proof.Machine

/-- State `u` is `s` but for what a report reaches: the registers, the interrupt controller, what has left the ports and how many free
values have been used, the contexts' counters, the governor's gap and rung, the link ports, the observation unit and the control store. -/
def State.Reported (s u : State) : Prop := ∃ g i o n c v m b x,
  u = { s with regs := g, irq := i, out := o, fresh := n, ctxs := c, gov := v, tml := m, obs := b, mcs := x }

namespace State.Reported

variable {s u v : State}

theorem refl (s : State) : s.Reported s := ⟨_, _, _, _, _, _, _, _, _, rfl⟩

/-- A plain update of what a report reaches: of a register, of an output, of a record of one of the units. -/
theorem upd (h : s.Reported u) {g : Tab Word} {i : Irq} {o : List Emit} {n : Nat} {c : Tab Ctx} {v : Gov} {m : Tml} {b : Obs} {x : Mcs} :
    s.Reported { u with regs := g, irq := i, out := o, fresh := n, ctxs := c, gov := v, tml := m, obs := b, mcs := x } := by
  obtain ⟨_, _, _, _, _, _, _, _, _, rfl⟩ := h
  exact ⟨_, _, _, _, _, _, _, _, _, rfl⟩

theorem trans (h : s.Reported u) (h' : u.Reported v) : s.Reported v := by
  obtain ⟨_, _, _, _, _, _, _, _, _, rfl⟩ := h'
  exact h.upd

/-- A report leaves the flight table, the tasks and the teardowns as they were. -/
theorem work (h : s.Reported u) : u.flights = s.flights ∧ u.tasks = s.tasks ∧ u.td = s.td := by
  obtain ⟨_, _, _, _, _, _, _, _, _, rfl⟩ := h
  exact ⟨rfl, rfl, rfl⟩

theorem ite {c : Prop} [Decidable c] (hu : s.Reported u) (hv : s.Reported v) : s.Reported (if c then u else v) := by
  split
  · exact hu
  · exact hv

theorem when {c : Bool} {f : State → State} (h : s.Reported u) (hf : ∀ v, s.Reported v → s.Reported (f v)) : s.Reported (u.when c f) :=
  .ite (hf u h) h

theorem foldl {α : Type} {f : State → α → State} {l : List α} (h : s.Reported u) (hf : ∀ v a, s.Reported v → s.Reported (f v a)) :
    s.Reported (l.foldl f u) := by
  induction l generalizing u with
  | nil => exact h
  | cons a l ih => exact ih (hf u a h)

/-! ## Counts, wakes and writes to memory -/

theorem count (h : s.Reported u) (i k : Nat) (x : Who3) : s.Reported (u.count i k x) := by
  obtain ⟨_, _, _, hu⟩ := u.count_counted i k x
  rw [hu]
  exact h.upd

theorem endGap (h : s.Reported u) : s.Reported u.endGap := by
  unfold State.endGap
  split
  · exact h
  · exact h.upd

theorem wake (h : s.Reported u) : s.Reported u.wake := by
  unfold State.wake
  dsimp only
  split
  · exact .ite h.endGap.upd h.endGap.upd
  · exact .ite h.endGap h.endGap.upd

theorem writeMem (h : s.Reported u) (o : Issuer) (a : Word) (d : List Word) : s.Reported (u.writeMem o a d) :=
  have hwake : s.Reported u.memWake := h.when fun _ => wake
  .ite h (.when hwake.upd fun _ hv => hv.count _ _ _)

/-! ## Raises -/

theorem updLine (h : s.Reported u) (f : Nat) : s.Reported (u.updLine f) :=
  .ite (.ite h.upd h.upd) (.when h.upd fun _ hv => hv.upd)

theorem ibiAfter (h : s.Reported u) (b : Bool) : s.Reported (u.ibiAfter b) := .ite h.upd h

theorem raiseCopies (h : s.Reported u) (k : Nat) : s.Reported (u.raiseCopies k).2 := by
  have hview {c : Bool} {i : State → Irq} : s.Reported (u.when c fun v => { v with irq := i v }) := h.when fun _ hv => hv.upd
  unfold State.raiseCopies
  dsimp only
  split
  · exact (hview.upd.ibiAfter _).updLine _
  · exact hview.upd.ibiAfter _

theorem raisePlain (h : s.Reported u) (k : Nat) : s.Reported (u.raisePlain k) :=
  (h.when fun _ => wake).raiseCopies k

theorem noteRaise (h : s.Reported u) (k : Nat) : s.Reported (u.noteRaise k) := .ite h h.upd

theorem raise (h : s.Reported u) (k : Nat) : s.Reported (u.raise k) := by
  have hnote := h.noteRaise k
  have hcopies {c : Bool} : s.Reported (((u.noteRaise k).when c State.wake).raiseCopies k).2 := (hnote.when fun _ => wake).raiseCopies k
  refine .ite hnote (.ite (hnote.raisePlain k) (.ite (raisePlain (noteRaise ?_ 7) 7) hcopies.upd))
  split
  · exact hcopies.upd.updLine _
  · exact hcopies.upd

/-! ## Records in the trace rings -/

theorem ringPut (h : s.Reported u) (r : Nat) (d : List Word) : s.Reported (u.ringPut r d) :=
  (h.writeMem _ _ _).upd.when fun _ hv => hv.raise 18

theorem ringWrite (h : s.Reported u) (r : Nat) (d : List Word) : s.Reported (u.ringWrite r d) := by
  unfold State.ringWrite
  extract_lets full cap loss w
  have hw : s.Reported w := .ite ((h.upd.ringPut _ _).raise 18) h
  exact .ite hw.upd (.ite hw.upd (hw.ringPut _ _))

theorem devRecordAt (h : s.Reported u) (t ty d : Nat) : s.Reported (u.devRecordAt t ty d) := .ite (h.ringWrite _ _) h

/-! ## Broadcasts -/

theorem oweCredit (h : s.Reported u) (p c w : Nat) : s.Reported (u.oweCredit p c w) := .ite h h.upd

theorem freeFrame (h : s.Reported u) (f : Frame) : s.Reported (u.freeFrame f) := by
  unfold State.freeFrame
  split
  · exact h.oweCredit _ _ _
  · exact h

theorem segWired (h : s.Reported u) (f : Frame) : s.Reported (u.segWired f) := by
  unfold State.segWired
  split
  · exact .ite h.upd h
  · exact h

theorem txNow (h : s.Reported u) (p : Nat) (f : Frame) : s.Reported (u.txNow p f) := by
  unfold State.txNow
  extract_lets _ _ _ _ g queued wired keyed left counted
  have hqueued : s.Reported queued := h.upd
  have hkeyed : s.Reported keyed := ((hqueued.freeFrame f).segWired f).when fun _ hv => hv.upd
  have hcounted : s.Reported counted := count hkeyed.upd _ _ _
  split
  · exact hcounted.count _ _ _
  · exact hcounted

theorem pump (h : s.Reported u) (p n : Nat) : s.Reported (u.pump p n) := by
  induction n generalizing u with
  | zero => exact h
  | succ n ih =>
    unfold State.pump
    refine .ite h ?_
    split
    · exact ih (h.txNow p _)
    · exact h

theorem txFrame (h : s.Reported u) (p : Nat) (f : Frame) : s.Reported (u.txFrame p f) := h.upd.pump p _

theorem broadcast (h : s.Reported u) (m : Msg) : s.Reported (u.broadcast m) :=
  foldl h.upd fun _ _ hv => .ite (hv.txFrame _ _) hv

/-! ## Stops, freezes and the trace trigger -/

theorem endLoad (h : s.Reported u) (r d : Nat) : s.Reported (u.endLoad r d) := h.upd

theorem globalStopCore (h : s.Reported u) (c : Nat) : s.Reported (u.globalStopCore c) :=
  have hload {b : Bool} {l : List Emit} : s.Reported ((u.emits l).when b fun v => v.endLoad 10 0) := h.upd.when fun _ hv => hv.endLoad 10 0
  .ite h (.ite h.upd (raise (.when hload.upd fun _ hv => hv.broadcast _) 20))

theorem softStopCore (h : s.Reported u) (c : Nat) : s.Reported (u.softStopCore c) :=
  .ite h (raise (.when h.upd fun _ hv => hv.broadcast _) 20)

theorem freezeCore (h : s.Reported u) (c : Nat) : s.Reported (u.freezeCore c) :=
  .ite h.upd (.ite (.ite h h.upd) (raise (.when h.upd fun _ hv => hv.upd) 19))

theorem freezeRecord (h : s.Reported u) : s.Reported u.freezeRecord := by
  unfold State.freezeRecord
  split
  · exact .ite h (h.upd.devRecordAt _ _ _)
  · exact h

theorem triggerAct (h : s.Reported u) : s.Reported u.triggerAct := by
  have hdisarmed : s.Reported (u.setB .TRC_TRIG 0 0 13 false) := h.upd
  have hstopped {w : State} (hw : s.Reported w) {b c : Bool} {m : Msg} {k : Nat} :
      s.Reported ((w.when b fun v => v.broadcast m).when c fun v => v.devRecord 0x15 k) :=
    (hw.when fun _ hv => hv.broadcast m).when fun _ hv => hv.devRecordAt _ _ _
  exact .ite (.ite (hstopped (hdisarmed.softStopCore 3)) hdisarmed)
    (.ite (.ite (hstopped (hdisarmed.globalStopCore 3)) hdisarmed) ((hdisarmed.when fun _ hv => hv.broadcast _).freezeRecord.freezeCore 4))

theorem trigger (h : s.Reported u) (ty layer op : Nat) : s.Reported (u.trigger ty layer op) := .ite h.triggerAct h

theorem traceDev (h : s.Reported u) (ty d : Nat) : s.Reported (u.traceDev ty d) :=
  .ite (((h.trigger ty 0 0).when fun _ hv => hv.trigger _ _ _).devRecordAt _ _ _) h

/-! ## The error log -/

theorem logErr (h : s.Reported u) (e : ErrRec) : s.Reported (u.logErr e) := by
  unfold State.logErr
  extract_lets counted held recorded raised
  have hcounted : s.Reported counted := h.upd
  have hheld : s.Reported held := foldl hcounted fun _ _ hv => hv.upd
  have hrecorded : s.Reported recorded := ite hcounted hheld.upd
  have hraised : s.Reported raised := hrecorded.when fun _ hv => hv.raise 0
  exact hraised.traceDev _ _

end State.Reported

end Sys2Proof.Machine
end

section
/-! SUPPORT. A done whose TAG names no launch (R260): which records those are, and what becomes of one. -/

namespace Sys2Proof.Machine

variable {s u : State} {t : Nat} {h : HeldDone}

/-- No run of the engine has the TAG, so the done ends none. -/
theorem State.runOf_eq_none {e : Nat} (ht : h.task = none) (hr : ∀ r ∈ (Tab.getD u.engs e {}).runs, r.tag ≠ h.tag) : u.runOf e h = none := by
  have hnil : (Tab.getD u.engs e {}).runs.filter (fun r => r.tag == h.tag) = [] := by simpa using hr
  simp [State.runOf, ht, hnil]

/-- The completion path logs a done that names no launch, and does nothing else. -/
theorem State.applyDone_eq_logErr (hn : NamesNoLaunch u h) : u.applyDone h = u.logErr { cls := 0x0A, sub := 0xFF } := by
  obtain ⟨hc, hst, htrim⟩ | ⟨hc, hst, hrun⟩ | ⟨hc, ht, hrun⟩ := hn
  case inl => simp only [State.applyDone, hc, hst, if_true, htrim, Bool.false_eq_true, if_false, State.unknownDone]
  case inr.inl =>
    simp only [State.applyDone, hc, hst, if_false]
    cases hr : (nth u.cores h.peng {}).run with
    | none => rfl
    | some r => simp only [beq_eq_false_iff_ne.mpr (hrun r hr), Bool.false_eq_true, if_false, State.unknownDone]
  case inr.inr =>
    have hnone : u.runOf (engNo h.cls h.peng) h = none := State.runOf_eq_none ht hrun
    unfold State.applyDone
    split
    · contradiction
    · simp only [hnone, State.unknownDone]

/-- Outside regrowth a done is applied as it comes, unless it is that of a COMPOSE which Voxbin has already taken. -/
theorem State.engineDone_eq_applyDone (hg : u.regrowing = false) (hcomp : h.cls = .comp → h.status = 0 → u.compHas h.tag = false) :
    u.engineDone h = u.applyDone h := by
  have htaken : ¬ (h.cls == .comp && h.status = 0 && u.compHas h.tag) = true := by
    simp only [Bool.and_eq_true, beq_iff_eq, decide_eq_true_eq]
    rintro ⟨⟨hc, hst⟩, hhas⟩
    exact Bool.false_ne_true ((hcomp hc hst).symm.trans hhas)
  rw [State.engineDone, if_neg htaken, State.doneArrives, if_neg (by simp [hg])]

/-- ENGINE_DONE carries out `State.engineDone` on the state in which it finds the block. -/
theorem leaves_engineDone {c : Cls} {p tag st nx ns : Nat} {rf nl : Bool} (ha : Acts s t u) :
    Leaves (.engineDone t c p tag st rf nl nx ns) s (u.engineDone ⟨c, p, tag, st, rf, nl, nx, ns, none, 0⟩) :=
  act_acts (fun v => v.engineDone ⟨c, p, tag, st, rf, nl, nx, ns, none, 0⟩) ha

/-- Settles O51: the completion path answers such a done with an error-log record alone, and a report leaves the flight table, the
tasks and the teardowns as they were. -/
theorem unknownDoneIsDiscarded : Obligations.UnknownDoneIsDiscarded := by
  unfold Obligations.UnknownDoneIsDiscarded
  have hwork (u : State) := ((State.Reported.refl u).logErr { cls := 0x0A, sub := 0xFF }).work
  refine ⟨fun u h hn => ?_, fun s t u c p tag st rf nl nx ns hacts hg hn hcomp => ?_⟩
  · obtain ⟨hflights, htasks, htd⟩ := hwork u
    rw [State.applyDone_eq_logErr hn]
    exact ⟨hflights, htd, htasks, rfl⟩
  · obtain ⟨hflights, -, htd⟩ := hwork u
    have hlogs := (State.engineDone_eq_applyDone hg hcomp).trans (State.applyDone_eq_logErr hn)
    exact ⟨_, hlogs ▸ leaves_engineDone hacts, hflights, htd, rfl⟩

end Sys2Proof.Machine
end

section
/-! SUPPORT. The limit on the microwords of a customer routine (R444): what a guilty fault of the routine comes to, when the limit acts,
and the obligation on it. -/

namespace Sys2Proof.Machine

variable {s u : State} {t n a status : Nat} {e : Nat × Flight} {stack : Bool} {addr : Word}

/-- A fault in customer code, the call stack's included, is a guilty one of the submission on the sequencer (Table 14-8), never a machine
check. -/
theorem State.microFault_customer : u.microFault n a (some e) true stack status addr = u.guilty e.1 status none addr := by
  simp only [State.microFault, Bool.not_true, Bool.false_and, Bool.false_eq_true, if_false]

theorem State.microLimit_of_reached (hc : u.inCustomer n = true) (h : 4096 ≤ (u.seqr n).count) (hf : u.seqFlight n = some e) :
    u.microLimit n = u.guilty e.1 5 none 0 := by
  rw [State.microLimit, if_pos (by simp [hc, h]), hf, State.microFault_customer]

theorem State.microLimit_of_lt (h : (u.seqr n).count < 4096) : u.microLimit n = u := by
  rw [State.microLimit, if_neg (by simp [h])]

/-- MICROWORD_LIMIT carries out `State.microLimit` on the state in which it finds the front end. -/
theorem leaves_microwordLimit (h : Fronts s t u) : Leaves (.microwordLimit t n) s (u.microLimit n) :=
  actFront_fronts (fun v => v.microLimit n) h

/-- Settles O52: the limit is reached at 4,096 words, where the submission on the sequencer is guilty, and does nothing below. -/
theorem runawayRoutineFaults : Obligations.RunawayRoutineFaults := by
  unfold Obligations.RunawayRoutineFaults
  refine ⟨fun s t n u f hfronts hcust hcount hflight => ?_, fun s t n u hfronts _ hcount => ?_⟩
  · rw [← State.microLimit_of_reached hcust hcount.ge hflight]
    exact leaves_microwordLimit hfronts
  · have hstays : u.microLimit n = u := State.microLimit_of_lt hcount
    simpa only [hstays] using leaves_microwordLimit (n := n) hfronts

end Sys2Proof.Machine
end

section
/-! SUPPORT. Register accesses (R9, R464, R465, R467): which ports reach a window, when a write is taken, what the write and the read of
one place come to, and the obligation on the windows. -/

namespace Sys2Proof.Machine

variable {s : State} {t m n off bytes : Nat} {who : Who} {win : Window} {v : Word} {x : Reg × Nat × Nat} {rv : Option RemoteVal}

/-! ## The commands -/

/-- REGISTER_WRITE carries out `State.writeAccess` on the state in which it finds the block, whatever it does. -/
theorem leaves_registerWrite : Leaves (.registerWrite t who win off bytes v) s ((s.at t).writeAccess who win off bytes v) :=
  actAny_next s t fun u => u.writeAccess who win off bytes v

/-- RC_REGISTER_READ carries out `State.readReg` on the state in which it finds the block, whatever it does. -/
theorem leaves_rcRegisterRead : Leaves (.rcRegisterRead t who win off bytes rv) s ((s.at t).readReg who win off bytes rv) :=
  actAny_next s t fun u => u.readReg who win off bytes rv

/-! ## Reach -/

theorem State.reaches_fn_glob_iff : s.reaches (.fn m) .glob = true ↔ m = 0 := by
  simp only [State.reaches, beq_iff_eq]

theorem State.reaches_fn_own_iff : s.reaches (.fn m) (.own n) = true ↔ m = n ∧ s.fnPresent n = true := by
  simp only [State.reaches, Bool.and_eq_true, beq_iff_eq]

theorem State.mayWrite_fn_iff : s.mayWrite (.fn m) = true ↔ s.ready = true ∧ s.haltedAll = false := by
  simp [State.mayWrite]

/-- The block takes a write from a port that is within reach of the window. -/
theorem InReach.taken (h : InReach s who win) : s.reaches who win = true ∧ s.mayWrite who = true := by
  cases who with
  | mgmt =>
    cases win with
    | glob => exact ⟨rfl, h⟩
    | own n =>
      obtain ⟨hsession, hpresent⟩ := h
      exact ⟨hpresent, hsession⟩
  | fn m =>
    cases win with
    | glob =>
      obtain ⟨hzero, hruns⟩ := h
      exact ⟨State.reaches_fn_glob_iff.mpr hzero, State.mayWrite_fn_iff.mpr hruns⟩
    | own n =>
      obtain ⟨hown, hpresent, hruns⟩ := h
      exact ⟨State.reaches_fn_own_iff.mpr ⟨hown, hpresent⟩, State.mayWrite_fn_iff.mpr hruns⟩

/-! ## Accesses out of reach -/

theorem State.writeAccess_of_not_reaches (h : s.reaches who win = false) : s.writeAccess who win off bytes v = s := by
  simp [State.writeAccess, h]

theorem State.writeAccess_of_not_mayWrite (h : s.mayWrite who = false) : s.writeAccess who win off bytes v = s := by
  simp [State.writeAccess, h]

theorem State.readReg_of_not_reaches (h : s.reaches who win = false) : s.readReg who win off bytes rv = s.emit (.regData who 0) := by
  simp [State.readReg, State.readAccess, h]

/-! ## Writes within reach -/

/-- A 64-bit write at the place of a 64-bit register acts on the register. -/
theorem State.writeAccess_wide (h : InReach s who win) (hoff : off % 8 = 0) (hx : regOf win off = some x) (hw : x.1.spec.wide = true) :
    s.writeAccess who win off 8 v = (s.hostTouch who true).writeReg (byMgmt who) x.1 x.2.1 x.2.2 v := by
  obtain ⟨hreach, hwrite⟩ := h.taken
  simp [State.writeAccess, hreach, hwrite, hoff, hx, hw]

/-- A 32-bit write of a 64-bit register without split access is ignored (R9), though the access is noted. -/
theorem State.write32_wide_unsplit {k : Nat} (hx : regOf win off = some x) (hw : x.1.spec.wide = true) (hsplit : x.1.split = false) :
    s.write32 who win off k = s.hostTouch who true := by
  simp [State.write32, hx, hw, hsplit]

theorem State.writeAccess_32 (h : InReach s who win) (hoff : off % 4 = 0) :
    s.writeAccess who win off 4 v = s.write32 who win off (fld v 0 32) := by
  obtain ⟨hreach, hwrite⟩ := h.taken
  simp [State.writeAccess, hreach, hwrite, hoff]

/-! ## The windows -/

/-- Settles O53: an access out of reach is dropped before it comes to a register, and one within reach comes to the register at its
place. -/
theorem windowsAreReachedByTheirOwners : Obligations.WindowsAreReachedByTheirOwners := by
  unfold Obligations.WindowsAreReachedByTheirOwners
  refine ⟨fun s t m win off n v rv hforeign => ?_, fun s t win off n v hsession => ?_,
    fun s t who win off v x hreach hoff hx hwide => ?_, fun s t who win off v x hreach hoff hx hwide hsplit => ?_⟩
  · have hout : (s.at t).reaches (.fn m) win = false := by
      cases win with
      | glob => exact Bool.eq_false_iff.mpr fun h => hforeign (State.reaches_fn_glob_iff.mp h)
      | own k => exact Bool.eq_false_iff.mpr fun h => hforeign (State.reaches_fn_own_iff.mp h).1
    have hdropped : (s.at t).writeAccess (.fn m) win off n v = s.at t := State.writeAccess_of_not_reaches hout
    have hzero : (s.at t).readReg (.fn m) win off n rv = (s.at t).emit (.regData (.fn m) 0) := State.readReg_of_not_reaches hout
    exact ⟨hdropped ▸ leaves_registerWrite, hzero ▸ leaves_rcRegisterRead⟩
  · have hdropped : (s.at t).writeAccess .mgmt win off n v = s.at t := State.writeAccess_of_not_mayWrite hsession
    exact hdropped ▸ leaves_registerWrite
  · rw [← State.writeAccess_wide hreach hoff hx hwide]
    exact leaves_registerWrite
  · rw [← State.write32_wide_unsplit (k := fld v 0 32) hx hwide hsplit, ← State.writeAccess_32 hreach hoff]
    exact leaves_registerWrite

end Sys2Proof.Machine
end

section
/-! SUPPORT. The frames in which the commands are carried out: which frame each row of the table has, with the need that `need` gives the
row, and that what runs inside it keeps the queue, the fuses, what has left the ports and the free values. -/

namespace Sys2Proof.Machine

/-- An operation keeps what `Kept` says of the state before it. -/
def Keeps (f : State → State) : Prop := ∀ ⦃r v : State⦄, Kept r v → Kept r (f v)

/-- Command `c` is carried out in state `s` in the frame that its need calls for, with outcome `o`. -/
inductive Framed (c : Instr) (s : State) : Need → Out → Prop
  | front {t : Nat} {f : State → State} (h : Keeps f) : Framed c s .front (actFront s t f)
  | act {t : Nat} {f : State → State} (h : Keeps f) : Framed c s .alive (act s t f)
  | device {t : Nat} {f : State → State} (h : Keeps f) : Framed c s .device (actDev s t f)
  | link {t : Nat} {f : State → State} (h : Keeps f) : Framed c s .device (actLink s t f)
  | any {t : Nat} {f : State → State} (h : Keeps f) : Framed c s .none (actAny s t f)
  | micro {t n : Nat} {rom : BitVec 136} {i : MicroIn} {p : BitVec 128 → Bool} (h : runsMicroword c = true) :
    Framed c s .front (microStep s t n rom i p)
  | cold {t : Nat} {f : Fuses} {mem : BitVec 8} {ok : Bool} {l : List (Nat × Nat)} {host : Bool} (h : isColdReset c = true) :
    Framed c s .none (execColdReset t f mem ok l host s)

namespace Framed

variable {c : Instr} {s : State} {t : Nat} {who : Who}

theorem regWr {win : Window} {f : State → State} (h : Keeps f) : Framed c s .none (regWr s t who win f) :=
  .any fun _ _ hv => .ite (h (State.hostTouch_kept hv who true)) hv

theorem mgmtWr {f : State → State} (h : Keeps f) : Framed c s .none (mgmtWr s t who f) :=
  .regWr fun _ _ hv => .ite (h hv) hv

theorem regRd {win : Window} {r : Reg} {f : State → Word × State} (h : ∀ ⦃r v : State⦄, Kept r v → Kept r (f v).2) :
    Framed c s .none (regRd s t who win r f) :=
  .any fun _ _ hv => .ite (State.emit_kept hv _)
    (.ite (State.emit_kept hv _) (State.emit_kept (h (State.hostTouch_kept hv who false)) _))

theorem bell {fn slot bytes : Nat} {v : Word} : Framed c s .none (bellAccess t fn slot bytes v s) := by
  unfold bellAccess
  split
  · exact .regWr fun _ _ hv => State.ringBell_kept hv ..
  · exact .any fun _ _ hv => hv

end Framed

/-- The frame of every row. -/
theorem exec_framed (c : Instr) (s : State) : Framed c s (need c) (exec c s) := by
  cases c <;> dsimp only [exec, need]
  case registerWrite => exact .any fun _ _ h => State.writeAccess_kept h ..
  case clockLost => exact .any fun _ _ h => State.clockLost_kept h ..
  case hostLoss => exact .any fun _ _ h => State.hostLost_kept h ..
  case hostLinkReturn => exact .any fun _ _ h => State.hostReturn_kept h ..
  case hostReadCompletion => exact .act fun _ _ h => State.hostRead_kept h ..
  case completionTimeout => exact .act fun _ _ h => State.hostError_kept h ..
  case memoryWriteAck => exact .act fun _ _ h => State.writeAck_kept h ..
  case memoryReadData => exact .act fun _ _ h => State.memRead_kept h ..
  case launchAck => exact .act fun _ _ h => State.launchAck_kept h ..
  case ctlAck => exact .act fun _ _ h => State.ctlAnswer_kept h ..
  case engineDone => exact .act fun _ _ h => State.engineDone_kept h ..
  case i3cEntdaa => exact .any fun _ _ h => State.entdaa_kept h ..
  case i3cSetdasa => exact .any fun _ _ h => State.setdasa_kept h ..
  case i3cRstact => exact .any fun _ _ h => State.setRstact_kept h ..
  case i3cTargetReset => exact .any fun _ _ h => State.targetReset_kept h
  case mgmtVendorRequest => exact .any fun _ _ h => State.vendorRequest_kept h ..
  case sagLineRise => exact .act fun _ _ h => State.sagRise_kept h ..
  case stretchRelease => exact .act fun _ _ h => State.stretchDrop_kept h ..
  case meterSample => exact .act fun _ _ h => .ite (State.coreSample_kept h ..) (.ite (State.uncoreSample_kept h ..) h)
  case thermalEvaluation => exact .device fun _ _ h => State.thermal_kept h ..
  case priceUpdate => exact .act fun _ _ h => State.priceUpdate_kept h
  case vfChangeComplete => exact .act fun _ _ h => State.vfDone_kept h ..
  case coldReset => exact .cold rfl
  case plinthReadComplete => exact .any fun _ _ h => State.plinthRead_kept h ..
  case warmReset => exact .any fun _ _ h => State.warmReset_kept h ..
  case hostReset => exact .any fun _ _ h => State.hostReset_kept h
  case debugPortReset => exact .any fun _ _ h => State.debugReset_kept h
  case dinEdge => exact .any fun _ _ h => State.dinEdge_kept h ..
  case dinStuck => exact .act fun _ _ h => State.dinStuck_kept h ..
  case dinPendClear => exact .regWr fun _ _ h => State.dinPendClear_kept h ..
  case dinUnquench => exact .regWr fun _ _ h => State.dinUnquench_kept h ..
  case extest => exact .any fun _ _ h => State.selectIr_kept h ..
  case sample => exact .any fun _ _ h => State.selectIr_kept h ..
  case preload => exact .any fun _ _ h => State.selectIr_kept h ..
  case idcode => exact .any fun _ _ h => State.selectIr_kept h ..
  case bypass => exact .any fun _ _ h => State.selectIr_kept h ..
  case vxbStop => exact .any fun _ _ h => State.vxbStop_kept h
  case vxbScan => exact .any fun _ _ h => State.vxbScan_kept h
  case sqDoorbell => exact .bell
  case urgentDoorbell => exact .bell
  case urgentVisit => exact .front fun _ _ h => State.urgentVisit_kept h
  case scheduledVisit => exact .front fun _ _ h => State.scheduledVisit_kept h
  case shortSqVisit => exact .front fun _ _ h => State.shortVisit_kept h
  case entryFetchData => exact .act fun _ _ h => State.readOk_kept h ..
  case flightEntryGrant => exact .front fun _ _ h => State.grantFlight_kept h
  case consumerIndexWrite => exact .regWr fun _ _ h => State.writeCi_kept h ..
  case adminDoorbell => exact .regWr fun _ _ h => State.adminDoorbell_kept h ..
  case adminResume => exact .regWr fun _ _ h => State.adminResume_kept h ..
  case adminNop => exact .front fun _ _ h => State.runAdm_kept h _ _ _ fun _ _ h => State.doNop_kept h ..
  case createSq => exact .front fun _ _ h => State.runAdm_kept h _ _ _ fun _ _ h => State.doCreateSq_kept h ..
  case destroySq => exact .front fun _ _ h => State.runAdm_kept h _ _ _ fun _ _ h => State.doDestroySq_kept h ..
  case createCr => exact .front fun _ _ h => State.runAdm_kept h _ _ _ fun _ _ h => State.doCreateCr_kept h ..
  case destroyCr => exact .front fun _ _ h => State.runAdm_kept h _ _ _ fun _ _ h => State.doDestroyCr_kept h ..
  case createContext => exact .front fun _ _ h => State.runAdm_kept h _ _ _ fun _ _ h => State.doCreateCtx_kept h ..
  case destroyContext => exact .front fun _ _ h => State.runAdm_kept h _ _ _ fun _ _ h => State.doDestroyCtx_kept h ..
  case setShare => exact .front fun _ _ h => State.runAdm_kept h _ _ _ fun _ _ h => State.doSetShare_kept h ..
  case bindEvents => exact .front fun _ _ h => State.runAdm_kept h _ _ _ fun _ _ h => .ite (h) (State.doBind_kept h ..)
  case unbindEvents => exact .front fun _ _ h => State.runAdm_kept h _ _ _ fun _ _ h => .ite (State.doBind_kept h ..) (h)
  case query => exact .front fun _ _ h => State.runAdm_kept h _ _ _ fun _ _ h => State.doQuery_kept h ..
  case setCyclic src _ _ =>
    cases src <;> dsimp only [execSetCyclic]
    case queue => exact .front fun _ _ h => State.runAdm_kept h _ _ _ fun _ _ h => State.doSetCyclic_kept h ..
    case mgmt => exact .act fun _ _ h => State.mgmtCyclic_kept h ..
  case resumeCr => exact .front fun _ _ h => State.runAdm_kept h _ _ _ fun _ _ h => State.doResumeCr_kept h ..
  case submissionRetire => exact .act fun _ _ h => State.retire_kept h ..
  case nop => exact .front fun _ _ h => State.runCmd_kept h _ _ _ fun _ _ _ h => State.pass_kept (State.traceSync_kept h ..) ..
  case dispatch => exact .front fun _ _ h => State.runCmd_kept h _ _ _ fun _ _ _ h => State.cmdDispatch_kept h ..
  case bin => exact .front fun _ _ h => State.runCmd_kept h _ _ _ fun _ _ _ h => State.engCmd_kept h ..
  case render => exact .front fun _ _ h => State.runCmd_kept h _ _ _ fun _ _ _ h => State.cmdRender_kept h ..
  case copy => exact .front fun _ _ h => State.runCmd_kept h _ _ _ fun _ _ _ h => State.engCmd_kept h ..
  case fill => exact .front fun _ _ h => State.runCmd_kept h _ _ _ fun _ _ _ h => State.engCmd_kept h ..
  case compose => exact .front fun _ _ h => State.runCmd_kept h _ _ _ fun _ _ _ h => State.engCmd_kept h ..
  case loadWeights => exact .front fun _ _ h => State.runCmd_kept h _ _ _ fun _ _ _ h => State.engCmd_kept h ..
  case linkPut => exact .front fun _ _ h => State.runCmd_kept h _ _ _ fun _ _ _ h => State.engCmd_kept h ..
  case linkGet => exact .front fun _ _ h => State.runCmd_kept h _ _ _ fun _ _ _ h => State.engCmd_kept h ..
  case record => exact .front fun _ _ h => State.runCmd_kept h _ _ _ fun _ _ _ h => State.readingEvent_kept h _ _ fun _ h => State.cmdRecord_kept h ..
  case wait => exact .front fun _ _ h => State.runCmd_kept h _ _ _ fun _ _ _ h => State.readingEvent_kept h _ _ fun _ h => State.cmdWait_kept h ..
  case semAcquire => exact .front fun _ _ h => State.runCmd_kept h _ _ _ fun _ _ _ h => State.readingSem_kept h _ _ _ fun _ h => State.cmdSemAcquire_kept h ..
  case semRelease => exact .front fun _ _ h => State.runCmd_kept h _ _ _ fun _ _ _ h => State.readingSem_kept h _ _ _ fun _ h => State.cmdSemRelease_kept h ..
  case fence => exact .front fun _ _ h => State.runCmd_kept h _ _ _ fun _ _ _ h => State.pass_kept (State.traceSync_kept h ..) ..
  case setScalar => exact .front fun _ _ h => State.runCmd_kept h _ _ _ fun _ _ _ h => State.cmdSetScalar_kept h ..
  case addScalar => exact .front fun _ _ h => State.runCmd_kept h _ _ _ fun _ _ _ h => State.cmdAddScalar_kept h ..
  case compare => exact .front fun _ _ h => State.runCmd_kept h _ _ _ fun _ _ _ h => State.cmdCompare_kept h ..
  case skipIf => exact .front fun _ _ h => State.runCmd_kept h _ _ _ fun _ _ _ h => State.cmdSkipIf_kept h ..
  case repeatCmd => exact .front fun _ _ h => State.runCmd_kept h _ _ _ fun _ _ _ h => State.cmdRepeat_kept h ..
  case endRepeat => exact .front fun _ _ h => State.runCmd_kept h _ _ _ fun _ _ _ h => State.cmdEndRepeat_kept h ..
  case call => exact .front fun _ _ h => State.runCmd_kept h _ _ _ fun _ _ _ h => State.cmdCall_kept h ..
  case setAreg => exact .front fun _ _ h => State.runCmd_kept h _ _ _ fun _ _ _ h => State.cmdSetAreg_kept h ..
  case timestamp => exact .front fun _ _ h => State.runCmd_kept h _ _ _ fun _ _ _ h => State.cmdTimestamp_kept h ..
  case watch => exact .front fun _ _ h => State.runCmd_kept h _ _ _ fun _ _ _ h => State.cmdWatch_kept h ..
  case mark => exact .front fun _ _ h => State.runCmd_kept h _ _ _ fun _ _ _ h => State.cmdMark_kept h ..
  case preloadHint => exact .front fun _ _ h => State.runCmd_kept h _ _ _ fun _ _ _ h => State.cmdHint_kept h ..
  case layerChain => exact .front fun _ _ h => State.romCall_kept h _ _ _ fun _ _ => State.romList_kept h ..
  case tileWalk => exact .front fun _ _ h => State.romCall_kept h _ _ _ fun _ _ => State.tileWalk_kept h ..
  case copy2d => exact .front fun _ _ h => State.romCall_kept h _ _ _ fun _ _ => State.startRom_kept h ..
  case copy3d => exact .front fun _ _ h => State.romCall_kept h _ _ _ fun _ _ => State.startRom_kept h ..
  case copyList => exact .front fun _ _ h => State.romCall_kept h _ _ _ fun _ _ => State.romList_kept h ..
  case fill2d => exact .front fun _ _ h => State.romCall_kept h _ _ _ fun _ _ => State.startRom_kept h ..
  case waitAll => exact .front fun _ _ h => State.romCall_kept h _ _ _ fun _ _ => State.romList_kept h ..
  case recordList => exact .front fun _ _ h => State.romCall_kept h _ _ _ fun _ _ => State.romList_kept h ..
  case bandSplit => exact .front fun _ _ h => State.romCall_kept h _ _ _ fun _ _ => State.startRom_kept h ..
  case haloPut => exact .front fun _ _ h => State.romCall_kept h _ _ _ fun _ _ => State.startRom_kept h ..
  case frameIndex => exact .front fun _ _ h => State.romCall_kept h _ _ _ fun _ _ => State.readingEvent_kept h _ _ fun _ h => State.frameIndex_kept h ..
  case bufferBlockRead => exact .act fun _ _ h => State.readOk_kept h ..
  case sequencerYield => exact .front fun _ _ h => State.seqYield_kept h ..
  case waitTimeoutExpiry => exact .act fun _ _ h => .ite (h) (State.waitTimeout_kept h ..)
  case watchResult => exact .act fun _ _ h => State.watchResult_kept h ..
  case evFnRecordWrite => exact .regWr fun _ _ h => State.readingEvent_kept h _ _ fun _ h => State.fnRecord_kept h ..
  case evFnValueRead => exact .regRd fun _ _ h => State.afterRead_kept h .EV_FN_VALUE _ 0 _
  case semCfgWrite => exact .regWr fun _ _ h => State.semCfgWrite_kept h ..
  case proxyRetry => exact .act fun _ _ h => State.proxyRetry_kept h ..
  case sequencerPick => exact .front fun _ _ h => State.pickSeq_kept h ..
  case enginePick => exact .front fun _ _ h => State.engPick_kept h ..
  case coresPick => exact .front fun _ _ h => State.corePick_kept h ..
  case gatherTimeout => exact .front fun _ _ h => State.gatherEnd_kept h ..
  case launch => exact .front fun _ _ h => State.launchNext_kept h
  case remainderStreamEnd => exact .act fun _ _ h => State.remainderEnd_kept h ..
  case periodStart => exact .act fun _ _ h => State.fixedStart_kept h
  case vsyncFreeRun => exact .act fun _ _ h => State.vsyncFreeRun_kept h
  case slotPreload => exact .front fun _ _ h => State.slotPreload_kept h ..
  case slotClockRaise => exact .act fun _ _ h => State.slotClockRaise_kept h ..
  case slotStart => exact .act fun _ _ h => State.slotStart_kept h ..
  case slotDeadline => exact .act fun _ _ h => State.slotDeadline_kept h ..
  case cycEnWrite => exact .regWr fun _ _ h => State.setCycEn_kept h ..
  case inheritanceDetect => exact .act fun _ _ h => State.inheritDetect_kept h ..
  case govCapMgmtWrite => exact .mgmtWr fun _ _ h => State.writeCapMgmt_kept h ..
  case govCapF0Write => exact .regWr fun _ _ h => State.writeCapF0_kept h ..
  case priceTabCommit => exact .mgmtWr fun _ _ h => State.priceCommit_kept h
  case priceTabRestore => exact .mgmtWr fun _ _ h => State.priceRestore_kept h
  case learnClear => exact .regWr fun _ _ h => State.learnClear_kept h
  case tlimitWrite => exact .regWr fun _ _ h => State.writeTlimit_kept h ..
  case sagEnWrite => exact .mgmtWr fun _ _ h => State.writeSag_kept h ..
  case profileWrite => exact .regWr fun _ _ h => State.writeProfile_kept h ..
  case idleGapStart => exact .act fun _ _ h => State.idleStart_kept h
  case rungEntryComplete => exact .act fun _ _ h => State.rungEntered_kept h
  case rungExitComplete => exact .act fun _ _ h => State.rungExited_kept h
  case ladderExitScheduled => exact .act fun _ _ h => State.ladderExit_kept h
  case watchdogExpiry => exact .act fun _ _ h => State.watchdog_kept h ..
  case drainLimitExpiry => exact .act fun _ _ h => State.drainExpire_kept h ..
  case teardownEntryGrant => exact .act fun _ _ h => State.grantTd_kept h
  case regrowthResume => exact .act fun _ _ h => State.regrowResume_kept h ..
  case errPrimaryRelease => exact .regWr fun _ _ h => State.releasePrimary_kept h
  case injectParity => exact .mgmtWr fun _ _ h => .ite (State.injectParity_kept h ..) (h)
  case injectUncorrectable => exact .mgmtWr fun _ _ h => .ite (State.injectBad_kept h ..) (h)
  case injectCorrectable => exact .mgmtWr fun _ _ h => .ite (State.injectFix_kept h ..) (h)
  case vfCountChange => exact .device fun _ _ h => State.setVfCount_kept h ..
  case fnAssignWrite => exact .regWr fun _ _ h => State.writeFnCfg_kept h ..
  case fnCfgReset => exact .regWr fun _ _ h => State.fnCfgReset_kept h ..
  case fnCtlFlr => exact .regWr fun _ _ h => State.startFlr_kept h ..
  case pcieFlr => exact .device fun _ _ h => .ite (State.startFlr_kept h ..) (h)
  case cipherFlushComplete => exact .act fun _ _ h => State.flushDone_kept h ..
  case coreMove => exact .mgmtWr fun _ _ h => State.partMove_kept h ..
  case wayMove => exact .mgmtWr fun _ _ h => State.partMove_kept h ..
  case channelMove => exact .mgmtWr fun _ _ h => State.partMove_kept h ..
  case tenantRemoval => exact .mgmtWr fun _ _ h => State.tenantRemoval_kept h ..
  case keygenComplete => exact .device fun _ _ h => State.keygenDone_kept h
  case entropyHealthFail => exact .device fun _ _ h => State.healthFail_kept h
  case entropyRetry => exact .device fun _ _ h => State.entropyRetry_kept h ..
  case pageRelease => exact .regWr fun _ _ h => State.pageRelease_kept h ..
  case pageReleaseComplete => exact .act fun _ _ h => State.pageReleased_kept h ..
  case mboxGo => exact .regWr fun _ _ h => State.mboxGo_kept h ..
  case mboxResponse => exact .act fun _ _ h => State.mboxResponse_kept h ..
  case getVersion => exact .any fun _ _ h => State.spdm_kept h _ _ _ fun _ h => State.spdmVersion_kept h
  case getCapabilities => exact .any fun _ _ h => State.spdm_kept h _ _ _ fun _ h => State.spdmCaps_kept h
  case negotiateAlgorithms => exact .any fun _ _ h => State.spdm_kept h _ _ _ fun _ h => State.spdmAlgs_kept h
  case getDigests => exact .any fun _ _ h => State.spdm_kept h _ _ _ fun _ h => State.spdmDigests_kept h
  case getCertificate => exact .any fun _ _ h => State.spdm_kept h _ _ _ fun _ h => State.spdmCert_kept h
  case challenge => exact .any fun _ _ h => State.spdm_kept h _ _ _ fun _ h => State.spdmChallenge_kept h ..
  case getMeasurements => exact .any fun _ _ h => State.spdm_kept h _ _ _ fun _ h => State.spdmMeasure_kept h ..
  case keyExchange => exact .any fun _ _ h => State.spdm_kept h _ _ _ fun _ h => State.spdmKeyExchange_kept h ..
  case finish => exact .any fun _ _ h => State.spdm_kept h _ _ _ fun _ h => State.spdmFinish_kept h ..
  case endSession => exact .any fun _ _ h => State.spdm_kept h _ _ _ fun _ h => State.sessionEnd_kept h ..
  case getWrapKey => exact .any fun _ _ h => State.spdmThen_kept h _ _ _ fun _ h => State.spdmWrap_kept h ..
  case deliverKey => exact .any fun _ _ h => State.spdm_kept h _ _ _ fun _ h => State.spdmDeliver_kept h ..
  case blobKeyFree => exact .regWr fun _ _ h => State.keyFree_kept h ..
  case zeroiseSlot => exact .mgmtWr fun _ _ h => State.zeroiseOne_kept h ..
  case zeroiseAllBlob => exact .mgmtWr fun _ _ h => State.zeroiseAll_kept h
  case linkRekey => exact .mgmtWr fun _ _ h => State.linkRekey_kept h ..
  case txCounterRekey => exact .link fun _ _ h => State.counterRekey_kept h ..
  case linkHello => exact .link fun _ _ h => State.linkHello_kept h ..
  case linkProof => exact .link fun _ _ h => State.linkProof_kept h ..
  case keySwitch => exact .link fun _ _ h => State.keySwitch_kept h ..
  case epochSwitchTimeout => exact .link fun _ _ h => State.epochTimeout_kept h ..
  case authLockoutExpiry => exact .any fun _ _ h => State.lockoutEnd_kept h
  case portLanesUp => exact .link fun _ _ h => State.lanesUp_kept h ..
  case train => exact .link fun _ _ h => State.train_kept h ..
  case lanesFall => exact .link fun _ _ h => State.lanesFall_kept h ..
  case lanesLostTimeout => exact .link fun _ _ h => State.lanesLost_kept h ..
  case linkFrameReceive => exact .link fun _ _ h => State.frameIn_kept h ..
  case frameReplayTimeout => exact .link fun _ _ h => State.replayTimeout_kept h ..
  case idleFrameTick => exact .link fun _ _ h => State.localFrame_kept h ..
  case segmentReceive => exact .act fun _ _ h => State.segmentIn_kept h ..
  case segmentResendTimeout => exact .act fun _ _ h => State.segResend_kept h ..
  case recordMessage => exact .act fun _ _ h => State.readingEvent_kept h _ _ fun _ h => State.msgRecord_kept h ..
  case waitReg => exact .act fun _ _ h => State.readingEvent_kept h _ _ fun _ h => State.msgWaitReg_kept h ..
  case release => exact .act fun _ _ h => State.msgRelease_kept h ..
  case waitDrop => exact .act fun _ _ h => State.msgWaitDrop_kept h ..
  case semAcq => exact .act fun _ _ h => State.reading_kept h _ _ _ fun _ h => State.msgSemAcq_kept h ..
  case semGrant => exact .act fun _ _ h => State.msgSemGrant_kept h ..
  case semRel => exact .act fun _ _ h => State.reading_kept h _ _ _ fun _ h => State.msgSemRel_kept h ..
  case refuse => exact .act fun _ _ h => State.msgRefuse_kept h ..
  case ack => exact .act fun _ _ h => State.msgAck_kept h ..
  case openTransfer => exact .act fun _ _ h => State.msgOpen_kept h ..
  case report => exact .act fun _ _ h => State.msgReport_kept h ..
  case squash => exact .act fun _ _ h => State.msgSquash_kept h ..
  case squashAck => exact .act fun _ _ h => State.msgSquashAck_kept h ..
  case credit => exact .act fun _ _ h => State.msgCredit_kept h ..
  case heartbeat => exact .link fun _ _ h => State.msgHeartbeat_kept h ..
  case lost => exact .link fun _ _ h => State.msgLost_kept h ..
  case lead => exact .link fun _ _ h => State.msgLead_kept h ..
  case joinReq => exact .link fun _ _ h => State.msgJoinReq_kept h ..
  case joinGrant => exact .link fun _ _ h => State.msgJoinGrant_kept h ..
  case epoch => exact .link fun _ _ h => State.msgEpoch_kept h ..
  case atMessage => exact .link fun _ _ h => State.msgAt_kept h ..
  case leaveMessage => exact .link fun _ _ h => State.msgLeave_kept h ..
  case key => exact .link fun _ _ h => State.msgKey_kept h ..
  case nodeKex => exact .link fun _ _ h => State.msgNodeKex_kept h ..
  case timeExchangeTick => exact .link fun _ _ h => State.localFrame_kept h ..
  case timeFrame => exact .link fun _ _ h => State.timeFrame_kept h ..
  case heartbeatTick => exact .link fun _ _ h => State.heartbeat_kept h
  case leadLossTimeout => exact .link fun _ _ h => State.leadTimeout_kept h
  case settleWindowEnd => exact .link fun _ _ h => State.settleEnd_kept h
  case epochTick => exact .link fun _ _ h => State.epochTick_kept h
  case epochExtrapolate => exact .link fun _ _ h => State.epochGuess_kept h
  case atTimeReached => exact .link fun _ _ h => State.atReached_kept h
  case plannedLeave => exact .mgmtWr fun _ _ h => State.plannedLeave_kept h
  case rejoin => exact .mgmtWr fun _ _ h => State.rejoin_kept h
  case irqClaim => exact .regRd fun _ _ h => State.claim_kept h ..
  case irqEoi => exact .regWr fun _ _ h => State.eoi_kept h ..
  case irqLineMaskWrite => exact .regWr fun _ _ h => State.writeLineMask_kept h ..
  case irqMapWrite => exact .regWr fun _ _ h => State.writeMap_kept h ..
  case irqUnquench => exact .regWr fun _ _ h => State.writeQuench_kept h ..
  case stormWindow => exact .device fun _ _ h => State.stormWindow_kept h
  case freezeGo => exact .regWr fun _ _ h => State.freeze_kept h ..
  case counterClear => exact .regWr fun _ _ h => State.clearCounters_kept h
  case freezeUnlock => exact .regWr fun _ _ h => State.setB_kept h ..
  case freezeArm => exact .regWr fun _ _ h => State.freezeArm_kept h ..
  case freezeTimeReached => exact .device fun _ _ h => State.freezeDue_kept h
  case traceCapWindow => exact .device fun _ _ h => Kept.upd_iff.mpr h
  case globalStop => exact .mgmtWr fun _ _ h => State.globalStop_kept h ..
  case softStop => exact .mgmtWr fun _ _ h => State.softStop_kept h ..
  case softStopResume => exact .mgmtWr fun _ _ h => State.resume_kept h ..
  case scanOutComplete => exact .any fun _ _ h => State.scanDone_kept h ..
  case hangGraphRequest => exact .regWr fun _ _ h => State.snapshot_kept h ..
  case hangGraphBuilt => exact .act fun _ _ h => State.graphBuilt_kept h ..
  case hangBufferRelease => exact .regWr fun _ _ h => State.setB_kept h ..
  case pcfgWrite => exact .regWr fun _ _ h => State.writePcfg_kept h ..
  case microword => exact .micro rfl
  case microCall => exact .micro rfl
  case microRet => exact .micro rfl
  case microEnd => exact .micro rfl
  case microFault => exact .micro rfl
  case microwordLimit => exact .front fun _ _ h => State.microLimit_kept h ..
  case issue => exact .micro rfl
  case mrd => exact .micro rfl
  case evrd => exact .micro rfl
  case timeChannel => exact .micro rfl
  case markChannel => exact .micro rfl
  case probe => exact .micro rfl
  case loadBegin => exact .any fun _ _ h => State.inMgmt_kept h _ fun _ h => State.loadBegin_kept h ..
  case loadData => exact .any fun _ _ h => State.inMgmt_kept h _ fun _ h => State.loadData_kept h ..
  case loadCommit => exact .any fun _ _ h => State.inMgmt_kept h _ fun _ h => State.loadCommit_kept h ..
  case loadPauseReached => exact .act fun _ _ h => State.loadPause_kept h
  case loadAbort => exact .any fun _ _ h => State.inMgmt_kept h _ fun _ h => State.loadAbort_kept h
  case clockReturn => exact .any fun _ _ h => State.clockReturn_kept h ..
  case sagLineFall => exact .act fun _ _ h => State.sagFall_kept h ..
  case shadowBankWriteAck => exact .act fun _ _ h => State.mqAck_kept h ..
  case epochStart => exact .link fun _ _ h => State.epochStart_kept h
  case leaveTransferLimit => exact .link fun _ _ h => State.leaveLimit_kept h
  case rcRegisterRead => exact .any fun _ _ h => State.readReg_kept h ..
  case hdrDdrEntry => exact .any fun _ _ h => State.hdrDdr_kept h
  case spdmKeyUpdate => exact .any fun _ _ h => State.spdm_kept h _ _ _ fun _ h => State.spdmKeyUpdate_kept h ..
  case msiXMaskWrite => exact .device fun _ _ h => State.writeMsix_kept h ..

end Sys2Proof.Machine
end

section
/-! SUPPORT. The machine as a whole: what the frames say of every command and every step, and the obligations on them. -/

namespace Sys2Proof.Machine

variable {c : Instr} {s u : State} {n : Need} {o : Out}

/-! ## Commands that run, and commands that do nothing -/

/-- A command answers a next state in every frame, unless its microword is refused. -/
theorem Framed.answers (h : Framed c s n o) : (∃ u, o = .next u) ∨ (runsMicroword c = true ∧ o = .refused .romPrivate) := by
  cases h with
  | front => unfold actFront; split <;> exact .inl ⟨_, rfl⟩
  | act => unfold Machine.act; split <;> exact .inl ⟨_, rfl⟩
  | device => unfold actDev; split <;> exact .inl ⟨_, rfl⟩
  | link => unfold actLink; split <;> exact .inl ⟨_, rfl⟩
  | any => exact .inl ⟨_, rfl⟩
  | cold => exact .inl ⟨_, rfl⟩
  | micro hc =>
    unfold microStep
    split
    · exact .inl ⟨_, rfl⟩
    · dsimp only
      split
      · exact .inl ⟨_, rfl⟩
      · split
        · exact .inr ⟨hc, rfl⟩
        · exact .inl ⟨_, rfl⟩

/-- Settles O56: every row has a frame, and each frame answers. -/
theorem commandsAlwaysRun : Obligations.CommandsAlwaysRun :=
  fun c s => (exec_framed c s).answers

/-- A frame whose need is not met leaves the state as it is. -/
theorem Framed.idle (h : Framed c s n o) (hn : n.met s = false) : o = .next s := by
  cases h with
  | front => exact actFront_idle _ hn
  | act => exact act_idle _ hn
  | device => simp only [Need.met] at hn; simp only [actDev, hn, Bool.false_eq_true, if_false]
  | link => simp only [Need.met] at hn; simp only [actLink, hn, Bool.false_eq_true, if_false]
  | any => exact nomatch hn
  | cold => exact nomatch hn
  | micro => simp only [Need.met] at hn; simp only [microStep, hn, Bool.not_false, if_true]

theorem Need.runs_of_met (hn : n ≠ .none) (h : n.met s = true) : s.ready = true ∧ s.haltedAll = false := by
  cases n <;> simp_all [Need.met, State.takesWork, State.frontRuns, State.alive]

theorem Need.alive_of_met (h : Need.met .alive s = true) : s.gstopped = false := by
  simp_all [Need.met, State.alive]

theorem Need.front_of_met (h : Need.met .front s = true) : s.gstopped = false ∧ s.sstopped = false ∧ s.regrowing = false := by
  simp_all [Need.met, State.takesWork, State.frontRuns]

/-- Settles O57: the need of a command is that of its frame, and each halt leaves the needs that it names unmet. -/
theorem unmetNeedsLeaveTheState : Obligations.UnmetNeedsLeaveTheState := by
  have hidle (c : Instr) (s : State) (h : (need c).met s ≠ true) : Idle c s := (exec_framed c s).idle (Bool.eq_false_iff.mpr h)
  refine ⟨fun c s h => hidle c s (Bool.eq_false_iff.mp h), fun c s hn hr => hidle c s fun h => ?_,
    fun c s hn hh => hidle c s fun h => ?_, fun c s hn hg => hidle c s fun h => ?_, fun c s hn hs => hidle c s fun h => ?_⟩
  · exact Bool.false_ne_true (hr.symm.trans (Need.runs_of_met hn h).1)
  · exact Bool.false_ne_true ((Need.runs_of_met hn h).2.symm.trans hh)
  · exact Bool.false_ne_true ((Need.alive_of_met (hn ▸ h)).symm.trans hg)
  · obtain ⟨hgstop, hsstop, hregrow⟩ := Need.front_of_met (hn ▸ h)
    simp [hgstop, hsstop, hregrow] at hs

/-! ## Steps -/

/-- State `u` follows `s` by one command: the queue stays, what has left the ports has left them, no free value is used again, and the
fuses stay unless the command is a cold reset. -/
structure Followed (c : Instr) (s u : State) : Prop where
  pending : u.pending = s.pending
  out : s.out <+: u.out
  fresh : s.fresh ≤ u.fresh
  fuses : isColdReset c = false → u.start.fuses = s.start.fuses

theorem Kept.followed (h : Kept s u) : Followed c s u := ⟨h.pending, h.out, h.fresh, fun _ => h.fuses⟩

/-- Whatever its frame, a command is followed by a state that keeps what `Followed` says. -/
theorem Framed.followed (h : Framed c s n o) (ho : o = .next u) : Followed c s u := by
  cases h with
  | front hf => exact (actFront_kept (fun _ hv => hf hv) ho).followed
  | act hf => exact (act_kept (fun _ hv => hf hv) ho).followed
  | device hf => exact (actDev_kept (fun _ hv => hf hv) ho).followed
  | link hf => exact (actLink_kept (fun _ hv => hf hv) ho).followed
  | any hf => exact (actAny_kept (hf (State.at_kept (.refl s) _)) ho).followed
  | micro => exact (microStep_kept ho).followed
  | cold hc =>
    injection ho with hu
    subst hu
    split
    · have hk (t f mem ok l host) := State.coldReset_kept (.refl s) t f mem ok l host
      exact ⟨(hk ..).pending, (hk ..).out, (hk ..).fresh, fun hn => absurd hc (by simp [hn])⟩
    · exact (Kept.refl s).followed

/-- Settles O54. -/
theorem stepTakesFront : Obligations.StepTakesFront :=
  ⟨fun s c r h => by simp only [step, h], fun s h => by simp only [step, h]⟩

theorem Since.refl (s : State) : Since s s := ⟨List.prefix_rfl, Nat.le_refl _, [], rfl, fun _ => rfl⟩

/-- The command at the front is taken: a state that comes after `r` is followed by one that comes after `r`. -/
theorem Since.taken_front {r t : State} {q : List Instr} (h : Since r s) (hq : s.pending = c :: q)
    (hf : Followed c { s with pending := q } t) : Since r t := by
  obtain ⟨l, hl, hfuses⟩ := h.taken
  refine ⟨h.out.trans hf.out, h.fresh.trans hf.fresh, l ++ [c], ?_, fun hcold => ?_⟩
  · simp [hl, hq, hf.pending]
  · simp only [List.all_append, List.all_cons, List.all_nil, Bool.and_true, Bool.and_eq_true, Bool.not_eq_true'] at hcold
    exact (hf.fuses hcold.2).trans (hfuses hcold.1)

/-- Settles O59: a step takes the command at the front, and every command, whatever its frame, is followed as `Since` asks. -/
theorem stepsComeAfter : Obligations.StepsComeAfter := by
  intro r s t hsince hstep
  unfold step at hstep
  split at hstep
  · injection hstep with ht
    exact ht ▸ hsince
  · next c q hq => exact hsince.taken_front hq ((exec_framed c _).followed hstep)

/-- Settles O55. -/
theorem resetLeavesTheBlockCold : Obligations.ResetLeavesTheBlockCold :=
  ⟨rfl, rfl, rfl, by decide, by decide, by decide, by decide, by decide, rfl, rfl, rfl, rfl, rfl, rfl, rfl, fun _ _ _ => rfl, Since.refl _⟩

/-! ## The double-fault halt -/

/-- A block in the double-fault halt that has still to write the record of a freeze. -/
def haltedFrozen : State :=
  { (State.reset.setB .VXB_START_STAT 0 0 3 true).setB .ERR_STAT 0 0 2 true with obs := { freezeRec := some 0 } }

/-- Refutes O58: in the halt the record of a freeze is still due, and the end of any command takes it, a host write that is ignored
included. -/
theorem not_haltShutsTheHostOut : ¬ Obligations.HaltShutsTheHostOut := by
  intro h
  have hw : exec (.freezeGo 0 (.fn 0)) haltedFrozen = .next (haltedFrozen.at 0) := h.1 _ _ 0 0 rfl (by decide)
  have hrec : (haltedFrozen.at 0).polls.obs.freezeRec = none := by decide
  have hstays : exec (.freezeGo 0 (.fn 0)) haltedFrozen = .next (haltedFrozen.at 0).polls := by rfl
  injection hstays.symm.trans hw with he
  rw [he] at hrec
  exact absurd hrec (by decide)

end Sys2Proof.Machine
end

section
/-! SUPPORT. From a command to its statement: a command in its frame leaves what the operation inside the frame gives on the state in
which it finds the block. -/

namespace Sys2Proof.Machine

variable {c : Instr} {s u v : State} {t : Nat} {who : Who} {win : Window} {P : State → Prop}

theorem leaves_any (f : State → State) (hc : exec c s = actAny s t f) (hf : f (s.at t) = v) : Leaves c s v := by
  rw [Leaves, hc, actAny_next, hf]

theorem leaves_act (f : State → State) (h : Acts s t u) (hc : exec c s = act s t f) (hf : f u = v) : Leaves c s v := by
  rw [Leaves, hc, act_acts f h, hf]

theorem leaves_front (f : State → State) (h : Fronts s t u) (hc : exec c s = actFront s t f) (hf : f u = v) : Leaves c s v := by
  rw [Leaves, hc, actFront_fronts f h, hf]

theorem leaves_dev (f : State → State) (h : Runs s t u) (hc : exec c s = actDev s t f) (hf : f u = v) : Leaves c s v := by
  rw [Leaves, hc, actDev_runs f h, hf]

theorem leaves_link (f : State → State) (h : Runs s t u) (hc : exec c s = actLink s t f) (hf : f u = v) : LeavesLink c s u v := by
  rw [LeavesLink, hc, actLink_runs f h, hf]

theorem leaves_regWr (f : State → State) (h : Writes s t who win u) (hc : exec c s = regWr s t who win f) (hf : f u = v) :
    Leaves c s v := by
  rw [Leaves, hc, regWr_writes f h, hf]

theorem leaves_mgmtWr (f : State → State) (h : Writes s t .mgmt .glob u) (hc : exec c s = mgmtWr s t .mgmt f) (hf : f u = v) :
    Leaves c s v := by
  rw [Leaves, hc, mgmtWr_writes f h, hf]

/-- A host write of a register that the management port alone writes changes nothing but the access. -/
theorem leaves_mgmtWr_host {n : Nat} (f : State → State) (h : Writes s t (.fn n) .glob u) (hc : exec c s = mgmtWr s t (.fn n) f) :
    Leaves c s u := by
  rw [Leaves, hc, mgmtWr_host f h]

theorem leaves_regRd {r : Reg} (f : State → Word × State) (h : Reads s t who win r u) (hc : exec c s = regRd s t who win r f)
    (hf : (f u).2.emit (.regData who (f u).1) = v) : Leaves c s v := by
  rw [Leaves, hc, regRd_reads f h, hf]

theorem Leaves.some (h : Leaves c s v) (hP : P v) : LeavesSome c s P := ⟨v, h, hP⟩

theorem LeavesLink.some (h : LeavesLink c s u v) (hP : P v) : LeavesLinkSome c s u P := ⟨v, h, hP⟩

end Sys2Proof.Machine
end

section
/-! SUPPORT. The debug port (R424): what its codes select, what a scan shifts out and clears, and the obligation on it. -/

namespace Sys2Proof.Machine

variable {s : State}

/-- A code selects the bypass register unless it names another instruction. -/
theorem bypassCode_of_lt {c : Nat} (h : c < 256) : bypassCode c = if c < 4 ∨ c = 0x20 ∨ c = 0x21 then 0xFF else c := by
  simp only [bypassCode, Nat.mod_eq_of_lt h, List.contains_eq_mem, List.mem_cons, List.not_mem_nil, or_false, decide_eq_true_eq]
  exact if_congr (by omega) rfl rfl

theorem State.globalStop_of_not_enabled {k : Nat} (h : s.rb .OBS_STOP_CFG 0 0 0 = false) : s.globalStop k = s := by
  simp [State.globalStop, State.globalStopCore, h]

/-- Of the registers, a scan clears only what it has read of IRQ_DB_PEND. -/
theorem State.scanSeen_eq (i : Nat) :
    s.scanSeen i = s ∨ ∃ k < 8, s.scanSeen i = s.setReg .IRQ_DB_PEND k 0 0 := by
  unfold State.scanSeen
  split
  · next e _ =>
    by_cases h : (e.2 + dbPendQword ≤ i && i < e.2 + dbPendQword + 8) = true
    · have hk : i - (e.2 + dbPendQword) < 8 := by simp at h; omega
      exact .inr ⟨_, hk, by simp only [State.when, h, if_true]⟩
    · exact .inl (by simp only [State.when, h]; rfl)
  · exact .inl rfl

theorem State.scanSeen_obs (i : Nat) : (s.scanSeen i).obs = s.obs := by
  obtain h | ⟨k, -, h⟩ := s.scanSeen_eq i <;> rw [h]; rfl

theorem State.scanSeen_out (i : Nat) : (s.scanSeen i).out = s.out := by
  obtain h | ⟨k, -, h⟩ := s.scanSeen_eq i <;> rw [h]; rfl

theorem State.scanSeen_regs {i k : Nat} (hk : ∀ j, j < 8 → k ≠ Reg.IRQ_DB_PEND.key j 0) :
    Tab.get? (s.scanSeen i).regs k = Tab.get? s.regs k := by
  obtain h | ⟨j, hj, h⟩ := s.scanSeen_eq i
  · rw [h]
  · rw [h]
    exact Tab.get?_set_ne _ _ (hk j hj)

/-- Settles O12. -/
theorem debugPortSelectsAndShifts : Obligations.DebugPortSelectsAndShifts := by
  refine ⟨fun s t => ?_, fun s t => ?_, fun s t => ?_, fun s t => ?_, fun s t c hc => ?_, fun s t => ?_, fun s t h => ?_,
    fun s t h => ?_, fun s t h => ?_, fun s t => ?_⟩
  · exact leaves_any (·.selectIr 0x00) rfl (by simp [State.selectIr])
  · exact leaves_any (·.selectIr 0x01) rfl (by simp [State.selectIr])
  · exact leaves_any (·.selectIr 0x02) rfl (by simp [State.selectIr])
  · exact leaves_any (·.selectIr 0x03) rfl (by simp [State.selectIr])
  · exact leaves_any (·.selectIr (bypassCode c)) rfl (by simp [State.selectIr, bypassCode_of_lt hc])
  · exact leaves_any State.vxbStop rfl (by simp [State.vxbStop, State.selectIr])
  · have hen : ((s.at t).selectIr 0x20).rb .OBS_STOP_CFG 0 0 0 = false := h
    exact leaves_any State.vxbStop rfl (by rw [State.vxbStop, State.globalStop_of_not_enabled hen]; simp [State.selectIr])
  · have hready : ((s.at t).selectIr 0x21).scanReady = true := h
    refine (leaves_any State.vxbScan rfl rfl).some ?_
    simp only [State.vxbScan, State.scanNext, hready, if_true, State.scanSeen_obs, State.scanSeen_out]
    exact ⟨by simp [State.selectIr], by simp [State.selectIr], fun k hk => State.scanSeen_regs hk⟩
  · have hready : ((s.at t).selectIr 0x21).scanReady = false := h
    refine (leaves_any State.vxbScan rfl rfl).some ?_
    simp only [State.vxbScan, State.scanNext, hready, Bool.false_eq_true, if_false]
    exact ⟨by simp [State.selectIr], by simp [State.selectIr]⟩
  · exact leaves_any State.debugReset rfl (by simp [State.debugReset])

end Sys2Proof.Machine
end

section
/-! SUPPORT. The boundary (chapter 01): clocks, the host's coming and going, and the management port. -/

namespace Sys2Proof.Machine

variable {s : State} {d : Nat}

/-- What the loss of domain `d` shows in VXB_DOMAIN_STAT. -/
def State.domainDown (s : State) (d : Nat) : State :=
  (s.setB .VXB_DOMAIN_STAT 0 0 (d - 1) false).setB .VXB_DOMAIN_STAT 0 0 (31 + d) true

@[simp] theorem State.ready_domainDown : (s.domainDown d).ready = s.ready :=
  (State.rb_setB_other (by decide)).trans (State.rb_setB_other (by decide))

@[simp] theorem State.ready_setB_domain {b : Nat} {v : Bool} : (s.setB .VXB_DOMAIN_STAT 0 0 b v).ready = s.ready :=
  State.rb_setB_other (by decide)

theorem State.clockLost_stopped (h : s.clockStopped d = true) : s.clockLost d = s := by simp [State.clockLost, h]

theorem State.clockLost_live (h0 : 1 ≤ d) (h18 : d ≤ 18) (h17 : d ≠ 17) (hs : s.clockStopped d = false)
    (hb : s.rb .VXB_DOMAIN_STAT 0 0 (d - 1) = true) :
    s.clockLost d = if d ≤ 2 then (s.domainDown d).hostGone 3
      else if s.ready && (4 ≤ d && d ≤ 7) then (s.domainDown d).portDown (d - 4) 11 else s.domainDown d := by
  have h0' : d ≠ 0 := by omega
  have h18' : ¬ 18 < d := by omega
  have hr := State.ready_domainDown (s := s) (d := d)
  unfold State.domainDown at hr ⊢
  simp [State.clockLost, h0', h18', h17, hs, hb, State.when]
  split
  · rfl
  · cases s.ready <;> simp

theorem State.clockStopped_of_not_engine (h : engineDomain d = false) : s.clockStopped d = false := by simp [State.clockStopped, h]

theorem State.clockReturn_back (h0 : 1 ≤ d) (h18 : d ≤ 18) (h17 : d ≠ 17) (hb : s.rb .VXB_DOMAIN_STAT 0 0 (d - 1) = false)
    (hd : s.hasDomain d = true) :
    s.clockReturn d = if s.ready && (4 ≤ d && d ≤ 7) then (s.setB .VXB_DOMAIN_STAT 0 0 (d - 1) true).trainPort (d - 4)
      else s.setB .VXB_DOMAIN_STAT 0 0 (d - 1) true := by
  have h0' : d ≠ 0 := by omega
  have h18' : ¬ 18 < d := by omega
  simp [State.clockReturn, h0', h18', h17, hb, hd, and_assoc]

theorem State.rb_congr {u v : State} (h : u.regs = v.regs) {r : Reg} {i j b : Nat} : u.rb r i j b = v.rb r i j b := by
  simp only [State.rb, State.reg, h]

theorem State.rf_congr {u v : State} (h : u.regs = v.regs) {r : Reg} {i j a b : Nat} : u.rf r i j a b = v.rf r i j a b := by
  simp only [State.rf, State.reg, h]

/-- What the loss of the reference clock leaves. -/
def State.refDown (s : State) : State := { s.domainDown 17 with start := { s.start with refLost := true } }

theorem State.rb_refDown {r : Reg} {i j b : Nat} (h : r.key i j ≠ Reg.key .VXB_DOMAIN_STAT 0 0) :
    s.refDown.rb r i j b = s.rb r i j b := by
  calc s.refDown.rb r i j b
    _ = (s.domainDown 17).rb r i j b := State.rb_congr rfl
    _ = s.rb r i j b := (State.rb_setB_other h).trans (State.rb_setB_other h)

theorem State.rf_refDown {r : Reg} {i j a b : Nat} (h : r.key i j ≠ Reg.key .VXB_DOMAIN_STAT 0 0) :
    s.refDown.rf r i j a b = s.rf r i j a b := by
  calc s.refDown.rf r i j a b
    _ = (s.domainDown 17).rf r i j a b := State.rf_congr rfl
    _ = s.rf r i j a b := (State.rf_setB_other h).trans (State.rf_setB_other h)

/-- Domain 17 is the reference clock: its loss ends the lock of fabric time and is counted. -/
theorem State.clockLost_ref (hb : s.rb .VXB_DOMAIN_STAT 0 0 16 = true) (hr : s.ready = true) (hl : s.rb .TML_TIME_STAT 0 0 0 = true) :
    s.clockLost 17 = (s.refDown.bump .TML_TIME_STAT 0 0 24 16 1).setB .TML_TIME_STAT 0 0 0 false := by
  have hs : s.clockStopped 17 = false := State.clockStopped_of_not_engine rfl
  have hr' : s.refDown.ready = true := (State.rb_refDown (by decide)).trans hr
  have hl' : s.refDown.rb .TML_TIME_STAT 0 0 0 = true := (State.rb_refDown (by decide)).trans hl
  calc s.clockLost 17
    _ = if !s.refDown.ready then s.refDown
        else (s.refDown.when (s.refDown.rb .TML_TIME_STAT 0 0 0) (fun s => s.bump .TML_TIME_STAT 0 0 24 16 1)).setB
          .TML_TIME_STAT 0 0 0 false := by rw [State.clockLost, if_neg (by simp [hs, hb])]; rfl
    _ = _ := by simp [hr', hl', State.when]

/-- Settles O1: each branch of the two clock operations. -/
theorem clockEdgesMoveDomainBits : Obligations.ClockEdgesMoveDomainBits := by
  refine ⟨?_, ?_, ?_, ?_, ?_, ?_, ?_, ?_⟩
  · intro s t d hd hs hb
    refine leaves_any (·.clockLost d) rfl ?_
    have h : ¬ d ≤ 2 ∧ ¬ (4 ≤ d ∧ d ≤ 7) := by omega
    simp [State.clockLost_live (by omega) (by omega) (by omega) hs hb, h, State.domainDown]
  · intro s t hb hr hl
    refine (leaves_any (·.clockLost 17) rfl (State.clockLost_ref hb hr hl)).some ⟨?_, ?_, ?_, ?_, ?_⟩
    · simp (disch := decide) only [State.rb_setB_other, State.bump, State.rb_setF_other]
      exact (State.rb_congr rfl).trans ((State.rb_setB_ne _ _ _ _ _ (by decide) (by decide)).trans (State.rb_setB_same _ _ _ _ _ (by decide)))
    · simp (disch := decide) only [State.rb_setB_other, State.bump, State.rb_setF_other]
      exact (State.rb_congr rfl).trans (State.rb_setB_same _ _ _ _ _ (by decide))
    · exact State.rb_setB_same _ _ _ _ _ (by decide)
    · rw [State.rf_setB_ne _ _ _ _ _ (by decide) (by decide), State.bump, State.rf_setF_same _ _ _ _ _ (by decide),
        State.rf_refDown (by decide)]
      simp only [satAdd]
      omega
    · simp [State.refAlive, State.bump, State.refDown]
  · intro s t d u hd hs hb hu
    subst hu
    refine leaves_any (·.clockLost d) rfl ?_
    have h : d ≤ 2 := by omega
    simp [State.clockLost_live (by omega) (by omega) (by omega) hs hb, h, State.domainDown]
  · intro s t d u h4 h7 hb hr hu
    subst hu
    refine leaves_any (·.clockLost d) rfl ?_
    have h : ¬ d ≤ 2 := by omega
    have he : engineDomain d = false := by simp [engineDomain]; omega
    simp [State.clockLost_live (by omega) (by omega) (by omega) (State.clockStopped_of_not_engine he) hb, h, h4, h7, hr,
      State.domainDown]
  · intro s t d hs
    exact leaves_any (·.clockLost d) rfl (State.clockLost_stopped hs)
  · intro s t d hd h1 h18 h17 hb hh
    refine leaves_any (·.clockReturn d) rfl ?_
    have h : ¬ (4 ≤ d ∧ d ≤ 7) := by omega
    simp [State.clockReturn_back h1 h18 h17 hb hh, h]
  · intro s t d h4 h7 hb hh hr
    refine leaves_any (·.clockReturn d) rfl ?_
    simp [State.clockReturn_back (by omega) (by omega) (by omega) hb hh, h4, h7, hr]
  · intro s t
    exact leaves_any (·.clockReturn 17) rfl rfl

end Sys2Proof.Machine
end

section
/-! SUPPORT. The host's coming and going (R27 to R29): a register index out of range makes the regrowth clause false. -/

namespace Sys2Proof.Machine

theorem State.Reported.traceDevAt {s u : State} (h : s.Reported u) (m ty d : Nat) : s.Reported (u.traceDevAt m ty d) :=
  .ite (((h.trigger ty 0 0).when fun _ hv => hv.trigger _ _ _).devRecordAt _ _ _) h

theorem State.Reported.freezePoll {s u : State} (h : s.Reported u) : s.Reported u.freezePoll := by
  unfold State.freezePoll
  split
  · exact .ite h (h.upd.traceDevAt _ _ _)
  · exact h

theorem State.Reported.regrow {s u : State} (h : s.Reported u) : u.regrow = s.regrow := by
  obtain ⟨_, _, _, _, _, _, _, _, _, rfl⟩ := h
  rfl

/-- At the end of a command that leaves an acting block under a soft stop, VXB_STOP_STAT says whether the block is quiet; where it says
otherwise, the block was not acting. -/
theorem State.polls_stale {u v : State} (h : u.polls = v) (hs : v.sstopped = true) (hq : v.rb .OBS_STOP_STAT 0 0 2 ≠ v.quiet) :
    v = u.freezePoll := by
  by_cases ha : u.freezePoll.alive = true
  · exfalso
    subst h
    simp only [State.polls, ha, State.when, Bool.not_true, Bool.false_eq_true, if_false] at hs hq
    split at hs
    next hw =>
      rw [if_pos hw, State.rb_setB_same _ _ _ _ _ (by decide)] at hq
      exact hq rfl
    next hw => exact hw hs
  · rw [← h, polls_of_not_alive (by simpa using ha)]

/-- A soft-stopped block in regrowth with a host, whose rung is such that the residency counter of that rung is ERR_STAT: 4 ns turn its
regrowth into a double-fault halt. -/
def strayRung : State :=
  { (((State.reset.setB .VXB_START_STAT 0 0 3 true).setB .VXB_HOST_LINK 0 0 8 true).setB .ERR_STAT 0 0 1 true).setB .OBS_STOP_STAT 0 0 1 true
    with gov := { State.reset.gov with rung := 90048 } }

/-- Refutes O2, by its clause for a host loss during a regrowth: nothing bounds the rung, and the time that passes is counted in a
register of that rung's number, which may be ERR_STAT. The command then finds the block halted. -/
theorem not_hostLinkFallsAndReturns : ¬ Obligations.HostLinkFallsAndReturns := by
  rintro ⟨-, -, -, -, hregrow, -⟩
  obtain ⟨v, hv, -, -, -, -, hloss, -⟩ := hregrow strayRung 4 _ ⟨by decide, rfl⟩ (by decide) (by decide)
  have hleft : exec (.hostLoss 4 .linkDown) strayRung = .next ((strayRung.at 4).hostGone 1).polls := by rfl
  injection hv.symm.trans hleft with hpolls
  have hstale := State.polls_stale hpolls (by decide) (by decide)
  have hnone : ((strayRung.at 4).hostGone 1).polls.regrow.hostLoss = none := by decide
  rw [hstale, (State.Reported.refl v).freezePoll.regrow, hloss] at hnone
  exact absurd hnone (by decide)

end Sys2Proof.Machine
end

section
/-! SUPPORT. The management port's I3C target (R34, R35). -/

namespace Sys2Proof.Machine

variable {s : State} {a : Nat}

theorem State.entdaa_free (h : s.rb .VXB_MGMT_STAT 0 0 7 = false) : s.entdaa a = s.setDyn a := by simp [State.entdaa, h]

/-- An assigned address shows in VXB_MGMT_STAT. -/
theorem State.setDyn_shows (h : a < 128) :
    (s.setDyn a).rf .VXB_MGMT_STAT 0 0 0 7 = a ∧ (s.setDyn a).rb .VXB_MGMT_STAT 0 0 7 = true := by
  refine ⟨?_, State.rb_setB_same _ _ _ _ _ (by decide)⟩
  rw [State.setDyn, State.rf_setB_ne _ _ _ _ _ (by decide) (by decide), State.rf_setF_same _ _ _ _ _ (by decide)]
  exact Nat.mod_eq_of_lt h

theorem State.setdasa_own {p : Plinth} (hp : s.start.plinth = some p) (h0 : p.i3cStatic ≠ 0) (h : s.rb .VXB_MGMT_STAT 0 0 7 = false) :
    s.setdasa p.i3cStatic a = s.setDyn a := by simp [State.setdasa, hp, h0, h]

/-- A peripheral reset clears the port, with no load to abort. -/
theorem State.periphReset_shows (h : s.mcs.load = none) :
    s.periphReset.loadAbort.rf .VXB_MGMT_STAT 0 0 0 9 = 0 ∧ s.periphReset.loadAbort.rb .VXB_MGMT_STAT 0 0 9 = true := by
  have hl : s.periphReset.loadAbort = s.periphReset := by simp [State.loadAbort, State.periphReset, h]
  rw [hl]
  constructor
  · calc s.periphReset.rf .VXB_MGMT_STAT 0 0 0 9
      _ = ((s.setF .VXB_MGMT_STAT 0 0 0 9 0).setB .VXB_MGMT_STAT 0 0 9 true).rf .VXB_MGMT_STAT 0 0 0 9 := State.rf_congr rfl
      _ = 0 := by rw [State.rf_setB_ne _ _ _ _ _ (by decide) (by decide), State.rf_setF_same _ _ _ _ _ (by decide), Nat.zero_mod]
  · exact (State.rb_congr rfl).trans (State.rb_setB_same (s.setF .VXB_MGMT_STAT 0 0 0 9 0) _ _ _ _ (by decide))

/-- Settles O3. -/
theorem i3cTargetTakesItsAddress : Obligations.I3cTargetTakesItsAddress := by
  refine ⟨?_, ?_, ?_, ?_, ?_, ?_, ?_, ?_, ?_⟩
  · intro s t a h ha
    refine (leaves_any (·.entdaa a) rfl (State.entdaa_free h)).some ?_
    obtain ⟨haddr, hhas⟩ := State.setDyn_shows (s := s.at t) ha
    exact ⟨haddr, hhas, State.at_start .., State.at_sec .., rfl⟩
  · intro s t a h
    exact leaves_any (·.entdaa a) rfl (by simp [State.entdaa, h])
  · intro s t p a hp h0 h ha
    exact (leaves_any (·.setdasa p.i3cStatic a) rfl (State.setdasa_own (by simpa using hp) h0 h)).some (State.setDyn_shows ha)
  · intro s t a
    exact leaves_any (·.setRstact a) rfl rfl
  · intro s t h
    exact leaves_any State.targetReset rfl (by simp [State.targetReset, h])
  · intro s t h hl
    refine (leaves_any State.targetReset rfl ?_).some (State.periphReset_shows (s := s.at t) (by simpa using hl))
    simp only [State.targetReset, State.at_start, h]
  · intro s t h hw
    exact leaves_any State.targetReset rfl (by simp [State.targetReset, h, hw])
  · intro s t h hw hl
    refine (leaves_any State.targetReset rfl ?_).some (State.periphReset_shows (s := s.at t) (by simpa using hl))
    simp only [State.targetReset, State.at_start, h, hw, Bool.false_eq_true, if_false]
  · intro s t
    exact (leaves_any State.hdrDdr rfl rfl).some
      ⟨State.rb_setB_same _ _ _ _ _ (by decide), State.at_start .., State.at_sec ..⟩

end Sys2Proof.Machine
end

section
/-! SUPPORT. The cold reset (R36, R45, R455, R456). -/

namespace Sys2Proof.Machine

/-- State `u` is `s` but for its registers. -/
def State.Regs (s u : State) : Prop := ∃ g, u = { s with regs := g }

namespace State.Regs

variable {s u v : State}

theorem refl (s : State) : s.Regs s := ⟨_, rfl⟩

theorem setReg (h : s.Regs u) (r : Reg) (i j : Nat) (w : Word) : s.Regs (u.setReg r i j w) := by
  obtain ⟨g, rfl⟩ := h
  exact ⟨_, rfl⟩

theorem setF (h : s.Regs u) (r : Reg) (i j a b x : Nat) : s.Regs (u.setF r i j a b x) := h.setReg ..

theorem setB (h : s.Regs u) (r : Reg) (i j b : Nat) (v : Bool) : s.Regs (u.setB r i j b v) := h.setReg ..

theorem when (h : s.Regs u) {c : Bool} {f : State → State} (hf : ∀ v, s.Regs v → s.Regs (f v)) : s.Regs (u.when c f) := by
  cases c
  · exact h
  · exact hf u h

theorem foldl {α : Type} (h : s.Regs u) {f : State → α → State} {l : List α} (hf : ∀ v a, s.Regs v → s.Regs (f v a)) :
    s.Regs (l.foldl f u) := by
  induction l generalizing u with
  | nil => exact h
  | cons a l ih => exact ih (hf u a h)

theorem fromFuses (h : s.Regs u) (old : State) (f : Fuses) : s.Regs (u.fromFuses old f) := by
  refine foldl ?_ fun _ _ hv => hv.setB ..
  exact (((((h.setReg ..).setB ..).when fun _ hv => hv.setF ..).setF ..).setF ..).setB ..

end State.Regs

/-- A register that a row of writes of other registers leaves alone. -/
theorem State.rb_foldl_setB_other {s : State} {l : List Nat} {r q : Reg} {i j b c : Nat} {v : Nat → Bool}
    (h : ∀ n ∈ l, q.key i j ≠ r.key n 0) : (l.foldl (fun s n => s.setB r n 0 b (v n)) s).rb q i j c = s.rb q i j c := by
  induction l generalizing s with
  | nil => rfl
  | cons n l ih =>
    rw [List.foldl_cons, ih fun m hm => h m (List.mem_cons_of_mem _ hm), State.rb_setB_other (h n List.mem_cons_self)]

/-- A bit that the fuses do not set, after they have been taken. -/
theorem State.rb_fromFuses_other {s old : State} {f : Fuses} {r : Reg} {i j b : Nat} (hid : r.key i j ≠ Reg.key .VXB_ID 0 0)
    (hlink : r.key i j ≠ Reg.key .VXB_HOST_LINK 0 0) (hmcs : r.key i j ≠ Reg.key .MCS_VERSION 0 0)
    (hdom : r.key i j ≠ Reg.key .VXB_DOMAIN_STAT 0 0) (hstart : r.key i j ≠ Reg.key .VXB_START_STAT 0 0)
    (hdin : ∀ n ∈ List.range 9, r.key i j ≠ Reg.key .VXB_DIN_STAT n 0) : (s.fromFuses old f).rb r i j b = s.rb r i j b := by
  rw [State.fromFuses, State.rb_foldl_setB_other hdin, State.rb_setB_other hstart, State.rb_setF_other hdom, State.rb_setF_other hmcs]
  cases f.soc
  · exact (State.rb_setB_other hlink).trans (State.rb_setReg_other hid)
  · exact (State.rb_setF_other hlink).trans ((State.rb_setB_other hlink).trans (State.rb_setReg_other hid))

/-- READY is no fuse. -/
theorem State.ready_fromFuses {s old : State} {f : Fuses} : (s.fromFuses old f).ready = s.ready := by
  rw [State.ready, State.fromFuses, State.rb_foldl_setB_other (by decide), State.rb_setB_ne _ _ _ _ _ (by decide) (by decide),
    State.rb_setF_other (by decide), State.rb_setF_other (by decide)]
  cases f.soc
  · exact (State.rb_setB_other (by decide)).trans (State.rb_setReg_other (by decide))
  · exact (State.rb_setF_other (by decide)).trans ((State.rb_setB_other (by decide)).trans (State.rb_setReg_other (by decide)))

/-- The fuses give the form of the host port; they do not raise the link. -/
theorem State.hostLink_fromFuses {s old : State} {f : Fuses} :
    (s.fromFuses old f).rb .VXB_HOST_LINK 0 0 9 = f.soc
    ∧ (s.fromFuses old f).rb .VXB_HOST_LINK 0 0 8 = s.rb .VXB_HOST_LINK 0 0 8 := by
  have h (c : Nat) : (s.fromFuses old f).rb .VXB_HOST_LINK 0 0 c
      = (((s.setReg .VXB_ID 0 0 (mkWord [(0, 2, f.grade), (8, 8, f.rev), (16, 32, f.features.toNat)])).setB .VXB_HOST_LINK 0 0 9
        f.soc).when f.soc (fun s => s.setF .VXB_HOST_LINK 0 0 0 8 0xFF)).rb .VXB_HOST_LINK 0 0 c := by
    rw [State.fromFuses, State.rb_foldl_setB_other (by decide), State.rb_setB_other (by decide), State.rb_setF_other (by decide),
      State.rb_setF_other (by decide)]
  rw [h, h]
  cases f.soc
  · exact ⟨State.rb_setB_same _ _ _ _ _ (by decide),
      (State.rb_setB_ne _ _ _ _ _ (by decide) (by decide)).trans (State.rb_setReg_other (by decide))⟩
  · exact ⟨(State.rb_setF_ne _ _ _ _ _ (by decide) (by decide)).trans (State.rb_setB_same _ _ _ _ _ (by decide)),
      (State.rb_setF_ne _ _ _ _ _ (by decide) (by decide)).trans ((State.rb_setB_ne _ _ _ _ _ (by decide) (by decide)).trans
        (State.rb_setReg_other (by decide)))⟩

/-- The block that a cold reset of `old` begins with: the queue, what has left the ports, the free values that are used up, and time. -/
def State.cold (old : State) (t : Nat) (f : Fuses) (mem : BitVec 8) : State :=
  { pending := old.pending, out := old.out, fresh := old.fresh, now := max old.now t, ref := old.ref + (max old.now t - old.now),
    start := { mem := mem, fuses := some f, resetAt := old.ref + (max old.now t - old.now) }, obs := { ir := old.obs.ir } }

/-- The block with its pins and its fuses. -/
def State.coldFused (old : State) (t : Nat) (f : Fuses) (mem : BitVec 8) : State := ((old.cold t f mem).resetPins old).fromFuses old f

/-- A fused block with its flash mode, on which HOST_PRESENT acts. -/
def State.flashed (s : State) (w : Word) (host : Bool) : State :=
  (s.setReg .VXB_FLASH_MODE 0 0 w).when host (fun s => s.setB .VXB_HOST_LINK 0 0 8 true)

theorem State.rb_flashed_other {s : State} {w : Word} {host : Bool} {r : Reg} {i j c : Nat}
    (hf : r.key i j ≠ Reg.key .VXB_FLASH_MODE 0 0) (hl : r.key i j ≠ Reg.key .VXB_HOST_LINK 0 0) :
    (s.flashed w host).rb r i j c = s.rb r i j c := by
  cases host
  · exact State.rb_setReg_other hf
  · exact (State.rb_setB_other hl).trans (State.rb_setReg_other hf)

theorem State.hostLink_flashed {s : State} {w : Word} {host : Bool} (h8 : s.rb .VXB_HOST_LINK 0 0 8 = false) :
    (s.flashed w host).rb .VXB_HOST_LINK 0 0 9 = s.rb .VXB_HOST_LINK 0 0 9
    ∧ (s.flashed w host).rb .VXB_HOST_LINK 0 0 8 = host := by
  cases host
  · exact ⟨State.rb_setReg_other (by decide), (State.rb_setReg_other (by decide)).trans h8⟩
  · exact ⟨(State.rb_setB_ne _ _ _ _ _ (by decide) (by decide)).trans (State.rb_setReg_other (by decide)),
      State.rb_setB_same _ _ _ _ _ (by decide)⟩

theorem State.flashMode_flashed {s : State} {w : Word} {host : Bool} : (s.flashed w host).reg .VXB_FLASH_MODE 0 0 = w := by
  cases host
  · exact State.reg_setReg_same ..
  · exact (State.reg_setB_ne _ (by decide)).trans (State.reg_setReg_same ..)

theorem State.coldReset_eq (old : State) (t : Nat) (f : Fuses) (mem : BitVec 8) (ok : Bool) (l : List (Nat × Nat)) (host : Bool) :
    old.coldReset t f mem ok l host
      = ((old.coldFused t f mem).flashed (mkWord [(0, 3, (pickFlash (if ok then l else [])).1),
          (4, 8, (pickFlash (if ok then l else [])).2), (12, 1, b2n ok)]) (f.soc && host)).setF .VXB_START_STAT 0 0 0 3 2 := rfl

theorem State.resetPins_regs (s old : State) : (s.resetPins old).regs = s.regs := by
  unfold State.resetPins State.when
  split <;> split <;> rfl

theorem State.resetPins_out (s old : State) : ∃ l, s.resetPins old = { s with out := s.out ++ l } := by
  unfold State.resetPins State.when
  split <;> split
  · exact ⟨_, by simp only [State.emit, List.append_assoc]; rfl⟩
  · exact ⟨_, rfl⟩
  · exact ⟨_, rfl⟩
  · exact ⟨[], by simp⟩

theorem State.coldFused_rb (old : State) (t : Nat) (f : Fuses) (mem : BitVec 8) {r : Reg} {i j b : Nat} :
    ((old.cold t f mem).resetPins old).rb r i j b = bitOf (resetWord r i j) b := by
  rw [State.rb, State.reg, State.resetPins_regs]
  rfl

theorem State.coldReset_regs (old : State) (t : Nat) (f : Fuses) (mem : BitVec 8) (ok : Bool) (l : List (Nat × Nat)) (host : Bool) :
    ((old.cold t f mem).resetPins old).Regs (old.coldReset t f mem ok l host) :=
  ((((State.Regs.refl _).fromFuses old f).setReg ..).when fun _ hv => hv.setB ..).setF ..

/-- What a step of the choice of the flash mode keeps: it is no slower than what was chosen and than the mode it looks at. -/
theorem pickFlash_le (l : List (Nat × Nat)) (b : Nat × Nat) :
    let m := l.foldl (fun b e =>
      let c := min e.2 (flashMode e.1).1
      let rate := (flashMode e.1).2 * c
      let best := (flashMode b.1).2 * b.2
      if best < rate || (best = rate && b.1 < e.1) then (e.1, c) else b) b
    (flashMode b.1).2 * b.2 ≤ (flashMode m.1).2 * m.2
    ∧ ∀ e ∈ l, (flashMode e.1).2 * min e.2 (flashMode e.1).1 ≤ (flashMode m.1).2 * m.2 := by
  induction l generalizing b with
  | nil => simp
  | cons e l ih =>
    simp only [List.foldl_cons, List.mem_cons, forall_eq_or_imp]
    split
    next h =>
      obtain ⟨hle, hall⟩ := ih (e.1, min e.2 (flashMode e.1).1)
      have hbe : (flashMode b.1).2 * b.2 ≤ (flashMode e.1).2 * min e.2 (flashMode e.1).1 := by
        simp only [Bool.or_eq_true, Bool.and_eq_true, decide_eq_true_eq] at h
        omega
      exact ⟨hbe.trans hle, hle, hall⟩
    next h =>
      obtain ⟨hle, hall⟩ := ih b
      have hbe : (flashMode e.1).2 * min e.2 (flashMode e.1).1 ≤ (flashMode b.1).2 * b.2 := by
        simp only [Bool.or_eq_true, Bool.and_eq_true, decide_eq_true_eq] at h
        omega
      exact ⟨hle, hbe.trans hle, hall⟩

/-- Settles O4. -/
theorem coldResetForgets : Obligations.ColdResetForgets := by
  refine ⟨?_, fun l e he => (pickFlash_le l (0, 25)).2 e he, rfl, ?_⟩
  · intro s t f mem ok l host hg
    refine ⟨s.coldReset t f mem ok l host, ?_, ?_⟩
    · show Host.Outcome.next (if f.graded then _ else s) = _
      rw [if_pos hg]
    have hlink : (s.coldFused t f mem).rb .VXB_HOST_LINK 0 0 9 = f.soc ∧ (s.coldFused t f mem).rb .VXB_HOST_LINK 0 0 8 = false := by
      obtain ⟨h9, h8⟩ := State.hostLink_fromFuses (s := (s.cold t f mem).resetPins s) (old := s) (f := f)
      exact ⟨h9, h8.trans (State.coldFused_rb ..)⟩
    have hready : (s.coldFused t f mem).ready = false := State.ready_fromFuses.trans (State.coldFused_rb ..)
    have hcause : (s.coldFused t f mem).rb .VXB_RESET_CAUSE 0 0 0 = true :=
      (State.rb_fromFuses_other (by decide) (by decide) (by decide) (by decide) (by decide) (by decide)).trans (State.coldFused_rb ..)
    obtain ⟨h9, h8⟩ := hlink
    obtain ⟨g, hregs⟩ := State.coldReset_regs s t f mem ok l host
    obtain ⟨o, hpins⟩ := State.resetPins_out (s.cold t f mem) s
    refine ⟨?_, ?_, ?_, ?_, ?_, ?_, ?_⟩
    · rw [State.coldReset_eq]
      exact (State.rf_setF_same _ _ _ _ _ (by decide)).trans (by decide)
    · rw [State.coldReset_eq, State.ready, State.rb_setF_ne _ _ _ _ _ (by decide) (by decide),
        State.rb_flashed_other (by decide) (by decide)]
      exact hready
    · rw [State.coldReset_eq, State.rb_setF_other (by decide), State.rb_flashed_other (by decide) (by decide), hcause]
    · rw [State.coldReset_eq, State.rb_setF_other (by decide), (State.hostLink_flashed h8).1, h9]
    · rw [State.coldReset_eq, State.rb_setF_other (by decide), (State.hostLink_flashed h8).2]
    · rw [State.coldReset_eq, State.reg_setF_ne _ (by decide), State.flashMode_flashed]
    · rw [hregs, hpins]
      exact ⟨rfl, rfl, rfl, rfl, rfl, rfl, rfl, rfl, rfl, rfl, rfl, rfl, rfl, rfl, rfl, rfl, List.prefix_append _ _⟩
  · intro s t f mem ok l host hg
    show Host.Outcome.next (if f.graded then _ else s) = _
    rw [if_neg (by simp [hg])]

end Sys2Proof.Machine
end


section
/-! SUPPORT. Reads of host memory and of the card's memory on their way (R25, R26, R30, R261, R317 to R325). -/

namespace Sys2Proof.Machine

variable {u : State} {r : ReadTag} {p : Option Port} {o : RdOut}

/-- A read that is found outstanding has the tag and the port that were looked for. -/
theorem State.readOf_spec {q : Port} (h : u.readOf r (some q) = some o) : o.tag = r ∧ o.port = q := by
  have := List.find?_some h
  simpa using this

theorem State.endRead_found {g : Option RdOut → State → State} (ht : readTracked r = true) (h : u.readOf r p = some o) :
    u.endRead r p g = g (some o) u := by simp [State.endRead, ht, h]

theorem State.endRead_none {g : Option RdOut → State → State} (ht : readTracked r = true) (h : u.readOf r p = none) :
    u.endRead r p g = u := by simp [State.endRead, ht, h]

theorem State.endRead_untracked {g : Option RdOut → State → State} (ht : readTracked r = false) : u.endRead r p g = g none u := by
  simp [State.endRead, ht]

/-- Voxbin keeps no account of the reads of engines. -/
theorem readEngine_of_tracked (h : readTracked r = true) : readEngine r = none := by
  cases r <;> simp [readTracked] at h <;> rfl

/-- What comes over the host link for a read that is kept account of comes for one that is outstanding there, or changes nothing. -/
theorem State.hostError_found (ht : readTracked r = true) (h : u.readOf r (some .host) = some o) :
    u.hostError r = (u.endBytes r o.bytes).readFault r (some o) 8 := by
  rw [State.hostError, State.endRead_found ht h, State.endOut, (State.readOf_spec h).1]

theorem State.hostError_none (ht : readTracked r = true) (h : u.readOf r (some .host) = none) : u.hostError r = u :=
  State.endRead_none ht h

theorem State.hostError_untracked (ht : readTracked r = false) : u.hostError r = u.readFault r none 8 :=
  State.endRead_untracked ht

theorem State.hostRead_none (ht : readTracked r = true) (h : u.readOf r (some .host) = none) (res : ReadResult) : u.hostRead r res = u := by
  cases res with
  | ok data =>
    rw [State.hostRead, readEngine_of_tracked ht]
    exact State.endRead_none ht h
  | error => exact State.hostError_none ht h

/-- The two ways in which a read of host memory fails. -/
theorem leaves_hostError {s v : State} {t : Nat} (h : Acts s t u) (hv : u.hostError r = v) :
    Leaves (.hostReadCompletion t r .error) s v ∧ Leaves (.completionTimeout t r) s v :=
  ⟨leaves_act (·.hostRead r .error) h rfl hv, leaves_act (·.hostError r) h rfl hv⟩

theorem State.readFault_engine {c : Cls} {q g k st : Nat} (x : Option RdOut) (h : u.launchedTask c q g = some k) :
    u.readFault (.engine c q g) x st = u.guiltyTask k st 0 := by simp [State.readFault, h]

/-- The entries of the admin queue that a failed read covered have failed, and nothing leaves the ports. -/
theorem State.admFetchError_shows (u : State) (o : RdOut) :
    (u.admFetchError o).rb .ADM_STAT 0 0 5 = true ∧ (u.admFetchError o).reads = u.reads ∧ (u.admFetchError o).out = u.out
    ∧ (u.admFetchError o).sqs = u.sqs :=
  ⟨State.rb_setB_same _ _ _ _ _ (by decide), rfl, rfl, rfl⟩

/-- Settles O6. -/
theorem hostReadsEndInDataOrFault : Obligations.HostReadsEndInDataOrFault := by
  refine ⟨?_, ?_, ?_, ?_, ?_, ?_⟩
  · intro s t u f h
    exact leaves_hostError h (State.hostError_untracked rfl)
  · intro s t u o h ho
    obtain ⟨hread, htimeout⟩ := leaves_hostError h (State.hostError_found rfl ho)
    have hshows := State.admFetchError_shows (u.endBytes .adminFetch o.bytes) o
    exact ⟨hread.some hshows, htimeout.some hshows⟩
  · intro s t u q x o h ho hx
    refine leaves_hostError h ?_
    have hx' : Tab.get? (u.endBytes (.entryFetch q) o.bytes).sqs q = some x := hx
    rw [State.hostError_found rfl ho, State.readFault]
    simp only [hx']
  · intro s t u c p g k h hk
    exact leaves_hostError h ((State.hostError_untracked rfl).trans (State.readFault_engine none hk))
  · intro s t u f off o data h ho
    refine leaves_act (·.hostRead (.buffer f off) (.ok data)) h rfl ?_
    have hport := (State.readOf_spec ho).2
    have hok : (some o).any u.outRefused = false := by simp [State.outRefused, hport]
    simp only [State.hostRead, readEngine, State.engineTask, State.readOk]
    rw [State.endRead_found rfl ho, hok, if_neg (by decide), State.readData, State.endOut, (State.readOf_spec ho).1]
  · intro s t u r res h ht hr
    exact ⟨leaves_act (·.hostRead r res) h rfl (State.hostRead_none ht hr res),
      leaves_act (·.hostError r) h rfl (State.hostError_none ht hr)⟩

/-! ## Lines of memory -/

/-- Lines of an engine's read come for a command that runs there and may reach the partition. -/
theorem State.memRead_engine {c : Cls} {q g part off n : Nat} {ls : List MemLine} (hf : u.linesFor (.engine c q g) none part off n = true) :
    u.memRead (.engine c q g) (.lines part off n ls)
      = if u.linesRefused (.engine c q g) part off n then u.refusedRead (.engine c q g) none
        else
          let (bad, ws) := u.openLines part (off / 64) ls
          let s := u.linesCount (.engine c q g) part (off / 64) ls
          if bad.isEmpty then s.readData (.engine c q g) none (some .mem) (cutLines off n ws)
          else (bad.foldl (fun s b => s.cipherFail b.1 part (BitVec.ofNat 64 (64 * b.2.1)) b.2.2) s).failedRead (.engine c q g) none 9 := by
  rw [State.memRead, State.endRead_untracked rfl]
  simp [hf, State.endOut]

theorem State.memRead_tracked {part off n : Nat} {ls : List MemLine} (ht : readTracked r = true) (ho : u.readOf r (some .mem) = some o)
    (hf : u.linesFor r (some o) part off n = true) (hr : u.linesRefused r part off n = false) :
    u.memRead r (.lines part off n ls)
      = let (bad, ws) := u.openLines part (off / 64) ls
        let s := u.linesCount r part (off / 64) ls
        if bad.isEmpty then s.readData r (some o) (some .mem) (cutLines off n ws)
        else (bad.foldl (fun s b => s.cipherFail b.1 part (BitVec.ofNat 64 (64 * b.2.1)) b.2.2) (s.endBytes o.tag o.bytes)).failedRead r
          (some o) 9 := by
  rw [State.memRead, State.endRead_found ht ho]
  simp [hf, hr, State.endOut]

theorem State.readData_engine {c : Cls} {q g : Nat} {data : List Word} (h : c ≠ .gate) :
    u.readData (.engine c q g) none (some .mem) data = u := by
  cases c <;> simp_all [State.readData, State.endOut]

theorem State.refusedRead_engine {c : Cls} {q g k : Nat} (h : u.launchedTask c q g = some k) :
    u.refusedRead (.engine c q g) none = (u.bump .MCI_STAT 0 0 32 16 1).guiltyTask k 8 0 :=
  State.readFault_engine (u := u.bump .MCI_STAT 0 0 32 16 1) none h

/-- A line outside the partition's memory is refused. -/
theorem State.lineWritten_refused {e : Option (Cls × Nat × Nat)} {part line : Nat} {d : List Word} (h8 : part ≠ 8)
    (he : u.engineReaches e part = true) (hl : u.rf .MCI_PART part 0 16 36 * 64 ≤ line) :
    u.lineWritten e part line d = match e with
      | some e => u.refusedRead (.engine e.1 e.2.1 e.2.2) none
      | none => u.refuseCnt := by
  cases e <;> simp [State.lineWritten, h8, he, hl]

/-- Settles O7. -/
theorem memoryLinesAreChecked : Obligations.MemoryLinesAreChecked := by
  refine ⟨?_, ?_, ?_, ?_, ?_, ?_, ?_, ?_, ?_, ?_, ?_, ?_, ?_⟩
  · intro s t u c p g k h hk
    refine leaves_act (·.memRead (.engine c p g) .errorFlag) h rfl ?_
    rw [State.memRead, State.endRead_untracked rfl]
    exact State.readFault_engine none hk
  · intro s t u c p g k part off n ls h hk hf hr
    refine leaves_act (·.memRead (.engine c p g) (.lines part off n ls)) h rfl ?_
    rw [State.memRead_engine hf, if_pos hr, State.refusedRead_engine hk]
  · intro s t u c p g part off n ls h hf
    refine leaves_act (·.memRead (.engine c p g) (.lines part off n ls)) h rfl ?_
    rw [State.memRead, State.endRead_untracked rfl]
    simp [hf]
  · intro s t u c p g part off n ls ws h hc hf hr ho
    refine leaves_act (·.memRead (.engine c p g) (.lines part off n ls)) h rfl ?_
    simp only [State.memRead_engine hf, hr, ho]
    exact State.readData_engine hc
  · intro s t u r x part off n ls ws h ht hx hf hr ho
    refine leaves_act (·.memRead r (.lines part off n ls)) h rfl ?_
    simp only [State.memRead_tracked ht hx hf hr, ho]
    rfl
  · intro s t u r x part off n ls ws e h ht hx hf hr ho
    refine leaves_act (·.memRead r (.lines part off n ls)) h rfl ?_
    simp only [State.memRead_tracked ht hx hf hr, ho]
    rfl
  · intro s t u h
    exact leaves_act (·.writeAck .own) h rfl rfl
  · intro s t u e part line d h h8 he hl hline hseal
    refine leaves_act (·.writeAck (.line e part line d)) h rfl ?_
    have hline' : ¬ u.rf .MCI_PART part 0 16 36 * 64 ≤ line := by omega
    simp [State.writeAck, State.lineWritten, h8, he, hl, hline', hseal]
  · intro s t u e part line d h h8 he
    refine leaves_act (·.writeAck (.line e part line d)) h rfl ?_
    simp [State.writeAck, State.lineWritten, h8, he]
  · intro s t u part line d h h8 hl
    exact leaves_act (·.writeAck (.line none part line d)) h rfl (State.lineWritten_refused h8 rfl hl)
  · intro s t u c p g k part line d h h8 he hk hl
    exact leaves_act (·.writeAck (.line (some (c, p, g)) part line d)) h rfl
      ((State.lineWritten_refused h8 he hl).trans (State.refusedRead_engine hk))
  · intro s t u line d h
    exact leaves_act (·.writeAck (.line none 8 line d)) h rfl rfl
  · intro s t u e line d h
    exact leaves_act (·.writeAck (.line (some e) 8 line d)) h rfl rfl

end Sys2Proof.Machine
end

section
/-! SUPPORT. The engines' channels (R38, R39, R235, R237, R260): which run a done record answers, and where the done goes. -/

namespace Sys2Proof.Machine

variable {u : State} {c : Cls} {p e : Nat} {h : HeldDone} {r : Run}

/-- A done that is not applied to a task answers the run with its TAG, where there is one. -/
theorem State.runOf_single (ht : h.task = none) (hr : (Tab.getD u.engs e {}).runs.filter (fun r => r.tag == h.tag) = [r]) :
    u.runOf e h = some r := by
  simp only [State.runOf, ht, hr, List.find?_cons, List.find?_nil, List.head?_cons]
  split
  · split
    next q hq => split at hq <;> simp_all
    next => rfl
  · rfl

/-- Without a squash or a yield it answers the first run with its TAG. -/
theorem State.runOf_first (ht : h.task = none) (h2 : h.status ≠ 2) (h3 : h.status ≠ 3) :
    u.runOf e h = (Tab.getD u.engs e {}).runs.find? (fun r => r.tag == h.tag) := by
  simp [State.runOf, ht, h2, h3, List.head?_filter]

/-- A done of another class than the cores is applied to its run. -/
theorem State.applyDone_engine (hc : h.cls ≠ .cores) (hr : u.runOf (engNo h.cls h.peng) h = some r) :
    u.applyDone h = u.engDone (engNo h.cls h.peng) r h := by
  unfold State.applyDone
  split
  · contradiction
  · simp only [hr]

/-- The acknowledgement of a scrub before a launch lets the launch go. -/
theorem State.scrubAck_asked (hc : (Tab.getD u.engs (engNo c p) {}).ctl = some .scrub) :
    u.scrubAck c p = { u.updEng (engNo c p) (fun y => { y with ctl := none, lastPart := none }) with
      due := u.due.map (fun d => if d.cls == c && d.peng == p then { d with stalled := false } else d) } := by
  simp [State.scrubAck, hc]

/-- A done that comes during a regrowth is kept for its end. -/
theorem State.engineDone_held (hcomp : h.cls = .comp → h.status = 0 → u.compHas h.tag = false) (hg : u.regrowing = true)
    (hl : u.regrow.dones.length < 1024) :
    u.engineDone h = { u with regrow := { u.regrow with dones := u.regrow.dones ++ [{ h with at0 := u.now }] } } := by
  have htaken : ¬ (h.cls == .comp && h.status = 0 && u.compHas h.tag) = true := by
    simp only [Bool.and_eq_true, beq_iff_eq, decide_eq_true_eq]
    rintro ⟨⟨hc, hst⟩, hhas⟩
    exact Bool.false_ne_true ((hcomp hc hst).symm.trans hhas)
  rw [State.engineDone, if_neg htaken, State.doneArrives, if_pos hg, if_pos hl]

/-- Settles O8. -/
theorem engineAnswersAreApplied : Obligations.EngineAnswersAreApplied := by
  refine ⟨?_, ?_, ?_, ?_, ?_, ?_, ?_, ?_, ?_, ?_⟩
  · intro s t u c p h
    exact leaves_act (·.launchAck c p) h rfl rfl
  · intro s t u c p op h hclean hscrub
    refine leaves_act (·.ctlAnswer c p op) h rfl ?_
    cases op <;> first | rfl | contradiction
  · intro s t u c p h hc hctl
    have hcores : (c == Cls.cores) = false := by simpa using hc
    have hans : u.ctlAnswer c p .scrub = u.scrubAck c p := by simp [State.ctlAnswer, hcores]
    exact (leaves_act (·.ctlAnswer c p .scrub) h rfl (hans.trans (State.scrubAck_asked hctl))).some ⟨rfl, rfl⟩
  · intro s t u c p tag st rf nl nx ns h hcomp hg hl
    have hheld := State.engineDone_held (h := ⟨c, p, tag, st, rf, nl, nx, ns, none, 0⟩) hcomp hg hl
    exact hheld ▸ leaves_engineDone h
  · intro s t u p tag rf nl nx ns h hhas
    have htaken : u.engineDone ⟨.comp, p, tag, 0, rf, nl, nx, ns, none, 0⟩
        = u.updEng (engNo .comp 0) (fun e => { e with owed := e.owed.eraseP (fun o => o.2 == tag) }) := by
      simp [State.engineDone, hhas]
    exact htaken ▸ leaves_engineDone h
  · intro s t u c p tag st rf nl nx ns r h hcomp hg hc hr
    have happ := (State.engineDone_eq_applyDone (h := ⟨c, p, tag, st, rf, nl, nx, ns, none, 0⟩) hg hcomp).trans
      (State.applyDone_engine hc (State.runOf_single rfl hr))
    exact happ ▸ leaves_engineDone h
  · intro s t u c p tag st rf nl nx ns r h hcomp hg hc h2 h3 hr
    have happ := (State.engineDone_eq_applyDone (h := ⟨c, p, tag, st, rf, nl, nx, ns, none, 0⟩) hg hcomp).trans
      (State.applyDone_engine hc ((State.runOf_first rfl h2 h3).trans hr))
    exact happ ▸ leaves_engineDone h
  · intro s t u p tag st rf nl nx ns r h hg hst hrun htag
    have hdone : u.engineDone ⟨.cores, p, tag, st, rf, nl, nx, ns, none, 0⟩
        = u.coreDone p r ⟨.cores, p, tag, st, rf, nl, nx, ns, none, 0⟩ := by
      rw [State.engineDone_eq_applyDone hg (by simp)]
      simp [State.applyDone, hst, hrun, htag]
    exact hdone ▸ leaves_engineDone h
  · intro s t u p tag rf nl nx ns h hg htrim
    have hdone : u.engineDone ⟨.cores, p, tag, 4, rf, nl, nx, ns, none, 0⟩ = u.trimAck p rf nx := by
      rw [State.engineDone_eq_applyDone hg (by simp)]
      simp only [State.applyDone, htrim, if_true]
    exact hdone ▸ leaves_engineDone h
  · intro s t u c p tag st rf nl nx ns h hcomp hg hc hr
    have hnone : NamesNoLaunch u ⟨c, p, tag, st, rf, nl, nx, ns, none, 0⟩ :=
      .inr (.inr ⟨hc, rfl, fun r hm ht => by simpa [ht] using List.find?_eq_none.mp hr r hm⟩)
    have hlog := (State.engineDone_eq_applyDone hg hcomp).trans (State.applyDone_eq_logErr hnone)
    exact hlog ▸ leaves_engineDone h

end Sys2Proof.Machine
end

section
/-! SUPPORT. What a counted happening leaves alone: every register but the counters. -/

namespace Sys2Proof.Machine

variable {s : State} {q : Reg} {k l : Nat}

/-- The counters stand in a row of 1024 words. -/
theorem key_obsCnt (m : Nat) : Reg.key .OBS_CNT m 0 = 950272 + 8 * m := rfl

theorem State.pcfgHits_lt {i j : Nat} {x : Who3} (h : j ∈ s.pcfgHits i x) : j < 512 := by
  simp only [State.pcfgHits, List.mem_map, List.mem_filter, Bool.and_eq_true, decide_eq_true_eq] at h
  obtain ⟨e, ⟨-, ⟨hlo, hhi⟩, -⟩, rfl⟩ := h
  omega

section
variable (h : q.key k l < 950272 ∨ 958464 ≤ q.key k l)
include h

theorem State.reg_cntAdd1_other {i n : Nat} (hi : i < 1024) : (s.cntAdd1 i n).reg q k l = s.reg q k l :=
  State.reg_setReg_ne s _ (by rw [key_obsCnt]; omega)

theorem State.reg_count_other {i n : Nat} {x : Who3} (hi : i < 1024) : (s.count i n x).reg q k l = s.reg q k l := by
  have hfold (js : List Nat) (hjs : ∀ j ∈ js, j < 512) (u : State) :
      (js.foldl (fun s j => s.cntAdd1 (512 + j) n) u).reg q k l = u.reg q k l := by
    induction js generalizing u with
    | nil => rfl
    | cons j js ih =>
      have hj := hjs j List.mem_cons_self
      rw [List.foldl_cons, ih (fun m hm => hjs m (List.mem_cons_of_mem _ hm)), State.reg_cntAdd1_other h (by omega)]
  unfold State.count
  split
  · rfl
  · rw [hfold _ fun j hj => State.pcfgHits_lt hj, State.reg_cntAdd1_other h hi]

theorem State.rb_count_other {i n b : Nat} {x : Who3} (hi : i < 1024) : (s.count i n x).rb q k l b = s.rb q k l b := by
  rw [State.rb, State.reg_count_other h hi, State.rb]

theorem State.rf_count_other {i n a b : Nat} {x : Who3} (hi : i < 1024) : (s.count i n x).rf q k l a b = s.rf q k l a b := by
  rw [State.rf, State.reg_count_other h hi, State.rf]

end

end Sys2Proof.Machine
end

section
/-! SUPPORT. The sag lines (R215). -/

namespace Sys2Proof.Machine

variable {s u : State} {l g : Nat}

theorem sagGroups_lt (h : l < 16) : ∀ g ∈ sagGroups l, g < 8 := by
  revert h l
  decide

/-- The stretches that a rising line raises. -/
theorem getLsbD_foldl_or {b : BitVec 8} {gs : List Nat} (hg : g < 8) :
    (gs.foldl (fun (b : BitVec 8) g => b ||| (1#8 <<< g)) b).getLsbD g = (b.getLsbD g || gs.contains g) := by
  induction gs generalizing b with
  | nil => simp
  | cons a gs ih =>
    rw [List.foldl_cons, ih, BitVec.getLsbD_or, List.contains_cons, Bool.or_assoc]
    congr 2
    by_cases h : g = a
    · subst h
      simp [hg]
    · rw [beq_eq_false_iff_ne.mpr h, BitVec.getLsbD_shiftLeft, BitVec.getLsbD_one]
      by_cases ha : g < a
      · simp [ha]
      · have : g - a ≠ 0 := by omega
        simp [this]

/-- The groups of a rising line that was armed and not yet up. -/
theorem State.sagRise_armed (hl : l < 16) (hr : u.gov.rung < 2) (harm : u.rb .GOV_SAG_CFG 0 0 5 = true) (hc : u.critical = false)
    (hup : ∃ g ∈ sagGroups l, u.gov.sagUp.getLsbD g = false) :
    u.sagRise l = ((((u.setB .GOV_SAG_STAT 0 0 l true).setGov (fun v => { v with
        sagUp := (sagGroups l).foldl (fun (b : BitVec 8) g => b ||| (1#8 <<< g)) v.sagUp,
        fallAt := v.fallAt.filter (fun e => !(sagGroups l).contains e.1) })).bump .GOV_SAG_STAT 0 0 16 32 1).count (304 + l)).emits
      (((sagGroups l).filter (fun g => !u.gov.sagUp.getLsbD g)).map (fun g => Emit.stretch g true)) := by
  have hl' : ¬ 16 ≤ l := by omega
  have hr' : ¬ 2 ≤ u.gov.rung := by omega
  have harm' : (u.setB .GOV_SAG_STAT 0 0 l true).rb .GOV_SAG_CFG 0 0 5 = true := (State.rb_setB_other (by decide)).trans harm
  have hc' : ∀ f, ((u.setB .GOV_SAG_STAT 0 0 l true).setGov f).critical = false := fun f =>
    (State.rb_setB_other (s := u) (by decide)).trans hc
  have hne : ((sagGroups l).filter (fun g => !u.gov.sagUp.getLsbD g)).isEmpty = false := by
    obtain ⟨g, hg, hlow⟩ := hup
    rw [List.isEmpty_eq_false_iff_exists_mem]
    exact ⟨g, by simp [hg, hlow]⟩
  simp only [State.sagRise, hl', hr', harm', hc', hne, State.setB_gov, decide_false, Bool.false_or, Bool.false_eq_true, if_false,
    Bool.not_true]

theorem State.count_out {i k : Nat} {x : Who3} : (u.count i k x).out = u.out := by
  obtain ⟨_, _, _, h⟩ := State.count_counted (s := u) i k x
  rw [h]

theorem State.count_gov {i k : Nat} {x : Who3} : (u.count i k x).gov = u.gov := by
  obtain ⟨_, _, _, h⟩ := State.count_counted (s := u) i k x
  rw [h]

/-- The groups whose 200 ns begin. -/
theorem State.foldl_fallAt {gs : List Nat} {v : State}
    (hv : v = gs.foldl (fun s g => s.setGov (fun x => { x with fallAt := Tab.set x.fallAt g s.ref })) u) :
    v.regs = u.regs ∧ v.out = u.out ∧ v.gov.sagUp = u.gov.sagUp ∧ v.ref = u.ref
    ∧ (∀ g ∉ gs, Tab.get? v.gov.fallAt g = Tab.get? u.gov.fallAt g) ∧ ∀ g ∈ gs, Tab.get? v.gov.fallAt g = some u.ref := by
  induction gs generalizing u with
  | nil => subst hv; simp
  | cons a gs ih =>
    obtain ⟨hregs, hout, hup, href, hold, hnew⟩ := ih hv
    refine ⟨hregs, hout, hup, href, fun g hg => ?_, fun g hg => ?_⟩
    · simp only [List.mem_cons, not_or] at hg
      exact (hold g hg.2).trans (Tab.get?_set_ne _ _ hg.1)
    · by_cases hm : g ∈ gs
      · exact hnew g hm
      · obtain rfl : g = a := (List.mem_cons.mp hg).resolve_right hm
        exact (hold g hm).trans (Tab.get?_set_same _ _ _)

/-- Settles O9. -/
theorem sagLinesMoveTheStretch : Obligations.SagLinesMoveTheStretch := by
  refine ⟨?_, ?_, ?_, ?_, ?_, ?_⟩
  · intro s t u l h hl hr harm hc hup
    refine (leaves_act (·.sagRise l) h rfl (State.sagRise_armed hl hr harm hc hup)).some ⟨?_, ?_, ?_, ?_⟩
    · refine (State.rb_congr rfl).trans ((State.rb_count_other (by decide) (by omega)).trans ?_)
      rw [State.bump, State.rb_setF_ne _ _ _ _ _ (by decide) (by omega)]
      exact State.rb_setB_same u _ _ _ _ (by omega)
    · refine (State.rf_congr rfl).trans ((State.rf_count_other (by decide) (by omega)).trans ?_)
      rw [State.bump, State.rf_setF_same _ _ _ _ _ (by decide), Nat.mod_eq_of_lt (by simp only [satAdd]; omega)]
      exact congrArg (satAdd _ · 1) (State.rf_setB_ne u _ _ _ _ (by omega) (by omega))
    · rw [State.emits, State.count_out]
      rfl
    · intro g hg
      simp only [State.emits, State.count_gov, State.bump, State.setF_gov]
      simp [State.setGov, getLsbD_foldl_or (sagGroups_lt hl g hg), hg]
  · intro s t u l h hl hr harm
    refine leaves_act (·.sagRise l) h rfl ?_
    have hl' : ¬ 16 ≤ l := by omega
    have hr' : ¬ 2 ≤ u.gov.rung := by omega
    have harm' : (u.setB .GOV_SAG_STAT 0 0 l true).rb .GOV_SAG_CFG 0 0 5 = false := (State.rb_setB_other (by decide)).trans harm
    simp [State.sagRise, hl', hr', harm']
  · intro s t u l h hr
    exact leaves_act (·.sagRise l) h rfl (by simp [State.sagRise, hr])
  · intro s t u l h hl hb
    have hl' : ¬ 16 ≤ l := by omega
    obtain ⟨hregs, hout, hup, -, -, hnew⟩ := State.foldl_fallAt (u := u.setB .GOV_SAG_STAT 0 0 l false)
      (gs := (sagGroups l).filter (fun g => u.gov.sagUp.getLsbD g && !(u.setB .GOV_SAG_STAT 0 0 l false).sagHigh g)) rfl
    refine (leaves_act (·.sagFall l) h rfl (by simp [State.sagFall, hl', hb])).some ⟨?_, hout, hup, ?_⟩
    · exact (State.rb_congr hregs).trans (State.rb_setB_same _ _ _ _ _ (by omega))
    · intro g hg hu hh
      exact hnew g (by simp [hg, hu, hh])
  · intro s t u g a h ha hle hc
    have hlt : ¬ u.ref < a + 200 := by omega
    have hc' : ∀ f, (u.setGov f).critical = false := fun f => hc
    refine (leaves_act (·.stretchDrop g) h rfl (by simp [State.stretchDrop, ha, hlt, hc']; rfl)).some ⟨rfl, ?_, rfl⟩
    exact Tab.get?_erase_same _ _
  · intro s t u g a h ha hlt
    exact leaves_act (·.stretchDrop g) h rfl (by simp [State.stretchDrop, ha, hlt])

end Sys2Proof.Machine
end

section
/-! SUPPORT. Meters, sensors and the governor's beat (R199 to R201, R208 to R214, R217, R218). -/

namespace Sys2Proof.Machine

variable {u : State}

/-- The sample of a core that runs nothing. -/
theorem State.coreSample_idle {m nj : Nat} (h : (nth u.cores m {}).run = none) :
    u.coreSample m nj = { u with gov := { u.gov with
      meters := Tab.set u.gov.meters m { last := u.ref, nj := nj, per := u.ref - (Tab.getD u.gov.meters m {}).last, attr := 0 },
      unattrNj := u.gov.unattrNj + ((nj : Int) - (Tab.getD u.gov.meters m {}).attr), totalNj := u.gov.totalNj + nj,
      bktTot := u.gov.bktTot + nj, ivl := Tab.set u.gov.ivl m (Tab.getD u.gov.ivl m 0 + nj) } } := by
  simp only [State.coreSample, h]

/-- The sample of the uncore while no task is there. -/
theorem State.uncoreSample_idle {nj : Nat} (h : u.tasks = []) :
    u.uncoreSample nj = { u with gov := { u.gov with
      meters := Tab.set u.gov.meters 48 { last := u.ref, nj := nj, per := u.ref - (Tab.getD u.gov.meters 48 {}).last, attr := 0 },
      unattrNj := u.gov.unattrNj + ((nj : Int) - (Tab.getD u.gov.meters 48 {}).attr), totalNj := u.gov.totalNj + nj,
      bktTot := u.gov.bktTot + nj, ivlUn := u.gov.ivlUn + nj, unWt := 0, unT := 0 } } := by
  simp only [State.uncoreSample, h, List.filter_nil, List.map_nil, List.foldl_nil]

theorem key_govTemp (n : Nat) : Reg.key .GOV_TEMP n 0 = 394368 + 8 * n := rfl

theorem to16_lt (x : Int) : to16 x < 2 ^ 16 := (BitVec.ofInt 16 x).isLt

/-- A sample in range shows, and its sensor is not stale. -/
theorem State.sensor_fresh {n : Nat} {x : Int} (hn : n < 64) (hx : freshSample (some x) = true) :
    (u.sensor n (some x)).rf .GOV_TEMP (n / 4) 0 (16 * (n % 4)) 16 = to16 x ∧ (u.sensor n (some x)).rb .GOV_STALE 0 0 n = false := by
  have hstale : Reg.key .GOV_TEMP (n / 4) 0 ≠ Reg.key .GOV_STALE 0 0 := by
    rw [key_govTemp]
    show _ ≠ 393296
    omega
  have hfailed : Reg.key .GOV_TEMP (n / 4) 0 ≠ Reg.key .GOV_FAILED 0 0 := by
    rw [key_govTemp]
    show _ ≠ 393304
    omega
  simp only [State.sensor, hx, if_true, State.when, Option.getD_some]
  split
  all_goals
    simp only [State.rf_setB_other hfailed, State.rf_setB_other hstale, State.rb_setB_other (q := .GOV_STALE) (r := .GOV_FAILED)
      (show Reg.key .GOV_STALE 0 0 ≠ Reg.key .GOV_FAILED 0 0 by decide), State.rf_setF_same _ _ _ _ _ (show 16 * (n % 4) + 16 ≤ 64 by omega),
      State.rb_setB_same _ _ _ _ _ hn, Nat.mod_eq_of_lt (to16_lt x), and_self]

theorem State.closeBucket_rung : u.closeBucket.gov.rung = u.gov.rung := rfl

/-- Settles O10. -/
theorem samplesDriveTheGovernor : Obligations.SamplesDriveTheGovernor := by
  refine ⟨?_, ?_, ?_, ?_, ?_, ?_, ?_, ?_⟩
  · intro s t u m nj h hm hrun
    refine (leaves_act (fun s => if m < 48 then s.coreSample m nj else if m = 48 then s.uncoreSample nj else s) h rfl
      ((if_pos hm).trans (State.coreSample_idle hrun))).some ?_
    exact ⟨rfl, rfl, rfl, Tab.get?_set_same _ _ _, rfl, rfl, rfl⟩
  · intro s t u nj h ht
    have hs := leaves_act (fun s => if 48 < 48 then s.coreSample 48 nj else if 48 = 48 then s.uncoreSample nj else s)
      (c := .meterSample t 48 nj) h rfl rfl
    rw [if_neg (by decide), if_pos rfl, State.uncoreSample_idle ht] at hs
    exact hs.some ⟨rfl, rfl, rfl, rfl, rfl⟩
  · intro s t u l h hr
    have hr' : ¬ 4 ≤ u.gov.rung := by omega
    exact leaves_dev (·.thermal l) h rfl (if_neg hr')
  · intro s t u l h hr
    exact leaves_dev (·.thermal l) h rfl (if_pos hr)
  · intro u n x hn hx
    exact State.sensor_fresh hn hx
  · intro s t u h hr
    refine (leaves_act State.priceUpdate h rfl (if_pos (State.closeBucket_rung.symm ▸ hr))).some ⟨?_, rfl, rfl, ?_⟩
    · simp [State.closeBucket, hr, State.setGov]
    · exact State.reg_setReg_ne _ _ (by decide)
  · intro s t u h hr
    have hr' : ¬ 4 ≤ u.closeBucket.gov.rung := by rw [State.closeBucket_rung]; omega
    have hprofile : u.closeBucket.rf .GOV_PROFILE 0 0 0 2 = u.rf .GOV_PROFILE 0 0 0 2 := State.rf_setReg_other (s := u.setGov _) (by decide)
    refine leaves_act State.priceUpdate h rfl ?_
    simp only [State.priceUpdate, if_neg hr', hprofile]
  · intro s t u c p h hc hp hlt
    have hdone : u.vfDone c = (u.setGov (fun g => { g with vfReq := Tab.erase g.vfReq c })).setF .GOV_VF 0 0 (4 * c) 4 p := by
      simp only [State.vfDone, hp]
    refine (leaves_act (·.vfDone c) h rfl hdone).some ⟨?_, rfl, rfl⟩
    exact (State.rf_setF_same _ _ _ _ _ (by omega)).trans (Nat.mod_eq_of_lt hlt)

end Sys2Proof.Machine
end

section
/-! SUPPORT. The discrete inputs (R48, R49, R50, R52). -/

namespace Sys2Proof.Machine

variable {u : State} {n : Nat} {pin : Bool}

/-- The state of an input is kept in registers of its own. -/
theorem key_dinStat_ne (hn : n < 9) : Reg.key .VXB_START_STAT 0 0 ≠ Reg.key .VXB_DIN_STAT n 0
    ∧ Reg.key .OBS_STOP_STAT 0 0 ≠ Reg.key .VXB_DIN_STAT n 0 ∧ Reg.key .ERR_STAT 0 0 ≠ Reg.key .VXB_DIN_STAT n 0
    ∧ Reg.key .VXB_DIN_CFG n 0 ≠ Reg.key .VXB_DIN_STAT n 0 ∧ Reg.key .GOV_ALARM_CFG 0 0 ≠ Reg.key .VXB_DIN_STAT n 0
    ∧ Reg.key .GOV_ALARM_CFG 0 0 ≠ Reg.key .VXB_DIN_CFG n 0 := by
  revert n
  decide

theorem State.rb_updDin {f : Din → Din} {r : Reg} {i j b : Nat} : (u.updDin n f).rb r i j b = u.rb r i j b := rfl

theorem State.rf_updDin {f : Din → Din} {r : Reg} {i j a b : Nat} : (u.updDin n f).rf r i j a b = u.rf r i j a b := rfl

theorem State.din_updDin {f : Din → Din} : (u.updDin n f).din n = f (u.din n) := by
  simp [State.updDin, State.din, Tab.getD]

/-- An input whose level rises to its active side: LEVEL, and the measurement of a stuck level. -/
def State.dinRisen (u : State) (n : Nat) : State :=
  (u.setB .VXB_DIN_STAT n 0 2 true).updDin n (fun d => { d with since := u.ref })

theorem State.alive_dinRisen (hn : n < 9) : (u.dinRisen n).alive = u.alive := by
  obtain ⟨hstart, hstop, herr, -⟩ := key_dinStat_ne hn
  simp only [State.dinRisen, State.rb_updDin, State.alive, State.ready, State.gstopped, State.haltedAll, State.rb_setB_other hstart,
    State.rb_setB_other hstop, State.rb_setB_other herr]

theorem State.dinCfg_dinRisen (hn : n < 9) {a b : Nat} :
    (u.dinRisen n).rb .VXB_DIN_CFG n 0 a = u.rb .VXB_DIN_CFG n 0 a ∧ (u.dinRisen n).rf .VXB_DIN_CFG n 0 a b = u.rf .VXB_DIN_CFG n 0 a b := by
  obtain ⟨-, -, -, hcfg, -⟩ := key_dinStat_ne hn
  simp only [State.dinRisen, State.rb_updDin, State.rf_updDin, State.rb_setB_other hcfg, State.rf_setB_other hcfg, and_self]

theorem State.dinStat_dinRisen {b : Nat} (hb : b ≠ 2) : (u.dinRisen n).rb .VXB_DIN_STAT n 0 b = u.rb .VXB_DIN_STAT n 0 b :=
  State.rb_setB_ne u _ _ _ _ (by decide) hb

/-- An edge to the active level of an input, with what R219 makes of it where it is an alarm. -/
theorem State.dinEdge_active (hn : n < 9) (hlev : (pin != u.rb .VXB_DIN_CFG n 0 32) = true) (hlow : u.rb .VXB_DIN_STAT n 0 2 = false) :
    u.dinEdge n pin =
      let w := (u.dinRisen n).when (1 ≤ n && n ≤ 4) (fun s => s.setB .GOV_ALARM_CFG 0 0 1 s.alarmIn)
      if !w.alive || !w.rb .VXB_DIN_CFG n 0 36 || !(true || w.rb .VXB_DIN_CFG n 0 33) then w
      else
        let ok := match (w.din n).last with
          | none => true
          | some t => t + w.rf .VXB_DIN_CFG n 0 0 16 * 1000 ≤ w.ref
        if ok && !w.rb .VXB_DIN_STAT n 0 1 then w.dinAccept n else w.bump .VXB_DIN_STAT n 0 16 8 1 := by
  have hn' : ¬ 9 ≤ n := by omega
  rw [State.dinEdge, hlev, hlow, if_neg (by simp [hn'])]
  rfl

theorem State.dinEdge_plain (hn : n = 0 ∨ (5 ≤ n ∧ n < 9)) (ha : u.alive = true) (hlev : (pin != u.rb .VXB_DIN_CFG n 0 32) = true)
    (hlow : u.rb .VXB_DIN_STAT n 0 2 = false) (hon : u.rb .VXB_DIN_CFG n 0 36 = true) :
    u.dinEdge n pin =
      if (match (u.din n).last with | none => true | some t => decide (t + u.rf .VXB_DIN_CFG n 0 0 16 * 1000 ≤ u.ref))
        && !u.rb .VXB_DIN_STAT n 0 1 then (u.dinRisen n).dinAccept n
      else (u.dinRisen n).bump .VXB_DIN_STAT n 0 16 8 1 := by
  have hn9 : n < 9 := by omega
  have hplain : (decide (1 ≤ n) && decide (n ≤ 4)) = false := by
    simp only [Bool.and_eq_false_imp, decide_eq_true_eq, decide_eq_false_iff_not]
    omega
  have hlast : ((u.dinRisen n).din n).last = (u.din n).last := by rw [State.dinRisen, State.din_updDin]; rfl
  rw [State.dinEdge_active hn9 hlev hlow]
  simp only [hplain, State.when, Bool.false_eq_true, if_false, State.alive_dinRisen hn9, ha, (State.dinCfg_dinRisen hn9 (b := 0)).1, hon,
    hlast, State.dinStat_dinRisen (show 1 ≠ 2 by decide), (State.dinCfg_dinRisen hn9).2]
  rfl

/-- An input that the filter or a quench keeps out counts in CLOSE. -/
theorem State.dinClose_shows :
    ((u.dinRisen n).bump .VXB_DIN_STAT n 0 16 8 1).rb .VXB_DIN_STAT n 0 0 = u.rb .VXB_DIN_STAT n 0 0
    ∧ ((u.dinRisen n).bump .VXB_DIN_STAT n 0 16 8 1).rf .VXB_DIN_STAT n 0 16 8 = satAdd 255 (u.rf .VXB_DIN_STAT n 0 16 8) 1
    ∧ ((u.dinRisen n).bump .VXB_DIN_STAT n 0 16 8 1).out = u.out := by
  refine ⟨?_, ?_, rfl⟩
  · rw [State.bump, State.rb_setF_ne _ _ _ _ _ (by decide) (by decide), State.dinStat_dinRisen (by decide)]
  · have hrf : (u.dinRisen n).rf .VXB_DIN_STAT n 0 16 8 = u.rf .VXB_DIN_STAT n 0 16 8 :=
      State.rf_setB_ne u _ _ _ _ (by decide) (by decide)
    rw [State.bump, State.rf_setF_same _ _ _ _ _ (by decide), hrf]
    exact Nat.mod_eq_of_lt (by simp only [satAdd]; omega)

theorem State.dinPendClear_pending (hn : n < 9) (hp : u.rb .VXB_DIN_STAT n 0 0 = true) (hl : (u.din n).last ≠ some u.ref) :
    u.dinPendClear n = (u.setB .VXB_DIN_STAT n 0 0 false).updDin n (fun d => { d with armed := true, since := u.ref }) := by
  have hn' : ¬ 9 ≤ n := by omega
  simp [State.dinPendClear, hn', hp, hl]

/-- Settles O11. -/
theorem discreteInputsAcceptAndQuench : Obligations.DiscreteInputsAcceptAndQuench := by
  refine ⟨?_, ?_, ?_, ?_, ?_, ?_, ?_, ?_, ?_, ?_⟩
  · intro s t n pin hn
    exact leaves_any (·.dinEdge n pin) rfl (by simp [State.dinEdge, hn])
  · intro s t n pin hn ha hlev hlow hon hq hl
    refine leaves_any (·.dinEdge n pin) rfl ?_
    rw [State.dinEdge_plain hn ha hlev hlow hon, hl, hq]
    rfl
  · intro s t n pin u h1 h4 ha hlev hlow hon hq hl hu
    refine leaves_any (·.dinEdge n pin) rfl ?_
    have hn9 : n < 9 := by omega
    obtain ⟨hstart, hstop, herr, hcfg, hstat, hcfg'⟩ := key_dinStat_ne hn9
    change u = (s.at t).dinRisen n at hu
    have halarm : (decide (1 ≤ n) && decide (n ≤ 4)) = true := by simp [h1, h4]
    have halive : (u.setB .GOV_ALARM_CFG 0 0 1 u.alarmIn).alive = true := by
      rw [← ha, ← State.alive_dinRisen (u := s.at t) hn9, ← hu]
      simp only [State.alive, State.ready, State.gstopped, State.haltedAll, State.rb_setB_other (r := .GOV_ALARM_CFG)
        (show Reg.key .VXB_START_STAT 0 0 ≠ Reg.key .GOV_ALARM_CFG 0 0 by decide), State.rb_setB_other (r := .GOV_ALARM_CFG)
        (show Reg.key .OBS_STOP_STAT 0 0 ≠ Reg.key .GOV_ALARM_CFG 0 0 by decide), State.rb_setB_other (r := .GOV_ALARM_CFG)
        (show Reg.key .ERR_STAT 0 0 ≠ Reg.key .GOV_ALARM_CFG 0 0 by decide)]
    have hon' : (u.setB .GOV_ALARM_CFG 0 0 1 u.alarmIn).rb .VXB_DIN_CFG n 0 36 = true := by
      rw [State.rb_setB_other hcfg'.symm, hu, (State.dinCfg_dinRisen hn9 (b := 0)).1, hon]
    have hq' : (u.setB .GOV_ALARM_CFG 0 0 1 u.alarmIn).rb .VXB_DIN_STAT n 0 1 = false := by
      rw [State.rb_setB_other hstat.symm, hu, State.dinStat_dinRisen (by decide), hq]
    have hl' : ((u.setB .GOV_ALARM_CFG 0 0 1 u.alarmIn).din n).last = none := by
      have : (u.din n).last = none := by
        rw [hu, State.dinRisen, State.din_updDin]
        exact hl
      exact this
    rw [State.dinEdge_active hn9 hlev hlow, halarm, ← hu]
    simp only [State.when, if_true, halive, hon', hq', hl']
    rfl
  · intro s t n pin h5 h9 ha hlev hlow hon hq
    obtain ⟨hpend, hclose, hout⟩ := State.dinClose_shows (u := s.at t) (n := n)
    refine (leaves_any (·.dinEdge n pin) rfl ?_).some ⟨hpend, hclose, hout.trans (State.at_out ..)⟩
    rw [State.dinEdge_plain (.inr ⟨h5, h9⟩) ha hlev hlow hon, hq, if_neg (by simp)]
  · intro s t n pin a h5 h9 ha hlev hlow hon hq hl hsoon
    obtain ⟨hpend, hclose, hout⟩ := State.dinClose_shows (u := s.at t) (n := n)
    refine (leaves_any (·.dinEdge n pin) rfl ?_).some ⟨hpend, hclose, hout.trans (State.at_out ..)⟩
    rw [State.dinEdge_plain (.inr ⟨h5, h9⟩) ha hlev hlow hon, hl, if_neg (by simp; omega)]
  · intro s t u n h hn hon hlim harm hlev hsince hq
    refine leaves_act (·.dinStuck n) h rfl ?_
    have hn' : ¬ 9 ≤ n := by omega
    have hsince' : ¬ u.ref < (u.din n).since + u.rf .VXB_DIN_CFG n 0 16 16 * 1000 := by omega
    simp [State.dinStuck, hn', hon, hlim, harm, hlev, hsince', hq]
  · intro s t who u n h hn hp hl
    exact (leaves_regWr (·.dinPendClear n) h rfl (State.dinPendClear_pending hn hp hl)).some
      ⟨State.rb_setB_same u _ _ _ _ (by decide), State.din_updDin, rfl⟩
  · intro s t who u n h hl
    exact leaves_regWr (·.dinPendClear n) h rfl (by simp [State.dinPendClear, hl])
  · intro s t who u n h hn hlev
    have hn' : ¬ 9 ≤ n := by omega
    exact leaves_regWr (·.dinUnquench n) h rfl (by simp [State.dinUnquench, hn', hlev])
  · intro s t who u n h hn hlev
    exact leaves_regWr (·.dinUnquench n) h rfl (by simp [State.dinUnquench, hlev])

end Sys2Proof.Machine
end


section
/-! SUPPORT. Register accesses (R9, R10, R345, R464, R465, R467) and vendor requests. -/

namespace Sys2Proof.Machine

variable {s u : State} {who : Who} {win : Window} {off : Nat} {v : Word} {x : Reg × Nat × Nat}

theorem State.writeAccess_taken_wide (h : (s.reaches who win && s.mayWrite who) = true) (hoff : off % 8 = 0) (hx : regOf win off = some x)
    (hw : x.1.spec.wide = true) :
    s.writeAccess who win off 8 v = (s.hostTouch who true).writeReg (byMgmt who) x.1 x.2.1 x.2.2 v := by
  rw [Bool.and_eq_true] at h
  simp [State.writeAccess, h.1, h.2, hoff, hx, hw]

theorem State.writeAccess_taken_narrow (h : (s.reaches who win && s.mayWrite who) = true) (hoff : off % 4 = 0) (hx : regOf win off = some x)
    (hw : x.1.spec.wide = false) :
    s.writeAccess who win off 4 v
      = (s.hostTouch who true).writeReg (byMgmt who) x.1 x.2.1 x.2.2 (BitVec.ofNat 64 (fld v 0 32)) := by
  rw [Bool.and_eq_true] at h
  have hlow : fld v 0 32 % 2 ^ 32 = fld v 0 32 := Nat.mod_eq_of_lt (Nat.mod_lt _ (by decide))
  simp only [State.writeAccess, h.1, h.2, hoff, State.write32, hx, hw, hlow, decide_true, Bool.not_true, Bool.or_self, Bool.and_self,
    Bool.false_and, Bool.false_eq_true, if_false, if_true]

theorem State.writeAccess_dropped {n : Nat} (h : (s.reaches who win && s.mayWrite who) = false) : s.writeAccess who win off n v = s := by
  rw [Bool.and_eq_false_iff] at h
  rcases h with h | h <;> simp [State.writeAccess, h]

/-- An 8-byte read of a 64-bit register at its place. -/
theorem State.readReg_taken_wide (hr : s.reaches who win = true) (hm : s.mayRead who (some x.1) = true) (hoff : off % 8 = 0)
    (hx : regOf win off = some x) (hw : x.1.spec.wide = true) (hne : x.1 ≠ .EV_FN_VALUE) :
    s.readReg who win off 8 none
      = ((s.hostTouch who false).afterRead x.1 x.2.1 x.2.2 none).emit
        (.regData who ((s.hostTouch who false).readWord (byMgmt who) x.1 x.2.1 x.2.2)) := by
  simp [State.readReg, State.readAccess, hr, hm, hoff, hx, hw, hne]

/-- A vendor request is carried out inside the management session alone. -/
theorem leaves_vendorRequest {t : Nat} {q : MgmtReq} (h : (s.at t).vendorRequest q = u) : Leaves (.mgmtVendorRequest t q) s u :=
  leaves_any (·.vendorRequest q) rfl h

theorem State.vendorRequest_out {q : MgmtReq} (h : s.inSession .mgmt = false) : s.vendorRequest q = s := by
  simp [State.vendorRequest, h]

/-- Settles O13. -/
theorem registerAccessesReachTheirRegister : Obligations.RegisterAccessesReachTheirRegister := by
  refine ⟨?_, ?_, ?_, ?_, ?_, ?_, ?_, ?_, ?_⟩
  · rintro s t who win u off v x ⟨htaken, rfl⟩ hoff hx hw
    exact State.writeAccess_taken_wide htaken hoff hx hw ▸ leaves_registerWrite
  · rintro s t who win u off v x ⟨htaken, rfl⟩ hoff hx hw
    exact State.writeAccess_taken_narrow htaken hoff hx hw ▸ leaves_registerWrite
  · intro s t who win off n v h
    have hdropped : (s.at t).writeAccess who win off n v = s.at t := State.writeAccess_dropped h
    exact hdropped ▸ leaves_registerWrite
  · rintro s t who win u off x ⟨hr, hm, rfl⟩ hoff hx hw hne
    exact State.readReg_taken_wide hr hm hoff hx hw hne ▸ leaves_rcRegisterRead
  · intro s t who win off n rv h
    have hzero : (s.at t).readReg who win off n rv = (s.at t).emit (.regData who 0) := State.readReg_of_not_reaches h
    exact hzero ▸ leaves_rcRegisterRead
  · intro s t q h
    exact leaves_vendorRequest (State.vendorRequest_out h)
  · intro s t win off n v h
    exact leaves_vendorRequest (by simp [State.vendorRequest, h])
  · intro s t win off n h
    exact leaves_vendorRequest (by simp [State.vendorRequest, h])
  · intro s t k n off b g d h
    exact ⟨leaves_vendorRequest (by simp [State.vendorRequest, h]), leaves_vendorRequest (by simp [State.vendorRequest, h]),
      leaves_vendorRequest (by simp [State.vendorRequest, h]), leaves_vendorRequest (by simp [State.vendorRequest, h])⟩

end Sys2Proof.Machine
end

section
/-! SUPPORT. Doorbells and consumer indices (R68, R69, R72, R83, R92, R467). -/

namespace Sys2Proof.Machine

variable {s u v : State} {t fn slot n q : Nat} {x : Sq} {w : Word}

/-- A table that has no error armed is read as it stands (R288). -/
theorem State.reading_plain (h : NoErrorArmed u) (tab : Nat) (e : TabErr) (f : State → State) : u.reading tab e f = f u := by
  obtain ⟨hbad, hfix⟩ := h
  simp [State.reading, State.readTab, hbad, hfix]

/-- The two doorbell rows are one write. -/
theorem leaves_bell (h : Writes s t (.fn fn) (.own fn) u) (hn : n = 4 ∨ n = 8) (he : NoErrorArmed u)
    (hv : u.doorbell fn slot (dbValue n w) = v) :
    Leaves (.sqDoorbell t fn slot n w) s v ∧ Leaves (.urgentDoorbell t fn slot n w) s v := by
  have hwidth : (n = 4 || n = 8) = true := by simpa using hn
  have hbell : bellAccess t fn slot n w s = regWr s t (.fn fn) (.own fn) (fun s => s.ringBell fn slot n w) := if_pos hwidth
  have hring : u.ringBell fn slot n w = v := (State.reading_plain he ..).trans hv
  exact ⟨leaves_regWr (·.ringBell fn slot n w) h hbell hring, leaves_regWr (·.ringBell fn slot n w) h hbell hring⟩

/-- A doorbell of an SQ that takes one. -/
theorem State.doorbell_open (hq : u.sqAt fn slot = some (q, x)) (htd : u.fnInTd fn = false) (hst : u.rb .ADM_STAT fn 0 2 = false)
    (hx : x.state = .active ∨ x.state = .held) :
    u.doorbell fn slot w =
      if piOk x.ci x.pi (w.setWidth 32) x.log2 then
        let v := (u.updSq q (fun x => { x with pi := w.setWidth 32 })).wake
        if bitOf w 63 || x.poll == 255 then v.urgent (some q) else v
      else (u.updSq q (fun x => { x with badPi := true })).wake := by
  have hx' : (x.state != .active && x.state != .held) = false := by rcases hx with h | h <;> simp [h]
  simp only [State.doorbell, hq, htd, hst, State.writePi, hx']
  by_cases hpi : piOk x.ci x.pi (w.setWidth 32) x.log2 = true <;> simp [hpi]

/-- Settles O14. -/
theorem doorbellsPublishEntries : Obligations.DoorbellsPublishEntries := by
  refine ⟨?_, ?_, ?_, ?_⟩
  · intro s t fn slot n v u q x h hn he hq htd hst hx hpi
    exact leaves_bell h hn he ((State.doorbell_open hq htd hst hx).trans (if_pos hpi))
  · intro s t fn slot n v u q x h hn he hq htd hst hx hpi
    exact leaves_bell h hn he ((State.doorbell_open hq htd hst hx).trans (if_neg (by simp [hpi])))
  · intro s t fn slot n v u h hn he hq
    exact leaves_bell h hn he (by simp [State.doorbell, hq])
  · intro s t fn slot n v h4 h8
    have hbell : bellAccess t fn slot n v s = actAny s t (fun s => s) := if_neg (by simp [h4, h8])
    exact ⟨leaves_any (fun s => s) hbell rfl, leaves_any (fun s => s) hbell rfl⟩

/-! ## Consumer indices -/

theorem State.writeCrCi_live {c : Nat} {y : Cr} {i : Half} (hc : u.crAt fn slot = some (c, y)) (hy : y.state = .active ∨ y.state = .held) :
    u.writeCrCi fn slot i
      = if ciOk y.pi y.ci i then u.updCr c (fun c => { c with ci := i }) else u.updCr c (fun c => { c with badCi := true }) := by
  have hy' : (y.state != .active && y.state != .held) = false := by rcases hy with h | h <;> simp [h]
  simp only [State.writeCrCi, hc, hy', Bool.false_eq_true, if_false]

/-- A 32-bit index written to the low half of its register shows there. -/
theorem State.rf_setF_half (r : Reg) (i j : Nat) (x : Half) : (u.setF r i j 0 32 x.toNat).rf r i j 0 32 = x.toNat := by
  rw [State.rf_setF_same _ _ _ _ _ (by decide)]
  exact Nat.mod_eq_of_lt x.isLt

theorem leaves_writeCi {who : Who} {g : CiTarget} {i : Half} (h : Writes s t who (ciWindow g) u) (hv : u.writeCi g i = v) :
    Leaves (.consumerIndexWrite t who g i) s v :=
  leaves_regWr (·.writeCi g i) h rfl hv

/-- An admin doorbell of a function whose admin queue is enabled. -/
theorem State.adminDoorbell_on {i : Half} (hen : u.rb .ADM_STAT n 0 0 = true) (hst : u.rb .ADM_STAT n 0 2 = false) (htd : u.fnInTd n = false) :
    u.adminDoorbell n i =
      if piOk (u.admCi n) (BitVec.ofNat 32 (u.rf .ADM_SQ_PI n 0 0 32)) i (admLog2 (u.rf .ADM_CFG n 0 0 4)) then
        if n = 0 then (u.setF .ADM_SQ_PI n 0 0 32 i.toNat).wake.admReread.urgent none
        else ((u.setF .ADM_SQ_PI n 0 0 32 i.toNat).setB .ADM_VF_PEND 0 0 n true).raise 10
      else u.setB .ADM_STAT n 0 3 true := by
  simp [State.adminDoorbell, hen, hst, htd]

/-- A resume of a held admin CR with nothing kept. -/
theorem State.adminResume_empty {f : Option Nat} (hheld : u.rb .ADM_STAT n 0 1 = true) (hst : u.rb .ADM_STAT n 0 2 = false)
    (hkept : Tab.get? u.admHeld n = none) :
    u.adminResume n f = ({ u with admHeld := Tab.erase u.admHeld n }).setB .ADM_STAT n 0 1 false := by
  simp [State.adminResume, hheld, hst, State.resumeAdm, Tab.getD, hkept]

/-- Settles O15. -/
theorem indexWritesAreChecked : Obligations.IndexWritesAreChecked := by
  refine ⟨?_, ?_, ?_, ?_, ?_, ?_, ?_, ?_, ?_, ?_, ?_⟩
  · intro s t who n k u c x v h hc hx hok
    exact leaves_writeCi (g := .cr n k) h ((State.writeCrCi_live hc hx).trans (if_pos hok))
  · intro s t who n k u c x v h hc hx hok
    exact leaves_writeCi (g := .cr n k) h ((State.writeCrCi_live hc hx).trans (if_neg (by simp [hok])))
  · intro s t who n u v h hok
    exact (leaves_writeCi (g := .admin n) h (if_pos hok)).some ⟨State.rf_setF_half .., rfl, rfl⟩
  · intro s t who n u v h hok
    exact leaves_writeCi (g := .admin n) h (if_neg (by simp [hok]))
  · intro s t who r u v h hok
    exact (leaves_writeCi (g := .traceRing r) h (if_pos hok)).some ⟨State.rf_setF_half .., rfl⟩
  · intro s t who r u v h hok
    exact leaves_writeCi (g := .traceRing r) h (if_neg (by simp [hok]))
  · intro s t who n r u v h hr hok
    have hring : u.writeFnRingCi n v = u.writeRingCi r v := by simp only [State.writeFnRingCi, hr]
    exact (leaves_writeCi (g := .traceFn n) h (hring.trans (if_pos hok))).some ⟨State.rf_setF_half .., rfl⟩
  · intro s t u v h hen hst htd hpi
    exact leaves_regWr (·.adminDoorbell 0 v) h rfl ((State.adminDoorbell_on hen hst htd).trans (if_pos hpi))
  · intro s t n u v h hen hst htd hpi
    exact leaves_regWr (·.adminDoorbell n v) h rfl ((State.adminDoorbell_on hen hst htd).trans (if_neg (by simp [hpi])))
  · intro s t n u v h0 h hen hst htd hpi
    have hn : n ≠ 0 := by omega
    exact leaves_regWr (·.adminDoorbell n v) h rfl ((State.adminDoorbell_on hen hst htd).trans ((if_pos hpi).trans (if_neg hn)))
  · intro s t n f u h hheld hst hkept
    exact (leaves_regWr (·.adminResume n f) h rfl (State.adminResume_empty hheld hst hkept)).some
      ⟨State.rb_setB_same _ _ _ _ _ (by decide), rfl, rfl⟩

end Sys2Proof.Machine
end


section
/-! SUPPORT. The scanner (R72 to R76). -/

namespace Sys2Proof.Machine

variable {s u : State} {t q n : Nat} {x : Sq} {c : Cr} {a : Word}

theorem Tab.get?_upd_same {α : Type} (t : Tab α) (k : Nat) (f : α → α) : Tab.get? (Tab.upd t k f) k = (Tab.get? t k).map f := by
  induction t with
  | nil => rfl
  | cons e t ih =>
    obtain ⟨j, a⟩ := e
    by_cases h : j = k
    · simp [Tab.upd, Tab.get?, h]
    · simp only [Tab.upd] at ih
      simp [Tab.upd, Tab.get?, h, ih]

theorem Tab.get?_upd_ne {α : Type} (t : Tab α) {k j : Nat} (f : α → α) (h : j ≠ k) : Tab.get? (Tab.upd t k f) j = Tab.get? t j := by
  induction t with
  | nil => rfl
  | cons e t ih =>
    obtain ⟨i, a⟩ := e
    simp only [Tab.upd] at ih
    by_cases hk : i = k
    · subst hk
      simp [Tab.upd, Tab.get?, h.symm, ih]
    · by_cases hj : i = j <;> simp [Tab.upd, Tab.get?, hk, hj, ih, h]

/-- A visit in a block that has no error armed. -/
theorem State.visitRead_plain {q : Option Nat} (h : NoErrorArmed u) (b : Bool) : u.visitRead q b = u.visit q b :=
  State.reading_plain h ..

theorem State.nextShort_first {q : Option Nat} {r : List (Option Nat)} (hu : u.scan.urgent = []) (hp : 0 < u.poolFree)
    (hs : u.scan.short = q :: r) (ho : u.shortOpen q = true) : u.nextShort = some q := by
  simp [State.nextShort, hu, hp, hs, ho]

theorem State.nextShort_none (h : u.scan.short.any u.shortOpen = false ∨ u.poolFree = 0) : u.nextShort = none := by
  unfold State.nextShort
  split
  next hc =>
    simp only [Bool.and_eq_true, decide_eq_true_eq] at hc
    have hany := h.resolve_right (by omega)
    simpa [List.find?_eq_none, List.any_eq_false] using hany
  next => rfl

/-- A fetch that does not wrap is one request. -/
theorem fetchParts_one {base : Word} {log2 : Nat} {i : Half} (h : i.toNat % ringSize log2 + n ≤ ringSize log2) :
    fetchParts base log2 i n = [(base + BitVec.ofNat 64 (64 * (i.toNat % ringSize log2)), 64 * n)] := by
  have hmin : min n (ringSize log2 - i.toNat % ringSize log2) = n := by omega
  simp [fetchParts, hmin]

/-- A read that is kept account of, of a block that is awake, through a port that is open. -/
theorem State.readMem_issued {tag : ReadTag} {b : Nat} (hopen : u.closed (u.portOf a) = false) (hr : u.gov.rung < 3) (ht : readTracked tag = true) :
    ∃ v, u.Counted v ∧ u.readMem tag a b
      = { v with out := u.out ++ [.read (u.access (u.readIssuer tag) a) tag a b],
                 reads := u.reads ++ [{ tag := tag, port := u.portOf a, addr := a, bytes := b }] } := by
  have hr' : ¬ 3 ≤ u.gov.rung := by omega
  cases hp : u.portOf a == .host
  · refine ⟨u, .refl u, ?_⟩
    simp [State.readMem, hopen, State.memWake, State.when, hr', hp, ht, State.emit]
  · obtain ⟨g, k, c, hcount⟩ := State.count_counted (s := u.emit (.read (u.access (u.readIssuer tag) a) tag a b)) 176 b (u.readIssuer tag).who
    refine ⟨{ u with regs := g, fresh := k, ctxs := c }, ⟨g, k, c, rfl⟩, ?_⟩
    simp only [State.readMem, hopen, State.memWake, State.when, decide_false, hr', hp, ht, Bool.false_eq_true, if_false, if_true, hcount]
    rfl

/-- A visit of an open SQ that has entries to fetch, room for them and for their completions. -/
theorem State.visitSq_fetches (hx : Tab.get? u.sqs q = some x) (ho : u.sqOpen x = true) (hc : Tab.get? u.crs x.cr = some c)
    (hr : u.gov.rung < 3) (hn : n = min (x.pi - x.fetched).toNat (min (min (x.depth - x.buffered) u.poolFree) c.free)) (h0 : 0 < n)
    (hfit : x.fetched.toNat % ringSize x.log2 + n ≤ ringSize x.log2)
    (ha : a = x.base + BitVec.ofNat 64 (64 * (x.fetched.toNat % ringSize x.log2))) (hopen : u.closed (u.portOf a) = false) :
    (u.visitSq q).out = u.out ++ [.read (u.access (u.readIssuer (.entryFetch q)) a) (.entryFetch q) a (64 * n)]
    ∧ Tab.get? (u.visitSq q).sqs q = some { x with fetched := x.fetched + BitVec.ofNat 32 n }
    ∧ Tab.get? (u.visitSq q).crs x.cr = some { c with reserved := c.reserved + n }
    ∧ (u.visitSq q).reads = u.reads ++ [{ tag := .entryFetch q, port := u.portOf a, addr := a, bytes := 64 * n }]
    ∧ (u.visitSq q).scan.visits = u.scan.visits ++ [(q, n)] := by
  let s1 := u.updCr x.cr (fun c => { c with reserved := c.reserved + n })
  obtain ⟨v, hv, hread⟩ := State.readMem_issued (u := s1) (tag := .entryFetch q) (a := a) (b := 64 * n) hopen hr rfl
  let s2 := ((s1.readMem (.entryFetch q) a (64 * n)).noteVisit q n).updSq q (fun x => { x with fetched := x.fetched + BitVec.ofNat 32 n })
  have hvisit : u.visitSq q = s2.markShort (some q)
      (n < min (x.pi - x.fetched).toNat (min (x.depth - x.buffered) c.free) && s2.poolFree == 0) := by
    have hn0 : n ≠ 0 := by omega
    simp only [State.visitSq, hx, ho, hc, ← hn, Bool.not_true, Bool.false_eq_true, if_false, if_neg hn0, State.fetch, fetchParts_one hfit,
      List.foldl_cons, List.foldl_nil, ← ha]
    rfl
  obtain ⟨_, _, _, rfl⟩ := hv
  have hall : (u.visitSq q).out = s1.out ++ [.read (s1.access (s1.readIssuer (.entryFetch q)) a) (.entryFetch q) a (64 * n)]
      ∧ (u.visitSq q).sqs = Tab.upd u.sqs q (fun x => { x with fetched := x.fetched + BitVec.ofNat 32 n })
      ∧ (u.visitSq q).crs = Tab.upd u.crs x.cr (fun c => { c with reserved := c.reserved + n })
      ∧ (u.visitSq q).reads = s1.reads ++ [{ tag := .entryFetch q, port := s1.portOf a, addr := a, bytes := 64 * n }]
      ∧ (u.visitSq q).scan.visits = u.scan.visits ++ [(q, n)] := by
    rw [hvisit]
    simp only [s2, hread]
    exact ⟨rfl, rfl, rfl, rfl, rfl⟩
  obtain ⟨hout, hsqs, hcrs, hreads, hvisits⟩ := hall
  refine ⟨hout, ?_, ?_, hreads, hvisits⟩
  · rw [hsqs, Tab.get?_upd_same, hx, Option.map_some]
  · rw [hcrs, Tab.get?_upd_same, hc, Option.map_some]

/-- Settles O16. -/
theorem scannerVisitsInOrder : Obligations.ScannerVisitsInOrder := by
  refine ⟨?_, ?_, ?_, ?_, ?_, ?_⟩
  · intro s t u q r h he hu
    refine leaves_front State.urgentVisit h rfl ?_
    simp only [State.urgentVisit, hu]
    exact State.visitRead_plain (u := { u with scan := { u.scan with urgent := r } }) he true
  · intro s t u h hu
    exact leaves_front State.urgentVisit h rfl (by simp only [State.urgentVisit, hu])
  · intro s t u q r h he hu hp hs ho
    have hnext := State.nextShort_first hu hp hs ho
    refine ⟨leaves_front State.shortVisit h rfl ?_, leaves_front State.scheduledVisit h rfl ?_⟩
    · simp only [State.shortVisit, hnext]
      exact State.visitRead_plain he false
    · simp [State.scheduledVisit, hnext]
  · intro s t u h hu hshort
    exact leaves_front State.shortVisit h rfl (by simp only [State.shortVisit, State.nextShort_none hshort])
  · intro s t u q h he hu hshort hq
    refine leaves_front State.scheduledVisit h rfl ?_
    have hvisited : NoErrorArmed (u.visited q) := he
    simp only [State.scheduledVisit, hu, State.nextShort_none (.inl hshort), hq]
    cases q with
    | none => exact State.visitRead_plain hvisited false
    | some q => exact congrArg (State.updSq · q _) (State.visitRead_plain hvisited false)
  · intro u q x c n a hx ho hc hr hn h0 hfit ha hopen
    exact State.visitSq_fetches hx ho hc hr hn h0 hfit ha hopen

end Sys2Proof.Machine
end

section
/-! SUPPORT. Fetched entries and their acceptance (R60, R75, R324). -/

namespace Sys2Proof.Machine

variable {s u : State} {t q f : Nat} {x : Sq} {e : List Word} {r : List (List Word)} {data : List Word} {o : RdOut}

theorem State.readOf_tag {tag : ReadTag} {p : Option Port} (h : u.readOf tag p = some o) : o.tag = tag := by
  have := List.find?_some h
  simp only [Bool.and_eq_true, beq_iff_eq] at this
  exact this.1

/-- Data of an outstanding fetch that the cipher lets through. -/
theorem State.readOk_entries (h : u.readOf (.entryFetch q) none = some o) (hr : u.outRefused o = false) :
    u.readOk (.entryFetch q) none data = u.entryData (some q) none data := by
  simp [State.readOk, State.endRead_found rfl h, hr, State.readData]

theorem State.readOk_refused (h : u.readOf (.entryFetch q) none = some o) (hr : u.outRefused o = true) :
    u.readOk (.entryFetch q) none data = (u.endBytes (.entryFetch q) o.bytes).refusedRead (.entryFetch q) (some o) := by
  simp [State.readOk, State.endRead_found rfl h, hr, State.endOut, State.readOf_tag h]

theorem leaves_entries {v : State} (h : Acts s t u) (hv : u.readOk (.entryFetch q) none data = v) :
    Leaves (.entryFetchData t (some q) data) s v :=
  leaves_act (·.readOk (.entryFetch q) none data) h rfl hv

/-- The next entry of an SQ that has a flight-table entry free for it. -/
theorem State.acceptNext_taken (hx : Tab.get? u.sqs q = some x) (ha : x.arrived = e :: r) (hb : sqEntryBad x e = false)
    (hf : u.flightFor q = some f) : u.acceptNext q = (true, u.acceptInto q x e f) := by
  simp [State.acceptNext, hx, ha, hb, hf]

theorem State.clampVc_tables (c : Nat) : (u.clampVc c).sqs = u.sqs ∧ (u.clampVc c).flights = u.flights := by
  unfold State.clampVc
  split
  · exact ⟨rfl, rfl⟩
  · dsimp only
    split <;> exact ⟨rfl, rfl⟩

theorem State.activate_tables (c : Nat) : (u.activate c).sqs = u.sqs ∧ (u.activate c).flights = u.flights := by
  unfold State.activate
  split
  · exact ⟨rfl, rfl⟩
  next x hx =>
    extract_lets v
    have hv : v.sqs = u.sqs ∧ v.flights = u.flights := by
      simp only [v]
      split
      · split <;> exact ⟨rfl, rfl⟩
      · exact ⟨rfl, rfl⟩
    obtain ⟨hsqs, hflights⟩ := State.clampVc_tables (u := { v with wd := Tab.set v.wd c 0 }) c
    exact ⟨hsqs.trans hv.1, hflights.trans hv.2⟩

theorem State.count_tables (i k : Nat) (y : Who3) : (u.count i k y).sqs = u.sqs ∧ (u.count i k y).flights = u.flights := by
  obtain ⟨_, _, _, h⟩ := State.count_counted (s := u) i k y
  rw [h]
  exact ⟨rfl, rfl⟩

/-- An accepted entry stands in the flight table, and its SQ goes on behind it. -/
theorem State.acceptInto_shows (hx : Tab.get? u.sqs q = some x) (ha : x.arrived = e :: r) :
    Tab.get? (u.acceptInto q x e f).sqs q = some { x with ci := x.ci + 1, accepted := x.accepted + 1, arrived := r }
    ∧ ∃ y, Tab.get? (u.acceptInto q x e f).flights f = some y ∧ y.sq = q ∧ y.seq = x.accepted + 1 ∧ y.ctx = x.ctx
      ∧ y.addr = nth e 1 0 ∧ y.length = fld (nth e 2 0) 0 25 ∧ y.arg = nth e 3 0 ∧ y.marker = (fld (nth e 0 0) 0 8 == 2) := by
  have htables : (u.acceptInto q x e f).sqs
        = Tab.upd u.sqs q (fun x => { x with ci := x.ci + 1, accepted := x.accepted + 1, arrived := x.arrived.drop 1 })
      ∧ ∃ w a, (u.acceptInto q x e f).flights = Tab.set u.flights f { mkFlight q x e u.ref with wait := w, age := a } := by
    unfold State.acceptInto
    extract_lets fl active waiting age entered moved scan left counted
    have hcounted := State.count_tables (u := left) 266 1 (left.forCtx x.ctx).who
    have hwait : ∃ w, waiting = { mkFlight q x e u.ref with wait := w } := by
      simp only [waiting]
      split <;> exact ⟨_, rfl⟩
    obtain ⟨w, hwait⟩ := hwait
    have hleft : counted.flights = Tab.set u.flights f { mkFlight q x e u.ref with wait := w, age := age } :=
      hcounted.2.trans (congrArg (fun y : Flight => Tab.set u.flights f { y with age := age }) hwait)
    split
    · exact ⟨hcounted.1, w, age, hleft⟩
    · obtain ⟨hsqs, hflights⟩ := State.activate_tables (u := counted) x.ctx
      exact ⟨hsqs.trans hcounted.1, w, age, hflights.trans hleft⟩
  obtain ⟨hsqs, w, a, hflights⟩ := htables
  constructor
  · rw [hsqs, Tab.get?_upd_same, hx, Option.map_some, ha, List.drop_one, List.tail_cons]
  · rw [hflights]
    exact ⟨_, Tab.get?_set_same _ _ _, rfl, rfl, rfl, rfl, rfl, rfl, rfl⟩

/-- Settles O17. -/
theorem entriesAreAcceptedInOrder : Obligations.EntriesAreAcceptedInOrder := by
  refine ⟨?_, ?_, ?_, ?_, ?_, ?_, ?_, ?_⟩
  · intro s t u q o es data h hf ho hr hes
    refine leaves_entries h ((State.readOk_entries ho hr).trans ?_)
    have hruns : (u.endBytes (.entryFetch q) (64 * es.length)).frontRuns = true := hf
    simp only [State.entryData, State.when, ← hes, hruns, if_true]
  · intro s t u q o data h ho hr
    exact leaves_entries h (State.readOk_refused ho hr)
  · intro s t u q data h ho
    exact leaves_entries h (State.endRead_none rfl ho)
  · intro u q x e r f hx ha hb hw hf
    have hfor : u.flightFor q = some f := by
      unfold State.flightFor
      rw [if_pos, hf]
      cases hh : u.waiters.head? with
      | none => rfl
      | some p => simp [hw p hh]
    rw [State.acceptNext_taken hx ha hb hfor]
    exact ⟨rfl, State.acceptInto_shows hx ha⟩
  · intro u q x e r hx ha hb
    simp [State.acceptNext, hx, ha, hb]
  · intro u q x e r hx ha hb hwait
    have hfor : u.flightFor q = none := by
      unfold State.flightFor
      rcases hwait with hnone | ⟨p, hp, hne⟩
      · simp [hnone]
      · simp [hp, hne]
    simp [State.acceptNext, hx, ha, hb, hfor]
  · intro s t u q r h hw
    exact leaves_front State.grantFlight h rfl (by simp only [State.grantFlight, hw])
  · intro s t u h hw
    exact leaves_front State.grantFlight h rfl (by simp only [State.grantFlight, hw])

end Sys2Proof.Machine
end

section
/-! SUPPORT. The admin commands (R54, R66, R78, R83, R86, R92, R93, R132, R133, R138, R154, R159, R168). -/

namespace Sys2Proof.Machine

variable {s u v : State} {t op : Nat} {e : AdmEntry} {w : WriteFault} {c : Instr}

theorem firstCode_none {l : List (Bool × Nat)} (h : ∀ x ∈ l, x.1 = false) : firstCode l = none := by
  induction l with
  | nil => rfl
  | cons x l ih =>
    obtain ⟨b, k⟩ := x
    have hb : b = false := h (b, k) List.mem_cons_self
    rw [firstCode, hb]
    exact ih fun y hy => h y (List.mem_cons_of_mem _ hy)

theorem State.readTab_plain (h : NoErrorArmed u) (tab : Nat) (x : TabErr) : u.readTab tab x = u := by
  obtain ⟨hbad, hfix⟩ := h
  simp [State.readTab, hbad, hfix]

/-- An admin command that starts runs as it says. -/
theorem leaves_admin (g : State → AdmEntry → State) (h : Starts s t op e u) (hc : exec c s = actFront s t (fun s => s.runAdm e.idx op g))
    (hv : g u e = v) : Leaves c s v := by
  obtain ⟨hfronts, herr, hnext, hop, hstat, -, -⟩ := h
  refine leaves_front (fun s => s.runAdm e.idx op g) hfronts hc ?_
  have hruns : u.regrowing = false ∧ u.haltedAll = false := by
    have := hfronts.2.2
    simp only [State.frontRuns, Bool.and_eq_true, Bool.not_eq_true'] at this
    obtain ⟨⟨⟨⟨-, hg⟩, -⟩, -⟩, hh⟩ := this
    exact ⟨hg, hh⟩
  simp only [State.runAdm, hnext, beq_self_eq_true, hop, hstat, Bool.not_false, Bool.and_self, if_true, State.readTab_plain herr, hruns,
    Bool.or_self, Bool.false_eq_true, if_false, hv]

/-- The checks that all admin commands share have passed. -/
theorem State.admShared_pass (h : Starts s t op e u) : ∀ x ∈ u.admShared e, x.1 = false := by
  obtain ⟨-, -, -, -, -, hpart, hq0⟩ := h
  have hp : (u.fnPart e.acting).isNone = false := by rw [Option.isNone_eq_false_iff]; exact hpart
  simp [State.admShared, hp, hq0]

/-- An admin command whose own checks pass too goes on. -/
theorem State.admGuard_pass (h : Starts s t op e u) {l : List (Bool × Nat)} {g : State → State} (hl : ∀ x ∈ l, x.1 = false) :
    u.admGuard e l w g = g u := by
  rw [State.admGuard, firstCode_none fun x hx => (List.mem_append.mp hx).elim (State.admShared_pass h x) (hl x)]

/-- An admin command whose first check fails completes with its code. -/
theorem State.admGuard_first (h : Starts s t op e u) {k : Nat} {l : List (Bool × Nat)} {g : State → State} :
    u.admGuard e ((true, k) :: l) w g = u.admDone e 0 k 0 0 none w := by
  obtain ⟨-, -, -, -, -, hpart, hq0⟩ := h
  have hp : (u.fnPart e.acting).isNone = false := by rw [Option.isNone_eq_false_iff]; exact hpart
  simp [State.admGuard, State.admShared, firstCode, hp, hq0]

/-- No SQ is bound to the CR, so its resume changes no SQ. -/
theorem mapV_held_none {t : Tab Sq} {k due : Nat} (h : t.filter (fun q => q.2.cr == k) = []) :
    Tab.mapV t (fun (x : Sq) => if x.cr == k && x.state == QState.held then { x with state := .active, due := due } else x) = t := by
  rw [List.filter_eq_nil_iff] at h
  conv_rhs => rw [← List.map_id t]
  refine List.map_congr_left fun x hx => ?_
  have hcr : (x.2.cr == k) = false := by simpa using h x hx
  simp [hcr]

/-- A resume of a held CR to which no SQ is bound. -/
theorem State.doResumeCr_unbound {y : Cr} (h : Starts s t 11 e u) (hy : Tab.get? u.crs (e.f 1 0 10) = some y) (hst : y.state = .held)
    (hof : u.crOf e.acting (e.f 1 0 10) = true) (hq : u.sqs.filter (fun q => q.2.cr == e.f 1 0 10) = []) :
    u.doResumeCr e none w = (u.updCr (e.f 1 0 10) (fun r => { r with state := .active })).admDone e 0 0 0 0 none w := by
  have hmap := mapV_held_none (due := u.ref) hq
  rw [State.doResumeCr, State.admGuard_pass h (by simp [hy, hst, hof])]
  simp only [hq, List.map_nil, State.resumeAll, Bool.not_true, Bool.false_eq_true, if_false]
  exact congrArg (fun x => ({ u.updCr (e.f 1 0 10) (fun r => { r with state := .active }) with sqs := x } : State).admDone e 0 0 0 0 none w) hmap

/-- Settles O18. -/
theorem adminCommandsComplete : Obligations.AdminCommandsComplete := by
  refine ⟨?_, ?_, ?_, ?_, ?_, ?_, ?_⟩
  · intro s t u e w h
    exact leaves_admin (fun s e => s.doNop e w) h rfl (State.admGuard_pass h (by simp))
  · intro s t u e w h hshare hctx htd
    refine leaves_admin (fun s e => s.doSetShare e w) h rfl ?_
    rw [State.doSetShare, State.admGuard_pass h (by simp [hshare, hctx, htd])]
  · intro s t u e w b h hsel hobj halign hblk hr
    refine leaves_admin (fun s e => s.doQuery e false w) h rfl ?_
    have hsel' : ¬ 3 < e.f 1 0 8 := by omega
    simp only [State.doQuery, hblk]
    rw [State.admGuard_pass h (by simpa [hsel', halign] using hobj)]
    simp [hr]
  · intro s t u e img w h ho
    refine leaves_admin (fun s e => s.doSetCyclic e img w) h rfl ?_
    simp only [State.doSetCyclic, ho, Bool.false_eq_true, if_false]
    rw [State.admGuard_pass h (by simp)]
  · intro s t u n img h hs
    exact leaves_act (·.mgmtCyclic n img) h rfl (if_pos hs)
  · intro s t u e fa w c h hc hfn hst
    refine leaves_admin (fun s e => s.doResumeCr e fa w) h rfl ?_
    have hany : (Tab.get? u.crs (e.f 1 0 10)).any (fun x => x.fn == e.acting && x.state != .held) = true := by simp [hc, hfn, hst]
    simp only [State.doResumeCr, hany]
    exact State.admGuard_first h
  · intro s t u e w c h hc hfn hst hof hq
    exact leaves_admin (fun s e => s.doResumeCr e none w) h rfl (State.doResumeCr_unbound h hc hst hof hq)

/-- BIND_EVENTS of a range that belongs to the acting function's partition. -/
theorem State.doBind_pass {p : Nat} {b : Bool} (h : Starts s t 8 e u) (h1 : 1 ≤ e.f 1 16 17) (hn : e.f 1 0 16 + e.f 1 16 17 ≤ 65536)
    (hp : u.fnPart e.acting = some p)
    (hev : u.events.any (fun v => e.f 1 0 16 ≤ v.1 && v.1 < e.f 1 0 16 + e.f 1 16 17 && some v.2.part != some p) = false) :
    u.doBind e b w =
      (if b then ((u.events.filter (fun v => e.f 1 0 16 ≤ v.1 && v.1 < e.f 1 0 16 + e.f 1 16 17)).map (·.1)).foldl State.unbindEvent u
        else ((List.range (e.f 1 16 17)).map (· + e.f 1 0 16)).foldl (fun s i => s.bindEvent p (e.qw 2) i) u).admDone e 0 0 0 0 none w := by
  have h1' : e.f 1 16 17 ≠ 0 := by omega
  have hle : ¬ 65536 < e.f 1 16 17 := by omega
  have hn' : ¬ 65536 < e.f 1 0 16 + e.f 1 16 17 := by omega
  have hchecks : ∀ x ∈ [(e.f 1 16 17 = 0 || 65536 < e.f 1 16 17 || 65536 < e.f 1 0 16 + e.f 1 16 17, 5),
      (u.events.any (fun v => e.f 1 0 16 ≤ v.1 && v.1 < e.f 1 0 16 + e.f 1 16 17 && some v.2.part != some p), 2)], x.1 = false := by
    simp only [List.mem_cons, List.not_mem_nil, or_false, forall_eq_or_imp, forall_eq, h1', hle, hn', hev, decide_false, Bool.or_self,
      and_self]
  simp only [State.doBind, hp]
  rw [State.admGuard_pass h hchecks]

/-- Settles O19. -/
theorem adminObjectsComeAndGo : Obligations.AdminObjectsComeAndGo := by
  refine ⟨?_, ?_, ?_, ?_, ?_, ?_, ?_, ?_⟩
  · intro s t u e q h
    dsimp only
    intro h4 h16 hring hpoll hseq hctx hcr hbusy htd hdb hmax hfree hr
    refine leaves_admin (c := .createSq t e.idx .none) (fun s e => s.doCreateSq e .none) h rfl ?_
    have h4' : ¬ e.f 2 0 5 < 4 := by omega
    have h16' : ¬ 16 < e.f 2 0 5 := by omega
    have hpoll' : (decide (225 ≤ e.f 2 8 8) && decide (e.f 2 8 8 ≤ 254)) = false := by simpa using hpoll
    have hmax' : ¬ u.sqMax e.acting ≤ u.sqUsed e.acting := by omega
    have hword : (WriteFault.none == WriteFault.seqWord) = false := rfl
    rw [State.doCreateSq, State.admGuard_pass h (by simp [h4', h16', hring, hpoll', hseq, hctx, hcr, hbusy, htd, hdb, hmax', hfree])]
    simp only [hfree, hword, hr, Bool.or_self, Bool.false_eq_true, if_false]
  · intro s t u e x h hof hx hd hh htd
    refine leaves_admin (fun s e => s.doDestroySq e) h rfl ?_
    rw [State.doDestroySq, State.admGuard_pass h (by simp [hof, hx, hd, hh, htd])]
    simp only [hx]
  · intro s t u e r h
    dsimp only
    intro h4 h16 hring hq3 hdb hmax hfree
    refine leaves_admin (c := .createCr t e.idx .none) (fun s e => s.doCreateCr e .none) h rfl ?_
    have h4' : ¬ e.f 2 0 5 < 4 := by omega
    have h16' : ¬ 16 < e.f 2 0 5 := by omega
    have hmax' : ¬ u.crMax e.acting ≤ u.crUsed e.acting := by omega
    rw [State.doCreateCr, State.admGuard_pass h (by simp [h4', h16', hring, hq3, hdb, hmax', hfree])]
    simp only [hfree, hq3, if_true]
  · intro s t u e w x h hof hx hd hh hb
    refine leaves_admin (fun s e => s.doDestroyCr e w) h rfl ?_
    rw [State.doDestroyCr, State.admGuard_pass h (by simp [hof, hx, hd, hh, hb])]
  · intro s t u e w c p h hshare hdet hmax hfree hp x
    refine leaves_admin (fun s e => s.doCreateCtx e w) h rfl ?_
    have hmax' : ¬ u.ctxMax e.acting ≤ u.ctxUsed e.acting := by omega
    rw [State.doCreateCtx, State.admGuard_pass h (by simp [hshare, hdet, hmax', hfree])]
    simp only [hfree, hp, hdet]
    rfl
  · intro s t u e w h hctx htd hsq hpend
    refine leaves_admin (fun s e => s.doDestroyCtx e w) h rfl ?_
    rw [State.doDestroyCtx, State.admGuard_pass h (by simpa [hctx, htd, hpend] using hsq)]
  · intro s t u e w p h hub h1 hn hp hev
    exact leaves_admin (fun s e => if e.unbinds then s else s.doBind e false w) h rfl
      ((if_neg (by simp [hub])).trans (State.doBind_pass h h1 hn hp hev))
  · intro s t u e w p h hub h1 hn hp hev
    exact leaves_admin (fun s e => if e.unbinds then s.doBind e true w else s) h rfl
      ((if_pos hub).trans (State.doBind_pass h h1 hn hp hev))

end Sys2Proof.Machine
end

section
/-! SUPPORT. SET_SCALAR from memory (R115): the read may wake the block, and the wake counts in a register that nothing bounds. -/

namespace Sys2Proof.Machine

open Sys2Proof.Tests

/-- A block at LL3 on its way to a rung whose entry counter is MCI_PART of partition 0, where a submission of that partition stands at
the command `ws`: a read of its memory wakes the block, the counter overflows, and the partition has no memory left. -/
def strayWake (ws : List Word) : State :=
  { ((running (stream ws)).setB .VXB_PART_RES 0 0 24 true).setReg .MCI_PART 0 0 0xFFFFFFFF00000000 with
      gov := { State.reset.gov with rung := 3, entering := some 16568 } }

/-- The state in which the command finds that block. -/
def strayFound (ws : List Word) : State :=
  ((strayWake ws).updFlight 0 (fun x => { x with count := x.count + 1 })).count 256 1
    { part := some 0, ctx := some 0, layer := some (hdrLayer (cw ws 0)) }

/-- The block once the read of 8 bytes at offset 64 has been issued. -/
def strayRead (ws : List Word) : State := (strayFound ws).readMem (.cmdData 0) 64 8

/-- The block once the cipher has refused that read. -/
def strayRefused (ws : List Word) : State := (((strayRead ws).noteRefused (some 0) 64 8).guilty 0 8 none 64).settle 0

/-- SET_SCALAR of counter 0 from the qword at offset 64 of the memory of the submission's partition. -/
def loadScalar : List Word := [hd 0x18 3 0, mkWord [(4, 2, 2)], 64]

set_option maxRecDepth 4000 in
/-- Refutes O21, by its clause for SET_SCALAR of mode 2: the cipher is asked after the read, and the wake that the read brings may change
its answer. -/
theorem not_scalarCommandsWriteTheirRegister : ¬ Obligations.ScalarCommandsWriteTheirRegister := by
  rintro ⟨-, -, -, -, hload, -⟩
  have hissues : Issues (strayWake loadScalar) 0 0 0x18 (stream loadScalar) loadScalar (strayFound loadScalar) :=
    ⟨by decide, rfl, by decide, by decide, by decide, rfl, by decide, by decide, rfl⟩
  have hleaves := hload _ _ _ _ _ _ 5 64 hissues (by decide) rfl (by decide)
  have hleft : exec (.setScalar 0 0 (some 5)) (strayWake loadScalar) = .next (strayRefused loadScalar).polls := by rfl
  injection hleft.symm.trans hleaves with hpolls
  have hrefused : (strayRefused loadScalar).polls.rf .MCI_STAT 0 0 32 16 = 1 := by rfl
  have htaken : ((((strayRead loadScalar).updFlight 0 (fun y => y.setC (fld (cw loadScalar 1) 0 3) 5)).pass 0).settle 0).polls.rf
      .MCI_STAT 0 0 32 16 = 0 := by rfl
  rw [hpolls] at hrefused
  exact absurd (hrefused.symm.trans htaken) (by decide)

/-- RENDER with its entry count at offset 64 of the memory of the submission's partition. -/
def renderThere : List Word := [hd 3 7 1, 0, 64, 64, 0, 64, mkWord [(0, 16, 16384), (16, 16, 16384), (32, 8, 6)]]

set_option maxRecDepth 4000 in
/-- Refutes O24, by its clause for RENDER, for the same reason. -/
theorem not_engineCommandsAreHandedOver : ¬ Obligations.EngineCommandsAreHandedOver := by
  rintro ⟨-, -, -, -, -, -, -, -, -, -, -, -, hrender, -⟩
  have hissues : Issues (strayWake renderThere) 0 0 0x03 (stream renderThere) renderThere (strayFound renderThere) :=
    ⟨by decide, rfl, by decide, by decide, by decide, rfl, by decide, by decide, rfl⟩
  have hleaves := hrender _ _ _ _ _ _ renderThere 0 hissues (by decide) (by decide) (by decide)
  have hleft : exec (.render 0 0 (some 0)) (strayWake renderThere) = .next (strayRefused renderThere).polls := by rfl
  injection hleft.symm.trans hleaves with hpolls
  have hrefused : (strayRefused renderThere).polls.rf .MCI_STAT 0 0 32 16 = 1 := by rfl
  have htaken : (((strayRead renderThere).handOver 0 (stream renderThere) .cores renderThere [] 0).settle 0).polls.rf
      .MCI_STAT 0 0 32 16 = 0 := by rfl
  exact absurd (hrefused.symm.trans ((congrArg (State.rf · .MCI_STAT 0 0 32 16) hpolls).trans htaken)) (by decide)

end Sys2Proof.Machine
end

section
/-! SUPPORT. The commands of a submission: a command that is issued runs as it says, on the submission at its place. -/

namespace Sys2Proof.Machine

variable {s u v : State} {t f op : Nat} {x : Flight} {ws : List Word} {c : Instr}

/-- A submission that stands in a walk which still needs words issues nothing. -/
theorem Flight.walk_ready {o : Option Walk} (h : (match o with | some (.need _) => false | _ => true) = true) : ∀ i, o ≠ some (.need i) := by
  rintro i rfl
  exact absurd h (by simp)

theorem State.runCmd_issues {g : State → Flight → List Word → State} (h : Issues s t f op x ws u) :
    (s.at t).runCmd f op g = (g u x ws).settle f := by
  obtain ⟨-, hx, hseq, hfront, hcount, hcur, hop, hwalk, rfl⟩ := h
  have hcount' : ¬ 4096 ≤ x.count := by omega
  have hready : (match x.walk ws with | some (.need _) => true | _ => false) = false := by
    have hneed := Flight.walk_ready hwalk
    cases hw : x.walk ws with
    | none => rfl
    | some y =>
      cases y with
      | need i => exact absurd hw (hneed i)
      | _ => rfl
  simp only [State.runCmd, hx, hseq, hfront, hcur, hop]
  rw [if_neg (by simp [hcount']), if_neg (by simp; exact hready)]

/-- A command that is issued runs as its row says, and its submission then stands at its next command. -/
theorem leaves_cmd (g : State → Flight → List Word → State) (h : Issues s t f op x ws u)
    (hc : exec c s = actFront s t (fun s => s.runCmd f op g)) (hv : (g u x ws).settle f = v) : Leaves c s v := by
  have hw : s.takesWork = true := h.1
  rw [Leaves, hc, actFront, if_pos hw, State.runCmd_issues h, hv, fin]

/-- Settles O22. -/
theorem loopsSkipsAndCallsMoveThePlace : Obligations.LoopsSkipsAndCallsMoveThePlace := by
  refine ⟨?_, ?_, ?_, ?_, ?_, ?_, ?_, ?_, ?_, ?_, ?_⟩
  · intro s t f x ws u o h hk hw
    exact leaves_cmd (fun s x ws => s.cmdSkipIf f x ws) h rfl (by simp only [State.cmdSkipIf, hk, hw, if_true])
  · intro s t f x ws u h hk
    exact leaves_cmd (fun s x ws => s.cmdSkipIf f x ws) h rfl (by simp only [State.cmdSkipIf, hk, Bool.false_eq_true, if_false])
  · intro s t f x ws u h hl h0 hmax
    have hl' : x.loops.length ≠ 4 := by omega
    have hmax' : ¬ 0xFFFFFFFF < x.trips (cw ws 1) := by omega
    have h0' : x.trips (cw ws 1) ≠ 0 := by omega
    refine leaves_cmd (fun s x ws => s.cmdRepeat f x ws) h rfl ?_
    rw [State.cmdRepeat, if_neg (by simp [hl', hmax']), if_neg h0']
  · intro s t f x ws u o h hl h0 hw
    have hl' : x.loops.length ≠ 4 := by omega
    refine leaves_cmd (fun s x ws => s.cmdRepeat f x ws) h rfl ?_
    rw [State.cmdRepeat, if_neg (by simp [hl', h0]), if_pos h0, hw]
  · intro s t f x ws u h hl
    exact leaves_cmd (fun s x ws => s.cmdRepeat f x ws) h rfl (by rw [State.cmdRepeat, if_pos (by simp [hl])])
  · intro s t f x ws u l h hl h1
    exact leaves_cmd (fun s x _ => s.cmdEndRepeat f x) h rfl (by simp only [State.cmdEndRepeat, hl, h1, if_true])
  · intro s t f x ws u l h hl h1
    exact leaves_cmd (fun s x _ => s.cmdEndRepeat f x) h rfl (by simp only [State.cmdEndRepeat, hl, h1, if_false])
  · intro s t f x ws u a h ha
    exact leaves_cmd (fun s x ws => s.cmdSetAreg f x ws) h rfl (by simp only [State.cmdSetAreg, ha])
  · intro s t f x ws u a h hr ha
    exact leaves_cmd (fun s x ws => s.cmdCall f x ws) h rfl (by simp only [State.cmdCall, hr, ha, if_true])
  · intro s t f x ws u h hr ha
    exact leaves_cmd (fun s x ws => s.cmdCall f x ws) h rfl (by simp only [State.cmdCall, hr, ha, if_true, State.malformed])
  · intro s t f x ws u n h hr hn hrtn hargs
    have hr' : ¬ (cw ws 1).toNat < 64 := by omega
    have hargs' : ¬ (ws.drop 2).length < u.rf .MCS_RTN (cw ws 1).toNat 0 24 4 := by omega
    refine leaves_cmd (fun s x ws => s.cmdCall f x ws) h rfl ?_
    simp only [State.cmdCall, if_neg hr', hrtn, hargs', hn, decide_false, Bool.not_true, Bool.or_self, Bool.false_eq_true, if_false]

end Sys2Proof.Machine
end

section
/-! SUPPORT. RECORD, WAIT and the semaphores of a command stream (R112 to R114, R128, R130, R134, R137, R152). -/

namespace Sys2Proof.Machine

variable {s u v : State} {t f n : Nat} {x : Flight} {ws : List Word} {h : Half}

/-- The handle in a word is its low half. -/
theorem handle_eq (w : Word) : (w.setWidth 32 : Half) = BitVec.ofNat 32 (fld w 0 32) := by
  apply BitVec.eq_of_toNat_eq
  simp [fld]

theorem State.readingEvent_plain (he : NoErrorArmed u) (g : State → State) : u.readingEvent h g = g u := by
  unfold State.readingEvent
  split
  · exact State.reading_plain he ..
  · rfl

theorem State.readingEvent_remote (hn : evNode h ≠ u.node) (g : State → State) : u.readingEvent h g = g u := if_neg hn

theorem State.readingSem_plain (he : NoErrorArmed u) (i : Nat) (g : State → State) : u.readingSem n i g = g u := by
  unfold State.readingSem
  split
  · exact State.reading_plain he ..
  · rfl

theorem State.readingSem_remote (hn : n ≠ u.node) (i : Nat) (g : State → State) : u.readingSem n i g = g u := if_neg hn

theorem leaves_record (hi : Issues s t f 0x10 x ws u) (hr : NoErrorArmed u ∨ evNode (BitVec.ofNat 32 (fld (cw ws 1) 0 32)) ≠ u.node)
    (hv : u.cmdRecord f x ws = v) : Leaves (.record t f) s (v.settle f) := by
  refine leaves_cmd (fun s x ws => s.readingEvent (cmdEvent ws) (fun s => s.cmdRecord f x ws)) hi rfl ?_
  rw [cmdEvent, handle_eq, hr.elim (State.readingEvent_plain · _) (State.readingEvent_remote · _), hv]

theorem leaves_wait (hi : Issues s t f 0x11 x ws u) (hr : NoErrorArmed u ∨ evNode (BitVec.ofNat 32 (fld (cw ws 1) 0 32)) ≠ u.node)
    (hv : u.cmdWait f x ws = v) : Leaves (.wait t f) s (v.settle f) := by
  refine leaves_cmd (fun s x ws => s.readingEvent (cmdEvent ws) (fun s => s.cmdWait f x ws)) hi rfl ?_
  rw [cmdEvent, handle_eq, hr.elim (State.readingEvent_plain · _) (State.readingEvent_remote · _), hv]

theorem leaves_semAcquire (hi : Issues s t f 0x12 x ws u) (hr : NoErrorArmed u ∨ fld (cw ws 1) 28 4 ≠ u.node)
    (hv : u.cmdSemAcquire f x ws = v) : Leaves (.semAcquire t f) s (v.settle f) := by
  refine leaves_cmd (fun s x ws => s.readingSem (fld (cw ws 1) 28 4) (fld (cw ws 1) 0 12) (fun s => s.cmdSemAcquire f x ws)) hi rfl ?_
  rw [hr.elim (State.readingSem_plain · _ _) (State.readingSem_remote · _ _), hv]

theorem leaves_semRelease (hi : Issues s t f 0x13 x ws u) (hr : NoErrorArmed u ∨ fld (cw ws 1) 28 4 ≠ u.node)
    (hv : u.cmdSemRelease f x ws = v) : Leaves (.semRelease t f) s (v.settle f) := by
  refine leaves_cmd (fun s x ws => s.readingSem (fld (cw ws 1) 28 4) (fld (cw ws 1) 0 12) (fun s => s.cmdSemRelease f x ws)) hi rfl ?_
  rw [hr.elim (State.readingSem_plain · _ _) (State.readingSem_remote · _ _), hv]

/-- A WAIT on a bound event of this node. -/
theorem State.cmdWait_home {e : Event} (hok : u.handleOk x (BitVec.ofNat 32 (fld (cw ws 1) 0 32)) = true)
    (hn : evNode (BitVec.ofNat 32 (fld (cw ws 1) 0 32)) = u.node)
    (he : Tab.get? u.events (evIdx (BitVec.ofNat 32 (fld (cw ws 1) 0 32))) = some e) {target : Word}
    (ht : target = if bitOf (cw ws 1) 57 then nth x.c (fld (cw ws 1) 58 3) 0 else cw ws 2) :
    u.cmdWait f x ws =
      if target.toNat ≤ e.value.toNat then ((u.progress x.ctx).traceSync x (cw ws 0) (target.toNat % 2 ^ 32)).pass f
      else if e.abandoned then u.endEarly f 2
      else (u.updEvent (evIdx (BitVec.ofNat 32 (fld (cw ws 1) 0 32))) (fun e => { e with waiters := e.waiters ++ [(f, target)] })).park f
        (.event (BitVec.ofNat 32 (fld (cw ws 1) 0 32)) target) (u.deadline (fld (cw ws 1) 32 25)) := by
  simp only [State.cmdWait, hok, hn, he, ← ht, Bool.not_true, Bool.false_eq_true, if_false, beq_self_eq_true, if_true]

theorem State.endGap_tables : u.endGap.flights = u.flights ∧ u.endGap.ctxs = u.ctxs := by
  unfold State.endGap
  split <;> exact ⟨rfl, rfl⟩

/-- A wake touches neither the flight table nor the contexts. -/
theorem State.wake_tables : u.wake.flights = u.flights ∧ u.wake.ctxs = u.ctxs := by
  have h := State.endGap_tables (u := u)
  unfold State.wake
  dsimp only
  split
  · split
    · exact h
    · exact h
  · split
    · exact h
    · exact h

theorem State.flightWho_wake : u.wake.flightWho f = u.flightWho f := by
  obtain ⟨hf, hc⟩ := State.wake_tables (u := u)
  simp only [State.flightWho, State.ctxPart, hf, hc]

/-- Settles O23. -/
theorem eventsAndSemaphoresSynchronise : Obligations.EventsAndSemaphoresSynchronise := by
  refine ⟨?_, ?_, ?_, ?_, ?_, ?_, ?_, ?_, ?_, ?_, ?_, ?_⟩
  · intro s t f x ws u hi he
    dsimp only
    intro hok hn
    exact leaves_record hi (.inl he) (by simp [State.cmdRecord, hok, hn])
  · intro s t f x ws u hi he hok
    exact leaves_record hi (.inl he) (by simp [State.cmdRecord, hok, State.malformed])
  · intro s t f x ws u e hi he
    dsimp only
    intro hok hn hev
    refine ⟨fun hle => ?_, fun hlt hab => ?_, fun hlt hab => ?_⟩
    · exact leaves_wait hi (.inl he) ((State.cmdWait_home hok hn hev rfl).trans (if_pos hle))
    · exact leaves_wait hi (.inl he)
        ((State.cmdWait_home hok hn hev rfl).trans ((if_neg (Nat.not_le.mpr hlt)).trans (if_pos hab)))
    · exact leaves_wait hi (.inl he)
        ((State.cmdWait_home hok hn hev rfl).trans ((if_neg (Nat.not_le.mpr hlt)).trans (if_neg (by simp [hab]))))
  · intro s t f x ws u hi he hz hn
    dsimp only
    intro hc hq hk
    exact leaves_semAcquire hi (.inl he) (by simp [State.cmdSemAcquire, hz, hn, hc, hq, hk])
  · intro s t f x ws u hi he hz hn
    dsimp only
    intro hc hk
    exact leaves_semAcquire hi (.inl he) (by simp [State.cmdSemAcquire, hz, hn, hc, Nat.not_le.mpr hk])
  · intro s t f x ws u hi he hz hn hc
    exact leaves_semRelease hi (.inl he) (by simp [State.cmdSemRelease, hz, hn, hc])
  · intro s t f x ws u hi
    dsimp only
    intro hok hn
    refine ⟨fun hl => ?_, fun hl => ?_⟩
    · exact leaves_record hi (.inr hn) (by simp [State.cmdRecord, hok, hn, hl])
    · exact leaves_record hi (.inr hn) (by simp [State.cmdRecord, hok, hn, hl])
  · intro s t f x ws u hi
    dsimp only
    intro hok hn
    refine ⟨fun hl => ?_, fun hl => ?_⟩
    · exact leaves_wait hi (.inr hn) (by simp [State.cmdWait, hok, hn, hl])
    · exact leaves_wait hi (.inr hn) (by simp [State.cmdWait, hok, hn, hl])
  · rintro s t f x ws u n hi hz rfl hn
    refine ⟨fun hl => ?_, fun hl => ?_⟩
    · exact leaves_semRelease hi (.inr hn) (by simp [State.cmdSemRelease, hz, hn, hl])
    · exact leaves_semRelease hi (.inr hn) (by simp [State.cmdSemRelease, hz, hn, hl])
  · rintro s t f x ws u n hi hz rfl hn
    refine ⟨fun hl => ?_, fun hl => ?_⟩
    · exact leaves_semAcquire hi (.inr hn) (by simp [State.cmdSemAcquire, hz, hn, hl])
    · exact leaves_semAcquire hi (.inr hn) (by simp [State.cmdSemAcquire, hz, hn, hl])
  · intro s t u f x w d h hg hx hw hd hlt htd he
    refine leaves_act (fun s => if s.regrowing then s else s.waitTimeout f) h rfl ?_
    have hlt' : ¬ u.ref ≤ d := by omega
    simp [hg, State.waitTimeout, hx, hw, hd, hlt', htd, he, State.flightWho_wake]
  · intro s t u f x w d h hg hx hw hd hle
    refine leaves_act (fun s => if s.regrowing then s else s.waitTimeout f) h rfl ?_
    simp [hg, State.waitTimeout, hx, hw, hd, hle]

end Sys2Proof.Machine
end

section
/-! SUPPORT. Observation and hint commands, blocks of the command buffer and watches (R121 to R123, R246, R412, R413). -/

namespace Sys2Proof.Machine

variable {s u v : State} {t f k : Nat} {x : Flight} {ws : List Word} {a : Word}

theorem leaves_timestamp {fault : Bool} (h : Issues s t f 0x20 x ws u) (hv : u.cmdTimestamp f x ws fault = v) :
    Leaves (.timestamp t f fault) s (v.settle f) :=
  leaves_cmd (fun s x ws => s.cmdTimestamp f x ws fault) h rfl (by rw [hv])

theorem leaves_watch (h : Issues s t f 0x21 x ws u) (hv : u.cmdWatch f x ws = v) : Leaves (.watch t f) s (v.settle f) :=
  leaves_cmd (fun s x ws => s.cmdWatch f x ws) h rfl (by rw [hv])

theorem leaves_preloadHint (h : Issues s t f 0x23 x ws u) (hv : u.cmdHint f x ws = v) : Leaves (.preloadHint t f) s (v.settle f) :=
  leaves_cmd (fun s x ws => s.cmdHint f x ws) h rfl (by rw [hv])

/-- TIMESTAMP to an address, where nothing faults unless the cipher refuses the place. -/
theorem State.cmdTimestamp_memory {fault : Bool} (h1 : cw ws 1 ≠ 0) (ha : x.addrOf (cw ws 1) 8 = some a) :
    u.cmdTimestamp f x ws fault =
      if fault || u.refused (u.ctxPart x.ctx) a 8 then (u.noteRefused (u.ctxPart x.ctx) a 8).guilty f 8 none a
      else ((if bitOf (cw ws 2) 3 then
          (u.writeMem (u.forCtx x.ctx) a [BitVec.ofNat 64 u.now]).updFlight f (fun y => y.setC (fld (cw ws 2) 0 3) (BitVec.ofNat 64 u.now))
        else u.writeMem (u.forCtx x.ctx) a [BitVec.ofNat 64 u.now]).pass f) := by
  simp only [State.cmdTimestamp, if_neg h1, ha]

/-- A maquette slot that neither an image nor a hint holds. -/
def State.slotFree (u : State) (k : Nat) : Bool := (Tab.get? u.mqSlots k).isNone && (Tab.get? u.hints k).isNone

theorem State.slotFree_iff : u.slotFree k = true ↔ Tab.get? u.mqSlots k = none ∧ Tab.get? u.hints k = none := by
  simp [State.slotFree]

theorem State.slotFree_eq_false : u.slotFree k = false ↔ (Tab.get? u.mqSlots k).isSome = true ∨ (Tab.get? u.hints k).isSome = true := by
  unfold State.slotFree
  cases Tab.get? u.mqSlots k <;> cases Tab.get? u.hints k <;> simp

theorem State.cmdHint_slot (ha : x.addrOf (cw ws 1) 64 = some a) :
    u.cmdHint f x ws = match (List.range 64).find? u.slotFree with
      | some k =>
        if u.rb .SCH_MQ_CFG 0 0 18 && decide ((cw ws 2).toNat ≤ u.slotBytes) then
          (({ u with hints := Tab.set u.hints k { f := f, addr := a, len := (cw ws 2).toNat, at0 := u.ref } }).readMem (.hint f) a
            (cw ws 2).toNat).pass f
        else (u.bump .SCH_MQ_CNT 0 0 48 16 1).pass f
      | none => (u.bump .SCH_MQ_CNT 0 0 48 16 1).pass f := by
  simp only [State.cmdHint, ha]
  rfl

/-- The lowest free slot is the one that is found. -/
theorem State.find_slotFree (hk : k < 64) (hfree : u.slotFree k = true) (hbelow : ∀ j < k, u.slotFree j = false) :
    (List.range 64).find? u.slotFree = some k := by
  rw [List.find?_range_eq_some]
  exact ⟨hfree, List.mem_range.mpr hk, fun j hj => by simp [hbelow j hj]⟩

/-- Settles O25. -/
theorem observationCommandsReport : Obligations.ObservationCommandsReport := by
  refine ⟨?_, ?_, ?_, ?_, ?_, ?_, ?_, ?_, ?_, ?_, ?_, ?_, ?_, ?_, ?_⟩
  · intro s t f x ws u flt h h1 h3
    exact leaves_timestamp h (by simp only [State.cmdTimestamp, if_pos h1, h3, if_true])
  · intro s t f x ws u a h h1 h3 ha hr
    exact ⟨leaves_timestamp h (by simp [State.cmdTimestamp_memory h1 ha, hr, h3]),
      leaves_timestamp h (by simp [State.cmdTimestamp_memory h1 ha, hr, State.noteRefused, State.when])⟩
  · intro s t f x ws u a flt h h1 ha hr
    exact leaves_timestamp h (by simp [State.cmdTimestamp_memory h1 ha, hr, State.noteRefused, State.when])
  · intro s t f x ws u a h h1 h3 ha hr
    exact leaves_timestamp h (by simp [State.cmdTimestamp_memory h1 ha, hr, h3])
  · intro s t f x ws u r h h0 hr hlt
    exact leaves_watch h (by simp only [State.cmdWatch, h0, hr, if_neg (Nat.not_le.mpr hlt), if_true, if_neg (show ¬ (0 : Nat) = 1 by decide)])
  · intro s t f x ws u h h0 hle
    refine leaves_watch h ?_
    rw [State.cmdWatch, h0]
    cases hr : x.addrOf (cw ws 4) 64 with
    | none => simp [State.malformed]
    | some r => simp [State.malformed, hle]
  · intro s t f x ws u r a h h1 hr ha
    exact leaves_watch h (by simp only [State.cmdWatch, h1, hr, ha, if_true, if_neg (show ¬ (1 : Nat) = 0 by decide)])
  · intro s t f x ws u a h ha hcannot
    refine leaves_preloadHint h ?_
    rw [State.cmdHint_slot ha]
    split
    · next k hk =>
      obtain ⟨hfree, hmem, -⟩ := List.find?_range_eq_some.mp hk
      obtain hoff | hlen | hfull := hcannot
      · simp [hoff]
      · simp [Nat.not_le.mpr hlen]
      · rw [State.slotFree_eq_false.mpr (hfull k (List.mem_range.mp hmem))] at hfree
        exact absurd hfree (by decide)
    · rfl
  · intro s t f x ws u a k h ha hon hlen hk hslot hhint hbelow
    refine leaves_preloadHint h ?_
    rw [State.cmdHint_slot ha, State.find_slotFree hk (State.slotFree_iff.mpr ⟨hslot, hhint⟩)
      (fun j hj => State.slotFree_eq_false.mpr (hbelow j hj))]
    simp only [hon, hlen, decide_true, Bool.and_self, if_true]
  · intro s t u f off o data h ho hr
    refine leaves_act (·.readOk (.buffer f off) none data) h rfl ?_
    rw [State.readOk, State.endRead_found rfl ho, Option.any_some, hr, if_neg (by decide), State.readData,
      State.endOut, State.readOf_tag ho]
  · intro s t u f off data h ho
    exact leaves_act (·.readOk (.buffer f off) none data) h rfl (State.endRead_none rfl ho)
  · intro s t u f x h hx hseq hcnt
    exact leaves_front (·.seqYield f) h rfl (by simp [State.seqYield, hx, hseq, hcnt])
  · intro s t u f x h hx hcnt
    exact leaves_front (·.seqYield f) h rfl (by simp [State.seqYield, hx, Nat.not_le.mpr hcnt])
  · intro s t u f x w l h hx hw htd he hr ha hl
    refine leaves_act (·.watchResult f none (some l)) h rfl ?_
    have hall : l.take w.len = l := by rw [← hl, List.take_length]
    simp [State.watchResult, hx, hw, htd, he, hr, State.unlessRefused, ha, hl, hall]
  · intro s t u f k y w l h hy hp hw hr ha hl
    refine leaves_act (·.watchResult f (some k) (some l)) h rfl ?_
    have hall : l.take w.len = l := by rw [← hl, List.take_length]
    simp [State.watchResult, hy, hp, hw, hr, State.unlessRefused, ha, hl, hall]

end Sys2Proof.Machine
end

section
/-! SUPPORT. ROM routines that read their arguments' list (Table 03-20): the read may wake the block, as SET_SCALAR's may. -/

namespace Sys2Proof.Machine

open Sys2Proof.Tests

/-- A CALL of COPY_LIST with one copy, whose list stands at offset 64 of the memory of the submission's partition. -/
def copyListCall : Call := { routine := 4, hdr := hd 0x1E 2 0, args := [64, 1, 0] }

/-- The block of `strayWake` with its submission in that CALL. -/
def strayCall : State := (strayWake [hd 0x1E 2 0, 4]).updFlight 0 (fun x => { x with call := some copyListCall })

/-- The block once the read of the list has been issued. -/
def strayListRead : State := strayCall.readMem (.cmdData 0) 64 24

/-- The block once the cipher has refused that read. -/
def strayListRefused : State := (strayListRead.noteRefused (some 0) 64 24).guilty 0 8 none 64

set_option maxRecDepth 4000 in
/-- Refutes O26, by its clause for the lists that fault nowhere: the cipher is asked after the read, and the wake that the read brings may
change its answer. -/
theorem not_romRoutinesStart : ¬ Obligations.RomRoutinesStart := by
  rintro ⟨hlist, -⟩
  have hin : InRoutine strayCall 0 0 4 { stream [hd 0x1E 2 0, 4] with call := some copyListCall } copyListCall strayCall :=
    ⟨⟨by decide, rfl, by decide⟩, rfl, rfl, by decide, by decide, by decide⟩
  have hleaves := (hlist strayCall 0 0 _ _ _ [0, 0, 0] (4, 3, .copyList 0 0 (some [0, 0, 0])) (by simp) hin (by decide)).1 (by decide)
  have hleft : exec (.copyList 0 0 (some [0, 0, 0])) strayCall = .next strayListRefused.polls := by rfl
  injection hleft.symm.trans hleaves with hpolls
  have hrefused : strayListRefused.polls.rf .MCI_STAT 0 0 32 16 = 1 := by rfl
  have htaken : (strayListRead.startRom 0 [0, 0, 0] 1 []).polls.rf .MCI_STAT 0 0 32 16 = 0 := by rfl
  exact absurd (hrefused.symm.trans ((congrArg (State.rf · .MCI_STAT 0 0 32 16) hpolls).trans htaken)) (by decide)

end Sys2Proof.Machine
end

section
/-! SUPPORT. The host's events and semaphores (R134, R136, R137). -/

namespace Sys2Proof.Machine

variable {s u v : State} {t n i : Nat} {w : Word} {e : Event}

theorem leaves_evFnRecordWrite {behind : Bool} (h : Writes s t (.fn n) (.own n) u)
    (hr : NoErrorArmed u ∨ evNode (u.fnHandle n) ≠ u.node) (hv : u.fnRecord n w behind = v) :
    Leaves (.evFnRecordWrite t n ⟨w, behind⟩) s v := by
  refine leaves_regWr (fun s => s.readingEvent (s.fnHandle n) (fun s => s.fnRecord n w behind)) h rfl ?_
  rw [hr.elim (State.readingEvent_plain · _) (State.readingEvent_remote · _), hv]

/-- A record with no other before it is carried out at once. -/
theorem State.fnRecord_first (htd : u.fnInTd n = false) (hq : Tab.getD u.fnRecs n [] = []) :
    u.fnRecord n w false = u.fnRecordNow n (u.fnHandle n) (u.rf .EV_FN_CTL n 0 0 2) w := by
  simp [State.fnRecord, htd, hq, State.fnHandle]

theorem State.fnRecord_behind (htd : u.fnInTd n = false) :
    u.fnRecord n w true
      = { u with fnRecs := Tab.set u.fnRecs n (Tab.getD u.fnRecs n [] ++ [(u.fnHandle n, u.rf .EV_FN_CTL n 0 0 2, w)]) } := by
  simp [State.fnRecord, htd, State.fnHandle]

/-- The value of an event of this node, which the function's partition has bound. -/
theorem State.evFnValue_home {r : Option RemoteVal} (hw : evWellFormed (u.fnHandle n) = true) (hn : evNode (u.fnHandle n) = u.node)
    (he : Tab.get? u.events (evIdx (u.fnHandle n)) = some e) (hp : u.fnPart n = some e.part) :
    u.evFnValue n r = (e.value, e.abandoned, false) := by
  unfold State.fnHandle at hw hn he
  simp [State.evFnValue, hw, hn, he, hp]

/-- A read of EV_FN_VALUE latches whether the event is abandoned. -/
theorem State.afterRead_evFnValue {r : Option RemoteVal} {x : Word} {b : Bool} (hv : u.evFnValue n r = (x, b, false)) :
    u.afterRead .EV_FN_VALUE n 0 r = { u.setB .EV_FN_CTL n 0 2 b with fresh := u.fresh + 2 } := by
  simp only [State.afterRead, hv]
  rfl

theorem State.semOf_setSem (m : Sem) : (u.setSem i m).semOf i = m := by
  simp [State.semOf, State.setSem, Tab.getD]

/-- Settles O27. -/
theorem hostReachesEventsAndSemaphores : Obligations.HostReachesEventsAndSemaphores := by
  refine ⟨?_, ?_, ?_, ?_, ?_, ?_, ?_, ?_, ?_⟩
  · intro s t n v u h he htd hw hp hn hc hq
    refine leaves_evFnRecordWrite h (.inl he) ?_
    simp [State.fnRecord_first htd hq, State.fnRecordNow, hw, Option.isSome_iff_ne_none.mp hp, hn, hc]
  · intro s t n v u h he htd hw hq
    refine leaves_evFnRecordWrite h (.inl he) ?_
    simp [State.fnRecord_first htd hq, State.fnRecordNow, hw]
  · intro s t n v u h htd hw hp hn hq
    refine ⟨fun hl => ?_, fun hl => ?_⟩
    · refine leaves_evFnRecordWrite h (.inr hn) ?_
      simp [State.fnRecord_first htd hq, State.fnRecordNow, hw, Option.isSome_iff_ne_none.mp hp, hn, hl]
    · refine leaves_evFnRecordWrite h (.inr hn) ?_
      simp [State.fnRecord_first htd hq, State.fnRecordNow, hw, Option.isSome_iff_ne_none.mp hp, hn, hl]
  · intro s t n v u h he htd
    exact leaves_evFnRecordWrite h (.inl he) (State.fnRecord_behind htd)
  · intro s t n u e h hw hn he hp
    have hval := State.evFnValue_home (r := none) hw hn he hp
    refine (leaves_regRd (fun s => ((s.evFnValue n none).1, s.afterRead .EV_FN_VALUE n 0 none)) h rfl rfl).some ?_
    simp only [hval, State.afterRead_evFnValue hval]
    exact ⟨rfl, State.rb_setB_same _ _ _ _ _ (by decide), rfl⟩
  · intro s t who i v u h hq hb
    refine (leaves_regWr (·.semCfgWrite i v) h rfl rfl).some ?_
    simp only [State.semCfgWrite, State.semOf_setSem]
    simp [hq, hb, State.setSem]
  · intro s t who i v u h hq hb
    refine (leaves_regWr (·.semCfgWrite i v) h rfl rfl).some ?_
    simp only [State.semCfgWrite, State.semOf_setSem]
    have hbusy : (u.semOf i).queue.isEmpty = false := by simp [hq]
    simp [hbusy, hb, State.setSem]
    grind
  · intro s t u h ha hdue
    exact leaves_act (·.proxyRetry h) ha rfl (by simp [State.proxyRetry, hdue])
  · intro s t u h ha hnone
    exact leaves_act (·.proxyRetry h) ha rfl (by simp [State.proxyRetry, hnone])

end Sys2Proof.Machine
end

section
/-! SUPPORT. Picks and launches (R161, R162, R235, R241, R242, R244). -/

namespace Sys2Proof.Machine

variable {s u v : State} {t k n p sl : Nat} {c : Cls} {y : Task}

theorem State.foldl_cntAdd1_regs (l : List Nat) (f : Nat → Nat) (m : Nat) :
    ∃ g, l.foldl (fun s j => s.cntAdd1 (f j) m) u = { u with regs := g } := by
  induction l generalizing u with
  | nil => exact ⟨u.regs, rfl⟩
  | cons j l ih => exact ih (u := u.cntAdd1 (f j) m)

/-- A count writes counters only. -/
theorem State.count_regs (i m : Nat) (x : Who3) : ∃ g, u.count i m x = { u with regs := g } := by
  unfold State.count
  split
  · exact ⟨u.regs, rfl⟩
  · exact State.foldl_cntAdd1_regs (u := u.cntAdd1 i m) ..

theorem State.slotBytes_count {i m : Nat} {x : Who3} (hi : i < 1024) : (u.count i m x).slotBytes = u.slotBytes := by
  rw [State.slotBytes, State.rf_count_other (.inl (by decide)) hi]
  rfl

theorem State.closed_count {i m : Nat} {x : Who3} (hi : i < 1024) (a : Word) :
    (u.count i m x).closed ((u.count i m x).portOf a) = u.closed (u.portOf a) := by
  have hport : (u.count i m x).portOf a = u.portOf a := by
    obtain ⟨g, hg⟩ := State.count_regs (u := u) i m x
    rw [hg]
    rfl
  rw [hport, State.closed, State.hostCut, State.rb_count_other (.inl (by decide)) hi]
  rfl

/-- The task of a cores pick gathers from now on, in the slot that it took. -/
def State.gatherIn (u : State) (k sl : Nat) : State :=
  u.updTask k (fun t => { t with
    phase := .gathering, slot := some sl, pickedAt := u.ref, held := [], acked := [],
    remainder := [], hdrSent := false, wanted := u.wantedSet t, order := u.placeOver t.ctx (u.eligCores t) (u.ownedCores t.part),
    isStatic := u.detTask t })

theorem State.gatherIn_task (hy : Tab.get? u.tasks k = some y) :
    (Tab.get? (u.gatherIn k sl).tasks k).map (fun (y : Task) => (y.phase, y.slot, y.pickedAt)) = some (.gathering, some sl, u.ref) := by
  rw [State.gatherIn, State.updTask, Tab.get?_upd_same, hy]
  rfl

/-- A pick whose image is staged: the block in which the task gathers. -/
def State.pickStaged (u : State) (k sl : Nat) (y : Task) (m : List Word) : State :=
  ((({ u with hints := Tab.erase u.hints sl, mqSlots := Tab.set u.mqSlots sl { task := k, image := some (y.image m) } }).count 276 1
    y.who).count 277 1 y.who).bump .SCH_MQ_CNT 0 0 32 16 1

theorem State.pickStaged_shows {m : List Word} :
    (u.pickStaged k sl y m).mqSlots = Tab.set u.mqSlots sl { task := k, image := some (y.image m) } ∧ (u.pickStaged k sl y m).tasks = u.tasks
    ∧ (u.pickStaged k sl y m).ref = u.ref ∧ (u.pickStaged k sl y m).out = u.out
    ∧ (u.pickStaged k sl y m).hints = Tab.erase u.hints sl := by
  obtain ⟨g1, h1⟩ := State.count_regs (u := { u with
    hints := Tab.erase u.hints sl, mqSlots := Tab.set u.mqSlots sl { task := k, image := some (y.image m) } }) 276 1 y.who
  obtain ⟨g2, h2⟩ := State.count_regs (u := { u with
    hints := Tab.erase u.hints sl, mqSlots := Tab.set u.mqSlots sl { task := k, image := some (y.image m) }, regs := g1 }) 277 1 y.who
  rw [State.pickStaged, h1, h2]
  exact ⟨rfl, rfl, rfl, rfl, rfl⟩

/-- A pick whose image is not staged, up to the read of the image. -/
def State.pickUnstaged (u : State) (k sl : Nat) (y : Task) : State :=
  (({ u with hints := Tab.erase u.hints sl, mqSlots := Tab.set u.mqSlots sl { task := k, image := none } }).count 276 1
    y.who).count 277 1 y.who

/-- The read of the image of a task that nothing has staged. -/
def State.pickRead (u : State) (k sl : Nat) (y : Task) : State :=
  (u.pickUnstaged k sl y).readMem (.taskState y.f) y.stateAddr (min y.stateLen (u.pickUnstaged k sl y).slotBytes)

section
variable (hg : u.gathering p = false) (hrun : u.atRun = true)
    (hpick : u.pickOf (u.coreCands p) (fun t => !(u.slotInsts t).isEmpty) = some (k, y))
include hg hrun hpick

theorem State.corePick_unstaged (hh : u.hints = []) (hsl : u.freeSlot = some sl) :
    u.corePick p = (((u.pickRead k sl y).gatherIn k sl).gatherTake k).gatherEnd k := by
  have hfind : u.hints.find? (fun h => h.2.f == y.f && h.2.addr == y.stateAddr && h.2.len == y.stateLen && h.2.image.isSome)
      = none := by simp [hh]
  simp only [State.corePick, hg, hrun, hpick, hfind, hsl, Bool.not_true, Bool.or_self, Bool.false_eq_true, if_false, Option.bind_none,
    Option.map_none]
  rfl

theorem State.corePick_staged {h : Hint} {m : List Word} (hh : u.hints = [(sl, h)]) (hf : h.f = y.f) (ha : h.addr = y.stateAddr)
    (hl : h.len = y.stateLen) (hm : h.image = some m) :
    u.corePick p = (((u.pickStaged k sl y m).gatherIn k sl).gatherTake k).gatherEnd k := by
  have hfind : u.hints.find? (fun h => h.2.f == y.f && h.2.addr == y.stateAddr && h.2.len == y.stateLen && h.2.image.isSome)
      = some (sl, h) := by simp [hh, hf, ha, hl, hm]
  simp only [State.corePick, hg, hrun, hpick, hfind, Bool.not_true, Bool.or_self, Bool.false_eq_true, if_false, Option.bind_some, hm,
    Option.map_some]
  rfl

end

theorem State.atRun_rung (h : u.atRun = true) : u.gov.rung = 0 := by
  simp only [State.atRun, Bool.and_eq_true, beq_iff_eq] at h
  exact h.1.1

theorem State.pickUnstaged_regs : ∃ g, u.pickUnstaged k sl y
    = { u with hints := Tab.erase u.hints sl, mqSlots := Tab.set u.mqSlots sl { task := k, image := none }, regs := g } := by
  obtain ⟨g1, h1⟩ := State.count_regs (u := { u with
    hints := Tab.erase u.hints sl, mqSlots := Tab.set u.mqSlots sl { task := k, image := none } }) 276 1 y.who
  obtain ⟨g2, h2⟩ := State.count_regs (u := { u with
    hints := Tab.erase u.hints sl, mqSlots := Tab.set u.mqSlots sl { task := k, image := none }, regs := g1 }) 277 1 y.who
  exact ⟨g2, by rw [State.pickUnstaged, h1, h2]⟩

theorem State.pickRead_shows (hr : u.gov.rung = 0) (hopen : u.closed (u.portOf y.stateAddr) = false) :
    (u.pickRead k sl y).mqSlots = Tab.set u.mqSlots sl { task := k, image := none } ∧ (u.pickRead k sl y).tasks = u.tasks
    ∧ (u.pickRead k sl y).ref = u.ref
    ∧ (u.pickRead k sl y).out = u.out ++ [.read (u.access (u.readIssuer (.taskState y.f)) y.stateAddr) (.taskState y.f) y.stateAddr
        (min y.stateLen u.slotBytes)] := by
  have hslot : (u.pickUnstaged k sl y).slotBytes = u.slotBytes := by
    rw [State.pickUnstaged, State.slotBytes_count (by decide), State.slotBytes_count (by decide)]
    rfl
  have hclosed : (u.pickUnstaged k sl y).closed ((u.pickUnstaged k sl y).portOf y.stateAddr) = false := by
    rw [State.pickUnstaged, State.closed_count (by decide), State.closed_count (by decide)]
    exact hopen
  rw [State.pickRead, hslot]
  obtain ⟨g, hg⟩ := State.pickUnstaged_regs (u := u) (k := k) (sl := sl) (y := y)
  rw [hg] at hclosed ⊢
  obtain ⟨_, ⟨_, _, _, rfl⟩, hread⟩ := State.readMem_issued (tag := .taskState y.f) (b := min y.stateLen u.slotBytes) hclosed
    (show u.gov.rung < 3 by omega) rfl
  rw [hread]
  exact ⟨rfl, rfl, rfl, rfl⟩

/-- A free engine that the cyclic table has not reserved and no other partition has used takes its pick. -/
theorem State.engPick_shows (hcores : c ≠ .cores) (hfree : u.engFree c p = true)
    (hres : (Tab.getD u.engs (engNo c p) {}).reservedFor = none) (hlast : (Tab.getD u.engs (engNo c p) {}).lastPart = none)
    (hpick : u.pickOf (u.engCands c p) (fun _ => false) = some (k, y)) :
    (u.engPick c p).tasks = Tab.upd u.tasks k (fun t => { t with phase := .preloaded })
    ∧ (u.engPick c p).due = u.due ++ [{ cls := c, peng := p, task := k, at0 := u.ref, stalled := false }]
    ∧ (u.engPick c p).out = u.out ∧ (u.engPick c p).engs = u.engs := by
  obtain ⟨g, hg⟩ := State.count_regs (u := u) 276 1 y.who
  have heng : u.engPick c p = { u with
      regs := g, tasks := Tab.upd u.tasks k (fun t => { t with phase := .preloaded }),
      due := u.due ++ [{ cls := c, peng := p, task := k, at0 := u.ref, stalled := false }] } := by
    have hcores' : (c == .cores) = false := by simpa using hcores
    simp only [State.engPick, hcores', hfree, hres, hlast, hpick, hg, Option.any_none, Bool.and_false, Bool.not_true, Bool.or_self,
      Bool.false_eq_true, if_false]
    rfl
  rw [heng]
  exact ⟨rfl, rfl, rfl, rfl⟩

/-- Settles O28. -/
theorem schedulerPicksAndLaunches : Obligations.SchedulerPicksAndLaunches := by
  refine ⟨?_, ?_, ?_, ?_, ?_, ?_, ?_, ?_, ?_, ?_, ?_, ?_, ?_⟩
  · intro s t u n f x h he hfree hf hx
    refine leaves_front (·.pickSeq n) h rfl ?_
    simp only [State.pickSeq, hfree, hf, hx, Bool.not_true, Bool.false_eq_true, if_false, State.reading_plain he, State.seqPick,
      Option.map_some, Option.bind_some]
  · intro s t u n h hfree
    exact leaves_front (·.pickSeq n) h rfl (by simp [State.pickSeq, hfree])
  · intro s t u c p k y h hcores _ hfree hres hlast hpick
    exact (leaves_front (·.engPick c p) h rfl rfl).some (State.engPick_shows hcores hfree hres hlast hpick)
  · intro s t u p k y sl h hg hrun hpick hy hh hsl hopen
    obtain ⟨hmq, htasks, href, hout⟩ := State.pickRead_shows (k := k) (sl := sl) (State.atRun_rung hrun) hopen
    refine ⟨(u.pickRead k sl y).gatherIn k sl, hmq, hout, ?_, ?_⟩
    · rw [State.gatherIn_task (htasks ▸ hy), href]
    · exact leaves_front (·.corePick p) h rfl (State.corePick_unstaged hg hrun hpick hh hsl)
  · intro s t u p k y sl h' m h hg hrun hpick hy hh hf ha hl hm
    obtain ⟨hmq, htasks, href, hout, hhints⟩ := State.pickStaged_shows (u := u) (k := k) (sl := sl) (y := y) (m := m)
    refine ⟨(u.pickStaged k sl y m).gatherIn k sl, hmq, ?_, hout, ?_, ?_⟩
    · rw [show ((u.pickStaged k sl y m).gatherIn k sl).hints = Tab.erase u.hints sl from hhints, hh]
      simp [Tab.erase]
    · rw [State.gatherIn_task (htasks ▸ hy), href]
    · exact leaves_front (·.corePick p) h rfl (State.corePick_staged hg hrun hpick hh hf ha hl hm)
  · intro s t u k y h hy hp hd hheld hle
    exact leaves_front (·.gatherEnd k) h rfl (by simp [State.gatherEnd, hy, hp, hd, hheld, hle])
  · intro s t u k y h hy hlt
    exact leaves_front (·.gatherEnd k) h rfl (by simp [State.gatherEnd, hy, Nat.not_le.mpr hlt])
  · intro s t u n d y h hn hd hc hy
    have hc' : (d.cls == .cores) = false := by simpa using hc
    exact leaves_front (·.launchNext) h rfl (by simp only [State.launchNext, hn, hd, hy, hc', Bool.false_eq_true, if_false])
  · intro s t u n d y h hn hd hc hy
    have hc' : (d.cls == .cores) = true := by simpa using hc
    exact leaves_front (·.launchNext) h rfl (by simp only [State.launchNext, hn, hd, hy, hc', if_true])
  · intro s t u h hdue
    refine leaves_front (·.launchNext) h rfl ?_
    have hnone : u.nextDue = none := by simp [State.nextDue, hdue]
    rw [State.launchNext, hnone]
    split <;> simp_all
  · intro s t u c j h hj hdead
    exact leaves_act (·.remainderEnd c) h rfl (by simp only [State.remainderEnd, hj, hdead, Bool.false_eq_true, if_false])
  · intro s t u c h hjobs
    exact ⟨leaves_act (·.remainderEnd c) h rfl (by simp [State.remainderEnd, hjobs]),
      leaves_act (·.mqAck c) h rfl (by simp [State.mqAck, hjobs])⟩
  · intro s t u c j h hj
    refine ⟨fun hdead => ?_, fun hkind hdead => ?_⟩
    · have hno : (j.kind == .header && !j.dead) = false := by
        obtain hk | hd := hdead
        · simp [hk]
        · simp [hd]
      exact leaves_act (·.mqAck c) h rfl (by simp only [State.mqAck, hj, hno, Bool.false_eq_true, if_false])
    · exact leaves_act (·.mqAck c) h rfl (by simp [State.mqAck, hj, hkind, hdead])

end Sys2Proof.Machine
end

section
/-! SUPPORT. The times of the cyclic table (R169 to R172, R178, R179, R181, R183, R195, R214). -/

namespace Sys2Proof.Machine

variable {s u v : State} {t i j : Nat}

/-- A slot that is running and has not begun starts once its offset is reached. -/
theorem State.slotStart_begins {d : Slot} (hd : u.slots[j]? = some d) (hrun : u.cyc.running = true)
    (hbegun : u.cyc.begun.contains j = false) (hle : u.cycP0 + d.offset ≤ u.now)
    (hv : v = ((u.cyc.insts.filter (fun e => e.2.start + e.2.def0.length ≤ u.cycP0 + d.offset)).map (·.1)).foldl State.slotDeadline u) :
    u.slotStart j = if u.cycHeld then (v.takeSlot j d).2.deferAct (u.cycP0 + d.offset) false (v.takeSlot j d).1
      else (v.takeSlot j d).2.instStart (v.takeSlot j d).1 := by
  simp only [State.slotStart, hd, hrun, hbegun, Nat.not_lt.mpr hle, decide_false, Bool.not_true, Bool.or_self, Bool.false_eq_true,
    if_false, ← hv]

/-- Settles O29. -/
theorem cyclicTableKeepsItsTimes : Obligations.CyclicTableKeepsItsTimes := by
  refine ⟨?_, ?_, ?_, ?_, ?_, ?_, ?_, ?_, ?_, ?_, ?_, ?_, ?_, ?_, ?_⟩
  · intro s t u b k h hdue hle
    exact leaves_act State.fixedStart h rfl (by simp [State.fixedStart, hdue, hle])
  · intro s t u b k h hdue hlt
    exact leaves_act State.fixedStart h rfl (by simp [State.fixedStart, hdue, Nat.not_le.mpr hlt])
  · intro s t u tb h htb hanchor hfree hle
    exact leaves_act State.vsyncFreeRun h rfl (by simp [State.vsyncFreeRun, htb, hanchor, hfree, Nat.not_lt.mpr hle])
  · intro s t u tb h htb hlt
    exact leaves_act State.vsyncFreeRun h rfl (by simp [State.vsyncFreeRun, htb, hlt])
  · intro s t u j n h hn hle hnone
    exact leaves_front (·.slotPreload j) h rfl (by simp [State.slotPreload, hn, Nat.not_lt.mpr hle, hnone])
  · intro s t u j n h hn hlt
    exact leaves_front (·.slotPreload j) h rfl (by simp [State.slotPreload, hn, hlt])
  · intro s t u j n h hn hle hrun hprep
    refine leaves_act (·.slotClockRaise j) h rfl ?_
    simp only [State.slotClockRaise, hn, hrun, hprep, Nat.not_lt.mpr hle, decide_false, Bool.not_true, Bool.or_self, Bool.false_eq_true,
      if_false]
  · intro s t u j d v h hd hrun hbegun hle hv
    have hstart := State.slotStart_begins hd hrun hbegun hle hv
    exact ⟨fun hheld => leaves_act (·.slotStart j) h rfl (hstart.trans (if_neg (by simp [hheld]))),
      fun hheld => leaves_act (·.slotStart j) h rfl (hstart.trans (if_pos hheld))⟩
  · intro s t u j d h hd hlt
    exact leaves_act (·.slotStart j) h rfl (by simp [State.slotStart, hd, hlt])
  · intro s t u i x h hx hstarted hdl hle hheld
    exact leaves_act (·.slotDeadline i) h rfl (by simp [State.slotDeadline, hx, hstarted, hdl, Nat.not_lt.mpr hle, hheld])
  · intro s t u i x h hx hlt
    exact leaves_act (·.slotDeadline i) h rfl (by simp [State.slotDeadline, hx, hlt])
  · intro s t who u en h
    exact (leaves_regWr (·.setCycEn en) h rfl rfl).some ⟨State.rb_setB_same _ _ _ _ _ (by decide), rfl, rfl⟩
  · intro s t u f h y ha hy
    exact leaves_act (·.inheritDetect f h) ha rfl (by simp only [State.inheritDetect, hy])
  · intro u f h y e es hes hne
    rw [State.inheritInto, ← hes]
    cases es with
    | nil => exact absurd rfl hne
    | cons a l => rfl
  · intro u x a f y n i h hsem hholds hneeds
    rw [State.edgesOf, hsem]
    exact List.mem_map.mpr ⟨h, List.mem_filter.mpr ⟨hholds, hneeds⟩, rfl⟩

end Sys2Proof.Machine
end

section
/-! SUPPORT. The governor's settings (R203, R205, R207, R209, R216, R220, R223). -/

namespace Sys2Proof.Machine

variable {s u : State} {t : Nat} {v : Word} {who : Who}

theorem fld_lt (w : Word) (lo n : Nat) : fld w lo n < 2 ^ n := Nat.mod_lt _ (Nat.two_pow_pos n)

/-- The three fields of a cap. -/
theorem fld_capWord (a b c : Nat) :
    fld (mkWord [(0, 16, a), (16, 16, b), (32, 7, c)]) 0 16 = a % 2 ^ 16
    ∧ fld (mkWord [(0, 16, a), (16, 16, b), (32, 7, c)]) 16 16 = b % 2 ^ 16
    ∧ fld (mkWord [(0, 16, a), (16, 16, b), (32, 7, c)]) 32 7 = c % 2 ^ 7 := by
  have ha : a % 2 ^ 16 < 2 ^ 16 := Nat.mod_lt _ (by decide)
  have hb : b % 2 ^ 16 < 2 ^ 16 := Nat.mod_lt _ (by decide)
  have hc : c % 2 ^ 7 < 2 ^ 7 := Nat.mod_lt _ (by decide)
  have hlow : (b % 2 ^ 16) <<< 16 < 2 ^ 32 := by
    rw [Nat.shiftLeft_eq]
    omega
  have hpack : packFields [(0, 16, a), (16, 16, b), (32, 7, c)] = c % 2 ^ 7 * 2 ^ 32 + b % 2 ^ 16 * 2 ^ 16 + a % 2 ^ 16 := by
    have hsum : (b % 2 ^ 16) <<< 16 ||| (c % 2 ^ 7) <<< 32 = (c % 2 ^ 7 * 2 ^ 16 + b % 2 ^ 16) <<< 16 := by
      rw [Nat.or_comm, ← Nat.shiftLeft_add_eq_or_of_lt hlow, Nat.shiftLeft_eq, Nat.shiftLeft_eq, Nat.shiftLeft_eq]
      omega
    simp only [packFields, Nat.or_zero, Nat.shiftLeft_zero]
    rw [hsum, Nat.or_comm, ← Nat.shiftLeft_add_eq_or_of_lt ha, Nat.shiftLeft_eq]
    omega
  rw [mkWord, hpack]
  generalize a % 2 ^ 16 = x at ha ⊢
  generalize b % 2 ^ 16 = y at hb ⊢
  generalize c % 2 ^ 7 = z at hc ⊢
  have hmod : (z * 2 ^ 32 + y * 2 ^ 16 + x) % 2 ^ 64 = z * 2 ^ 32 + y * 2 ^ 16 + x := Nat.mod_eq_of_lt (by omega)
  refine ⟨?_, ?_, ?_⟩
  · rw [fld, BitVec.toNat_ofNat, hmod, Nat.shiftRight_eq_div_pow]
    omega
  · rw [fld, BitVec.toNat_ofNat, hmod, Nat.shiftRight_eq_div_pow]
    omega
  · rw [fld, BitVec.toNat_ofNat, hmod, Nat.shiftRight_eq_div_pow]
    omega

/-- Whether a table, where there is one, fits the caps that a write of F0's cap would bring. -/
def State.capFits (u : State) (v : Word) (o : Option CycTable) : Bool :=
  match o with
  | some tb => tableFits tb (u.capsWith v).1 (u.capsWith v).2 u.rtMaxPct
  | none => true

theorem State.writeCapF0_eq : u.writeCapF0 v =
    let w := u.when (bitOf v 32) (fun s => s.setB .GOV_CAP_F0 0 0 32 false)
    if u.capFits v (if u.cyc.running then u.cyc.table else none) && u.capFits v u.cyc.pending then
      w.setF .GOV_CAP_F0 0 0 0 32 (fld v 0 32)
    else w.setB .GOV_CAP_F0 0 0 32 true := by
  unfold State.writeCapF0 State.when
  split <;> rfl

theorem State.capFits_all (h : ∀ tb, (u.cyc.running = true ∧ u.cyc.table = some tb) ∨ u.cyc.pending = some tb →
    tableFits tb (u.capsWith v).1 (u.capsWith v).2 u.rtMaxPct = true) :
    (u.capFits v (if u.cyc.running then u.cyc.table else none) && u.capFits v u.cyc.pending) = true := by
  rw [Bool.and_eq_true]
  constructor
  · unfold State.capFits
    split
    next tb htb =>
      split at htb
      next hrun => exact h tb (.inl ⟨hrun, htb⟩)
      next => exact absurd htb (by simp)
    · rfl
  · unfold State.capFits
    split
    next tb htb => exact h tb (.inr htb)
    · rfl

theorem State.capFits_not_all {tb : CycTable} (h : (u.cyc.running = true ∧ u.cyc.table = some tb) ∨ u.cyc.pending = some tb)
    (hno : tableFits tb (u.capsWith v).1 (u.capsWith v).2 u.rtMaxPct = false) :
    (u.capFits v (if u.cyc.running then u.cyc.table else none) && u.capFits v u.cyc.pending) = false := by
  rw [Bool.and_eq_false_iff]
  obtain ⟨hrun, htb⟩ | htb := h
  · left
    simp [State.capFits, hrun, htb, hno]
  · right
    simp [State.capFits, htb, hno]

/-- Clearing the refusal bit of F0's cap leaves the cap. -/
theorem State.rf_clearRefused : (u.when (bitOf v 32) (fun s => s.setB .GOV_CAP_F0 0 0 32 false)).rf .GOV_CAP_F0 0 0 0 32
    = u.rf .GOV_CAP_F0 0 0 0 32 := by
  unfold State.when
  split
  · exact State.rf_setB_ne _ _ _ _ _ (by decide) (by decide)
  · rfl

/-- Whether a temperature limit is taken. -/
theorem State.writeTlimit_eq {mgmt : Bool} : u.writeTlimit mgmt v =
    if 0 ≤ sx16 (fld v 0 16) ∧ sx16 (fld v 0 16) ≤ u.gov.limitMax ∧ (mgmt = true ∨ sx16 (fld v 0 16) ≤ u.tlimit) then
      (u.setF .GOV_TLIMIT 0 0 16 16 (fld v 16 16)).setF .GOV_TLIMIT 0 0 0 16 (fld v 0 16)
    else u.setF .GOV_TLIMIT 0 0 16 16 (fld v 16 16) := by
  simp [State.writeTlimit, and_assoc]

/-- The sag unit takes its threshold, and is disarmed only while stops are enabled. -/
theorem State.writeSag_shows : (u.writeSag v).rf .GOV_SAG_CFG 0 0 0 5 = fld v 0 5
    ∧ (u.writeSag v).rb .GOV_SAG_CFG 0 0 5 = (bitOf v 5 || (u.rb .GOV_SAG_CFG 0 0 5 && !u.rb .OBS_STOP_CFG 0 0 0)) := by
  have hfld : (u.setF .GOV_SAG_CFG 0 0 0 5 (fld v 0 5)).rf .GOV_SAG_CFG 0 0 0 5 = fld v 0 5 :=
    (State.rf_setF_same _ _ _ _ _ (by decide)).trans (Nat.mod_eq_of_lt (fld_lt v 0 5))
  have hstop : (u.setF .GOV_SAG_CFG 0 0 0 5 (fld v 0 5)).rb .OBS_STOP_CFG 0 0 0 = u.rb .OBS_STOP_CFG 0 0 0 :=
    State.rb_setF_other (by decide)
  unfold State.writeSag
  dsimp only
  rw [hstop]
  split
  next harm =>
    refine ⟨(State.rf_setB_ne _ _ _ _ _ (by decide) (by decide)).trans hfld, (State.rb_setB_same _ _ _ _ _ (by decide)).trans ?_⟩
    rw [Bool.or_eq_true] at harm
    obtain hbit | hen := harm
    · simp [hbit]
    · simp [hen]
  next hkeep =>
    refine ⟨hfld, (State.rb_setF_ne _ _ _ _ _ (by decide) (by decide)).trans ?_⟩
    rw [Bool.not_eq_true, Bool.or_eq_false_iff] at hkeep
    simp [hkeep.1, hkeep.2]

theorem State.rf_writeCapMgmt :
    (u.writeCapMgmt v).rf .GOV_CAP_MGMT 0 0 0 16 = (if fld v 0 16 = 0 then u.rf .GOV_CAP_MGMT 0 0 0 16 else fld v 0 16)
    ∧ (u.writeCapMgmt v).rf .GOV_CAP_MGMT 0 0 16 16 = (if fld v 16 16 = 0 then u.rf .GOV_CAP_MGMT 0 0 16 16 else fld v 16 16)
    ∧ (u.writeCapMgmt v).rf .GOV_CAP_MGMT 0 0 32 7 = fld v 32 7 := by
  have hkeep (lo : Nat) : (if fld v lo 16 = 0 then u.rf .GOV_CAP_MGMT 0 0 lo 16 else fld v lo 16) < 2 ^ 16 := by
    split
    · exact fld_lt _ lo 16
    · exact fld_lt v lo 16
  obtain ⟨hsust, hpeak, hpct⟩ := fld_capWord (if fld v 0 16 = 0 then u.rf .GOV_CAP_MGMT 0 0 0 16 else fld v 0 16)
    (if fld v 16 16 = 0 then u.rf .GOV_CAP_MGMT 0 0 16 16 else fld v 16 16) (fld v 32 7)
  simp only [State.writeCapMgmt, State.rf, State.reg_setReg_same]
  exact ⟨hsust.trans (Nat.mod_eq_of_lt (hkeep 0)), hpeak.trans (Nat.mod_eq_of_lt (hkeep 16)), hpct.trans (Nat.mod_eq_of_lt (fld_lt v 32 7))⟩

/-- Settles O30. -/
theorem governorSettingsAreTaken : Obligations.GovernorSettingsAreTaken := by
  refine ⟨?_, ?_, ?_, ?_, ?_, ?_, ?_, ?_, ?_, ?_, ?_, ?_, ?_⟩
  · intro s t u v h
    refine (leaves_mgmtWr (·.writeCapMgmt v) h rfl rfl).some ?_
    obtain ⟨hsust, hpeak, hpct⟩ := State.rf_writeCapMgmt (u := u) (v := v)
    exact ⟨hsust, hpeak, hpct, rfl, rfl⟩
  · intro s t who u v h hfits
    refine (leaves_regWr (·.writeCapF0 v) h rfl rfl).some ?_
    rw [State.writeCapF0_eq]
    simp only [State.capFits_all hfits, if_true]
    refine ⟨(State.rf_setF_same _ _ _ _ _ (by decide)).trans (Nat.mod_eq_of_lt (fld_lt v 0 32)), ?_⟩
    unfold State.when
    split <;> rfl
  · intro s t who u v tb h htb hno
    refine (leaves_regWr (·.writeCapF0 v) h rfl rfl).some ?_
    rw [State.writeCapF0_eq]
    simp only [State.capFits_not_all htb hno, Bool.false_eq_true, if_false]
    exact ⟨State.rb_setB_same _ _ _ _ _ (by decide), (State.rf_setB_ne _ _ _ _ _ (by decide) (by decide)).trans State.rf_clearRefused⟩
  · intro s t u h hok
    exact leaves_mgmtWr State.priceCommit h rfl (by rw [State.priceCommit, if_pos hok]; rfl)
  · intro s t u h hno
    exact leaves_mgmtWr State.priceCommit h rfl (by simp [State.priceCommit, hno])
  · intro s t u h
    exact leaves_mgmtWr State.priceRestore h rfl rfl
  · intro s t who u h
    exact leaves_regWr State.learnClear h rfl rfl
  · intro s t who u v h h0 hmax hwho
    refine (leaves_regWr (·.writeTlimit (byMgmt who) v) h rfl rfl).some ?_
    rw [State.writeTlimit_eq, if_pos ⟨h0, hmax, hwho⟩]
    refine ⟨(State.rf_setF_same _ _ _ _ _ (by decide)).trans (Nat.mod_eq_of_lt (fld_lt v 0 16)), ?_, rfl⟩
    rw [State.rf_setF_ne _ _ _ _ _ (by decide) (by decide), State.rf_setF_same _ _ _ _ _ (by decide)]
    exact Nat.mod_eq_of_lt (fld_lt v 16 16)
  · intro s t who u v h hout
    refine (leaves_regWr (·.writeTlimit (byMgmt who) v) h rfl rfl).some ?_
    rw [State.writeTlimit_eq, if_neg ?_]
    · exact ⟨State.rf_setF_ne _ _ _ _ _ (by decide) (by decide),
        (State.rf_setF_same _ _ _ _ _ (by decide)).trans (Nat.mod_eq_of_lt (fld_lt v 16 16))⟩
    · rintro ⟨h0, hmax, hwho⟩
      obtain ⟨hhost, habove⟩ | hneg | habove := hout
      · simp only [hhost, Bool.false_eq_true, false_or] at hwho
        omega
      · omega
      · omega
  · intro s t u v h
    exact (leaves_mgmtWr (·.writeSag v) h rfl rfl).some State.writeSag_shows
  · intro s t who u v h hfree
    refine (leaves_regWr (·.writeProfile (byMgmt who) v) h rfl rfl).some ?_
    simp only [State.writeProfile, hfree, Bool.false_eq_true, if_false]
    refine ⟨?_, State.rb_setB_same _ _ _ _ _ (by decide)⟩
    rw [State.rf_setB_ne _ _ _ _ _ (by decide) (by decide), State.rf_setF_same _ _ _ _ _ (by decide)]
    exact Nat.mod_eq_of_lt (fld_lt v 0 2)
  · intro s t who u v h hlocked
    exact leaves_regWr (·.writeProfile (byMgmt who) v) h rfl (by simp [State.writeProfile, hlocked])
  · intro s t n u v h
    exact ⟨leaves_mgmtWr_host (·.writeCapMgmt v) h rfl, leaves_mgmtWr_host State.priceCommit h rfl,
      leaves_mgmtWr_host State.priceRestore h rfl, leaves_mgmtWr_host (·.writeSag v) h rfl⟩

end Sys2Proof.Machine
end

section
/-! SUPPORT. What a message that is sent leaves alone: all but the registers, the outputs, the ports and the accounts of messages. -/

namespace Sys2Proof.Machine

/-- State `u` is `s` but for what the sending of messages reaches. -/
def State.Sent (s u : State) : Prop := ∃ g o r p x q b n,
  u = { s with regs := g, out := o, remoteOps := r, tml := { s.tml with ports := p, xfers := x, seqs := q, outbox := b, seen := n } }

namespace State.Sent

variable {s u v : State}

theorem refl (s : State) : s.Sent s := ⟨_, _, _, _, _, _, _, _, rfl⟩

theorem upd (h : s.Sent u) {g : Tab Word} {o : List Emit} {r : List RemoteOp} {p : Tab TPort} {x : Tab Xfer} {q : Tab Nat}
    {b : List (Nat × Nat × Msg)} {n : List (Nat × Nat)} :
    s.Sent { u with regs := g, out := o, remoteOps := r, tml := { u.tml with ports := p, xfers := x, seqs := q, outbox := b, seen := n } } := by
  obtain ⟨_, _, _, _, _, _, _, _, rfl⟩ := h
  exact ⟨_, _, _, _, _, _, _, _, rfl⟩

theorem ite {c : Prop} [Decidable c] (hu : s.Sent u) (hv : s.Sent v) : s.Sent (if c then u else v) := by
  split
  · exact hu
  · exact hv

theorem foldl {α : Type} {f : State → α → State} {l : List α} (h : s.Sent u) (hf : ∀ v a, s.Sent v → s.Sent (f v a)) :
    s.Sent (l.foldl f u) := by
  induction l generalizing u with
  | nil => exact h
  | cons a l ih => exact ih (hf u a h)

theorem count (h : s.Sent u) (i k : Nat) (x : Who3) : s.Sent (u.count i k x) := by
  obtain ⟨g, hg⟩ := State.count_regs (u := u) i k x
  rw [hg]
  exact h.upd

theorem freeFrame (h : s.Sent u) (f : Frame) : s.Sent (u.freeFrame f) := by
  unfold State.freeFrame
  split
  · exact .ite h h.upd
  · exact h

theorem segWired (h : s.Sent u) (f : Frame) : s.Sent (u.segWired f) := by
  unfold State.segWired
  split
  · exact .ite h.upd h
  · exact h

theorem txNow (h : s.Sent u) (p : Nat) (f : Frame) : s.Sent (u.txNow p f) := by
  unfold State.txNow
  extract_lets _ _ _ _ g queued wired keyed left counted
  have hqueued : s.Sent queued := h.upd
  have hwired : s.Sent wired := (hqueued.freeFrame f).segWired f
  have hkeyed : s.Sent keyed := .ite hwired.upd hwired
  have hcounted : s.Sent counted := count hkeyed.upd _ _ _
  split
  · exact hcounted.count _ _ _
  · exact hcounted

theorem pump (h : s.Sent u) (p n : Nat) : s.Sent (u.pump p n) := by
  induction n generalizing u with
  | zero => exact h
  | succ n ih =>
    unfold State.pump
    refine .ite h ?_
    split
    · exact ih (h.txNow p _)
    · exact h

theorem txFrame (h : s.Sent u) (p : Nat) (f : Frame) : s.Sent (u.txFrame p f) := h.upd.pump p _

theorem wire (h : s.Sent u) (d : Nat) (f : Frame) : s.Sent (u.wire d f) := by
  unfold State.wire
  split
  · exact h.txFrame _ _
  · exact h

theorem sendNow (h : s.Sent u) (d q : Nat) (m : Msg) : s.Sent (u.sendNow d q m) := h.upd.wire _ _

theorem send (h : s.Sent u) (d : Nat) (m : Msg) (f host : Option Nat) (cmd : Option CmdRef) (back : Bool) :
    s.Sent (u.send d m f host cmd back) := .ite h.upd (h.upd.sendNow _ _ _)

theorem broadcast (h : s.Sent u) (m : Msg) : s.Sent (u.broadcast m) :=
  foldl h.upd fun _ _ hv => .ite (hv.txFrame _ _) hv

end State.Sent

end Sys2Proof.Machine
end

section
/-! SUPPORT. Watchdogs, drain limits, regrowth and injection (R263, R265, R266, R270, R281, R286, R288). -/

namespace Sys2Proof.Machine

variable {s u v : State} {t n o : Nat} {k : TdKind} {d : Td}

/-- A watchdog that has run out. -/
theorem State.watchdog_expired {c : Nat} {x : Ctx} (hx : Tab.get? u.ctxs c = some x) (hwd : x.wdMs ≠ 0)
    (hle : x.wdMs * 1000000 ≤ Tab.getD u.wd c 0) (ha : u.ctxActive c = true) :
    u.watchdog c =
      if u.regrowing then { u with regrow := { u.regrow with watchdogs := (u.regrow.watchdogs.filter (fun d => d ≠ c)) ++ [c] } }
      else if u.wdHolds c then u else (u.wake.snapshot [c]).startAutotomy (u.watchdogGuilt c) := by
  simp [State.watchdog, hx, hwd, Nat.not_lt.mpr hle, ha]

/-- The drain limit of a sequence over one context or one SQ. -/
theorem State.drainExpire_single (hk : k = .autotomy ∨ k = .destroySq) (hd : u.tdOf k o = some d) (hhas : d.has = true)
    (hm : d.merged = false) : u.drainExpire k o 64 =
      if u.ref < d.entered + d.limitNs || d.cut.contains 64 then u
      else (u.updTd k o (fun d => { d with cut := d.cut ++ [64] })).squashScope d none := by
  obtain rfl | rfl := hk <;> simp [State.drainExpire, hd, hhas, hm]

/-- The drain limit of a sequence over functions, but for the step of a removal that waits for transfers. -/
theorem State.drainExpire_functions (hk : k = .flr ∨ k = .hostLoss ∨ k = .halted ∨ (k = .removal ∧ d.step ≠ 3))
    (hd : u.tdOf k o = some d) (hhas : d.has = true) (hm : d.merged = false) : u.drainExpire k o n =
      if !u.tdFn d n || u.ref < d.entered + u.limitOf d n || d.cut.contains n then u
      else (u.updTd k o (fun d => { d with cut := d.cut ++ [n] })).squashScope d (some n) := by
  obtain rfl | rfl | rfl | ⟨rfl, hstep⟩ := hk
  · simp [State.drainExpire, hd, hhas, hm]
  · simp [State.drainExpire, hd, hhas, hm]
  · simp [State.drainExpire, hd, hhas, hm]
  · simp [State.drainExpire, hd, hhas, hm, hstep]

theorem State.Sent.inb (h : u.Sent v) : v.tml.inb = u.tml.inb := by
  obtain ⟨_, _, _, _, _, _, _, _, rfl⟩ := h
  rfl

/-- A removal whose transfers have had their time squashes those of the tenant. -/
theorem State.drainExpire_transfers {a : Nat} (hd : u.tdOf .removal a = some d) (hhas : d.has = true) (hm : d.merged = false)
    (hstep : d.step = 3) (hle : d.mark + 1000000 ≤ u.ref) :
    (u.drainExpire .removal a n).tml.inb = u.tml.inb.map (fun y => if y.part == a then { y with squashing := true } else y) := by
  have hsingle : (TdKind.removal == .autotomy || TdKind.removal == .destroySq) = false := rfl
  have hremoval : (TdKind.removal == .removal && decide (d.step = 3)) = true := by simp [hstep]
  simp only [State.drainExpire, hd, hhas, hm, hsingle, hremoval, if_neg (Nat.not_lt.mpr hle), Bool.not_true, Bool.or_self,
    Bool.false_eq_true, if_false, if_true]
  exact (State.Sent.foldl (.refl _) fun _ y hv => hv.send y.src (.squash y.xfer) none none none false).inb

theorem State.regrowResume_rebuilds {ok : Bool} (hg : u.regrowing = true)
    (hok : u.regrow.reread.all (fun r => ok && !u.mcs.bad.contains r.2) = true) :
    u.regrowResume ok = ({ u with regrow := { u.regrow with reread := none } }).rebuildRest := by
  cases hr : u.regrow.reread with
  | none => simp [State.regrowResume, hg, hr]
  | some r =>
    obtain ⟨n, a⟩ := r
    have hgood : (ok && !u.mcs.bad.contains a) = true := by simpa only [hr, Option.all_some] using hok
    simp only [State.regrowResume, hg, hr, hgood, Bool.not_true, Bool.false_eq_true, if_false, if_true]

theorem State.regrowResume_fails {a : Nat} (hg : u.regrowing = true) (hr : u.regrow.reread = some (n, a)) :
    u.regrowResume false =
      if a < 0x8000 then u.startRegrow { cause := 2, seqr := n, addr := a } []
      else (if 0xF000 ≤ a then ({ u with regrow := { u.regrow with reread := none } }).disablePatch a
        else ({ u with regrow := { u.regrow with reread := none } }).unloadRtn a).rebuildRest := by
  simp [State.regrowResume, hg, hr]

/-- Settles O32. -/
theorem faultsAreContained : Obligations.FaultsAreContained := by
  refine ⟨?_, ?_, ?_, ?_, ?_, ?_, ?_, ?_, ?_, ?_, ?_, ?_, ?_, ?_, ?_, ?_⟩
  · intro s t u c x h hx hwd hle ha
    have hexpired := State.watchdog_expired hx hwd hle ha
    refine ⟨fun hg hh => ?_, fun hg hh => ?_, fun hg => ?_⟩
    · exact leaves_act (·.watchdog c) h rfl (by simp [hexpired, hg, hh])
    · exact leaves_act (·.watchdog c) h rfl (by simp [hexpired, hg, hh])
    · exact (leaves_act (·.watchdog c) h rfl (hexpired.trans (if_pos hg))).some ⟨by simp, rfl, rfl⟩
  · intro s t u c x h hx hlt
    exact leaves_act (·.watchdog c) h rfl (by simp [State.watchdog, hx, hlt])
  · intro s t u k c d h hk hd hhas hm
    have hsingle := State.drainExpire_single hk hd hhas hm
    refine ⟨fun hle hcut => ?_, fun hlt => ?_⟩
    · exact leaves_act (·.drainExpire k c 64) h rfl (by simp [hsingle, Nat.not_lt.mpr hle, hcut])
    · exact leaves_act (·.drainExpire k c 64) h rfl (by simp [hsingle, hlt])
  · intro s t u k o n d h hk hd hhas hm hfn
    have hfns := State.drainExpire_functions (n := n) hk hd hhas hm
    refine ⟨fun hle hcut => ?_, fun hlt => ?_⟩
    · refine leaves_act (·.drainExpire k o n) h rfl (hfns.trans (if_neg ?_))
      simp only [hfn, hcut, Nat.not_lt.mpr hle, decide_false, Bool.not_true, Bool.or_self, Bool.false_eq_true, not_false_eq_true]
    · exact leaves_act (·.drainExpire k o n) h rfl (hfns.trans (if_pos (by simp [hlt])))
  · intro s t u a n d h hd hhas hm hstep hle
    refine (leaves_act (·.drainExpire .removal a n) h rfl rfl).some ?_
    intro y hy hpart
    rw [State.drainExpire_transfers hd hhas hm hstep hle] at hy
    obtain ⟨x, -, rfl⟩ := List.mem_map.mp hy
    split at hpart
    next hx => simp [hx]
    next hx => exact absurd hpart (by simpa using hx)
  · intro s t u h
    exact leaves_act State.grantTd h rfl rfl
  · intro u j d hj hd
    have hwaits : u.td.find? Td.waits = some d := hd
    simp only [State.grantTd, hj, hwaits]
  · intro s t u ok h hg hok
    exact leaves_act (·.regrowResume ok) h rfl (State.regrowResume_rebuilds hg hok)
  · intro s t u n a h hg hr hle
    exact leaves_act (·.regrowResume false) h rfl ((State.regrowResume_fails hg hr).trans (if_neg (Nat.not_lt.mpr hle)))
  · intro s t u n a h hg hr hlt
    exact leaves_act (·.regrowResume false) h rfl ((State.regrowResume_fails hg hr).trans (if_pos hlt))
  · intro s t u ok h hg
    exact leaves_act (·.regrowResume ok) h rfl (by simp [State.regrowResume, hg])
  · intro s t who u h
    exact leaves_regWr State.releasePrimary h rfl rfl
  · intro s t u n h hen hn hnew
    refine leaves_mgmtWr (fun s => if s.mayInject true then s.injectParity n else s) h rfl ?_
    simp only [State.mayInject, hen, Bool.true_and, if_true, State.injectParity, Nat.not_lt.mpr hn, decide_false, hnew, Bool.or_self,
      Bool.false_eq_true, if_false]
  · intro s t u n h hen hn
    refine ⟨fun hnew => ?_, fun hnew => ?_⟩
    · refine leaves_mgmtWr (fun s => if s.mayInject true then s.injectBad n else s) h rfl ?_
      simp only [State.mayInject, hen, Bool.true_and, if_true, State.injectBad, Nat.not_lt.mpr hn, decide_false, hnew, Bool.or_self,
        Bool.false_eq_true, if_false]
    · refine leaves_mgmtWr (fun s => if s.mayInject true then s.injectFix n else s) h rfl ?_
      simp only [State.mayInject, hen, Bool.true_and, if_true, State.injectFix, Nat.not_lt.mpr hn, decide_false, hnew, Bool.or_self,
        Bool.false_eq_true, if_false]
  · intro s t u n h hen
    have hno : u.mayInject true = false := by simp [State.mayInject, hen]
    exact ⟨leaves_mgmtWr (fun s => if s.mayInject true then s.injectParity n else s) h rfl (by simp [hno]),
      leaves_mgmtWr (fun s => if s.mayInject true then s.injectBad n else s) h rfl (by simp [hno]),
      leaves_mgmtWr (fun s => if s.mayInject true then s.injectFix n else s) h rfl (by simp [hno])⟩
  · intro s t m u n h
    exact ⟨leaves_mgmtWr_host (fun s => if s.mayInject true then s.injectParity n else s) h rfl,
      leaves_mgmtWr_host (fun s => if s.mayInject true then s.injectBad n else s) h rfl,
      leaves_mgmtWr_host (fun s => if s.mayInject true then s.injectFix n else s) h rfl⟩

end Sys2Proof.Machine
end

section
/-! SUPPORT. Functions are assigned and reset (R289, R291, R304). -/

namespace Sys2Proof.Machine

variable {s u v : State} {t n : Nat} {who : Who} {w : Word}

theorem leaves_fnAssignWrite (h : Writes s t who .glob u) (hv : u.writeFnCfg (byMgmt who) n w = v) : Leaves (.fnAssignWrite t who n w) s v :=
  leaves_regWr (·.writeFnCfg (byMgmt who) n w) h rfl hv

/-- A write of VXB_FN_CFG that takes REFUSED as it stands. -/
theorem State.writeFnCfg_eq {mgmt : Bool} (h4 : bitOf w 4 = false) :
    u.writeFnCfg mgmt n w =
      if fld (u.reg .VXB_FN_CFG n) 0 4 ≠ fld w 0 4
          ∧ ((mgmt || decide (n ≠ 0)) && u.fnEmpty n && !u.resetting n && (!bitOf w 3 || u.live (fld w 0 3))) = false then
        u.setB .VXB_FN_CFG n 0 4 true
      else
        let v := (u.setF .VXB_FN_CFG n 0 0 4 (fld w 0 4)).setF .VXB_FN_CFG n 0 16 16 (fld w 16 16)
        let x := v.when (decide (fld (u.reg .VXB_FN_CFG n) 0 4 ≠ fld w 0 4)) (fun s => { s with sec := s.sec.endSession (.host n) })
        if bitOf w 6 && (mgmt || decide (n ≠ 0)) then x.startFlr n else x := by
  simp only [State.writeFnCfg, h4, State.when, Bool.false_eq_true, if_false, Bool.and_eq_true, decide_eq_true_eq, Bool.not_eq_true']

/-- The fields of VXB_FN_CFG that a write has taken. -/
theorem State.fnCfg_taken (a b : Nat) :
    ((u.setF .VXB_FN_CFG n 0 0 4 a).setF .VXB_FN_CFG n 0 16 16 b).rf .VXB_FN_CFG n 0 0 4 = a % 2 ^ 4
    ∧ ((u.setF .VXB_FN_CFG n 0 0 4 a).setF .VXB_FN_CFG n 0 16 16 b).rf .VXB_FN_CFG n 0 16 16 = b % 2 ^ 16 :=
  ⟨(State.rf_setF_ne _ _ _ _ _ (by decide) (by decide)).trans (State.rf_setF_same _ _ _ _ _ (by decide)),
    State.rf_setF_same _ _ _ _ _ (by decide)⟩

/-- Settles O33. -/
theorem functionsAreAssignedAndReset : Obligations.FunctionsAreAssignedAndReset := by
  refine ⟨?_, ?_, ?_, ?_, ?_, ?_, ?_, ?_, ?_⟩
  · intro s t u k h hk
    exact leaves_dev (·.setVfCount k) h rfl (by simp only [State.setVfCount, Nat.min_eq_right hk])
  · intro s t who u n v h hwho hempty hres hlive h4 h6
    refine (leaves_fnAssignWrite h rfl).some ?_
    have hok : ((byMgmt who || decide (n ≠ 0)) && u.fnEmpty n && !u.resetting n && (!bitOf v 3 || u.live (fld v 0 3))) = true := by
      obtain hl | hl := hlive <;> simp only [hwho, hempty, hres, hl, Bool.not_false, Bool.and_self, Bool.true_or, Bool.or_true]
    obtain ⟨hpart, hdrain⟩ := State.fnCfg_taken (u := u) (n := n) (fld v 0 4) (fld v 16 16)
    rw [State.writeFnCfg_eq h4, if_neg (by rw [hok]; simp)]
    simp only [h6, Bool.false_and, Bool.false_eq_true, if_false]
    rw [Nat.mod_eq_of_lt (fld_lt v 0 4)] at hpart
    rw [Nat.mod_eq_of_lt (fld_lt v 16 16)] at hdrain
    unfold State.when
    split
    · exact ⟨hpart, hdrain, rfl, rfl, rfl⟩
    · exact ⟨hpart, hdrain, rfl, rfl, rfl⟩
  · intro s t who u n v h hempty h4 hchange
    have hchange' : fld (u.reg .VXB_FN_CFG n) 0 4 ≠ fld v 0 4 := Ne.symm hchange
    exact leaves_fnAssignWrite h ((State.writeFnCfg_eq h4).trans (if_pos ⟨hchange', by simp [hempty]⟩))
  · intro s t who u n v h hwho h4 h6 hsame
    have hsame' : fld (u.reg .VXB_FN_CFG n) 0 4 = fld v 0 4 := hsame.symm
    refine leaves_fnAssignWrite h ((State.writeFnCfg_eq h4).trans ((if_neg (fun hc => hc.1 hsame')).trans ?_))
    simp only [hsame', h6, hwho, ne_eq, not_true_eq_false, decide_false, State.when, Bool.false_eq_true, if_false, Bool.and_self, if_true]
  · intro s t who u n h hwho hp
    refine leaves_regWr (·.fnCfgReset (byMgmt who) n) h rfl ?_
    rw [State.fnCfgReset, if_pos (by rw [hwho, hp]; rfl)]
  · intro s t m u h
    exact leaves_regWr (·.fnCfgReset (byMgmt (.fn m)) 0) h rfl rfl
  · intro s t n u h
    exact leaves_regWr (·.startFlr n) h rfl rfl
  · intro s t n u h hp
    exact leaves_dev (fun s => if s.fnPresent n then s.startFlr n else s) h rfl (if_pos hp)
  · intro s t n u h hp
    exact leaves_dev (fun s => if s.fnPresent n then s.startFlr n else s) h rfl (if_neg (by simp [hp]))

end Sys2Proof.Machine
end

section
/-! SUPPORT. Keys are made, released and zeroised (R309, R310, R313, R318, R329, R334, R341, R343). -/

namespace Sys2Proof.Machine

variable {s u v : State} {t n k a m p f : Nat}

/-- The key request at the front, once the noise source works. -/
theorem State.keygenDone_part {r : List KeyReq} (hr : u.sec.keyReqs = .part k :: r) (he : u.esFailed = false) (hp : u.preq = none) :
    u.keygenDone = ((u.setSec (fun c => { c with keyReqs := r })).setReg .SEC_SLOT k 0 (mkWord [(0, 2, 1), (2, 3, k)])).newKey k := by
  have hnone : (((u.setSec (fun c => { c with keyReqs := r })).setReg .SEC_SLOT k 0 (mkWord [(0, 2, 1), (2, 3, k)])).newKey k).preq = none := hp
  simp only [State.keygenDone, hr, he, hnone, Bool.false_eq_true, if_false]

theorem State.newKey_shows : (u.newKey k).rf .SEC_STAT 0 0 32 32 = satAdd (2 ^ 32 - 1) (u.rf .SEC_STAT 0 0 32 32) 1
    ∧ (∀ q i j, q.key i j ≠ Reg.SEC_STAT.key 0 0 → (u.newKey k).reg q i j = u.reg q i j) := by
  refine ⟨?_, fun q i j h => State.reg_setF_ne u h⟩
  refine (State.rf_setF_same _ _ _ _ _ (by decide)).trans (Nat.mod_eq_of_lt ?_)
  simp only [satAdd]
  omega

theorem State.keygenDone_tenant {r : List KeyReq} (hr : u.sec.keyReqs = .tenant f :: r) (he : u.esFailed = false)
    (hl : u.rb .TML_STAT 0 0 5 = true) : u.keygenDone = (u.setSec (fun c => { c with keyReqs := r })).tenantKey f := by
  have hl' : (u.setSec (fun c => { c with keyReqs := r })).rb .TML_STAT 0 0 5 = true := hl
  simp only [State.keygenDone, hr, he, hl', Bool.not_true, Bool.false_eq_true, if_false]

theorem State.inSession_any (h : u.inSession (.host n) = true) : u.sec.sessions.any (fun x => x.peer == .host n && x.finished) = true := by
  unfold State.inSession State.session at h
  cases hx : u.sec.sessions.find? (fun x => x.peer == .host n) with
  | none => rw [hx] at h; exact absurd h (by simp)
  | some x =>
    rw [hx, Option.any_some] at h
    rw [List.any_eq_true]
    exact ⟨x, List.mem_of_find?_eq_some hx, by rw [List.find?_some hx, h]; rfl⟩

theorem State.keygenDone_wrap {r : List KeyReq} (hr : u.sec.keyReqs = .wrap n :: r) (he : u.esFailed = false)
    (hm : u.sec.mbox.contains n = true) (hs : u.inSession (.host n) = true) :
    u.keygenDone = (((u.setSec (fun c => { c with keyReqs := r })).newWrap (.host n)).1).setSec
      (fun c => { c with mboxAns := Tab.set c.mboxAns n (((u.setSec (fun c => { c with keyReqs := r })).newWrap (.host n)).2, true) }) := by
  have hm' : (u.setSec (fun c => { c with keyReqs := r })).sec.mbox.contains n = true := hm
  have hs' : (u.setSec (fun c => { c with keyReqs := r })).sec.sessions.any (fun x => x.peer == .host n && x.finished) = true :=
    State.inSession_any hs
  simp only [State.keygenDone, hr, he, hm', hs', Bool.not_true, Bool.or_self, Bool.false_eq_true, if_false]

theorem State.entropyRetry_again {pass : Bool} (he : u.esFailed = true) (hn : u.rf .SEC_STAT 0 0 2 2 < 3) :
    u.entropyRetry pass =
      if pass then (((u.setF .SEC_STAT 0 0 2 2 (u.rf .SEC_STAT 0 0 2 2 + 1)).setB .SEC_STAT 0 0 1 false).setB .SEC_STAT 0 0 0 true).resumeKex
      else u.setF .SEC_STAT 0 0 2 2 (u.rf .SEC_STAT 0 0 2 2 + 1) := by
  simp [State.entropyRetry, he, Nat.not_le.mpr hn]

/-- A repeat of the start-up tests that fails counts, and the noise source has still failed. -/
theorem State.entropyRetry_fails (he : u.esFailed = true) (hn : u.rf .SEC_STAT 0 0 2 2 < 3) :
    (u.entropyRetry false).esFailed = true ∧ (u.entropyRetry false).rf .SEC_STAT 0 0 2 2 = u.rf .SEC_STAT 0 0 2 2 + 1 := by
  rw [State.entropyRetry_again he hn]
  simp only [Bool.false_eq_true, if_false]
  exact ⟨(State.rb_setF_ne _ _ _ _ _ (by decide) (by decide)).trans he,
    (State.rf_setF_same _ _ _ _ _ (by decide)).trans (Nat.mod_eq_of_lt (by omega))⟩

/-- The session key that is installed, and the one that it replaces. -/
theorem State.installFt_shows {e : Nat} {key : BitVec 256} (h : u.rb .SEC_FT f 0 19 = true) :
    Tab.get? (u.installFt f e key).sec.keys (8 + u.rf .SEC_FT f 0 16 3) = some key
    ∧ Tab.get? (u.installFt f e key).sec.nextEpoch f = some e
    ∧ (u.slotType (8 + u.rf .SEC_FT f 0 16 3) = 2 → u.rb .SEC_FT f 0 20 = true → Tab.get? u.sec.nextEpoch f = none →
      Tab.get? (u.installFt f e key).sec.oldKeys f = some (none, u.keyOf (8 + u.rf .SEC_FT f 0 16 3))) := by
  simp only [State.installFt, h, Bool.not_true, Bool.false_eq_true, if_false]
  refine ⟨Tab.get?_set_same .., Tab.get?_set_same .., fun htype hagreed hnew => ?_⟩
  simp only [htype, hagreed, hnew, State.when, Option.isNone_none, decide_true, Bool.and_self, if_true]
  exact Tab.get?_set_same ..

/-! ## Page releases -/

/-- The pages of a release leave the data or meet a sealed range. -/
def State.releaseBad (u : State) (p a m : Nat) : Bool :=
  decide (65536 < m) || decide (u.rf .MCI_PART p 0 16 36 < a + m)
    || (List.range 4).any (fun r => bitOf (u.reg .MCI_SEAL p r) 36 && decide (fld (u.reg .MCI_SEAL p r) 0 36 < a + m)
      && decide (a < fld (u.reg .MCI_SEAL p r) 0 36 + fld (u.reg .MCI_SEAL p r) 40 24))

theorem State.fnPart_relStat {b : Nat} {x : Bool} : (u.setB .MCI_FN_REL_STAT n 0 b x).fnPart n = u.fnPart n := by
  have hkey : Reg.VXB_FN_CFG.key n 0 ≠ Reg.MCI_FN_REL_STAT.key n 0 := by
    have hcfg : Reg.VXB_FN_CFG.key n 0 = 2560 + 8 * n := rfl
    have hrel : Reg.MCI_FN_REL_STAT.key n 0 = 0x400000 + n * 0x10000 + 0xE30 := rfl
    omega
  simp only [State.fnPart, State.reg_setB_ne u hkey]

theorem State.pageRelease_eq (hr : Tab.get? u.sec.releases n = none) (hp : u.fnPart n = some p) (hm : m = if k = 0 then 1 else k) :
    u.pageRelease n a k =
      if u.releaseBad p a m then u.setB .MCI_FN_REL_STAT n 0 2 true
      else ((u.setSec (fun c => { c with releases := Tab.set c.releases n (a, m, []) })).setB .MCI_FN_REL_STAT n 0 0 true).emit
        (.cipher "invalidate pages" p) := by
  have hp' : ((u.setSec (fun c => { c with releases := Tab.set c.releases n (a, m, []) })).setB .MCI_FN_REL_STAT n 0 0 true).fnPart n = some p :=
    State.fnPart_relStat.trans hp
  simp only [State.pageRelease, hr, hp, ← hm, hp', Option.isSome_none, Bool.false_eq_true, if_false]
  rfl

theorem State.releaseBad_of_outside (h : 65536 < m ∨ u.rf .MCI_PART p 0 16 36 < a + m) : u.releaseBad p a m = true := by
  obtain h | h := h <;> simp [State.releaseBad, h]

theorem State.releaseBad_of_clear (hm : m ≤ 65536) (hin : a + m ≤ u.rf .MCI_PART p 0 16 36)
    (hseal : ∀ r, r < 4 → bitOf (u.reg .MCI_SEAL p r) 36 = true → a + m ≤ fld (u.reg .MCI_SEAL p r) 0 36
      ∨ fld (u.reg .MCI_SEAL p r) 0 36 + fld (u.reg .MCI_SEAL p r) 40 24 ≤ a) : u.releaseBad p a m = false := by
  simp only [State.releaseBad, Bool.or_eq_false_iff, decide_eq_false_iff_not, Nat.not_lt, List.any_eq_false, List.mem_range, Bool.and_eq_true,
    decide_eq_true_eq]
  refine ⟨⟨hm, hin⟩, fun r hr hmeets => ?_⟩
  obtain ⟨⟨hbit, hlow⟩, hhigh⟩ := hmeets
  have := hseal r hr hbit
  omega

/-- The counters above counters that are gone go too, and nothing else changes. -/
theorem State.pruneUp_eq {j : Nat} (h : u.pruneUp p m j = v) : ∃ c, v = { u with sec := { u.sec with ctrs := c } } := by
  induction m generalizing u j with
  | zero => exact ⟨u.sec.ctrs, h.symm⟩
  | succ m ih =>
    simp only [State.pruneUp] at h
    obtain ⟨c, rfl⟩ := ih h
    exact ⟨c, rfl⟩

theorem State.clearPages_eq (but : List Nat) :
    ∃ c d x, u.clearPages p a k but = { u with sec := { u.sec with ctrs := c, dirty := d, sat := x } } := by
  unfold State.clearPages
  dsimp only
  generalize hq : State.pruneUp _ p _ 0 = q
  obtain ⟨c, rfl⟩ := State.pruneUp_eq hq
  exact ⟨_, _, _, rfl⟩

/-- Pages that are freed leave the held pages and the counter tree, and nothing else changes. -/
theorem State.freePages_eq (but : List Nat) : ∃ c d x, u.freePages p a k but = { u with sec := { u.sec with
    ctrs := c, dirty := d, sat := x,
    pages := Tab.set u.sec.pages p ((u.heldPages p).filter (fun x => decide (x < a) || decide (a + k ≤ x) || but.contains x)) } } := by
  obtain ⟨c, d, x, hclear⟩ := State.clearPages_eq (u := u) (p := p) (a := a) (k := k) but
  exact ⟨c, d, x, by rw [State.freePages, hclear]; rfl⟩

/-- The release of a function's pages, but for the pages. -/
def State.releaseEnded (u : State) (n : Nat) : State :=
  ((u.setSec (fun c => { c with releases := Tab.erase c.releases n })).setB .MCI_FN_REL_STAT n 0 0 false).setB .MCI_FN_REL_STAT n 0 1 true

theorem State.fnPart_lt (h : u.fnPart n = some p) : p < 8 := by
  simp only [State.fnPart] at h
  split at h
  · obtain rfl := Option.some.inj h
    exact fld_lt _ 0 3
  · exact absurd h (by simp)

/-- No interleave waits for the pages, and so only the pages go. -/
theorem State.pageReleased_eq {but : List Nat} (hr : Tab.get? u.sec.releases n = some (a, k, but)) (hp : u.fnPart n = some p)
    (hj : u.rf .MCI_PART p 0 8 8 = 0) : u.pageReleased n = (u.releaseEnded n).freePages p a k but := by
  have hpart : (u.releaseEnded n).fnPart n = some p := State.fnPart_relStat.trans (State.fnPart_relStat.trans hp)
  have hkey : Reg.MCI_PART.key p 0 ≠ Reg.MCI_FN_REL_STAT.key n 0 := by
    have hlt := State.fnPart_lt hp
    have hmci : Reg.MCI_PART.key p 0 = 526336 + 16 * p := rfl
    have hrel : Reg.MCI_FN_REL_STAT.key n 0 = 0x400000 + n * 0x10000 + 0xE30 := rfl
    omega
  have hjoin : ((u.releaseEnded n).freePages p a k but).rf .MCI_PART p 0 8 8 = 0 := by
    obtain ⟨c, d, x, hfree⟩ := State.freePages_eq (u := u.releaseEnded n) (p := p) (a := a) (k := k) but
    rw [hfree]
    exact (State.rf_setB_other hkey).trans ((State.rf_setB_other hkey).trans hj)
  calc u.pageReleased n
    _ = match (u.releaseEnded n).fnPart n with
        | none => u.releaseEnded n
        | some t => ((u.releaseEnded n).freePages t a k but).joinIlv t := by simp only [State.pageReleased, hr]; rfl
    _ = _ := by simp [hpart, State.joinIlv, hjoin]

theorem State.pageReleased_shows {but : List Nat} (hr : Tab.get? u.sec.releases n = some (a, k, but)) (hp : u.fnPart n = some p)
    (hj : u.rf .MCI_PART p 0 8 8 = 0) :
    (u.pageReleased n).rb .MCI_FN_REL_STAT n 0 0 = false ∧ (u.pageReleased n).rb .MCI_FN_REL_STAT n 0 1 = true
    ∧ Tab.get? (u.pageReleased n).sec.releases n = none
    ∧ (u.pageReleased n).heldPages p = (u.heldPages p).filter (fun x => x < a || a + k ≤ x || but.contains x) := by
  obtain ⟨c, d, x, hfree⟩ := State.freePages_eq (u := u.releaseEnded n) (p := p) (a := a) (k := k) but
  rw [State.pageReleased_eq hr hp hj, hfree]
  refine ⟨?_, State.rb_setB_same _ _ _ _ _ (by decide), Tab.get?_erase_same .., ?_⟩
  · exact (State.rb_setB_ne _ _ _ _ _ (by decide) (by decide)).trans (State.rb_setB_same _ _ _ _ _ (by decide))
  · simp only [State.heldPages, Tab.getD, Tab.get?_set_same, Option.getD_some]
    rfl

/-! ## Keys that are freed and zeroised -/

theorem State.freeBlob_blob (h3 : u.slotType k = 3) :
    u.freeBlob k = if u.slotInUse k then (if u.sec.revoke.contains k then u
      else { u with sec := { u.sec with revoke := u.sec.revoke ++ [k] } }) else u.zeroSlot k := by
  simp [State.freeBlob, h3]

theorem State.zeroiseOne_blob (h1 : 16 ≤ k) (h2 : k ≤ 62) : u.zeroiseOne k = u.freeBlob k := by
  simp [State.zeroiseOne, h1, h2]

theorem State.zeroiseOne_none (h : k < 8 ∨ 62 < k) : u.zeroiseOne k = u := by
  have h1 : ¬ (16 ≤ k ∧ k ≤ 62) := by omega
  have h2 : ¬ (8 ≤ k ∧ k ≤ 15) := by omega
  simp [State.zeroiseOne, h1, h2]

/-- The session key of a tenant that moves nothing is gone at once. -/
theorem State.zeroiseOne_tenant (h1 : 8 ≤ k) (h2 : k ≤ 15) (htype : u.slotType k = 2) (hf : f = u.rf .SEC_SLOT k 0 8 4)
    (hidle : u.ftInUse f = false) : u.zeroiseOne k = (u.setB .SEC_FT f 0 20 false).zeroSlot k := by
  have hblob : ¬ (16 ≤ k ∧ k ≤ 62) := by omega
  have hidle' : (u.setB .SEC_FT f 0 20 false).ftInUse f = false := hidle
  simp [State.zeroiseOne, hblob, h1, h2, htype, ← hf, hidle']

/-- Settles O35. -/
theorem keysAreMadeAndZeroised : Obligations.KeysAreMadeAndZeroised := by
  refine ⟨?_, ?_, ?_, ?_, ?_, ?_, ?_, ?_, ?_, ?_, ?_, ?_, ?_, ?_, ?_, ?_, ?_, ?_, ?_, ?_, ?_⟩
  · intro s t u k r h hk hr he hp
    refine (leaves_dev State.keygenDone h rfl (State.keygenDone_part hr he hp)).some ?_
    obtain ⟨hcount, hother⟩ := State.newKey_shows (k := k)
      (u := (u.setSec (fun c => { c with keyReqs := r })).setReg .SEC_SLOT k 0 (mkWord [(0, 2, 1), (2, 3, k)]))
    have hkeys : ∀ k < 8, Reg.SEC_SLOT.key k 0 ≠ Reg.SEC_STAT.key 0 0 := by decide
    refine ⟨(hother _ _ _ (hkeys k hk)).trans (State.reg_setReg_same ..), rfl, ?_, rfl⟩
    rw [hcount, State.rf_setReg_other (hkeys k hk).symm]
    rfl
  · intro s t u h he hne
    refine leaves_dev State.keygenDone h rfl ?_
    unfold State.keygenDone
    split
    · rfl
    · rw [if_pos he]
  · intro s t u h he
    exact leaves_dev State.healthFail h rfl (by simp [State.healthFail, he])
  · intro s t u h he hn
    exact ⟨leaves_dev (·.entropyRetry true) h rfl ((State.entropyRetry_again he hn).trans (if_pos rfl)),
      (leaves_dev (·.entropyRetry false) h rfl rfl).some (State.entropyRetry_fails he hn)⟩
  · intro s t u ok h he hn
    exact leaves_dev (·.entropyRetry ok) h rfl (by simp [State.entropyRetry, hn])
  · intro s t u f r h hr he hl
    exact leaves_dev State.keygenDone h rfl (State.keygenDone_tenant hr he hl)
  · rintro u f e rfl
    rfl
  · intro u f e key h
    exact State.installFt_shows h
  · intro s t u n r h hr he hm hs
    exact (leaves_dev State.keygenDone h rfl (State.keygenDone_wrap hr he hm hs)).some ⟨rfl, rfl, Tab.get?_set_same ..⟩
  · intro s t n a k m u p h hr hp hm hlen hin hseal
    refine leaves_regWr (·.pageRelease n a k) h rfl ((State.pageRelease_eq hr hp hm).trans (if_neg ?_))
    simp [State.releaseBad_of_clear hlen hin hseal]
  · intro s t n a k m u p h hr hp hm hout
    exact leaves_regWr (·.pageRelease n a k) h rfl ((State.pageRelease_eq hr hp hm).trans (if_pos (State.releaseBad_of_outside hout)))
  · intro s t n a k u h hbusy
    exact leaves_regWr (·.pageRelease n a k) h rfl (by rw [State.pageRelease, if_pos hbusy])
  · intro s t n u a k but p h _ hr hp hj
    exact (leaves_act (·.pageReleased n) h rfl rfl).some (State.pageReleased_shows hr hp hj)
  · intro s t n k u h hown h3
    refine ⟨fun hidle => ?_, fun huse hnew => ?_⟩
    · refine leaves_regWr (·.keyFree n k) h rfl ?_
      rw [State.keyFree, if_pos hown, State.freeBlob_blob h3, if_neg (by simp [hidle])]
    · refine leaves_regWr (·.keyFree n k) h rfl ?_
      rw [State.keyFree, if_pos hown, State.freeBlob_blob h3, if_pos huse, if_neg (by rw [hnew]; decide)]
  · intro s t n k u h hown
    exact leaves_regWr (·.keyFree n k) h rfl (by rw [State.keyFree, if_neg (by rw [hown]; decide)])
  · intro s t k u h h1 h2 h3 hidle
    refine leaves_mgmtWr (·.zeroiseOne k) h rfl ?_
    rw [State.zeroiseOne_blob h1 h2, State.freeBlob_blob h3, if_neg (by simp [hidle])]
  · intro s t k u h h1 h2 h3 huse hnew
    refine leaves_mgmtWr (·.zeroiseOne k) h rfl ?_
    rw [State.zeroiseOne_blob h1 h2, State.freeBlob_blob h3, if_pos huse, if_neg (by rw [hnew]; decide)]
  · intro s t k u h h1 h2 htype hidle
    refine (leaves_mgmtWr (·.zeroiseOne k) h rfl (State.zeroiseOne_tenant h1 h2 htype rfl hidle)).some ?_
    have hkeys : ∀ k < 16, ∀ f < 16, Reg.SEC_FT.key f 0 ≠ Reg.SEC_SLOT.key k 0 := by decide
    have hkey := hkeys k (by omega) (u.rf .SEC_SLOT k 0 8 4) (fld_lt _ 8 4)
    refine ⟨State.reg_setReg_same .., ?_, Tab.get?_erase_same .., rfl⟩
    exact (State.rb_setReg_other hkey).trans (State.rb_setB_same _ _ _ _ _ (by decide))
  · intro s t k u h hk
    exact leaves_mgmtWr (·.zeroiseOne k) h rfl (State.zeroiseOne_none hk)
  · intro s t u h
    exact leaves_mgmtWr State.zeroiseAll h rfl rfl
  · intro s t n k u h
    exact ⟨leaves_mgmtWr_host (·.zeroiseOne k) h rfl, leaves_mgmtWr_host State.zeroiseAll h rfl⟩

end Sys2Proof.Machine
end

section
/-! SUPPORT. Mailboxes and SPDM requests (R330 to R333, R344). -/

namespace Sys2Proof.Machine

variable {s u v : State} {t n l o : Nat} {p : SpdmPeer} {c : Instr} {free : Bool} {g : State → State × SpdmAns} {x : Session}

/-! ## How a request is answered -/

/-- A request of the management controller once start-up is complete. -/
theorem leaves_spdm_mgmt (g : State → State × SpdmAns) (hu : u = s.at t) (hr : u.ready = true) (h4 : u.rb .VXB_START_STAT 0 0 4 = false)
    (hc : exec c s = actAny s t (fun s => s.spdm .mgmt free g)) (hv : (g u).1.emit (.spdm .mgmt (g u).2) = v) : Leaves c s v := by
  subst hu
  refine leaves_any (fun s => s.spdm .mgmt free g) hc ?_
  simp [State.spdm, State.spdmThen, State.answer, hr, h4, hv]

/-- A request that waits in a function's mailbox, and that nothing has answered yet. -/
def State.Asked (u : State) (n : Nat) : Prop :=
  u.alive = true ∧ u.sec.mbox.contains n = true ∧ Tab.get? u.sec.mboxAns n = none ∧ u.sec.keyReqs.contains (.wrap n) = false

theorem State.answer_host (h : u.Asked n) : u.answer (.host n) g
    = (g u).1.setSec (fun c => { c with mboxAns := Tab.set c.mboxAns n ((g u).2, (u.session (.host n)).isSome) }) := by
  obtain ⟨-, hm, hans, hk⟩ := h
  simp only [State.answer, hm, hans, hk, Option.isNone_none, Bool.not_false, Bool.and_self, if_true]

theorem leaves_spdm_host (g : State → State × SpdmAns) (hu : u = s.at t) (h : u.Asked n)
    (hc : exec c s = actAny s t (fun s => s.spdm (.host n) free g))
    (hv : (g u).1.setSec (fun c => { c with mboxAns := Tab.set c.mboxAns n ((g u).2, (u.session (.host n)).isSome) }) = v) : Leaves c s v := by
  subst hu
  refine leaves_any (fun s => s.spdm (.host n) free g) hc ?_
  rw [State.spdm, State.spdmThen, if_pos h.1, State.answer_host h, hv]

/-! ## Sessions -/

/-- A change that keeps the peers changes the session that is found. -/
theorem find_session_map (ss : List Session) (f : Session → Session) (hf : ∀ x : Session, (f x).peer = x.peer) :
    (ss.map (fun x => if x.peer == p then f x else x)).find? (fun x => x.peer == p) = (ss.find? (fun x => x.peer == p)).map f := by
  induction ss with
  | nil => rfl
  | cons x ss ih =>
    by_cases hx : x.peer = p
    · simp [hx, hf]
    · simpa [hx] using ih

theorem State.session_updSession (f : Session → Session) (hf : ∀ x : Session, (f x).peer = x.peer) :
    (u.updSession p f).session p = (u.session p).map f :=
  find_session_map u.sec.sessions f hf

theorem State.session_finished (hs : u.session p = some x) :
    (u.updSession p (fun x => { x with finished := true, owner := o })).session p = some { x with finished := true, owner := o } := by
  rw [State.session_updSession (f := fun x => { x with finished := true, owner := o }) (fun _ => rfl), hs]
  rfl

/-- The session of a peer that has ended. -/
theorem find_endSession (c : Sec) : (c.endSession p).sessions.find? (fun x => x.peer == p) = none := by
  simp [Sec.endSession, List.find?_eq_none]

theorem State.inSession_of (hs : u.session p = some x) (hf : x.finished = true) : u.inSession p = true := by
  simp [State.inSession, hs, hf]

theorem State.session_of_inSession (h : u.inSession p = true) : ∃ x, u.session p = some x ∧ x.finished = true := by
  unfold State.inSession at h
  cases hs : u.session p with
  | none => rw [hs] at h; exact absurd h (by simp)
  | some x => exact ⟨x, rfl, by simpa [hs] using h⟩

theorem State.Reported.sec (h : u.Reported v) : v.sec = u.sec ∧ v.ref = u.ref := by
  obtain ⟨_, _, _, _, _, _, _, _, _, rfl⟩ := h
  exact ⟨rfl, rfl⟩

theorem State.Reported.securityRec (h : s.Reported u) (sub : Nat) (obj : Option Nat) (d : List Word) : s.Reported (u.securityRec sub obj d) :=
  .ite (h.logErr _) ((h.logErr _).raise 16)

/-- A FINISH whose proof fails ends the session. -/
theorem State.spdmFinish_fails {b : Bool} (hs : u.session .mgmt = some x) (hx : x.finished = false) (hb : b = false ∨ u.owners ≤ o) :
    (u.spdmFinish .mgmt b o).2 = .error .refused
    ∧ ∃ w, (u.spdmFinish .mgmt b o).1 = (if 8 ≤ u.sec.fails + 1 then w.setSec (fun c => { c with lockUntil := some (u.ref + 10000000000) }) else w)
      ∧ w.sec = { u.sec.endSession .mgmt with fails := u.sec.fails + 1 } := by
  have hno : (b && (decide (SpdmPeer.mgmt ≠ .mgmt) || decide (o < u.owners))) = false := by
    obtain rfl | hle := hb
    · rfl
    · simp [Nat.not_lt.mpr hle]
  have hw := ((State.Reported.refl (((u.setSec (fun c => c.endSession .mgmt)).setSec (fun c => { c with fails := c.fails + 1 })).bump
    .SEC_MGMT 0 0 8 8 1)).securityRec 8 none []).sec
  obtain ⟨hsec, href⟩ := hw
  simp only [State.spdmFinish, hs, hx, hno, Bool.false_eq_true, if_false, beq_self_eq_true, if_true]
  refine ⟨trivial, _, ?_, hsec⟩
  rw [hsec, href]
  rfl

theorem State.spdmFinish_holds (hs : u.session p = some x) (hx : x.finished = false) (hp : p ≠ .mgmt ∨ o < u.owners) :
    u.spdmFinish p true o =
      (if p == .mgmt then ((u.updSession p (fun x => { x with finished := true, owner := o })).setF .SEC_MGMT 0 0 1 2 o).setSec
          (fun c => { c with fails := 0 }) else u.updSession p (fun x => { x with finished := true, owner := o }), .finish) := by
  have hok : (true && (decide (p ≠ .mgmt) || decide (o < u.owners))) = true := by
    obtain h | h := hp <;> simp [h]
  simp only [State.spdmFinish, hs, hx, hok, Bool.false_eq_true, if_false, if_true]

/-! ## Mailboxes -/

theorem State.spdmWords_head (b : Bool) (hl : 0 < l) : fld (nth (u.spdmWords b l).1 0 0) 0 8 = (if b then 6 else 5) := by
  obtain ⟨m, hm⟩ : ∃ m, (l + 7) / 8 = m + 1 := ⟨(l + 7) / 8 - 1, by omega⟩
  have hhead : nth (u.spdmWords b l).1 0 0 = putFld (BitVec.ofNat 64 (Config.free u.fresh)) 0 8 (if b then 6 else 5) := by
    simp [State.spdmWords, hm, List.range_succ_eq_map, nth]
  rw [hhead, fld_putFld_same _ _ (by decide)]
  cases b <;> rfl

theorem State.mboxResponse_eq {a : SpdmAns × Bool} {fault : Bool} (ha : Tab.get? u.sec.mboxAns n = some a) :
    u.mboxResponse n l fault =
      if fault || u.refused (u.fnPart n) (u.reg .SEC_FN_MBOX_RSP n) l then
        (u.noteRefused (u.fnPart n) (u.reg .SEC_FN_MBOX_RSP n) l).mboxErr n
      else
        let v := ((u.dropReads (fun r => r.tag == .mbox n)).setSec (fun c =>
          { c with mbox := c.mbox.filter (fun m => m ≠ n), mboxAns := Tab.erase c.mboxAns n })).spdmWords a.2 l
        let w := (v.2.writeMem (v.2.forFn n) (u.reg .SEC_FN_MBOX_RSP n) v.1).emit (.spdm (.host n) a.1)
        ((w.setF .SEC_FN_MBOX_CTL n 0 16 13 l).setB .SEC_FN_MBOX_CTL n 0 14 true).fnEvent n 3 := by
  simp only [State.mboxResponse, ha]

/-! ## Measurements -/

section
variable {i : Nat} {ms : List (Nat × List Nat)} (h0 : i ≠ 0)
    (hpick : (if i = 0xFF then (u.measurements p).filter (fun e => e.1 < 0x10 || u.inSession .mgmt)
      else ((u.measurements p).filter (fun e => e.1 < 0x10 || u.inSession .mgmt)).filter (fun e => e.1 = i)) = ms)
include h0 hpick

theorem State.spdmMeasure_some (hne : ms ≠ []) : u.spdmMeasure p i = (u.sign.2, .measurements ms u.sign.1) := by
  simp only [State.spdmMeasure, if_neg h0, hpick]

theorem State.spdmMeasure_none (hnil : ms = []) : u.spdmMeasure p i = (u, .error .invalidRequest) := by
  simp only [State.spdmMeasure, if_neg h0, hpick, hnil]

end

/-! ## Key release -/

/-- A GET_WRAP_KEY that the noise source can serve. -/
theorem State.spdmWrap_answers (hu : u = s.at t) (h : u.Asked n) (hin : u.inSession (.host n) = true) (he : u.esFailed = false) :
    (s.at t).spdmThen (.host n) false (fun s => s.spdmWrap (.host n))
      = (u.newWrap (.host n)).1.setSec
          (fun c => { c with mboxAns := Tab.set c.mboxAns n ((u.newWrap (.host n)).2, (u.session (.host n)).isSome) }) := by
  subst hu
  rw [State.spdmThen, if_pos h.1, State.spdmWrap, if_neg (by simp [hin]), if_neg (by simp [he])]
  exact State.answer_host h

theorem State.newWrap_session (hs : u.session p = some x) :
    ((u.newWrap p).1.session p).any (fun y => y.wrapKey = some (BitVec.ofNat 384 u.genKey.1)) = true := by
  have hfind := find_session_map (p := p) u.sec.sessions (fun x => { x with wrapKey := some (BitVec.ofNat 384 u.genKey.1) }) (fun _ => rfl)
  have hsession : (u.newWrap p).1.session p = some { x with wrapKey := some (BitVec.ofNat 384 u.genKey.1) } :=
    hfind.trans (congrArg (Option.map _) hs)
  rw [hsession]
  simp

/-- The block once a DELIVER_KEY has taken the wrap key of the function's session. -/
def State.wrapTaken (u : State) (n : Nat) : State := u.updSession (.host n) (fun x => { x with wrapKey := none })

theorem State.wrapTaken_session (hs : u.session (.host n) = some x) :
    ((u.wrapTaken n).session (.host n)).any (fun y => y.wrapKey.isNone) = true := by
  rw [State.wrapTaken, State.session_updSession (f := fun x => { x with wrapKey := none }) (fun _ => rfl), hs]
  rfl

section
variable {w : WrapIn} {keep : Bool} {model : Word} {priv : BitVec 384} {q : Nat} (hs : u.session (.host n) = some x) (hx : x.finished = true)
include hs hx

theorem State.spdmDeliver_noKey (hk : x.wrapKey = none) : u.spdmDeliver (.host n) w keep model = (u.wrapTaken n, .delivered 3 0) := by
  have hin := State.inSession_of hs hx
  simp only [State.spdmDeliver, hin, hs, hk, Option.bind_some, Bool.not_true, Bool.false_eq_true, if_false]
  rfl

theorem State.spdmDeliver_notLive (hk : x.wrapKey = some priv) (hp : (u.fnPart n).all (fun p => !u.live p) = true) :
    u.spdmDeliver (.host n) w keep model = (u.wrapTaken n, .delivered 4 0) := by
  have hin := State.inSession_of hs hx
  have hpart : (u.wrapTaken n).fnPart n = u.fnPart n := rfl
  unfold State.wrapTaken at hpart
  simp only [State.spdmDeliver, hin, hs, hk, Option.bind_some, Bool.not_true, Bool.false_eq_true, if_false, hpart]
  cases hq : u.fnPart n with
  | none => rfl
  | some q =>
    rw [hq, Option.all_some] at hp
    exact if_pos hp

/-- The result of a delivery that finds the session's wrap key and a live partition. -/
theorem State.spdmDeliver_live (hk : x.wrapKey = some priv) (hp : u.fnPart n = some q) (hl : u.live q = true) :
    (openWrap w priv model = none → u.spdmDeliver (.host n) w keep model = (u.wrapTaken n, .delivered 2 0))
    ∧ (∀ key, openWrap w priv model = some key → u.freeBlobSlot = none →
      u.spdmDeliver (.host n) w keep model = (u.wrapTaken n, .delivered 1 0))
    ∧ (∀ key k, openWrap w priv model = some key → u.freeBlobSlot = some k → u.spdmDeliver (.host n) w keep model =
      ((((u.wrapTaken n).setReg .SEC_SLOT k 0 (mkWord [(0, 2, 3), (2, 3, q), (5, 1, b2n keep), (32, 32, fld model 0 32)])).putKey k
        key).setSec (fun c => { c with modelIds := Tab.set c.modelIds k model }), .delivered 0 k)) := by
  have hin := State.inSession_of hs hx
  have hpart : (u.wrapTaken n).fnPart n = some q := hp
  have hlive : (u.wrapTaken n).live q = true := hl
  unfold State.wrapTaken at hpart hlive
  refine ⟨fun ho => ?_, fun key ho hfree => ?_, fun key k ho hfree => ?_⟩
  · simp only [State.spdmDeliver, hin, hs, hk, Option.bind_some, Bool.not_true, Bool.false_eq_true, if_false, hpart, hlive, ho]
    rfl
  · have hfree' : (u.updSession (.host n) (fun x => { x with wrapKey := none })).freeBlobSlot = none := hfree
    simp only [State.spdmDeliver, hin, hs, hk, Option.bind_some, Bool.not_true, Bool.false_eq_true, if_false, hpart, hlive, ho, hfree']
    rfl
  · have hfree' : (u.updSession (.host n) (fun x => { x with wrapKey := none })).freeBlobSlot = some k := hfree
    simp only [State.spdmDeliver, hin, hs, hk, Option.bind_some, Bool.not_true, Bool.false_eq_true, if_false, hpart, hlive, ho, hfree']
    rfl

end

/-- Settles O36. -/
theorem spdmRequestsAreAnswered : Obligations.SpdmRequestsAreAnswered := by
  refine ⟨?_, ?_, ?_, ?_, ?_, ?_, ?_, ?_, ?_, ?_, ?_, ?_, ?_, ?_, ?_, ?_, ?_, ?_, ?_, ?_, ?_, ?_, ?_⟩
  · intro s t n l u h hm h0 hl
    refine leaves_regWr (·.mboxGo n l) h rfl ?_
    have hlen : (l == 0 || decide (4096 < l)) = false := by simp; omega
    simp only [State.mboxGo, hm, Bool.false_eq_true, if_false]
    exact if_neg (by simp; omega)
  · intro s t n l u h hm
    exact leaves_regWr (·.mboxGo n l) h rfl (if_pos hm)
  · intro s t n l u h hm hl
    have hbad : (decide (l = 0) || decide (4096 < l)) = true := by simpa using hl
    refine (leaves_regWr (·.mboxGo n l) h rfl ?_).some (v := (u.setF .SEC_FN_MBOX_CTL n 0 0 13 l).setB .SEC_FN_MBOX_CTL n 0 15 true)
      ⟨State.rb_setB_same _ _ _ _ _ (by decide), rfl, rfl⟩
    rw [State.mboxGo, if_neg (by rw [hm]; decide), if_pos hbad]
  · intro s t n l a u h ha
    refine ⟨fun hr => ⟨?_, ?_⟩, fun f hr => ?_⟩
    · exact leaves_act (·.mboxResponse n l false) h rfl ((State.mboxResponse_eq ha).trans (if_neg (by simp [hr])))
    · refine leaves_act (·.mboxResponse n l true) h rfl ((State.mboxResponse_eq ha).trans ((if_pos (by simp)).trans ?_))
      simp [State.noteRefused, State.when, hr]
    · refine leaves_act (·.mboxResponse n l f) h rfl ((State.mboxResponse_eq ha).trans ((if_pos (by simp [hr])).trans ?_))
      simp [State.noteRefused, State.when, hr]
  · intro u b l hl
    exact State.spdmWords_head b hl
  · intro s t u hu hr h4
    refine ⟨?_, ?_, ?_, ?_, ?_, ?_, ?_⟩
    · exact leaves_spdm_mgmt State.spdmVersion hu hr h4 rfl rfl
    · exact leaves_spdm_mgmt State.spdmCaps hu hr h4 rfl rfl
    · exact leaves_spdm_mgmt State.spdmAlgs hu hr h4 rfl rfl
    · exact leaves_spdm_mgmt State.spdmDigests hu hr h4 rfl rfl
    · exact leaves_spdm_mgmt State.spdmCert hu hr h4 rfl rfl
    · exact leaves_spdm_mgmt (·.spdmChallenge .mgmt) hu hr h4 rfl rfl
    · rintro i l rfl
      refine ⟨fun h0 hff hl => ?_, fun h0 hff hl => ?_, fun hl => ?_, ?_⟩
      · refine leaves_spdm_mgmt (·.spdmMeasure .mgmt i) hu hr h4 rfl ?_
        rw [State.spdmMeasure_some h0 (if_neg hff) hl]
      · refine leaves_spdm_mgmt (·.spdmMeasure .mgmt i) hu hr h4 rfl ?_
        rw [State.spdmMeasure_none h0 (if_neg hff) hl]
      · refine leaves_spdm_mgmt (·.spdmMeasure .mgmt 0xFF) hu hr h4 rfl ?_
        rw [State.spdmMeasure_some (by decide) (if_pos rfl) hl]
      · exact leaves_spdm_mgmt (·.spdmMeasure .mgmt 0) hu hr h4 rfl rfl
  · intro u c
    exact ⟨rfl, rfl⟩
  · intro s t n u i hu ha hm hans hk hi
    have hasked : u.Asked n := ⟨ha, hm, hans, hk⟩
    simp only [List.mem_cons, List.not_mem_nil, or_false] at hi
    obtain rfl | rfl | rfl | rfl | rfl | rfl := hi
    · exact leaves_spdm_host State.spdmVersion hu hasked rfl rfl
    · exact leaves_spdm_host State.spdmCaps hu hasked rfl rfl
    · exact leaves_spdm_host State.spdmAlgs hu hasked rfl rfl
    · exact leaves_spdm_host State.spdmDigests hu hasked rfl rfl
    · exact leaves_spdm_host State.spdmCert hu hasked rfl rfl
    · exact leaves_spdm_host (·.spdmChallenge (.host n)) hu hasked rfl rfl
  · intro s t n u i l hu ha hm hans hk h0 hff hlow hl hne
    refine leaves_spdm_host (·.spdmMeasure (.host n) i) hu ⟨ha, hm, hans, hk⟩ rfl ?_
    have hpick : (((u.measurements (.host n)).filter (fun e => e.1 < 0x10 || u.inSession .mgmt)).filter (fun e => e.1 = i)) = l := by
      rw [hl, List.filter_filter]
      refine List.filter_congr fun e _ => ?_
      by_cases he : e.1 = i
      · simp [he, hlow]
      · simp [he]
    rw [State.spdmMeasure_some h0 ((if_neg hff).trans hpick) hne]
  · intro s t u hu hr h4 hlock he hs
    refine leaves_spdm_mgmt (·.spdmKeyExchange .mgmt) hu hr h4 rfl ?_
    simp only [State.spdmKeyExchange, hlock, he, hs]
    rfl
  · intro s t n u hu ha hm hans he hk hs
    dsimp only
    have hhost : (SpdmPeer.host n == .mgmt && u.sec.lockUntil.isSome) = false := rfl
    refine ⟨fun hroom => ?_, fun hfull => ?_⟩
    · refine leaves_spdm_host (·.spdmKeyExchange (.host n)) hu ⟨ha, hm, hans, hk⟩ rfl ?_
      simp only [State.spdmKeyExchange, hhost, he, hs, Nat.not_le.mpr hroom]
      rfl
    · refine leaves_spdm_host (·.spdmKeyExchange (.host n)) hu ⟨ha, hm, hans, hk⟩ rfl ?_
      simp only [State.spdmKeyExchange, hhost, he, hs, hfull]
      rfl
  · intro s t u a hu hr h4 hlock
    refine leaves_spdm_mgmt (·.spdmKeyExchange .mgmt) hu hr h4 rfl ?_
    simp only [State.spdmKeyExchange, hlock]
    rfl
  · intro s t u x o hu hr h4 hs hx ho
    refine (leaves_spdm_mgmt (·.spdmFinish .mgmt true o) hu hr h4 rfl rfl).some ?_
    rw [State.spdmFinish_holds hs hx (.inr ho)]
    refine ⟨?_, (State.rf_setF_same _ _ _ _ _ (by decide)), rfl, rfl⟩
    exact State.inSession_of (State.session_finished hs) rfl
  · intro s t u x b o hu hr h4 hs hx hb h7
    obtain ⟨hans, w, hw, hsec⟩ := State.spdmFinish_fails hs hx hb
    refine (leaves_spdm_mgmt (·.spdmFinish .mgmt b o) hu hr h4 rfl rfl).some ?_
    rw [hw, if_pos (by omega)]
    refine ⟨?_, rfl⟩
    show w.sec.sessions.find? _ = none
    rw [hsec]
    exact find_endSession u.sec
  · intro s t u x b o hu hr h4 hs hx hb h7
    obtain ⟨hans, w, hw, hsec⟩ := State.spdmFinish_fails hs hx hb
    refine (leaves_spdm_mgmt (·.spdmFinish .mgmt b o) hu hr h4 rfl rfl).some ?_
    rw [hw, if_neg (by omega)]
    have hlock : w.sec.lockUntil = u.sec.lockUntil := by rw [hsec]; rfl
    have hfails : w.sec.fails = u.sec.fails + 1 := by rw [hsec]
    refine ⟨?_, hlock, hfails⟩
    show w.sec.sessions.find? _ = none
    rw [hsec]
    exact find_endSession u.sec
  · intro s t n u x o hu ha hm hans hk hs hx
    refine (leaves_spdm_host (·.spdmFinish (.host n) true o) hu ⟨ha, hm, hans, hk⟩ rfl rfl).some ?_
    rw [State.spdmFinish_holds hs hx (.inl (by simp)), hs]
    refine ⟨?_, rfl, rfl, rfl⟩
    exact State.inSession_of (State.session_finished hs) rfl
  · intro s t u hu hr h4 hin hload
    refine (leaves_spdm_mgmt (·.sessionEnd .mgmt) hu hr h4 rfl rfl).some ?_
    have hload' : (u.setSec (fun c => c.endSession .mgmt)).mcs.load.isSome = false := by simp [State.setSec, hload]
    simp only [State.sessionEnd, State.spdmEnd, hin, beq_self_eq_true, Bool.and_self, if_true, State.loadAbort, hload', Bool.false_eq_true,
      if_false]
    exact ⟨find_endSession u.sec, rfl⟩
  · intro s t u hu hr h4 hin
    exact leaves_spdm_mgmt (·.spdmKeyUpdate .mgmt) hu hr h4 rfl (by simp only [State.spdmKeyUpdate, hin, if_true])
  · intro s t n u hu ha hm hans hk hin
    obtain ⟨x, hs, hx⟩ := State.session_of_inSession hin
    refine ⟨fun he => ?_, fun he => ?_⟩
    · refine Leaves.some (leaves_any (fun s => s.spdmThen (.host n) false (fun s => s.spdmWrap (.host n))) rfl
        (State.spdmWrap_answers hu ⟨ha, hm, hans, hk⟩ hin he)) ⟨by rw [hs]; rfl, ?_, rfl⟩
      exact State.newWrap_session hs
    · subst hu
      refine leaves_any (fun s => s.spdmThen (.host n) false (fun s => s.spdmWrap (.host n))) rfl ?_
      simp only [State.spdmThen, ha, State.spdmWrap, hin, he, hm, hans, hk, Option.isNone_none, Bool.not_true, Bool.not_false, Bool.and_self,
        Bool.false_eq_true, if_false, if_true]
  · intro s t n u x priv p w keep model hu ha hm hans hk hs hx hwrap hp hl
    have hasked : u.Asked n := ⟨ha, hm, hans, hk⟩
    have hsession := State.wrapTaken_session (u := u) hs
    obtain ⟨hbad, hfull, hgood⟩ := State.spdmDeliver_live (w := w) (keep := keep) (model := model) hs hx hwrap hp hl
    have hleaves := leaves_spdm_host (c := .deliverKey t (.host n) w keep model) (free := false)
      (·.spdmDeliver (.host n) w keep model) hu hasked rfl rfl
    refine hleaves.some ?_
    rw [hs]
    cases ho : openWrap w priv model with
    | none =>
      rw [hbad ho]
      exact ⟨rfl, hsession, rfl, rfl, rfl⟩
    | some key =>
      cases hfree : u.freeBlobSlot with
      | none =>
        rw [hfull key ho hfree]
        exact ⟨rfl, hsession, rfl, rfl, rfl⟩
      | some k =>
        rw [hgood key k ho hfree]
        exact ⟨rfl, hsession, rfl, State.reg_setReg_same .., Tab.get?_set_same .., Tab.get?_set_same ..⟩
  · intro s t n u x w keep model hu ha hm hans hk hs hx
    have hasked : u.Asked n := ⟨ha, hm, hans, hk⟩
    have hleaves := leaves_spdm_host (c := .deliverKey t (.host n) w keep model) (free := false)
      (·.spdmDeliver (.host n) w keep model) hu hasked rfl rfl
    refine ⟨fun hwrap => hleaves.some ?_, fun priv hwrap hp => hleaves.some ?_⟩
    · rw [hs, State.spdmDeliver_noKey hs hx hwrap]
      exact ⟨rfl, rfl, rfl, rfl⟩
    · rw [hs, State.spdmDeliver_notLive hs hx hwrap hp]
      exact ⟨rfl, rfl, rfl, rfl⟩
  · intro s t a ha hle
    exact leaves_any State.lockoutEnd rfl (by simp only [State.lockoutEnd, ha, if_pos hle])
  · intro s t a ha hlt
    exact leaves_any State.lockoutEnd rfl (by simp only [State.lockoutEnd, ha, if_neg (Nat.not_le.mpr hlt)])

end Sys2Proof.Machine
end

section
/-! SUPPORT. Links are proved and rekeyed (R310, R335, R337, R343). -/

namespace Sys2Proof.Machine

variable {s u v : State} {t p f : Nat} {h : Hello} {e : Eph}

theorem State.linkRekey_begins (hst : u.rf .SEC_LINK p 0 0 2 = 2) (hb : u.rb .SEC_LINK p 0 3 = false) :
    u.linkRekey p = (u.beginRekey p).sayHello p := by simp [State.linkRekey, hst, hb]

theorem State.linkRekey_none (h : u.rb .SEC_LINK p 0 3 = true ∨ u.rf .SEC_LINK p 0 0 2 ≠ 2) : u.linkRekey p = u := by
  obtain h | h := h <;> simp [State.linkRekey, h]

theorem State.tport_updPort (g : TPort → TPort) : (u.updPort p g).tport p = g (u.tport p) := by
  simp [State.tport, State.updPort, Tab.getD]

/-- The peer's HELLO is answered where the handshake or a rekey runs. -/
theorem State.linkHello_running (hn : (u.tport p).theirs = none)
    (hs : u.portState p = 2 ∨ (u.portState p = 3 ∧ (u.tport p).rekey = true)) :
    u.linkHello p h = ((u.updPort p (fun x => { x with theirs := some h })).sayHello p).sayProof p := by
  obtain hs | ⟨hs, hr⟩ := hs
  · simp [State.linkHello, hn, hs, State.when]
  · simp [State.linkHello, hn, hs, hr, State.when]

theorem State.linkHello_begins (hn : (u.tport p).theirs = none) (hs : u.portState p = 3) (hr : (u.tport p).rekey = false) :
    u.linkHello p h = (((u.beginRekey p).updPort p (fun x => { x with theirs := some h })).sayHello p).sayProof p := by
  simp [State.linkHello, hn, hs, hr, State.when]

/-- Without the noise source this end has nothing to say. -/
theorem State.sayNothing (he : u.esFailed = true) (hm : (u.tport p).mine = none) : (u.sayHello p).sayProof p = u := by
  have hhello : u.sayHello p = u := if_pos (by simp [he])
  rw [hhello, State.sayProof, hm]

theorem State.linkProof_eq {c l g : Bool} (hm : (u.tport p).mine = some e) (ht : (u.tport p).theirs = some h) :
    u.linkProof p c l g =
      if (u.tport p).rekey then
        if c && g && (l || !u.start.peersListed) then
          (u.someFlits.2.updPort p (fun x =>
            { x with newKey := some (e.linkKeys h).1, oldKey := x.rxKey, rxKey := some (e.linkKeys h).2, mine := none, theirs := none })).txFrame
              p { typ := 4, text := u.someFlits.1 }
        else (u.portDown p 14).portSecurity 5 p
      else if c && g && (l || !u.start.peersListed) then
        ((((u.setF .SEC_LINK p 0 0 2 2).updPort p (fun _ =>
          { rxAt := u.ref, peerLead := (u.tport p).peerLead, txKey := some (e.linkKeys h).1, rxKey := some (e.linkKeys h).2 })).portUp
            p).linkUpJoin p)
      else (u.portSecurity 5 p).portDown p 4 := by
  simp only [State.linkProof, hm, ht]

/-- The old epoch's transfers have had their time. -/
theorem State.epochTimeout_due {a : Nat} {k : BitVec 256} (ho : Tab.get? u.sec.oldKeys f = some (some a, k)) (hle : a ≤ u.ref) :
    ∃ w : State, u.epochTimeout f =
      (if u.rb .SEC_FT f 0 20 then w else
        (List.range 8).foldl (fun s p => if s.slotType (8 + p) = 2 && s.rf .SEC_SLOT (8 + p) 0 8 4 = f then s.zeroSlot (8 + p) else s) w)
      ∧ (∀ y ∈ w.tml.inb, y.ft = f → y.epoch = u.rf .SEC_FT f 0 32 16 ∧ u.rb .SEC_FT f 0 20 = true)
      ∧ (u.rb .SEC_FT f 0 20 = true → u.tml.xfers = [] → u.tml.inb = [] → w = u.setSec (fun c => { c with oldKeys := Tab.erase c.oldKeys f })) := by
  let erased := u.setSec (fun c => { c with oldKeys := Tab.erase c.oldKeys f })
  let old (e : Nat × Xfer) : Bool := e.2.ft == f && (e.2.epoch ≠ u.rf .SEC_FT f 0 32 16 || !u.rb .SEC_FT f 0 20)
  let squashed := ((u.tml.xfers.filter old).map (·.1)).foldl (fun s x => s.xferSquash x 0xE) erased
  let stays (y : InXfer) : Bool := !(y.ft == f && (y.epoch ≠ u.rf .SEC_FT f 0 32 16 || !u.rb .SEC_FT f 0 20))
  refine ⟨{ squashed with tml := { squashed.tml with inb := squashed.tml.inb.filter stays } }, ?_, ?_, ?_⟩
  · simp only [State.epochTimeout, ho, Option.bind_some, if_neg (Nat.not_lt.mpr hle)]
    rfl
  · intro y hy hft
    have hkept := (List.mem_filter.mp hy).2
    simpa [stays, hft] using hkept
  · intro hok hx hi
    have hsquashed : squashed = erased := by simp [squashed, hx]
    have hnone : erased.tml.inb = [] := hi
    rw [hsquashed]
    simp only [hnone, List.filter_nil]
    rw [← hnone]

theorem State.foldl_inb {α : Type} {g : State → α → State} {l : List α} (hg : ∀ v a, (g v a).tml = v.tml) : (l.foldl g u).tml = u.tml := by
  induction l generalizing u with
  | nil => rfl
  | cons a l ih => exact (ih (u := g u a)).trans (hg u a)

/-- Settles O37. -/
theorem linksProveAndRekey : Obligations.LinksProveAndRekey := by
  refine ⟨?_, ?_, ?_, ?_, ?_, ?_, ?_, ?_, ?_, ?_, ?_, ?_, ?_, ?_, ?_, ?_⟩
  · intro s t p u h hst hb
    exact leaves_mgmtWr (·.linkRekey p) h rfl (State.linkRekey_begins hst hb)
  · intro s t p u h hno
    exact leaves_mgmtWr (·.linkRekey p) h rfl (State.linkRekey_none hno)
  · intro s t p n u h
    exact leaves_mgmtWr_host (·.linkRekey p) h rfl
  · intro s t p u h htx hst hb
    exact leaves_link (·.counterRekey p) h rfl ((if_pos htx).trans (State.linkRekey_begins hst hb))
  · intro s t p u h htx
    exact leaves_link (·.counterRekey p) h rfl (if_neg (Nat.not_le.mpr htx))
  · intro s t h u hr hn
    exact ⟨fun hs => leaves_link (·.linkHello h.port h.toHello) hr rfl (State.linkHello_running hn hs),
      fun hs hk => leaves_link (·.linkHello h.port h.toHello) hr rfl (State.linkHello_begins hn hs hk)⟩
  · intro s t h u hr hno
    refine leaves_link (·.linkHello h.port h.toHello) hr rfl (if_pos ?_)
    simpa [not_or] using hno
  · intro s t h u hr he hs hn hm
    refine leaves_link (·.linkHello h.port h.toHello) hr rfl ((State.linkHello_running hn (.inl hs)).trans (State.sayNothing he ?_))
    rw [State.tport_updPort]
    exact hm
  · intro s t p u c l g hr hm ht hbad
    obtain ⟨e, hm⟩ := Option.isSome_iff_exists.mp hm
    obtain ⟨h, ht⟩ := Option.isSome_iff_exists.mp ht
    have hno : (c && g && (l || !u.start.peersListed)) = false := by
      obtain rfl | rfl | ⟨rfl, hlist⟩ := hbad
      · rfl
      · simp
      · simp [hlist]
    refine ⟨fun hk => ?_, fun hk => ?_⟩
    · exact leaves_link (·.linkProof p c l g) hr rfl (by simp [State.linkProof_eq hm ht, hk, hno])
    · exact leaves_link (·.linkProof p c l g) hr rfl (by simp [State.linkProof_eq hm ht, hk, hno])
  · intro s t p u l e h hr hm ht hl
    have hok : (true && true && (l || !u.start.peersListed)) = true := by
      obtain h | h := hl <;> simp [h]
    refine ⟨fun hk => ?_, fun hk => ?_⟩
    · exact leaves_link (·.linkProof p true l true) hr rfl
        ((State.linkProof_eq hm ht).trans ((if_neg (by simp [hk])).trans (if_pos hok)))
    · exact leaves_link (·.linkProof p true l true) hr rfl ((State.linkProof_eq hm ht).trans ((if_pos hk).trans (if_pos hok)))
  · intro s t p u c l g hr hno
    refine leaves_link (·.linkProof p c l g) hr rfl ?_
    unfold State.linkProof
    dsimp only
    split
    next e h hm ht =>
      obtain hno | hno := hno
      · exact absurd (hno.symm.trans hm) (by simp)
      · exact absurd (hno.symm.trans ht) (by simp)
    · rfl
  · intro s t p u hr hk
    exact leaves_link (·.keySwitch p) hr rfl (if_neg (by simp [Option.isSome_iff_ne_none.mp hk]))
  · intro s t p u hr hk
    exact leaves_link (·.keySwitch p) hr rfl (if_pos (by simp [hk]))
  · intro s t f u a k hr ho hle hok hx hi
    obtain ⟨w, hw, -, hsame⟩ := State.epochTimeout_due ho hle
    exact leaves_link (·.epochTimeout f) hr rfl (hw.trans ((if_pos hok).trans (hsame hok hx hi)))
  · intro s t f u a k hr ho hle
    obtain ⟨w, hw, hkept, -⟩ := State.epochTimeout_due ho hle
    refine (leaves_link (·.epochTimeout f) hr rfl hw).some ?_
    split
    · exact hkept
    · rw [State.foldl_inb fun v q => ?_]
      · exact hkept
      · split <;> rfl
  · intro s t f u a k hr ho hlt
    refine leaves_link (·.epochTimeout f) hr rfl ?_
    simp only [State.epochTimeout, ho, Option.bind_some]
    cases a with
    | none => rfl
    | some b => exact if_pos (hlt b rfl)

end Sys2Proof.Machine
end

section
/-! SUPPORT. What the frames that leave a port change of what has come: nothing (R350, R352). -/

namespace Sys2Proof.Machine

/-- What the ports have received is the same. -/
def State.RxKept (u v : State) : Prop := ∀ q, (v.tport q).rx = (u.tport q).rx ∧ (v.tport q).rxAt = (u.tport q).rxAt

namespace State.RxKept

variable {s u v : State} {p : Nat}

theorem refl (s : State) : s.RxKept s := fun _ => ⟨rfl, rfl⟩

theorem trans (h : s.RxKept u) (h' : u.RxKept v) : s.RxKept v := fun q => ⟨(h' q).1.trans (h q).1, (h' q).2.trans (h q).2⟩

/-- The ports stand as they stood. -/
theorem ports (h : s.RxKept u) (hp : v.tml.ports = u.tml.ports) : s.RxKept v := by
  refine h.trans fun q => ?_
  rw [State.tport, hp]
  exact ⟨rfl, rfl⟩

theorem updPort (h : s.RxKept u) (p : Nat) (g : TPort → TPort) (hg : ∀ x, (g x).rx = x.rx ∧ (g x).rxAt = x.rxAt) : s.RxKept (u.updPort p g) := by
  refine h.trans fun q => ?_
  by_cases hq : q = p
  · subst hq
    rw [State.tport_updPort]
    exact hg _
  · have hother : (u.updPort p g).tport q = u.tport q := by
      simp only [State.tport, State.updPort, Tab.getD, Tab.get?_set_ne _ _ hq]
    rw [hother]
    exact ⟨rfl, rfl⟩

theorem ite {c : Prop} [Decidable c] (hu : s.RxKept u) (hv : s.RxKept v) : s.RxKept (if c then u else v) := by
  split
  · exact hu
  · exact hv

theorem count (h : s.RxKept u) (i k : Nat) (x : Who3) : s.RxKept (u.count i k x) := by
  obtain ⟨g, hg⟩ := State.count_regs (u := u) i k x
  rw [hg]
  exact h.ports rfl

theorem oweCredit (h : s.RxKept u) (p c w : Nat) : s.RxKept (u.oweCredit p c w) := .ite h (h.updPort _ _ fun _ => ⟨rfl, rfl⟩)

theorem freeFrame (h : s.RxKept u) (f : Frame) : s.RxKept (u.freeFrame f) := by
  unfold State.freeFrame
  split
  · exact h.oweCredit _ _ _
  · exact h

theorem segWired (h : s.RxKept u) (f : Frame) : s.RxKept (u.segWired f) := by
  unfold State.segWired
  split
  · exact .ite (h.ports rfl) h
  · exact h

theorem served (x : TPort) (f : Frame) : (x.served f).rx = x.rx ∧ (x.served f).rxAt = x.rxAt := by
  unfold TPort.served
  split <;> exact ⟨rfl, rfl⟩

theorem txNow (h : s.RxKept u) (p : Nat) (f : Frame) : s.RxKept (u.txNow p f) := by
  unfold State.txNow
  extract_lets _ _ _ _ g queued wired keyed left counted
  have hqueued : s.RxKept queued := h.updPort p _ fun x => served x f
  have hwired : s.RxKept wired := (hqueued.freeFrame f).segWired f
  have hkeyed : s.RxKept keyed := .ite (hwired.updPort p _ fun _ => ⟨rfl, rfl⟩) hwired
  have hleft : s.RxKept left := ports (v := left) hkeyed rfl
  have hcounted : s.RxKept counted := hleft.count _ _ _
  split
  · exact hcounted.count _ _ _
  · exact hcounted

theorem pump (h : s.RxKept u) (p n : Nat) : s.RxKept (u.pump p n) := by
  induction n generalizing u with
  | zero => exact h
  | succ n ih =>
    unfold State.pump
    refine .ite h ?_
    split
    · exact ih (h.txNow p _)
    · exact h

theorem txFrame (h : s.RxKept u) (p : Nat) (f : Frame) : s.RxKept (u.txFrame p f) := by
  unfold State.txFrame State.pumpAll
  exact (h.updPort p (fun x => { x with queue := x.queue ++ [f] }) fun _ => ⟨rfl, rfl⟩).pump p _

theorem resend (h : s.RxKept u) (p n : Nat) : s.RxKept (u.resend p n) := by
  unfold State.resend
  extract_lets again r marked m
  have hmarked : s.RxKept marked := h.updPort p _ fun _ => ⟨rfl, rfl⟩
  have hsent : s.RxKept ((marked.bump .TML_PORT_CNT p 0 0 16 r.length).emits (r.map (fun e => Emit.frame p e.frame))) := ports hmarked rfl
  exact (hsent.count _ _ _).count _ _ _

theorem when (h : s.RxKept u) (c : Bool) {g : State → State} (hg : s.RxKept (g u)) : s.RxKept (u.when c g) := by
  unfold State.when
  split
  · exact hg
  · exact h

theorem forward (h : s.RxKept u) (p : Nat) (f : FrameIn) (typ : Nat) : s.RxKept (u.forward p f typ) := by
  unfold State.forward
  dsimp only
  split
  · exact h.when _ (h.oweCredit _ _ _)
  · exact (h.when _ (h.ports rfl)).txFrame _ _

theorem endGap (h : s.RxKept u) : s.RxKept u.endGap := by
  unfold State.endGap
  split
  · exact h
  · exact h.ports rfl

theorem wake (h : s.RxKept u) : s.RxKept u.wake := by
  unfold State.wake
  dsimp only
  split
  · exact .ite (h.endGap.ports rfl) (h.endGap.ports rfl)
  · exact .ite h.endGap (h.endGap.ports rfl)

end State.RxKept

end Sys2Proof.Machine
end

section
/-! SUPPORT. Ports train, carry and resend frames (R350, R352, R357, R359 to R362, R371). -/

namespace Sys2Proof.Machine

variable {s u v : State} {t p : Nat} {i : TrainInfo} {f : FrameIn}

/-- What a port's queue and credits hold is not in the registers or on the wires. -/
theorem State.oweCredit_wires (u : State) (p c w : Nat) : (u.oweCredit p c w).regs = u.regs ∧ (u.oweCredit p c w).out = u.out := by
  unfold State.oweCredit
  split <;> exact ⟨rfl, rfl⟩

theorem State.freeFrame_wires (u : State) (f : Frame) : (u.freeFrame f).regs = u.regs ∧ (u.freeFrame f).out = u.out := by
  unfold State.freeFrame
  split
  · exact u.oweCredit_wires _ _ _
  · exact ⟨rfl, rfl⟩

theorem State.segWired_wires (u : State) (f : Frame) : (u.segWired f).regs = u.regs ∧ (u.segWired f).out = u.out := by
  unfold State.segWired
  split
  · split <;> exact ⟨rfl, rfl⟩
  · exact ⟨rfl, rfl⟩

theorem key_secLink (p : Nat) : Reg.key .SEC_LINK p 0 = 0x80300 + 8 * p := rfl

/-- A frame leaves with the port's counter, and its tag failures are another field's (R350). -/
theorem State.txNow_leaves (hp : p < 4) (f : Frame) :
    (u.txNow p f).rf .SEC_LINK p 0 16 16 = u.rf .SEC_LINK p 0 16 16 ∧
    ∃ g : Frame, (u.txNow p f).out = u.out ++ [.frame p g] ∧ g.typ = f.typ ∧ g.nak = (u.tport p).nakDue ∧ g.ctr = (u.tport p).tx := by
  have hkey : Reg.key .SEC_LINK p 0 < 950272 ∨ 958464 ≤ Reg.key .SEC_LINK p 0 := .inl (by rw [key_secLink]; omega)
  unfold State.txNow
  extract_lets x h g0 sealed g queued wired keyed left counted
  have hwired : wired.regs = u.regs ∧ wired.out = u.out :=
    ⟨(State.segWired_wires _ f).1.trans (State.freeFrame_wires _ f).1, (State.segWired_wires _ f).2.trans (State.freeFrame_wires _ f).2⟩
  have hkeyed : keyed.regs = u.regs ∧ keyed.out = u.out := by
    unfold keyed State.when
    split
    · exact hwired
    · exact hwired
  have hleft : left.rf .SEC_LINK p 0 16 16 = u.rf .SEC_LINK p 0 16 16 :=
    (State.rf_setF_ne keyed .SEC_LINK p 0 _ (by decide) (by decide)).trans (State.rf_congr hkeyed.1)
  have hout : left.out = u.out ++ [.frame p g] := congrArg (· ++ [Emit.frame p g]) hkeyed.2
  have hcounted : counted.rf .SEC_LINK p 0 16 16 = u.rf .SEC_LINK p 0 16 16 := (State.rf_count_other hkey (by omega)).trans hleft
  have hg : g.typ = f.typ ∧ g.nak = (u.tport p).nakDue ∧ g.ctr = (u.tport p).tx := by
    refine ⟨?_, rfl, rfl⟩
    show h.typ = f.typ
    unfold h
    split <;> rfl
  split
  · exact ⟨(State.rf_count_other hkey (by omega)).trans hcounted, g, State.count_out.trans (State.count_out.trans hout), hg⟩
  · exact ⟨hcounted, g, State.count_out.trans hout, hg⟩

theorem State.pump_tagFails (hp : p < 4) (n : Nat) : (u.pump p n).rf .SEC_LINK p 0 16 16 = u.rf .SEC_LINK p 0 16 16 := by
  induction n generalizing u with
  | zero => rfl
  | succ n ih =>
    unfold State.pump
    split
    · rfl
    · split
      · exact ih.trans (State.txNow_leaves hp _).1
      · rfl

/-- A trailer-only frame leaves at once from a port that has nothing to send and room to send it. -/
theorem State.txFrame_idle (hp : p < 4) (hst : u.portState p = 3) (hq : (u.tport p).queue = []) (hr : (u.tport p).replay.length < 64)
    (htx : (u.tport p).tx < 2 ^ 48 - 2 ^ 16) :
    ∃ g : Frame, (u.txFrame p { typ := 2 }).out = u.out ++ [.frame p g] ∧ g.typ = 2 ∧ g.nak = (u.tport p).nakDue ∧ g.ctr = (u.tport p).tx := by
  let w := u.updPort p (fun x => { x with queue := x.queue ++ [{ typ := 2 }] })
  have hw : w.tport p = { u.tport p with queue := [{ typ := 2 }] } := by simp only [w, State.tport_updPort, hq, List.nil_append]
  have hnext : (w.tport p).next w.gstopped = some { typ := 2 } := by
    rw [hw]
    have hfull : ¬ 64 ≤ (u.tport p).replay.length := by omega
    have hend : ¬ 2 ^ 48 - 2 ^ 16 ≤ (u.tport p).tx := by omega
    simp only [TPort.next, hfull, hend, decide_false, Bool.false_or, Bool.false_and, Bool.false_eq_true, if_false]
    rfl
  have hone : u.txFrame p { typ := 2 } = w.txNow p { typ := 2 } := by
    have hlen : (w.tport p).queue.length = 1 := by rw [hw]; rfl
    have hup : ¬ w.portState p ≠ 3 := not_not.mpr hst
    rw [State.txFrame, State.pumpAll]
    show w.pump p (w.tport p).queue.length = _
    rw [hlen, State.pump, if_neg hup, hnext]
    rfl
  obtain ⟨-, g, hout, htyp, hnak, hctr⟩ := State.txNow_leaves (u := w) hp { typ := 2 }
  rw [hw] at hnak hctr
  exact ⟨g, (congrArg State.out hone).trans hout, htyp, hnak, hctr⟩

theorem State.sayTrain_out (u : State) (p : Nat) : ∃ g : Frame, (u.sayTrain p).out = u.out ++ [.frame p g] ∧ g.typ = 6 ∧
    g.body = .train (u.trainInfo p) := ⟨_, rfl, rfl, rfl⟩

/-- What a TRAIN frame that fits writes to the port's registers (R33, R359). -/
def State.trained (u : State) (p : Nat) (i : TrainInfo) (peer : Nat) : State :=
  let s := (u.setF .TML_PORT p 0 0 3 2).setF .TML_PORT p 0 3 4 (min (u.rf .TML_PORT p 0 3 4) i.lanes)
  let s := (s.setF .TML_PORT p 0 7 2 (max i.rate (u.rf .TML_PORT p 0 7 2))).setF .TML_PORT p 0 14 4 peer
  let s := (s.setF .TML_PORT p 0 18 2 i.port).setB .TML_PORT p 0 20 true
  (s.setF .TML_PORT p 0 21 7 (min 64 (max 8 i.credits))).setF .TML_PORT p 0 32 32 15

theorem State.trained_port {peer : Nat} : (u.trained p i peer).portState p = 2
    ∧ (u.trained p i peer).rf .TML_PORT p 0 3 4 = min (u.rf .TML_PORT p 0 3 4) i.lanes
    ∧ (u.trained p i peer).rf .TML_PORT p 0 21 7 = min 64 (max 8 i.credits) := by
  have hlt : u.rf .TML_PORT p 0 3 4 < 2 ^ 4 := fld_lt _ _ _
  have hlanes : min (u.rf .TML_PORT p 0 3 4) i.lanes % 2 ^ 4 = min (u.rf .TML_PORT p 0 3 4) i.lanes := Nat.mod_eq_of_lt (by omega)
  have hcredits : min 64 (max 8 i.credits) % 2 ^ 7 = min 64 (max 8 i.credits) := Nat.mod_eq_of_lt (by omega)
  refine ⟨?_, ?_, ?_⟩
  · simp [State.portState, State.trained, State.rf_setF_ne, State.rf_setB_ne, State.rf_setF_same]
  · simp only [State.trained, State.rf_setF_ne, State.rf_setB_ne, State.rf_setF_same, Nat.reduceAdd, Nat.reduceLeDiff, Nat.reduceLT,
      true_or, hlanes]
  · simp only [State.trained, State.rf_setF_ne, State.rf_setF_same, Nat.reduceAdd, Nat.reduceLeDiff, true_or, hcredits]

theorem State.trained_other {peer : Nat} {r : Reg} {j k b : Nat} (h : Reg.key r j k ≠ Reg.key .TML_PORT p 0) :
    (u.trained p i peer).rb r j k b = u.rb r j k b := by
  simp only [State.trained, State.rb_setF_other h, State.rb_setB_other h]

theorem key_tmlPort (p : Nat) : Reg.key .TML_PORT p 0 = 0xA0100 + 16 * p := rfl

/-- What a TRAIN frame does once modes, protection and fabric agree (R359). -/
def State.trainPeer (u : State) (p : Nat) (i : TrainInfo) : State :=
  if i.port ≠ wantedPeerPort p then u.portDown p 5
  else if i.features.toNat % 16 ≠ 15 then u.portDown p 8
  else if u.member && i.hasLead && i.leadNode < u.leadNode then u.dissolve
  else
    let s := u.trained p i (if i.node < 16 then i.node else (u.neighbour u.posn p).1)
    let s := s.when (bitOf (u.reg .TML_CFG) 14 && !s.member && i.node < 16 && s.tml.ports.isEmpty) (fun s =>
      s.setTml (fun m => { m with pos := (s.neighbour i.node i.port).1 }))
    let s := s.updPort p (fun _ => { peerLead := if i.hasLead then some i.leadNode else none })
    (s.setF .SEC_LINK p 0 0 2 1).sayHello p

theorem State.train_protected (hst : u.portState p = 1) (hl : u.rf .TML_PORT p 0 3 4 ≠ 0) (hi : i.lanes ≠ 0)
    (hr : max i.rate (u.rf .TML_PORT p 0 7 2) < 3) (hprot : i.protection = true) :
    u.train p i = if !(i.fabricId.toNat == u.rf .TML_CFG 0 0 32 32 && i.topo == u.rf .TML_CFG 0 0 0 2 && i.xdim == u.rf .TML_CFG 0 0 2 4 &&
      i.ydim == u.rf .TML_CFG 0 0 6 4) then u.portDown p 6 else u.trainPeer p i := by
  have hbegun : (decide (u.portState p ≠ 1) || decide (u.rf .TML_PORT p 0 3 4 = 0)) = false := by simp [hst, hl]
  have hw : min (u.rf .TML_PORT p 0 3 4) i.lanes ≠ 0 := by omega
  unfold State.train
  dsimp only
  rw [if_neg (by rw [hbegun]; decide), if_neg hw, if_neg (Nat.not_le.mpr hr), if_neg (by simp [hprot])]
  rfl

theorem State.train_sameFabric (hst : u.portState p = 1) (hl : u.rf .TML_PORT p 0 3 4 ≠ 0) (hi : i.lanes ≠ 0)
    (hr : max i.rate (u.rf .TML_PORT p 0 7 2) < 3) (hprot : i.protection = true) (hid : i.fabricId.toNat = u.rf .TML_CFG 0 0 32 32)
    (htopo : i.topo = u.rf .TML_CFG 0 0 0 2) (hx : i.xdim = u.rf .TML_CFG 0 0 2 4) (hy : i.ydim = u.rf .TML_CFG 0 0 6 4) :
    u.train p i = u.trainPeer p i := by
  rw [State.train_protected hst hl hi hr hprot, hid, htopo, hx, hy]
  simp

theorem State.when_setTml (c : Bool) (g : State → Tml) :
    (v.when c (fun s => s.setTml fun _ => g s)).regs = v.regs ∧ (v.when c (fun s => s.setTml fun _ => g s)).out = v.out
      ∧ (v.when c (fun s => s.setTml fun _ => g s)).start = v.start := by
  unfold State.when
  split <;> exact ⟨rfl, rfl, rfl⟩

theorem State.trained_untouched {peer : Nat} : (u.trained p i peer).out = u.out ∧ (u.trained p i peer).start = u.start := by
  simp only [State.trained, State.setF_out, State.setB_out, State.setF_start, State.setB_start, and_self]

theorem secStat_ne (p : Nat) :
    Reg.key .TML_PORT p 0 ≠ Reg.key .SEC_STAT 0 0 ∧ Reg.key .SEC_LINK p 0 ≠ Reg.key .SEC_STAT 0 0 := by
  have hsec : Reg.key .SEC_STAT 0 0 = 0x80000 := by decide
  rw [hsec, key_tmlPort, key_secLink]
  omega

/-- What a port shows once a TRAIN frame has fitted: the handshake, the lanes and the credits (R33, R359). -/
theorem State.train_fits (hst : u.portState p = 1) (hl : u.rf .TML_PORT p 0 3 4 ≠ 0) (hi : i.lanes ≠ 0)
    (hr : max i.rate (u.rf .TML_PORT p 0 7 2) < 3) (hprot : i.protection = true) (hid : i.fabricId.toNat = u.rf .TML_CFG 0 0 32 32)
    (htopo : i.topo = u.rf .TML_CFG 0 0 0 2) (hx : i.xdim = u.rf .TML_CFG 0 0 2 4) (hy : i.ydim = u.rf .TML_CFG 0 0 6 4)
    (hport : i.port = wantedPeerPort p) (hfeat : i.features.toNat % 16 = 15)
    (hlead : u.member = false ∨ i.hasLead = false ∨ u.leadNode ≤ i.leadNode) (hp : p < 4) :
    ∃ w : State, u.train p i = w.sayHello p ∧ w.portState p = 2 ∧ w.rf .SEC_LINK p 0 0 2 = 1
      ∧ w.rf .TML_PORT p 0 3 4 = min (u.rf .TML_PORT p 0 3 4) i.lanes ∧ w.rf .TML_PORT p 0 21 7 = min 64 (max 8 i.credits)
      ∧ w.esFailed = u.esFailed ∧ w.out = u.out ∧ (w.tport p).mine = none ∧ w.chain = u.chain := by
  let trained := u.trained p i (if i.node < 16 then i.node else (u.neighbour u.posn p).1)
  let placed := trained.when (bitOf (u.reg .TML_CFG) 14 && !trained.member && i.node < 16 && trained.tml.ports.isEmpty) (fun s =>
    s.setTml (fun m => { m with pos := (s.neighbour i.node i.port).1 }))
  let fresh := placed.updPort p (fun _ => { peerLead := if i.hasLead then some i.leadNode else none })
  have huntouched : trained.out = u.out ∧ trained.start = u.start := State.trained_untouched
  have hplaced : placed.regs = trained.regs ∧ placed.out = u.out ∧ placed.start = u.start := by
    obtain ⟨hregs, hout, hstart⟩ := State.when_setTml (v := trained) (bitOf (u.reg .TML_CFG) 14 && !trained.member && i.node < 16 &&
      trained.tml.ports.isEmpty) (fun s => { s.tml with pos := (s.neighbour i.node i.port).1 })
    exact ⟨hregs, hout.trans huntouched.1, hstart.trans huntouched.2⟩
  have hport' : Reg.key .TML_PORT p 0 ≠ Reg.key .SEC_LINK p 0 := by rw [key_tmlPort, key_secLink]; omega
  obtain ⟨hstate, hlanes, hcredits⟩ := State.trained_port (u := u) (p := p) (i := i)
    (peer := if i.node < 16 then i.node else (u.neighbour u.posn p).1)
  refine ⟨fresh.setF .SEC_LINK p 0 0 2 1, ?_, ?_, ?_, ?_, ?_, ?_, hplaced.2.1, ?_, ?_⟩
  · have hstay : (u.member && i.hasLead && decide (i.leadNode < u.leadNode)) = false := by
      obtain h | h | h := hlead
      · simp [h]
      · simp [h]
      · simp [Nat.not_lt.mpr h]
    rw [State.train_sameFabric hst hl hi hr hprot hid htopo hx hy, State.trainPeer, if_neg (not_not.mpr hport),
      if_neg (not_not.mpr hfeat), hstay, if_neg (by decide)]
  · exact (State.rf_setF_other hport').trans ((State.rf_congr hplaced.1).trans hstate)
  · exact State.rf_setF_same fresh .SEC_LINK p 0 1 (by decide)
  · exact (State.rf_setF_other hport').trans ((State.rf_congr hplaced.1).trans hlanes)
  · exact (State.rf_setF_other hport').trans ((State.rf_congr hplaced.1).trans hcredits)
  · exact (State.rb_setF_other (secStat_ne p).2.symm).trans ((State.rb_congr hplaced.1).trans (State.trained_other (secStat_ne p).1.symm))
  · show ((placed.updPort p (fun _ => { peerLead := if i.hasLead then some i.leadNode else none })).tport p).mine = none
    rw [State.tport_updPort]
  · simp only [State.chain]
    rw [show (fresh.setF .SEC_LINK p 0 0 2 1).start = u.start from hplaced.2.2]

theorem State.linkKex_down {m : KexMsg} (hst : u.portState p ≠ 3) : u.linkKex p m = u.someFlits.2.emit
    (.frame p { typ := 1, cls := 1, dest := u.rf .TML_PORT p 0 14 4, src := u.posn, body := .kex m, text := u.someFlits.1 }) :=
  if_neg hst

/-- The port says its HELLO, where the noise source gives a key (R33, R335). -/
theorem State.sayHello_out (hm : (u.tport p).mine = none) (hst : u.portState p = 2) (hes : u.esFailed = false) :
    (u.sayHello p).regs = u.newEph.2.regs ∧
    ∃ g e k, (u.sayHello p).out = u.out ++ [.frame p g] ∧ g.typ = 1 ∧ g.body = .kex (.hello e k u.chain) := by
  have hstate : (u.newEph.2).portState p = 2 := (State.rf_setF_other (secStat_ne p).1).trans hst
  have hquiet : ¬ (u.esFailed || (u.tport p).mine.isSome) = true := by simp [hm, hes]
  let told := u.newEph.2.updPort p (fun x => { x with mine := some u.newEph.1 })
  have hsaid : u.sayHello p = told.linkKex p (u.newEph.1.msg u.newEph.2.chain) := if_neg hquiet
  have htold : told.portState p ≠ 3 := by
    rw [show told.portState p = 2 from hstate]
    decide
  rw [hsaid, State.linkKex_down htold]
  exact ⟨rfl, _, _, _, rfl, rfl, rfl⟩

theorem State.sayHello_silent (hes : u.esFailed = true) : u.sayHello p = u := if_pos (by simp [hes])

/-- A frame comes: the port has heard one, and counts what it brings (R360, R405). -/
def State.heard (u : State) (p : Nat) (f : FrameIn) : State :=
  (u.updPort p (fun x => { x with rxAt := u.ref })).count (161 + 2 * p) (64 * f.text.length) (u.arrivedWho f)

theorem State.heard_eq (u : State) (p : Nat) (f : FrameIn) :
    ∃ g, u.heard p f = { u.updPort p (fun x => { x with rxAt := u.ref }) with regs := g } := State.count_regs _ _ _

theorem State.tport_heard : (u.heard p f).tport p = { u.tport p with rxAt := u.ref } := by
  obtain ⟨g, hg⟩ := u.heard_eq p f
  have hports : (u.heard p f).tml = (u.updPort p (fun x => { x with rxAt := u.ref })).tml := by rw [hg]
  rw [State.tport, hports]
  exact State.tport_updPort (fun x => { x with rxAt := u.ref })

/-- What a frame in order that holds does once its port's counter has moved (R350, R352, R357). -/
def State.carried (u : State) (p : Nat) (f : FrameIn) (through : Bool) : State :=
  let s := ((u.when f.nak (fun s => s.resend p 0)).when (!(through && f.typ ≠ 3)) (fun s => s.oweCredit p f.cls f.vc)).pumpAll p
  if f.typ = 3 then s
  else if through then s.forward p f f.typ
  else if f.cls ≠ 0 && !s.gstopped then s.wake else s

theorem State.RxKept.carried (through : Bool) : u.RxKept (u.carried p f through) := by
  have hpumped : u.RxKept (((u.when f.nak (fun s => s.resend p 0)).when (!(through && f.typ ≠ 3)) (fun s => s.oweCredit p f.cls f.vc)).pumpAll p) :=
    (((State.RxKept.refl u).when _ ((State.RxKept.refl u).resend p 0)).when _
      (((State.RxKept.refl u).when _ ((State.RxKept.refl u).resend p 0)).oweCredit p f.cls f.vc)).pump p _
  exact .ite hpumped (.ite (hpumped.forward p f f.typ) (.ite hpumped.wake hpumped))

theorem State.carried_nothing {through : Bool} (hq : (u.tport p).queue = []) (hn : f.nak = false) (hc : f.cls = 0) (ht : through = false) :
    (u.carried p f through) = u := by
  have howe : u.oweCredit p 0 f.vc = u := if_pos rfl
  have hpump : u.pumpAll p = u := by rw [State.pumpAll, hq]; rfl
  simp [State.carried, State.when, hn, hc, ht, howe, hpump]

/-- The port's counter moves with a frame in order whose tag holds (R350). -/
def State.inOrder (u : State) (p : Nat) (f : FrameIn) : State :=
  (u.heard p f).updPort p (fun x => { x with
    rx := x.rx + 1, replay := x.acked f.ack, credits := addCredits ((u.heard p f).rf .TML_PORT p 0 21 7) x.credits f.credit })

theorem State.frameIn_inOrder (hst : u.portState p = 3) (hok : u.frameTagOk p f = true) (hctr : f.ctr = (u.tport p).rx) :
    u.frameIn p f = (u.inOrder p f).carried p f (f.cls ≠ 0 && f.dest ≠ u.posn && 1 ≤ f.cls) := by
  unfold State.frameIn
  dsimp only
  rw [if_neg (not_not.mpr hst), if_neg (by simp [hok, hctr])]
  rfl

theorem State.tport_inOrder : ((u.inOrder p f).tport p).rx = (u.tport p).rx + 1 ∧ ((u.inOrder p f).tport p).rxAt = u.ref
    ∧ ((u.inOrder p f).tport p).queue = (u.tport p).queue := by
  rw [State.inOrder, State.tport_updPort, State.tport_heard]
  exact ⟨rfl, rfl, rfl⟩

theorem State.inOrder_out : (u.inOrder p f).out = u.out := by
  obtain ⟨g, hg⟩ := u.heard_eq p f
  rw [State.inOrder, hg]
  rfl

/-- The state in which a frame that does not hold asks for it again (R350, R352). -/
def State.missed (u : State) (p : Nat) (f : FrameIn) : State :=
  (((u.heard p f).bump .SEC_LINK p 0 16 16 1).setSec (fun c => { c with tagFails := Tab.set c.tagFails p [u.ref] })).updPort p
    (fun x => { x with nakDue := true })

theorem State.frameIn_missed (hst : u.portState p = 3) (hok : u.frameTagOk p f = true) (hctr : f.ctr ≠ (u.tport p).rx)
    (hfail : Tab.get? u.sec.tagFails p = none) : u.frameIn p f = (u.missed p f).txFrame p { typ := 2 } := by
  obtain ⟨g, hg⟩ := u.heard_eq p f
  unfold State.frameIn
  rw [if_neg (not_not.mpr hst)]
  extract_lets x tagOk through heard bumped l marked forwarded
  rw [if_pos (by simp [hctr, x])]
  have hbumped : bumped.sec = u.sec ∧ bumped.ref = u.ref := by
    have hheard : heard = u.heard p f := rfl
    rw [hg] at hheard
    unfold bumped
    rw [hheard]
    exact ⟨rfl, rfl⟩
  have hl : l = [u.ref] := by
    unfold l
    rw [hbumped.1, hbumped.2, Tab.getD, hfail]
    simp
  have hforwarded : forwarded = marked := if_neg (by simp [tagOk, hok])
  rw [if_neg (by simp [hl]), hforwarded]
  unfold marked
  rw [hl]
  rfl

theorem State.missed_port (hp : p < 4) : (u.missed p f).tport p = { u.tport p with rxAt := u.ref, nakDue := true } ∧
    (u.missed p f).rf .SEC_LINK p 0 16 16 = satAdd 65535 (u.rf .SEC_LINK p 0 16 16) 1 := by
  refine ⟨?_, ?_⟩
  · rw [State.missed, State.tport_updPort]
    show { (u.heard p f).tport p with nakDue := true } = _
    rw [State.tport_heard]
  · have hkey : Reg.key .SEC_LINK p 0 < 950272 ∨ 958464 ≤ Reg.key .SEC_LINK p 0 := .inl (by rw [key_secLink]; omega)
    have hheard : (u.heard p f).rf .SEC_LINK p 0 16 16 = u.rf .SEC_LINK p 0 16 16 := State.rf_count_other hkey (by omega)
    have hle : satAdd 65535 (u.rf .SEC_LINK p 0 16 16) 1 ≤ 65535 := Nat.min_le_left _ _
    refine (State.rf_setF_same (u.heard p f) .SEC_LINK p 0 _ (by decide)).trans ?_
    rw [hheard]
    exact Nat.mod_eq_of_lt (Nat.lt_succ_of_le hle)

theorem State.missed_up (hp : p < 4) (hst : u.portState p = 3) : (u.missed p f).portState p = 3 := by
  have hkey : Reg.key .TML_PORT p 0 < 950272 ∨ 958464 ≤ Reg.key .TML_PORT p 0 := .inl (by rw [key_tmlPort]; omega)
  have hlink : Reg.key .TML_PORT p 0 ≠ Reg.key .SEC_LINK p 0 := by rw [key_tmlPort, key_secLink]; omega
  exact (State.rf_setF_other hlink).trans ((State.rf_count_other hkey (by omega)).trans hst)

theorem State.missed_out : (u.missed p f).out = u.out := by
  obtain ⟨g, hg⟩ := u.heard_eq p f
  rw [State.missed, hg]
  rfl

/-- Settles O38. -/
theorem portsTrainAndCarryFrames : Obligations.PortsTrainAndCarryFrames := by
  refine ⟨?_, ?_, ?_, ?_, ?_, ?_, ?_, ?_, ?_, ?_, ?_, ?_, ?_, ?_, ?_, ?_, ?_, ?_, ?_⟩
  · intro s t p l r u h hst hl hpos hle
    have hlane : l ≠ 0 := by omega
    exact leaves_link (·.lanesUp p l r) h rfl (by simp [State.lanesUp, hst, hl, hlane, Nat.not_lt.mpr hle])
  · intro u p
    have hcredits : (u.trainInfo p).credits = min 64 (max 8 Config.linkOffer) := rfl
    refine ⟨_, rfl, rfl, rfl, ?_, rfl, rfl, rfl, by omega, by omega⟩
    exact (BitVec.toNat_ofNat _ _).trans (Nat.mod_eq_of_lt (fld_lt _ _ _))
  · intro s t p r u h hst hl
    exact leaves_link (·.lanesUp p 0 r) h rfl (by simp [State.lanesUp, hst, hl])
  · intro s t p i u h hno
    refine leaves_link (·.train p i) h rfl (if_pos ?_)
    simpa using hno
  · intro s t p i u h hst hl
    refine ⟨fun hi => ?_, fun hi hr => ?_, fun hi hr hprot => ?_, fun hi hr hprot hid => ?_⟩ 
    all_goals refine leaves_link (·.train p i) h rfl ?_
    · simp [State.train, hst, hl, hi]
    · have hbegun : (decide (u.portState p ≠ 1) || decide (u.rf .TML_PORT p 0 3 4 = 0)) = false := by simp [hst, hl]
      have hw : min (u.rf .TML_PORT p 0 3 4) i.lanes ≠ 0 := by omega
      unfold State.train
      dsimp only
      rw [if_neg (by rw [hbegun]; decide), if_neg hw, if_pos hr]
    · have hbegun : (decide (u.portState p ≠ 1) || decide (u.rf .TML_PORT p 0 3 4 = 0)) = false := by simp [hst, hl]
      have hw : min (u.rf .TML_PORT p 0 3 4) i.lanes ≠ 0 := by omega
      unfold State.train
      dsimp only
      rw [if_neg (by rw [hbegun]; decide), if_neg hw, if_neg (Nat.not_le.mpr hr), if_pos (by simp [hprot])]
    · exact (State.train_protected hst hl hi hr hprot).trans (if_pos (by simp [hid]))
  · intro s t p i u h hst hl hi hr hprot hid htopo hx hy
    have hsame := State.train_sameFabric hst hl hi hr hprot hid htopo hx hy
    refine ⟨fun hport => ?_, fun hport hfeat => ?_, fun hport hfeat hmem hhas hlt => ?_, fun hport hfeat hlead hp => ?_⟩
    · exact leaves_link (·.train p i) h rfl (hsame.trans (if_pos hport))
    · exact leaves_link (·.train p i) h rfl (hsame.trans ((if_neg (not_not.mpr hport)).trans (if_pos hfeat)))
    · exact leaves_link (·.train p i) h rfl (hsame.trans ((if_neg (not_not.mpr hport)).trans ((if_neg (not_not.mpr hfeat)).trans
        (if_pos (by simp [hmem, hhas, hlt])))))
    · obtain ⟨w, hw, hstate, hlink, hlanes, hcredits, hes, hout, hmine, hchain⟩ :=
        State.train_fits hst hl hi hr hprot hid htopo hx hy hport hfeat hlead hp
      refine (leaves_link (·.train p i) h rfl hw).some ?_
      obtain hfail | hwork := Bool.eq_false_or_eq_true u.esFailed
      · rw [State.sayHello_silent (hes.trans hfail)]
        exact ⟨hstate, hlink, hlanes, hcredits, fun _ => hout, fun hno => absurd (hfail.symm.trans hno) (by decide)⟩
      · obtain ⟨hregs, g, e, k, hsent, htyp, hbody⟩ := State.sayHello_out hmine hstate (hes.trans hwork)
        have hport {lo m : Nat} : (w.sayHello p).rf .TML_PORT p 0 lo m = w.rf .TML_PORT p 0 lo m :=
          (State.rf_congr hregs).trans (State.rf_setF_other (secStat_ne p).1)
        have hlink' : (w.sayHello p).rf .SEC_LINK p 0 0 2 = w.rf .SEC_LINK p 0 0 2 :=
          (State.rf_congr hregs).trans (State.rf_setF_other (secStat_ne p).2)
        refine ⟨hport.trans hstate, hlink'.trans hlink, hport.trans hlanes, hport.trans hcredits,
          fun hfail => absurd (hwork.symm.trans hfail) (by decide), fun _ => ⟨g, e, k, ?_, htyp, ?_⟩⟩
        · rw [hsent, hout]
        · rw [hbody, hchain]
  · intro s t p l r u h hst hno
    refine leaves_link (·.lanesFall p l r) h rfl ?_
    obtain rfl | ⟨hr, hl⟩ := hno
    · simp [State.lanesFall, hst]
    · simp [State.lanesFall, hst, hr, Nat.not_lt.mpr hl]
  · intro s t p l r u h hst hpos hle hr
    refine leaves_link (·.lanesFall p l r) h rfl ?_
    have hgo : ¬ (decide (u.portState p ≠ 3) || decide (8 < l)) = true := by simp [hst, hle]
    have hstay : ¬ (decide (l = 0) || decide (3 ≤ r)) = true := by
      simp
      omega
    exact (if_neg hgo).trans (if_neg hstay)
  · intro s t p u h hst hlate
    exact leaves_link (·.lanesLost p) h rfl (if_pos (by simp [hst, hlate]))
  · intro s t p u h hearly
    exact leaves_link (·.lanesLost p) h rfl (if_neg (by simp [hearly]))
  · intro s t p f u h hst
    exact leaves_link (·.frameIn p f) h rfl (if_pos hst)
  · intro s t p f u h hst hok hctr
    refine (leaves_link (·.frameIn p f) h rfl (State.frameIn_inOrder hst hok hctr)).some ?_
    obtain ⟨hrx, hat, hqueue⟩ := State.tport_inOrder (u := u) (p := p) (f := f)
    obtain ⟨hrx', hat'⟩ := State.RxKept.carried (u := u.inOrder p f) (p := p) (f := f) (f.cls ≠ 0 && f.dest ≠ u.posn && 1 ≤ f.cls) p
    refine ⟨hrx'.trans hrx, hat'.trans hat, ?_, fun hq hn hc => ?_⟩
    · rw [← State.frameIn_inOrder hst hok hctr]
      exact (State.frameIn_kept (Kept.refl u) p f).out
    · rw [State.carried_nothing (hqueue.trans hq) hn hc (by simp [hc])]
      exact State.inOrder_out
  · intro s t p f u h hst hok hctr hfail hp
    refine (leaves_link (·.frameIn p f) h rfl (State.frameIn_missed hst hok hctr hfail)).some ?_
    obtain ⟨hport, htag⟩ := State.missed_port (u := u) (f := f) hp
    obtain ⟨hrx, -⟩ := (State.RxKept.refl (u.missed p f)).txFrame p { typ := 2 } p
    refine ⟨?_, (State.pump_tagFails hp _).trans htag, fun hq hlen htx => ?_⟩
    · rw [hrx, hport]
    · obtain ⟨g, hout, htyp, hnak, hg⟩ := State.txFrame_idle (u := u.missed p f) hp (State.missed_up hp hst) (by rw [hport]; exact hq)
        (by rw [hport]; exact hlen) (by rw [hport]; exact htx)
      rw [hport] at hnak hg
      exact ⟨g, hout.trans (by rw [State.missed_out]), htyp, hnak, hg⟩
  · intro s t p u e r h hrep hst
    refine ⟨fun hlate => ?_, fun hearly => ?_⟩
    · exact leaves_link (·.replayTimeout p) h rfl (by simp [State.replayTimeout, hrep, hst, hlate])
    · exact leaves_link (·.replayTimeout p) h rfl (by simp [State.replayTimeout, hrep, hearly])
  · intro s t p u h hrep
    exact leaves_link (·.replayTimeout p) h rfl (by simp [State.replayTimeout, hrep])
  · intro s t p u h hst
    exact ⟨leaves_link (·.localFrame p 2) h rfl (by simp [State.localFrame, hst]),
      leaves_link (·.localFrame p 5) h rfl (by simp [State.localFrame, hst])⟩
  · intro s t p u h hst
    exact ⟨leaves_link (·.localFrame p 2) h rfl (if_pos hst), leaves_link (·.localFrame p 5) h rfl (if_pos hst)⟩
  · intro s t u h
    exact leaves_mgmtWr (·.rejoin) h rfl rfl
  · intro s t n u h
    exact ⟨leaves_mgmtWr_host (·.rejoin) h rfl, leaves_mgmtWr_host (·.plannedLeave) h rfl⟩

end Sys2Proof.Machine
end

section
/-! SUPPORT. Bytes, blocks and the cipher's texts: what is enciphered twice is what it was, and a GCM tag has 128 bits (chapter 10). -/

namespace Sys2Proof.Machine

/-- A list of bytes. -/
def Bytes (l : List Nat) : Prop := ∀ x ∈ l, x < 256

variable {a b l : List Nat} {n x y : Nat}

theorem Bytes.append (ha : Bytes a) (hb : Bytes b) : Bytes (a ++ b) := fun z hz => (List.mem_append.mp hz).elim (ha z) (hb z)

theorem Bytes.flatMap {α : Type} {f : α → List Nat} {q : List α} (h : ∀ z ∈ q, Bytes (f z)) : Bytes (q.flatMap f) := by
  intro z hz
  obtain ⟨c, hc, hz⟩ := List.mem_flatMap.mp hz
  exact h c hc z hz

theorem Bytes.xorBytes (ha : Bytes a) (hb : Bytes b) : Bytes (xorBytes a b) := by
  intro z hz
  obtain ⟨i, hi, rfl⟩ := List.getElem_of_mem hz
  have hlen : i < (List.zipWith (fun x y => x ^^^ y) a b).length := hi
  rw [List.length_zipWith] at hlen
  have hget : (Machine.xorBytes a b)[i] = a[i] ^^^ b[i] := List.getElem_zipWith
  rw [hget]
  exact Nat.xor_lt_two_pow (n := 8) (ha _ (List.getElem_mem _)) (hb _ (List.getElem_mem _))

theorem Bytes.nth (h : Bytes l) (i : Nat) : nth l i 0 < 256 := by
  unfold Sys2Proof.nth
  cases hi : l[i]? with
  | none => exact Nat.zero_lt_succ _
  | some z => exact h z (List.mem_of_getElem? hi)

theorem beNat_foldl (l : List Nat) (n : Nat) : l.foldl (fun n b => n * 256 + b) n = n * 256 ^ l.length + beNat l := by
  induction l generalizing n with
  | nil => simp [beNat]
  | cons z l ih =>
    have htail : beNat (z :: l) = z * 256 ^ l.length + beNat l := (ih (0 * 256 + z)).trans (by rw [Nat.zero_mul, Nat.zero_add])
    rw [List.foldl_cons, ih, htail, List.length_cons, Nat.pow_succ]
    ring

theorem beNat_cons (x : Nat) (l : List Nat) : beNat (x :: l) = x * 256 ^ l.length + beNat l := by
  have hstart : beNat (x :: l) = l.foldl (fun n b => n * 256 + b) (0 * 256 + x) := rfl
  rw [hstart, Nat.zero_mul, Nat.zero_add]
  exact beNat_foldl l x

theorem Bytes.beNat_lt (h : Bytes l) : beNat l < 256 ^ l.length := by
  induction l with
  | nil => exact Nat.one_pos
  | cons z l ih =>
    have hz : z < 256 := h z List.mem_cons_self
    have hl : beNat l < 256 ^ l.length := ih fun w hw => h w (List.mem_cons_of_mem _ hw)
    have hmul : z * 256 ^ l.length ≤ 255 * 256 ^ l.length := Nat.mul_le_mul_right _ (by omega)
    rw [beNat_cons, List.length_cons, Nat.pow_succ]
    omega

theorem beBytes_succ (n x : Nat) : beBytes (n + 1) x = x / 256 ^ n % 256 :: beBytes n x := by
  have hshift : x >>> (8 * n) = x / 256 ^ n := by rw [Nat.shiftRight_eq_div_pow, Nat.pow_mul]
  simp [beBytes, List.range_succ, hshift]

theorem beBytes_length (n x : Nat) : (beBytes n x).length = n := by simp [beBytes]

theorem Bytes.beBytes (n x : Nat) : Bytes (beBytes n x) := by
  intro z hz
  obtain ⟨i, -, rfl⟩ := List.mem_map.mp hz
  exact Nat.mod_lt _ (by decide)

theorem beNat_beBytes (n x : Nat) : beNat (beBytes n x) = x % 256 ^ n := by
  induction n with
  | zero => exact (Nat.mod_one x).symm
  | succ n ih =>
    rw [beBytes_succ, beNat_cons, beBytes_length, ih, Nat.mod_pow_succ]
    ring

theorem beBytes_congr (h : x % 256 ^ n = y % 256 ^ n) : beBytes n x = beBytes n y := by
  induction n with
  | zero => rfl
  | succ n ih =>
    rw [Nat.mod_pow_succ, Nat.mod_pow_succ] at h
    have hpos : 0 < 256 ^ n := Nat.pow_pos (by decide)
    have hx := Nat.mod_lt x hpos
    have hy := Nat.mod_lt y hpos
    have hlow : x % 256 ^ n = y % 256 ^ n := by
      have := congrArg (· % 256 ^ n) h
      simpa [Nat.add_mul_mod_self_left, Nat.mod_mod] using this
    have hhigh : x / 256 ^ n % 256 = y / 256 ^ n % 256 := by
      rw [hlow] at h
      exact Nat.eq_of_mul_eq_mul_left hpos (Nat.add_left_cancel h)
    rw [beBytes_succ, beBytes_succ, hhigh, ih hlow]

theorem Bytes.beBytes_beNat (h : Bytes l) : Machine.beBytes l.length (beNat l) = l := by
  induction l with
  | nil => rfl
  | cons z l ih =>
    have hz : z < 256 := h z List.mem_cons_self
    have hl : Bytes l := fun w hw => h w (List.mem_cons_of_mem _ hw)
    have hpos : 0 < 256 ^ l.length := Nat.pow_pos (by decide)
    have hlow : (z * 256 ^ l.length + beNat l) % 256 ^ l.length = beNat l % 256 ^ l.length := by
      rw [Nat.mul_comm, Nat.mul_add_mod]
    have hhigh : (z * 256 ^ l.length + beNat l) / 256 ^ l.length % 256 = z := by
      rw [Nat.mul_comm, Nat.mul_add_div hpos, Nat.div_eq_of_lt hl.beNat_lt, Nat.add_zero, Nat.mod_eq_of_lt hz]
    rw [beNat_cons, List.length_cons, beBytes_succ, hhigh, beBytes_congr hlow, ih hl]

theorem leBytes_length (n x : Nat) : (leBytes n x).length = n := by simp [leBytes, beBytes_length]

theorem Bytes.leBytes (n x : Nat) : Bytes (leBytes n x) := fun z hz => Bytes.beBytes n x z (List.mem_reverse.mp hz)

/-! Pieces of a list. -/

theorem cutBy_append {α : Type} {n f : Nat} {p q : List α} (hp : p.length = n) (hn : 0 < n) : cutBy n (f + 1) (p ++ q) = p :: cutBy n f q := by
  obtain ⟨c, r, rfl⟩ : ∃ c r, p = c :: r := by
    cases p with
    | nil => exact absurd hp (by simp; omega)
    | cons c r => exact ⟨c, r, rfl⟩
  show ((c :: r) ++ q).take n :: cutBy n f (((c :: r) ++ q).drop n) = _
  rw [List.take_left' hp, List.drop_left' hp]

/-- Pieces of one length, put together and cut again. -/
theorem cutBy_flatMap {α β : Type} {n f : Nat} {g : β → List α} {q : List β} (hn : 0 < n) (hg : ∀ x, (g x).length = n) (hf : q.length ≤ f) :
    cutBy n f (q.flatMap g) = q.map g := by
  induction q generalizing f with
  | nil => cases f <;> rfl
  | cons z q ih =>
    obtain ⟨f, rfl⟩ : ∃ m, f = m + 1 := ⟨f - 1, by rw [List.length_cons] at hf; omega⟩
    rw [List.flatMap_cons, cutBy_append (hg z) hn, ih (by rw [List.length_cons] at hf; omega), List.map_cons]

/-- A list of whole pieces is its pieces put together. -/
theorem flatMap_cutBy {α : Type} {n f k : Nat} {q : List α} (hn : 0 < n) (hq : q.length = n * k) (hf : k ≤ f) :
    (cutBy n f q).flatMap id = q ∧ ∀ p ∈ cutBy n f q, p.length = n := by
  induction k generalizing q f with
  | zero =>
    have hnil : q = [] := List.eq_nil_of_length_eq_zero (by simpa using hq)
    subst hnil
    cases f <;> simp [cutBy]
  | succ k ih =>
    obtain ⟨f, rfl⟩ : ∃ m, f = m + 1 := ⟨f - 1, by omega⟩
    have hle : n ≤ q.length := by rw [hq, Nat.mul_succ]; omega
    have htake : (q.take n).length = n := by simp [hle]
    have hcut : cutBy n (f + 1) q = q.take n :: cutBy n f (q.drop n) := by
      conv_lhs => rw [← List.take_append_drop n q]
      exact cutBy_append htake hn
    obtain ⟨hjoin, hlen⟩ := ih (q := q.drop n) (f := f) (by rw [List.length_drop, hq, Nat.mul_succ]; omega) (by omega)
    rw [hcut]
    refine ⟨?_, ?_⟩
    · rw [List.flatMap_cons, hjoin, id, List.take_append_drop]
    · intro p hp
      obtain rfl | hp := List.mem_cons.mp hp
      · exact htake
      · exact hlen p hp

/-! AES-256 and GCM. -/

theorem xorBytes_length : (xorBytes a b).length = min a.length b.length := List.length_zipWith

theorem xorBytes_xorBytes (h : a.length ≤ b.length) : xorBytes (xorBytes a b) b = a := by
  induction a generalizing b with
  | nil => rfl
  | cons x a ih =>
    cases b with
    | nil => exact absurd h (by simp)
    | cons y b =>
      have hrest : xorBytes (xorBytes a b) b = a := ih (by simpa using h)
      have hhead : x ^^^ y ^^^ y = x := by rw [Nat.xor_assoc, Nat.xor_self, Nat.xor_zero]
      show (x ^^^ y ^^^ y) :: xorBytes (xorBytes a b) b = x :: a
      rw [hrest, hhead]

theorem gcmStream_length (k : BitVec 256) (iv : BitVec 96) (n : Nat) : (gcmStream k iv n).length = 16 * n := by
  induction n with
  | zero => rfl
  | succ n ih =>
    simp only [gcmStream, List.range_succ, List.flatMap_append, List.length_append] at ih ⊢
    simp [ih, beBytes_length]
    omega

theorem Bytes.gcmStream (k : BitVec 256) (iv : BitVec 96) (n : Nat) : Bytes (gcmStream k iv n) := Bytes.flatMap fun _ _ => Bytes.beBytes _ _

theorem gcmText_length (k : BitVec 256) (iv : BitVec 96) (l : List Nat) : (gcmText k iv l).length = l.length := by
  rw [gcmText, xorBytes_length, gcmStream_length]
  omega

/-- The cipher is its own inverse. -/
theorem gcmText_gcmText (k : BitVec 256) (iv : BitVec 96) (l : List Nat) : gcmText k iv (gcmText k iv l) = l := by
  rw [gcmText, gcmText_length, gcmText, xorBytes_xorBytes]
  rw [gcmStream_length]
  omega

theorem Bytes.gcmText (k : BitVec 256) (iv : BitVec 96) (h : Bytes l) : Bytes (gcmText k iv l) := h.xorBytes (.gcmStream k iv _)

theorem aesSub_lt (x : Nat) : aesSub x < 256 := Nat.mod_lt _ (by decide)

theorem Bytes.map_aesSub (l : List Nat) : Bytes (l.map aesSub) := by
  intro z hz
  obtain ⟨x, -, rfl⟩ := List.mem_map.mp hz
  exact aesSub_lt x

theorem Bytes.aesShift (h : Bytes l) : Bytes (aesShift l) := by
  intro z hz
  obtain ⟨i, -, rfl⟩ := List.mem_map.mp hz
  exact h.nth _

/-- The key schedule gives bytes. -/
theorem Bytes.aesNextKey {rc : Nat} {w : List (List Nat)} (hrc : rc < 256) (hw : ∀ r ∈ w, Bytes r) : ∀ r ∈ aesNextKey rc w, Bytes r := by
  have hat (i : Nat) : Bytes (Sys2Proof.nth w i []) := by
    unfold Sys2Proof.nth
    cases hi : w[i]? with
    | none => exact fun z hz => absurd hz List.not_mem_nil
    | some r => exact hw r (List.mem_of_getElem? hi)
  have hconst : Bytes [rc, 0, 0, 0] := by simp [Bytes, hrc]
  unfold Machine.aesNextKey
  extract_lets at0 l g a0 a1 a2 a3 a4 a5 a6 a7
  have h0 : Bytes a0 := (hat 0).xorBytes ((map_aesSub _).xorBytes hconst)
  have h1 : Bytes a1 := (hat 1).xorBytes h0
  have h2 : Bytes a2 := (hat 2).xorBytes h1
  have h3 : Bytes a3 := (hat 3).xorBytes h2
  have h4 : Bytes a4 := (hat 4).xorBytes (map_aesSub _)
  have h5 : Bytes a5 := (hat 5).xorBytes h4
  have h6 : Bytes a6 := (hat 6).xorBytes h5
  have h7 : Bytes a7 := (hat 7).xorBytes h6
  simp only [List.forall_mem_cons]
  exact ⟨h0, h1, h2, h3, h4, h5, h6, h7, fun r hr => absurd hr List.not_mem_nil⟩

theorem Bytes.aesSchedule {rcs : List Nat} {w : List (List Nat)} (hrc : Bytes rcs) (hw : ∀ r ∈ w, Bytes r) :
    ∀ r ∈ aesSchedule rcs w, Bytes r := by
  induction rcs generalizing w with
  | nil => exact hw
  | cons rc rcs ih =>
    intro r hr
    obtain hr | hr := List.mem_append.mp hr
    · exact hw r hr
    · exact ih (fun z hz => hrc z (List.mem_cons_of_mem _ hz)) (Bytes.aesNextKey (hrc rc List.mem_cons_self) hw) r hr

theorem mem_cutBy {α : Type} {n f : Nat} {q p : List α} {z : α} (hp : p ∈ cutBy n f q) (hz : z ∈ p) : z ∈ q := by
  induction f generalizing q with
  | zero => cases q <;> exact absurd hp List.not_mem_nil
  | succ f ih =>
    cases q with
    | nil => exact absurd hp List.not_mem_nil
    | cons c q =>
      obtain rfl | hp := List.mem_cons.mp hp
      · exact List.mem_of_mem_take hz
      · exact List.mem_of_mem_drop (ih hp)

theorem Bytes.aesKeys (k : Nat) : ∀ r ∈ aesKeys k, Bytes r := by
  intro r hr z hz
  obtain ⟨p, hp, rfl⟩ := List.mem_map.mp hr
  obtain ⟨w, hw, hz⟩ := List.mem_flatten.mp hz
  refine Bytes.aesSchedule (by simp [Bytes]) (fun c hc y hy => ?_) w (mem_cutBy hp hw) z hz
  exact Bytes.beBytes 32 k y (mem_cutBy hc hy)

/-- The last round gives a block. -/
theorem aesRounds_block {k : List Nat} {ks : List (List Nat)} (hks : ∀ r ∈ k :: ks, Bytes r) (b : List Nat) :
    Bytes (aesRounds (k :: ks) b) ∧ (aesRounds (k :: ks) b).length ≤ 16 := by
  induction ks generalizing k b with
  | nil =>
    refine ⟨(Bytes.map_aesSub b |>.aesShift).xorBytes (hks k List.mem_cons_self), ?_⟩
    rw [aesRounds, xorBytes_length]
    simp [aesShift]
  | cons k' ks ih => exact ih (fun r hr => hks r (List.mem_cons_of_mem _ hr)) _

theorem beNat_block (h : Bytes l) (hl : l.length ≤ 16) : beNat l < 2 ^ 128 :=
  lt_of_lt_of_le h.beNat_lt ((Nat.pow_le_pow_right (by decide) hl).trans (by decide))

theorem aes256_lt (k : BitVec 256) (x : Nat) : aes256 k x < 2 ^ 128 := by
  have hkeys := Bytes.aesKeys k.toNat
  unfold aes256
  split
  · exact Nat.two_pow_pos _
  next k0 l heq =>
    rw [heq] at hkeys
    cases l with
    | nil =>
      refine beNat_block ((Bytes.beBytes 16 x).xorBytes (hkeys k0 List.mem_cons_self)) ?_
      show (xorBytes (beBytes 16 x) k0).length ≤ 16
      rw [xorBytes_length, beBytes_length]
      exact Nat.min_le_left _ _
    | cons k1 l =>
      obtain ⟨hbytes, hlen⟩ := aesRounds_block (fun r hr => hkeys r (List.mem_cons_of_mem _ hr)) (xorBytes (beBytes 16 x) k0)
      exact beNat_block hbytes hlen

theorem ghashBit_lt {x i : Nat} {p : Nat × Nat} (h : p.1 < 2 ^ 128 ∧ p.2 < 2 ^ 128) :
    (ghashBit x p i).1 < 2 ^ 128 ∧ (ghashBit x p i).2 < 2 ^ 128 := by
  have hhalf : p.2 / 2 < 2 ^ 128 := by omega
  unfold ghashBit
  refine ⟨?_, ?_⟩
  · show (if _ then _ else _) < _
    split
    · exact Nat.xor_lt_two_pow h.1 h.2
    · exact h.1
  · show (if _ then _ else _) < _
    split
    · exact Nat.xor_lt_two_pow hhalf (by decide)
    · exact hhalf

theorem ghashMul_lt (x : Nat) {y : Nat} (h : y < 2 ^ 128) : ghashMul x y < 2 ^ 128 := by
  have hfold (is : List Nat) (p : Nat × Nat) (hp : p.1 < 2 ^ 128 ∧ p.2 < 2 ^ 128) : (is.foldl (ghashBit x) p).1 < 2 ^ 128 := by
    induction is generalizing p with
    | nil => exact hp.1
    | cons i is ih => exact ih _ (ghashBit_lt hp)
  exact hfold _ _ ⟨Nat.two_pow_pos _, h⟩

theorem ghash_lt {h : Nat} (hh : h < 2 ^ 128) (l : List Nat) : ghash h l < 2 ^ 128 := by
  have hfold (y : Nat) (hy : y < 2 ^ 128) : l.foldl (fun y b => ghashMul (y ^^^ b) h) y < 2 ^ 128 := by
    induction l generalizing y with
    | nil => exact hy
    | cons b l ih => exact ih _ (ghashMul_lt _ hh)
  exact hfold 0 (Nat.two_pow_pos _)

/-- A GCM tag has 128 bits. -/
theorem gcmTag_lt (k : BitVec 256) (iv : BitVec 96) (aad text : List Nat) : gcmTag k iv aad text < 2 ^ 128 :=
  Nat.xor_lt_two_pow (ghash_lt (aes256_lt k 0) _) (aes256_lt k _)

theorem gcmTag_ofNat (k : BitVec 256) (iv : BitVec 96) (aad text : List Nat) : (BitVec.ofNat 128 (gcmTag k iv aad text)).toNat = gcmTag k iv aad text :=
  (BitVec.toNat_ofNat _ _).trans (Nat.mod_eq_of_lt (gcmTag_lt k iv aad text))

end Sys2Proof.Machine
end

section
/-! SUPPORT. Frames and segments that leave sealed (R336, R342, R350, R351). -/

namespace Sys2Proof.Machine

variable {l : List Nat}

theorem flitBytes_length (p : List (BitVec 512)) : (flitBytes p).length = 64 * p.length := by
  rw [flitBytes, List.length_flatMap, List.sum_eq_card_nsmul _ 64 (by simp [leBytes_length])]
  simp [Nat.mul_comm]

theorem Bytes.flitBytes (p : List (BitVec 512)) : Bytes (flitBytes p) := Bytes.flatMap fun _ _ => Bytes.leBytes _ _

theorem two_pow_512 : 2 ^ 512 = 256 ^ 64 := by rw [show 512 = 8 * 64 from rfl, Nat.pow_mul]

theorem leBytes_flit (x : BitVec 512) : BitVec.ofNat 512 (beNat (leBytes 64 x.toNat).reverse) = x := by
  rw [leBytes, List.reverse_reverse, beNat_beBytes, Nat.mod_eq_of_lt (lt_of_lt_of_eq x.isLt two_pow_512), BitVec.ofNat_toNat, BitVec.setWidth_eq]

theorem bytesFlits_flitBytes (p : List (BitVec 512)) : bytesFlits (flitBytes p) = p := by
  have hcut : cutBy 64 (flitBytes p).length (flitBytes p) = p.map (fun x => leBytes 64 x.toNat) :=
    cutBy_flatMap (by decide) (fun x => leBytes_length 64 _) (by rw [flitBytes_length]; omega)
  rw [bytesFlits, hcut, List.map_map]
  exact (List.map_congr_left fun x _ => leBytes_flit x).trans (List.map_id p)

theorem flit_leBytes (h : Bytes l) (hl : l.length = 64) : leBytes 64 (BitVec.ofNat 512 (beNat l.reverse)).toNat = l := by
  have hrev : Bytes l.reverse := fun z hz => h z (List.mem_reverse.mp hz)
  have hlt : beNat l.reverse < 2 ^ 512 := lt_of_lt_of_eq hrev.beNat_lt (by rw [List.length_reverse, hl, two_pow_512])
  have hback := hrev.beBytes_beNat
  rw [List.length_reverse, hl] at hback
  rw [BitVec.toNat_ofNat, Nat.mod_eq_of_lt hlt, leBytes, hback, List.reverse_reverse]

theorem flitBytes_bytesFlits {k : Nat} (h : Bytes l) (hl : l.length = 64 * k) : flitBytes (bytesFlits l) = l := by
  obtain ⟨hjoin, hlen⟩ := flatMap_cutBy (f := l.length) (by decide) hl (by omega)
  rw [flitBytes, bytesFlits, List.flatMap_map]
  refine Eq.trans ?_ hjoin
  refine List.flatMap_congr fun p hp => ?_
  exact flit_leBytes (fun z hz => h z (mem_cutBy hp hz)) (hlen p hp)

/-- Settles O60. -/
theorem sealedFramesOpen : Obligations.SealedFramesOpen := by
  refine ⟨fun k f => ⟨rfl, ?_, rfl⟩, fun k src d p => ⟨?_, ?_⟩⟩
  · show bytesFlits (gcmText k.key (k.iv f.ctr) (flitBytes (bytesFlits (gcmText k.key (k.iv f.ctr) (flitBytes f.text))))) = f.text
    rw [flitBytes_bytesFlits ((Bytes.flitBytes f.text).gcmText _ _) ((gcmText_length _ _ _).trans (flitBytes_length _)), gcmText_gcmText,
      bytesFlits_flitBytes]
  · show bytesFlits (gcmText k (segIv src d.iv) (gcmText k (segIv src d.iv) (flitBytes p))) = p
    rw [gcmText_gcmText, bytesFlits_flitBytes]
  · have hlen : (gcmText k (segIv src d.iv) (flitBytes p)).length = 64 * p.length := (gcmText_length _ _ _).trans (flitBytes_length p)
    rw [← hlen]
    exact gcmTag_ofNat _ _ _ _

end Sys2Proof.Machine
end

section
/-! SUPPORT. Transfers (R364 to R368): a table of transfers with two entries for one number. -/

namespace Sys2Proof.Machine

open Sys2Proof.Tests

/-- A block with a session key whose transfer 0, a GET of task 0 from node 1, which is itself, stands twice in its table, the second time paused. -/
def twiceListed : State :=
  { sharing.setF .TML_STAT 0 0 0 4 1 with
      tml := { xfers := [(0, { xfer0 with get := true }), (0, { xfer0 with get := true, paused := true })] },
      tasks := [(0, task0 .link 9)] }

/-- The tag of an empty segment under the session key of that block. -/
def emptyTag : BitVec 128 := BitVec.ofNat 128 (gcmTag 1 (segIv 1 0) (segAad 0 0 0 0 0) [])

/-- The block once it has written an empty response segment, as the clause of O39 tells it. -/
def twiceCovered : State :=
  ((twiceListed.writeMem (twiceListed.forCtx (task0 .link 9).ctx) ((task0 .link 9).linkLocal + BitVec.ofNat 64 (4096 * 0)) []).payload
    { xfer0 with get := true } 7 (8 * 0)).updXfer 0 (fun y => { y with covered := y.covered + 1, owed := 0 })

/-- That block once it has told the far end, as the clause tells it. -/
def twiceTold : State :=
  let v := twiceCovered.send 1 (.credit 1 (some 0))
  if v.portOf ((task0 .link 9).linkLocal + BitVec.ofNat 64 (4096 * 0)) == .host then v.segRespAck 0 else v

theorem twiceListed_opens : twiceListed.segOpen 1 0 0 0 0 0 emptyTag [] = some [] := by
  have hkey : twiceListed.ftKey 0 0 = some 1 := by decide
  have htag : gcmTag 1 (segIv 1 0) (segAad 0 0 0 0 0) [] = emptyTag.toNat := (gcmTag_ofNat _ _ _ _).symm
  rw [State.segOpen, hkey]
  exact if_pos htag

set_option maxRecDepth 4000 in
/-- Refutes O39, by its clause for the response segments of a GET: a second entry of the same number, which is paused, counts the segment as
owed, and the clause has it owe nothing. -/
theorem not_transfersMoveSegments : ¬ Obligations.TransfersMoveSegments := by
  rintro ⟨-, -, -, -, -, -, hresp, -⟩
  have hleaves : Leaves (.segmentReceive 0 1 0 true 0 ⟨0, 0, emptyTag⟩ []) twiceListed twiceTold :=
    hresp twiceListed 0 1 0 0 0 0 emptyTag [] [] twiceListed { xfer0 with get := true } (task0 .link 9)
      ⟨by decide, rfl⟩ rfl rfl rfl rfl rfl rfl rfl twiceListed_opens
  have hresponds : twiceListed.segmentIn 1 0 true 0 0 0 emptyTag [] = twiceListed.segResp 0 { xfer0 with get := true } 0 (some []) := by
    rw [← twiceListed_opens, State.segmentIn, if_pos rfl]
    exact if_pos rfl
  have hleft : exec (.segmentReceive 0 1 0 true 0 ⟨0, 0, emptyTag⟩ []) twiceListed =
      .next (twiceListed.segmentIn 1 0 true 0 0 0 emptyTag []).polls :=
    act_acts (s := twiceListed) (t := 0) (u := twiceListed) (fun s => s.segmentIn 1 0 true 0 0 0 emptyTag []) ⟨by decide, rfl⟩
  rw [hresponds] at hleft
  injection hleft.symm.trans hleaves with hpolls
  have howed := congrArg (fun s : State => s.tml.xfers.map fun e => e.2.owed) hpolls
  have hdone : (twiceListed.segResp 0 { xfer0 with get := true } 0 (some [])).polls.tml.xfers.map (fun e => e.2.owed) = [0, 1] := by rfl
  have htold : twiceTold.polls.tml.xfers.map (fun e => e.2.owed) = [0, 0] := by rfl
  rw [hdone, htold] at howed
  exact absurd howed (by decide)

end Sys2Proof.Machine
end

section
/-! SUPPORT. Remote records, waits and semaphores (R132, R134, R135, R137, R366, R369). An acknowledgement is kept by nobody, so that it leaves
the account of remote operations alone. -/

namespace Sys2Proof.Machine

variable {s u v : State} {t a q : Nat} {h : Half}

theorem State.freeFrame_remoteOps (f : Frame) : (u.freeFrame f).remoteOps = u.remoteOps := by
  unfold State.freeFrame State.oweCredit
  split
  · split <;> rfl
  · rfl

theorem State.segWired_remoteOps (f : Frame) : (u.segWired f).remoteOps = u.remoteOps := by
  unfold State.segWired
  split
  · split <;> rfl
  · rfl

theorem State.count_remoteOps (i k : Nat) (x : Who3) : (u.count i k x).remoteOps = u.remoteOps := by
  obtain ⟨g, hg⟩ := State.count_regs (u := u) i k x
  rw [hg]

theorem State.txNow_remoteOps (p : Nat) (f : Frame) : (u.txNow p f).remoteOps = u.remoteOps := by
  unfold State.txNow
  extract_lets x h g0 sealed g queued wired keyed left counted
  have hwired : wired.remoteOps = u.remoteOps := (State.segWired_remoteOps f).trans (State.freeFrame_remoteOps f)
  have hleft : left.remoteOps = u.remoteOps := by
    show keyed.remoteOps = _
    unfold keyed State.when
    split <;> exact hwired
  have hcounted : counted.remoteOps = u.remoteOps := (State.count_remoteOps _ _ _).trans hleft
  split
  · exact (State.count_remoteOps _ _ _).trans hcounted
  · exact hcounted

theorem State.pump_remoteOps (p n : Nat) : (u.pump p n).remoteOps = u.remoteOps := by
  induction n generalizing u with
  | zero => rfl
  | succ n ih =>
    unfold State.pump
    split
    · rfl
    · split
      · exact ih.trans (State.txNow_remoteOps p _)
      · rfl

theorem State.wire_remoteOps (d : Nat) (f : Frame) : (u.wire d f).remoteOps = u.remoteOps := by
  unfold State.wire
  split
  · exact State.pump_remoteOps _ _
  · rfl

theorem State.acks_remoteOps (a q : Nat) : (u.acks a q).remoteOps = u.remoteOps := State.wire_remoteOps _ _

/-- An operation of which the acknowledgement comes is done with. -/
theorem State.msgAck_found {o : RemoteOp} (ho : u.remoteOps = [o]) (hd : o.dest = a) (hq : o.seq = q) :
    u.remoteOps.find? (fun o => !false && o.dest == a && o.seq == q) = some o
      ∧ u.remoteOps.filter (fun x => !(x.dest == a && x.seq == q)) = [] := by
  rw [ho]
  simp [hd, hq]

/-- Settles O40. -/
theorem remoteHandlesAreServed : Obligations.RemoteHandlesAreServed := by
  refine ⟨?_, ?_, ?_, ?_, ?_, ?_, ?_, ?_, ?_, ?_, ?_, ?_, ?_, ?_, ?_, ?_⟩
  · intro s t a q h m w r p u c hu he hc
    refine ⟨leaves_act (·.readingEvent h (fun s => s.msgRecord a q h m w r p)) hu rfl ?_,
      leaves_act (·.readingEvent h (fun s => s.msgWaitReg a q h w p)) hu rfl ?_⟩
    · simp only [State.readingEvent_plain he, State.msgRecord, hc]
    · simp only [State.readingEvent_plain he, State.msgWaitReg, hc]
  · intro s t a q h m w r p u hu he hc
    refine leaves_act (·.readingEvent h (fun s => s.msgRecord a q h m w r p)) hu rfl ?_
    simp only [State.readingEvent_plain he, State.msgRecord, hc]
  · intro s t a q h w p u e hu he hc hev
    have hplain : u.readingEvent h (fun s => s.msgWaitReg a q h w p) = u.msgWaitReg a q h w p := State.readingEvent_plain he _
    refine ⟨fun hle => ?_, fun hlt hab => ?_, fun hlt hab hany => ?_, fun hlt hab hany hroom => ?_, fun hlt hab hany hfull => ?_⟩
    all_goals refine leaves_act (·.readingEvent h (fun s => s.msgWaitReg a q h w p)) hu rfl (hplain.trans ?_)
    all_goals simp only [State.msgWaitReg, hc, hev]
    · exact if_pos hle
    · rw [if_neg (Nat.not_le.mpr hlt), if_pos hab]
    · rw [if_neg (Nat.not_le.mpr hlt), if_neg (by simp [hab]), if_pos hany]
    · rw [if_neg (Nat.not_le.mpr hlt), if_neg (by simp [hab]), if_neg (by simp [hany]), if_neg (Nat.not_le.mpr hroom)]
    · rw [if_neg (Nat.not_le.mpr hlt), if_neg (by simp [hab]), if_neg (by simp [hany]), if_pos hfull]
  · intro s t a q h w u hu
    exact leaves_act (·.msgRelease a q h w) hu rfl rfl
  · intro s t a q h u hu
    exact leaves_act (·.msgWaitDrop a q h) hu rfl rfl
  · intro s t a q i k c p u r hu he hc
    refine ⟨leaves_act (·.reading tabSem (.sem i) (fun s => s.msgSemAcq a q i k c p)) hu rfl ?_,
      leaves_act (·.reading tabSem (.sem i) (fun s => s.msgSemRel a q i k c p)) hu rfl ?_⟩
    · simp only [State.reading_plain he, State.msgSemAcq, hc]
    · simp only [State.reading_plain he, State.msgSemRel, hc]
  · intro s t a q i k c p u hu he hc
    refine ⟨leaves_act (·.reading tabSem (.sem i) (fun s => s.msgSemAcq a q i k c p)) hu rfl ?_,
      leaves_act (·.reading tabSem (.sem i) (fun s => s.msgSemRel a q i k c p)) hu rfl ?_⟩
    · simp only [State.reading_plain he, State.msgSemAcq, hc]
    · simp only [State.reading_plain he, State.msgSemRel, hc]
  · intro s t a q i k u v c hu hv hfind
    subst hv
    refine ⟨fun f hf => ?_, fun hf => ?_⟩
    · exact leaves_act (·.msgSemGrant a q i k) hu rfl (by simp only [State.msgSemGrant, hfind, hf])
    · exact leaves_act (·.msgSemGrant a q i k) hu rfl (by simp only [State.msgSemGrant, hfind, hf])
  · intro s t a q i k u hu hfind
    exact leaves_act (·.msgSemGrant a q i k) hu rfl (by simp only [State.msgSemGrant, hfind])
  · intro s t a q r h u v hu ho hv
    subst hv
    have hnone {p : RemoteOp → Bool} : (u.acks a q).remoteOps.find? p = none := by rw [State.acks_remoteOps, ho]; rfl
    refine ⟨?_, fun hbit => ?_, fun hbit => ?_, ?_, ?_, fun y hy => ?_⟩
    · exact leaves_act (·.msgRefuse a ⟨q, r⟩ 2 h) hu rfl (by simp only [State.msgRefuse, hnone])
    · exact leaves_act (·.msgRefuse a ⟨q, r⟩ 3 h) hu rfl (by simp only [State.msgRefuse, hnone, hbit, Bool.false_eq_true, if_false])
    · exact leaves_act (·.msgRefuse a ⟨q, r⟩ 3 h) hu rfl (by simp only [State.msgRefuse, hnone, hbit, if_true])
    · exact leaves_act (·.msgRefuse a ⟨q, r⟩ 4 h) hu rfl (by simp only [State.msgRefuse, hnone])
    · exact leaves_act (·.msgRefuse a ⟨q, r⟩ 6 h) hu rfl (by simp only [State.msgRefuse, hnone])
    · exact leaves_act (·.msgRefuse a ⟨q, r⟩ 5 h) hu rfl (by simp only [State.msgRefuse, hnone, hy])
  · intro s t a q r c h u o g m w b hu ho hd hr hm hc
    refine leaves_act (·.msgRefuse a ⟨q, r⟩ c h) hu rfl ?_
    have hops : (u.acks a q).remoteOps = [o] := (State.acks_remoteOps a q).trans ho
    obtain rfl | rfl : c = 0 ∨ c = 1 := by omega
    · simp [State.msgRefuse, hops, hd, hr, hm]
    · simp [State.msgRefuse, hops, hd, hr, hm]
  · intro s t a q u o f x h m w r hu ho hd hq hcmd hf hm hx
    refine leaves_act (·.msgAck a ⟨q, false⟩) hu rfl ?_
    obtain ⟨hfind, hfilter⟩ := State.msgAck_found ho hd hq
    simp only [State.msgAck, hfind, hfilter, hm, hcmd, hf, Option.isSome_none, Bool.false_eq_true, if_false, State.remoteDone, hx]
  · intro s t a q u o h m w r hu ho hd hq hno hm
    refine leaves_act (·.msgAck a ⟨q, false⟩) hu rfl ?_
    obtain ⟨hfind, hfilter⟩ := State.msgAck_found ho hd hq
    obtain hno | hno := hno
    · simp only [State.msgAck, hfind, hfilter, hm, hno, if_true]
    · simp only [State.msgAck, hfind, hfilter, hm, hno, ite_self]
  · intro s t a q u o f x i n c hu ho hd hq hcmd hf hb hm
    dsimp only
    intro hx
    refine leaves_act (·.msgAck a ⟨q, false⟩) hu rfl ?_
    obtain ⟨hfind, hfilter⟩ := State.msgAck_found ho hd hq
    simp only [State.msgAck, hfind, hfilter, hm, hb, hcmd, hf, hd, Option.isSome_none, Bool.false_eq_true, if_false, State.remoteDone, hx]
  · intro s t a q u o i n c hu ho hd hq hb hm
    refine leaves_act (·.msgAck a ⟨q, false⟩) hu rfl ?_
    obtain ⟨hfind, hfilter⟩ := State.msgAck_found ho hd hq
    simp only [State.msgAck, hfind, hfilter, hm, hb, if_true]
  · intro s t a r u hu hno
    refine leaves_act (·.msgAck a r) hu rfl ?_
    have hnone : u.remoteOps.find? (fun o => !r.flood && o.dest == a && o.seq == r.seq) = none := by
      obtain hno | hno := hno
      · rw [hno]
        rfl
      · simp [hno]
    simp only [State.msgAck, hnone]

end Sys2Proof.Machine
end

section
/-! SUPPORT. When a freeze is recorded (R404): what the polling of a freeze leaves has no freeze to record but one of its own moment. -/

namespace Sys2Proof.Machine

/-- The block stands at `n`, and a freeze that it has still to record was taken at `n`. -/
def State.FreezesAt (u : State) (n : Nat) : Prop := u.now = n ∧ (u.obs.freezeRec = none ∨ u.obs.freezeRec = some n)

namespace State.FreezesAt

variable {u v : State} {n : Nat}

/-- Neither the clock nor the freeze to record has changed. -/
theorem keep (h : u.FreezesAt n) (hnow : v.now = u.now) (hrec : v.obs.freezeRec = u.obs.freezeRec) : v.FreezesAt n := by
  rwa [State.FreezesAt, hnow, hrec]

theorem irq (h : u.FreezesAt n) {i : Irq} : FreezesAt { u with irq := i } n := h

theorem setF (h : u.FreezesAt n) (r : Reg) (i j lo w x : Nat) : (u.setF r i j lo w x).FreezesAt n := h.keep rfl rfl

theorem setB (h : u.FreezesAt n) (r : Reg) (i j b : Nat) (x : Bool) : (u.setB r i j b x).FreezesAt n := h.keep rfl rfl

theorem ite {c : Prop} [Decidable c] (hu : u.FreezesAt n) (hv : v.FreezesAt n) : (if c then u else v).FreezesAt n := by
  split
  · exact hu
  · exact hv

theorem when {c : Bool} {f : State → State} (h : u.FreezesAt n) (hf : ∀ v : State, v.FreezesAt n → (f v).FreezesAt n) : (u.when c f).FreezesAt n :=
  ite (hf u h) h

theorem sent (h : u.FreezesAt n) (hs : u.Sent v) : v.FreezesAt n := by
  obtain ⟨_, _, _, _, _, _, _, _, rfl⟩ := hs
  exact h

theorem broadcast (h : u.FreezesAt n) (m : Msg) : (u.broadcast m).FreezesAt n := h.sent ((State.Sent.refl u).broadcast m)

theorem count (h : u.FreezesAt n) (i k : Nat) (x : Who3) : (u.count i k x).FreezesAt n := h.sent ((State.Sent.refl u).count i k x)

theorem wake (h : u.FreezesAt n) : u.wake.FreezesAt n := by
  have hgap : u.endGap.FreezesAt n := by
    unfold State.endGap
    split
    · exact h
    · exact h.keep rfl rfl
  unfold State.wake
  dsimp only
  split
  · exact ite (hgap.keep rfl rfl) (hgap.keep rfl rfl)
  · exact ite hgap (hgap.keep rfl rfl)

theorem writeMem (h : u.FreezesAt n) (o : Issuer) (a : Word) (d : List Word) : (u.writeMem o a d).FreezesAt n := by
  have hwake : u.memWake.FreezesAt n := h.when fun _ => wake
  exact ite h (when (hwake.keep rfl rfl) fun _ hv => hv.count _ _ _)

theorem updLine (h : u.FreezesAt n) (f : Nat) : (u.updLine f).FreezesAt n :=
  ite (ite (h.keep rfl rfl) (h.keep rfl rfl)) (when (h.keep rfl rfl) fun _ hv => hv.keep rfl rfl)

theorem ibiAfter (h : u.FreezesAt n) (b : Bool) : (u.ibiAfter b).FreezesAt n := ite (h.keep rfl rfl) h

theorem setArrBit (h : u.FreezesAt n) (r : Reg) (k : Nat) (b : Bool) : (u.setArrBit r k b).FreezesAt n := h.keep rfl rfl

theorem raiseCopies (h : u.FreezesAt n) (k : Nat) : (u.raiseCopies k).2.FreezesAt n := by
  have hview {c : Bool} {i : State → Irq} : (u.when c fun v => { v with irq := i v }).FreezesAt n := h.when fun _ hv => hv.keep rfl rfl
  unfold State.raiseCopies
  dsimp only
  split
  · exact ((((hview.setArrBit _ _ _).setArrBit _ _ _).setArrBit _ _ _).ibiAfter _).updLine _
  · exact (((hview.setArrBit _ _ _).setArrBit _ _ _).setArrBit _ _ _).ibiAfter _

theorem raisePlain (h : u.FreezesAt n) (k : Nat) : (u.raisePlain k).FreezesAt n := (h.when fun _ => wake).raiseCopies k

theorem noteRaise (h : u.FreezesAt n) (k : Nat) : (u.noteRaise k).FreezesAt n := ite h (h.keep rfl rfl)

theorem raise (h : u.FreezesAt n) (k : Nat) : (u.raise k).FreezesAt n := by
  have hnote : (u.noteRaise k).FreezesAt n := h.noteRaise k
  have hcopies : (((u.noteRaise k).when ((u.noteRaise k).enabledAnywhere k) State.wake).raiseCopies k).2.FreezesAt n :=
    (hnote.when fun _ => wake).raiseCopies k
  refine ite hnote (ite (hnote.raisePlain k) (ite (raisePlain (noteRaise ?_ 7) 7) hcopies.irq))
  split
  · exact ((hcopies.irq.setArrBit _ _ _).setB _ _ _ _ _).updLine _
  · exact hcopies.irq.setArrBit _ _ _

theorem ringPut (h : u.FreezesAt n) (r : Nat) (d : List Word) : (u.ringPut r d).FreezesAt n :=
  when ((h.writeMem _ _ _).keep rfl rfl) fun _ hv => hv.raise 18

theorem ringWrite (h : u.FreezesAt n) (r : Nat) (d : List Word) : (u.ringWrite r d).FreezesAt n := by
  unfold State.ringWrite
  extract_lets full cap loss w
  have hcleared : (u.setReg .TRC_RING_STAT r 0 0).FreezesAt n := h.keep rfl rfl
  have hw : w.FreezesAt n := ite ((hcleared.ringPut _ _).raise 18) h
  exact ite (hw.keep rfl rfl) (ite (hw.keep rfl rfl) (hw.ringPut _ _))

theorem devRecordAt (h : u.FreezesAt n) (t ty d : Nat) : (u.devRecordAt t ty d).FreezesAt n := ite (h.ringWrite _ _) h

/-- What a stop or a freeze still does once its registers show it. -/
theorem announce (h : u.FreezesAt n) (b : Bool) (m : Msg) (k : Nat) : ((u.when b fun v => v.broadcast m).raise k).FreezesAt n :=
  (h.when fun _ hv => hv.broadcast m).raise k

theorem globalStopCore (h : u.FreezesAt n) (c : Nat) : (u.globalStopCore c).FreezesAt n := by
  have htold (l : List Emit) (b : Bool) : ((u.emits l).when b fun v => v.endLoad 10 0).FreezesAt n :=
    when (u := u.emits l) (h.keep rfl rfl) fun _ hv => hv.keep rfl rfl
  have hstopped (l : List Emit) (b : Bool) (w : Word) : ((((((u.emits l).when b fun v => v.endLoad 10 0)).setB .OBS_STOP_STAT 0 0 0 true).setF
      .OBS_STOP_STAT 0 0 3 4 c).setReg .OBS_STOP_TIME 0 0 w).FreezesAt n := (htold l b).keep rfl rfl
  unfold State.globalStopCore
  dsimp only
  exact ite h (ite (h.keep rfl rfl) ((hstopped _ _ _).announce _ _ _))

theorem softStopCore (h : u.FreezesAt n) (c : Nat) : (u.softStopCore c).FreezesAt n := by
  have hstopped (b : Bool) (w : Word) : ((((u.setB .OBS_STOP_STAT 0 0 1 true).setF .OBS_STOP_STAT 0 0 3 4 c).setB .OBS_STOP_STAT 0 0 2 b).setReg
      .OBS_STOP_TIME 0 0 w).FreezesAt n := h.keep rfl rfl
  unfold State.softStopCore
  dsimp only
  exact ite h ((hstopped _ _).announce _ _ _)

theorem freezeCore (h : u.FreezesAt n) (c : Nat) : (u.freezeCore c).FreezesAt n := by
  unfold State.freezeCore
  split
  · exact h.setF _ _ _ _ _ _
  · split
    · split
      · exact h
      · exact h.keep rfl rfl
    · refine raise (when ?_ fun _ hv => hv.setB _ _ _ _ _) 19
      exact ⟨h.1, .inr (congrArg some h.1)⟩

theorem freezeRecord (h : u.FreezesAt n) : u.freezeRecord.FreezesAt n := by
  have hnone : FreezesAt { u with obs := { u.obs with freezeRec := none } } n := ⟨h.1, .inl rfl⟩
  unfold State.freezeRecord
  split
  · exact ite h (hnone.devRecordAt _ _ _)
  · exact h

theorem triggerAct (h : u.FreezesAt n) : u.triggerAct.FreezesAt n := by
  have hdisarmed : (u.setB .TRC_TRIG 0 0 13 false).FreezesAt n := h.keep rfl rfl
  have hstopped {w : State} (hw : w.FreezesAt n) {b c : Bool} {m : Msg} {k : Nat} :
      ((w.when b fun v => v.broadcast m).when c fun v => v.devRecord 0x15 k).FreezesAt n :=
    (hw.when fun _ hv => hv.broadcast m).when fun _ hv => hv.devRecordAt _ _ _
  exact ite (ite (hstopped (hdisarmed.softStopCore 3)) hdisarmed)
    (ite (ite (hstopped (hdisarmed.globalStopCore 3)) hdisarmed) ((hdisarmed.when fun _ hv => hv.broadcast _).freezeRecord.freezeCore 4))

theorem trigger (h : u.FreezesAt n) (ty layer op : Nat) : (u.trigger ty layer op).FreezesAt n := ite h.triggerAct h

theorem traceDevAt (h : u.FreezesAt n) (t ty d : Nat) : (u.traceDevAt t ty d).FreezesAt n :=
  ite (((h.trigger ty 0 0).when fun _ hv => hv.trigger _ _ _).devRecordAt _ _ _) h

end State.FreezesAt

/-- A freeze that is still to be recorded after the polling, and was not taken at its moment, was not polled: all is as it was. -/
theorem State.freezePoll_stale {u v : State} {a : Nat} (h : u.freezePoll = v) (hrec : v.obs.freezeRec = some a) (ha : v.now ≠ a) : u = v := by
  unfold State.freezePoll at h
  split at h
  next t ht =>
    split at h
    · exact h
    · exfalso
      have hpolled : State.FreezesAt { u with obs := { u.obs with freezeRec := none } } u.now := ⟨rfl, .inl rfl⟩
      obtain ⟨hnow, hnone | hsome⟩ := hpolled.traceDevAt t 0x14 (u.rf .OBS_FREEZE_STAT 0 0 0 20)
      · rw [h, hrec] at hnone
        exact absurd hnone (by simp)
      · rw [h, hrec] at hsome
        rw [h] at hnow
        exact ha (hnow.trans (Option.some.inj hsome).symm)
  · exact h

end Sys2Proof.Machine
end

section
/-! SUPPORT. Fabric time (R371, R373 to R375, R405): an epoch that wakes a block on its way to a rung whose entry counter is TML_EPOCH_CFG. -/

namespace Sys2Proof.Machine

open Sys2Proof.Tests

variable {u v : State}

theorem State.rekeyTenant_tml (f : Nat) : (u.rekeyTenant f).tml = u.tml := by
  unfold State.rekeyTenant
  split <;> rfl

theorem State.rekeyLost_tml (m : Nat) : (u.rekeyLost m).tml = u.tml := by
  unfold State.rekeyLost
  split
  · rfl
  · exact State.foldl_inb fun v n => State.foldl_inb fun w f => State.rekeyTenant_tml f

/-- A lead in a soft and a global stop that sequences epochs of 100 µs, the next at time 0, where a cyclic table pends that takes over with
it. It enters a rung whose entry counter is TML_EPOCH_CFG: the wake that the table brings is counted in the high half of its period. -/
def strayEpoch : State :=
  { ((((fabric true).setReg .TML_EPOCH_CFG 0 0 (mkWord [(0, 40, 100000), (41, 1, 1)])).setReg .TML_EPOCH 0 0 0).setB .OBS_STOP_STAT 0 0 0 true).setB
      .OBS_STOP_STAT 0 0 1 true with
      cyc := { State.reset.cyc with pending := some { table0 with anchor := 2 } }
      gov := { State.reset.gov with entering := some 32828 }
      obs := { State.reset.obs with frozenAt := some 0, freezeRec := some 1 } }

set_option maxRecDepth 4000 in
/-- Refutes O42, by its clause for the lead's epochs: the period is that of TML_EPOCH_CFG once the epoch has started, and the start may
change it. -/
theorem not_fabricTimeIsKept : ¬ Obligations.FabricTimeIsKept := by
  rintro ⟨-, -, -, -, -, -, -, -, -, -, -, -, htick, -⟩
  obtain ⟨v, hv, -, hperiod⟩ := (htick strayEpoch 0 strayEpoch ⟨by decide, rfl⟩ (by decide) (by decide) (by decide)).1 (by decide) (by decide)
  have hleft : exec (.epochTick 0) strayEpoch = .next (strayEpoch.epochTick.rekeyLost strayEpoch.liveMask).polls := by rfl
  injection hv.symm.trans hleft with hpolls
  have hstale := State.polls_stale hpolls (by decide) (by decide)
  have hsame := State.freezePoll_stale (a := 1) hstale.symm (by decide) (by decide)
  have hleft' : (strayEpoch.epochTick.rekeyLost strayEpoch.liveMask).polls.tml.epochPeriod = 4295067296 := by rfl
  rw [← hsame, State.rekeyLost_tml, hperiod] at hleft'
  exact absurd hleft' (by decide)

end Sys2Proof.Machine
end

section
/-! SUPPORT. The rungs of the ladder (R225, R226, R228, R229, R232): a rung whose entry counter is a counter of what the entry gives up. -/

namespace Sys2Proof.Machine

open Sys2Proof.Tests

/-- A soft-stopped block at a rung whose residency counter is ERR_STAT, so that 4 ns halt it, on its way to one whose entry counter is the
count of discarded preloads, with a task that gathers. -/
def strayEntry : State :=
  { live.setB .OBS_STOP_STAT 0 0 1 true with
      gov := { State.reset.gov with rung := 90048, entering := some 69838 }
      obs := { State.reset.obs with frozenAt := some 4, freezeRec := some 0 }
      tasks := [(0, { task0 .cores 1 with phase := .gathering })] }

set_option maxRecDepth 4000 in
/-- Refutes O31, by its clause for an entry that completes: the maquettes that it loses are counted, and nothing bounds the rung, whose entry
counter may be that count. -/
theorem not_ladderRungsComeAndGo : ¬ Obligations.LadderRungsComeAndGo := by
  rintro ⟨-, -, hentry, -⟩
  obtain ⟨w, hw, -, -, hcount, -⟩ := hentry strayEntry 4 (strayEntry.at 4) 69838 ((strayEntry.at 4).rungRec 69838 false false)
    ⟨by decide, rfl⟩ (by rfl) (by decide) rfl (by rfl)
  have hleft : exec (.rungEntryComplete 4) strayEntry = .next (strayEntry.at 4).rungEntered.polls := by rfl
  injection hw.symm.trans hleft with hpolls
  have hstale := State.polls_stale hpolls (by rfl) (by decide)
  have hsame := State.freezePoll_stale (a := 0) hstale.symm (by rfl) (by decide)
  have hleft' : (strayEntry.at 4).rungEntered.polls.rf .GOV_RUNG_ENT 69838 0 0 32 = 2 := by rfl
  have htold : ((strayEntry.at 4).rungRec 69838 false false).rf .GOV_RUNG_ENT 69838 0 0 32 = 0 := by rfl
  rw [← hsame, hcount, htold] at hleft'
  exact absurd hleft' (by decide)

end Sys2Proof.Machine
end

section
/-! SUPPORT. Claims, the map, unquenching and the masks of MSI-X (R386, R389, R390, R396). -/

namespace Sys2Proof.Machine

variable {s u v : State} {t n i : Nat} {m : MsixMask}

/-- A register that is written is the one entry of the table that changes. -/
theorem filter_set {α : Type} {p : Nat × α → Bool} {k : Nat} (hp : ∀ x, p (k, x) = false) (l : Tab α) (a : α) :
    (Tab.set l k a).filter p = l.filter p := by
  induction l with
  | nil => simp [Tab.set, hp]
  | cons e l ih =>
    obtain ⟨j, b⟩ := e
    unfold Tab.set
    split
    next hj =>
      subst hj
      simp [hp]
    next =>
      split
      · simp [hp]
      · simp [List.filter_cons, ih]

/-- The views of a source follow the map alone. -/
theorem State.viewOf_setReg {r : Reg} {a b : Nat} (hk : Reg.key .IRQ_MAP 0 0 + 0x4000 ≤ r.key a b) (w : Word) (i : Nat) :
    (u.setReg r a b w).viewOf i = u.viewOf i := by
  have hstored : (u.setReg r a b w).storedViews i = u.storedViews i := by
    refine congrArg (List.map _) (filter_set (fun x => ?_) u.regs w)
    have hout : decide (r.key a b < Reg.key .IRQ_MAP 0 0 + 0x4000) = false := by simpa using hk
    simp only [hout, Bool.and_false, Bool.false_and]
  have hreset : (i < 30 && (Tab.get? (u.setReg r a b w).regs (Reg.key .IRQ_MAP 0 i)).isNone) =
      (i < 30 && (Tab.get? u.regs (Reg.key .IRQ_MAP 0 i)).isNone) := by
    by_cases hi : i < 30
    · have hne : Reg.key .IRQ_MAP 0 i ≠ r.key a b := by
        have hkey : Reg.key .IRQ_MAP 0 i = Reg.key .IRQ_MAP 0 0 + 4 * i := by
          show 0xC0000 + 256 * 0 + 4 * i = _
          rfl
        omega
      rw [State.setReg, Tab.get?_set_ne _ _ hne]
    · simp [hi]
  unfold State.viewOf State.viewsOf
  rw [hstored, hreset]

theorem key_irqMap (f k : Nat) : Reg.key .IRQ_MAP f k = 0xC0000 + 256 * f + 4 * k := rfl

theorem key_irqQuench (k : Nat) : Reg.key .IRQ_QUENCH k 0 = 0xC4040 + 8 * k := rfl

theorem State.unquench_idle (h : u.quenched i = false) : u.unquench i = u := if_pos (by simp [h])

theorem State.quenched_setArrBit : (u.setArrBit .IRQ_QUENCH i false).quenched i = false :=
  State.rb_setB_same _ _ _ _ _ (Nat.mod_lt _ (by decide))

/-- A write of IRQ_QUENCH with one bit set unquenches that bit's source. -/
theorem State.writeQuench_one (i : Nat) : u.writeQuench (i / 64) (1#64 <<< (i % 64)) = u.unquench i := by
  have hi : i % 64 < 64 := Nat.mod_lt _ (by decide)
  have hbit (b : Nat) (hb : b < 64) : bitOf (1#64 <<< (i % 64)) b = decide (b = i % 64) := by
    by_cases heq : b = i % 64
    · simp [bitOf, heq, hi]
    · by_cases hlt : b < i % 64
      · simp [bitOf, hlt, heq]
      · have hpos : b - i % 64 ≠ 0 := by omega
        simp [bitOf, hpos, heq]
  have hfold (l : List Nat) (hl : ∀ b ∈ l, b < 64) (hd : l.Nodup) (w : State) :
      l.foldl (fun s b => if bitOf (1#64 <<< (i % 64)) b then s.unquench (64 * (i / 64) + b) else s) w =
        if i % 64 ∈ l then w.unquench i else w := by
    induction l generalizing w with
    | nil => simp
    | cons b l ih =>
      obtain ⟨hb, hrest⟩ := List.nodup_cons.mp hd
      rw [List.foldl_cons, ih (fun c hc => hl c (List.mem_cons_of_mem _ hc)) hrest, hbit b (hl b List.mem_cons_self)]
      by_cases heq : b = i % 64
      · subst heq
        simp [hb, Nat.div_add_mod]
      · simp [heq, Ne.symm heq]
  have hall := hfold (List.range 64) (fun b hb => List.mem_range.mp hb) List.nodup_range u
  rwa [if_pos (List.mem_range.mpr hi)] at hall

/-- An unquenched source counts anew, and shows where no view maps it in its own bit alone. -/
theorem State.unquench_unmapped (hq : u.quenched i = true) (hview : u.viewOf i = none) (hjust : u.justRaised i = false) :
    u.unquench i = { u.setArrBit .IRQ_QUENCH i false with irq := { u.irq with storm := Tab.erase u.irq.storm i } } := by
  have hnone : State.viewOf { u.setArrBit .IRQ_QUENCH i false with irq := { u.irq with storm := Tab.erase u.irq.storm i } } i = none := by
    refine Eq.trans (State.viewOf_setReg (u := u) (r := .IRQ_QUENCH) (a := i / 64) (b := 0) ?_ _ i) hview
    rw [key_irqMap, key_irqQuench]
    omega
  unfold State.unquench
  rw [if_neg (by simp [hq])]
  extract_lets cleared irq forgotten shown
  have hshown : shown = forgotten := by
    unfold shown
    rw [show forgotten.viewOf i = none from hnone]
  rw [hshown]
  exact if_neg (by rw [show forgotten.justRaised i = false from hjust]; decide)

/-! The masks of MSI-X. -/

theorem getLsbD_or_bit {x : BitVec 64} (hn : n < 64) : (x ||| 1#64 <<< n).getLsbD n = true := by simp [hn]

theorem getLsbD_and_not_bit {x : BitVec 64} (hn : n < 64) : (x &&& ~~~(1#64 <<< n)).getLsbD n = false := by simp [hn]

/-- A mask that is written shows in the masks of its function alone. -/
theorem State.setMsixMask_masks (hn : n < 64) :
    (u.setMsixMask n m).irq.msixFnMask.getLsbD n = (if m.fnMask then m.masked else u.irq.msixFnMask.getLsbD n)
      ∧ (u.setMsixMask n m).irq.msixMask.getLsbD n = (if m.fnMask then u.irq.msixMask.getLsbD n else m.masked) := by
  unfold State.setMsixMask
  cases m.fnMask <;> cases m.masked <;> simp [hn]

theorem State.setMsixMask_rest : (u.setMsixMask n m).regs = u.regs ∧ (u.setMsixMask n m).out = u.out
    ∧ (u.setMsixMask n m).irq.msixPend = u.irq.msixPend ∧ (u.setMsixMask n m).mayMessage n = u.mayMessage n
    ∧ (if m.fnMask then (u.setMsixMask n m).irq.msixMask = u.irq.msixMask else (u.setMsixMask n m).irq.msixFnMask = u.irq.msixFnMask) := by
  unfold State.setMsixMask
  cases m.fnMask <;> exact ⟨rfl, rfl, rfl, rfl, rfl⟩

theorem State.setMsixPend_clear (hn : n < 64) : (u.setMsixPend n false).irq.msixPend.getLsbD n = false := getLsbD_and_not_bit hn

/-- Settles O43. -/
theorem interruptsAreClaimedAndMasked : Obligations.InterruptsAreClaimedAndMasked := by
  refine ⟨?_, ?_, ?_, ?_, ?_, ?_, ?_, ?_, ?_, ?_, ?_, ?_, ?_, ?_⟩
  · intro s t n u i h hi
    refine leaves_regRd (fun s => (s.claimVal n, s.claim n)) h rfl ?_
    simp only [State.claimVal, State.claim, hi]
  · intro s t n u h hi
    refine leaves_regRd (fun s => (s.claimVal n, s.claim n)) h rfl ?_
    simp only [State.claimVal, State.claim, hi]
  · intro s t n u h ha
    exact leaves_regWr (·.eoi n) h rfl (if_pos ha)
  · intro s t n u h ha
    exact leaves_regWr (·.eoi n) h rfl (if_neg (by simp [ha]))
  · intro s t n m u h
    exact leaves_regWr (·.writeLineMask n m) h rfl rfl
  · intro s t who n v w u h hn hsrc hvalid
    exact leaves_regWr (·.writeMap n v w) h rfl (if_pos (by simp [hvalid, hsrc, hn]))
  · intro s t who n v w u x h hvalid hnone hx
    have hnew : mkWord [(0, 9, fld w 0 9), (9, 1, b2n (bitOf w 9))] = x := by rw [hx, hvalid]; rfl
    have hnone' (g : Irq) : State.mapped { u with irq := g } n v = none := hnone
    refine ⟨fun heq => leaves_regWr (·.writeMap n v w) h rfl ?_, fun hne => leaves_regWr (·.writeMap n v w) h rfl ?_⟩
    · unfold State.writeMap
      dsimp only
      rw [if_neg (by simp [hvalid]), hnew, if_pos heq]
    · unfold State.writeMap
      dsimp only
      rw [if_neg (by simp [hvalid]), hnew, if_neg hne, hnone']
  · intro s t who i u h hnone
    refine leaves_regWr (·.writeQuench (i / 64) (1#64 <<< (i % 64))) h rfl ?_
    rw [State.writeQuench_one, State.unquench_idle (hnone i)]
  · intro s t who i u h _ hq hview hjust
    refine (leaves_regWr (·.writeQuench (i / 64) (1#64 <<< (i % 64))) h rfl ((State.writeQuench_one i).trans
      (State.unquench_unmapped hq hview hjust))).some ⟨State.quenched_setArrBit, Tab.get?_erase_same _ _, rfl⟩
  · intro s t u h
    exact leaves_dev State.stormWindow h rfl rfl
  · intro s t n m u h hn hclear hpend hfn hvec
    obtain ⟨hmaskFn, hmaskVec⟩ := State.setMsixMask_masks (u := u) (m := m) hn
    obtain ⟨hregs, hout, hpend', hmay, -⟩ := State.setMsixMask_rest (u := u) (n := n) (m := m)
    have hopen : (u.setMsixMask n m).msixMasked n = false := by
      rw [State.msixMasked, hmaskFn, hmaskVec]
      cases hf : m.fnMask
      · simp [hclear, hvec hf]
      · simp [hclear, hfn hf]
    have hleft : u.writeMsix n m =
        ((u.setMsixMask n m).setMsixPend n false).when ((u.setMsixMask n m).mayMessage n) (fun s => s.emit (.irq n)) :=
      if_pos (by rw [hpend', hpend, hopen]; rfl)
    refine (leaves_dev (·.writeMsix n m) h rfl hleft).some ?_
    rw [hmay]
    cases u.mayMessage n
    · exact ⟨hout, State.setMsixPend_clear hn, hopen, hregs⟩
    · exact ⟨congrArg (· ++ [Emit.irq n]) hout, State.setMsixPend_clear hn, hopen, hregs⟩
  · intro s t n m u h hn hclear hpend hfn hvec
    obtain ⟨hmaskFn, hmaskVec⟩ := State.setMsixMask_masks (u := u) (m := m) hn
    obtain ⟨hregs, hout, hpend', -⟩ := State.setMsixMask_rest (u := u) (n := n) (m := m)
    have hheld : (u.setMsixMask n m).msixMasked n = true := by
      rw [State.msixMasked, hmaskFn, hmaskVec]
      cases hf : m.fnMask
      · simp [hvec hf]
      · simp [hfn hf]
    exact (leaves_dev (·.writeMsix n m) h rfl (if_neg (by simp [hheld]))).some ⟨hout, hpend', hregs⟩
  · intro s t n m u h hn hmask
    obtain ⟨hmaskFn, hmaskVec⟩ := State.setMsixMask_masks (u := u) (m := m) hn
    obtain ⟨hregs, hout, hpend', -, hother⟩ := State.setMsixMask_rest (u := u) (n := n) (m := m)
    have hshows : (if m.fnMask then (u.setMsixMask n m).irq.msixFnMask else (u.setMsixMask n m).irq.msixMask).getLsbD n = true := by
      cases hf : m.fnMask
      · simpa [hf, hmask] using hmaskVec
      · simpa [hf, hmask] using hmaskFn
    have hheld : (u.setMsixMask n m).msixMasked n = true := by
      rw [State.msixMasked, hmaskFn, hmaskVec]
      cases m.fnMask <;> simp [hmask]
    exact (leaves_dev (·.writeMsix n m) h rfl (if_neg (by simp [hheld]))).some ⟨hout, hheld, hpend', hshows, hother, hregs⟩
  · intro u n hn hwas hlevel hpend
    have hline : u.updLine n = (u.setB .IRQ_STAT n 0 0 false).setMsixPend n false := by
      simp [State.updLine, hlevel, State.when, hpend]
    rw [hline]
    exact ⟨State.setMsixPend_clear hn, rfl⟩

end Sys2Proof.Machine
end

section
/-! SUPPORT. Freezes, counters and hang graphs (R398 to R427). -/

namespace Sys2Proof.Machine

variable {u : State}

/-- An entry that no key of a table's part has is not in that part. -/
theorem get?_filter_none {α : Type} {p : Nat × α → Bool} {k : Nat} (hp : ∀ x, p (k, x) = false) (l : Tab α) :
    Tab.get? (l.filter p) k = none := by
  induction l with
  | nil => rfl
  | cons e l ih =>
    obtain ⟨j, b⟩ := e
    by_cases hj : j = k
    · subst hj
      rw [List.filter_cons, hp b, if_neg (by decide), ih]
    · rw [List.filter_cons]
      split
      · rw [Tab.get?, if_neg hj, ih]
      · exact ih

theorem key_obsPcfg (j : Nat) : Reg.key .OBS_PCFG j 0 = 0xE4000 + 8 * j := rfl

theorem State.clearCounters_reg {i : Nat} (hi : i < 0x400) : u.clearCounters.reg .OBS_CNT i = resetWord .OBS_CNT i 0 := by
  have hgone : Tab.get? u.clearCounters.regs (Reg.key .OBS_CNT i 0) = none := by
    refine get?_filter_none (fun _ => ?_) u.regs
    have hin : Reg.key .OBS_CNT 0 0 ≤ Reg.key .OBS_CNT i 0 ∧ Reg.key .OBS_CNT i 0 < Reg.key .OBS_CNT 0 0 + 0x2000 := by
      rw [key_obsCnt, key_obsCnt]
      omega
    simp [hin]
  rw [State.reg, hgone]
  rfl

theorem State.freezeArm_ahead {v : Word} (hv : v ≠ BitVec.allOnes 64) (hfab : u.rb .OBS_FREEZE_CTL 0 0 4 = false) (hnow : u.now < v.toNat) :
    u.freezeArm v = (u.setReg .OBS_FREEZE_AT 0 0 v).setB .OBS_FREEZE_STAT 0 0 20 true := by
  have hctl : ((u.setReg .OBS_FREEZE_AT 0 0 v).setB .OBS_FREEZE_STAT 0 0 20 true).rb .OBS_FREEZE_CTL 0 0 4 = false := by
    rw [State.rb_setB_other (by decide), State.rb_setReg_other (by decide), hfab]
  have hat : ((u.setReg .OBS_FREEZE_AT 0 0 v).setB .OBS_FREEZE_STAT 0 0 20 true).reg .OBS_FREEZE_AT = v := by
    rw [State.setB, State.setF, State.reg_setReg_ne _ _ (by decide), State.reg_setReg_same]
  have hon : decide (v ≠ BitVec.allOnes 64) = true := decide_eq_true hv
  unfold State.freezeArm
  extract_lets on stored told
  have hstored : stored = (u.setReg .OBS_FREEZE_AT 0 0 v).setB .OBS_FREEZE_STAT 0 0 20 true := by
    unfold stored on
    rw [hon]
  have htold : told = stored := if_neg (by simp [hstored, hctl])
  rw [htold, hstored]
  exact if_neg (by simp [hat, hnow])

theorem State.snapshot_idle (hbusy : u.rb .OBS_HANG_STAT 0 0 1 = false) (hheld : u.rb .OBS_HANG_STAT 0 0 0 = false) :
    u.snapshot [] = { u.setB .OBS_HANG_STAT 0 0 1 true with
      obs := { u.obs with graph := some (u.buildGraph []), graphAt := u.ref } } := by
  unfold State.snapshot
  split
  next hnil => cases hnil
  next => exact if_neg (by simp [hbusy, hheld])

theorem State.snapshot_held (hheld : u.rb .OBS_HANG_STAT 0 0 0 = true) : u.snapshot [] = u.bump .OBS_HANG_STAT 0 0 16 16 1 := by
  unfold State.snapshot
  split
  next hnil => cases hnil
  next => exact if_pos (by simp [hheld])

/-- The snapshot is taken out of its buffer, and the register says whether it was cut. -/
def State.graphTaken (u : State) (g : List Word × Nat) : State :=
  (({ u with obs := { u.obs with graph := none } }).setB .OBS_HANG_STAT 0 0 1 false).setB .OBS_HANG_STAT 0 0 2 (bitOf (nth g.1 0 0) 52)

theorem State.graphBuilt_fault {g : List Word × Nat} (hg : u.obs.graph = some g) :
    u.graphBuilt true = (u.graphTaken g).setB .OBS_HANG_STAT 0 0 3 true := by
  unfold State.graphBuilt
  rw [hg]
  exact if_pos rfl

theorem State.graphBuilt_written {g : List Word × Nat} (hg : u.obs.graph = some g) :
    u.graphBuilt false = (((((u.graphTaken g).writeMem ((u.graphTaken g).forFn 0) ((u.graphTaken g).reg .OBS_HANG_DEST) g.1).setF
      .OBS_HANG_STAT 0 0 32 16 g.2).setB .OBS_HANG_STAT 0 0 0 true).raise 8) := by
  unfold State.graphBuilt
  rw [hg]
  exact if_neg (by decide)

/-- Settles O44. -/
theorem countersFreezeAndGraphsAreBuilt : Obligations.CountersFreezeAndGraphsAreBuilt := by
  refine ⟨?_, ?_, ?_, ?_, ?_, ?_, ?_, ?_, ?_, ?_, ?_, ?_, ?_, ?_, ?_, ?_⟩
  · intro s t who u h
    exact leaves_regWr (·.freeze 1) h rfl rfl
  · intro s t who u w h hw
    have hcore {v : State} (hv : w.freezeCore 1 = v) : Leaves (.freezeGo t who) s v :=
      leaves_regWr (·.freeze 1) h rfl (by rw [State.freeze, ← hw, hv])
    exact ⟨fun hat => hcore (if_pos hat), fun hat hlock hmiss => hcore ((if_neg hat).trans ((if_pos hlock).trans (if_neg hmiss))),
      fun hat hlock hmiss => hcore ((if_neg hat).trans ((if_pos hlock).trans (if_pos hmiss)))⟩
  · intro u n hrec hat
    unfold State.freezePoll
    rw [hrec]
    exact if_neg hat
  · intro u h
    unfold State.freezePoll
    split
    next n hrec =>
      refine if_pos (h.resolve_left ?_)
      simp [hrec]
    next => rfl
  · intro s t who u h
    exact (leaves_regWr State.clearCounters h rfl rfl).some ⟨fun i hi => State.clearCounters_reg hi, rfl, rfl⟩
  · intro s t who u h
    exact leaves_regWr (·.setB .OBS_FREEZE_CTL 0 0 2 false) h rfl rfl
  · intro s t who v u h hv hfab hnow
    exact leaves_regWr (·.freezeArm v) h rfl (State.freezeArm_ahead hv hfab hnow)
  · intro s t u h harmed hdue
    exact leaves_dev State.freezeDue h rfl (if_pos (by simp [harmed, hdue]))
  · intro s t u h harmed
    exact leaves_dev State.freezeDue h rfl (if_neg (by simp [harmed]))
  · intro s t u h
    exact leaves_dev (fun s => { s with obs := { s.obs with winUsed := 0 } }) h rfl rfl
  · intro s t who u h hbusy hheld
    exact (leaves_regWr (·.snapshot []) h rfl (State.snapshot_idle hbusy hheld)).some ⟨State.rb_setB_same _ _ _ _ _ (by decide), rfl, rfl⟩
  · intro s t who u h hheld
    exact leaves_regWr (·.snapshot []) h rfl (State.snapshot_held hheld)
  · intro s t u h hnone b
    refine leaves_act (·.graphBuilt b) h rfl ?_
    unfold State.graphBuilt
    rw [hnone]
  · intro s t u g h hg
    refine ⟨(leaves_act (·.graphBuilt true) h rfl (State.graphBuilt_fault hg)).some ⟨State.rb_setB_same _ _ _ _ _ (by decide), ?_, rfl, rfl⟩,
      leaves_act (·.graphBuilt false) h rfl (State.graphBuilt_written hg)⟩
    rw [State.rb_setB_ne _ _ _ _ _ (by decide) (by decide), State.graphTaken, State.rb_setB_ne _ _ _ _ _ (by decide) (by decide), State.rb_setB_same _ _ _ _ _ (by decide)]
  · intro s t who u h
    exact leaves_regWr (·.setB .OBS_HANG_STAT 0 0 0 false) h rfl rfl
  · intro s t who j v u h hj
    refine (leaves_regWr (·.writePcfg j v) h rfl rfl).some ⟨?_, State.reg_setReg_same _ _ _ _ _, rfl⟩
    have hne : Reg.key .OBS_PCFG j 0 ≠ Reg.key .OBS_CNT (512 + j) 0 := by
      rw [key_obsCnt, key_obsPcfg]
      omega
    rw [State.writePcfg, State.reg_setReg_ne _ _ hne, State.reg_setReg_same]

end Sys2Proof.Machine
end

section
/-! SUPPORT. Scan-out (R422): a write that wakes the block counts the rung it was entering, and nothing bounds the rung, whose entry counter
may be the size that the scan-out shows. -/

namespace Sys2Proof.Machine

open Sys2Proof.Tests

/-- A block in a global stop at LL3, on its way to a rung whose entry counter is the upper half of OBS_STOP_STAT, that is to scan out 8 bytes. -/
def strayScan : State :=
  { (((((live.setB .OBS_STOP_CFG 0 0 0 true).setB .OBS_STOP_CFG 0 0 1 true).setB .OBS_STOP_STAT 0 0 0 true).setB .OBS_STOP_STAT 0 0 1 true).setF
      .OBS_SCAN_SIZE 0 0 0 40 8).setReg .OBS_SCAN_BASE 0 0 (1#64 <<< 63) with
      gov := { State.reset.gov with rung := 3, entering := some 67002 }
      obs := { State.reset.obs with frozenAt := some 0, freezeRec := some 1 } }

/-- The size of an image of `n` bytes shows. -/
def strayShown (n : Nat) : State := { strayScan.setF .OBS_STOP_STAT 0 0 32 32 n with fresh := 1 }

/-- The write of the image's first qword has woken the block. -/
def strayWoken (n : Nat) : State :=
  (({ strayShown n with gov := { strayScan.gov with entering := none, exiting := true, leaving := (67002, true) } }).setF .OBS_STOP_STAT 0 0 32 32
    ((strayShown n).rf .OBS_STOP_STAT 0 0 32 32 + 1)).emit (.wake 67002)

theorem strayWoken_rb {n c : Nat} (hc : c < 7) : (strayWoken n).rb .OBS_STOP_STAT 0 0 c = strayScan.rb .OBS_STOP_STAT 0 0 c := by
  have hlow : c < 32 ∨ 32 + 32 ≤ c := .inl (by omega)
  have hwoken := State.rb_setF_ne (strayShown n) .OBS_STOP_STAT 0 0 ((strayShown n).rf .OBS_STOP_STAT 0 0 32 32 + 1) (by decide) hlow
  have hshown := State.rb_setF_ne strayScan .OBS_STOP_STAT 0 0 n (by decide) hlow
  exact hwoken.trans hshown

theorem strayWoken_rf {n : Nat} : (strayWoken n).rf .OBS_STOP_STAT 0 0 32 32 = (n % 2 ^ 32 + 1) % 2 ^ 32 := by
  have hwoken := State.rf_setF_same (strayShown n) .OBS_STOP_STAT 0 0 ((strayShown n).rf .OBS_STOP_STAT 0 0 32 32 + 1)
    (show 32 + 32 ≤ 64 by decide)
  have hshown : (strayShown n).rf .OBS_STOP_STAT 0 0 32 32 = n % 2 ^ 32 := State.rf_setF_same strayScan .OBS_STOP_STAT 0 0 n (by decide)
  exact hwoken.trans (by rw [hshown])

/-- The scan-out is done, cut to its first qword. -/
def strayDone (n : Nat) (e : Emit) : State := (((strayWoken n).emit e).setB .OBS_STOP_STAT 0 0 7 true).setB .OBS_STOP_STAT 0 0 8 (8 < n)

theorem strayDone_rb {n c : Nat} {e : Emit} (hc : c < 7) : (strayDone n e).rb .OBS_STOP_STAT 0 0 c = strayScan.rb .OBS_STOP_STAT 0 0 c := by
  have h7 : c ≠ 7 := by omega
  have h8 : c ≠ 8 := by omega
  rw [strayDone, State.rb_setB_ne _ _ _ _ _ (by decide) h8, State.rb_setB_ne _ _ _ _ _ (by decide) h7,
    State.rb_congr (State.emit_regs _ e), strayWoken_rb hc]

theorem strayDone_rf {n : Nat} {e : Emit} : (strayDone n e).rf .OBS_STOP_STAT 0 0 32 32 = (n % 2 ^ 32 + 1) % 2 ^ 32 := by
  rw [strayDone, State.rf_setB_ne _ _ _ _ _ (by decide) (.inr (by decide)), State.rf_setB_ne _ _ _ _ _ (by decide) (.inr (by decide)),
    State.rf_congr (State.emit_regs _ e), strayWoken_rf]

theorem count_gstopped {u : State} (h : u.gstopped = true) (i k : Nat) (x : Who3) : u.count i k x = u := if_pos h

/-- The one line that is written has the image's first qword. -/
theorem strayShown_scanLine (n : Nat) : ∃ e, (strayShown n).scanLine (1#64 <<< 63) 8 0 = (strayWoken n).emit e := by
  have hwoken : (strayShown n).memWake = strayWoken n := rfl
  have hhost : (strayShown n).portOf (1#64 <<< 63 + BitVec.ofNat 64 (64 * 0)) = .host := by
    show strayScan.portOf (1#64 <<< 63 + BitVec.ofNat 64 (64 * 0)) = .host
    decide
  have hopen : (strayShown n).closed .host = false := by
    show strayScan.closed .host = false
    decide
  have hstopped : (strayWoken n).gstopped = true := strayWoken_rb (by decide)
  have hline : (strayShown n).scanLine (1#64 <<< 63) 8 0 =
      (strayShown n).writeMem ((strayShown n).forFn 0) (1#64 <<< 63 + BitVec.ofNat 64 (64 * 0)) [(strayShown n).scanQword 0] := rfl
  rw [hline, State.writeMem, hhost, if_neg (by simp [hopen]), hwoken]
  exact ⟨_, (if_pos (by decide)).trans (count_gstopped ((State.rb_congr (State.emit_regs _ _)).trans hstopped) _ _ _)⟩

theorem State.scanPlaces_le (u : State) (ids : List Nat) (n : Nat) : n ≤ (u.scanPlaces n ids).2 := by
  induction ids generalizing n with
  | nil => exact Nat.le_refl n
  | cons id ids ih => exact Nat.le_trans (Nat.le_add_right n _) (ih _)

/-- The image has its header at least. -/
theorem State.scanBytes_ge (u : State) : 64 ≤ u.scanBytes := by
  have hplaces := u.scanPlaces_le u.scanIds ((8 + 2 * u.scanIds.length + 7) / 8 * 8)
  unfold State.scanBytes State.scanMap
  dsimp only
  omega

/-- A scan-out into a buffer of one qword writes one line. -/
theorem State.scanDone_one {u w : State} {a : Word} (hready : u.scanReady = true) (hen : u.rb .OBS_STOP_CFG 0 0 1 = true)
    (hdone : u.rb .OBS_STOP_STAT 0 0 7 = false) (hfault : u.rb .OBS_STOP_STAT 0 0 9 = false) (hroom : u.rf .OBS_SCAN_SIZE 0 0 0 40 = 8)
    (ha : u.reg .OBS_SCAN_BASE = a) (hhost : u.portOf (a + BitVec.ofNat 64 (64 * 0)) = .host)
    (hw : w = (u.setF .OBS_STOP_STAT 0 0 32 32 u.scanBytes).draw.2) :
    u.scanDone false = ((w.scanLine a 8 0).setB .OBS_STOP_STAT 0 0 7 true).setB .OBS_STOP_STAT 0 0 8 (8 < u.scanBytes) := by
  have hmin : min u.scanBytes 8 = 8 := Nat.min_eq_right (Nat.le_trans (by decide) u.scanBytes_ge)
  have hbase : w.reg .OBS_SCAN_BASE = a := by
    rw [hw]
    exact (State.reg_setReg_ne _ _ (by decide)).trans ha
  have hport : w.portOf (a + BitVec.ofNat 64 (64 * 0)) = .host := by rw [hw]; exact hhost
  unfold State.scanDone
  rw [if_neg (by simp [hready, hen, hdone, hfault])]
  dsimp only
  rw [hroom, hmin, ← hw, show List.range ((8 + 63) / 64) = [0] from rfl, hbase,
    if_neg (show ¬ false = true by decide), List.takeWhile_cons_of_pos (by rw [hport]; rfl), List.takeWhile_nil, if_neg (by simp), List.foldl_cons, List.foldl_nil]

theorem strayScan_scanDone : ∃ e, strayScan.scanDone false = strayDone strayScan.scanBytes e := by
  obtain ⟨e, he⟩ := strayShown_scanLine strayScan.scanBytes
  refine ⟨e, (State.scanDone_one (a := 1#64 <<< 63) (by decide) (by decide) (by decide) (by decide) (by decide)
    (by decide) (by decide) rfl).trans ?_⟩
  rw [strayDone, ← he]
  rfl

/-- Refutes O45, by its clause for a scan-out of the whole image: its writes wake the block, and nothing bounds the rung that the block was
entering, whose entry counter may be the size that shows. -/
theorem not_stopsAreTakenAndScannedOut : ¬ Obligations.StopsAreTakenAndScannedOut := by
  rintro ⟨-, -, -, -, -, -, -, -, hscan, -⟩
  obtain ⟨-, hmem⟩ := hscan strayScan 0 strayScan rfl (by decide) (by decide) (by decide) (by decide)
  have hroom : strayScan.rf .OBS_SCAN_SIZE 0 0 0 40 = 8 := by decide
  obtain ⟨v, hv, -, -, -, hsize⟩ := hmem fun k _ hk => by
    obtain rfl : k = 0 := by omega
    decide
  obtain ⟨e, he⟩ := strayScan_scanDone
  have hdone : exec (.scanOutComplete 0 false) strayScan = .next (strayDone strayScan.scanBytes e).polls := by
    rw [← he]
    exact leaves_any (·.scanDone false) rfl rfl
  have hfrozen : (strayDone strayScan.scanBytes e).freezePoll = strayDone strayScan.scanBytes e := rfl
  have hdead : (strayDone strayScan.scanBytes e).alive = false := by
    have hstopped : (strayDone strayScan.scanBytes e).gstopped = true := strayDone_rb (by decide)
    simp [State.alive, hstopped]
  rw [polls_of_not_alive (by rw [hfrozen, hdead]), hfrozen] at hdone
  injection hv.symm.trans hdone with hpolls
  have hquiet : (strayDone strayScan.scanBytes e).rb .OBS_STOP_STAT 0 0 2 ≠ (strayDone strayScan.scanBytes e).quiet := by
    rw [strayDone_rb (by decide)]
    show strayScan.rb .OBS_STOP_STAT 0 0 2 ≠ strayScan.quiet
    decide
  have hstale := State.polls_stale hpolls (strayDone_rb (by decide)) hquiet
  have hsame := State.freezePoll_stale (a := 1) hstale.symm rfl Nat.zero_ne_one
  rw [hsame, strayDone_rf] at hsize
  omega

end Sys2Proof.Machine
end

section
/-! SUPPORT. Loads of the control store (R447 to R449). -/

namespace Sys2Proof.Machine

variable {s u : State} {t : Nat}

/-- The counter of a rung's entries that were woken is the upper half of a register: it leaves the lower bits of every register as they are. -/
theorem State.rb_setEnt {r : Reg} {i j b k x : Nat} (hb : b < 32) (hreset : bitOf (resetWord r i j) b = bitOf (resetWord .GOV_RUNG_ENT k 0) b) :
    (u.setF .GOV_RUNG_ENT k 0 32 32 x).rb r i j b = u.rb r i j b := by
  by_cases hkey : r.key i j = Reg.key .GOV_RUNG_ENT k 0
  · have hsame : (u.setF .GOV_RUNG_ENT k 0 32 32 x).reg r i j = putFld (u.reg .GOV_RUNG_ENT k 0) 32 32 x := by
      simp [State.reg, State.setF, State.setReg, hkey]
    have hold : bitOf (u.reg .GOV_RUNG_ENT k 0) b = bitOf (u.reg r i j) b := by
      unfold State.reg
      rw [hkey]
      cases Tab.get? u.regs (Reg.key .GOV_RUNG_ENT k 0) with
      | none => exact hreset.symm
      | some w => rfl
    rw [State.rb, hsame, bitOf_putFld_ne _ _ (by decide) (.inl hb), hold]
    rfl
  · exact congrArg (bitOf · b) (State.reg_setReg_ne _ _ hkey)

theorem resetWord_ent (k b : Nat) : bitOf (resetWord .GOV_RUNG_ENT k 0) b = false := by
  have hzero : resetWord .GOV_RUNG_ENT k 0 = 0 := rfl
  simp [hzero, bitOf]

theorem State.rb_wake {r : Reg} {i j b : Nat} (hb : b < 32) (hreset : bitOf (resetWord r i j) b = false)
    (havg : r.key i j ≠ Reg.key .GOV_IDLE_AVG 0 0) : u.wake.rb r i j b = u.rb r i j b := by
  have hgap : u.endGap.rb r i j b = u.rb r i j b := by
    unfold State.endGap
    split
    · rfl
    · exact congrArg (bitOf · b) (State.reg_setReg_ne _ _ havg)
  have hent {v : State} {k x : Nat} : (v.setF .GOV_RUNG_ENT k 0 32 32 x).rb r i j b = v.rb r i j b :=
    State.rb_setEnt hb (hreset.trans (resetWord_ent k b).symm)
  unfold State.wake
  dsimp only
  split
  · split
    · exact hgap
    · exact hent.trans hgap
  · split
    · exact hgap
    · exact hgap

theorem State.wake_loadHalted : u.wake.loadHalted = u.loadHalted := by
  have hhalted : u.wake.haltedAll = u.haltedAll := State.rb_wake (by decide) (by decide) (by decide)
  have hstopped : u.wake.gstopped = u.gstopped := State.rb_wake (by decide) (by decide) (by decide)
  rw [State.loadHalted, State.loadHalted, hhalted, hstopped]

theorem State.wake_mcs : u.wake.mcs = u.mcs := by
  unfold State.wake State.endGap
  dsimp only
  split <;> split <;> split <;> rfl

theorem leaves_inMgmt {c : Instr} {v : State} (f : State → State) (hu : u = s.at t) (hses : u.inSession .mgmt = true)
    (hc : exec c s = actAny s t (·.inMgmt f)) (hf : f u = v) : Leaves c s v :=
  leaves_any (·.inMgmt f) hc ((if_pos (hu ▸ hses)).trans (hu ▸ hf))

theorem leaves_outsideMgmt {c : Instr} (f : State → State) (hu : u = s.at t) (hses : u.inSession .mgmt = false)
    (hc : exec c s = actAny s t (·.inMgmt f)) : Leaves c s u :=
  leaves_any (·.inMgmt f) hc ((if_neg (by rw [← hu, hses]; decide)).trans hu.symm)

theorem State.loadBegin_fits {k n : Nat} (hlive : u.loadHalted = false) (hnone : u.mcs.load = none) (hk : k < 2) (hcap : u.lacks 2 = false)
    (hmin : 160 ≤ n) (hmax : n ≤ 69632) :
    u.loadBegin k n = ((((({ u with mcs := { u.mcs with load := some { kind := k, total := n } } }).setB .MCS_LOAD_STAT 0 0 0 true).setF
      .MCS_LOAD_STAT 0 0 1 3 1).setB .MCS_LOAD_STAT 0 0 4 (k == 1)).emit (.loadAns 0 0)) := by
  have hsize : (decide (2 ≤ k) || decide (n < 160) || decide (69632 < n)) = false := by
    simp only [Bool.or_eq_false_iff, decide_eq_false_iff_not]
    omega
  unfold State.loadBegin
  rw [if_neg (by simp [hlive]), if_neg (by simp [hnone]), if_neg (by simp [hcap])]
  exact if_neg (by simp [hsize])

theorem State.loadBegin_busy {k n : Nat} {l : Load} (hlive : u.loadHalted = false) (hl : u.mcs.load = some l) :
    u.loadBegin k n = u.loadRefused 1 := by
  rw [State.loadBegin, if_neg (by simp [hlive]), if_pos (by simp [hl])]

theorem State.loadData_taken {o : Nat} {x : Byte} {l : Load} (hlive : u.loadHalted = false) (hl : u.mcs.load = some l) (hready : l.ready = none)
    (ho : o < l.total) :
    u.loadData o [x] = ({ u with mcs := { u.mcs with load := some { l with staged := Tab.set l.staged o x } } }).emit (.loadAns 0 0) := by
  have hfits : ¬ l.total < o + 1 := Nat.not_lt.mpr ho
  unfold State.loadData
  rw [hl]
  dsimp only
  rw [if_neg (by simp [hlive]), if_neg (by simp [hready]), if_neg (by simp [hfits])]
  rfl

theorem State.loadData_beyond {o : Nat} {b : List Byte} {l : Load} (hlive : u.loadHalted = false) (hl : u.mcs.load = some l)
    (hready : l.ready = none) (ho : l.total < o + b.length) : u.loadData o b = u.endLoad 3 o := by
  unfold State.loadData
  rw [hl]
  dsimp only
  rw [if_neg (by simp [hlive]), if_neg (by simp [hready]), if_pos (by simp [ho])]

/-- What a commit does once the load is known to be complete or not. -/
theorem State.loadCommit_staged {g : Bool} {d : BitVec 384} {l : Load} (hlive : u.loadHalted = false) (hl : u.mcs.load = some l)
    (hready : l.ready = none) (hall : l.staged.length = l.total) (hok : u.wake.imageFault l.kind (mcsImage l.bytes g d) l.total = none) :
    u.loadCommit g d = if u.wake.sstopped && !u.wake.regrowing then u.wake.applyLoad l (mcsImage l.bytes g d) else
      { u.wake.setF .MCS_LOAD_STAT 0 0 1 3 (if u.wake.regrowing then 2 else 3) with
        mcs := { u.wake.mcs with load := some { l with ready := some (mcsImage l.bytes g d) } } } := by
  unfold State.loadCommit
  rw [hl]
  dsimp only
  rw [if_neg (by simp [hlive]), if_neg (by simp [hready]), if_neg (by simp [hall]), hok]
  rfl

theorem State.loadCommit_short {g : Bool} {d : BitVec 384} {l : Load} (hlive : u.loadHalted = false) (hl : u.mcs.load = some l)
    (hready : l.ready = none) (hshort : l.staged.length ≠ l.total) : u.loadCommit g d = u.wake.endLoad 3 l.staged.length := by
  unfold State.loadCommit
  rw [hl]
  dsimp only
  rw [if_neg (by simp [hlive]), if_neg (by simp [hready]), if_pos hshort]

theorem State.loadPause_none (hl : u.mcs.load = none) : u.loadPause = u := by
  unfold State.loadPause
  rw [hl]

theorem State.loadPause_reached {l : Load} {i : McsImage} (hl : u.mcs.load = some l) (hready : l.ready = some i)
    (hwait : u.rf .MCS_LOAD_STAT 0 0 1 3 = 3) (hok : u.pauseOk = true) (hrung : u.gov.rung = 0) : u.loadPause = u.applyLoad l i := by
  unfold State.loadPause
  rw [hl]
  dsimp only
  rw [hready]
  exact if_pos (by simp [hwait, hok, hrung])

/-- Settles O47. -/
theorem loadsBeginAndEnd : Obligations.LoadsBeginAndEnd := by
  refine ⟨?_, ?_, ?_, ?_, ?_, ?_, ?_, ?_, ?_, ?_, ?_⟩
  · intro s t k n u hu hses hlive hnone hk hcap hmin hmax
    refine (leaves_inMgmt (·.loadBegin k n) hu hses rfl (State.loadBegin_fits hlive hnone hk hcap hmin hmax)).some ⟨rfl, ?_, ?_, ?_, ?_⟩
    · rw [State.rb_congr (State.emit_regs _ _), State.rb_setB_ne _ _ _ _ _ (by decide) (by decide),
        State.rb_setF_ne _ _ _ _ _ (by decide) (by decide), State.rb_setB_same _ _ _ _ _ (by decide)]
    · rw [State.rf_congr (State.emit_regs _ _), State.rf_setB_ne _ _ _ _ _ (by decide) (by decide)]
      exact State.rf_setF_same _ _ _ _ _ (by decide)
    · rw [State.rb_congr (State.emit_regs _ _), State.rb_setB_same _ _ _ _ _ (by decide)]
    · rw [hu]
      exact congrArg (· ++ [Emit.loadAns 0 0]) (State.at_out s t)
  · intro s t k n u l hu hses hlive hl
    exact leaves_inMgmt (·.loadBegin k n) hu hses rfl (State.loadBegin_busy hlive hl)
  · intro s t k n u hu hses
    exact ⟨leaves_outsideMgmt (·.loadBegin k n) hu hses rfl, fun o b => leaves_outsideMgmt (·.loadData o b) hu hses rfl,
      fun g d => leaves_outsideMgmt (·.loadCommit g d) hu hses rfl, leaves_outsideMgmt State.loadAbort hu hses rfl⟩
  · intro s t o b u l hu hses hlive hl hready ho
    exact leaves_inMgmt (·.loadData o b) hu hses rfl (State.loadData_beyond hlive hl hready ho)
  · intro s t o x u l hu hses hlive hl hready ho
    refine (leaves_inMgmt (·.loadData o [x]) hu hses rfl (State.loadData_taken hlive hl hready ho)).some ⟨rfl, rfl, ?_⟩
    rw [hu]
    exact congrArg (· ++ [Emit.loadAns 0 0]) (State.at_out s t)
  · intro s t g d u l hu hses hlive hl hready hshort
    exact leaves_inMgmt (·.loadCommit g d) hu hses rfl (State.loadCommit_short hlive hl hready hshort)
  · intro s t g d u l i hu hses hlive hl hready hall hi hok
    subst hu hi
    rw [State.wake_loadHalted] at hlive
    rw [State.wake_mcs] at hl
    have hcommit := State.loadCommit_staged hlive hl hready hall hok
    refine ⟨fun hrun hgrow => ?_, fun hstop hgrow => leaves_inMgmt (·.loadCommit g d) rfl hses rfl
      (hcommit.trans (if_pos (by simp [hstop, hgrow])))⟩
    refine (leaves_inMgmt (·.loadCommit g d) rfl hses rfl (hcommit.trans (if_neg (by simp [hrun])))).some ⟨rfl, ?_, rfl⟩
    rw [hgrow]
    exact State.rf_setF_same _ _ _ _ _ (by decide)
  · intro s t u l i h hl hready hwait hok hrung
    exact leaves_act State.loadPause h rfl (State.loadPause_reached hl hready hwait hok hrung)
  · intro s t u h hl
    exact leaves_act State.loadPause h rfl (State.loadPause_none hl)
  · intro s t u l hu hses hl
    exact leaves_inMgmt State.loadAbort hu hses rfl (if_pos (by simp [hl]))
  · intro s t u hu hses hl
    exact leaves_inMgmt State.loadAbort hu hses rfl (if_neg (by simp [hl]))

end Sys2Proof.Machine
end

section
/-! SUPPORT. The weight gate (R326 to R329): a header and a chunk that are whole. -/

namespace Sys2Proof.Machine

variable {u : State} {k : Nat} {t : Task} {h : BlobHdr}

theorem byteNats_map_ofNat {l : List Nat} (hl : Bytes l) : byteNats (l.map (BitVec.ofNat 8)) = l := by
  rw [byteNats, List.map_map]
  exact (List.map_congr_left fun x hx => Nat.mod_eq_of_lt (hl x hx)).trans (List.map_id l)

/-- A header that is whole is checked. -/
theorem State.gateStep_header (ht : Tab.get? u.tasks k = some t) (hf : t.gate.failed = false) (hh : t.gate.hdr = none)
    (hlen : 256 ≤ t.gate.got.length) : u.gateStep k = u.gateHeader k t := by
  unfold State.gateStep
  rw [ht]
  dsimp only
  rw [if_neg (by simp [hf]), hh]
  exact if_neg (Nat.not_lt.mpr hlen)

/-- A chunk that is whole is checked. -/
theorem State.gateStep_chunk (ht : Tab.get? u.tasks k = some t) (hf : t.gate.failed = false) (hh : t.gate.hdr = some h)
    (hmore : t.gate.chunk < h.chunks) (hlen : h.chunkLen t.gate.chunk + 16 ≤ t.gate.got.length) : u.gateStep k = u.gateChunk k t h := by
  unfold State.gateStep
  rw [ht]
  dsimp only
  rw [if_neg (by simp [hf]), hh]
  exact if_neg (by simp [hmore, hlen])

theorem State.gateHeader_good (hkey : u.gateKey t = true) (htag : hdrTagOk (u.keyOf t.keySlot) (t.gate.got.take 256) = true)
    (hok : u.hdrOk t (t.gate.got.take 256) = true) :
    u.gateHeader k t = u.updGate k (fun g => { g with hdr := some (blobFields (t.gate.got.take 256)), got := g.got.drop 256 }) := by
  simp [State.gateHeader, State.when, hkey, htag, hok]

theorem State.gateHeader_misfit (hkey : u.gateKey t = true) (htag : hdrTagOk (u.keyOf t.keySlot) (t.gate.got.take 256) = true)
    (hok : u.hdrOk t (t.gate.got.take 256) = false) : u.gateHeader k t = u.updGate k (fun g => { g with failed := true, got := [] }) := by
  simp [State.gateHeader, State.when, hkey, htag, hok]

theorem State.gateHeader_badTag (hkey : u.gateKey t = true) (htag : hdrTagOk (u.keyOf t.keySlot) (t.gate.got.take 256) = false) :
    u.gateHeader k t = u.tagFail.updGate k (fun g => { g with failed := true, got := [] }) := by
  simp [State.gateHeader, State.when, hkey, htag]

/-- A chunk whose tag verifies is written to its place, and the next one follows. -/
theorem State.gateChunk_good {text : List Nat} {tag : List Byte} {n : Nat} (hn : n = h.chunkLen t.gate.chunk)
    (htext : byteNats (t.gate.got.take n) = text) (htag : cutBytes t.gate.got n 16 = tag) (hrevoke : u.sec.revoke.contains t.keySlot = false)
    (hok : beNat (byteNats tag) = gcmTag (u.keyOf t.keySlot) (gateIv h.nonce t.gate.chunk) (byteNats (chunkAad h t.gate.chunk)) text) :
    u.gateChunk k t h = (u.emit (.plain (BitVec.ofNat 64 (t.w 3) + BitVec.ofNat 64 (chunkBytes * t.gate.chunk))
      ((gcmText (u.keyOf t.keySlot) (gateIv h.nonce t.gate.chunk) text).map (BitVec.ofNat 8)))).updGate k
        (fun g => { g with chunk := g.chunk + 1, got := if t.gate.chunk + 1 < h.chunks then g.got.drop (n + 16) else [] }) := by
  unfold State.gateChunk
  dsimp only
  rw [← hn, htext, htag, if_neg (not_not.mpr hok.symm)]
  exact if_neg fun hrev => Bool.false_ne_true (hrevoke.symm.trans hrev)

theorem State.gateChunk_badTag {text : List Nat} {tag : List Byte} {n : Nat} (hn : n = h.chunkLen t.gate.chunk)
    (htext : byteNats (t.gate.got.take n) = text) (htag : cutBytes t.gate.got n 16 = tag)
    (hbad : beNat (byteNats tag) ≠ gcmTag (u.keyOf t.keySlot) (gateIv h.nonce t.gate.chunk) (byteNats (chunkAad h t.gate.chunk)) text) :
    u.gateChunk k t h = (u.updGate k (fun g => { g with failed := true, got := [] })).tagFail := by
  unfold State.gateChunk
  dsimp only
  rw [← hn, htext, htag]
  exact if_pos hbad.symm

/-- Settles O49. -/
theorem weightsAreVerified : Obligations.WeightsAreVerified := by
  refine ⟨?_, ?_, fun _ => rfl⟩
  · intro u k t ht hf hh hlen hkey
    rw [State.gateStep_header ht hf hh hlen]
    exact ⟨State.gateHeader_good hkey, State.gateHeader_misfit hkey, State.gateHeader_badTag hkey⟩
  · intro u k t h n key iv plain tag rest ht hf hh hmore hn hkey hiv hplain hbytes htag hgot hrevoke
    have htext : (gcmText key iv plain).length = n := (gcmText_length _ _ _).trans hplain
    have hlen : h.chunkLen t.gate.chunk + 16 ≤ t.gate.got.length := by
      rw [hgot, ← hn]
      simp only [List.length_append, List.length_map, htext, htag]
      omega
    have htake : byteNats (t.gate.got.take n) = gcmText key iv plain := by
      rw [hgot, List.append_assoc, List.take_left' (by rw [List.length_map, htext]), byteNats_map_ofNat (Bytes.gcmText _ _ hbytes)]
    have hcut : cutBytes t.gate.got n 16 = tag := by
      rw [cutBytes, hgot, List.append_assoc, List.drop_left' (by rw [List.length_map, htext]), List.take_left' htag]
    rw [State.gateStep_chunk ht hf hh hmore hlen]
    subst hkey hiv
    refine ⟨fun heq => ⟨_, State.gateChunk_good hn htake hcut hrevoke heq, ?_, rfl, ?_⟩, State.gateChunk_badTag hn htake hcut⟩
    · refine congrArg (fun p : List Nat => u.out ++ [Emit.plain _ (p.map (BitVec.ofNat 8))]) ?_
      exact gcmText_gcmText _ _ _
    · rw [State.updGate, State.updTask, Tab.get?_upd_same, State.emit_tasks, ht]
      simp [hf]

end Sys2Proof.Machine
end

section
/-! SUPPORT. What tasks, submissions and messages leave alone as they end: the request about partitions that is being carried out, the
registers of the first page, and what TML_STAT says of the lead and of the node. -/

namespace Sys2Proof.Machine

/-- A part of a table has every entry of a key that it keeps. -/
theorem get?_filter_some {α : Type} {p : Nat × α → Bool} {k : Nat} (hp : ∀ x, p (k, x) = true) (l : Tab α) :
    Tab.get? (l.filter p) k = Tab.get? l k := by
  induction l with
  | nil => rfl
  | cons e l ih =>
    obtain ⟨j, b⟩ := e
    by_cases hj : j = k
    · subst hj
      rw [List.filter_cons_of_pos (hp b), Tab.get?, if_pos rfl, Tab.get?, if_pos rfl]
    · rw [Tab.get?, if_neg hj, ← ih, List.filter_cons]
      split
      · rw [Tab.get?, if_neg hj]
      · rfl

theorem get?_foldl_set {α : Type} {g : Nat × α → Nat} {k : Nat} (l t : Tab α) (hg : ∀ e ∈ l, g e ≠ k) :
    Tab.get? (l.foldl (fun t e => Tab.set t (g e) e.2) t) k = Tab.get? t k := by
  induction l generalizing t with
  | nil => rfl
  | cons e l ih =>
    rw [List.foldl_cons, ih _ fun b hb => hg b (List.mem_cons_of_mem e hb), Tab.get?_set_ne _ _ (Ne.symm (hg e List.mem_cons_self))]

/-- A register that is neither of the first page nor TML_STAT. -/
abbrev CalmKey (k : Nat) : Prop := 0x1000 ≤ k ∧ k ≠ Reg.key .TML_STAT 0 0

theorem Reg.off_le_key (r : Reg) (i j : Nat) : r.spec.off ≤ r.key i j := by
  unfold Reg.key
  dsimp only
  split <;> omega

/-- The registers of the array stand behind TML_STAT, in the global window or in the functions' windows. -/
abbrev Reg.Far (r : Reg) : Prop := 0xA0010 ≤ r.spec.off ∨ r.spec.fnWin = true

/-- An array of registers behind TML_STAT does not reach it, whatever the index. -/
theorem calmKey_of_far {r : Reg} {i j : Nat} (h : r.Far) : CalmKey (r.key i j) := by
  have hstat : Reg.key .TML_STAT 0 0 = 0xA0008 := rfl
  have hfar : 0xA0010 ≤ r.key i j := by
    obtain h | h := h
    · exact h.trans (r.off_le_key i j)
    · unfold Reg.key
      dsimp only
      rw [if_pos h]
      omega
  exact ⟨by omega, by omega⟩

/-- The request about partitions, the node keys, and what this node has sent of the key exchanges. -/
def State.calmPart (u : State) : Option PartReq × Tab (BitVec 256) × Tab Eph := (u.preq, u.tml.nodeKeys, u.tml.kexMine)

/-- The request, the node keys, the registers of the first page, and NODE, MEMBER, LEAD and LEAD_NODE of TML_STAT are as they were. -/
structure State.Calm (u v : State) : Prop where
  part : v.calmPart = u.calmPart
  low : ∀ r i j, Reg.key r i j < 0x1000 → v.reg r i j = u.reg r i j
  stat : ∀ b, b < 10 → v.rb .TML_STAT 0 0 b = u.rb .TML_STAT 0 0 b

namespace State.Calm

variable {u v w : State}

theorem preq (h : u.Calm v) : v.preq = u.preq := congrArg Prod.fst h.part

theorem nodeKeys (h : u.Calm v) : v.tml.nodeKeys = u.tml.nodeKeys := congrArg (·.2.1) h.part

theorem kexMine (h : u.Calm v) : v.tml.kexMine = u.tml.kexMine := congrArg (·.2.2) h.part

theorem refl (u : State) : u.Calm u := ⟨rfl, fun _ _ _ _ => rfl, fun _ _ => rfl⟩

theorem trans (h : u.Calm v) (h' : v.Calm w) : u.Calm w :=
  ⟨h'.part.trans h.part, fun r i j hk => (h'.low r i j hk).trans (h.low r i j hk), fun b hb => (h'.stat b hb).trans (h.stat b hb)⟩

/-- Neither the registers nor the rest of it have changed. -/
theorem keep (h : u.Calm v) (hp : w.calmPart = v.calmPart) (hr : w.regs = v.regs) : u.Calm w :=
  ⟨hp.trans h.part, fun r i j hk => (congrArg (fun g => (Tab.get? g (r.key i j)).getD (resetWord r i j)) hr).trans (h.low r i j hk),
    fun b hb => (State.rb_congr hr).trans (h.stat b hb)⟩

theorem ite {c : Prop} [Decidable c] (hv : u.Calm v) (hw : u.Calm w) : u.Calm (if c then v else w) := by
  split
  · exact hv
  · exact hw

theorem when {c : Bool} {f : State → State} (h : u.Calm v) (hf : ∀ w : State, u.Calm w → u.Calm (f w)) : u.Calm (v.when c f) := ite (hf v h) h

theorem foldl {α : Type} {f : State → α → State} (hf : ∀ w a, u.Calm w → u.Calm (f w a)) (l : List α) (h : u.Calm v) : u.Calm (l.foldl f v) := by
  induction l generalizing v with
  | nil => exact h
  | cons a l ih => exact ih (hf v a h)

/-! Registers. -/

theorem setReg (h : u.Calm v) {r : Reg} {i j : Nat} (hk : CalmKey (r.key i j)) (x : Word) : u.Calm (v.setReg r i j x) := by
  obtain ⟨hpage, hstat⟩ := hk
  exact ⟨h.part, fun q k l hq => (State.reg_setReg_ne v x (by omega)).trans (h.low q k l hq),
    fun b hb => (State.rb_setReg_other hstat.symm).trans (h.stat b hb)⟩

theorem setF (h : u.Calm v) {r : Reg} {i j : Nat} (hk : CalmKey (r.key i j)) (lo w x : Nat) : u.Calm (v.setF r i j lo w x) := h.setReg hk _

theorem setB (h : u.Calm v) {r : Reg} {i j : Nat} (hk : CalmKey (r.key i j)) (b : Nat) (x : Bool) : u.Calm (v.setB r i j b x) := h.setReg hk _

theorem bump (h : u.Calm v) {r : Reg} {i j : Nat} (hk : CalmKey (r.key i j)) (lo w k : Nat) : u.Calm (v.bump r i j lo w k) := h.setReg hk _

theorem setArrBit (h : u.Calm v) {r : Reg} (hk : r.Far) (n : Nat) (x : Bool) : u.Calm (v.setArrBit r n x) :=
  h.setB (calmKey_of_far hk) _ _

/-- The upper half of a register whose index nothing bounds may be the upper half of TML_STAT. -/
theorem setHigh (h : u.Calm v) {r : Reg} {i j lo w : Nat} (hpage : 0x1000 ≤ r.spec.off) (hlo : 10 ≤ lo) (hw : lo + w ≤ 64)
    (hreset : resetWord r i j = 0) (x : Nat) : u.Calm (v.setF r i j lo w x) := by
  by_cases hkey : Reg.key .TML_STAT 0 0 = r.key i j
  · have hsame : (v.setF r i j lo w x).reg .TML_STAT = putFld (v.reg r i j) lo w x := by
      simp [State.reg, State.setF, State.setReg, hkey]
    have hold : v.reg r i j = v.reg .TML_STAT := by
      have hzero : resetWord .TML_STAT 0 0 = 0 := rfl
      simp only [State.reg, hkey, hreset, hzero]
    have hfar := r.off_le_key i j
    refine ⟨h.part, fun q k l hq => (State.reg_setReg_ne v _ (by omega)).trans (h.low q k l hq), fun b hb => ?_⟩
    rw [State.rb, hsame, bitOf_putFld_ne _ _ hw (.inl (by omega)), hold]
    exact h.stat b hb
  · exact h.setReg ⟨hpage.trans (r.off_le_key i j), Ne.symm hkey⟩ _

theorem count (h : u.Calm v) (i k : Nat) (x : Who3) : u.Calm (v.count i k x) := by
  have hcnt {w : State} {m : Nat} (hw : u.Calm w) : u.Calm (w.cntAdd1 m k) := hw.setReg (calmKey_of_far (by decide)) _
  exact ite h (foldl (fun w j hw => hcnt hw) _ (hcnt h))

/-- The copies of the counters stand behind TML_STAT. -/
theorem copyShadows (h : u.Calm v) : u.Calm v.copyShadows := by
  have hkept (k : Nat) (hk : k < 0xEA000) : Tab.get? v.copyShadows.regs k = Tab.get? v.regs k := by
    have hbase : Reg.key .OBS_SHADOW 0 0 = 0xEA000 := rfl
    refine (get?_foldl_set _ _ fun e _ => by rw [hbase]; omega).trans (get?_filter_some (fun x => ?_) v.regs)
    rw [hbase]
    simp only [Bool.not_eq_true', Bool.and_eq_false_iff, decide_eq_false_iff_not]
    omega
  refine ⟨h.part, fun r i j hk => ?_, fun b hb => ?_⟩
  · rw [← h.low r i j hk]
    exact congrArg (fun o => o.getD (resetWord r i j)) (hkept (r.key i j) (by omega))
  · rw [← h.stat b hb]
    exact congrArg (fun o => bitOf (o.getD (resetWord .TML_STAT 0 0)) b) (hkept (Reg.key .TML_STAT 0 0) (by decide))

/-! Wakes and memory. -/

theorem endGap (h : u.Calm v) : u.Calm v.endGap := by
  unfold State.endGap
  split
  · exact h
  · refine setF ?_ (by decide) _ _ _
    exact h.keep rfl rfl

theorem wake (h : u.Calm v) : u.Calm v.wake := by
  unfold State.wake
  dsimp only
  split
  · refine ite (h.endGap.keep rfl rfl) ?_
    exact keep (setHigh (h.endGap.keep rfl rfl) (by decide) (by decide) (by decide) rfl _) rfl rfl
  · exact ite h.endGap (h.endGap.keep rfl rfl)

theorem memWake (h : u.Calm v) : u.Calm v.memWake := h.when fun _ => wake

theorem writeMem (h : u.Calm v) (o : Issuer) (a : Word) (d : List Word) : u.Calm (v.writeMem o a d) :=
  ite h (when (h.memWake.keep rfl rfl) fun _ hw => hw.count _ _ _)

theorem readMem (h : u.Calm v) (g : ReadTag) (a : Word) (n : Nat) : u.Calm (v.readMem g a n) := by
  have hread {e : Emit} {c : Bool} {x : Who3} : u.Calm ((v.memWake.emit e).when c fun w => w.count 176 n x) :=
    when (h.memWake.keep rfl rfl) fun _ hw => hw.count _ _ _
  exact ite h (hread.when fun _ hw => hw.keep rfl rfl)

/-! Interrupts. -/

theorem updLine (h : u.Calm v) (f : Nat) : u.Calm (v.updLine f) := by
  have hline {b : Bool} : u.Calm (v.setB .IRQ_STAT f 0 0 b) := h.setB (calmKey_of_far (by decide)) _ _
  exact ite (ite (hline.keep rfl rfl) (hline.keep rfl rfl)) (hline.when fun _ hw => hw.keep rfl rfl)

theorem ibiAfter (h : u.Calm v) (b : Bool) : u.Calm (v.ibiAfter b) := ite (h.keep rfl rfl) h

theorem raiseCopies (h : u.Calm v) (k : Nat) : u.Calm (v.raiseCopies k).2 := by
  have hview {c : Bool} {i : State → Irq} : u.Calm (v.when c fun w => { w with irq := i w }) := h.when fun _ hw => hw.keep rfl rfl
  have hcopies {w : State} (hw : u.Calm w) (b : Bool) : u.Calm ((((w.setArrBit .IRQ_MG_PEND k true).setArrBit .IRQ_SS_PEND k true).setArrBit
      .IRQ_DB_PEND k true).ibiAfter b) :=
    (((hw.setArrBit (by decide) k true).setArrBit (by decide) k true).setArrBit (by decide) k true).ibiAfter b
  unfold State.raiseCopies
  dsimp only
  split
  · exact (hcopies hview _).updLine _
  · exact hcopies hview _

theorem raisePlain (h : u.Calm v) (k : Nat) : u.Calm (v.raisePlain k) := (h.when fun _ => wake).raiseCopies k

theorem noteRaise (h : u.Calm v) (k : Nat) : u.Calm (v.noteRaise k) := ite h (h.keep rfl rfl)

theorem raise (h : u.Calm v) (k : Nat) : u.Calm (v.raise k) := by
  have hnote : u.Calm (v.noteRaise k) := h.noteRaise k
  have hcopies : u.Calm ((((v.noteRaise k).when ((v.noteRaise k).enabledAnywhere k) State.wake).raiseCopies k).2) :=
    (hnote.when fun _ => wake).raiseCopies k
  have hcounted (n : Nat) : u.Calm { (((v.noteRaise k).when ((v.noteRaise k).enabledAnywhere k) State.wake).raiseCopies k).2 with
      irq := { (((v.noteRaise k).when ((v.noteRaise k).enabledAnywhere k) State.wake).raiseCopies k).2.irq with
        storm := Tab.set (((v.noteRaise k).when ((v.noteRaise k).enabledAnywhere k) State.wake).raiseCopies k).2.irq.storm k n } } :=
    hcopies.keep rfl rfl
  refine ite hnote (ite (hnote.raisePlain k) (ite (raisePlain (noteRaise ?_ 7) 7) (hcounted _)))
  split
  · exact updLine (setB (setArrBit (hcounted _) (by decide) _ _) (calmKey_of_far (by decide)) _ _) _
  · exact setArrBit (hcounted _) (by decide) _ _

theorem ringPut (h : u.Calm v) (r : Nat) (d : List Word) : u.Calm (v.ringPut r d) := by
  refine when (setF ?_ (calmKey_of_far (by decide)) _ _ _) fun _ hw => hw.raise 18
  exact (h.writeMem _ _ _).keep rfl rfl

theorem ringWrite (h : u.Calm v) (r : Nat) (d : List Word) : u.Calm (v.ringWrite r d) := by
  have hfar : CalmKey (Reg.key .TRC_RING_STAT r 0) := calmKey_of_far (by decide)
  unfold State.ringWrite
  extract_lets full cap loss w
  have hw : u.Calm w := ite (((h.setReg hfar _).ringPut _ _).raise 18) h
  exact ite (hw.bump hfar _ _ _) (ite (hw.bump hfar _ _ _) (hw.ringPut _ _))

/-! Ports and messages. -/

theorem oweCredit (h : u.Calm v) (p c k : Nat) : u.Calm (v.oweCredit p c k) := ite h (h.keep rfl rfl)

theorem freeFrame (h : u.Calm v) (f : Frame) : u.Calm (v.freeFrame f) := by
  unfold State.freeFrame
  split
  · exact h.oweCredit _ _ _
  · exact h

theorem segWired (h : u.Calm v) (f : Frame) : u.Calm (v.segWired f) := by
  unfold State.segWired
  split
  · exact ite (h.keep rfl rfl) h
  · exact h

theorem txNow (h : u.Calm v) (p : Nat) (f : Frame) : u.Calm (v.txNow p f) := by
  unfold State.txNow
  extract_lets x hd g0 sealed g queued wired keyed left counted
  have hqueued : u.Calm queued := h.keep rfl rfl
  have hwired : u.Calm wired := (hqueued.freeFrame f).segWired f
  have hkeyed : u.Calm keyed := hwired.when fun _ hw => hw.keep rfl rfl
  have hleft : u.Calm left := keep (setHigh hkeyed (r := .SEC_LINK) (i := p) (j := 0) (by decide) (by decide) (by decide) rfl _) rfl rfl
  have hcounted : u.Calm counted := hleft.count _ _ _
  split
  · exact hcounted.count _ _ _
  · exact hcounted

theorem pump (h : u.Calm v) (p n : Nat) : u.Calm (v.pump p n) := by
  induction n generalizing v with
  | zero => exact h
  | succ n ih =>
    unfold State.pump
    split
    · exact h
    · split
      · exact ih (h.txNow _ _)
      · exact h

theorem txFrame (h : u.Calm v) (p : Nat) (f : Frame) : u.Calm (v.txFrame p f) := by
  refine pump ?_ p _
  exact h.keep rfl rfl

theorem wire (h : u.Calm v) (d : Nat) (f : Frame) : u.Calm (v.wire d f) := by
  unfold State.wire
  split
  · exact h.txFrame _ _
  · exact h

theorem sendNow (h : u.Calm v) (d q : Nat) (m : Msg) : u.Calm (v.sendNow d q m) := by
  refine wire ?_ _ _
  exact h.keep rfl rfl

theorem send (h : u.Calm v) (d : Nat) (m : Msg) (f : Option Nat := none) (host : Option Nat := none) (cmd : Option CmdRef := none)
    (back : Bool := false) : u.Calm (v.send d m f host cmd back) := by
  refine ite ?_ (sendNow ?_ _ _ _)
  · exact h.keep rfl rfl
  · exact h.keep rfl rfl

theorem flood (h : u.Calm v) (a q : Nat) (m : Msg) : u.Calm (v.flood a q m) := by
  refine foldl (fun w p hw => ?_) _ ?_
  · exact ite (hw.txFrame _ _) hw
  · exact h.keep rfl rfl

theorem broadcast (h : u.Calm v) (m : Msg) : u.Calm (v.broadcast m) := by
  refine flood ?_ _ _ _
  exact h.keep rfl rfl

/-! Stops, freezes and trace. -/

theorem endLoad (h : u.Calm v) (r d : Nat) : u.Calm (v.endLoad r d) := by
  have hstat : u.Calm ((((v.setB .MCS_LOAD_STAT 0 0 0 false).setF .MCS_LOAD_STAT 0 0 1 3 0).setF .MCS_LOAD_STAT 0 0 8 4 r).setF
      .MCS_LOAD_STAT 0 0 32 32 d) :=
    (((h.setB (by decide) _ _).setF (by decide) _ _ _).setF (by decide) _ _ _).setF (by decide) _ _ _
  exact hstat.keep rfl rfl

/-- What a stop or a freeze still does once its registers show it. -/
theorem announce (h : u.Calm v) (b : Bool) (m : Msg) (k : Nat) : u.Calm ((v.when b fun w => w.broadcast m).raise k) :=
  (h.when fun _ hw => hw.broadcast m).raise k

theorem globalStopCore (h : u.Calm v) (c : Nat) : u.Calm (v.globalStopCore c) := by
  have htold (l : List Emit) (b : Bool) : u.Calm ((v.emits l).when b fun w => w.endLoad 10 0) :=
    when (v := v.emits l) (h.keep rfl rfl) fun _ hw => hw.endLoad _ _
  unfold State.globalStopCore
  dsimp only
  exact ite h (ite (h.keep rfl rfl) (announce
    ((((htold _ _).setB (by decide) _ _).setF (by decide) _ _ _).setReg (by decide) _) _ _ _))

theorem softStopCore (h : u.Calm v) (c : Nat) : u.Calm (v.softStopCore c) := by
  unfold State.softStopCore
  dsimp only
  exact ite h (announce ((((h.setB (by decide) _ _).setF (by decide) _ _ _).setB (by decide) _ _).setReg (by decide) _) _ _ _)

theorem devRecordAt (h : u.Calm v) (t ty d : Nat) : u.Calm (v.devRecordAt t ty d) := ite (h.ringWrite _ _) h

theorem freezeCore (h : u.Calm v) (c : Nat) : u.Calm (v.freezeCore c) := by
  unfold State.freezeCore
  split
  · exact h.setF (by decide) _ _ _
  · split
    · refine ite h (bump ?_ (by decide) _ _ _)
      exact h.keep rfl rfl
    · dsimp only
      refine raise (when (setReg (setF (setF ?_ (by decide) _ _ _) (by decide) _ _ _) (by decide) _) fun _ hw => hw.setB (by decide) _ _) 19
      exact keep (copyShadows (h.keep rfl rfl)) rfl rfl

theorem freezeRecord (h : u.Calm v) : u.Calm v.freezeRecord := by
  unfold State.freezeRecord
  split
  · refine ite h (devRecordAt ?_ _ _ _)
    exact h.keep rfl rfl
  · exact h

theorem triggerAct (h : u.Calm v) : u.Calm v.triggerAct := by
  have hoff : u.Calm (v.setB .TRC_TRIG 0 0 13 false) := h.setB (by decide) _ _
  have hstopped {w : State} (hw : u.Calm w) {b c : Bool} {m : Msg} {k : Nat} :
      u.Calm ((w.when b fun v => v.broadcast m).when c fun v => v.devRecord 0x15 k) :=
    (hw.when fun _ hw => hw.broadcast m).when fun _ hw => hw.devRecordAt _ _ _
  exact ite (ite (hstopped (hoff.softStopCore 3)) hoff)
    (ite (ite (hstopped (hoff.globalStopCore 3)) hoff) ((hoff.when fun _ hw => hw.broadcast _).freezeRecord.freezeCore 4))

theorem trigger (h : u.Calm v) (ty layer op : Nat) : u.Calm (v.trigger ty layer op) := ite h.triggerAct h

theorem lossTrigger (h : u.Calm v) (r : Nat) : u.Calm (v.lossTrigger r) := h.when fun _ hw => hw.trigger _ _ _

theorem traceCmd (h : u.Calm v) (ty : Nat) (c : CmdTag) (d : Word) : u.Calm (v.traceCmd ty c d) := by
  refine ite h (when ?_ fun _ hw => (hw.lossTrigger 8).ringWrite 8 _)
  exact (((h.trigger _ _ _).lossTrigger _).ringWrite _ _)

/-! Waits, semaphores and submissions. -/

theorem waitMet (h : u.Calm v) (f n : Nat) : u.Calm (v.waitMet f n) := by
  unfold State.waitMet
  split
  · exact h
  · refine keep (v := (v.progress _).traceSync _ _ n) (when ?_ fun _ hw => hw.traceCmd _ _ _) rfl rfl
    exact h.keep rfl rfl

theorem semGrant (h : u.Calm v) (i n : Nat) : u.Calm (v.semGrant i n) := by
  induction n generalizing v with
  | zero => exact h
  | succ n ih =>
    unfold State.semGrant
    dsimp only
    split
    · exact h
    · refine ite h (ih (ite (waitMet (count ?_ _ _ _) _ _) (send (count ?_ _ _ _) _ _)))
      · exact h.keep rfl rfl
      · exact h.keep rfl rfl

theorem dropAcqs (h : u.Calm v) (p : Acq → Bool) : u.Calm (v.dropAcqs p) := by
  refine ite (foldl (fun _ _ hw => hw.semGrant _ _) _ ?_) h
  exact h.keep rfl rfl

theorem unlist (h : u.Calm v) (f : Nat) : u.Calm (v.unlist f) := by
  unfold State.unlist
  refine foldl (fun _ _ hw => ite hw (hw.send _ _)) _ (dropAcqs ?_ _)
  exact h.keep rfl rfl

theorem endEarlyAt (h : u.Calm v) (f st off l op : Nat) : u.Calm (v.endEarlyAt f st off l op) := (h.unlist f).keep rfl rfl

theorem windowCheck (h : u.Calm v) (f : Nat) : u.Calm (v.windowCheck f) := by
  have hunpark : u.Calm (v.unpark f) := h.keep rfl rfl
  unfold State.windowCheck
  split
  · exact h
  · split
    · exact h
    · exact ite h (ite (ite hunpark h) (ite h hunpark))

/-! Tasks and their segments. -/

theorem updCtx (h : u.Calm v) (c : Nat) (f : Ctx → Ctx) : u.Calm (v.updCtx c f) := h.keep rfl rfl

theorem addVc (h : u.Calm v) (c n : Nat) : u.Calm (v.addVc c n) := by
  have hupd {f : Ctx → Ctx} : u.Calm (v.updCtx c f) := h.keep rfl rfl
  unfold State.addVc State.clampVc
  dsimp only
  split
  · exact hupd
  · refine ite ?_ hupd
    exact h.keep rfl rfl

theorem learn (h : u.Calm v) (t : Task) : u.Calm (v.learn t) := ite h (h.keep rfl rfl)

theorem rtGive (h : u.Calm v) (i n : Nat) : u.Calm (v.rtGive i n) := by
  unfold State.rtGive
  split
  · exact h
  · exact h.keep rfl rfl

theorem giveNj (h : u.Calm v) (k m n : Nat) (c : Bool) (a : Nat) : u.Calm (v.giveNj k m n c a) := by
  unfold State.giveNj
  split
  · exact h
  next t _ =>
    have hgiven : u.Calm (match t.rt with
        | some i => v.rtGive i n
        | none => t.inherits.foldl (fun (s : State) (h : Heir) => s.rtGive h.inst (h.part n a s.ref)) v) := by
      split
      · exact h.rtGive _ _
      · exact foldl (fun _ _ hw => hw.rtGive _ _) _ h
    exact hgiven.keep rfl rfl

theorem uncoreEnd (h : u.Calm v) (k : Nat) : u.Calm (v.uncoreEnd k) := by
  unfold State.uncoreEnd
  split
  · exact h
  · exact keep (ite (c := _ = 0) h (h.giveNj _ _ _ _ _)) rfl rfl

theorem segmentEnd (h : u.Calm v) (k : Nat) (e : SegEnd) : u.Calm (v.segmentEnd k e) := by
  unfold State.segmentEnd
  split
  · exact h
  next t _ =>
    extract_lets ns charge own shared seg timed told late yielded squashed
    have hown : u.Calm own := h.keep rfl rfl
    have hshared : u.Calm shared := foldl (fun _ _ hw => hw.updCtx _ _) _ hown
    have hseg : u.Calm seg := hshared.keep rfl rfl
    have htimed : u.Calm timed := ite hseg (hseg.addVc _ _)
    have htold : u.Calm told := ite htimed (htimed.keep rfl rfl)
    have hyielded : u.Calm yielded := htold.when fun _ hw => (hw.updCtx _ _).count _ _ _
    have hsquashed : u.Calm squashed := hyielded.when fun _ hw => hw.count _ _ _
    exact hsquashed.keep rfl rfl

theorem dropTask (h : u.Calm v) (k : Nat) : u.Calm (v.dropTask k) := by
  unfold State.dropTask
  split
  · exact h
  · refine windowCheck ?_ _
    exact h.keep rfl rfl

theorem traceComplete (h : u.Calm v) (t : Task) (n : Nat) : u.Calm (v.traceComplete t n) := h.when fun _ hw => hw.traceCmd _ _ _

/-- What a task that is over still does: its trace record, its submission's early end, and it leaves. -/
theorem taskOver (h : u.Calm v) (t t' : Task) (k n : Nat) : u.Calm ((match t.early with
    | some st => (v.traceComplete t' n).endEarlyAt t.f st t.off t.layer t.op
    | none => v.traceComplete t' n).dropTask k) := by
  refine dropTask ?_ k
  split
  · exact (h.traceComplete _ _).endEarlyAt _ _ _ _ _
  · exact h.traceComplete _ _

theorem commandComplete (h : u.Calm v) (k : Nat) : u.Calm (v.commandComplete k) := by
  unfold State.commandComplete
  split
  · exact h
  · dsimp only
    split
    · exact h.segmentEnd _ _
    · exact taskOver (count (learn (h.segmentEnd _ _) _) _ _ _) _ _ _ _

theorem taskGone (h : u.Calm v) (k n : Nat) : u.Calm (v.taskGone k n) := by
  unfold State.taskGone
  split
  · exact h
  · exact taskOver (ite (h.segmentEnd _ _) h) _ _ _ _

theorem afterClean (h : u.Calm v) (k : Nat) : u.Calm (v.afterClean k) := by
  unfold State.afterClean
  split
  · exact h
  · refine ite (h.commandComplete k) (foldl (fun _ _ hw => hw.readMem _ _ _) _ ?_)
    exact h.keep rfl rfl

theorem startClean (h : u.Calm v) (k : Nat) : u.Calm (v.startClean k) := by
  unfold State.startClean
  split
  · exact h
  · exact ite (h.taskGone _ _) (ite (h.afterClean k) (h.keep rfl rfl))

theorem dropDue (h : u.Calm v) (p : Due → Bool) : u.Calm (v.dropDue p) := by
  refine foldl (fun w d hw => ?_) _ ?_
  · exact ite hw (hw.keep rfl rfl)
  · exact h.keep rfl rfl

theorem discard (h : u.Calm v) (k : Nat) : u.Calm (v.discard k) := by
  unfold State.discard
  split
  · exact h
  next t _ =>
    extract_lets emptied dropped bumped counted
    have hemptied : u.Calm emptied := (h.dropDue _).keep rfl rfl
    have hbumped : u.Calm bumped := bump (v := dropped.freeSlots k) (hemptied.keep rfl rfl) (by decide) _ _ _
    have hcounted : u.Calm counted := hbumped.count _ _ _
    exact ite h (ite (hcounted.keep rfl rfl) (hcounted.keep rfl rfl))

theorem coreDue (h : u.Calm v) (p : Nat) : u.Calm (v.coreDue p) := by
  unfold State.coreDue
  dsimp only
  split
  · exact h
  · split
    · exact h
    · split
      · exact h
      · split
        · exact h
        · exact h.keep rfl rfl

theorem ranksCheck (h : u.Calm v) (k : Nat) : u.Calm (v.ranksCheck k) := by
  have hend : u.Calm (v.uncoreEnd k) := h.uncoreEnd k
  unfold State.ranksCheck
  split
  · exact h
  · exact ite h (ite (hend.taskGone _ _) (ite (hend.startClean k) ((hend.segmentEnd k .yield).keep rfl rfl)))

theorem releaseRank (h : u.Calm v) (k r : Nat) : u.Calm (v.releaseRank k r) := by
  unfold State.releaseRank
  split
  · exact h
  · refine ranksCheck (coreDue ?_ _) k
    exact h.keep rfl rfl

theorem returnRank (h : u.Calm v) (k r : Nat) : u.Calm (v.returnRank k r) := by
  refine releaseRank ?_ k r
  exact h.keep rfl rfl

end State.Calm

end Sys2Proof.Machine
end

section
/-! SUPPORT. Moves, removals and cipher flushes of partitions (R298 to R301, R305, R308). -/

namespace Sys2Proof.Machine

variable {s u v : State} {t a b : Nat} {m : BitVec 48} {r : PartReq}

/-- What VXB_PART_REQ_STAT shows of a request that is being carried out. -/
theorem fld_reqStat (n : Nat) (hn : n < 2 ^ 48) : fld (mkWord [(0, 1, 1), (16, 48, n)]) 16 48 = n := by
  have hword : (mkWord [(0, 1, 1), (16, 48, n)]).toNat = n * 2 ^ 16 + 1 := by
    have hor : 1 ||| n <<< 16 = n * 2 ^ 16 + 1 := by
      rw [Nat.lor_comm, ← Nat.shiftLeft_eq]
      exact (Nat.shiftLeft_add_eq_or_of_lt (by decide) n).symm
    have hpack : packFields [(0, 1, 1), (16, 48, n)] = n * 2 ^ 16 + 1 := by
      simp only [packFields, Nat.mod_eq_of_lt hn, Nat.or_zero]
      exact hor
    rw [mkWord, hpack, BitVec.toNat_ofNat, Nat.mod_eq_of_lt (by omega)]
  rw [fld, hword, Nat.shiftRight_eq_div_pow]
  omega

theorem bitOf_reqStat (n : Nat) : bitOf (mkWord [(0, 1, 1), (16, 48, n)]) 0 = true := by
  simp [bitOf, mkWord, packFields]

/-- The request shows as being carried out, and its two ends as MOVING. -/
def State.reqTaken (u : State) (r : PartReq) (n : Nat) : State :=
  (({ u with preq := some r }).setReg .VXB_PART_REQ_STAT 0 0 (mkWord [(0, 1, 1), (16, 48, n)])).setMoving r true

theorem key_partRes (t : Nat) : Reg.key .VXB_PART_RES t 0 = 0xE00 + 16 * t := rfl

/-- MOVING of one end of a request, where that end is a partition. -/
def State.moveEnd (u : State) (e : Option Nat) (on : Bool) : State :=
  match e with
  | some t => u.setB .VXB_PART_RES t 0 25 on
  | none => u

theorem State.setMoving_ends (on : Bool) : u.setMoving r on = (u.moveEnd r.src on).moveEnd r.dst on := by
  unfold State.setMoving State.moveEnd
  rfl

theorem State.moveEnd_other {on : Bool} {e : Option Nat} {q : Reg} {k l : Nat} (h : ∀ t, e = some t → q.key k l ≠ Reg.key .VXB_PART_RES t 0) :
    (u.moveEnd e on).reg q k l = u.reg q k l := by
  cases e with
  | none => rfl
  | some t => exact State.reg_setReg_ne _ _ (h t rfl)

/-- MOVING of a partition shows once an end of the request is the partition. -/
theorem State.moveEnd_shows {e : Option Nat} (h : e = some t ∨ u.rb .VXB_PART_RES t 0 25 = true) :
    (u.moveEnd e true).rb .VXB_PART_RES t 0 25 = true := by
  cases e with
  | none => exact h.resolve_left (by simp)
  | some p =>
    by_cases hp : p = t
    · subst hp
      exact State.rb_setB_same u .VXB_PART_RES p 0 true (by decide)
    · have hkey : Reg.key .VXB_PART_RES t 0 ≠ Reg.key .VXB_PART_RES p 0 := by
        rw [key_partRes, key_partRes]
        omega
      exact (State.rb_setB_other hkey).trans (h.resolve_left fun h => hp (Option.some.inj h))

theorem State.moveEnd_res {on : Bool} {e : Option Nat} : (u.moveEnd e on).rf .VXB_PART_RES t 0 0 16 = u.rf .VXB_PART_RES t 0 0 16 := by
  cases e with
  | none => rfl
  | some p =>
    by_cases hp : t = p
    · subst hp
      exact State.rf_setB_ne u .VXB_PART_RES t 0 on (by decide) (by decide)
    · have hkey : Reg.key .VXB_PART_RES t 0 ≠ Reg.key .VXB_PART_RES p 0 := by
        rw [key_partRes, key_partRes]
        omega
      exact State.rf_setB_other hkey

/-- A request without a fault names two ends, and none is being carried out. -/
theorem State.reqFault_none {k n : Nat} (h : u.reqFault k n a b = none) : (partEnd a).isSome = true ∧ (partEnd b).isSome = true ∧ u.reqBusy = false := by
  unfold State.reqFault at h
  split at h
  next p q ha hb =>
    refine ⟨by rw [ha]; rfl, by rw [hb]; rfl, Bool.eq_false_iff.mpr fun hbusy => ?_⟩
    dsimp only at h
    split at h
    · exact absurd h (by simp)
    · rw [if_pos (by simp [hbusy])] at h
      exact absurd h (by simp)
  next => exact absurd h (by simp)

theorem State.partMove_fault {k n c : Nat} (hfree : u.reqBusy = false) (h : u.reqFault k n a b = some c) :
    u.partMove k n a b = u.setReg .VXB_PART_REQ_STAT 0 0 (mkWord [(4, 4, c)]) := by
  unfold State.partMove
  rw [if_neg (by simp [hfree]), h]

theorem State.partMove_busy {k n : Nat} (hbusy : u.reqBusy = true) : u.partMove k n a b = u.setF .VXB_PART_REQ_STAT 0 0 4 4 1 := if_pos hbusy

/-- The request that names two ends and a mask. -/
def reqOf (k : Nat) (m : BitVec 48) (a b : Nat) : PartReq := { kind := k, src := (partEnd a).getD none, dst := (partEnd b).getD none, mask := m }

theorem ofNat_mask : BitVec.ofNat 48 m.toNat = m := by simp

/-- A core that a move takes stops what waits on it (R300). -/
def State.coreTaken (s : State) (p : Nat) : State :=
  let s : State := match (nth s.cores p {}).bank with
    | some k =>
      (match Tab.get? s.tasks k with
       | some t =>
         if t.phase == .gathering then
           (s.updTask k (fun t => { t with held := t.held.filter (fun q => q ≠ p) })).updCore p (fun c => { c with bank := none })
         else s.discard k
       | none => s)
    | none => s
  let conts := s.due.filter (fun d => d.cls == .cores && d.peng == p && d.cont.isSome
    && !(Tab.get? s.tasks d.task).any (fun t => t.isStatic))
  let s := s.dropDue (fun d => conts.contains d)
  let s := conts.foldl (fun s d => s.returnRank d.task d.rank) s
  s.updCore p (fun c => { c with moving := true })

theorem State.Calm.coreTaken (h : u.Calm v) (p : Nat) : u.Calm (v.coreTaken p) := by
  unfold State.coreTaken
  extract_lets freed conts dropped returned
  have hfreed : u.Calm freed := by
    unfold freed
    split
    · split
      · exact .ite (h.keep rfl rfl) (h.discard _)
      · exact h
    · exact h
  have hreturned : u.Calm returned := .foldl (fun _ _ hw => hw.returnRank _ _) _ (hfreed.dropDue _)
  exact hreturned.keep rfl rfl

theorem State.partMove_cores (h : u.reqFault 0 m.toNat a b = none) :
    u.partMove 0 m.toNat a b = ((List.range 48).filter (fun p => Nat.testBit m.toNat p)).foldl State.coreTaken (u.reqTaken (reqOf 0 m a b) m.toNat) := by
  obtain ⟨-, -, hfree⟩ := State.reqFault_none h
  unfold State.partMove
  rw [if_neg (by simp [hfree]), h]
  dsimp only
  rw [ofNat_mask]
  rfl

theorem State.partMove_ways (h : u.reqFault 1 m.toNat a b = none) (ha : a < 8) :
    u.partMove 1 m.toNat a b = (((u.reqTaken (reqOf 1 m a b) m.toNat).emit (.ways "stop" (some a) m)).emit (.ways "clean" (some a) m)).writeBack
      (fun l => l.way.any (Nat.testBit m.toNat)) := by
  obtain ⟨-, -, hfree⟩ := State.reqFault_none h
  have hsrc : (partEnd a).getD none = some a := by rw [partEnd, if_pos ha]; rfl
  unfold State.partMove
  rw [if_neg (by simp [hfree]), h]
  dsimp only
  rw [ofNat_mask, hsrc, reqOf, hsrc]
  rfl

theorem State.partMove_channels (h : u.reqFault 2 m.toNat a b = none) :
    u.partMove 2 m.toNat a b = (u.reqTaken (reqOf 2 m a b) m.toNat).finishMove (reqOf 2 m a b) := by
  obtain ⟨-, -, hfree⟩ := State.reqFault_none h
  unfold State.partMove
  rw [if_neg (by simp [hfree]), h]
  dsimp only
  rw [ofNat_mask]
  rfl

theorem nth_modAt_bank {l : List Core} {f : Core → Core} (hf : ∀ c, (f c).bank = c.bank) (p q : Nat) :
    (nth (modAt l p f) q {}).bank = (nth l q {}).bank := by
  induction l generalizing p q with
  | nil => rfl
  | cons c l ih =>
    cases p with
    | zero =>
      cases q with
      | zero => exact hf c
      | succ q => rfl
    | succ p =>
      cases q with
      | zero => rfl
      | succ q => exact ih p q

/-- A core that nothing waits on only shows that it moves. -/
theorem State.coreTaken_idle {p : Nat} (hbank : (nth u.cores p {}).bank = none) (hdue : u.due = []) :
    u.coreTaken p = u.updCore p (fun c => { c with moving := true }) := by
  have hdrop (q : Due → Bool) : u.dropDue q = u := by
    simp only [State.dropDue, hdue, List.filter_nil, List.foldl_nil]
    rw [← hdue]
  unfold State.coreTaken
  rw [hbank]
  simp only [hdue, List.filter_nil, List.foldl_nil, hdrop]

theorem State.foldl_coreTaken_idle {l : List Nat} (hbank : ∀ p ∈ l, (nth u.cores p {}).bank = none) (hdue : u.due = []) :
    ∃ c, l.foldl State.coreTaken u = { u with cores := c } := by
  induction l generalizing u with
  | nil => exact ⟨_, rfl⟩
  | cons p l ih =>
    rw [List.foldl_cons, State.coreTaken_idle (hbank p List.mem_cons_self) hdue]
    refine ih (u := u.updCore p _) (fun q hq => ?_) hdue
    exact (nth_modAt_bank (f := fun c => { c with moving := true }) (fun _ => rfl) p q).trans (hbank q (List.mem_cons_of_mem p hq))

/-! What the registers show of a request. -/

theorem State.reqTaken_stat {n : Nat} : (u.reqTaken r n).reg .VXB_PART_REQ_STAT = mkWord [(0, 1, 1), (16, 48, n)] := by
  have hkey (t : Nat) : Reg.key .VXB_PART_REQ_STAT 0 0 ≠ Reg.key .VXB_PART_RES t 0 := by
    have hstat : Reg.key .VXB_PART_REQ_STAT 0 0 = 0xF08 := rfl
    rw [key_partRes, hstat]
    omega
  rw [State.reqTaken, State.setMoving_ends, State.moveEnd_other fun t _ => hkey t, State.moveEnd_other fun t _ => hkey t, State.reg_setReg_same]

theorem State.reqTaken_moving {n e : Nat} (he : r.src = some e ∨ r.dst = some e) : (u.reqTaken r n).rb .VXB_PART_RES e 0 25 = true := by
  rw [State.reqTaken, State.setMoving_ends]
  obtain he | he := he
  · exact State.moveEnd_shows (.inr (State.moveEnd_shows (.inl he)))
  · exact State.moveEnd_shows (.inl he)

theorem State.reqTaken_res {n : Nat} : (u.reqTaken r n).rf .VXB_PART_RES t 0 0 16 = u.rf .VXB_PART_RES t 0 0 16 := by
  have hkey : Reg.key .VXB_PART_RES t 0 ≠ Reg.key .VXB_PART_REQ_STAT 0 0 := by
    have hstat : Reg.key .VXB_PART_REQ_STAT 0 0 = 0xF08 := rfl
    rw [key_partRes, hstat]
    omega
  rw [State.reqTaken, State.setMoving_ends, State.moveEnd_res, State.moveEnd_res]
  exact State.rf_setReg_other hkey

theorem State.moveEnd_rest {on : Bool} {e : Option Nat} : ∃ g, u.moveEnd e on = { u with regs := g } := by
  cases e with
  | none => exact ⟨_, rfl⟩
  | some p => exact ⟨_, rfl⟩

/-- Nothing but the registers and the request itself has changed. -/
theorem State.reqTaken_rest {n : Nat} : ∃ g, u.reqTaken r n = { u with preq := some r, regs := g } := by
  rw [State.reqTaken, State.setMoving_ends]
  obtain ⟨g, hg⟩ := State.moveEnd_rest (u := ({ u with preq := some r }).setReg .VXB_PART_REQ_STAT 0 0 (mkWord [(0, 1, 1), (16, 48, n)]))
    (on := true) (e := r.src)
  rw [hg]
  obtain ⟨g', hg'⟩ := State.moveEnd_rest (u := { ({ u with preq := some r }).setReg .VXB_PART_REQ_STAT 0 0 (mkWord [(0, 1, 1), (16, 48, n)]) with
    regs := g }) (on := true) (e := r.dst)
  exact ⟨g', hg'⟩

/-- What shows of a request is kept by what leaves it alone. -/
theorem State.Calm.reqShows {n : Nat} (h : (u.reqTaken r n).Calm v) (hn : n < 2 ^ 48) :
    v.preq = some r ∧ (∀ e, e < 8 → r.src = some e ∨ r.dst = some e → v.rb .VXB_PART_RES e 0 25 = true)
    ∧ v.rf .VXB_PART_REQ_STAT 0 0 16 48 = n ∧ v.rb .VXB_PART_REQ_STAT 0 0 0 = true := by
  obtain ⟨g, hg⟩ := State.reqTaken_rest (u := u) (r := r) (n := n)
  have hstat : v.reg .VXB_PART_REQ_STAT = mkWord [(0, 1, 1), (16, 48, n)] := (h.low _ _ _ (by decide)).trans State.reqTaken_stat
  refine ⟨h.preq.trans (by rw [hg]), fun e he hend => ?_, ?_, ?_⟩
  · have hkey : Reg.key .VXB_PART_RES e 0 < 0x1000 := by
      rw [key_partRes]
      omega
    rw [State.rb, h.low _ _ _ hkey]
    exact State.reqTaken_moving hend
  · rw [State.rf, hstat, fld_reqStat n hn]
  · rw [State.rb, hstat, bitOf_reqStat]

theorem State.Calm.writeBack (h : u.Calm v) (p : MetaLine → Bool) : u.Calm (v.writeBack p) := by
  refine .foldl (fun w l hw => .when ?_ fun _ hw => hw.count _ _ _) _ ?_
  · exact hw.keep rfl rfl
  · exact h.keep rfl rfl

theorem State.writeBack_clean {p : MetaLine → Bool} (h : u.sec.dirty = []) : (u.writeBack p).out = u.out := by
  simp only [State.writeBack, h, List.filter_nil, List.foldl_nil]

/-! Cipher flushes. -/

/-- A flush of another kind of sequence changes none of the sequences of a kind. -/
theorem State.find_cipherAck {p : Td → Bool} {k : TdKind} {n : Nat} (hp : ∀ d, d.kind = k → p d = false) :
    (u.cipherAck k n).td.find? p = u.td.find? p := by
  have hmap (l : List Td) (g : Td → Td) (hg : ∀ d, (g d).kind = d.kind) :
      (l.map (fun d => if d.kind == k && d.obj == n then g d else d)).find? p = l.find? p := by
    induction l with
    | nil => rfl
    | cons d l ih =>
      rw [List.map_cons, List.find?_cons, List.find?_cons, ih]
      by_cases hd : d.kind = k
      · have hnew : p (if d.kind == k && d.obj == n then g d else d) = false := by
          split
          · exact hp _ ((hg d).trans hd)
          · exact hp d hd
        rw [hnew, hp d hd]
      · rw [if_neg (by simp [hd])]
  refine hmap u.td _ fun d => ?_
  split <;> rfl

theorem State.tenantRemoval_asked (ha : a < 8) (hrem : u.removing a = false) (hwait : u.removals.contains a = false) :
    u.tenantRemoval a m.toNat = match u.preq with
      | some r => if r.src == some a || r.dst == some a then u.startRemoval a else { u with removals := u.removals ++ [a] }
      | none => if u.td.any (fun d => d.kind == .removal) then { u with removals := u.removals ++ [a] } else u.startRemoval a := by
  have hm : m.toNat < 2 ^ 48 := m.isLt
  have hargs : (decide (8 ≤ a) || decide (m.toNat ≠ 0) && decide (2 ^ 48 ≤ m.toNat)) = false := by
    simp only [Bool.or_eq_false_iff, Bool.and_eq_false_iff, decide_eq_false_iff_not]
    omega
  exact (if_neg (by rw [hargs]; decide)).trans (if_neg (by rw [hrem, hwait]; decide))

theorem State.tenantRemoval_again (ha : a < 8) (h : u.removing a = true ∨ u.removals.contains a = true) :
    u.tenantRemoval a m.toNat = u.setF .VXB_PART_REQ_STAT 0 0 4 4 1 := by
  have hm : m.toNat < 2 ^ 48 := m.isLt
  have hargs : (decide (8 ≤ a) || decide (m.toNat ≠ 0) && decide (2 ^ 48 ≤ m.toNat)) = false := by
    simp only [Bool.or_eq_false_iff, Bool.and_eq_false_iff, decide_eq_false_iff_not]
    omega
  unfold State.tenantRemoval
  rw [if_neg (by rw [hargs]; decide)]
  exact if_pos (by rw [Bool.or_eq_true]; exact h)

/-- Settles O34. -/
theorem partitionsGainAndLoseParts : Obligations.PartitionsGainAndLoseParts := by
  refine ⟨?_, ?_, ?_, ?_, ?_, ?_, ?_, ?_, ?_, ?_, ?_, ?_, ?_, ?_, ?_⟩
  · intro s t u m a b c h hfault _ hpreq hrem htd
    exact leaves_mgmtWr (·.partMove 0 m.toNat a b) h rfl (State.partMove_fault (by simp [State.reqBusy, hpreq, hrem, htd]) hfault)
  · intro s t u m a b h hbusy
    exact ⟨leaves_mgmtWr (·.partMove 0 m.toNat a b) h rfl (State.partMove_busy hbusy), leaves_mgmtWr (·.partMove 1 m.toNat a b) h rfl
      (State.partMove_busy hbusy), leaves_mgmtWr (·.partMove 2 m.toNat a b) h rfl (State.partMove_busy hbusy)⟩
  · intro s t u m a b h hfault
    refine (leaves_mgmtWr (·.partMove 0 m.toNat a b) h rfl (State.partMove_cores hfault)).some ?_
    have hcalm : (u.reqTaken (reqOf 0 m a b) m.toNat).Calm (((List.range 48).filter (fun p => Nat.testBit m.toNat p)).foldl State.coreTaken
        (u.reqTaken (reqOf 0 m a b) m.toNat)) := .foldl (fun _ _ hw => hw.coreTaken _) _ (.refl _)
    obtain ⟨hpreq, hmoving, hmask, hbusy⟩ := hcalm.reqShows m.isLt
    have hend {e : Nat} (he : e < 8) : (partEnd e).getD none = some e := by rw [partEnd, if_pos he]; rfl
    exact ⟨hpreq, fun ha => hmoving a ha (.inl (hend ha)), fun hb => hmoving b hb (.inr (hend hb)), hmask, hbusy⟩
  · intro s t u m a b h ha hb hfault hbank hdue
    refine (leaves_mgmtWr (·.partMove 0 m.toNat a b) h rfl (State.partMove_cores hfault)).some ?_
    obtain ⟨g, hg⟩ := State.reqTaken_rest (u := u) (r := reqOf 0 m a b) (n := m.toNat)
    have hend {e : Nat} (he : e < 8) : (partEnd e).getD none = some e := by rw [partEnd, if_pos he]; rfl
    have hreq : reqOf 0 m a b = { kind := 0, src := some a, dst := some b, mask := m } := by rw [reqOf, hend ha, hend hb]
    obtain ⟨c, hc⟩ := State.foldl_coreTaken_idle (u := u.reqTaken (reqOf 0 m a b) m.toNat)
      (l := (List.range 48).filter (fun p => Nat.testBit m.toNat p))
      (fun p hp => by rw [hg]; exact hbank p (List.mem_range.mp (List.mem_filter.mp hp).1)) (by rw [hg]; exact hdue)
    have hcalm : (u.reqTaken (reqOf 0 m a b) m.toNat).Calm { u.reqTaken (reqOf 0 m a b) m.toNat with cores := c } :=
      (State.Calm.refl _).keep rfl rfl
    obtain ⟨hpreq, hmoving, hmask, hbusy⟩ := hcalm.reqShows m.isLt
    rw [hc]
    exact ⟨hpreq.trans (congrArg some hreq), hmoving a ha (.inl (hend ha)), hmoving b hb (.inr (hend hb)), hmask, hbusy, by rw [hg], by rw [hg]⟩
  · intro s t u m a b h ha hfault
    refine (leaves_mgmtWr (·.partMove 1 m.toNat a b) h rfl (State.partMove_ways hfault ha)).some ?_
    obtain ⟨g, hg⟩ := State.reqTaken_rest (u := u) (r := reqOf 1 m a b) (n := m.toNat)
    rw [ofNat_mask]
    have hout : (((u.reqTaken (reqOf 1 m a b) m.toNat).emit (.ways "stop" (some a) m)).emit (.ways "clean" (some a) m)).out =
        u.out ++ [.ways "stop" (some a) m, .ways "clean" (some a) m] := by
      rw [hg]
      exact List.append_assoc _ _ _
    have hcalm : (u.reqTaken (reqOf 1 m a b) m.toNat).Calm
        ((((u.reqTaken (reqOf 1 m a b) m.toNat).emit (.ways "stop" (some a) m)).emit (.ways "clean" (some a) m)).writeBack
          (fun l => l.way.any (Nat.testBit m.toNat))) := by
      refine State.Calm.writeBack ?_ _
      exact (State.Calm.refl _).keep rfl rfl
    refine ⟨?_, fun hclean => ?_, ?_, ?_⟩
    · exact hout ▸ (State.writeBack_kept (Kept.refl _) _).out
    · exact (State.writeBack_clean (by rw [State.emit_sec, State.emit_sec, hg]; exact hclean)).trans hout
    · rw [(hcalm.reqShows m.isLt).1]
      rfl
    · have hkey : Reg.key .VXB_PART_RES a 0 < 0x1000 := by
        rw [key_partRes]
        omega
      rw [State.rf, hcalm.low _ _ _ hkey]
      exact State.reqTaken_res
  · intro s t u r h hr hkind hsrc hscrub
    refine leaves_act (·.writeAck .wayClean) h rfl ?_
    show u.wayClean = _
    unfold State.wayClean
    rw [hr]
    exact if_pos (by simp [hkind, hsrc, hscrub])
  · intro s t u r n h htd hr hkind hscrub hkey hn
    refine leaves_act (·.flushDone .ways n) h rfl ?_
    show u.waysScrubbed n = _
    unfold State.waysScrubbed
    rw [if_neg (by simp [htd]), hr]
    exact if_pos (by simp [hkind, hscrub, hkey, hn])
  · intro s t u m a b h hfault
    refine leaves_mgmtWr (·.partMove 2 m.toNat a b) h rfl ((State.partMove_channels hfault).trans ?_)
    rw [ofNat_mask]
    rfl
  · intro s t u m a h ha hrem hwait hpreq
    refine ⟨fun htd => leaves_mgmtWr (·.tenantRemoval a m.toNat) h rfl ?_, fun htd => leaves_mgmtWr (·.tenantRemoval a m.toNat) h rfl ?_⟩
    · rw [State.tenantRemoval_asked ha hrem hwait, hpreq]
      exact if_neg (by simp [htd])
    · rw [State.tenantRemoval_asked ha hrem hwait, hpreq]
      exact if_pos htd
  · intro s t u m a r h ha hrem hwait hpreq
    refine ⟨fun hsrc hdst => leaves_mgmtWr (·.tenantRemoval a m.toNat) h rfl ?_, fun hend => leaves_mgmtWr (·.tenantRemoval a m.toNat) h rfl ?_⟩
    · rw [State.tenantRemoval_asked ha hrem hwait, hpreq]
      exact if_neg (by simp [hsrc, hdst])
    · rw [State.tenantRemoval_asked ha hrem hwait, hpreq]
      exact if_pos (by simpa using hend)
  · intro s t u m a h ha hagain
    exact leaves_mgmtWr (·.tenantRemoval a m.toNat) h rfl (State.tenantRemoval_again ha hagain)
  · intro s t u n h
    exact ⟨leaves_act (·.flushDone .ctx n) h rfl rfl, leaves_act (·.flushDone .sq n) h rfl rfl⟩
  · intro s t u n d h hrem hfind
    have hfn : u.flushDone .fn n = if d.kind == .hostLoss then (u.cipherAck .halted n).finishHostLoss d else (u.cipherAck .halted n).finishFlr d := by
      unfold State.flushDone
      dsimp only
      rw [State.find_cipherAck (fun d hd => by simp [hd]), hrem]
      dsimp only
      rw [State.find_cipherAck (fun d hd => by simp [hd]), hfind]
    exact ⟨fun hk => leaves_act (·.flushDone .fn n) h rfl (hfn.trans (if_neg (by simp [hk]))),
      fun hk => leaves_act (·.flushDone .fn n) h rfl (hfn.trans (if_pos (by simp [hk])))⟩
  · intro s t u a d h hd hstep
    refine leaves_act (·.flushDone .tenant a) h rfl ?_
    unfold State.flushDone
    dsimp only
    rw [hd]
    exact if_pos hstep
  · intro s t n u m a b h
    exact ⟨leaves_mgmtWr_host (·.partMove 0 m.toNat a b) h rfl, leaves_mgmtWr_host (·.partMove 1 m.toNat a b) h rfl,
      leaves_mgmtWr_host (·.partMove 2 m.toNat a b) h rfl, leaves_mgmtWr_host (·.tenantRemoval a m.toNat) h rfl⟩

end Sys2Proof.Machine
end

section
/-! SUPPORT. What the loss of a node and of its transfers leaves alone: dones, faults, sequences that tear down, and transfers that end. -/

namespace Sys2Proof.Machine

namespace State.Calm

variable {u v w : State}

theorem foldlMem {α : Type} {f : State → α → State} (l : List α) (hf : ∀ a ∈ l, ∀ w, u.Calm w → u.Calm (f w a)) (h : u.Calm v) :
    u.Calm (l.foldl f v) := by
  induction l generalizing v with
  | nil => exact h
  | cons a l ih => exact ih (fun b hb => hf b (List.mem_cons_of_mem a hb)) (hf a List.mem_cons_self v h)

/-! Fields that are neither registers nor the request. -/

theorem updTask (h : u.Calm v) (k : Nat) (f : Task → Task) : u.Calm (v.updTask k f) := h.keep rfl rfl

theorem updRank (h : u.Calm v) (k r : Nat) (f : Rank → Rank) : u.Calm (v.updRank k r f) := h.keep rfl rfl

theorem emit (h : u.Calm v) (e : Emit) : u.Calm (v.emit e) := h.keep rfl rfl

theorem draw (h : u.Calm v) : u.Calm v.draw.2 := h.keep rfl rfl

/-! Records. -/

theorem traceDev (h : u.Calm v) (ty d : Nat) : u.Calm (v.traceDev ty d) :=
  ite (((h.trigger _ _ _).lossTrigger _).devRecordAt _ _ _) h

theorem errCount (h : u.Calm v) (c : Nat) : u.Calm (v.errCount c) := h.bump (calmKey_of_far (by decide)) _ _ _

theorem logErr (h : u.Calm v) (e : ErrRec) : u.Calm (v.logErr e) := by
  unfold State.logErr
  extract_lets counted written logged raised
  have hcounted : u.Calm counted := h.errCount _
  have hwritten : u.Calm written := foldl (fun _ _ hw => hw.setReg (calmKey_of_far (by decide)) _) _ hcounted
  have hlogged : u.Calm logged := ite hcounted ((hwritten.setB (by decide) _ _).setF (by decide) _ _ _)
  have hraised : u.Calm raised := hlogged.when fun _ hw => hw.raise 0
  exact hraised.traceDev _ _

theorem unknownDone (h : u.Calm v) : u.Calm v.unknownDone := h.logErr _

theorem securityRec (h : u.Calm v) (n : Nat) (o : Option Nat) (d : List Word) : u.Calm (v.securityRec n o d) :=
  ite (h.logErr _) ((h.logErr _).raise 16)

theorem traceAnswer (h : u.Calm v) (k : Nat) : u.Calm (v.traceAnswer k) := by
  unfold State.traceAnswer
  split
  · exact h
  · exact ite h (ite (h.traceCmd _ _ _) (ite (h.traceCmd _ _ _) h))

/-! Ranks of a DISPATCH. -/

theorem continueOn (h : u.Calm v) (k r : Nat) (g : List Range) : u.Calm (v.continueOn k r g) := by
  unfold State.continueOn
  split
  · exact h.keep rfl rfl
  · exact h

theorem cancelConts (h : u.Calm v) (k : Nat) : u.Calm (v.cancelConts k) := foldl (fun _ _ hw => hw.returnRank _ _) _ (h.dropDue _)

theorem tryTrim (h : u.Calm v) (k r : Nat) (l : List Nat) : u.Calm (v.tryTrim k r l) := by
  unfold State.tryTrim
  split
  · exact h
  · dsimp only
    split
    · exact h.releaseRank _ _
    · exact h.keep rfl rfl

theorem steal (h : u.Calm v) (t : Task) (k r : Nat) : u.Calm (v.steal t k r) := by
  unfold State.steal
  split
  · exact (h.updTask _ _).continueOn _ _ _
  · split
    · exact (((h.updRank _ _ _).bump (by decide) _ _ _).count _ _ _).continueOn _ _ _
    · exact h.tryTrim _ _ _

theorem exhausted (h : u.Calm v) (k r : Nat) (b : Bool) : u.Calm (v.exhausted k r b) := by
  have hdone {f : Rank → Rank} : u.Calm (v.updRank k r f) := h.updRank _ _ _
  unfold State.exhausted
  dsimp only
  split
  · exact hdone
  · exact ite (hdone.releaseRank _ _) (ite (hdone.returnRank _ _) (ite (hdone.continueOn _ _ _) (ite (hdone.releaseRank _ _) (hdone.steal _ _ _))))

theorem trimAck (h : u.Calm v) (p : Nat) (b : Bool) (n : Nat) : u.Calm (v.trimAck p b n) := by
  unfold State.trimAck
  split
  · exact h
  next tr _ =>
    dsimp only
    have hgone : u.Calm { v with trims := v.trims.filter (fun x => x.victim ≠ p) } := h.keep rfl rfl
    split
    · exact hgone
    next t _ =>
      have hcounted {w : State} (hw : u.Calm w) (lo m i : Nat) : u.Calm ((w.bump .SCH_STEAL_CNT 0 0 lo m 1).count i 1 t.who) :=
        (hw.bump (by decide) _ _ _).count _ _ _
      have htrimmed (q : Nat) (f : Rank → Rank) := hcounted (hgone.updRank tr.task q f) 0 32 280
      exact ite (ite ((hcounted hgone 32 16 281).releaseRank _ _) ((hcounted hgone 32 16 281).tryTrim _ _ _))
        (ite ((htrimmed _ _).releaseRank _ _) (ite (((htrimmed _ _).updTask _ _).releaseRank _ _) ((htrimmed _ _).continueOn _ _ _)))

theorem missedTrim (h : u.Calm v) (p : Nat) : u.Calm (v.missedTrim p) := ite (h.trimAck _ _ _) h

/-! Faults and the sequences that tear down. -/

theorem discardFetched (h : u.Calm v) (q : Nat) : u.Calm (v.discardFetched q) := by
  unfold State.discardFetched
  split
  · exact h
  · exact h.keep rfl rfl

theorem haltTask (h : u.Calm v) (b : Bool) (k : Nat) : u.Calm (v.haltTask b k) := by
  have hdrop {p : Due → Bool} : u.Calm (v.dropDue p) := h.dropDue p
  unfold State.haltTask
  dsimp only
  split
  · exact hdrop
  · split
    · exact ite hdrop (((hdrop.discard k).cancelConts k).ranksCheck k)
    · exact ite hdrop (hdrop.taskGone _ _)
    · exact ite hdrop (hdrop.taskGone _ _)
    · exact ite (hdrop.discard k) ((hdrop.discard k).taskGone _ _)

theorem holdFlight (h : u.Calm v) (f : Nat) : u.Calm (v.holdFlight f) := by
  refine keep (v := State.unlist _ f) (unlist ?_ f) rfl rfl
  exact h.keep rfl rfl

theorem removeFlight (h : u.Calm v) (f : Nat) : u.Calm (v.removeFlight f) := by
  unfold State.removeFlight
  extract_lets listed ks traced
  have htraced : u.Calm traced := by
    refine foldl (fun w k hw => ?_) _ (h.unlist f)
    split
    · exact hw.traceComplete _ _
    · exact hw
  refine keep (v := ks.foldl State.dropTask (traced.freeEntry f)) (foldl (fun _ _ hw => hw.dropTask _) _ ?_) rfl rfl
  exact htraced.keep rfl rfl

theorem tdStep1 (h : u.Calm v) (d : Td) : u.Calm (v.tdStep1 d) := by
  unfold State.tdStep1
  extract_lets destroy qs fetched adm fs hold held halted ended
  have hfetched : u.Calm fetched := foldl (fun _ _ hw => hw.discardFetched _) _ h
  have hadm : u.Calm adm := ite (hfetched.keep rfl rfl) hfetched
  have hheld : u.Calm held := foldl (fun _ _ hw => hw.holdFlight _) _ hadm
  have hhalted : u.Calm halted := foldl (fun _ _ hw => hw.haltTask _ _) _ hheld
  have hended : u.Calm ended := ite hhalted (hhalted.keep rfl rfl)
  exact ite hended (foldl (fun _ _ hw => hw.removeFlight _) _ hended)

theorem takeTd (h : u.Calm v) (d : Td) : u.Calm (v.takeTd d) := by
  unfold State.takeTd
  split
  · exact ite (h.keep rfl rfl) (h.keep rfl rfl)
  · exact (h.errCount _).keep rfl rfl

theorem startAutotomy (h : u.Calm v) (g : Guilt) : u.Calm (v.startAutotomy g) := by
  refine ite h (ite (h.keep rfl rfl) (ite (h.errCount _) (takeTd (tdStep1 ?_ _) _)))
  exact h.keep rfl rfl

theorem guiltyTask (h : u.Calm v) (k n : Nat) (a : Word) : u.Calm (v.guiltyTask k n a) := by
  unfold State.guiltyTask
  split
  · exact h
  · exact h.startAutotomy _

theorem engineFault (h : u.Calm v) (k n : Nat) : u.Calm (v.engineFault k n) := by
  refine guiltyTask (h.when fun w hw => ?_) k 8 0
  split
  · exact hw.logErr _
  · exact hw.logErr _

/-! Dones. -/

theorem closeRun (h : u.Calm v) (k p : Nat) (r : Run) (n m : Nat) (b : Bool) : u.Calm (v.closeRun k p r n m b) :=
  updTask (ite h (h.giveNj _ _ _ _ _)) _ _

theorem coreDone (h : u.Calm v) (p : Nat) (r : Run) (d : HeldDone) : u.Calm (v.coreDone p r d) := by
  unfold State.coreDone
  split
  · exact h.unknownDone
  · dsimp only
    split
    · exact h.unknownDone
    · split
      · exact (((h.closeRun _ _ _ _ _ _).updRank _ _ _).traceAnswer _).exhausted _ _ _
      · exact ((((h.missedTrim p).closeRun _ _ _ _ _ _).updRank _ _ _).traceAnswer _).returnRank _ _
      · exact (((h.missedTrim p).closeRun _ _ _ _ _ _).traceAnswer _).releaseRank _ _
      · exact (((h.closeRun _ _ _ _ _ _).traceAnswer _).engineFault _ _).releaseRank _ _

theorem noteYield (h : u.Calm v) (k : Nat) : u.Calm (v.noteYield k) := by
  unfold State.noteYield
  split
  · exact h
  · exact ite (h.keep rfl rfl) (ite (h.keep rfl rfl) h)

theorem zeroSlot (h : u.Calm v) {k : Nat} (hk : k < 64) : u.Calm (v.zeroSlot k) := by
  have hkey : CalmKey (Reg.key .SEC_SLOT k 0) := by
    have hslot : Reg.key .SEC_SLOT k 0 = 0x80100 + 8 * k := rfl
    have hstat : Reg.key .TML_STAT 0 0 = 0xA0008 := rfl
    constructor <;> omega
  exact (h.setReg hkey 0).keep rfl rfl

theorem engDone (h : u.Calm v) (e : Nat) (r : Run) (d : HeldDone) : u.Calm (v.engDone e r d) := by
  unfold State.engDone
  split
  · exact h.unknownDone
  next t _ =>
    extract_lets k ended timed uncored answered gone zeroed torn early
    have hended : u.Calm ended := h.keep rfl rfl
    have huncored : u.Calm uncored := uncoreEnd (hended.updTask _ _) _
    have hanswered : u.Calm answered := traceAnswer (huncored.when fun _ hw => hw.noteYield _) _
    have hzeroed : u.Calm zeroed := hanswered.when fun _ hw => hw.zeroSlot (Nat.mod_lt _ (by decide))
    have hearly : u.Calm early := hzeroed.when fun _ hw => hw.updTask _ _
    refine ite h ?_
    split
    · exact ite (hearly.taskGone _ _) (hearly.commandComplete _)
    · exact ite (hzeroed.taskGone _ _) (ite (hzeroed.updTask _ _) ((hzeroed.segmentEnd _ _).updTask _ _))
    · exact hzeroed.taskGone _ _
    · exact hzeroed.unknownDone
    · exact (hzeroed.engineFault _ _).taskGone _ _

theorem applyDone (h : u.Calm v) (d : HeldDone) : u.Calm (v.applyDone d) := by
  unfold State.applyDone
  split
  · split
    · exact ite (h.trimAck _ _ _) h.unknownDone
    · split
      · exact ite (h.coreDone _ _ _) h.unknownDone
      · exact h.unknownDone
  · dsimp only
    split
    · exact h.engDone _ _ _
    · exact h.unknownDone

theorem doneArrives (h : u.Calm v) (d : HeldDone) : u.Calm (v.doneArrives d) := ite (ite (h.keep rfl rfl) h) (h.applyDone d)

end State.Calm

end Sys2Proof.Machine
end

section
/-! SUPPORT. What a node that is lost leaves alone: transfers that end or go another way, operations at the node, and the map that settles. -/

namespace Sys2Proof.Machine

namespace State.Calm

variable {u v w : State}

/-- The fields of TML_STAT behind LEAD_NODE. -/
theorem setStat (h : u.Calm v) {lo w : Nat} (hlo : 10 ≤ lo) (hw : lo + w ≤ 64) (x : Nat) : u.Calm (v.setF .TML_STAT 0 0 lo w x) :=
  h.setHigh (by decide) hlo hw rfl x

/-! Transfers. -/

theorem sendSeg (h : u.Calm v) (d c : Nat) (g : SegDesc) (p : List Word) : u.Calm (v.sendSeg d c g p) := by
  refine foldl (fun w e hw => hw.wire _ _) _ ?_
  exact h.keep rfl rfl

theorem payload (h : u.Calm v) (y : Xfer) (k n : Nat) : u.Calm (v.payload y k n) := by
  unfold State.payload
  split
  · exact ite h (h.keep rfl rfl)
  · exact h

theorem putSeg (h : u.Calm v) (x : Nat) (y : Xfer) (i : Nat) : u.Calm (v.putSeg x y i) := (h.sendSeg _ _ _ _).payload _ _ _

theorem resendSegs (h : u.Calm v) (x : Nat) : u.Calm (v.resendSegs x) := by
  unfold State.resendSegs
  split
  · exact h
  next y _ =>
    refine foldl (fun w i hw => hw.putSeg _ _ _) _ ?_
    refine keep (v := State.bump { v.dropSegs x with reads := v.reads } .TML_XFER 0 0 32 16 (y.out - y.covered)) (bump ?_ (by decide) _ _ _) rfl rfl
    exact h.keep rfl rfl

theorem moveXfer (h : u.Calm v) (x p : Nat) : u.Calm (v.moveXfer x p) := by
  unfold State.moveXfer
  split
  · exact h
  · exact ite h (h.keep rfl rfl)

theorem xferDone (h : u.Calm v) (x n : Nat) : u.Calm (v.xferDone x n) := by
  have hgone : u.Calm { v.dropSegs x with tml := { (v.dropSegs x).tml with xfers := Tab.erase v.tml.xfers x } } := h.keep rfl rfl
  unfold State.xferDone
  split
  · exact h
  · refine ite hgone ?_
    unfold State.xferRaise
    split
    · exact hgone
    · exact hgone.doneArrives _

theorem endUnlaunched (h : u.Calm v) (k n : Nat) : u.Calm (v.endUnlaunched k n) := by
  unfold State.endUnlaunched
  split
  · exact h
  · exact (h.endEarlyAt _ _ _ _ _).taskGone _ _

theorem xferEnd (h : u.Calm v) (x n : Nat) : u.Calm (v.xferEnd x n) := by
  unfold State.xferEnd
  split
  · exact h
  · exact ite ((h.xferDone _ _).endUnlaunched _ _) ((h.updTask _ _).xferDone _ _)

theorem reRouteXfers (h : u.Calm v) : u.Calm v.reRouteXfers := by
  unfold State.reRouteXfers
  extract_lets moved due routed
  have hrouted : u.Calm routed := by
    refine foldl (fun w x hw => ?_) _ (h.dropDue _)
    split
    · exact hw
    · refine ite (hw.xferEnd _ _) (ite hw (ite ((hw.bump (by decide) _ _ _).keep rfl rfl) ?_))
      split
      · exact ite (hw.xferEnd _ _) ((hw.moveXfer _ _).resendSegs _)
      · exact hw
  exact ite h (hrouted.keep rfl rfl)

/-! Operations at a node. -/

theorem endEarly (h : u.Calm v) (f n : Nat) : u.Calm (v.endEarly f n) := (h.unlist f).keep rfl rfl

theorem failRemote (h : u.Calm v) (p : Half → Bool) : u.Calm (v.failRemote p) := by
  refine foldl (fun w a hw => hw.endEarly _ _) _ ?_
  exact h.keep rfl rfl

theorem dropOps (h : u.Calm v) (n : Nat) : u.Calm (v.dropOps n) := by
  refine foldl (fun w o hw => ?_) _ ?_
  · extract_lets told
    have htold : u.Calm told := by
      unfold told
      split
      · exact hw.setB (calmKey_of_far (by decide)) _ _
      · exact hw
    split
    · exact htold
    · split
      · split
        · exact htold.endEarlyAt _ _ _ _ _
        · exact htold.endEarly _ _
      · exact htold.endEarly _ _
      · exact htold.endEarly _ _
      · exact htold.endEarly _ _
      · exact htold
  · exact h.keep rfl rfl

/-! Routes and the tree of time. -/

theorem reroute (h : u.Calm v) : u.Calm v.reroute := by
  refine foldl (fun w n hw => hw.setReg (calmKey_of_far (by decide)) _) _ ?_
  exact h.keep rfl rfl

theorem treeUpdate (h : u.Calm v) : u.Calm v.treeUpdate := by
  have hput (b : Bool) (p d : Nat) : u.Calm (((v.setB .TML_TIME_STAT 0 0 1 b).setF .TML_TIME_STAT 0 0 2 2 p).setF .TML_TIME_STAT 0 0 4 4 d) :=
    ((h.setB (by decide) _ _).setF (by decide) _ _ _).setF (by decide) _ _ _
  unfold State.treeUpdate
  dsimp only
  refine ite (hput _ _ _) ?_
  split
  · exact hput _ _ _
  · exact hput _ _ _

theorem grantCredits (h : u.Calm v) (n : Nat) : u.Calm (v.grantCredits n) :=
  (h.setF (calmKey_of_far (by decide)) _ _ _).setF (calmKey_of_far (by decide)) _ _ _

theorem leadRec (h : u.Calm v) (k n : Nat) : u.Calm (v.leadRec k n) := (h.logErr _).raise 15

theorem flooded (h : u.Calm v) (a q : Nat) (m : Msg) : u.Calm (v.flooded a q m).2 := by
  unfold State.flooded
  split
  · exact h
  · have hsees : u.Calm (v.sees a q) := h.keep rfl rfl
    dsimp only
    exact (hsees.flood a q m).send a _

theorem newEph (h : u.Calm v) : u.Calm v.newEph.2 := by
  have hkey : u.Calm v.genKey.2 := by
    unfold State.genKey
    exact (h.bump (by decide) _ _ _).draw
  unfold State.newEph
  dsimp only
  exact hkey.draw

theorem acks (h : u.Calm v) (a q : Nat) : u.Calm (v.acks a q) := h.send _ _

end State.Calm

/-- NODE, MEMBER, LEAD and LEAD_NODE of TML_STAT are as they were, where a node's key may have gone. -/
def State.Steady (u v : State) : Prop := ∀ b, b < 10 → v.rb .TML_STAT 0 0 b = u.rb .TML_STAT 0 0 b

namespace State.Steady

variable {u v w : State}

theorem refl (u : State) : u.Steady u := fun _ _ => rfl

theorem calm (h : u.Steady v) (hc : v.Calm w) : u.Steady w := fun b hb => (hc.stat b hb).trans (h b hb)

theorem keep (h : u.Steady v) (hr : w.regs = v.regs) : u.Steady w := fun b hb => (State.rb_congr hr).trans (h b hb)

theorem foldl {α : Type} {f : State → α → State} (hf : ∀ w a, u.Steady w → u.Steady (f w a)) (l : List α) (h : u.Steady v) :
    u.Steady (l.foldl f v) := by
  induction l generalizing v with
  | nil => exact h
  | cons a l ih => exact ih (hf v a h)

theorem nodeLost (h : u.Steady v) (n : Nat) : u.Steady (v.nodeLost n) := by
  unfold State.nodeLost
  extract_lets ops remote sems acqs tml gone xs
  have hacqs : v.Calm acqs := ((((State.Calm.refl v).dropOps n).failRemote _).foldl (fun _ _ hw => hw.endEarly _ _) _).dropAcqs _
  have hgone : u.Steady gone := (h.calm hacqs).keep rfl
  exact foldl (fun w x hw => hw.calm ((State.Calm.refl w).xferEnd _ _)) _ hgone

theorem reRouteXfers (h : u.Steady v) : u.Steady v.reRouteXfers := h.calm (State.Calm.refl v).reRouteXfers

theorem mapSettle (h : u.Steady v) : u.Steady v.mapSettle := by
  unfold State.mapSettle
  extract_lets dead cut shown routed
  have hcut : v.Calm cut := .foldlMem _
    (fun n hn w hw => hw.setStat (by omega) (by have := List.mem_range.mp (List.mem_of_mem_filter hn); omega) _) (.refl v)
  have hrouted : v.Calm routed := (hcut.setStat (lo := 15) (by decide) (by decide) _).reroute
  exact reRouteXfers (foldl (fun _ _ hw => hw.nodeLost _) _ (h.calm hrouted))

theorem startKex (h : u.Steady v) (n : Nat) : u.Steady (v.startKex n) := by
  unfold State.startKex
  split
  · exact h
  · split
    · exact h.keep rfl
    · have heph : u.Steady v.newEph.2 := h.calm (State.Calm.refl v).newEph
      generalize v.newEph = es at heph ⊢
      exact calm (v := es.2.setTml _) (heph.keep rfl) ((State.Calm.refl _).send n _)

end State.Steady

end Sys2Proof.Machine
end

section
/-! SUPPORT. Messages to the island and between its nodes (R340, R377 to R382): what their forwarding and their acknowledgement leave
alone, and the noise source while they go. -/

namespace Sys2Proof.Machine

variable {u v w : State}

theorem State.Sent.flood (h : w.Sent u) (a q : Nat) (m : Msg) : w.Sent (u.flood a q m) :=
  Sent.foldl h.upd fun _ _ hv => .ite (hv.txFrame _ _) hv

theorem State.Sent.flooded (h : w.Sent u) (a q : Nat) (m : Msg) : w.Sent (u.flooded a q m).2 := by
  unfold State.flooded
  split
  · exact h
  · have hsees : w.Sent (u.sees a q) := h.upd
    dsimp only
    exact (hsees.flood a q m).send a _ _ _ _ _

theorem State.Sent.acks (h : w.Sent u) (a q : Nat) : w.Sent (u.acks a q) := h.send _ _ _ _ _ _

/-- A field of TML_STAT in front of its tenth bit. -/
theorem State.Steady.rf (h : u.Steady v) {lo n : Nat} (hn : lo + n ≤ 10) : v.rf .TML_STAT 0 0 lo n = u.rf .TML_STAT 0 0 lo n := by
  refine Nat.eq_of_testBit_eq fun i => ?_
  rw [State.rf, State.rf, testBit_fld, testBit_fld]
  by_cases hi : i < n
  · rw [show (v.reg .TML_STAT 0 0).getLsbD (lo + i) = (u.reg .TML_STAT 0 0).getLsbD (lo + i) from h (lo + i) (by omega)]
  · simp [hi]

theorem State.Calm.steady (h : u.Calm v) : u.Steady v := h.stat

theorem State.Calm.member (h : u.Calm v) : v.member = u.member := h.stat 4 (by decide)

theorem State.Calm.isLead (h : u.Calm v) : v.isLead = u.isLead := h.stat 5 (by decide)

theorem State.Calm.leadNode (h : u.Calm v) : v.leadNode = u.leadNode := h.steady.rf (by decide)

theorem State.Calm.node (h : u.Calm v) : v.node = u.node := h.steady.rf (by decide)

theorem State.Sent.posn (h : u.Sent v) (hc : u.Calm v) : v.posn = u.posn := by
  have hmember := hc.member
  have hnode := hc.node
  obtain ⟨_, _, _, _, _, _, _, _, hu⟩ := h
  have hpos : v.tml.pos = u.tml.pos := by rw [hu]
  rw [State.posn, State.posn, hmember, hnode, hpos]

theorem State.flooded_seen {a q : Nat} (m : Msg) (h : u.tml.seen.contains (a, q) = true) : u.flooded a q m = (false, u) := if_pos h

theorem State.flooded_new {a q : Nat} (m : Msg) (h : u.tml.seen.contains (a, q) = false) : (u.flooded a q m).1 = true := by
  unfold State.flooded
  rw [if_neg (by rw [h]; decide)]

/-! SEC_STAT.ES_FAILED. -/

theorem secStat_ne_cnt (i : Nat) : Reg.key .OBS_CNT i 0 ≠ Reg.key .SEC_STAT 0 0 := by
  have hsec : Reg.key .SEC_STAT 0 0 = 0x80000 := by decide
  rw [hsec, key_obsCnt]
  omega

theorem State.esFailed_congr (h : v.regs = u.regs) : v.esFailed = u.esFailed := State.rb_congr h

theorem State.esFailed_cntAdd1 (i k : Nat) : (u.cntAdd1 i k).esFailed = u.esFailed := State.rb_setReg_other (secStat_ne_cnt i).symm

theorem State.esFailed_count (i k : Nat) (x : Who3) : (u.count i k x).esFailed = u.esFailed := by
  have hfold (js : List Nat) (w : State) : (js.foldl (fun s j => s.cntAdd1 (512 + j) k) w).esFailed = w.esFailed := by
    induction js generalizing w with
    | nil => rfl
    | cons j js ih => exact (ih _).trans (State.esFailed_cntAdd1 _ _)
  unfold State.count
  split
  · rfl
  · exact (hfold _ _).trans (State.esFailed_cntAdd1 _ _)

theorem State.esFailed_txNow (p : Nat) (f : Frame) : (u.txNow p f).esFailed = u.esFailed := by
  unfold State.txNow
  extract_lets x hd g0 sealed g queued wired keyed left counted
  have hwired : wired.esFailed = u.esFailed :=
    (State.esFailed_congr (State.segWired_wires _ f).1).trans (State.esFailed_congr (State.freeFrame_wires queued f).1)
  have hkeyed : keyed.esFailed = u.esFailed := by
    unfold keyed State.when
    split
    · exact hwired
    · exact hwired
  have hcounted : counted.esFailed = u.esFailed :=
    (State.esFailed_count _ _ _).trans ((State.rb_setF_other (secStat_ne p).2.symm).trans hkeyed)
  split
  · exact (State.esFailed_count _ _ _).trans hcounted
  · exact hcounted

theorem State.esFailed_pump (p n : Nat) : (u.pump p n).esFailed = u.esFailed := by
  induction n generalizing u with
  | zero => rfl
  | succ n ih =>
    unfold State.pump
    split
    · rfl
    · split
      · exact ih.trans (State.esFailed_txNow _ _)
      · rfl

theorem State.esFailed_wire (d : Nat) (f : Frame) : (u.wire d f).esFailed = u.esFailed := by
  unfold State.wire
  split
  · exact State.esFailed_pump _ _
  · rfl

theorem State.esFailed_send (d : Nat) (m : Msg) (f host : Option Nat) (cmd : Option CmdRef) (back : Bool) :
    (u.send d m f host cmd back).esFailed = u.esFailed := by
  unfold State.send
  dsimp only
  split
  · rfl
  · exact State.esFailed_wire _ _

end Sys2Proof.Machine
end

section
/-! SUPPORT. The exchanges of node keys (R340, R378). -/

namespace Sys2Proof.Machine

variable {u v w : State} {n : Nat}

/-- Messages leave the exchanges alone. -/
theorem State.Sent.kex (h : u.Sent v) :
    v.tml.kexMine = u.tml.kexMine ∧ v.tml.kexTheirs = u.tml.kexTheirs ∧ v.tml.kexWait = u.tml.kexWait := by
  obtain ⟨_, _, _, _, _, _, _, _, hv⟩ := h
  subst hv
  exact ⟨rfl, rfl, rfl⟩

theorem State.esFailed_newEph (u : State) : u.newEph.2.esFailed = u.esFailed :=
  State.rb_setF_ne u .SEC_STAT 0 0 _ (by decide) (by decide)

/-- What a node keeps as it begins an exchange. -/
def State.kexBegun (u : State) (n : Nat) : State :=
  u.newEph.2.setTml (fun m => { m with kexMine := Tab.set m.kexMine n u.newEph.1, kexTheirs := Tab.erase m.kexTheirs n })

theorem State.startKex_failed (hn : n ≠ u.posn) (hes : u.esFailed = true) :
    u.startKex n = u.setTml (fun m => { m with kexWait := m.kexWait.filter (fun k => k ≠ n) ++ [n] }) :=
  (if_neg hn).trans (if_pos hes)

theorem State.startKex_works (hn : n ≠ u.posn) (hes : u.esFailed = false) :
    u.startKex n = (u.kexBegun n).send n (.nodeKex (u.newEph.1.msg u.newEph.2.chain)) :=
  (if_neg hn).trans (if_neg (by rw [hes]; decide))

theorem State.startKex_begins (hn : n ≠ u.posn) (hes : u.esFailed = false) :
    (u.startKex n).esFailed = false ∧ Tab.get? (u.startKex n).tml.kexMine n = some u.newEph.1 := by
  have hsent := (State.Sent.refl (u.kexBegun n)).send n (.nodeKex (u.newEph.1.msg u.newEph.2.chain)) none none none false
  rw [State.startKex_works hn hes, State.esFailed_send, hsent.kex.1]
  exact ⟨(State.esFailed_newEph u).trans hes, Tab.get?_set_same _ _ _⟩

theorem State.nodeProof_kex (u : State) (n : Nat) :
    (u.nodeProof n).tml.kexMine = u.tml.kexMine ∧ (u.nodeProof n).tml.kexTheirs = u.tml.kexTheirs := by
  unfold State.nodeProof
  split
  next e h _ _ =>
    have hsent := (State.Sent.refl (u.proof e h).2).send n (.nodeKex (u.proof e h).1) none none none false
    exact ⟨hsent.kex.1, hsent.kex.2.1⟩
  · exact ⟨rfl, rfl⟩

/-- With a working noise source a HELLO is kept, and this end's own has gone. -/
theorem State.nodeHello_answers {h : Hello} (hn : n ≠ u.posn) (hes : u.esFailed = false) (ht : Tab.get? u.tml.kexTheirs n = some h) :
    Tab.get? (u.nodeHello n).tml.kexTheirs n = some h ∧ (Tab.get? (u.nodeHello n).tml.kexMine n).isSome = true := by
  obtain ⟨hworks, hmine⟩ := State.startKex_begins hn hes
  unfold State.nodeHello
  split
  next e he =>
    obtain ⟨hkm, hkt⟩ := u.nodeProof_kex n
    rw [hkm, hkt, he]
    exact ⟨ht, rfl⟩
  · dsimp only
    rw [if_neg (by rw [hworks]; decide), ht]
    dsimp only
    obtain ⟨hkm, hkt⟩ := ((u.startKex n).setTml (fun m => { m with kexTheirs := Tab.set m.kexTheirs n h })).nodeProof_kex n
    rw [hkm, hkt]
    exact ⟨Tab.get?_set_same _ _ _, (congrArg Option.isSome hmine).trans rfl⟩

/-- While the noise source fails, the answer to a HELLO waits. -/
theorem State.nodeHello_waits (hn : n ≠ u.posn) (hes : u.esFailed = true) (hm : Tab.get? u.tml.kexMine n = none) :
    u.nodeHello n = u.setTml (fun m => { m with kexWait := m.kexWait.filter (fun k => k ≠ n) ++ [n] }) := by
  have hstill : (u.setTml (fun m => { m with kexWait := m.kexWait.filter (fun k => k ≠ n) ++ [n] })).esFailed = true := hes
  unfold State.nodeHello
  rw [hm]
  dsimp only
  rw [State.startKex_failed hn hes, if_pos hstill]

/-- A PROOF from a node with which an exchange is under way ends it. -/
def State.kexEnded (u : State) (n : Nat) : State :=
  u.setTml (fun m => { m with kexMine := Tab.erase m.kexMine n, kexTheirs := Tab.erase m.kexTheirs n })

theorem State.nodeKeyed_member (h : u.isLead = false) : u.nodeKeyed n = u := if_pos (by rw [h]; decide)

end Sys2Proof.Machine
end

section
/-! SUPPORT. A LEAD that names this node (R356, R377). -/

namespace Sys2Proof.Machine

variable {u v w : State} {n : Nat}

namespace State.Steady

theorem ite {c : Prop} [Decidable c] (hv : u.Steady v) (hw : u.Steady w) : u.Steady (if c then v else w) := by
  split
  · exact hv
  · exact hw

/-- What follows once TML_STAT shows the lead: the map settles, nodes come and go, and the keys with the deputy begin. -/
theorem led (h : u.Steady v) (new gone : List Nat) (changed : Bool) (a : Nat) :
    u.Steady (((gone.foldl State.nodeLost (new.foldl State.grantCredits v.mapSettle)).reRouteXfers.treeUpdate).when changed
      (fun s => (s.bump .TML_STAT 0 0 32 16 1).leadRec 1 a)) := by
  have hgranted : u.Steady (new.foldl State.grantCredits v.mapSettle) :=
    foldl (fun w n hw => hw.calm ((State.Calm.refl w).grantCredits n)) _ h.mapSettle
  have hrouted : u.Steady (gone.foldl State.nodeLost (new.foldl State.grantCredits v.mapSettle)).reRouteXfers :=
    reRouteXfers (foldl (fun _ n hw => hw.nodeLost n) _ hgranted)
  have htree := hrouted.calm (State.Calm.refl _).treeUpdate
  exact ite (htree.calm (((State.Calm.refl _).setStat (by decide) (by decide) _).leadRec 1 a)) htree

end State.Steady

/-- The node is a member of the island that `a` leads. -/
def State.LedBy (a : Nat) (v : State) : Prop := v.member = true ∧ v.leadNode = a ∧ v.isLead = false

theorem State.LedBy.steady {a : Nat} (h : u.LedBy a) (hs : u.Steady v) : v.LedBy a :=
  ⟨(hs 4 (by decide)).trans h.1, (hs.rf (by decide)).trans h.2.1, (hs 5 (by decide)).trans h.2.2⟩

theorem State.LedBy.setTml {a : Nat} (h : u.LedBy a) (f : Tml → Tml) : (u.setTml f).LedBy a := h.steady ((State.Steady.refl u).keep rfl)

/-- TML_STAT as a LEAD of node `a` sets it. -/
theorem State.ledBy_set {a : Nat} (ha : a < 16) (x : Nat) (b : Bool) :
    State.LedBy a ((((((u.setB .TML_STAT 0 0 4 true).setB .TML_STAT 0 0 5 false).setF .TML_STAT 0 0 6 4 a).setF .TML_STAT 0 0 10 4 x).setB
      .TML_STAT 0 0 14 b)) := by
  refine ⟨?_, ?_, ?_⟩
  · unfold State.member
    rw [State.rb_setB_ne _ _ _ _ _ (by decide) (by decide), State.rb_setF_ne _ _ _ _ _ (by decide) (by decide),
      State.rb_setF_ne _ _ _ _ _ (by decide) (by decide), State.rb_setB_ne _ _ _ _ _ (by decide) (by decide)]
    exact State.rb_setB_same _ _ _ _ _ (by decide)
  · unfold State.leadNode
    rw [State.rf_setB_ne _ _ _ _ _ (by decide) (by decide), State.rf_setF_ne _ _ _ _ _ (by decide) (by decide)]
    exact (State.rf_setF_same _ _ _ _ _ (by decide)).trans (Nat.mod_eq_of_lt ha)
  · unfold State.isLead
    rw [State.rb_setB_ne _ _ _ _ _ (by decide) (by decide), State.rb_setF_ne _ _ _ _ _ (by decide) (by decide),
      State.rb_setF_ne _ _ _ _ _ (by decide) (by decide)]
    exact State.rb_setB_same _ _ _ _ _ (by decide)

theorem State.msgLead_ledBy {a q : Nat} {l : BitVec 16} {up : Word} {dep : Option Nat} (hnew : u.tml.seen.contains (a, q) = false)
    (hlive : l.getLsbD u.posn = true) (ha : a < 16) (hself : a ≠ u.posn) (hin : u.member = true ∨ u.tml.granted = true) :
    (u.msgLead a q l up dep).LedBy a := by
  have hcalm := (State.Calm.refl u).flooded a q (.lead l up dep)
  have hposn := ((State.Sent.refl u).flooded a q (.lead l up dep)).posn hcalm
  have hgranted : (u.flooded a q (.lead l up dep)).2.tml.granted = u.tml.granted := by
    obtain ⟨_, _, _, _, _, _, _, _, h⟩ := (State.Sent.refl u).flooded a q (.lead l up dep)
    rw [h]
  have hgo : ¬ (!(u.flooded a q (.lead l up dep)).1 || decide (a = (u.flooded a q (.lead l up dep)).2.posn)
      || !l.getLsbD (u.flooded a q (.lead l up dep)).2.posn
      || !((u.flooded a q (.lead l up dep)).2.member || (u.flooded a q (.lead l up dep)).2.tml.granted)) = true := by
    rw [State.flooded_new _ hnew, hposn, hlive, hcalm.member, hgranted]
    obtain h | h := hin
    · simp [h, hself]
    · simp [h, hself]
  unfold State.msgLead
  extract_lets r flooded
  split
  next h => exact absurd h hgo
  next was old placed gone new deputy shown named kept held granted routed told _ =>
    have hheld : State.LedBy a held := (State.ledBy_set (u := shown) ha _ _).setTml _
    have htold : State.LedBy a told := hheld.steady ((State.Steady.refl held).led new gone (was && decide (old ≠ a)) a)
    split
    · exact htold.steady (.ite ((State.Steady.refl _).startKex _) (.refl _))
    · exact htold

end Sys2Proof.Machine
end

section
/-! The obligation on the members of an island. -/

namespace Sys2Proof.Machine

variable {u v : State} {a q n : Nat}

theorem State.msgHeartbeat_taken {d : Nat} (hnew : u.tml.seen.contains (a, q) = false) (hm : u.member = true) (hn : n = u.leadNode) :
    u.msgHeartbeat a q n d = (u.flooded a q (.heartbeat n d)).2.setTml (fun m => { m with hbAt := (u.flooded a q (.heartbeat n d)).2.ref }) := by
  have hcalm := (State.Calm.refl u).flooded a q (.heartbeat n d)
  refine if_pos ?_
  rw [State.flooded_new _ hnew, hcalm.member, hcalm.leadNode, hm, hn]
  simp

theorem State.msgHeartbeat_passed {d : Nat} (hn : u.member = false ∨ n ≠ u.leadNode) :
    u.msgHeartbeat a q n d = (u.flooded a q (.heartbeat n d)).2 := by
  have hcalm := (State.Calm.refl u).flooded a q (.heartbeat n d)
  refine if_neg ?_
  rw [hcalm.member, hcalm.leadNode]
  obtain h | h := hn
  · simp [h]
  · simp [h]

theorem State.msgLost_link {p : Option Nat} (hnew : u.tml.seen.contains (a, q) = false) :
    u.msgLost a q n p none = (u.flooded a q (.lost n p none)).2.noteLoss n p := by
  unfold State.msgLost
  dsimp only
  rw [State.flooded_new _ hnew]

theorem State.msgLost_context {p : Option Nat} {c : Nat} (hnew : u.tml.seen.contains (a, q) = false) (hn : n ≠ u.node) :
    u.msgLost a q n p (some c) = (u.flooded a q (.lost n p (some c))).2.homeCtxGone c n := by
  unfold State.msgLost
  dsimp only
  rw [State.flooded_new _ hnew]
  exact if_neg hn

theorem State.msgLead_elsewhere {l : BitVec 16} {up : Word} {dep : Option Nat} (hlive : l.getLsbD u.posn = false) :
    u.msgLead a q l up dep = (u.flooded a q (.lead l up dep)).2 := by
  have hposn := ((State.Sent.refl u).flooded a q (.lead l up dep)).posn ((State.Calm.refl u).flooded a q (.lead l up dep))
  refine if_pos ?_
  rw [hposn, hlive]
  simp

/-- A message seen before does nothing. -/
theorem State.seen_silent (h : u.tml.seen.contains (a, q) = true) :
    (∀ d, u.msgHeartbeat a q n d = u) ∧ (∀ p c, u.msgLost a q n p c = u) ∧ u.msgLeave a q n = u
    ∧ (∀ l up dep, u.msgLead a q l up dep = u) := by
  have hold (m : Msg) : u.flooded a q m = (false, u) := State.flooded_seen m h
  refine ⟨fun d => ?_, fun p c => ?_, ?_, fun l up dep => ?_⟩
  · simp [State.msgHeartbeat, hold]
  · simp [State.msgLost, hold]
  · simp [State.msgLeave, hold]
  · simp [State.msgLead, hold]

theorem State.msgJoinReq_lead {i : Half} (hl : u.isLead = true) (hn : n < 16) (hi : i.toNat = u.rf .TML_CFG 0 0 32 32) :
    u.msgJoinReq a q i n = if u.nodeUp n then (u.send a (.refuse q 7 0)).leadRec 4 n
      else ((u.acks a q).setTml (fun m => { m with joining := m.joining ++ [n] })).send n (.joinGrant i n) :=
  if_neg (by simp [hl, hi, hn])

/-- A HELLO of another node while the noise source works. -/
theorem State.msgNodeKex_hello {r : BitVec 256} {k : BitVec 776} {c : List Byte} {ok : Bool} (hes : u.esFailed = false) (hself : a ≠ u.posn) :
    Tab.get? (u.msgNodeKex a q (.hello r k c) ok).tml.kexTheirs a = some { rand := r, pub := k }
    ∧ (Tab.get? (u.msgNodeKex a q (.hello r k c) ok).tml.kexMine a).isSome = true := by
  have hposn := ((State.Sent.refl u).acks a q).posn ((State.Calm.refl u).acks a q)
  have hworks : (u.acks a q).esFailed = false := (State.esFailed_send ..).trans hes
  exact State.nodeHello_answers
    (u := (u.acks a q).setTml (fun m => { m with kexTheirs := Tab.set m.kexTheirs a { rand := r, pub := k } }))
    (fun h => hself (h.trans hposn)) hworks (Tab.get?_set_same _ _ _)

/-- A HELLO while the noise source fails. -/
theorem State.msgNodeKex_hello_failed {r : BitVec 256} {k : BitVec 776} {c : List Byte} {ok : Bool} (hes : u.esFailed = true)
    (hself : a ≠ u.posn) (hm : Tab.get? u.tml.kexMine a = none) :
    a ∈ (u.msgNodeKex a q (.hello r k c) ok).tml.kexWait ∧ Tab.get? (u.msgNodeKex a q (.hello r k c) ok).tml.kexMine a = none := by
  have hsent := (State.Sent.refl u).acks a q
  have hposn := hsent.posn ((State.Calm.refl u).acks a q)
  have hfails : (u.acks a q).esFailed = true := (State.esFailed_send ..).trans hes
  have hnone : Tab.get? (u.acks a q).tml.kexMine a = none := by rw [hsent.kex.1, hm]
  have hwaits := State.nodeHello_waits
    (u := (u.acks a q).setTml (fun m => { m with kexTheirs := Tab.set m.kexTheirs a { rand := r, pub := k } }))
    (fun h => hself (h.trans hposn)) hfails hnone
  have hmsg : u.msgNodeKex a q (.hello r k c) ok = ((u.acks a q).setTml
      (fun m => { m with kexTheirs := Tab.set m.kexTheirs a { rand := r, pub := k } })).nodeHello a := rfl
  rw [hmsg, hwaits]
  exact ⟨List.mem_append_right _ List.mem_cons_self, hnone⟩

/-- A PROOF ends the exchange that its HELLOs began. -/
theorem State.msgNodeKex_proof {g : BitVec 768} {ok : Bool} {e : Eph} {h : Hello} (hm : Tab.get? u.tml.kexMine a = some e)
    (ht : Tab.get? u.tml.kexTheirs a = some h) :
    u.msgNodeKex a q (.proof g) ok = if !ok
      then ((u.acks a q).kexEnded a).securityRec 5 (some a)
        [BitVec.ofNat 64 (((((u.acks a q).kexEnded a).hopTo a).map (·.1)).getD 0), 0, 0]
      else (((u.acks a q).kexEnded a).setTml (fun m => { m with nodeKeys := Tab.set m.nodeKeys a (e.nodeKey h) })).nodeKeyed a := by
  have hsent := (State.Sent.refl u).acks a q
  have hmine : Tab.get? (u.acks a q).tml.kexMine a = some e := by rw [hsent.kex.1, hm]
  have htheirs : Tab.get? (u.acks a q).tml.kexTheirs a = some h := by rw [hsent.kex.2.1, ht]
  unfold State.msgNodeKex
  dsimp only
  rw [hmine, htheirs]
  rfl

theorem State.msgNodeKex_stray {g : BitVec 768} {ok : Bool} (hm : Tab.get? u.tml.kexMine a = none) :
    u.msgNodeKex a q (.proof g) ok = u.acks a q := by
  have hmine : Tab.get? (u.acks a q).tml.kexMine a = none := by rw [((State.Sent.refl u).acks a q).kex.1, hm]
  unfold State.msgNodeKex
  dsimp only
  rw [hmine]

theorem State.arcUp_setTml (f : Tml → Tml) (p k n : Nat) : (u.setTml f).arcUp p k n = u.arcUp p k n := by
  induction k generalizing n with
  | zero => rfl
  | succ k ih => exact congrArg (u.hopUp n p && ·) (ih _)

theorem State.ringDir_setTml (f : Tml → Tml) (p m n d k : Nat) : (u.setTml f).ringDir p m n d k = u.ringDir p m n d k := by
  simp only [State.ringDir, State.arcUp_setTml]

theorem State.arcs_setTml (f : Tml → Tml) (x : Bool) (n m : Nat) : (u.setTml f).arcs x n m = u.arcs x n m := by
  simp only [State.arcs, State.ringDir_setTml]
  rfl

/-- The paths rest on the registers alone. -/
theorem State.reachable_setTml (f : Tml → Tml) (n : Nat) : (u.setTml f).reachable n = u.reachable n := by
  simp only [State.reachable, State.route, State.routeArcs, State.arcs_setTml]
  rfl

theorem State.settleEnd_quiet {m : Nat} (hs : u.tml.settle = some m) (hm : m ≤ u.ref) (hin : u.member = true) (hold : u.tml.oldLead = none)
    (hreach : ∀ n, n < 16 → u.nodeUp n = true → u.reachable n = true) :
    u.settleEnd = if u.isLead then (u.setTml (fun m => { m with settle := none, oldLead := none })).treeUpdate.sendLead
      else (u.setTml (fun m => { m with settle := none, oldLead := none })).treeUpdate := by
  have hfar : (List.range 16).filter (fun n => u.nodeUp n && !u.reachable n) = [] := by
    refine List.filter_eq_nil_iff.mpr fun n hn => ?_
    cases hup : u.nodeUp n
    · simp
    · simp [hreach n (List.mem_range.mp hn) hup]
  have hfar' : (List.range 16).filter (fun n => (u.setTml (fun m => { m with settle := none, oldLead := none })).nodeUp n
      && !(u.setTml (fun m => { m with settle := none, oldLead := none })).reachable n) = [] := by
    simp only [State.reachable_setTml]
    exact hfar
  unfold State.settleEnd
  rw [hs]
  dsimp only
  rw [if_neg (by simp [hin, hm]), hold]
  dsimp only
  rw [hfar']
  rfl

theorem State.leaveLimit_empty {m : Nat} (hl : u.tml.leaveAt = some m) (hm : m ≤ u.ref) (hi : u.tml.inb = []) (hx : u.tml.xfers = []) :
    u.leaveLimit = u.finishLeave := by
  have hsame : u.setTml (fun m => { m with inb := [] }) = u := by
    unfold State.setTml
    rw [← hi]
  unfold State.leaveLimit
  rw [hl]
  dsimp only
  rw [if_neg (Nat.not_lt.mpr hm), hi, List.foldl_nil, hsame, hx, List.foldl_nil]

/-- Settles O41: what a message that is sent leaves alone carries each clause to the state in which it came. -/
theorem membersKeepTheirLead : Obligations.MembersKeepTheirLead := by
  unfold Obligations.MembersKeepTheirLead
  refine ⟨?_, ?_, ?_, ?_, ?_, ?_, ?_, ?_, ?_, ?_, ?_, ?_, ?_, ?_, ?_, ?_, ?_, ?_, ?_, ?_, ?_, ?_, ?_, ?_, ?_, ?_⟩
  · intro s t a q n d u h hold
    obtain ⟨hbeat, hlost, hleave, hlead⟩ := State.seen_silent (n := n) hold
    exact ⟨leaves_link (·.msgHeartbeat a q n d) h rfl (hbeat d), fun p c => leaves_link (·.msgLost a q n p c) h rfl (hlost p c),
      leaves_link (·.msgLeave a q n) h rfl hleave, fun l up dep => leaves_link (·.msgLead a q l up dep) h rfl (hlead l up dep)⟩
  · intro s t a q n d u v h hnew hm hn hv
    rw [hv]
    exact leaves_link (·.msgHeartbeat a q n d) h rfl (State.msgHeartbeat_taken hnew hm hn)
  · intro s t a q n d u h hnew hn
    exact leaves_link (·.msgHeartbeat a q n d) h rfl (State.msgHeartbeat_passed hn)
  · intro s t a q n p u h hnew
    exact leaves_link (·.msgLost a q n p none) h rfl (State.msgLost_link hnew)
  · intro s t a q n p c u h hnew hn
    exact leaves_link (·.msgLost a q n p (some c)) h rfl (State.msgLost_context hnew hn)
  · intro s t a q n u h hnew v
    have hgo : ¬ (!(u.flooded a q (.leave n)).1) = true := by
      rw [State.flooded_new _ hnew]
      decide
    refine ⟨fun hn ha hm => ?_, fun hn => ?_⟩
    · exact leaves_link (·.msgLeave a q n) h rfl ((if_neg hgo).trans (if_pos (show _ = true by simp [← hn, ha, v, hm])))
    · refine leaves_link (·.msgLeave a q n) h rfl ((if_neg hgo).trans (if_neg ?_))
      obtain hn | hn | hn := hn
      · simp [hn, v]
      · simp [hn]
      · simp [hn, v]
  · intro s t a q l up dep u h hnew hlive
    exact leaves_link (·.msgLead a q l up dep) h rfl (State.msgLead_elsewhere hlive)
  · intro s t a q l up dep u h hnew hlive ha hself hin
    exact (leaves_link (·.msgLead a q l up dep) h rfl rfl).some (State.msgLead_ledBy hnew hlive ha hself hin)
  · intro s t a q i n u h hl hn hi hup
    exact leaves_link (·.msgJoinReq a q i n) h rfl ((State.msgJoinReq_lead hl hn hi).trans (if_neg (by rw [hup]; decide)))
  · intro s t a q i n u h hl hn hi hup
    exact leaves_link (·.msgJoinReq a q i n) h rfl ((State.msgJoinReq_lead hl hn hi).trans (if_pos hup))
  · intro s t a q i n u h hl
    exact leaves_link (·.msgJoinReq a q i n) h rfl (if_pos (by simp [hl]))
  · intro s t a q i n u h hm hg hi
    exact leaves_link (·.msgJoinGrant a q i n) h rfl (if_neg (by simp [hm, hg, hi]))
  · intro s t a q f m u h
    exact leaves_link (·.msgKey a q f m) h rfl rfl
  · intro s t a q r k c ok u h hes hself
    exact (leaves_link (·.msgNodeKex a q (.hello r k c) ok) h rfl rfl).some (State.msgNodeKex_hello hes hself)
  · intro s t a q r k c ok u h hes hself hm
    exact (leaves_link (·.msgNodeKex a q (.hello r k c) ok) h rfl rfl).some (State.msgNodeKex_hello_failed hes hself hm)
  · intro s t a q g u e x h hm hx
    refine ⟨fun hl => ?_, ?_⟩
    · have hlead : (u.acks a q).isLead = false := ((State.Calm.refl u).acks a q).isLead.trans hl
      refine (leaves_link (·.msgNodeKex a q (.proof g) true) h rfl ((State.msgNodeKex_proof hm hx).trans
        (State.nodeKeyed_member (u := ((u.acks a q).kexEnded a).setTml _) hlead))).some ⟨?_, ?_⟩
      · exact Tab.get?_set_same _ _ _
      · exact Tab.get?_erase_same _ _
    · refine (leaves_link (·.msgNodeKex a q (.proof g) false) h rfl (State.msgNodeKex_proof hm hx)).some ?_
      have hcalm := (State.Calm.refl ((u.acks a q).kexEnded a)).securityRec 5 (some a)
        [BitVec.ofNat 64 (((((u.acks a q).kexEnded a).hopTo a).map (·.1)).getD 0), 0, 0]
      refine ⟨hcalm.nodeKeys.trans ((State.Calm.refl u).acks a q).nodeKeys, ?_⟩
      exact (congrArg (Tab.get? · a) hcalm.kexMine).trans (Tab.get?_erase_same _ _)
  · intro s t a q g ok u h hm
    exact leaves_link (·.msgNodeKex a q (.proof g) ok) h rfl (State.msgNodeKex_stray hm)
  · intro s t u h hl hdue
    exact leaves_link (·.heartbeat) h rfl (if_neg (by simp [hl, hdue]))
  · intro s t u h hl
    refine leaves_link (·.heartbeat) h rfl (if_pos ?_)
    obtain hl | hl := hl
    · simp [hl]
    · simp [hl]
  · intro s t u h hm hl hold hdue
    exact leaves_link (·.leadTimeout) h rfl (if_neg (by simp [hm, hl, hold, hdue]))
  · intro s t u h hdue
    exact leaves_link (·.leadTimeout) h rfl (if_pos (by simp [hdue]))
  · intro s t u a h hs ha hm hold hreach
    have hend := State.settleEnd_quiet hs ha hm hold hreach
    exact ⟨fun hl => leaves_link (·.settleEnd) h rfl (hend.trans (if_neg (by rw [hl]; decide))),
      fun hl => leaves_link (·.settleEnd) h rfl (hend.trans (if_pos hl))⟩
  · intro s t u a h hs ha
    refine leaves_link (·.settleEnd) h rfl ?_
    unfold State.settleEnd
    rw [hs]
    exact if_pos (by simp [ha])
  · intro s t u h hm hl
    exact leaves_mgmtWr (·.plannedLeave) h rfl (if_neg (by simp [hm, hl]))
  · intro s t u a h hl ha hi hx
    exact leaves_link (·.leaveLimit) h rfl (State.leaveLimit_empty hl ha hi hx)
  · intro s t u a h hl ha
    refine leaves_link (·.leaveLimit) h rfl ?_
    unfold State.leaveLimit
    rw [hl]
    exact if_pos ha

end Sys2Proof.Machine
end

section
/-! SUPPORT. Lines of memory under the cipher (R317, R319, R320): a line that is enciphered twice is what it was, the counters of a path
advance, and the metadata cache marks them. How many lines the cache then writes back is a free value (log 147), and `Config.free` is a
constant without a body; what O48 says of them comes down to a value of it. -/

namespace Sys2Proof.Machine

variable {u v w : State} {t line : Nat} {fn : Option Nat}

/-! Blocks and qwords. -/

theorem beBytes_word (a : Word) : ((List.range 8).map (fun i => fld a (8 * i) 8)).reverse = beBytes 8 a.toNat := List.map_reverse.symm

theorem Bytes.word (a : Word) : Bytes ((List.range 8).map (fun i => fld a (8 * i) 8)) := by
  intro x hx
  obtain ⟨i, -, rfl⟩ := List.mem_map.mp hx
  exact Nat.mod_lt _ (by decide)

theorem beNat_word (a : Word) : BitVec.ofNat 64 (beNat ((List.range 8).map (fun i => fld a (8 * i) 8)).reverse) = a := by
  rw [beBytes_word, beNat_beBytes, show 256 ^ 8 = 2 ^ 64 by decide, Nat.mod_eq_of_lt a.isLt, BitVec.ofNat_toNat, BitVec.setWidth_eq]

theorem blockOf_lt (a b : Word) : blockOf a b < 2 ^ 128 := by
  have hlt := ((Bytes.word a).append (.word b)).beNat_lt
  rw [List.length_append, List.length_map, List.length_map, List.length_range] at hlt
  exact Nat.lt_of_lt_of_eq hlt (by decide)

theorem blockWords_blockOf (a b : Word) : blockWords (blockOf a b) = [a, b] := by
  have hbytes : beBytes 16 (blockOf a b) = (List.range 8).map (fun i => fld a (8 * i) 8) ++ (List.range 8).map (fun i => fld b (8 * i) 8) :=
    ((Bytes.word a).append (.word b)).beBytes_beNat
  unfold blockWords
  rw [hbytes, cutBy_append (f := 1) (by simp) (by decide)]
  show [BitVec.ofNat 64 (beNat ((List.range 8).map (fun i => fld a (8 * i) 8)).reverse),
    BitVec.ofNat 64 (beNat ((List.range 8).map (fun i => fld b (8 * i) 8)).reverse)] = _
  rw [beNat_word, beNat_word]

theorem flatMap_lineBlocks {d : List Word} (h : d.length % 2 = 0) : (lineBlocks d).flatMap blockWords = d := by
  induction d using lineBlocks.induct with
  | case1 a b l ih =>
    rw [lineBlocks, List.flatMap_cons, blockWords_blockOf, ih (by simp only [List.length_cons] at h; omega)]
    rfl
  | case2 d hshort =>
    match d with
    | [] => rfl
    | [a] => exact absurd h (by simp)
    | a :: b :: l => exact absurd rfl (hshort a b l)

theorem lineBlocks_lt (d : List Word) : ∀ x ∈ lineBlocks d, x < 2 ^ 128 := by
  induction d using lineBlocks.induct with
  | case1 a b l ih => exact List.forall_mem_cons.mpr ⟨blockOf_lt a b, ih⟩
  | case2 d hshort =>
    rw [lineBlocks]
    · exact fun x hx => absurd hx List.not_mem_nil
    · exact hshort

theorem lineCrypt_lineCrypt (k : BitVec 256) (n l p : Nat) (bs : List Nat) : lineCrypt k n l p (lineCrypt k n l p bs) = bs := by
  refine List.ext_getElem (by simp [lineCrypt]) fun i _ _ => ?_
  simp [lineCrypt]

theorem lineCrypt_lt {k : BitVec 256} {n l p : Nat} {bs : List Nat} (h : ∀ x ∈ bs, x < 2 ^ 128) :
    ∀ x ∈ lineCrypt k n l p bs, x < 2 ^ 128 := by
  intro x hx
  obtain ⟨⟨b, i⟩, hb, rfl⟩ := List.mem_map.mp hx
  exact Nat.xor_lt_two_pow (h b (List.fst_mem_of_mem_zipIdx hb)) (aes256_lt _ _)

theorem toNat_blocks {bs : List Nat} (h : ∀ x ∈ bs, x < 2 ^ 128) : (bs.map (BitVec.ofNat 128)).map BitVec.toNat = bs := by
  rw [List.map_map]
  refine (List.map_congr_left fun x hx => ?_).trans (List.map_id bs)
  exact Nat.mod_eq_of_lt (h x hx)

/-! Counters. -/

theorem State.ctr_setCtr_same {l i n : Nat} : (u.setCtr t l i n).ctr t l i = n := by
  simp [State.ctr, State.setCtr, Tab.getD, Tab.get?_set_same]

theorem State.ctr_setCtr_ne {l i n l' i' : Nat} (h : (l', i') ≠ (l, i)) : (u.setCtr t l i n).ctr t l' i' = u.ctr t l' i' := by
  by_cases hl : l' = l
  · subst hl
    have hi : i' ≠ i := fun hi => h (by rw [hi])
    simp [State.ctr, State.setCtr, Tab.getD, Tab.get?_set_same, Tab.get?_set_ne _ _ hi]
  · have hkey : ctrKey t l' ≠ ctrKey t l := fun hk => hl (Nat.add_left_cancel hk)
    simp [State.ctr, State.setCtr, Tab.getD, Tab.get?_set_ne _ _ hkey]

/-- The counters of some places have advanced. -/
def State.advance (u : State) (t : Nat) (ps : List (Nat × Nat)) : State := ps.foldl (fun s p => s.setCtr t p.1 p.2 (s.ctr t p.1 p.2 + 1)) u

theorem State.advance_eq (ps : List (Nat × Nat)) : ∃ c, u.advance t ps = { u with sec := { u.sec with ctrs := c } } := by
  induction ps generalizing u with
  | nil => exact ⟨_, rfl⟩
  | cons p ps ih => exact ih

theorem State.ctr_advance_not_mem {ps : List (Nat × Nat)} {p : Nat × Nat} (h : p ∉ ps) : (u.advance t ps).ctr t p.1 p.2 = u.ctr t p.1 p.2 := by
  induction ps generalizing u with
  | nil => rfl
  | cons q ps ih =>
    obtain ⟨hq, hps⟩ := not_or.mp (fun hm => h (List.mem_cons.mpr hm))
    exact (ih hps).trans (State.ctr_setCtr_ne hq)

theorem State.ctr_advance_mem {ps : List (Nat × Nat)} {p : Nat × Nat} (hd : ps.Nodup) (h : p ∈ ps) :
    (u.advance t ps).ctr t p.1 p.2 = u.ctr t p.1 p.2 + 1 := by
  induction ps generalizing u with
  | nil => exact absurd h List.not_mem_nil
  | cons q ps ih =>
    obtain ⟨hq, hps⟩ := List.nodup_cons.mp hd
    by_cases hp : p = q
    · subst hp
      exact (State.ctr_advance_not_mem hq).trans State.ctr_setCtr_same
    · exact (ih hps ((List.mem_cons.mp h).resolve_left hp)).trans (congrArg (· + 1) (State.ctr_setCtr_ne hp))

theorem State.treePath_nodup : (u.treePath t line).Nodup :=
  List.Nodup.map (fun _ _ h => congrArg Prod.fst h) List.nodup_range

theorem State.line_mem_treePath : (0, line) ∈ u.treePath t line :=
  List.mem_map.mpr ⟨0, List.mem_range.mpr (by omega), by simp⟩

/-! The metadata cache. -/

/-- The cache has marked nodes of a partition, and has used up free values. -/
def State.Marked (t : Nat) (u v : State) : Prop :=
  ∃ d n, v = { u with sec := { u.sec with dirty := d }, fresh := n } ∧ ∀ m ∈ u.sec.dirty, m.part ≠ t → m ∈ d

namespace State.Marked

theorem refl (u : State) : Marked t u u := ⟨u.sec.dirty, u.fresh, rfl, fun _ hm _ => hm⟩

theorem trans (h : Marked t u v) (h' : Marked t v w) : Marked t u w := by
  obtain ⟨d, n, rfl, hd⟩ := h
  obtain ⟨d', n', rfl, hd'⟩ := h'
  exact ⟨d', n', rfl, fun m hm hp => hd' m (hd m hm hp) hp⟩

theorem dirtyNode (u : State) (fn : Option Nat) (l i : Nat) : Marked t u (u.dirtyNode fn t l i) := by
  unfold State.dirtyNode
  extract_lets mine more ws
  split
  · refine ⟨_, u.fresh, rfl, fun m hm hp => List.mem_map.mpr ⟨m, hm, if_neg ?_⟩⟩
    simp [mine, hp]
  · exact ⟨_, u.fresh + 1, rfl, fun m hm _ => List.mem_append_left _ hm⟩

theorem foldl {α : Type} {f : State → α → State} (hf : ∀ v a, Marked t v (f v a)) (l : List α) (h : Marked t u v) :
    Marked t u (l.foldl f v) := by
  induction l generalizing v with
  | nil => exact h
  | cons a l ih => exact ih (h.trans (hf v a))

end State.Marked

/-- The nodes of a line's path as they are marked, before the cache writes any back. -/
def State.pathMarked (u : State) (fn : Option Nat) (t line : Nat) : State :=
  (List.range (u.topLevel t + 1)).foldl (fun s j => s.dirtyNode fn t j (line / 8 ^ (j + 1))) u

theorem State.writeBack_nil (u : State) : u.writeBack (fun m => ([] : List MetaLine).contains m) = u := by
  simp [State.writeBack]

/-- Where no free value lets the cache write a line back, the path is marked and nothing leaves. -/
theorem State.dirtyPath_marked (hfree : ∀ n, Config.free n = 0) (fn : Option Nat) (line : Nat) : State.Marked t u (u.dirtyPath fn t line) := by
  have hmarked : State.Marked t u (u.pathMarked fn t line) := .foldl (fun v j => .dirtyNode v fn j _) _ (.refl u)
  refine hmarked.trans ?_
  unfold State.dirtyPath State.draw
  dsimp only
  rw [hfree, Nat.zero_mod, List.take_zero, State.writeBack_nil]
  exact ⟨_, _, rfl, fun m hm _ => hm⟩

end Sys2Proof.Machine
end

section
/-! SUPPORT. The clauses on lines, and the one that rests on a free value. -/

namespace Sys2Proof.Machine

variable {u v : State} {t line : Nat} {fn : Option Nat} {d : List Word}

/-- The ciphertext of a line that is written, under the version that it takes. -/
def State.newText (u : State) (t line : Nat) (d : List Word) : List Nat :=
  lineCrypt (u.keyOf (cipherSlot t)) (u.ctr t 0 line + 1) line (if t = 8 then Config.regionPart else t) (lineBlocks d)

/-- Its MAC. -/
def State.newMac (u : State) (t line : Nat) (d : List Word) : Word :=
  lineMac (u.keyOf (cipherSlot t)) (u.ctr t 0 line + 1) line (if t = 8 then Config.regionPart else t) (u.newText t line d) 64

/-- What leaves for a line that is written. -/
def State.lineOut (u : State) (t line : Nat) (d : List Word) : Emit :=
  .line t (cipherSlot t) (u.chPlace t (64 * line)).1 (u.chPlace t (64 * line)).2 ((u.newText t line d).map (BitVec.ofNat 128)) (u.newMac t line d)

theorem State.writeLine_eq (hs : u.sec.sat.contains (t, line) = false)
    (hc : (u.treePath t line).any (fun p => 2 ^ 56 - 1 ≤ u.ctr t p.1 p.2) = false) :
    u.writeLine fn t line d = ((u.advance t (u.treePath t line)).emit (u.lineOut t line d)).dirtyPath fn t line := by
  obtain ⟨c, hadv⟩ := u.advance_eq (t := t) (u.treePath t line)
  have hver : (u.advance t (u.treePath t line)).ctr t 0 line = u.ctr t 0 line + 1 :=
    State.ctr_advance_mem (p := (0, line)) State.treePath_nodup State.line_mem_treePath
  have hkey : (u.advance t (u.treePath t line)).keyOf (cipherSlot t) = u.keyOf (cipherSlot t) := by rw [hadv]; rfl
  have hplace : (u.advance t (u.treePath t line)).chPlace t (64 * line) = u.chPlace t (64 * line) := by rw [hadv]; rfl
  unfold State.writeLine
  dsimp only
  rw [if_neg (by rw [hs]; decide), if_neg (by rw [hc]; decide)]
  rw [show (u.treePath t line).foldl (fun s p => s.setCtr t p.1 p.2 (s.ctr t p.1 p.2 + 1)) u = u.advance t (u.treePath t line) from rfl,
    hver, hkey, hplace]
  rfl

theorem State.openLine_bare (l : MemLine) (hn : l.nodes = []) (hs : u.sec.sat.contains (t, line) = false) :
    u.openLine t line l = if u.ctr t 0 line = 0 then ([], List.replicate 8 0)
      else (if lineMac (u.keyOf (cipherSlot t)) (u.ctr t 0 line) line (if t = 8 then Config.regionPart else t) (l.text.map BitVec.toNat) 64
          = l.mac then [] else [(1, line, 0)],
        (lineCrypt (u.keyOf (cipherSlot t)) (u.ctr t 0 line) line (if t = 8 then Config.regionPart else t)
          (l.text.map BitVec.toNat)).flatMap blockWords) := by
  unfold State.openLine
  rw [hn, List.take_nil]
  dsimp only
  rw [List.reverse_nil, List.length_nil, Nat.pow_zero, Nat.div_one, State.checkNodes]
  dsimp only
  rw [if_neg (by rw [hs]; decide), List.map_nil, List.append_nil]

/-- A line that has been written reads as what was written. -/
theorem State.openLine_written (hd : d.length = 8) (hs : v.sec.sat.contains (t, line) = false) (hkey : v.keyOf = u.keyOf)
    (hctr : v.ctr t 0 line = u.ctr t 0 line + 1) :
    v.openLine t line ⟨(u.newText t line d).map (BitVec.ofNat 128), u.newMac t line d, []⟩ = ([], d) := by
  have htext : ((u.newText t line d).map (BitVec.ofNat 128)).map BitVec.toNat = u.newText t line d :=
    toNat_blocks (lineCrypt_lt (lineBlocks_lt d))
  rw [State.openLine_bare _ rfl hs, hctr, hkey, if_neg (Nat.succ_ne_zero _), htext]
  refine Prod.ext (if_pos rfl) ?_
  dsimp only
  rw [State.newText, lineCrypt_lineCrypt]
  exact flatMap_lineBlocks (by rw [hd])

theorem linesReadAsWritten_of_free (hfree : ∀ n, Config.free n = 0) : Obligations.LinesReadAsWritten := by
  unfold Obligations.LinesReadAsWritten
  refine ⟨?_, ?_, ?_, ?_⟩
  · intro u fn t line d v hd hs hc hv
    obtain ⟨c, hadv⟩ := u.advance_eq (t := t) (u.treePath t line)
    have hctr {p : Nat × Nat} (hp : p ∈ u.treePath t line) : (u.advance t (u.treePath t line)).ctr t p.1 p.2 = u.ctr t p.1 p.2 + 1 :=
      State.ctr_advance_mem State.treePath_nodup hp
    obtain ⟨m, n, hmarked, hdirty⟩ :=
      State.dirtyPath_marked (t := t) (u := (u.advance t (u.treePath t line)).emit (u.lineOut t line d)) hfree fn line
    rw [State.writeLine_eq hs hc, hmarked] at hv
    subst hv
    rw [hadv] at hctr hdirty ⊢
    refine ⟨_, _, [], rfl, State.openLine_written hd hs rfl (hctr State.line_mem_treePath), ?_, hdirty, fun _ _ _ _ => rfl,
      fun p hp => hctr hp⟩
    exact fun e he => absurd he List.not_mem_nil
  · intro u t line text mac hs h0
    rw [State.openLine_bare _ rfl hs, if_pos h0]
  · intro u t line text mac ht hs h0 hmac
    have ht8 : t ≠ 8 := Nat.ne_of_lt ht
    rw [State.openLine_bare _ rfl hs, if_neg h0, cipherSlot, if_neg ht8, if_neg ht8]
    exact if_neg (Ne.symm hmac)
  · intro u fn t line d l hs hc
    have hsat : u.writeLine fn t line d = { u with sec := { u.sec with sat := u.sec.sat ++ [(t, line)] } } :=
      (if_neg (by rw [hs]; decide)).trans (if_pos hc)
    rw [hsat]
    refine ⟨rfl, rfl, if_pos ?_⟩
    simp

end Sys2Proof.Machine
end

section
/-! SUPPORT. A cache that writes lines back: a node that leaves is counted, and the counter of a profile may stand where MCI_PART of a stray
partition is read, whose channels then move between two nodes. -/

namespace Sys2Proof.Machine

variable {u v : State}

/-- The dirty line of the stray partition. -/
def strayLine : MetaLine := { part := 26752, level := 0, idx := 8 }

/-- The first profile counts the node writes of channel 0, in a counter that is MCI_PART of partition 26752 and makes channel 0 its only one. -/
def strayRegs : State := (State.reset.setReg .OBS_PCFG 0 0 145).setReg .OBS_CNT 512 0 1

theorem State.topLevel_congr (t : Nat) (hr : v.regs = u.regs) (hs : v.start = u.start) : v.topLevel t = u.topLevel t := by
  simp only [State.topLevel, State.partLines, State.rf_congr hr, hs]

/-- That block with `j + 2` copies of a dirty line and the next free value `n`. -/
def strayCache (j n : Nat) : State :=
  { strayRegs with sec := { dirty := List.replicate (j + 2) strayLine }, fresh := n }

theorem State.nodeChannel_congr (t l i : Nat) (hr : v.regs = u.regs) : v.nodeChannel t l i = u.nodeChannel t l i := by
  simp only [State.nodeChannel, State.chPlace, State.ilv, State.rb_congr hr]

/-- A dirty line is written back. -/
def State.nodeBack (s : State) (m : MetaLine) : State :=
  let c := s.nodeChannel m.part m.level m.idx
  (s.emit (.node m.part (cipherSlot m.part) c m.level m.idx (s.treeNode m.part m.level m.idx))).when (m.part ≠ 8)
    (fun s => s.count (145 + 2 * c) 64)

theorem State.nodeBack_out (m : MetaLine) : (u.nodeBack m).out = u.out ++
    [.node m.part (cipherSlot m.part) (u.nodeChannel m.part m.level m.idx) m.level m.idx (u.treeNode m.part m.level m.idx)] := by
  unfold State.nodeBack State.when
  dsimp only
  split
  · exact State.count_out
  · rfl

theorem State.cntAdd1_congr (i k : Nat) (hr : v.regs = u.regs) : (v.cntAdd1 i k).regs = (u.cntAdd1 i k).regs := by
  simp only [State.cntAdd1, State.setReg, State.reg, hr]

theorem State.count_congr (i k : Nat) (x : Who3) (hr : v.regs = u.regs) : (v.count i k x).regs = (u.count i k x).regs := by
  have hfold (js : List Nat) {v u : State} (h : v.regs = u.regs) :
      (js.foldl (fun s j => s.cntAdd1 (512 + j) k) v).regs = (js.foldl (fun s j => s.cntAdd1 (512 + j) k) u).regs := by
    induction js generalizing v u with
    | nil => exact h
    | cons j js ih => exact ih (State.cntAdd1_congr _ k h)
  have hstop : v.gstopped = u.gstopped := State.rb_congr hr
  have hhits : v.pcfgHits i x = u.pcfgHits i x := by rw [State.pcfgHits, State.pcfgHits, hr]
  unfold State.count
  rw [hstop, hhits]
  split
  · exact hr
  · exact hfold _ (State.cntAdd1_congr i k hr)

theorem State.nodeBack_congr (m : MetaLine) (hr : v.regs = u.regs) : (v.nodeBack m).regs = (u.nodeBack m).regs := by
  have hch := State.nodeChannel_congr m.part m.level m.idx hr
  unfold State.nodeBack State.when
  dsimp only
  rw [hch]
  split
  · exact State.count_congr _ _ _ hr
  · exact hr

theorem State.foldl_nodeBack_out (l : List MetaLine) : ∃ more, (l.foldl State.nodeBack u).out = u.out ++ more := by
  induction l generalizing u with
  | nil => exact ⟨[], (List.append_nil _).symm⟩
  | cons m l ih =>
    obtain ⟨more, h⟩ := ih (u := u.nodeBack m)
    exact ⟨_, by rw [List.foldl_cons, h, State.nodeBack_out, List.append_assoc]⟩

theorem State.writeBack_replicate {m : MetaLine} {j k : Nat} (hd : u.sec.dirty = List.replicate k m) :
    u.writeBack (fun x => (List.replicate (j + 1) m).contains x) =
      (List.replicate k m).foldl State.nodeBack { u with sec := { u.sec with dirty := [] } } := by
  have hm : (List.replicate (j + 1) m).contains m = true := by simp
  have hout : (List.replicate k m).filter (fun x => (List.replicate (j + 1) m).contains x) = List.replicate k m :=
    List.filter_replicate_of_pos hm
  have hleft : (List.replicate k m).filter (fun x => !(List.replicate (j + 1) m).contains x) = [] :=
    List.filter_replicate_of_neg (by rw [hm]; decide)
  unfold State.writeBack
  rw [hd, hout, hleft]
  rfl

/-- A request of no function leaves a line that is dirty already as it was. -/
theorem State.dirtyNode_replicate {m : MetaLine} {k : Nat} (hd : u.sec.dirty = List.replicate (k + 1) m) :
    u.dirtyNode none m.part m.level m.idx = u := by
  unfold State.dirtyNode
  extract_lets mine more ws
  have hany : u.sec.dirty.any mine = true := by
    rw [hd, List.replicate_succ, List.any_cons]
    simp [mine]
  have hmore : more m = m := by simp [more]
  have hmap : u.sec.dirty.map (fun x => if mine x then more x else x) = u.sec.dirty := by
    rw [hd, List.map_replicate, hmore, ite_self]
  rw [if_pos hany, hmap]

/-- The stray cache as its line 64 has left, before nodes are written back. -/
def strayLeft (j n : Nat) (e : Emit) : State := ((strayCache j n).advance 26752 [(0, 64), (1, 8)]).emit e

/-- Its dirty lines are on their way. -/
def strayTaken (j n : Nat) (e : Emit) : State :=
  { strayLeft j n e with sec := { (strayLeft j n e).sec with dirty := [] }, fresh := n + 1 }

theorem strayLeft_dirtyPath {j n : Nat} (e : Emit) (hj : Config.free n = j + 1) : (strayLeft j n e).dirtyPath none 26752 64 =
    (List.replicate (j + 2) strayLine).foldl State.nodeBack (strayTaken j n e) := by
  have hdirty : (strayLeft j n e).sec.dirty = List.replicate (j + 2) strayLine := rfl
  have hpath : (strayLeft j n e).dirtyNode none 26752 0 (64 / 8 ^ (0 + 1)) = strayLeft j n e := State.dirtyNode_replicate hdirty
  have htop : (strayLeft j n e).topLevel 26752 = 0 := (State.topLevel_congr (u := strayRegs) 26752 rfl rfl).trans (by decide)
  have hmine : (List.replicate (j + 2) strayLine).filter (fun m => m.part == 26752) = List.replicate (j + 2) strayLine :=
    List.filter_replicate_of_pos rfl
  have htake : (Config.free n) % (j + 2 + 1) = j + 1 := by
    rw [hj]
    exact Nat.mod_eq_of_lt (by omega)
  unfold State.dirtyPath
  rw [htop, List.range_one, List.foldl_cons, List.foldl_nil, hpath]
  unfold State.draw
  dsimp only
  rw [hdirty, hmine, show (strayLeft j n e).fresh = n from rfl, List.length_replicate, htake, List.take_replicate, Nat.min_eq_left (by omega)]
  exact State.writeBack_replicate hdirty

/-- Where a free value is not zero, two nodes may leave, the second to a channel that the first has moved. -/
theorem not_linesReadAsWritten_of_free {n : Nat} (hfree : Config.free n ≠ 0) : ¬ Obligations.LinesReadAsWritten := by
  intro h
  obtain ⟨j, hj⟩ := Nat.exists_eq_succ_of_ne_zero hfree
  have hpath : (strayCache j n).treePath 26752 64 = [(0, 64), (1, 8)] := by
    rw [State.treePath, State.topLevel_congr (u := strayRegs) (v := strayCache j n) 26752 rfl rfl]
    decide
  have hctr : ((strayCache j n).treePath 26752 64).any (fun p => 2 ^ 56 - 1 ≤ (strayCache j n).ctr 26752 p.1 p.2) = false := by
    rw [hpath]
    rfl
  obtain ⟨text, mac, rest, hout, -, hnodes, -⟩ := h.1 (strayCache j n) none 26752 64 (List.replicate 8 0) _ rfl rfl hctr rfl
  obtain ⟨e, he⟩ : ∃ e, e = (strayCache j n).lineOut 26752 64 (List.replicate 8 0) := ⟨_, rfl⟩
  obtain ⟨more, hmore⟩ := State.foldl_nodeBack_out (u := ((strayTaken j n e).nodeBack strayLine).nodeBack strayLine) (List.replicate j strayLine)
  have hline : (strayCache j n).writeLine none 26752 64 (List.replicate 8 0) =
      (List.replicate j strayLine).foldl State.nodeBack (((strayTaken j n e).nodeBack strayLine).nodeBack strayLine) := by
    rw [State.writeLine_eq rfl hctr, hpath, ← he]
    exact strayLeft_dirtyPath e hj
  have hmoved : ((strayTaken j n e).nodeBack strayLine).nodeChannel 26752 0 8 = 6 :=
    (State.nodeChannel_congr (u := strayRegs.nodeBack strayLine) (v := (strayTaken j n e).nodeBack strayLine) 26752 0 8
      (State.nodeBack_congr strayLine rfl)).trans (by decide)
  have hstood : (strayCache j n).nodeChannel 26752 0 8 = 0 :=
    (State.nodeChannel_congr (u := strayRegs) (v := strayCache j n) 26752 0 8 rfl).trans (by decide)
  have hrest : rest = .node 26752 26752 ((strayTaken j n e).nodeChannel 26752 0 8) 0 8 ((strayTaken j n e).treeNode 26752 0 8)
      :: .node 26752 26752 (((strayTaken j n e).nodeBack strayLine).nodeChannel 26752 0 8) 0 8
        (((strayTaken j n e).nodeBack strayLine).treeNode 26752 0 8) :: more := by
    rw [hline, hmore, State.nodeBack_out, State.nodeBack_out] at hout
    exact (List.cons.inj hout).2.symm
  obtain ⟨l, i, hnode⟩ := hnodes _ (hrest ▸ List.mem_cons_of_mem _ List.mem_cons_self)
  rw [hmoved] at hnode
  obtain ⟨-, -, hch, hl, hi, -⟩ := Emit.node.inj hnode
  rw [← hl, ← hi, hstood] at hch
  exact absurd hch (by decide)

/-- Why O48 is settled neither way: it says that every free value is zero, and `Config.free` is a constant without a body. -/
theorem linesReadAsWritten_iff_free : Obligations.LinesReadAsWritten ↔ ∀ n, Config.free n = 0 :=
  ⟨fun h _ => by_contra fun hn => not_linesReadAsWritten_of_free hn h, linesReadAsWritten_of_free⟩

end Sys2Proof.Machine
end
